-- ==== Sys2Proof/Word.lean ====
section
/-!
DEFINITION. The word types of the block and their plainest arithmetic: bytes, 32-bit register words, and
little-endian byte strings (R6).
-/

namespace Sys2Proof

/-- A byte of host memory, of a frame or of a stored structure. -/
abbrev Byte := BitVec 8

/-- A 32-bit register word. -/
abbrev W32 := BitVec 32

/-- A byte string, byte 0 first. -/
abbrev Bytes := List Byte

/-- The value of a little-endian byte string (R6). -/
def Bytes.toNat : Bytes → Nat
  | [] => 0
  | b :: bs => BitVec.toNat b + 256 * Bytes.toNat bs

/-- The `n` low bytes of `v`, byte 0 first (R6). -/
def bytesLE : Nat → Nat → Bytes
  | 0, _ => []
  | n + 1, v => BitVec.ofNat 8 v :: bytesLE n (v / 256)

/-- `n` bytes of a byte string from byte `off`, as a number. -/
def u (b : Bytes) (off n : Nat) : Nat := Bytes.toNat ((b.drop off).take n)

/-- Bits `hi` down to `lo` of a number. -/
def bits (v hi lo : Nat) : Nat := v / 2 ^ lo % 2 ^ (hi + 1 - lo)

/-- Bit `i` of a number. -/
def bit (v i : Nat) : Bool := v / 2 ^ i % 2 == 1

/-- 1 for true, 0 for false. -/
def b2n (b : Bool) : Nat := if b then 1 else 0

end Sys2Proof
end

