-- ==== Sys2Proof/Syntax.lean ====
section
/-!
DEFINITION. The commands the block takes from outside: a write or read on one of its ports, a beat, response or message
of one of its interfaces, a pin event, a received bit or frame, and the expiry of each of its timers.
Errors that an event meets are operands whose default is none.
-/

namespace Sys2Proof

/-- A control-port master: CPA, CPB, the steward and the debug port. -/
inductive Master where
  | cpa | cpb | stw | dbg
  deriving DecidableEq, Repr
/-- Code of a master (PAGE_ACCESS MASTER). -/
def Master.code : Master → Nat
  | .cpa => 0
  | .cpb => 1
  | .stw => 2
  | .dbg => 3

/-- An admin entry (spec/10): its ring position and its 64 bytes, byte 0 in bits 7:0. -/
structure AdmEntry where
  pos : Nat
  raw : BitVec 512
  deriving DecidableEq, Repr

/-- What a READY names (R489): the structure and its slot and, for a completion, the submission entry it reports. -/
inductive RdyRef where
  /-- Completion queue, slot; submission queue and position of the entry. -/
  | cpl (c slot q pos : Nat)
  /-- Admin pair, slot of its completion ring, position of the admin entry. -/
  | adm (p slot pos : Nat)
  /-- Sillage queue, slot. -/
  | sil (q slot : Nat)
  /-- General channel, position of the descriptor. -/
  | te (ch pos : Nat)
  /-- Accord dump slot. -/
  | dump (slot : Nat)
  deriving DecidableEq, Repr

/-- A journal record (R488). The spec fixes the content of a record, not its coding in flits. -/
inductive JRec where
  /-- READY (R489): its number and what it names. -/
  | ready (id : Nat) (ref : RdyRef)
  /-- CONFIG: a register write that took effect, by aperture byte address. -/
  | config (addr : Nat) (data : BitVec 32)
  /-- COMMAND: the effect of an admin command of pair `p`, with the data it has read. -/
  | command (p : Nat) (e : AdmEntry) (data : Bytes)
  /-- An admin entry accepted by the active, for R494 step 3. -/
  | accepted (p : Nat) (e : AdmEntry)
  /-- TABLE: a change by content: operation, key, target, meter, action, static. -/
  | table (op : Nat) (key : BitVec 80) (target meter action : Nat) (static : Bool)
  /-- COUNTER: counter deltas. -/
  | counter (deltas : List (Nat × Nat))
  /-- A snapshot record (R497): its kind, the index of what it copies, and the contents. -/
  | snap (kind key : Nat) (vals : List Nat)
  deriving DecidableEq, Repr

/-- What a DMP flit carries (R79, R80, R487, R489 to R497). -/
inductive FlitBody where
  | heartbeat
  | journal (seq : Nat) (r : JRec)
  | resend (seq : Nat)
  /-- The flip of READY `id` has its write response (R490), with B_ERR or without (R65). -/
  | flipped (id : Nat) (err : Bool)
  /-- The release that READY `id` named has failed (R65). -/
  | releaseFailed (ref : RdyRef)
  | takeover
  | fenced
  | fatal
  | cutover
  deriving DecidableEq, Repr

/-- A DMP flit, showing its sender's role (0 SINGLE, 1 ACTIVE, 2 STANDBY; R496) and pair state. -/
structure Flit where
  role : Nat
  pair : Nat
  body : FlitBody
  deriving DecidableEq, Repr


/-- A command: one constructor per row of the spec's table of operations and events, with what the outside brings as its
operands. Numbers whose range the spec bounds are checked in WellFormed. -/
inductive Instr where
  /-- SUPPLY_WARNING (R41): A supply stays below 95 % of nominal for 1 µs, and the block raises the power-fail warning
  source. -/
  | supplyWarning
  /-- SUPPLY_COLLAPSE (R41): A supply falls below 90 % of nominal, and every output is driven to its reset value
  within 100 ns. -/
  | supplyCollapse
  /-- SUPPLY_RECOVER (R41): Both supplies recover after a collapse, and the block behaves as after a cold reset. -/
  | supplyRecover
  /-- COLD_RESET_ASSERT (R42): RST_N falls, and every port takes its reset behaviour. -/
  | coldResetAssert
  /-- COLD_RESET_RELEASE (R44): RST_N rises, the straps are latched into the GL page, and the cold reset sequence
  begins. Operands: `prof` the level of PROFILE_SEL; `duo` the level of DUO_ROLE. -/
  | coldResetRelease (prof duo : Nat)
  /-- FUSE_SHADOW_LOAD (R463): The fuse shadow is loaded and the access tables take their fuse defaults. Operands:
  `words` the words of the fuse array that are not 0, by number and value. -/
  | fuseShadowLoad (words : List (Nat × Nat))
  /-- STEWARD_ROM_START (R458): The steward PLL locks, the ROM runs and reads the BCB, chooses a slot and starts a
  load. -/
  | stewardRomStart
  /-- WARM_RESET_ASSERT (R46): WARM_RST_N falls for 100 ns or more, every island except AON and the steward resets,
  and READY falls. -/
  | warmResetAssert
  /-- WARM_RESET_RELEASE (R47): WARM_RST_N rises, and the block reapplies the cold-reset profile without sampling the
  straps again. -/
  | warmResetRelease
  /-- PROFILE_APPLY (R107): The strap-selected profile, or the null layout if it is not valid, is applied and READY
  may rise. -/
  | profileApply
  /-- PRESENCE_DEBOUNCED (R51): PRESENCE_IN has been stable for 10 ms, so the debounced level changes; a rising level
  raises the presence source. Operands: `level` the level of PRESENCE. -/
  | presenceDebounced (level : Bool)
  /-- WAKE_IN_WAKE (R52): A rising edge of WAKE_IN that stays high for 1 µs starts a cold boot from OFF or a wake from
  SLEEP or DEEP. -/
  | wakeInWake
  /-- CONTROL_REQUEST_ACCEPT (R54): A control-port request is accepted, checked against the aperture and the access
  table, and queued towards its island. Operands: `m` the master whose access it is; `write` a write; `addr` the
  byte address in the aperture; `data` the value written. -/
  | controlRequestAccept (m : Master) (write : Bool) (addr : BitVec 26) (data : W32)
  /-- CONTROL_REQUEST_DISPATCH (R57): A queued control request enters the crossing once its island can take it, and is
  answered within 1 µs. Operands: `m` the master whose access it is. -/
  | controlRequestDispatch (m : Master)
  /-- CONTROL_REQUEST_TIMEOUT (R57): A control request that has waited 100 µs is withdrawn and answered with TIMEOUT.
  Operands: `m` the master whose access it is. -/
  | controlRequestTimeout (m : Master)
  /-- STALLED_ACCESS_RESUME (R98): An access stalled under IDLE or PAGE_AUTOWAKE completes once its island reaches
  RUN, or with OFF if the wake falls back. Operands: `m` the master whose access it is. -/
  | stalledAccessResume (m : Master)
  /-- REGISTER_WRITE (R95): A write to a register that has no behaviour of its own takes effect after the rights,
  lock, presence and value checks. Operands: `m` the master whose access it is; `addr` the byte address in the
  aperture; `data` the value written. -/
  | registerWrite (m : Master) (addr : BitVec 26) (data : W32)
  /-- PAGE_ACCESS_CLEAR (R87): A write of CLEAR sets PAGE_ACCESS to 0. Operands: `m` the master whose access it is;
  `pg` the page. -/
  | pageAccessClear (m : Master) (pg : BitVec 8)
  /-- PAGE_LOCK (R88): A write of LOCK makes the page's once fields and access table read-only until cold reset.
  Operands: `m` the master whose access it is; `pg` the page. -/
  | pageLock (m : Master) (pg : BitVec 8)
  /-- PAGE_ACL_WRITE (R89): A steward write of PAGE_ACL changes the page's rights; writes from other masters are
  refused. Operands: `m` the master whose access it is; `pg` the page; `data` the value written. -/
  | pageAclWrite (m : Master) (pg : BitVec 8) (data : W32)
  /-- GL_WINACL_WRITE (R111): A steward write of GL_WINACL changes the window rights; writes from other masters are
  refused. Operands: `m` the master whose access it is; `data` the value written. -/
  | glWinaclWrite (m : Master) (data : W32)
  /-- HOSTCFG_WRITE (R110): A write of GL_HOSTCFG changes DBL_READ, unless a queue, pair, channel or dump exists.
  Operands: `m` the master whose access it is; `data` the value written. -/
  | hostcfgWrite (m : Master) (data : W32)
  /-- FLAG_SET_ALIAS (R93): A write at a set alias sets the flag bits written as 1, except sticky bits. Operands: `m`
  the master whose access it is; `pg` the page; `word` the flag word; `data` the value written. -/
  | flagSetAlias (m : Master) (pg word : BitVec 8) (data : W32)
  /-- FLAG_CLEAR_ALIAS (R94): A write at a clear alias clears the flag bits written as 1; a simultaneous hardware set
  wins. Operands: `m` the master whose access it is; `pg` the page; `word` the flag word; `data` the value
  written; `hw` the bits the hardware sets in the same cycle. -/
  | flagClearAlias (m : Master) (pg word : BitVec 8) (data hw : W32)
  /-- REG64_LOW_READ (R96): A read of a 64-bit register's low word copies the high word into the master's shadow.
  Operands: `m` the master whose access it is; `addr` the byte address in the aperture. -/
  | reg64LowRead (m : Master) (addr : BitVec 26)
  /-- REG64_LOW_WRITE (R96): A write of a 64-bit register's low word is staged for the master and changes nothing yet.
  Operands: `m` the master whose access it is; `addr` the byte address in the aperture; `data` the value written. -/
  | reg64LowWrite (m : Master) (addr : BitVec 26) (data : W32)
  /-- REG64_HIGH_WRITE (R96): A write of a 64-bit register's high word writes both words together. Operands: `m` the
  master whose access it is; `addr` the byte address in the aperture; `data` the value written. -/
  | reg64HighWrite (m : Master) (addr : BitVec 26) (data : W32)
  /-- SEM_CLAIM (R100): A non-zero token written while the semaphore is free claims it. Operands: `m` the master whose
  access it is; `n` the semaphore; `token` the token. -/
  | semClaim (m : Master) (n : BitVec 6) (token : BitVec 16)
  /-- SEM_RELEASE (R101): A release by the holding master with the held token frees the semaphore. Operands: `m` the
  master whose access it is; `n` the semaphore; `token` the token. -/
  | semRelease (m : Master) (n : BitVec 6) (token : BitVec 16)
  /-- SEM_FORCE (R101): A steward write with FORCE = 1 frees the semaphore, whoever holds it. Operands: `m` the master
  whose access it is; `n` the semaphore. -/
  | semForce (m : Master) (n : BitVec 6)
  /-- DOORBELL (R60): A doorbell on DBP is accepted, checked against its window and handle, and requests a scan or a
  credit scan and arm. Operands: `f` the function; `addr` bits 23:3 of its address. -/
  | doorbell (f addr : Nat)
  /-- DOORBELL_VIA_CONTROL_PORT (R58): A control-port write to a doorbell window is taken as a doorbell of the
  window's function. Operands: `m` the master whose access it is; `f` the function; `h` the handle. -/
  | doorbellViaControlPort (m : Master) (f : BitVec 12) (h : BitVec 9)
  /-- HMP_READ_BEAT (R62): A read beat arrives on a host memory port and its data is used; an R_ERR beat ends the
  request. Operands: `port` the host memory port; `tag` the request; `data` the 128 bytes; `gv` the halves that
  are valid; `last` the last beat; `err` R_ERR. -/
  | hmpReadBeat (port tag : Nat) (data : BitVec 1024) (gv : Nat) (last err : Bool)
  /-- HMP_WRITE_RESPONSE (R65): A write response arrives, freeing the tag and letting writes that wait on it proceed;
  B_ERR reports HOST_WRITE_ERROR. Operands: `port` the host memory port; `tag` the request; `err` B_ERR. -/
  | hmpWriteResponse (port tag : Nat) (err : Bool)
  /-- TRANSLATION_RESPONSE (R73): A translation response fills the cache, or gives DENIED, or FAULT that makes a hold
  and a page request. Operands: `tag` the request; `pa` the physical page number; `size` the logarithm of the page
  size in 4 KiB; `status` 0 OK, 1 FAULT, 2 DENIED. -/
  | translationResponse (tag pa size status : Nat)
  /-- PAGE_RESPONSE (R336): A page response arrives; PRS_OK = 1 translates again, and PRS_OK = 0 completes the waiting
  work with TRANSLATION_FAULT. Operands: `id` the page request; `ok` success. -/
  | pageResponse (id : Nat) (ok : Bool)
  /-- PAGE_REQUEST_TIMEOUT (R337): A page request unanswered after PRQ_TIMEOUT is treated as PRS_OK = 0. Operands:
  `id` the page request. -/
  | pageRequestTimeout (id : Nat)
  /-- TRP_INVALIDATION (R74): An invalidation is accepted on TRP and removes the cache entries in its range. Operands:
  `func` the function; `page` the page number; `size` the logarithm of the range in pages. -/
  | trpInvalidation (func page size : Nat)
  /-- TRP_INVALIDATION_DONE (R74): Requests using the removed entries have completed, and TRP_INV_DONE pulses. -/
  | trpInvalidationDone
  /-- TR_INV_START (R338): A write of TR_INV START invalidates the cache entries of a function or of every function.
  Operands: `m` the master whose access it is; `all` every function; `func` the function. -/
  | trInvStart (m : Master) (all : Bool) (func : Nat)
  /-- TR_INV_DONE (R338): A software invalidation finishes and BUSY falls. -/
  | trInvDone
  /-- NFP_MESSAGE_ACCEPT (R75): The host chip accepts a notify message, and the next message may be raised. -/
  | nfpMessageAccept
  /-- TARGET_IDLE_RISE (R397): TARGET_IDLE of a target rises, and its moderating queues raise their messages within 20
  ns. Operands: `t` the target; `levels` the levels of TARGET_IDLE. -/
  | targetIdleRise (t : BitVec 6) (levels : BitVec 64)
  /-- PPS_IN_EDGE (R410): A rising edge of TB_PPS_IN captures block time, and it loads the shifted-in time of day if
  TOD_ARM is 1. -/
  | ppsInEdge
  /-- PPS_OUT_PULSE (R77): Block time reaches a whole second, TB_PPS_OUT rises, and the TB_PULSE source fires. -/
  | ppsOutPulse
  /-- REF_PHASE_SAMPLE (R410): At each whole millisecond the block writes TB_REF_PHASE from the next TB_REF edge.
  Operands: `v` the signed offset in 2^-16 ns. -/
  | refPhaseSample (v : Nat)
  /-- REF_LOSS (R410): No TB_REF edge arrives in 1 ms while REF_SEL is not 0, and REF_LOSS is set. -/
  | refLoss
  /-- PPS_MISSING (R410): TOD_ARM is set and no TB_PPS_IN edge arrives for 1.1 s, and PPS_MISSING is set. -/
  | ppsMissing
  /-- DMP_FLIT_RECEIVE (R80): A DMP flit arrives; it is ECC-checked, applied or dropped, and its credit returned.
  Operands: `f` the flit; `eccBad` an uncorrectable ECC error; `corr` and `fatal` the errors that a table change of it meets, as
  for AGE_STEP. -/
  | dmpFlitReceive (f : Flit) (eccBad : Bool) (corr : Nat := 0) (fatal : List Nat := [])
  /-- DMP_CREDIT (R79): A DMP credit pulse returns one flit credit, with the partner's acknowledgement. Operands:
  `ack` the sequence number the partner acknowledges; `corr` and `fatal` the errors that a table change which waited for it
  meets, as for AGE_STEP. -/
  | dmpCredit (ack : W32) (corr : Nat := 0) (fatal : List Nat := [])
  /-- DMP_HEARTBEAT_SEND (R79): The block has sent nothing on DMP for 1 µs, so it sends a heartbeat flit. -/
  | dmpHeartbeatSend
  /-- DMP_CREDIT_STARVATION (R79): Flits wait for 1 ms with no credit, and the block treats this as heartbeat loss. -/
  | dmpCreditStarvation
  /-- TAP_INSTRUCTION (R81): The test access port executes an instruction; before debug unlock only four instructions
  act. Operands: `code` 0 BYPASS, 1 IDCODE, 2 SAMPLE/PRELOAD, 3 EXTEST, other numbers other instructions. -/
  | tapInstruction (code : Nat)
  /-- LOAD_PROFILE (R108): The admin command applies another valid profile, changing only what differs. Operands: `p`
  the admin pair, 0 for pair 1 and 1 for pair 2; `e` its 64 bytes and its position. -/
  | loadProfile (p : Nat) (e : AdmEntry)
  /-- LOAD_PROFILE_DONE (R109): Every change of a LOAD_PROFILE has been applied; LOADING falls and the command
  completes. -/
  | loadProfileDone
  /-- PORT_ENABLE (R123): An enabled port with HOLD = 0 whose lanes are in RUN leaves DISABLED for AN, TRAIN or ALIGN.
  Operands: `p` the port. -/
  | portEnable (p : Nat)
  /-- AN_AGREED (R123): Auto-negotiation agrees speed and FEC, and the port enters TRAIN. Operands: `p` the port. -/
  | anAgreed (p : Nat)
  /-- AN_NO_COMMON (R123): The peer's abilities show no common speed or an FEC mismatch; AN_RESULT is set and AN
  continues. Operands: `p` the port; `fec` an FEC mismatch. -/
  | anNoCommon (p : Nat) (fec : Bool)
  /-- TRAIN_DONE (R123): Every lane is trained, its coefficients are written to LN_TXEQ, and the port enters ALIGN.
  Operands: `p` the port, or 64 + n for the slotted or spare lane Ln (R115); `eqs` the trained coefficients of its lanes
  in ascending logical order; `pre` the precoding of its lanes. -/
  | trainDone (p : Nat) (eqs : List Nat) (pre : List Bool)
  /-- TRAIN_TIMEOUT (R123): TRAIN_TO expires, TRAIN_FAIL is set on each untrained lane, and the port enters RETRY.
  Operands: `p` the port; `mask` the lanes of the port that are untrained. -/
  | trainTimeout (p mask : Nat)
  /-- ALIGN_LOCK (R123): Every lane has block and marker lock; within the skew limit the port goes UP, otherwise
  SKEW_FAIL and RETRY. Operands: `p` the port, or 64 + n for the slotted lane Ln; `skewPs` the receive
  skew in picoseconds. -/
  | alignLock (p skewPs : Nat)
  /-- ALIGN_TIMEOUT (R123): 10 ms pass in ALIGN without lock, and the port enters RETRY. Operands: `p` the port. -/
  | alignTimeout (p : Nat)
  /-- LINK_LOSS (R123): An UP port loses signal, block lock or marker lock, or declares high BER; its link goes down
  and it enters RETRY. Operands: `p` the port, or 64 + n for the slotted lane Ln; `lane` the lane of the port; `what` the
  losses: bit 0 signal, 1 CDR lock, 2 block lock, 3 marker lock, 4 high BER. -/
  | linkLoss (p lane what : Nat)
  /-- RETRY_HOLD_EXPIRY (R123): RETRY_HOLD elapses and the port restarts in AN, TRAIN or ALIGN. Operands: `p` the
  port. -/
  | retryHoldExpiry (p : Nat)
  /-- PORT_DISABLE (R123): HOLD is set, the port is disabled or substitution step 2 runs; the transmitters idle and
  the port enters DISABLED. Operands: `p` the port. -/
  | portDisable (p : Nat)
  /-- FAULT_DECLARE (R125): Four fault ordered sets of one kind arrive close together, and RX_FAULT becomes LOCAL or
  REMOTE. Operands: `p` the port; `remote` a remote fault. -/
  | faultDeclare (p : Nat) (remote : Bool)
  /-- FAULT_CLEAR (R125): 128 columns pass without a fault ordered set, and the fault clears. Operands: `p` the port. -/
  | faultClear (p : Nat)
  /-- FEC_DEG_WINDOW_END (R126): A window of 2^20 codewords ends, and FEC-degraded is entered or left by the
  corrected-symbol count. Operands: `p` the port; `corr` the corrected codewords; `uncorr` the uncorrectable
  codewords; `syms` the corrected symbols of each lane, by FEC lane. -/
  | fecDegWindowEnd (p corr uncorr : Nat) (syms : List (Nat × Nat))
  /-- BYPASS_ALIGN_LOCK (R120): Two alignment blocks arrive at the exact spacing, and the lane is in alignment lock.
  Operands: `n` the physical lane. -/
  | bypassAlignLock (n : Nat)
  /-- BYPASS_ALIGN_LOSS (R120): Four expected positions pass without a valid alignment block, and the lane loses lock.
  Operands: `n` the physical lane. -/
  | bypassAlignLoss (n : Nat)
  /-- HIGH_BER (R120): 97 invalid sync headers occur on a lane within 125 µs, and high BER is declared. Operands: `n`
  the physical lane. -/
  | highBer (n : Nat)
  /-- RECAL_TIMER (R128): CAL_PERIOD ends with CAL_AUTO = 1, and a recalibration of the lane is requested. Operands:
  `n` the physical lane. -/
  | recalTimer (n : Nat)
  /-- RECAL_THERMAL (R128): The lane's die temperature has moved 10 °C since its last recalibration, and a
  recalibration is requested. Operands: `n` the physical lane; `temp` the die temperature, a signed byte. -/
  | recalThermal (n temp : Nat)
  /-- CAL_REQ (R128): A write of CAL_REQ requests a recalibration, pending until the port is UP. Operands: `m` the
  master whose access it is; `n` the physical lane; `data` the value written. -/
  | calReq (m : Master) (n : Nat) (data : W32)
  /-- RECAL_DONE (R127): A live recalibration finishes, CAL_DONE is set and CAL_COUNT advances. Operands: `n` the
  physical lane; `temp` the die temperature, a signed byte. -/
  | recalDone (n temp : Nat)
  /-- LANE_TEST_WRITE (R131): A write of LN_CTRL TEST puts an OFF or SPARE lane in role TEST, or returns it to its
  prior role. Operands: `m` the master whose access it is; `n` the physical lane; `data` the value written. -/
  | laneTestWrite (m : Master) (n : Nat) (data : W32)
  /-- EYE_REFRESH (R470): Every 10 ms while CDR_LOCK is 1 the block refreshes LN_EYE and checks the eye thresholds.
  Operands: `n` the physical lane; `h` the eye height; `w` the eye width. -/
  | eyeRefresh (n h w : Nat)
  /-- LANE_SUBST_START (R307): LANE_SUBST START begins a lane substitution onto a spare. Operands: `p` the admin pair,
  0 for pair 1 and 1 for pair 2; `e` its 64 bytes and its position. -/
  | laneSubstStart (p : Nat) (e : AdmEntry)
  /-- LANE_SUBST_PARK (R307): LANE_SUBST PARK parks a substitution between steps. Operands: `p` the admin pair, 0 for
  pair 1 and 1 for pair 2; `e` its 64 bytes and its position. -/
  | laneSubstPark (p : Nat) (e : AdmEntry)
  /-- LANE_SUBST_RESUME (R307): LANE_SUBST RESUME continues a parked substitution. Operands: `p` the admin pair, 0 for
  pair 1 and 1 for pair 2; `e` its 64 bytes and its position. -/
  | laneSubstResume (p : Nat) (e : AdmEntry)
  /-- LANE_SUBST_CANCEL (R307): LANE_SUBST CANCEL before step 4 commits restores the prior map and completes ABORTED.
  Operands: `p` the admin pair, 0 for pair 1 and 1 for pair 2; `e` its 64 bytes and its position. -/
  | laneSubstCancel (p : Nat) (e : AdmEntry)
  /-- LANE_SUBST_STEP_DONE (R129): A substitution step completes and the next step starts; step 5 retires the old lane
  and sets SUBST_DONE. Operands: `n` the physical lane that is substituted. -/
  | laneSubstStepDone (n : Nat)
  /-- OVERHEAD_RECEIVE (R144): A member receives an overhead block, drives its alignment state, and takes its fields
  for defects, pages and joins. Operands: `n` the physical lane; `hdr` the sync header of the block; `pos` its
  position in the lane's stream; `skewPs` the skew against the earliest member in picoseconds; `b` its eight
  bytes. -/
  | overheadReceive (n hdr pos skewPs : Nat) (b : List Byte)
  /-- LOS_DECLARE (R146): A member's lane signal, CDR or FEC lock stays at 0 for 1 µs, and LOS is declared. Operands:
  `n` the physical lane; `what` what is 0: bit 0 signal, 1 CDR lock, 3 FEC alignment lock. -/
  | losDeclare (n what : Nat)
  /-- LOS_CLEAR (R146): All three lane indications stay at 1 for 100 µs, and LOS clears. Operands: `n` the physical
  lane. -/
  | losClear (n : Nat)
  /-- MAP_CYCLE_RECEIVED (R149): A complete map cycle is received; it drives map mismatch, matching cycles and FOLLOW.
  Operands: `g` the slot group. -/
  | mapCycleReceived (g : Nat)
  /-- SWITCH_TX_FRAME0 (R154): The end's own transmit frame 0 raises SW_REQ in ARMING, or commits TX_PAGE in ACKED.
  Operands: `g` the slot group; `ackSent` SW_ACK has been sent in at least one complete slot frame. -/
  | switchTxFrame0 (g : Nat) (ackSent : Bool)
  /-- SWITCH_TIMEOUT (R155): SW_TIMEOUT expires and the switch completes with a failure code. Operands: `g` the slot
  group. -/
  | switchTimeout (g : Nat)
  /-- PAGE_SWITCH_START (R306): PAGE_SWITCH START starts a connection-page switch of the group. Operands: `p` the
  admin pair, 0 for pair 1 and 1 for pair 2; `e` its 64 bytes and its position. -/
  | pageSwitchStart (p : Nat) (e : AdmEntry)
  /-- PAGE_SWITCH_PARK (R306): PAGE_SWITCH PARK parks a switch in ARMING or REQ. Operands: `p` the admin pair, 0 for
  pair 1 and 1 for pair 2; `e` its 64 bytes and its position. -/
  | pageSwitchPark (p : Nat) (e : AdmEntry)
  /-- PAGE_SWITCH_RESUME (R306): PAGE_SWITCH RESUME returns a parked switch to ARMING. Operands: `p` the admin pair, 0
  for pair 1 and 1 for pair 2; `e` its 64 bytes and its position. -/
  | pageSwitchResume (p : Nat) (e : AdmEntry)
  /-- PAGE_SWITCH_CANCEL (R306): PAGE_SWITCH CANCEL ends an uncommitted switch with ABORTED. Operands: `p` the admin
  pair, 0 for pair 1 and 1 for pair 2; `e` its 64 bytes and its position. -/
  | pageSwitchCancel (p : Nat) (e : AdmEntry)
  /-- CM_DATA_WRITE (R153): A write of OS_CM_DATA changes a connection-memory entry of the standby page, unless
  refused. Operands: `m` the master whose access it is; `g` the slot group; `data` the value written. -/
  | cmDataWrite (m : Master) (g : Nat) (data : W32)
  /-- CM_COPY (R153): A write of COPY copies the group's slots from TX_PAGE into the other page. Operands: `m` the
  master whose access it is; `g` the slot group; `data` the value written. -/
  | cmCopy (m : Master) (g : Nat) (data : W32)
  /-- OS_CLIENT_WRITE (R160): A write of OS_CLIENT changes a client's VALID or PORT, unless refused. Operands: `m` the
  master whose access it is; `g` the slot group; `c` the client register; `data` the value written. -/
  | osClientWrite (m : Master) (g c : Nat) (data : W32)
  /-- RX_CELL_TAKEN (R169): A frame's next 256 bytes begin to arrive; the cell is taken, admission is tested at the
  first cell, and XOFF is evaluated. Operands: `p` the port; `b` the bytes, at most 256; `code` an error control block
  among them. -/
  | rxCellTaken (p : Nat) (b : List Byte) (code : Bool := false)
  /-- RX_FRAME_END (R163): A received frame ends; runt, length, code and FCS checks, control frames, wake filters and
  learn release follow. Operands: `p` the port; `code` the frame ends with an error code. -/
  | rxFrameEnd (p : Nat) (code : Bool)
  /-- PAUSE_TIMER_EXPIRY (R176): A received pause timer expires and the scheduler resumes the paused bands and
  services. Operands: `p` the port; `i` the priority, 8 for PAUSE_ALL. -/
  | pauseTimerExpiry (p i : Nat)
  /-- MM_FRAGMENT_RECEIVE (R178): A MAC merge mPacket is received and reassembled, or ends the reassembly in error; a
  verify mPacket is answered. Operands: `p` the port; `smd` the mPacket: 0 to 3 SMD-S, 4 to 7 SMD-C, 8 verify, 9
  respond; `frag` the frag count; `b` the bytes; `final` the final fragment; `bad` a failed mCRC of a
  fragment that is not final; `code` an error control block was received in it. -/
  | mmFragmentReceive (p smd frag : Nat) (b : List Byte) (final bad : Bool) (code : Bool := false)
  /-- FRAME_DISPATCH (R190): An admitted frame with its header, or a gathered transmit frame, is placed in a free
  engine context. Operands: `p` the port; `tx` the transmit direction; `ecc` the errors that the fetches of its
  program will meet (R217): the number of the fetch, from 0, and whether the word is uncorrectable. -/
  | frameDispatch (p : Nat) (tx : Bool) (ecc : List (Nat × Bool))
  /-- NOP (R197): The instruction does nothing. Operands: `i` the context. -/
  | nop (i : Nat)
  /-- END (R207): The instruction commits the frame's verdict, mirror and mark and frees the context. Operands: `i`
  the context. -/
  | endFrame (i : Nat)
  /-- SYNC (R197): The instruction stalls until asynchronous results are in, or until the frame has ended. Operands:
  `i` the context. -/
  | sync (i : Nat)
  /-- CNT (R197): The instruction adds 1 to a program counter. Operands: `i` the context. -/
  | cnt (i : Nat)
  /-- ALU (R197): The instruction computes a register from two registers under FN. Operands: `i` the context. -/
  | alu (i : Nat)
  /-- ALUI (R197): The instruction computes a register from a register and an immediate under FN. Operands: `i` the
  context. -/
  | alui (i : Nat)
  /-- MOVW (R197): The instruction moves a 16-bit immediate into a register halfword. Operands: `i` the context. -/
  | movw (i : Nat)
  /-- EXT (R197): The instruction extracts a bit field into a register. Operands: `i` the context. -/
  | ext (i : Nat)
  /-- INS (R197): The instruction inserts a bit field into a register. Operands: `i` the context. -/
  | ins (i : Nat)
  /-- LD (R198): The instruction loads bytes from the window or the metadata, stalling for bytes not yet arrived.
  Operands: `i` the context. -/
  | ld (i : Nat)
  /-- ST (R198): The instruction stores bytes to the window or the metadata. Operands: `i` the context. -/
  | st (i : Nat)
  /-- BR (R197): The instruction compares two registers and branches. Operands: `i` the context. -/
  | br (i : Nat)
  /-- BRH (R197): The instruction compares a halfword with an immediate and skips. Operands: `i` the context. -/
  | brh (i : Nat)
  /-- BB (R197): The instruction branches on one bit of a register. Operands: `i` the context. -/
  | bb (i : Nat)
  /-- JMP (R197): The instruction jumps to a target. Operands: `i` the context. -/
  | jmp (i : Nat)
  /-- CALL (R198): The instruction pushes the return address and jumps. Operands: `i` the context. -/
  | call (i : Nat)
  /-- RET (R198): The instruction pops the return address into pc. Operands: `i` the context. -/
  | ret (i : Nat)
  /-- JMPR (R197): The instruction jumps to the address held in a register. Operands: `i` the context. -/
  | jmpr (i : Nat)
  /-- LKP (R201): The instruction sends a steering lookup, optionally metered or with a learn request. Operands: `i`
  the context. -/
  | lkp (i : Nat)
  /-- MTR (R203): The instruction charges a meter. Operands: `i` the context. -/
  | mtr (i : Nat)
  /-- HASHA (R204): The instruction appends bytes to the hash accumulator. Operands: `i` the context. -/
  | hasha (i : Nat)
  /-- HASHF (R204): The instruction finishes the hash function and empties the accumulator. Operands: `i` the context. -/
  | hashf (i : Nat)
  /-- CSUM_IP4H (R205): The instruction checks an IPv4 header checksum. Operands: `i` the context. -/
  | csumIp4h (i : Nat)
  /-- CSUM_IP4G (R205): The instruction writes a correct IPv4 header checksum. Operands: `i` the context. -/
  | csumIp4g (i : Nat)
  /-- CSUM_L4 (R205): The instruction registers a layer-4 checksum in a slot. Operands: `i` the context. -/
  | csumL4 (i : Nat)
  /-- LOOKUP_RESULT (R227): A steering lookup compares the key and returns its result, sets HIT, corrects ECC and
  charges the meter. Operands: `i` the context; `r` the result register; `corr` the correctable errors of the
  read; `fatal` the uncorrectable ways. -/
  | lookupResult (i r corr : Nat) (fatal : List Nat)
  /-- METER_CHARGE (R252): A meter refills, colours a packet and subtracts the bytes. Operands: `i` the context; `r`
  the result register. -/
  | meterCharge (i r : Nat)
  /-- HASH_RESULT (R204): A HASHF result becomes usable in its register. Operands: `i` the context; `r` the result
  register. -/
  | hashResult (i r : Nat)
  /-- CONTEXT_TIMEOUT (R211): A context has run 16,384 cycles from dispatch and faults with TIMEOUT. Operands: `i` the
  context. -/
  | contextTimeout (i : Nat)
  /-- VERDICT_TAKE_EFFECT (R192): A verdict takes effect once every earlier frame of its port and direction has had
  its verdict. Operands: `p` the port; `tx` the transmit direction. -/
  | verdictTakeEffect (p : Nat) (tx : Bool)
  /-- ENGINE_RATE_UPDATE (R214): At each 1 ms boundary the block writes RE_RATE and RE_ELAPSED. -/
  | engineRateUpdate
  /-- PS_DATA_WRITE (R218): A write of RE_PS_DATA goes to the standby bank of every cluster, unless the store has not
  drained. Operands: `m` the master whose access it is; `data` the value written. -/
  | psDataWrite (m : Master) (data : W32)
  /-- PS_SWITCH (R218): A write of SWITCH makes the standby bank active for every later dispatch. Operands: `m` the
  master whose access it is; `data` the value written. -/
  | psSwitch (m : Master) (data : W32)
  /-- PS_DRAINED (R218): No context runs from the former active bank any longer; DRAINED returns to 1 and SWITCH_DONE
  is set. -/
  | psDrained
  /-- PROG_UPDATE (R309): The admin command loads the standby bank from host memory, checks its CRC and switches
  banks. Operands: `p` the admin pair, 0 for pair 1 and 1 for pair 2; `e` its 64 bytes and its position. -/
  | progUpdate (p : Nat) (e : AdmEntry)
  /-- ENGINE_SUBST_REQUEST (R220): A write of RE_CL_SUBST REQ starts substitution of an engine by the cluster's spare.
  Operands: `m` the master whose access it is; `cl` the cluster; `data` the value written. -/
  | engineSubstRequest (m : Master) (cl : Nat) (data : W32)
  /-- ENGINE_SUBST (R308): The admin command starts an engine substitution. Operands: `p` the admin pair, 0 for pair 1
  and 1 for pair 2; `e` its 64 bytes and its position. -/
  | engineSubst (p : Nat) (e : AdmEntry)
  /-- ENGINE_SUBST_DONE (R220): The engine's contexts finish, the engine is retired and SUBST_DONE is set. Operands:
  `cl` the cluster. -/
  | engineSubstDone (cl : Nat)
  /-- ENGINE_FAULT (R221): An engine reports an ENGINE fault; its frames end with ENGINE_ERROR and the spare is
  substituted. Operands: `cl` the cluster; `e` the engine. -/
  | engineFault (cl e : Nat)
  /-- LEARN_ARBITRATE (R237): The learn arbiter decides the next learn request, offering insertions and moves to the
  change unit. Operands: `corr` the correctable errors that its reads of the
  table meet; `fatal` the places with uncorrectable errors, a way, or 2,129,920 and a pending-list index. -/
  | learnArbitrate (corr : Nat := 0) (fatal : List Nat := [])
  /-- TABLE_CHANGE_APPLY (R229): The change unit applies one change: an insert, update, delete, learn, ageing step or
  retry. Operands: `corr` the correctable errors that its reads of the
  table meet; `fatal` the places with uncorrectable errors, a way, or 2,129,920 and a pending-list index. -/
  | tableChangeApply (corr : Nat := 0) (fatal : List Nat := [])
  /-- HOLD_DOWN_EXPIRY (R238): A hold-down record stops being live HOLD_DOWN after it was made. Operands: `key` the
  key. -/
  | holdDownExpiry (key : BitVec 80)
  /-- AGE_STEP (R241): An ageing step visits one bucket or overflow set, clearing HIT or emptying the way. Operands:
  `corr` the correctable errors that its reads of the table meet; `fatal` the places with uncorrectable errors, a way,
  or 2,129,920 and a pending-list index. -/
  | ageStep (corr : Nat := 0) (fatal : List Nat := [])
  /-- REHASH_STEP (R244): A rehash step re-places the entries of the location at CURSOR and advances CURSOR. Operands:
  `corr` the correctable errors that its reads of the table meet; `fatal` the places with uncorrectable errors, a way,
  or 2,129,920 and a pending-list index. -/
  | rehashStep (corr : Nat := 0) (fatal : List Nat := [])
  /-- REHASH_FINISH (R245): CURSOR passes the last location; the new seeds become current, GEN advances and pending
  entries are retried. Operands: `corr` the correctable errors that its reads of the
  table meet; `fatal` the places with uncorrectable errors, a way, or 2,129,920 and a pending-list index. -/
  | rehashFinish (corr : Nat := 0) (fatal : List Nat := [])
  /-- RH_START (R243): A write of ST_RH_CTRL START starts a rehash with new seeds. Operands: `m` the master whose
  access it is. -/
  | rhStart (m : Master)
  /-- RH_PARK (R246): A write of ST_RH_CTRL PARK parks the rehash at the end of the current step. Operands: `m` the
  master whose access it is. -/
  | rhPark (m : Master)
  /-- RH_RESUME (R246): A write of ST_RH_CTRL RESUME continues a parked rehash from CURSOR. Operands: `m` the master
  whose access it is. -/
  | rhResume (m : Master)
  /-- RH_CANCEL (R247): A write of ST_RH_CTRL CANCEL reverses the rehash back to the original seeds. Operands: `m` the
  master whose access it is. -/
  | rhCancel (m : Master)
  /-- TBL_REHASH_START (R302): TBL_REHASH START starts a rehash and completes when it ends. Operands: `p` the admin
  pair, 0 for pair 1 and 1 for pair 2; `e` its 64 bytes and its position. -/
  | tblRehashStart (p : Nat) (e : AdmEntry)
  /-- TBL_REHASH_PARK (R302): TBL_REHASH PARK parks the rehash and completes when the step ends. Operands: `p` the
  admin pair, 0 for pair 1 and 1 for pair 2; `e` its 64 bytes and its position. -/
  | tblRehashPark (p : Nat) (e : AdmEntry)
  /-- TBL_REHASH_RESUME (R302): TBL_REHASH RESUME continues a parked rehash. Operands: `p` the admin pair, 0 for pair
  1 and 1 for pair 2; `e` its 64 bytes and its position. -/
  | tblRehashResume (p : Nat) (e : AdmEntry)
  /-- TBL_REHASH_CANCEL (R302): TBL_REHASH CANCEL reverses the rehash. Operands: `p` the admin pair, 0 for pair 1 and
  1 for pair 2; `e` its 64 bytes and its position. -/
  | tblRehashCancel (p : Nat) (e : AdmEntry)
  /-- TBL_INSERT (R232): The admin command inserts a key into the table. Operands: `p` the admin pair, 0 for pair 1
  and 1 for pair 2; `e` its 64 bytes and its position. -/
  | tblInsert (p : Nat) (e : AdmEntry)
  /-- TBL_UPDATE (R236): The admin command rewrites fields of every copy of a key. Operands: `p` the admin pair, 0 for
  pair 1 and 1 for pair 2; `e` its 64 bytes and its position. -/
  | tblUpdate (p : Nat) (e : AdmEntry)
  /-- TBL_DELETE (R236): The admin command empties every copy of a key. Operands: `p` the admin pair, 0 for pair 1 and
  1 for pair 2; `e` its 64 bytes and its position. -/
  | tblDelete (p : Nat) (e : AdmEntry)
  /-- READ_KEY (R255): The window command searches the table for a key and fills the window on a hit. Operands: `k`
  the window; `corr` the correctable errors that its reads of the
  table meet; `fatal` the places with uncorrectable errors, a way, or 2,129,920 and a pending-list index. -/
  | readKey (k : BitVec 4) (corr : Nat := 0) (fatal : List Nat := [])
  /-- READ_LOC (R255): The window command reads one table location. Operands: `k` the window; `corr` the correctable
  errors that its reads of the table meet; `fatal` the places with uncorrectable errors, a way, or 2,129,920 and a
  pending-list index. -/
  | readLoc (k : BitVec 4) (corr : Nat := 0) (fatal : List Nat := [])
  /-- READ_NEXT (R255): The window command returns the next non-empty location. Operands: `k` the window; `corr` the
  correctable errors that its reads of the table meet; `fatal` the places with uncorrectable errors, a way, or 2,129,920
  and a pending-list index. -/
  | readNext (k : BitVec 4) (corr : Nat := 0) (fatal : List Nat := [])
  /-- METER_SET (R303): The admin command writes a meter configuration record. Operands: `p` the admin pair, 0 for
  pair 1 and 1 for pair 2; `e` its 64 bytes and its position. -/
  | meterSet (p : Nat) (e : AdmEntry)
  /-- MT_WRITE (R253): A write of MT_CTRL WRITE applies the staged record to the meter, with FILL if set. Operands:
  `m` the master whose access it is; `k` the meter instance; `fill` FILL. -/
  | mtWrite (m : Master) (k : BitVec 2) (fill : Bool)
  /-- MT_READ (R253): A write of MT_CTRL READ loads the meter's record and refilled levels into MT_REC. Operands: `m`
  the master whose access it is; `k` the meter instance. -/
  | mtRead (m : Master) (k : BitVec 2)
  /-- SCAN_CONTINUE (R268): A scan stopped for cache room or a completion place continues once room appears. Operands:
  `kind` 0 a submission queue, 1 an admin pair, 2 a general channel; `id` its number. -/
  | scanContinue (kind id : Nat)
  /-- CREDIT_SCAN (R271): A credit scan reads the completion slots ahead of the producer; new owned slots end an
  episode and drain the backlog. Operands: `c` the completion queue. -/
  | creditScan (c : Nat)
  /-- CQ_POLL_TIMER (R271): CQ_POLL elapses during an episode and a credit scan starts. Operands: `c` the completion
  queue. -/
  | cqPollTimer (c : Nat)
  /-- HOLD_BUDGET_EXPIRY (R273): A received frame's hold budget runs out and it is dropped for want of completion room
  or a post. Operands: `q` the receive queue; `f` the frame. -/
  | holdBudgetExpiry (q f : Nat)
  /-- FENCE_COMPLETE (R16): A fence completes once every island's token has arrived and every write ahead of them has
  its response. Operands: `n` the fence. -/
  | fenceComplete (n : Nat)
  /-- ABORT_SEQUENCE_DONE (R281): The abort sequence of a submission queue finishes; the queue resets to position 0 or
  is destroyed. Operands: `q` the submission queue. -/
  | abortSequenceDone (q : Nat)
  /-- SQ_CREATE (R298): The admin command creates a submission queue; a transmit queue becomes a leaf. Operands: `p`
  the admin pair, 0 for pair 1 and 1 for pair 2; `e` its 64 bytes and its position. -/
  | sqCreate (p : Nat) (e : AdmEntry)
  /-- CQ_CREATE (R298): The admin command creates a completion queue and completes after its credit scan. Operands:
  `p` the admin pair, 0 for pair 1 and 1 for pair 2; `e` its 64 bytes and its position. -/
  | cqCreate (p : Nat) (e : AdmEntry)
  /-- SQ_DESTROY (R299): The admin command runs the abort sequence and frees the handle. Operands: `p` the admin pair,
  0 for pair 1 and 1 for pair 2; `e` its 64 bytes and its position. -/
  | sqDestroy (p : Nat) (e : AdmEntry)
  /-- CQ_DESTROY (R282): The admin command destroys a completion queue and returns its backlog to the pool. Operands:
  `p` the admin pair, 0 for pair 1 and 1 for pair 2; `e` its 64 bytes and its position. -/
  | cqDestroy (p : Nat) (e : AdmEntry)
  /-- SQ_RESET (R299): The admin command runs the abort sequence and returns the queue to position 0. Operands: `p`
  the admin pair, 0 for pair 1 and 1 for pair 2; `e` its 64 bytes and its position. -/
  | sqReset (p : Nat) (e : AdmEntry)
  /-- CQ_RESET (R297): The admin command discards the backlog, sets PROD to 0 and runs a credit scan. Operands: `p`
  the admin pair, 0 for pair 1 and 1 for pair 2; `e` its 64 bytes and its position. -/
  | cqReset (p : Nat) (e : AdmEntry)
  /-- SIL_CREATE (R392): The admin command creates a Sillage queue and completes after its credit scan. Operands: `p`
  the admin pair, 0 for pair 1 and 1 for pair 2; `e` its 64 bytes and its position. -/
  | silCreate (p : Nat) (e : AdmEntry)
  /-- SIL_DESTROY (R299): The admin command destroys a Sillage queue with no bound completion queue. Operands: `p` the
  admin pair, 0 for pair 1 and 1 for pair 2; `e` its 64 bytes and its position. -/
  | silDestroy (p : Nat) (e : AdmEntry)
  /-- CQ_BIND (R400): The admin command rebinds a completion queue to a Sillage queue and writes a REBIND report to
  the old one. Operands: `p` the admin pair, 0 for pair 1 and 1 for pair 2; `e` its 64 bytes and its position. -/
  | cqBind (p : Nat) (e : AdmEntry)
  /-- SIL_BIND (R401): The admin command retargets a Sillage queue and writes a REBIND report into it. Operands: `p`
  the admin pair, 0 for pair 1 and 1 for pair 2; `e` its 64 bytes and its position. -/
  | silBind (p : Nat) (e : AdmEntry)
  /-- GROUP_SET (R300): The admin command writes a receive-queue group. Operands: `p` the admin pair, 0 for pair 1 and
  1 for pair 2; `e` its 64 bytes and its position. -/
  | groupSet (p : Nat) (e : AdmEntry)
  /-- POOL_SET (R300): The admin command writes member pool entries. Operands: `p` the admin pair, 0 for pair 1 and 1
  for pair 2; `e` its 64 bytes and its position. -/
  | poolSet (p : Nat) (e : AdmEntry)
  /-- FENCE (R297): The admin command takes a fence and completes when it completes. Operands: `p` the admin pair, 0
  for pair 1 and 1 for pair 2; `e` its 64 bytes and its position. -/
  | fence (p : Nat) (e : AdmEntry)
  /-- SHAPER_SET (R347): The admin command writes a scheduler node record. Operands: `p` the admin pair, 0 for pair 1
  and 1 for pair 2; `e` its 64 bytes and its position. -/
  | shaperSet (p : Nat) (e : AdmEntry)
  /-- GATE_SET (R361): The admin command loads, replaces or removes a port gate calendar. Operands: `p` the admin
  pair, 0 for pair 1 and 1 for pair 2; `e` its 64 bytes and its position. -/
  | gateSet (p : Nat) (e : AdmEntry)
  /-- DUMP_CFG (R311): The admin command configures the dump ring and periodic Accord dumps. Operands: `p` the admin
  pair, 0 for pair 1 and 1 for pair 2; `e` its 64 bytes and its position. -/
  | dumpCfg (p : Nat) (e : AdmEntry)
  /-- DUMP_NOW (R311): The admin command takes one Accord dump. Operands: `p` the admin pair, 0 for pair 1 and 1 for
  pair 2; `e` its 64 bytes and its position. -/
  | dumpNow (p : Nat) (e : AdmEntry)
  /-- CNT_PERM (R311): The admin command sets a function's counter-window read permission. Operands: `p` the admin
  pair, 0 for pair 1 and 1 for pair 2; `e` its 64 bytes and its position. -/
  | cntPerm (p : Nat) (e : AdmEntry)
  /-- RATE_WIN (R430): The admin command sets or resets a port's byte-rate window. Operands: `p` the admin pair, 0 for
  pair 1 and 1 for pair 2; `e` its 64 bytes and its position. -/
  | rateWin (p : Nat) (e : AdmEntry)
  /-- PWR_REQ (R312): The admin command moves an island, or the block, to a power state. Operands: `p` the admin pair,
  0 for pair 1 and 1 for pair 2; `e` its 64 bytes and its position. -/
  | pwrReq (p : Nat) (e : AdmEntry)
  /-- DUO_FAILOVER (R313): The admin command triggers a failover at the standby as a host command. Operands: `p` the
  admin pair, 0 for pair 1 and 1 for pair 2; `e` its 64 bytes and its position. -/
  | duoFailover (p : Nat) (e : AdmEntry)
  /-- DUO_PROTECT (R497): The admin command re-forms a protected pair by snapshot and cutover. Operands: `p` the admin
  pair, 0 for pair 1 and 1 for pair 2; `e` its 64 bytes and its position. -/
  | duoProtect (p : Nat) (e : AdmEntry)
  /-- ADMIN_SQ_DOORBELL (R286): A write of WQ_ADM_DB SQ starts a scan of the admin submission ring. Operands: `m` the
  master whose access it is; `p` the admin pair, 0 for pair 1 and 1 for pair 2. -/
  | adminSqDoorbell (m : Master) (p : Nat)
  /-- ADMIN_CQ_DOORBELL (R286): A write of WQ_ADM_DB CQ starts a credit scan of the admin completion ring and arms it.
  Operands: `m` the master whose access it is; `p` the admin pair, 0 for pair 1 and 1 for pair 2. -/
  | adminCqDoorbell (m : Master) (p : Nat)
  /-- ADMIN_COMMAND_START (R288): The next admin command of a pair starts in entry order once its predecessors permit.
  Operands: `p` the admin pair, 0 for pair 1 and 1 for pair 2. -/
  | adminCommandStart (p : Nat)
  /-- ADMIN_LONG_COMPLETE (R290): A long or parkable admin command's operation ends and its completion is written.
  Operands: `p` the admin pair, 0 for pair 1 and 1 for pair 2. -/
  | adminLongComplete (p : Nat)
  /-- ADMIN_PAIR_ENABLE (R285): A write of WQ_ADM_CFG ENABLE = 1 makes the admin pair ACTIVE. Operands: `m` the master
  whose access it is; `p` the admin pair, 0 for pair 1 and 1 for pair 2; `data` the value written. -/
  | adminPairEnable (m : Master) (p : Nat) (data : W32)
  /-- ADMIN_PAIR_DRAIN (R296): A write of ENABLE = 0 starts draining the pair. Operands: `m` the master whose access
  it is; `p` the admin pair, 0 for pair 1 and 1 for pair 2; `data` the value written. -/
  | adminPairDrain (m : Master) (p : Nat) (data : W32)
  /-- ADMIN_DRAIN_DONE (R296): A draining pair has finished or aborted every command and goes to OFF. Operands: `p`
  the admin pair, 0 for pair 1 and 1 for pair 2. -/
  | adminDrainDone (p : Nat)
  /-- TE_DOORBELL (R320): A write of TE_CTRL DB starts a scan of the general descriptor ring. Operands: `m` the master
  whose access it is; `n` the general channel, 0 for channel 48; `data` the value written. -/
  | teDoorbell (m : Master) (n : Nat) (data : W32)
  /-- TE_PAUSE (R329): A write of PAUSE = 1 creates a PAUSE hold and starts the drain. Operands: `m` the master whose
  access it is; `n` the general channel, 0 for channel 48. -/
  | tePause (m : Master) (n : Nat)
  /-- TE_UNPAUSE (R331): A write of PAUSE = 0 removes the PAUSE hold; the channel resumes if no hold remains.
  Operands: `m` the master whose access it is; `n` the general channel, 0 for channel 48. -/
  | teUnpause (m : Master) (n : Nat)
  /-- TE_CANCEL (R332): A write of CANCEL completes the parked descriptor with ABORTED. Operands: `m` the master whose
  access it is; `n` the general channel, 0 for channel 48; `pause` PAUSE as written. -/
  | teCancel (m : Master) (n : Nat) (pause : Bool)
  /-- TE_ENABLE (R320): A write of ENABLE = 1 takes a general channel from OFF to IDLE. Operands: `m` the master whose
  access it is; `n` the general channel, 0 for channel 48; `data` the value written. -/
  | teEnable (m : Master) (n : Nat) (data : W32)
  /-- TE_DISABLE (R333): A write of ENABLE = 0 aborts the channel's owned descriptors and turns it OFF. Operands: `m`
  the master whose access it is; `n` the general channel, 0 for channel 48; `data` the value written. -/
  | teDisable (m : Master) (n : Nat) (data : W32)
  /-- TE_DRAIN_END (R330): A held channel's drain ends and it is parked at its exact park point. Operands: `n` the
  general channel, 0 for channel 48. -/
  | teDrainEnd (n : Nat)
  /-- CHMAP_WRITE (R317): A write of HP_CHMAP requests a new host memory port for channels. Operands: `m` the master
  whose access it is; `w` the word of HP_CHMAP; `data` the value written. -/
  | chmapWrite (m : Master) (w : Nat) (data : W32)
  /-- CHMAP_TAKE_EFFECT (R317): A channel with no request outstanding moves to its newly mapped port. Operands: `n`
  the channel. -/
  | chmapTakeEffect (n : Nat)
  /-- SCHEDULER_SELECTION (R349): The scheduler walks a port's tree, selects a frame, charges it and advances PE.
  Operands: `p` the port. -/
  | schedulerSelection (p : Nat)
  /-- BUCKET_REFILL (R356): At each period of its level, a node's buckets refill, applying any pending rate change.
  Operands: `level` 0 leaf, 1 subscriber, 2 service, 3 port; `n` the node of the level. -/
  | bucketRefill (level n : Nat)
  /-- GATE_ACTIVATE (R361): At the activation instant the new calendar takes over, GATE_SET completes and GATE_ACTIVE
  is set. Operands: `p` the port. -/
  | gateActivate (p : Nat)
  /-- NODE_CAPTURE (R347): A write of SC_NODE_SEL READ captures the node's record and levels. Operands: `m` the master
  whose access it is; `data` the value written. -/
  | nodeCapture (m : Master) (data : W32)
  /-- MAC_FRAME_START (R365): The MAC starts the next frame when its data, the gap and the gate window allow.
  Operands: `p` the port. -/
  | macFrameStart (p : Nat)
  /-- TX_UNDERRUN (R372): Data a started frame needs is absent or in error; the frame is cut with an error block.
  Operands: `p` the port. -/
  | txUnderrun (p : Nat)
  /-- TX_FRAME_END (R384): A frame's last byte passes to the PCS, and its completion is issued within 10 ns. Operands:
  `p` the port. -/
  | txFrameEnd (p : Nat)
  /-- MPACKET_PREEMPT (R382): At a valid point, the MAC ends the current mPacket for an express frame or a window end.
  Operands: `p` the port; `d` the frame offset at which the mPacket ends. -/
  | mpacketPreempt (p d : Nat)
  /-- FLOW_CONTROL_FRAME_SEND (R377): A PFC or PAUSE frame is sent after a change of XOFF or of a force bit, within
  100 ns. Operands: `p` the port. -/
  | flowControlFrameSend (p : Nat)
  /-- FC_REFRESH (R377): REFRESH quanta pass while a priority is held off, and a flow-control frame is sent again.
  Operands: `p` the port. -/
  | fcRefresh (p : Nat)
  /-- MM_ENABLE (R381): MM_TX_EN becomes 1 with the link up; verification starts, or ACTIVE is set at once. Operands:
  `p` the port. -/
  | mmEnable (p : Nat)
  /-- MM_RESPOND_RECEIVED (R381): A respond mPacket arrives while verifying, and preemption becomes ACTIVE. Operands:
  `p` the port. -/
  | mmRespondReceived (p : Nat)
  /-- MM_VERIFY_TIMEOUT (R381): VERIFY_TIME elapses; another verify is sent, or verification fails. Operands: `p` the
  port. -/
  | mmVerifyTimeout (p : Nat)
  /-- EV_COMPLETE (R388): A write of EV_COMPLETE ends a source's claim, or reports again if the source is still
  active. Operands: `m` the master whose access it is; `data` the value written. -/
  | evComplete (m : Master) (data : W32)
  /-- PRIV_SOURCE_EDGE (R387): A rising edge of a privileged source sets its EV_PRIV bit, or is merged and counted.
  Operands: `i` the source. -/
  | privSourceEdge (i : BitVec 3)
  /-- ROUTE_WRITE (R386): A write of a route or a Piccolo mapping lets active unclaimed sources report. Operands: `m`
  the master whose access it is; `i` the register; `data` the value written. -/
  | routeWrite (m : Master) (i : BitVec 4) (data : W32)
  /-- PICC_MAP_WRITE (R404): A write of EV_PICC_MAP maps a management source to a Piccolo pending bit and line.
  Operands: `m` the master whose access it is; `n` the register; `data` the value written. -/
  | piccMapWrite (m : Master) (n : BitVec 5) (data : W32)
  /-- COALESCE_WINDOW_END (R403): A fault domain's coalescing window ends, and a SUMMARY report is made. Operands: `d`
  the domain. -/
  | coalesceWindowEnd (d : BitVec 16)
  /-- SIL_ARM (R395): A write of EV_SIL_DB ARM runs a credit scan and arms the queue. Operands: `m` the master whose
  access it is; `q` the queue. -/
  | silArm (m : Master) (q : BitVec 10)
  /-- SIL_SCAN (R392): A write of EV_SIL_DB SCAN runs a credit scan of the queue. Operands: `m` the master whose
  access it is; `q` the queue. -/
  | silScan (m : Master) (q : BitVec 10)
  /-- SIL_CREDIT_SCAN (R392): A Sillage credit scan reads slots ahead; credit is restored and an OVERFLOW record may
  be written. Operands: `q` the queue. -/
  | silCreditScan (q : BitVec 10)
  /-- SIL_POLL_TIMER (R392): SIL_POLL elapses while the credit is 0 or LOST is non-zero, and a credit scan starts.
  Operands: `q` the queue. -/
  | silPollTimer (q : BitVec 10)
  /-- MODERATION_EXPIRY (R396): MOD_TIME elapses for a moderating queue, and its message is raised. Operands: `q` the
  queue. -/
  | moderationExpiry (q : BitVec 10)
  /-- TB_FREQ_WRITE (R407): A write of TB_FREQ sets the frequency offset from the next tick. Operands: `m` the master
  whose access it is; `data` the value written. -/
  | tbFreqWrite (m : Master) (data : W32)
  /-- TB_PHASE_WRITE (R408): A write of TB_PHASE steps block time or starts a slew. Operands: `m` the master whose
  access it is; `data` the value written. -/
  | tbPhaseWrite (m : Master) (data : W32)
  /-- SLEW_DONE (R408): A slew has absorbed its amount, BUSY falls and ADJ_DONE is set. -/
  | slewDone
  /-- TB_TIME_READ (R412): A read of TB_TIME0 snapshots all 96 bits of block time. Operands: `m` the master whose
  access it is. -/
  | tbTimeRead (m : Master)
  /-- LEVEL_INTERVAL_END (R414): A 10 ns refill-clock interval ends, and level-mode counters whose condition held
  count 1. -/
  | levelIntervalEnd
  /-- PC_SEL_WRITE (R414): A write of PC_SEL changing LEVEL switches the counter's mode and zeroes it. Operands: `m`
  the master whose access it is; `data` the value written. -/
  | pcSelWrite (m : Master) (data : W32)
  /-- COUNTER_READ (R419): A read of PC_VAL_LO returns the low bits and copies the high bits and WRAP into the shadow.
  Operands: `m` the master whose access it is. -/
  | counterRead (m : Master)
  /-- COUNTER_WINDOW_READ (R428): A read of a function's counter window returns its counters, or 0 when it is not
  permitted. Operands: `m` the master whose access it is; `f` the function window; `off` the offset in it. -/
  | counterWindowRead (m : Master) (f off : Nat)
  /-- DUMP_HEADER_READ (R422): At T − 2 µs the block reads the next dump header, and skips the dump if it is not
  owned. -/
  | dumpHeaderRead
  /-- DUMP_LATCH (R420): At T every island copies its counters into shadows, and the records are written. -/
  | dumpLatch
  /-- DUMP_PARK (R426): A write of PC_DUMP_CTRL PARK parks the dump before its next record. Operands: `m` the master
  whose access it is. -/
  | dumpPark (m : Master)
  /-- DUMP_RESUME (R426): A write of PC_DUMP_CTRL RESUME removes the PARK cause. Operands: `m` the master whose access
  it is. -/
  | dumpResume (m : Master)
  /-- DUMP_CANCEL (R426): A write of PC_DUMP_CTRL CANCEL writes the header with ABORTED. Operands: `m` the master
  whose access it is. -/
  | dumpCancel (m : Master)
  /-- RATE_WINDOW_END (R429): A byte-rate window ends; LAST, MIN and MAX update and WINDOWS advances. Operands: `p`
  the port; `tx` the transmit direction. -/
  | rateWindowEnd (p : Nat) (tx : Bool)
  /-- RATE_SNAPSHOT (R429): A write of PC_RATE_SEL copies the selected port's rate state at one instant. Operands: `m`
  the master whose access it is; `data` the value written. -/
  | rateSnapshot (m : Master) (data : W32)
  /-- IDLE_ENTRY (R434): An island has been quiet for 64 cycles and enters IDLE. Operands: `c` the island. -/
  | idleEntry (c : Nat)
  /-- IDLE_EXIT (R434): An item appears at a crossing of an IDLE island, which returns to RUN. Operands: `c` the
  island. -/
  | idleExit (c : Nat)
  /-- POWER_ENTRY_PHASE_DONE (R437): A fixed-delay phase of block entry ends and the next phase runs. Operands: `c`
  the code of the power sequence. -/
  | powerEntryPhaseDone (c : Nat)
  /-- POWER_DRAIN_END (R437): The entry drain finishes, the completion is written and entry proceeds. Operands: `c`
  the code of the power sequence. -/
  | powerDrainEnd (c : Nat)
  /-- POWER_DRAIN_TIMEOUT (R437): The drain takes more than 10 µs; phase 1 is undone and the request completes
  ADMIN_BUSY. Operands: `c` the code of the power sequence. -/
  | powerDrainTimeout (c : Nat)
  /-- WAKE_TIMER (R439): PW_WAKE_TIMER elapses after the end of entry and starts a wake. -/
  | wakeTimer
  /-- WAKE_STEP_DONE (R442): A wake step ends by regulator, lock or fixed delay, and the next step runs or the island
  reaches RUN. Operands: `c` the code of the power sequence. -/
  | wakeStepDone (c : Nat)
  /-- WAKE_STEP_TIMEOUT (R443): A REG or OSC step exceeds 4 × its delay; it is retried once, or the wake falls back.
  Operands: `c` the code of the power sequence. -/
  | wakeStepTimeout (c : Nat)
  /-- CHUNK_HASH_MATCH (R453): A copied chunk's hash matches and its SRAM becomes executable; chunk 0 lets the ROM
  jump to ENTRY. Operands: `k` the chunk. -/
  | chunkHashMatch (k : Nat)
  /-- BOOT_VERDICT (R458): The signature is verified and every chunk matched, or a check failed; the boot state
  advances. -/
  | bootVerdict
  /-- CONFIRM (R459): A steward write of CONFIRM confirms the trial and writes the BCB. Operands: `m` the master whose
  access it is. -/
  | confirm (m : Master)
  /-- RELEASE (R460): A steward write of RELEASE applies the profile once per cold reset. Operands: `m` the master
  whose access it is. -/
  | release (m : Master)
  /-- RELEASE_TIMEOUT (R460): 240 ms after RST_N rises with the verdict passed, the profile is applied without
  RELEASE. -/
  | releaseTimeout
  /-- RESTART (R462): A write of RESTART restarts the steward after draining its pairs and releasing its semaphores.
  Operands: `m` the master whose access it is. -/
  | restart (m : Master)
  /-- RECOV_GO (R461): A write of RECOV_GO in RECOVERY loads the named slot as a trial. Operands: `m` the master whose
  access it is; `k` the slot. -/
  | recovGo (m : Master) (k : Nat)
  /-- TRIAL_WATCHDOG_EXPIRY (R459): The trial watchdog expires; the steward restarts on the confirmed slot, or the
  block enters RECOVERY. -/
  | trialWatchdogExpiry
  /-- MPU_VIOLATION (R448): The steward breaks its memory protection and is restarted with MPU_FAULT.
  Operands: `a` the address accessed; `acc` 0 a fetch, 1 a read, 2 a write. -/
  | mpuViolation (a : Nat := 0) (acc : Nat := 0)
  /-- FUSE_PROG (R465): A steward write of PROG starts programming a fuse word, subject to the presence and refusal
  checks. Operands: `m` the master whose access it is; `word` the fuse word. -/
  | fuseProg (m : Master) (word : Nat)
  /-- FUSE_PROG_DONE (R465): Fuse programming finishes, the word is read back and FUSE_DONE fires. Operands:
  `readback` the word as it reads back. -/
  | fuseProgDone (readback : W32)
  /-- DEBUG_UNLOCK (R467): A steward write of UNLOCK with presence unlocks debug until cold reset. Operands: `m` the
  master whose access it is. -/
  | debugUnlock (m : Master)
  /-- WEAR_MONITOR_READ (R470): The once-per-second monitor read checks WARN and ACT and starts automatic actions.
  Operands: `is_` the ageing sensors by island; `es` by engine, its sensor and its corrected register-file errors;
  `ms` by macro, a row or a column, its address and its corrected errors. -/
  | wearMonitorRead (is_ : List (Nat × Nat)) (es : List (Nat × Nat × Nat)) (ms : List (Nat × Bool × Nat × Nat))
  /-- SRAM_REPAIR_DONE (R476): A row or column repair switches reads to the spare and sets REPAIR_DONE. Operands: `i`
  the island. -/
  | sramRepairDone (i : Nat)
  /-- ENTRY_RETIRE (R469): A pool or learn entry shows an uncorrectable error and is replaced by a held-back entry.
  Operands: `learn` the learn queue; `q` the completion queue otherwise; `i` the entry. -/
  | entryRetire (learn : Bool) (q i : Nat)
  /-- HMP_MOVE_TIMEOUT (R479): A channel is not quiet within 10 µs during port substitution, and it keeps its old
  port. -/
  | hmpMoveTimeout
  /-- LMAP_WRITE (R480): A steward write of SV_LMAP or SV_RETIRED before RELEASE sets the lane map. Operands: `m` the
  master whose access it is; `w` the word of SV_LMAP, 4 for SV_RETIRED; `data` the value written. -/
  | lmapWrite (m : Master) (w : Nat) (data : W32)
  /-- REPAIR_APPLY (R480): A steward write of SV_REPAIR_CMD APPLY repairs a location and appends it to the list.
  Operands: `m` the master whose access it is; `data` the value written. -/
  | repairApply (m : Master) (data : W32)
  /-- REPAIR_READ (R480): A write of SV_REPAIR_CMD READ loads a field repair entry into SV_REPAIR_DATA. Operands: `m`
  the master whose access it is; `data` the value written. -/
  | repairRead (m : Master) (data : W32)
  /-- COUNTER_JOURNAL (R488): Every 10 µs the active journals its counter deltas. -/
  | counterJournal
  /-- LEASE_RENEW (R491): Every 50 µs the active reads and renews the lease, or fences if another unit holds it. -/
  | leaseRenew
  /-- LEASE_FENCE_TIMEOUT (R491): 150 µs pass without a renewal response, and the active enters FENCED. -/
  | leaseFenceTimeout
  /-- LEASE_READ (R491): Every 50 µs the standby reads the lease record. -/
  | leaseRead
  /-- HEARTBEAT_LOSS_TRIGGER (R492): No DMP flit for 1 ms with the lease unchanged triggers failover at the standby. -/
  | heartbeatLossTrigger
  /-- FATAL_FAULT (R492): The active declares a fatal fault, sends FATAL, stops issuing and sends FENCED. -/
  | fatalFault
  /-- FENCE_WAIT_TIMEOUT (R493): 25 µs pass after a host-command or fatal trigger without FENCED, and takeover
  proceeds. -/
  | fenceWaitTimeout
  /-- TAKEOVER (R494): The standby writes the lease, finishes its flips, flushes admin commands and becomes ACTIVE. -/
  | takeover
  /-- CUTOVER (R497): After the snapshot is acknowledged, the CUTOVER flit makes the pair PROTECTED. -/
  | cutover
  /-- TB_TOD_CLK_EDGE (R77): A rising edge of TB_TOD_CLK shifts one bit of the 96-bit time-of-day value into
  TB_TOD_STAGE. Operands: `b` the bit. -/
  | tbTodClkEdge (b : Bool)
  /-- PPS_OUT_FALL (R77): TB_PPS_OUT falls 100 ms after it rose at a whole second of block time. -/
  | ppsOutFall
  /-- REFCLK_LOSS (R39): REFCLK disappears, so the AON island falls back to its internal 25 MHz oscillator and every
  REFCLK-locked PLL stays off. -/
  | refclkLoss
  /-- REFCLK_RETURN (R39): REFCLK returns within specification, so the AON island leaves its internal oscillator and
  the REFCLK-locked PLLs may lock. -/
  | refclkReturn
  /-- TAP_RESET (R81): TRST_N is asserted and resets the test access port only. -/
  | tapReset
  /-- DMP_SILENCE (R497): No DMP flit arrives for 1 ms: DMP_UP falls, PARTNER_LOST is set while the lease is still
  renewed, and a DUO_PROTECT in SYNCING completes ADMIN_NOT_FOUND with PAIR back to UNPROTECTED. -/
  | dmpSilence
  deriving DecidableEq, Repr

end Sys2Proof
end

