-- ==== Sys2Proof/Decode.lean ====
section
/-!
DEFINITION. The block reads no instruction words: the spec's table of operations and events gives no row any bits, so no
word spells a command.
-/

namespace Sys2Proof

/-- The command that a word spells: none, since no row of the table gives bits. -/
def decodeTableWord (_nbits _w : Nat) : Option Instr := none

end Sys2Proof
end

