-- ==== Sys2Proof/Config.lean ====
section
/-!
DEFINITION. What the spec leaves open: values that the block produces and the spec does not fix. Each is an
opaque constant, so that nothing can be proved about its value; what distinguishes one drawing from the next
is a plain argument (the state's counter `free`, or the operands the value belongs to).
-/

namespace Sys2Proof

/-- ST_SEED_CUR at reset is "random" (spec/08, seed registers): a free value per seed word. (DESIGN CHOICE: log entry
9.) -/
opaque Config.resetSeed : Nat → BitVec 32

/-- A random seed word the block draws (R243, R500): a free value per drawing. (DESIGN CHOICE: log entry 9.) -/
opaque Config.randomSeed : Nat → BitVec 32

/-- QUANTUM of a transmit queue's leaf for which no SHAPER_SET has given one (R345, R351): a free value, used in the
range of R347. (DESIGN CHOICE: log entry 10.) -/
opaque Config.leafQuantum : Nat → Nat

/-- Wire time of a number of bytes at a port whose rate is 0 (R358), in units of 2^-48 ns: a free value. (DESIGN
CHOICE: log entry 10.) -/
opaque Config.wireAtRateZero : Nat → Nat

/-- Value inserted for a registered transmit checksum whose datagram the spec's sum does not describe (R205, R206):
the version nibble is neither 4 nor 6, or the datagram does not lie in the frame. A free value for a frame's bytes and
the two offsets. (DESIGN CHOICE: log entry 10.) -/
opaque Config.txChecksum : Bytes → Nat → Nat → BitVec 16

/-- I, T and SUSTAIN of R214 for a millisecond in which no frame finished or no cycle was issued: free values, by
register field (0 I, 1 T, 2 SUSTAIN). -/
opaque Config.idleRate : Nat → Nat

/-- Error with which the always-on island hands block time back at a wake (R411), in units of 2^-48 ns: a free value for
each wake, of which no more than 1 ns counts. -/
opaque Config.handBackError : Nat → Int

/-- REASON of PAGE_ACCESS for a misaligned access to a listed page, which no reason code of R87 names: a free value. (DESIGN
CHOICE: log entry 19.) -/
opaque Config.misalignReason : BitVec 4

/-- Set of the translation cache that an entry of a function, a page number and a page size occupies (R334): the hash is
not part of the block's interface. (DESIGN CHOICE: log entry 52.) -/
opaque Config.tlbSet : Nat → Nat → Nat → Nat

/-- LEN of a forwarded frame that is selected before it has ended, by frame number: R353 gives it once the frame's length is
known. (DESIGN CHOICE: log entry 69.) -/
opaque Config.cutThroughLen : Nat → Nat

/-- What a receive checksum slot reports of a datagram that ends before its layer-4 header begins (R206), by the two
offsets. (DESIGN CHOICE: log entry 10.) -/
opaque Config.rxCsumOpen : Nat → Nat → Nat

/-- What OS_CM_DATA reads where SLOT of OS_CM_PTR names no slot (R153), by page and SLOT. (DESIGN CHOICE: log entry 29.) -/
opaque Config.cmBeyond : Nat → BitVec 6

/-- Whether the UDP datagram at an offset of a frame is one of IPv4 (R376), where its header does not follow the frame's own IP
header, by the bytes before it and the offset. (DESIGN CHOICE: log entry 33.) -/
opaque Config.udpOverIpv4 : Bytes → Nat → Bool

end Sys2Proof
end

