-- ==== Sys2Proof/Machine/RegMap.lean ====
section
/-!
DEFINITION. The control pages and their registers, as the field maps of spec/00 to spec/19 list them:
the page index map (R84), and for every register its offset, its stride and count where the page holds
several, its reset value, and which of its bits each access code of R8 covers. Written out from those
field maps; the reset values that the maps mark "per page", "per channel", "instance", "lane", "fuse",
"strap", "profile" and "random" are in `resetReg`.
-/

namespace Sys2Proof.Machine

/-- Kind of a control page: one per row of the page index map (R84), with the WQ page split into
instance 0 (`wq`), the admin pairs (`wa`), and pages that hold only a header (`bare`). -/
inductive PageKind where

  | gl
  | bt
  | pw
  | ev
  | tb
  | pc
  | sv
  | du
  | ln
  | os
  | mp
  | re
  | ps
  | st
  | mt
  | sc
  | te
  | wq
  | wa
  | hp
  | tr
  | bare
  deriving DecidableEq, Repr

/-- The registers of spec/00 to spec/19 that have a name of their own. -/
inductive RegName where
  | PAGE_ID
  | PAGE_VER
  | PAGE_PWR
  | PAGE_ACCESS
  | PAGE_LOCK
  | PAGE_AUTOWAKE
  | PAGE_ACL
  | GL_ID
  | GL_STRAP
  | GL_HOSTCFG
  | GL_PROFILE
  | GL_BADADDR
  | GL_WINACL
  | GL_SEM
  | GL_ALERT
  | GL_ALERT_EN
  | LN_CTRL
  | LN_STATUS
  | LN_TXEQ
  | LN_EYE
  | LN_CAL
  | LN_PRBS
  | LN_PRBS_ERR
  | LN_SUBST
  | LN_EVENT
  | LN_EVENT_EN
  | MP_PCS_CTRL
  | MP_PCS_STATE
  | MP_FEC_DEG
  | MP_PCS_EVENT
  | MP_PCS_EVENT_EN
  | OS_CFG
  | OS_SW_CTRL
  | OS_SW_STATE
  | OS_CM_PTR
  | OS_CM_DATA
  | OS_TRACE_SEL
  | OS_TRACE_TX
  | OS_TRACE_EXP
  | OS_TRACE_RX
  | OS_MEMBER
  | OS_CLIENT
  | OS_EVENT
  | OS_EVENT_EN
  | MP_RX_CFG
  | MP_RX_LEN
  | MP_RX_PRIO_MAP
  | MP_RX_TS_ADJ
  | MP_BUF_OCC
  | MP_BUF_HDRM
  | MP_PFC_THR
  | MP_PFC_HDRM
  | MP_SHARED_CFG
  | MP_WAKE_CTRL
  | MP_WAKE_PTR
  | MP_WAKE_DATA
  | MP_MAGIC_ADDR
  | MP_WAKE_STATUS
  | MP_RX_PAUSE_STATE
  | MP_RX_EVENT
  | MP_RX_EVENT_EN
  | MP_TX_CFG
  | MP_TX_TS_ADJ
  | MP_TX_SRC_ADDR
  | MP_TX_FC
  | MP_TX_FC_FORCE
  | MP_MM_CTRL
  | MP_MM_STATUS
  | MP_TX_STATE
  | MP_TX_EVENT
  | MP_TX_EVENT_EN
  | RE_CL_STATUS
  | RE_CL_SUBST
  | RE_FAULT_LAST
  | RE_CL_EVENT
  | RE_CL_EVENT_EN
  | RE_PS_CTRL
  | RE_PS_ADDR
  | RE_PS_DATA
  | RE_PS_CRC
  | RE_BUDGET
  | RE_RATE
  | RE_FAULT_CFG
  | RE_DIGEST_SEED
  | RE_HASH_KEY
  | RE_ELAPSED
  | RE_MIRROR
  | RE_EVENT
  | RE_EVENT_EN
  | ST_CFG
  | ST_OCC
  | ST_RH_CTRL
  | ST_RH_STATE
  | ST_LEARN_CFG
  | ST_TIMING
  | ST_MOVE_SEQ
  | ST_SEED_CUR
  | ST_SEED_NEW
  | ST_EVENT
  | ST_EVENT_EN
  | MT_PTR
  | MT_CTRL
  | MT_REC
  | SC_NODE_SEL
  | SC_NODE_REC
  | SC_NODE_LVL_C
  | SC_NODE_LVL_P
  | SC_PCFG
  | SC_PRATE
  | SC_PFC_BANDS
  | SC_GATE_STATE
  | SC_GATE_CYCLE
  | SC_GATE_MAX
  | SC_EVENT
  | SC_EVENT_EN
  | TE_CFG
  | TE_RING
  | TE_CTRL
  | TE_STATE
  | TE_RING_BASE
  | TE_PROG_ELEM
  | TE_PROG_SRC
  | TE_PROG_DST
  | TE_FAULT_ADDR
  | TE_FAULT
  | TE_EVENT
  | TE_EVENT_EN
  | HP_CHMAP
  | TR_CFG
  | TR_OCC
  | TR_INV
  | TR_LAST_FAULT
  | TR_LAST_FUNC
  | TR_EVENT
  | TR_EVENT_EN
  | WQ_CFG
  | WQ_POOL
  | WQ_POOL_RSV
  | WQ_CTX_SEL
  | WQ_CTX
  | WQ_EVENT
  | WQ_EVENT_EN
  | WQ_ADM_CFG
  | WQ_ADM_SQ_BASE
  | WQ_ADM_CQ_BASE
  | WQ_ADM_POS
  | WQ_ADM_ERR
  | WQ_ADM_DB
  | EV_CFG
  | EV_COMPLETE
  | EV_SIL_SEL
  | EV_SIL_MOD
  | EV_SIL_STATE0
  | EV_SIL_STATE1
  | EV_SIL_DB
  | EV_ROUTE_PTR
  | EV_ROUTE_DATA
  | EV_PRIV_ROUTE
  | EV_PICC_MAP
  | EV_PRIV
  | EV_PRIV_EN
  | EV_EVENT
  | EV_EVENT_EN
  | EV_PICC_PEND
  | EV_PICC_MASK
  | EV_PICC_LINE
  | TB_CFG
  | TB_TIME
  | TB_FREQ
  | TB_PHASE
  | TB_ADJ
  | TB_PPS_CAP
  | TB_REF_PHASE
  | TB_TOD_STAGE
  | TB_EVENT
  | TB_EVENT_EN
  | PC_SEL
  | PC_VAL_LO
  | PC_VAL_HI
  | PC_DUMP_STATE
  | PC_DUMP_CTRL
  | PC_WRAP_LAST
  | PC_WIN_DENY
  | PC_RATE_SEL
  | PC_RATE_STATE
  | PC_RATE_LAST
  | PC_RATE_MIN
  | PC_RATE_MAX
  | PC_EVENT
  | PC_EVENT_EN
  | PC_WRAP
  | PW_CFG
  | PW_STATE
  | PW_WAKE_TIMER
  | PW_LAST_WAKE
  | PW_LAST_WAKE_TS
  | PW_ISLAND_SEL
  | PW_ISLAND
  | PW_EVENT
  | PW_EVENT_EN
  | BT_STATUS
  | BT_CTRL
  | BT_IMG_VER
  | BT_SLOT_A
  | BT_SLOT_B
  | BT_BCB_ADDR
  | BT_TRIAL
  | BT_FUSE_CTRL
  | BT_FUSE_DATA
  | BT_FUSE_RD
  | BT_DEBUG
  | BT_KEYS
  | BT_EVENT
  | BT_EVENT_EN
  | SV_CFG
  | SV_RO_THR
  | SV_EYE_THR
  | SV_SRAM_THR
  | SV_SPARES
  | SV_MON_SEL
  | SV_MON
  | SV_LAST
  | SV_LMAP
  | SV_RETIRED
  | SV_REPAIR_CMD
  | SV_REPAIR_DATA
  | SV_EVENT
  | SV_EVENT_EN
  | DU_STATUS
  | DU_LEASE_ADDR
  | DU_JOURNAL
  | DU_LAST_FAIL
  | DU_LAST_FAIL_TS
  | DU_FLUSH
  | DU_EVENT
  | DU_EVENT_EN
  deriving DecidableEq, Repr

/-- What a field map says of one register. `wide` marks a 64-bit register (R96). -/
structure RegRow where
  off : Nat
  stride : Nat
  count : Nat
  wide : Bool
  reset : Nat
  rw : Nat
  once : Nat
  wo : Nat
  sticky : Nat
  deriving DecidableEq, Repr

/-- The field maps of the spec, register by register. -/
def RegName.row : RegName → RegRow
  | .PAGE_ID => ⟨0x0, 4, 1, false, 0x0, 0x0, 0x0, 0x0, 0x0⟩
  | .PAGE_VER => ⟨0x4, 4, 1, false, 0x100, 0x0, 0x0, 0x0, 0x0⟩
  | .PAGE_PWR => ⟨0x8, 4, 1, false, 0x4, 0x0, 0x0, 0x0, 0x0⟩
  | .PAGE_ACCESS => ⟨0xc, 4, 1, false, 0x0, 0x0, 0x0, 0x1, 0x0⟩
  | .PAGE_LOCK => ⟨0x10, 4, 1, false, 0x0, 0x0, 0x1, 0x0, 0x0⟩
  | .PAGE_AUTOWAKE => ⟨0x14, 4, 1, false, 0x0, 0xf, 0x0, 0x0, 0x0⟩
  | .PAGE_ACL => ⟨0x20, 4, 1, false, 0x30000, 0x0, 0x7000707, 0x0, 0x0⟩
  | .GL_ID => ⟨0x80, 4, 1, false, 0x32160400, 0x0, 0x0, 0x0, 0x0⟩
  | .GL_STRAP => ⟨0x84, 4, 1, false, 0x0, 0x0, 0x0, 0x0, 0x0⟩
  | .GL_HOSTCFG => ⟨0x88, 4, 1, false, 0x0, 0x1, 0x0, 0x0, 0x0⟩
  | .GL_PROFILE => ⟨0x8c, 4, 1, false, 0x70000, 0x0, 0x0, 0x0, 0x0⟩
  | .GL_BADADDR => ⟨0x90, 4, 1, false, 0x0, 0x0, 0x0, 0x0, 0x0⟩
  | .GL_WINACL => ⟨0x94, 4, 1, false, 0x7777, 0x0, 0xffff, 0x0, 0x0⟩
  | .GL_SEM => ⟨0x100, 4, 64, false, 0x0, 0x8000ffff, 0x0, 0x40000000, 0x0⟩
  | .GL_ALERT => ⟨0x400, 4, 1, false, 0x0, 0x0, 0x0, 0x0, 0x3ff⟩
  | .GL_ALERT_EN => ⟨0x404, 4, 1, false, 0x3ff, 0x3ff, 0x0, 0x0, 0x0⟩
  | .LN_CTRL => ⟨0x80, 4, 1, false, 0x8a00, 0xfffe, 0x0, 0x0, 0x0⟩
  | .LN_STATUS => ⟨0x84, 4, 1, false, 0x0, 0x0, 0x0, 0x0, 0x0⟩
  | .LN_TXEQ => ⟨0x88, 4, 1, false, 0xe63c0, 0x3fffffff, 0x0, 0x0, 0x0⟩
  | .LN_EYE => ⟨0x8c, 4, 1, false, 0x0, 0x0, 0x0, 0x0, 0x0⟩
  | .LN_CAL => ⟨0x90, 4, 1, false, 0x0, 0x0, 0x0, 0x80000000, 0x0⟩
  | .LN_PRBS => ⟨0x94, 4, 1, false, 0x0, 0xff, 0x0, 0x0, 0x0⟩
  | .LN_PRBS_ERR => ⟨0x98, 8, 1, true, 0x0, 0x0, 0x0, 0x0, 0x0⟩
  | .LN_SUBST => ⟨0xa4, 4, 1, false, 0x0, 0x0, 0x0, 0x0, 0x0⟩
  | .LN_EVENT => ⟨0x400, 4, 1, false, 0x0, 0x0, 0x0, 0x0, 0x7f⟩
  | .LN_EVENT_EN => ⟨0x404, 4, 1, false, 0x7f, 0x7f, 0x0, 0x0, 0x0⟩
  | .MP_PCS_CTRL => ⟨0x200, 4, 1, false, 0x4a18, 0xff1f, 0x0, 0x0, 0x0⟩
  | .MP_PCS_STATE => ⟨0x204, 4, 1, false, 0x100, 0x0, 0x0, 0x0, 0x0⟩
  | .MP_FEC_DEG => ⟨0x208, 4, 1, false, 0x4000800, 0xffffffff, 0x0, 0x0, 0x0⟩
  | .MP_PCS_EVENT => ⟨0x600, 4, 1, false, 0x0, 0x0, 0x0, 0x0, 0x7f⟩
  | .MP_PCS_EVENT_EN => ⟨0x604, 4, 1, false, 0x7f, 0x7f, 0x0, 0x0, 0x0⟩
  | .OS_CFG => ⟨0x80, 4, 1, false, 0xc00000, 0x1fff000, 0x0, 0x0, 0x0⟩
  | .OS_SW_CTRL => ⟨0x84, 4, 1, false, 0xa, 0xff, 0x0, 0x80000000, 0x0⟩
  | .OS_SW_STATE => ⟨0x88, 4, 1, false, 0x0, 0x0, 0x0, 0x0, 0x0⟩
  | .OS_CM_PTR => ⟨0x8c, 4, 1, false, 0x0, 0x800007ff, 0x0, 0x0, 0x0⟩
  | .OS_CM_DATA => ⟨0x90, 4, 1, false, 0x3f, 0x3f, 0x0, 0x0, 0x0⟩
  | .OS_TRACE_SEL => ⟨0x94, 4, 1, false, 0x0, 0x1f, 0x0, 0x0, 0x0⟩
  | .OS_TRACE_TX => ⟨0xa0, 4, 8, false, 0x0, 0xffffffff, 0x0, 0x0, 0x0⟩
  | .OS_TRACE_EXP => ⟨0xc0, 4, 8, false, 0x0, 0xffffffff, 0x0, 0x0, 0x0⟩
  | .OS_TRACE_RX => ⟨0xe0, 4, 8, false, 0x0, 0x0, 0x0, 0x0, 0x0⟩
  | .OS_MEMBER => ⟨0x100, 4, 17, false, 0x2, 0x0, 0x0, 0x0, 0x0⟩
  | .OS_CLIENT => ⟨0x200, 4, 63, false, 0x0, 0xbf000000, 0x0, 0x0, 0x0⟩
  | .OS_EVENT => ⟨0x400, 4, 1, false, 0x0, 0x0, 0x0, 0x0, 0x7ff⟩
  | .OS_EVENT_EN => ⟨0x404, 4, 1, false, 0x7ff, 0x7ff, 0x0, 0x0, 0x0⟩
  | .MP_RX_CFG => ⟨0x80, 4, 1, false, 0x80000000, 0xff80ffff, 0x0, 0x0, 0x0⟩
  | .MP_RX_LEN => ⟨0x84, 4, 1, false, 0x5f2, 0x3fff, 0x0, 0x0, 0x0⟩
  | .MP_RX_PRIO_MAP => ⟨0x88, 4, 1, false, 0xfac688, 0xffffff, 0x0, 0x0, 0x0⟩
  | .MP_RX_TS_ADJ => ⟨0x8c, 4, 1, false, 0x0, 0xffffffff, 0x0, 0x0, 0x0⟩
  | .MP_BUF_OCC => ⟨0x90, 4, 1, false, 0x0, 0x0, 0x0, 0x0, 0x0⟩
  | .MP_BUF_HDRM => ⟨0x94, 4, 1, false, 0x0, 0x0, 0x0, 0x0, 0x0⟩
  | .MP_PFC_THR => ⟨0xa0, 4, 8, false, 0x800100, 0xffffffff, 0x0, 0x0, 0x0⟩
  | .MP_PFC_HDRM => ⟨0xc0, 4, 8, false, 0x0, 0xffff, 0x0, 0x0, 0x0⟩
  | .MP_SHARED_CFG => ⟨0xe0, 4, 1, false, 0x4, 0x7, 0x0, 0x0, 0x0⟩
  | .MP_WAKE_CTRL => ⟨0xe4, 4, 1, false, 0x0, 0x1ffff, 0x0, 0x0, 0x0⟩
  | .MP_WAKE_PTR => ⟨0xe8, 4, 1, false, 0x0, 0x800001ff, 0x0, 0x0, 0x0⟩
  | .MP_WAKE_DATA => ⟨0xec, 4, 1, false, 0x0, 0xffffffff, 0x0, 0x0, 0x0⟩
  | .MP_MAGIC_ADDR => ⟨0xf0, 8, 1, true, 0x0, 0xffffffffffff, 0x0, 0x0, 0x0⟩
  | .MP_WAKE_STATUS => ⟨0xf8, 4, 1, false, 0x0, 0x0, 0x0, 0x40000000, 0x0⟩
  | .MP_RX_PAUSE_STATE => ⟨0xfc, 4, 1, false, 0x0, 0x0, 0x0, 0x0, 0x0⟩
  | .MP_RX_EVENT => ⟨0x400, 4, 1, false, 0x0, 0x0, 0x0, 0x0, 0x1f⟩
  | .MP_RX_EVENT_EN => ⟨0x404, 4, 1, false, 0x1f, 0x1f, 0x0, 0x0, 0x0⟩
  | .MP_TX_CFG => ⟨0x100, 4, 1, false, 0x80003fe0, 0xff003fff, 0x0, 0x0, 0x0⟩
  | .MP_TX_TS_ADJ => ⟨0x104, 4, 1, false, 0x0, 0xffffffff, 0x0, 0x0, 0x0⟩
  | .MP_TX_SRC_ADDR => ⟨0x108, 8, 1, true, 0x0, 0xffffffffffff, 0x0, 0x0, 0x0⟩
  | .MP_TX_FC => ⟨0x110, 4, 1, false, 0xffff7fff, 0xffffffff, 0x0, 0x0, 0x0⟩
  | .MP_TX_FC_FORCE => ⟨0x114, 4, 1, false, 0x0, 0x1ff, 0x0, 0x0, 0x0⟩
  | .MP_MM_CTRL => ⟨0x118, 4, 1, false, 0xa0030, 0xc0fffff3, 0x0, 0x0, 0x0⟩
  | .MP_MM_STATUS => ⟨0x11c, 4, 1, false, 0x0, 0x0, 0x0, 0x0, 0x0⟩
  | .MP_TX_STATE => ⟨0x120, 4, 1, false, 0x0, 0x0, 0x0, 0x0, 0x0⟩
  | .MP_TX_EVENT => ⟨0x408, 4, 1, false, 0x0, 0x0, 0x0, 0x0, 0x3f⟩
  | .MP_TX_EVENT_EN => ⟨0x40c, 4, 1, false, 0x3f, 0x3f, 0x0, 0x0, 0x0⟩
  | .RE_CL_STATUS => ⟨0x80, 4, 1, false, 0x20ffff, 0x0, 0x0, 0x0, 0x0⟩
  | .RE_CL_SUBST => ⟨0x84, 4, 1, false, 0x0, 0x1f, 0x0, 0x80000000, 0x0⟩
  | .RE_FAULT_LAST => ⟨0x88, 4, 1, false, 0x0, 0x0, 0x0, 0x0, 0x0⟩
  | .RE_CL_EVENT => ⟨0x400, 4, 1, false, 0x0, 0x0, 0x0, 0x0, 0x3f⟩
  | .RE_CL_EVENT_EN => ⟨0x404, 4, 1, false, 0x3f, 0x3f, 0x0, 0x0, 0x0⟩
  | .RE_PS_CTRL => ⟨0x80, 4, 1, false, 0x40000000, 0x0, 0x0, 0x80000000, 0x0⟩
  | .RE_PS_ADDR => ⟨0x84, 4, 1, false, 0x0, 0x80001fff, 0x0, 0x0, 0x0⟩
  | .RE_PS_DATA => ⟨0x88, 4, 1, false, 0x0, 0xffffffff, 0x0, 0x0, 0x0⟩
  | .RE_PS_CRC => ⟨0x8c, 4, 1, false, 0x0, 0x0, 0x0, 0x0, 0x0⟩
  | .RE_BUDGET => ⟨0x90, 4, 1, false, 0x100, 0x7ff, 0x0, 0x0, 0x0⟩
  | .RE_RATE => ⟨0x94, 4, 1, false, 0x0, 0x0, 0x0, 0x0, 0x0⟩
  | .RE_FAULT_CFG => ⟨0x98, 4, 1, false, 0x0, 0xffff0001, 0x0, 0x0, 0x0⟩
  | .RE_DIGEST_SEED => ⟨0x9c, 4, 1, false, 0x0, 0xffffffff, 0x0, 0x0, 0x0⟩
  | .RE_HASH_KEY => ⟨0xa0, 4, 10, false, 0x0, 0xffffffff, 0x0, 0x0, 0x0⟩
  | .RE_ELAPSED => ⟨0xc8, 4, 1, false, 0x0, 0x0, 0x0, 0x0, 0x0⟩
  | .RE_MIRROR => ⟨0x100, 4, 16, false, 0x0, 0xffffffff, 0x0, 0x0, 0x0⟩
  | .RE_EVENT => ⟨0x400, 4, 1, false, 0x0, 0x0, 0x0, 0x0, 0x3⟩
  | .RE_EVENT_EN => ⟨0x404, 4, 1, false, 0x3, 0x3, 0x0, 0x0, 0x0⟩
  | .ST_CFG => ⟨0x80, 4, 1, false, 0x20000000, 0x60000000, 0x0, 0x0, 0x0⟩
  | .ST_OCC => ⟨0x84, 4, 1, false, 0x0, 0x0, 0x0, 0x0, 0x0⟩
  | .ST_RH_CTRL => ⟨0x90, 4, 1, false, 0x0, 0x0, 0x0, 0xf0000000, 0x0⟩
  | .ST_RH_STATE => ⟨0x94, 4, 1, false, 0x0, 0x0, 0x0, 0x0, 0x0⟩
  | .ST_LEARN_CFG => ⟨0x98, 4, 1, false, 0x800affff, 0xffffffff, 0x0, 0x0, 0x0⟩
  | .ST_TIMING => ⟨0x9c, 4, 1, false, 0x12c0100, 0xffffff00, 0x0, 0x0, 0x0⟩
  | .ST_MOVE_SEQ => ⟨0xa0, 4, 1, false, 0x0, 0x0, 0x0, 0x0, 0x0⟩
  | .ST_SEED_CUR => ⟨0xb0, 4, 2, false, 0x0, 0x0, 0x0, 0x0, 0x0⟩
  | .ST_SEED_NEW => ⟨0xb8, 4, 2, false, 0x0, 0xffffffff, 0x0, 0x0, 0x0⟩
  | .ST_EVENT => ⟨0x400, 4, 1, false, 0x0, 0x0, 0x0, 0x0, 0xff⟩
  | .ST_EVENT_EN => ⟨0x404, 4, 1, false, 0xff, 0xff, 0x0, 0x0, 0x0⟩
  | .MT_PTR => ⟨0x80, 4, 1, false, 0x0, 0x80003fff, 0x0, 0x0, 0x0⟩
  | .MT_CTRL => ⟨0x84, 4, 1, false, 0x0, 0x0, 0x0, 0xe0000000, 0x0⟩
  | .MT_REC => ⟨0x90, 4, 7, false, 0x0, 0xffffffff, 0x0, 0x0, 0x0⟩
  | .SC_NODE_SEL => ⟨0x80, 4, 1, false, 0x0, 0x30007fff, 0x0, 0x80000000, 0x0⟩
  | .SC_NODE_REC => ⟨0x84, 4, 8, false, 0x0, 0x0, 0x0, 0x0, 0x0⟩
  | .SC_NODE_LVL_C => ⟨0xa4, 4, 1, false, 0x0, 0x0, 0x0, 0x0, 0x0⟩
  | .SC_NODE_LVL_P => ⟨0xa8, 4, 1, false, 0x0, 0x0, 0x0, 0x0, 0x0⟩
  | .SC_PCFG => ⟨0x100, 64, 4, false, 0x2001400, 0xffffff00, 0x0, 0x0, 0x0⟩
  | .SC_PRATE => ⟨0x104, 64, 4, false, 0x0, 0x0, 0x0, 0x0, 0x0⟩
  | .SC_PFC_BANDS => ⟨0x108, 64, 4, true, 0x8040201008040201, 0xffffffffffffffff, 0x0, 0x0, 0x0⟩
  | .SC_GATE_STATE => ⟨0x110, 64, 4, false, 0xff, 0x0, 0x0, 0x0, 0x0⟩
  | .SC_GATE_CYCLE => ⟨0x114, 64, 4, false, 0x0, 0x0, 0x0, 0x0, 0x0⟩
  | .SC_GATE_MAX => ⟨0x120, 4, 56, false, 0xffffffff, 0x0, 0x0, 0x0, 0x0⟩
  | .SC_EVENT => ⟨0x400, 4, 1, false, 0x0, 0x0, 0x0, 0x0, 0xffff⟩
  | .SC_EVENT_EN => ⟨0x404, 4, 1, false, 0xffff, 0xffff, 0x0, 0x0, 0x0⟩
  | .TE_CFG => ⟨0x100, 64, 4, false, 0x0, 0x87f07f00, 0x0, 0x0, 0x0⟩
  | .TE_RING => ⟨0x104, 64, 4, false, 0x30000, 0xffff0fff, 0x0, 0x0, 0x0⟩
  | .TE_CTRL => ⟨0x108, 64, 4, false, 0x0, 0x40000000, 0x0, 0xa0000000, 0x0⟩
  | .TE_STATE => ⟨0x10c, 64, 4, false, 0x0, 0x0, 0x0, 0x0, 0x0⟩
  | .TE_RING_BASE => ⟨0x110, 64, 4, true, 0x0, 0xfffffffffffffe00, 0x0, 0x0, 0x0⟩
  | .TE_PROG_ELEM => ⟨0x118, 64, 4, false, 0x0, 0x0, 0x0, 0x0, 0x0⟩
  | .TE_PROG_SRC => ⟨0x11c, 64, 4, false, 0x0, 0x0, 0x0, 0x0, 0x0⟩
  | .TE_PROG_DST => ⟨0x120, 64, 4, false, 0x0, 0x0, 0x0, 0x0, 0x0⟩
  | .TE_FAULT_ADDR => ⟨0x128, 64, 4, true, 0x0, 0x0, 0x0, 0x0, 0x0⟩
  | .TE_FAULT => ⟨0x130, 64, 4, false, 0x0, 0x0, 0x0, 0x0, 0x0⟩
  | .TE_EVENT => ⟨0x400, 4, 1, false, 0x0, 0x0, 0x0, 0x0, 0xf0f0f0f⟩
  | .TE_EVENT_EN => ⟨0x404, 4, 1, false, 0xf0f0f0f, 0xf0f0f0f, 0x0, 0x0, 0x0⟩
  | .HP_CHMAP => ⟨0x100, 4, 4, false, 0x0, 0xffffffff, 0x0, 0x0, 0x0⟩
  | .TR_CFG => ⟨0x80, 4, 1, false, 0x0, 0xffff, 0x80000000, 0x0, 0x0⟩
  | .TR_OCC => ⟨0x84, 4, 1, false, 0x0, 0x0, 0x0, 0x0, 0x0⟩
  | .TR_INV => ⟨0x88, 4, 1, false, 0x0, 0x20000fff, 0x0, 0x80000000, 0x0⟩
  | .TR_LAST_FAULT => ⟨0x90, 8, 1, true, 0x0, 0x0, 0x0, 0x0, 0x0⟩
  | .TR_LAST_FUNC => ⟨0x98, 4, 1, false, 0x0, 0x0, 0x0, 0x0, 0x0⟩
  | .TR_EVENT => ⟨0x400, 4, 1, false, 0x0, 0x0, 0x0, 0x0, 0x7⟩
  | .TR_EVENT_EN => ⟨0x404, 4, 1, false, 0x7, 0x7, 0x0, 0x0, 0x0⟩
  | .WQ_CFG => ⟨0x80, 4, 1, false, 0x20008, 0xff000f, 0x0, 0x0, 0x0⟩
  | .WQ_POOL => ⟨0x84, 4, 1, false, 0x10000, 0x0, 0x0, 0x0, 0x0⟩
  | .WQ_POOL_RSV => ⟨0x88, 4, 1, false, 0x0, 0x0, 0x0, 0x0, 0x0⟩
  | .WQ_CTX_SEL => ⟨0x90, 4, 1, false, 0x0, 0x80007fff, 0x0, 0x0, 0x0⟩
  | .WQ_CTX => ⟨0x94, 4, 4, false, 0x0, 0x0, 0x0, 0x0, 0x0⟩
  | .WQ_EVENT => ⟨0x400, 4, 1, false, 0x0, 0x0, 0x0, 0x0, 0x7f⟩
  | .WQ_EVENT_EN => ⟨0x404, 4, 1, false, 0x7f, 0x7f, 0x0, 0x0, 0x0⟩
  | .WQ_ADM_CFG => ⟨0x80, 4, 1, false, 0x840000, 0x83ff0fff, 0xc000000, 0x0, 0x0⟩
  | .WQ_ADM_SQ_BASE => ⟨0x88, 8, 1, true, 0x0, 0xffffffffffffffff, 0x0, 0x0, 0x0⟩
  | .WQ_ADM_CQ_BASE => ⟨0x90, 8, 1, true, 0x0, 0xffffffffffffffff, 0x0, 0x0, 0x0⟩
  | .WQ_ADM_POS => ⟨0x98, 4, 1, false, 0x0, 0x0, 0x0, 0x0, 0x0⟩
  | .WQ_ADM_ERR => ⟨0x9c, 4, 1, false, 0x0, 0x0, 0x0, 0x0, 0x0⟩
  | .WQ_ADM_DB => ⟨0xa0, 4, 1, false, 0x0, 0x0, 0x0, 0x3, 0x0⟩
  | .EV_CFG => ⟨0x80, 4, 1, false, 0x640002, 0x3ff00ff, 0x0, 0x0, 0x0⟩
  | .EV_COMPLETE => ⟨0x84, 4, 1, false, 0x0, 0x0, 0x0, 0x80ffff1f, 0x0⟩
  | .EV_SIL_SEL => ⟨0x88, 4, 1, false, 0x0, 0x3ff, 0x0, 0x0, 0x0⟩
  | .EV_SIL_MOD => ⟨0x8c, 4, 1, false, 0x0, 0xff00ffff, 0x0, 0x0, 0x0⟩
  | .EV_SIL_STATE0 => ⟨0x90, 4, 1, false, 0x0, 0x0, 0x0, 0x0, 0x0⟩
  | .EV_SIL_STATE1 => ⟨0x94, 4, 1, false, 0x0, 0x0, 0x0, 0x0, 0x0⟩
  | .EV_SIL_DB => ⟨0x98, 4, 1, false, 0x0, 0x0, 0x0, 0xc00003ff, 0x0⟩
  | .EV_ROUTE_PTR => ⟨0x9c, 4, 1, false, 0x0, 0x800000ff, 0x0, 0x0, 0x0⟩
  | .EV_ROUTE_DATA => ⟨0xa0, 4, 1, false, 0x0, 0x800003ff, 0x0, 0x0, 0x0⟩
  | .EV_PRIV_ROUTE => ⟨0xc0, 4, 8, false, 0x0, 0x800003ff, 0x0, 0x0, 0x0⟩
  | .EV_PICC_MAP => ⟨0x100, 4, 32, false, 0x0, 0xc3ffffff, 0x0, 0x0, 0x0⟩
  | .EV_PRIV => ⟨0x400, 4, 1, false, 0x0, 0x0, 0x0, 0x0, 0xff⟩
  | .EV_PRIV_EN => ⟨0x404, 4, 1, false, 0xff, 0xff, 0x0, 0x0, 0x0⟩
  | .EV_EVENT => ⟨0x408, 4, 1, false, 0x0, 0x0, 0x0, 0x0, 0xf⟩
  | .EV_EVENT_EN => ⟨0x40c, 4, 1, false, 0xf, 0xf, 0x0, 0x0, 0x0⟩
  | .EV_PICC_PEND => ⟨0x410, 4, 1, false, 0x0, 0xffffffff, 0x0, 0x0, 0x0⟩
  | .EV_PICC_MASK => ⟨0x414, 4, 1, false, 0x0, 0xffffffff, 0x0, 0x0, 0x0⟩
  | .EV_PICC_LINE => ⟨0x418, 4, 1, false, 0x0, 0x0, 0x0, 0x0, 0x0⟩
  | .TB_CFG => ⟨0x80, 4, 1, false, 0x40000000, 0xc0000003, 0x0, 0x0, 0x0⟩
  | .TB_TIME => ⟨0x84, 4, 3, false, 0x0, 0x0, 0x0, 0x0, 0x0⟩
  | .TB_FREQ => ⟨0x90, 4, 1, false, 0x0, 0xffffffff, 0x0, 0x0, 0x0⟩
  | .TB_PHASE => ⟨0x94, 4, 1, false, 0x0, 0x0, 0x0, 0xffffffff, 0x0⟩
  | .TB_ADJ => ⟨0x98, 4, 1, false, 0x64, 0x1ff, 0x0, 0x0, 0x0⟩
  | .TB_PPS_CAP => ⟨0xa0, 4, 3, false, 0x0, 0x0, 0x0, 0x0, 0x0⟩
  | .TB_REF_PHASE => ⟨0xac, 4, 1, false, 0x0, 0x0, 0x0, 0x0, 0x0⟩
  | .TB_TOD_STAGE => ⟨0xb0, 4, 3, false, 0x0, 0x0, 0x0, 0x0, 0x0⟩
  | .TB_EVENT => ⟨0x400, 4, 1, false, 0x0, 0x0, 0x0, 0x0, 0x1f⟩
  | .TB_EVENT_EN => ⟨0x404, 4, 1, false, 0x1f, 0x1f, 0x0, 0x0, 0x0⟩
  | .PC_SEL => ⟨0x80, 4, 1, false, 0x0, 0x80003fff, 0x0, 0x0, 0x0⟩
  | .PC_VAL_LO => ⟨0x88, 4, 1, false, 0x0, 0x0, 0x0, 0x0, 0x0⟩
  | .PC_VAL_HI => ⟨0x8c, 4, 1, false, 0x0, 0x0, 0x0, 0x0, 0x0⟩
  | .PC_DUMP_STATE => ⟨0x90, 4, 1, false, 0x0, 0x0, 0x0, 0x0, 0x0⟩
  | .PC_DUMP_CTRL => ⟨0x94, 4, 1, false, 0x0, 0x0, 0x0, 0xe0000000, 0x0⟩
  | .PC_WRAP_LAST => ⟨0x98, 4, 1, false, 0x0, 0x0, 0x0, 0x0, 0x0⟩
  | .PC_WIN_DENY => ⟨0x9c, 4, 1, false, 0x0, 0x0, 0x0, 0x0, 0x0⟩
  | .PC_RATE_SEL => ⟨0xa0, 4, 1, false, 0x0, 0x7f, 0x0, 0x0, 0x0⟩
  | .PC_RATE_STATE => ⟨0xa4, 4, 1, false, 0x3e8, 0x0, 0x0, 0x0, 0x0⟩
  | .PC_RATE_LAST => ⟨0xa8, 8, 1, true, 0x0, 0x0, 0x0, 0x0, 0x0⟩
  | .PC_RATE_MIN => ⟨0xb0, 8, 1, true, 0xffffffffffff, 0x0, 0x0, 0x0, 0x0⟩
  | .PC_RATE_MAX => ⟨0xb8, 8, 1, true, 0x0, 0x0, 0x0, 0x0, 0x0⟩
  | .PC_EVENT => ⟨0x400, 4, 1, false, 0x0, 0x0, 0x0, 0x0, 0xf⟩
  | .PC_EVENT_EN => ⟨0x404, 4, 1, false, 0xf, 0xf, 0x0, 0x0, 0x0⟩
  | .PC_WRAP => ⟨0x408, 4, 1, false, 0x0, 0x0, 0x0, 0x0, 0x1⟩
  | .PW_CFG => ⟨0x80, 4, 1, false, 0x50000000, 0xf0000000, 0x0, 0x0, 0x0⟩
  | .PW_STATE => ⟨0x84, 4, 1, false, 0x0, 0x0, 0x0, 0x0, 0x0⟩
  | .PW_WAKE_TIMER => ⟨0x88, 4, 1, false, 0x0, 0xffffffff, 0x0, 0x0, 0x0⟩
  | .PW_LAST_WAKE => ⟨0x8c, 4, 1, false, 0x0, 0x0, 0x0, 0x0, 0x0⟩
  | .PW_LAST_WAKE_TS => ⟨0x90, 8, 1, true, 0x0, 0x0, 0x0, 0x0, 0x0⟩
  | .PW_ISLAND_SEL => ⟨0x98, 4, 1, false, 0x0, 0xff, 0x0, 0x0, 0x0⟩
  | .PW_ISLAND => ⟨0x9c, 4, 1, false, 0x0, 0x0, 0x0, 0x0, 0x0⟩
  | .PW_EVENT => ⟨0x400, 4, 1, false, 0x0, 0x0, 0x0, 0x0, 0x1f⟩
  | .PW_EVENT_EN => ⟨0x404, 4, 1, false, 0x1f, 0x1f, 0x0, 0x0, 0x0⟩
  | .BT_STATUS => ⟨0x80, 4, 1, false, 0x8000000, 0x0, 0x0, 0x0, 0x0⟩
  | .BT_CTRL => ⟨0x84, 4, 1, false, 0x0, 0x0, 0x0, 0xf0000001, 0x0⟩
  | .BT_IMG_VER => ⟨0x88, 8, 1, true, 0x0, 0x0, 0x0, 0x0, 0x0⟩
  | .BT_SLOT_A => ⟨0x90, 8, 1, true, 0x0, 0xfffffffffffff000, 0x0, 0x0, 0x0⟩
  | .BT_SLOT_B => ⟨0x98, 8, 1, true, 0x0, 0xfffffffffffff000, 0x0, 0x0, 0x0⟩
  | .BT_BCB_ADDR => ⟨0xa0, 8, 1, true, 0x0, 0xffffffffffffffc0, 0x0, 0x0, 0x0⟩
  | .BT_TRIAL => ⟨0xa8, 4, 1, false, 0x0, 0x0, 0x0, 0x0, 0x0⟩
  | .BT_FUSE_CTRL => ⟨0xac, 4, 1, false, 0x0, 0x7ff, 0x0, 0x80000000, 0x0⟩
  | .BT_FUSE_DATA => ⟨0xb0, 4, 1, false, 0x0, 0xffffffff, 0x0, 0x0, 0x0⟩
  | .BT_FUSE_RD => ⟨0xb4, 4, 1, false, 0x0, 0x0, 0x0, 0x0, 0x0⟩
  | .BT_DEBUG => ⟨0xb8, 4, 1, false, 0x0, 0x0, 0x0, 0x80000000, 0x0⟩
  | .BT_KEYS => ⟨0xbc, 4, 1, false, 0x0, 0x0, 0x0, 0x0, 0x0⟩
  | .BT_EVENT => ⟨0x400, 4, 1, false, 0x0, 0x0, 0x0, 0x0, 0xf⟩
  | .BT_EVENT_EN => ⟨0x404, 4, 1, false, 0xf, 0xf, 0x0, 0x0, 0x0⟩
  | .SV_CFG => ⟨0x80, 4, 1, false, 0xb8001770, 0xf800ffff, 0x0, 0x0, 0x0⟩
  | .SV_RO_THR => ⟨0x84, 4, 1, false, 0x321e, 0xffff, 0x0, 0x0, 0x0⟩
  | .SV_EYE_THR => ⟨0x88, 4, 1, false, 0x960096, 0xffffffff, 0x0, 0x0, 0x0⟩
  | .SV_SRAM_THR => ⟨0x8c, 4, 1, false, 0x10, 0xff, 0x0, 0x0, 0x0⟩
  | .SV_SPARES => ⟨0x90, 4, 1, false, 0x6300080, 0x0, 0x0, 0x0, 0x0⟩
  | .SV_MON_SEL => ⟨0x94, 4, 1, false, 0x0, 0xc001ffff, 0x0, 0x0, 0x0⟩
  | .SV_MON => ⟨0x98, 4, 1, false, 0x0, 0x0, 0x0, 0x0, 0x0⟩
  | .SV_LAST => ⟨0x9c, 4, 1, false, 0x0, 0x0, 0x0, 0x0, 0x0⟩
  | .SV_LMAP => ⟨0xa0, 4, 4, false, 0x0, 0x1f7df7df, 0x0, 0x0, 0x0⟩
  | .SV_RETIRED => ⟨0xb0, 4, 1, false, 0x0, 0x3ffff, 0x0, 0x0, 0x0⟩
  | .SV_REPAIR_CMD => ⟨0xb4, 4, 1, false, 0x0, 0x3ff, 0x0, 0xc0000000, 0x0⟩
  | .SV_REPAIR_DATA => ⟨0xb8, 4, 1, false, 0x0, 0xffffffff, 0x0, 0x0, 0x0⟩
  | .SV_EVENT => ⟨0x400, 4, 1, false, 0x0, 0x0, 0x0, 0x0, 0x3f⟩
  | .SV_EVENT_EN => ⟨0x404, 4, 1, false, 0x3f, 0x3f, 0x0, 0x0, 0x0⟩
  | .DU_STATUS => ⟨0x80, 4, 1, false, 0x0, 0x0, 0x0, 0x0, 0x0⟩
  | .DU_LEASE_ADDR => ⟨0x88, 8, 1, true, 0x0, 0xffffffffffffffc0, 0x0, 0x0, 0x0⟩
  | .DU_JOURNAL => ⟨0x90, 4, 1, false, 0x0, 0x0, 0x0, 0x0, 0x0⟩
  | .DU_LAST_FAIL => ⟨0x94, 4, 1, false, 0x0, 0x0, 0x0, 0x0, 0x0⟩
  | .DU_LAST_FAIL_TS => ⟨0x98, 8, 1, true, 0x0, 0x0, 0x0, 0x0, 0x0⟩
  | .DU_FLUSH => ⟨0xa0, 4, 1, false, 0x0, 0x0, 0x0, 0x0, 0x0⟩
  | .DU_EVENT => ⟨0x400, 4, 1, false, 0x0, 0x0, 0x0, 0x0, 0x1f⟩
  | .DU_EVENT_EN => ⟨0x404, 4, 1, false, 0x1f, 0x1f, 0x0, 0x0, 0x0⟩

/-- Registers of the header every page has (R85, R86). -/
def hdrRegs : List RegName :=
  [.PAGE_ID, .PAGE_VER, .PAGE_PWR, .PAGE_ACCESS, .PAGE_LOCK, .PAGE_AUTOWAKE, .PAGE_ACL]

/-- Registers of a page outside its header. -/
def PageKind.regs : PageKind → List RegName
  | .gl => [.GL_ID, .GL_STRAP, .GL_HOSTCFG, .GL_PROFILE, .GL_BADADDR, .GL_WINACL, .GL_SEM, .GL_ALERT, .GL_ALERT_EN]
  | .bt => [.BT_STATUS, .BT_CTRL, .BT_IMG_VER, .BT_SLOT_A, .BT_SLOT_B, .BT_BCB_ADDR, .BT_TRIAL, .BT_FUSE_CTRL,
      .BT_FUSE_DATA, .BT_FUSE_RD, .BT_DEBUG, .BT_KEYS, .BT_EVENT, .BT_EVENT_EN]
  | .pw => [.PW_CFG, .PW_STATE, .PW_WAKE_TIMER, .PW_LAST_WAKE, .PW_LAST_WAKE_TS, .PW_ISLAND_SEL, .PW_ISLAND,
      .PW_EVENT, .PW_EVENT_EN]
  | .ev => [.EV_CFG, .EV_COMPLETE, .EV_SIL_SEL, .EV_SIL_MOD, .EV_SIL_STATE0, .EV_SIL_STATE1, .EV_SIL_DB,
      .EV_ROUTE_PTR, .EV_ROUTE_DATA, .EV_PRIV_ROUTE, .EV_PICC_MAP, .EV_PRIV, .EV_PRIV_EN, .EV_EVENT, .EV_EVENT_EN,
      .EV_PICC_PEND, .EV_PICC_MASK, .EV_PICC_LINE]
  | .tb => [.TB_CFG, .TB_TIME, .TB_FREQ, .TB_PHASE, .TB_ADJ, .TB_PPS_CAP, .TB_REF_PHASE, .TB_TOD_STAGE, .TB_EVENT,
      .TB_EVENT_EN]
  | .pc => [.PC_SEL, .PC_VAL_LO, .PC_VAL_HI, .PC_DUMP_STATE, .PC_DUMP_CTRL, .PC_WRAP_LAST, .PC_WIN_DENY, .PC_RATE_SEL,
      .PC_RATE_STATE, .PC_RATE_LAST, .PC_RATE_MIN, .PC_RATE_MAX, .PC_EVENT, .PC_EVENT_EN, .PC_WRAP]
  | .sv => [.SV_CFG, .SV_RO_THR, .SV_EYE_THR, .SV_SRAM_THR, .SV_SPARES, .SV_MON_SEL, .SV_MON, .SV_LAST, .SV_LMAP,
      .SV_RETIRED, .SV_REPAIR_CMD, .SV_REPAIR_DATA, .SV_EVENT, .SV_EVENT_EN]
  | .du => [.DU_STATUS, .DU_LEASE_ADDR, .DU_JOURNAL, .DU_LAST_FAIL, .DU_LAST_FAIL_TS, .DU_FLUSH, .DU_EVENT,
      .DU_EVENT_EN]
  | .ln => [.LN_CTRL, .LN_STATUS, .LN_TXEQ, .LN_EYE, .LN_CAL, .LN_PRBS, .LN_PRBS_ERR, .LN_SUBST, .LN_EVENT,
      .LN_EVENT_EN]
  | .os => [.OS_CFG, .OS_SW_CTRL, .OS_SW_STATE, .OS_CM_PTR, .OS_CM_DATA, .OS_TRACE_SEL, .OS_TRACE_TX, .OS_TRACE_EXP,
      .OS_TRACE_RX, .OS_MEMBER, .OS_CLIENT, .OS_EVENT, .OS_EVENT_EN]
  | .mp => [.MP_PCS_CTRL, .MP_PCS_STATE, .MP_FEC_DEG, .MP_PCS_EVENT, .MP_PCS_EVENT_EN, .MP_RX_CFG, .MP_RX_LEN,
      .MP_RX_PRIO_MAP, .MP_RX_TS_ADJ, .MP_BUF_OCC, .MP_BUF_HDRM, .MP_PFC_THR, .MP_PFC_HDRM, .MP_SHARED_CFG,
      .MP_WAKE_CTRL, .MP_WAKE_PTR, .MP_WAKE_DATA, .MP_MAGIC_ADDR, .MP_WAKE_STATUS, .MP_RX_PAUSE_STATE, .MP_RX_EVENT,
      .MP_RX_EVENT_EN, .MP_TX_CFG, .MP_TX_TS_ADJ, .MP_TX_SRC_ADDR, .MP_TX_FC, .MP_TX_FC_FORCE, .MP_MM_CTRL,
      .MP_MM_STATUS, .MP_TX_STATE, .MP_TX_EVENT, .MP_TX_EVENT_EN]
  | .re => [.RE_CL_STATUS, .RE_CL_SUBST, .RE_FAULT_LAST, .RE_CL_EVENT, .RE_CL_EVENT_EN]
  | .ps => [.RE_PS_CTRL, .RE_PS_ADDR, .RE_PS_DATA, .RE_PS_CRC, .RE_BUDGET, .RE_RATE, .RE_FAULT_CFG, .RE_DIGEST_SEED,
      .RE_HASH_KEY, .RE_ELAPSED, .RE_MIRROR, .RE_EVENT, .RE_EVENT_EN]
  | .st => [.ST_CFG, .ST_OCC, .ST_RH_CTRL, .ST_RH_STATE, .ST_LEARN_CFG, .ST_TIMING, .ST_MOVE_SEQ, .ST_SEED_CUR,
      .ST_SEED_NEW, .ST_EVENT, .ST_EVENT_EN]
  | .mt => [.MT_PTR, .MT_CTRL, .MT_REC]
  | .sc => [.SC_NODE_SEL, .SC_NODE_REC, .SC_NODE_LVL_C, .SC_NODE_LVL_P, .SC_PCFG, .SC_PRATE, .SC_PFC_BANDS,
      .SC_GATE_STATE, .SC_GATE_CYCLE, .SC_GATE_MAX, .SC_EVENT, .SC_EVENT_EN]
  | .te => [.TE_CFG, .TE_RING, .TE_CTRL, .TE_STATE, .TE_RING_BASE, .TE_PROG_ELEM, .TE_PROG_SRC, .TE_PROG_DST,
      .TE_FAULT_ADDR, .TE_FAULT, .TE_EVENT, .TE_EVENT_EN]
  | .wq => [.WQ_CFG, .WQ_POOL, .WQ_POOL_RSV, .WQ_CTX_SEL, .WQ_CTX, .WQ_EVENT, .WQ_EVENT_EN]
  | .wa => [.WQ_ADM_CFG, .WQ_ADM_SQ_BASE, .WQ_ADM_CQ_BASE, .WQ_ADM_POS, .WQ_ADM_ERR, .WQ_ADM_DB]
  | .hp => [.HP_CHMAP]
  | .tr => [.TR_CFG, .TR_OCC, .TR_INV, .TR_LAST_FAULT, .TR_LAST_FUNC, .TR_EVENT, .TR_EVENT_EN]
  | .bare => []

/-- First page index of a kind. -/
def PageKind.first : PageKind → Nat
  | .gl => 0x0
  | .bt => 0x1
  | .pw => 0x2
  | .ev => 0x3
  | .tb => 0x4
  | .pc => 0x5
  | .sv => 0x6
  | .du => 0x7
  | .ln => 0x10
  | .os => 0x30
  | .mp => 0x40
  | .re => 0x80
  | .ps => 0x9f
  | .st => 0xa0
  | .mt => 0xa8
  | .sc => 0xb0
  | .te => 0xc0
  | .wq => 0xd0
  | .wa => 0xd1
  | .hp => 0xe0
  | .tr => 0xe8
  | .bare => 0xD3

/-- Page index map (R84): the kind of a listed page and its instance number; none where no page is listed. -/
def pageOf (i : Nat) : Option (PageKind × Nat) :=

  if i = 0 then some (.gl, 0) else
  if i = 1 then some (.bt, 0) else
  if i = 2 then some (.pw, 0) else
  if i = 3 then some (.ev, 0) else
  if i = 4 then some (.tb, 0) else
  if i = 5 then some (.pc, 0) else
  if i = 6 then some (.sv, 0) else
  if i = 7 then some (.du, 0) else
  if 0x10 ≤ i ∧ i < 0x22 then some (.ln, i - 0x10) else
  if 0x30 ≤ i ∧ i < 0x40 then some (.os, i - 0x30) else
  if 0x40 ≤ i ∧ i < 0x80 then some (.mp, i - 0x40) else
  if 0x80 ≤ i ∧ i < 0x98 then some (.re, i - 0x80) else
  if i = 0x9F then some (.ps, 0) else
  if i = 0xA0 then some (.st, 0) else
  if 0xA1 ≤ i ∧ i < 0xA4 then some (.bare, i - 0xA0) else
  if 0xA8 ≤ i ∧ i < 0xAC then some (.mt, i - 0xA8) else
  if 0xB0 ≤ i ∧ i < 0xC0 then some (.sc, i - 0xB0) else
  if 0xC0 ≤ i ∧ i < 0xD0 then some (.te, i - 0xC0) else
  if i = 0xD0 then some (.wq, 0) else
  if i = 0xD1 ∨ i = 0xD2 then some (.wa, i - 0xD1) else
  if i = 0xD3 then some (.bare, 3) else
  if i = 0xE0 then some (.hp, 0) else
  if 0xE1 ≤ i ∧ i < 0xE4 then some (.bare, i - 0xE0) else
  if i = 0xE8 then some (.tr, 0) else none

/-- Type code of a page in PAGE_ID (R84). -/
def pageType (i : Nat) : Nat :=
  if i < 8 then i + 1 else
  if i < 0x30 then 0x10 else if i < 0x40 then 0x11 else if i < 0x80 then 0x12 else
  if i < 0x98 then 0x13 else if i = 0x9F then 0x14 else if i < 0xA4 then 0x15 else
  if i < 0xAC then 0x16 else if i < 0xC0 then 0x17 else if i < 0xD0 then 0x18 else
  if i < 0xD4 then 0x19 else if i < 0xE4 then 0x1A else 0x1B

/-- Instance number of a page in PAGE_ID: its index minus the first index of its range (R84). -/
def pageInstance (i : Nat) : Nat :=
  if i < 8 then 0 else
  if i < 0x30 then i - 0x10 else if i < 0x40 then i - 0x30 else if i < 0x80 then i - 0x40 else
  if i < 0x98 then i - 0x80 else if i = 0x9F then 0 else if i < 0xA4 then i - 0xA0 else
  if i < 0xAC then i - 0xA8 else if i < 0xC0 then i - 0xB0 else if i < 0xD0 then i - 0xC0 else
  if i < 0xD4 then i - 0xD0 else if i < 0xE4 then i - 0xE0 else 0

/-- Island code (PAGE_PWR ISLAND) of the island that serves a page outside its header (R84). -/
def pageIsland (i : Nat) : Nat :=
  if i = 1 then 0x01 else
  if i = 0 ∨ i = 2 ∨ i = 6 then 0x00 else
  if i < 8 then 0x02 else
  if 0x10 ≤ i ∧ i < 0x22 then i else
  if 0x40 ≤ i ∧ i < 0x80 then 0x30 + (i - 0x40) / 8 else
  if 0xA0 ≤ i ∧ i < 0xA4 then 0x05 else
  if 0xD0 ≤ i ∧ i < 0xD4 then 0x04 else
  if 0xE0 ≤ i ∧ i < 0xE4 then 0x40 + (i - 0xE0) else 0x02


/-- Fuse default of PAGE_ACL in a block as shipped (R91), with ACL_STW fixed at 3. -/
def aclDefault (page : Nat) : Nat :=
  if page = 1 then 0x30101 else 0x30303

/-- Reset value of element `idx` of a register of page `page`, the values the field maps give per page,
instance, channel or lane among them (R84, R91, and the maps of TE_CFGk, TE_STATEk, HP_CHMAP, OS_CFG,
WQ_ADM_CFG, SV_LMAP and LN_STATUS). The seeds of ST_SEED_CUR are random at reset (spec/08): free values, of which the two
differ (R226). -/
def resetReg (n : RegName) (page idx : Nat) : Nat :=
  match n with
  | .PAGE_ID => pageType page * 256 + pageInstance page
  | .PAGE_PWR => pageIsland page * 65536 + 4
  | .PAGE_ACL => aclDefault page
  | .LN_STATUS => (page - 0x10) * 65536
  | .OS_CFG => 0xC00000 + (page - 0x30) * 65536 + (page - 0x30) * 4096
  | .ST_SEED_CUR =>
    if idx = 1 ∧ Config.resetSeed 1 = Config.resetSeed 0 then (Config.resetSeed 0 + 1).toNat else (Config.resetSeed idx).toNat
  | .TE_CFG =>
    let n := (page - 0xC0) * 4 + idx
    let prio := if n < 40 then 4 else if n < 44 then 6 else if n = 44 then 2 else if n < 48 then 5 else 3
    let ra := if n < 40 then 0x7F else 0x0F
    let en := if n < 48 then 1 else 0
    en * 2 ^ 31 + prio * 2 ^ 24 + ra * 2 ^ 8
  | .TE_STATE =>
    let n := (page - 0xC0) * 4 + idx
    (if n < 48 then 1 else 0) * 2 ^ 29 + n % 3 * 2 ^ 24
  | .HP_CHMAP => (List.range 16).foldl (fun a j => a + (16 * idx + j) % 3 * 2 ^ (2 * j)) 0
  | .SV_LMAP =>
    (List.range 5).foldl (fun a j => if 5 * idx + j < 18 then a + (5 * idx + j) * 2 ^ (6 * j) else a) 0
  | .WQ_ADM_CFG => n.row.reset + (page - 0xD1) * 2 ^ 26
  | _ => n.row.reset

/-- Byte address, in the aperture, of element `idx` of register `n` on page `page` (R82). -/
def locAt (n : RegName) (page idx : Nat) : Nat := page * 4096 + n.row.off + n.row.stride * idx

/-- Kind of the page that holds a register; header registers answer `bare`. -/
def RegName.kind : RegName → PageKind
  | .PAGE_ID => .bare
  | .PAGE_VER => .bare
  | .PAGE_PWR => .bare
  | .PAGE_ACCESS => .bare
  | .PAGE_LOCK => .bare
  | .PAGE_AUTOWAKE => .bare
  | .PAGE_ACL => .bare
  | .GL_ID => .gl
  | .GL_STRAP => .gl
  | .GL_HOSTCFG => .gl
  | .GL_PROFILE => .gl
  | .GL_BADADDR => .gl
  | .GL_WINACL => .gl
  | .GL_SEM => .gl
  | .GL_ALERT => .gl
  | .GL_ALERT_EN => .gl
  | .LN_CTRL => .ln
  | .LN_STATUS => .ln
  | .LN_TXEQ => .ln
  | .LN_EYE => .ln
  | .LN_CAL => .ln
  | .LN_PRBS => .ln
  | .LN_PRBS_ERR => .ln
  | .LN_SUBST => .ln
  | .LN_EVENT => .ln
  | .LN_EVENT_EN => .ln
  | .MP_PCS_CTRL => .mp
  | .MP_PCS_STATE => .mp
  | .MP_FEC_DEG => .mp
  | .MP_PCS_EVENT => .mp
  | .MP_PCS_EVENT_EN => .mp
  | .OS_CFG => .os
  | .OS_SW_CTRL => .os
  | .OS_SW_STATE => .os
  | .OS_CM_PTR => .os
  | .OS_CM_DATA => .os
  | .OS_TRACE_SEL => .os
  | .OS_TRACE_TX => .os
  | .OS_TRACE_EXP => .os
  | .OS_TRACE_RX => .os
  | .OS_MEMBER => .os
  | .OS_CLIENT => .os
  | .OS_EVENT => .os
  | .OS_EVENT_EN => .os
  | .MP_RX_CFG => .mp
  | .MP_RX_LEN => .mp
  | .MP_RX_PRIO_MAP => .mp
  | .MP_RX_TS_ADJ => .mp
  | .MP_BUF_OCC => .mp
  | .MP_BUF_HDRM => .mp
  | .MP_PFC_THR => .mp
  | .MP_PFC_HDRM => .mp
  | .MP_SHARED_CFG => .mp
  | .MP_WAKE_CTRL => .mp
  | .MP_WAKE_PTR => .mp
  | .MP_WAKE_DATA => .mp
  | .MP_MAGIC_ADDR => .mp
  | .MP_WAKE_STATUS => .mp
  | .MP_RX_PAUSE_STATE => .mp
  | .MP_RX_EVENT => .mp
  | .MP_RX_EVENT_EN => .mp
  | .MP_TX_CFG => .mp
  | .MP_TX_TS_ADJ => .mp
  | .MP_TX_SRC_ADDR => .mp
  | .MP_TX_FC => .mp
  | .MP_TX_FC_FORCE => .mp
  | .MP_MM_CTRL => .mp
  | .MP_MM_STATUS => .mp
  | .MP_TX_STATE => .mp
  | .MP_TX_EVENT => .mp
  | .MP_TX_EVENT_EN => .mp
  | .RE_CL_STATUS => .re
  | .RE_CL_SUBST => .re
  | .RE_FAULT_LAST => .re
  | .RE_CL_EVENT => .re
  | .RE_CL_EVENT_EN => .re
  | .RE_PS_CTRL => .ps
  | .RE_PS_ADDR => .ps
  | .RE_PS_DATA => .ps
  | .RE_PS_CRC => .ps
  | .RE_BUDGET => .ps
  | .RE_RATE => .ps
  | .RE_FAULT_CFG => .ps
  | .RE_DIGEST_SEED => .ps
  | .RE_HASH_KEY => .ps
  | .RE_ELAPSED => .ps
  | .RE_MIRROR => .ps
  | .RE_EVENT => .ps
  | .RE_EVENT_EN => .ps
  | .ST_CFG => .st
  | .ST_OCC => .st
  | .ST_RH_CTRL => .st
  | .ST_RH_STATE => .st
  | .ST_LEARN_CFG => .st
  | .ST_TIMING => .st
  | .ST_MOVE_SEQ => .st
  | .ST_SEED_CUR => .st
  | .ST_SEED_NEW => .st
  | .ST_EVENT => .st
  | .ST_EVENT_EN => .st
  | .MT_PTR => .mt
  | .MT_CTRL => .mt
  | .MT_REC => .mt
  | .SC_NODE_SEL => .sc
  | .SC_NODE_REC => .sc
  | .SC_NODE_LVL_C => .sc
  | .SC_NODE_LVL_P => .sc
  | .SC_PCFG => .sc
  | .SC_PRATE => .sc
  | .SC_PFC_BANDS => .sc
  | .SC_GATE_STATE => .sc
  | .SC_GATE_CYCLE => .sc
  | .SC_GATE_MAX => .sc
  | .SC_EVENT => .sc
  | .SC_EVENT_EN => .sc
  | .TE_CFG => .te
  | .TE_RING => .te
  | .TE_CTRL => .te
  | .TE_STATE => .te
  | .TE_RING_BASE => .te
  | .TE_PROG_ELEM => .te
  | .TE_PROG_SRC => .te
  | .TE_PROG_DST => .te
  | .TE_FAULT_ADDR => .te
  | .TE_FAULT => .te
  | .TE_EVENT => .te
  | .TE_EVENT_EN => .te
  | .HP_CHMAP => .hp
  | .TR_CFG => .tr
  | .TR_OCC => .tr
  | .TR_INV => .tr
  | .TR_LAST_FAULT => .tr
  | .TR_LAST_FUNC => .tr
  | .TR_EVENT => .tr
  | .TR_EVENT_EN => .tr
  | .WQ_CFG => .wq
  | .WQ_POOL => .wq
  | .WQ_POOL_RSV => .wq
  | .WQ_CTX_SEL => .wq
  | .WQ_CTX => .wq
  | .WQ_EVENT => .wq
  | .WQ_EVENT_EN => .wq
  | .WQ_ADM_CFG => .wa
  | .WQ_ADM_SQ_BASE => .wa
  | .WQ_ADM_CQ_BASE => .wa
  | .WQ_ADM_POS => .wa
  | .WQ_ADM_ERR => .wa
  | .WQ_ADM_DB => .wa
  | .EV_CFG => .ev
  | .EV_COMPLETE => .ev
  | .EV_SIL_SEL => .ev
  | .EV_SIL_MOD => .ev
  | .EV_SIL_STATE0 => .ev
  | .EV_SIL_STATE1 => .ev
  | .EV_SIL_DB => .ev
  | .EV_ROUTE_PTR => .ev
  | .EV_ROUTE_DATA => .ev
  | .EV_PRIV_ROUTE => .ev
  | .EV_PICC_MAP => .ev
  | .EV_PRIV => .ev
  | .EV_PRIV_EN => .ev
  | .EV_EVENT => .ev
  | .EV_EVENT_EN => .ev
  | .EV_PICC_PEND => .ev
  | .EV_PICC_MASK => .ev
  | .EV_PICC_LINE => .ev
  | .TB_CFG => .tb
  | .TB_TIME => .tb
  | .TB_FREQ => .tb
  | .TB_PHASE => .tb
  | .TB_ADJ => .tb
  | .TB_PPS_CAP => .tb
  | .TB_REF_PHASE => .tb
  | .TB_TOD_STAGE => .tb
  | .TB_EVENT => .tb
  | .TB_EVENT_EN => .tb
  | .PC_SEL => .pc
  | .PC_VAL_LO => .pc
  | .PC_VAL_HI => .pc
  | .PC_DUMP_STATE => .pc
  | .PC_DUMP_CTRL => .pc
  | .PC_WRAP_LAST => .pc
  | .PC_WIN_DENY => .pc
  | .PC_RATE_SEL => .pc
  | .PC_RATE_STATE => .pc
  | .PC_RATE_LAST => .pc
  | .PC_RATE_MIN => .pc
  | .PC_RATE_MAX => .pc
  | .PC_EVENT => .pc
  | .PC_EVENT_EN => .pc
  | .PC_WRAP => .pc
  | .PW_CFG => .pw
  | .PW_STATE => .pw
  | .PW_WAKE_TIMER => .pw
  | .PW_LAST_WAKE => .pw
  | .PW_LAST_WAKE_TS => .pw
  | .PW_ISLAND_SEL => .pw
  | .PW_ISLAND => .pw
  | .PW_EVENT => .pw
  | .PW_EVENT_EN => .pw
  | .BT_STATUS => .bt
  | .BT_CTRL => .bt
  | .BT_IMG_VER => .bt
  | .BT_SLOT_A => .bt
  | .BT_SLOT_B => .bt
  | .BT_BCB_ADDR => .bt
  | .BT_TRIAL => .bt
  | .BT_FUSE_CTRL => .bt
  | .BT_FUSE_DATA => .bt
  | .BT_FUSE_RD => .bt
  | .BT_DEBUG => .bt
  | .BT_KEYS => .bt
  | .BT_EVENT => .bt
  | .BT_EVENT_EN => .bt
  | .SV_CFG => .sv
  | .SV_RO_THR => .sv
  | .SV_EYE_THR => .sv
  | .SV_SRAM_THR => .sv
  | .SV_SPARES => .sv
  | .SV_MON_SEL => .sv
  | .SV_MON => .sv
  | .SV_LAST => .sv
  | .SV_LMAP => .sv
  | .SV_RETIRED => .sv
  | .SV_REPAIR_CMD => .sv
  | .SV_REPAIR_DATA => .sv
  | .SV_EVENT => .sv
  | .SV_EVENT_EN => .sv
  | .DU_STATUS => .du
  | .DU_LEASE_ADDR => .du
  | .DU_JOURNAL => .du
  | .DU_LAST_FAIL => .du
  | .DU_LAST_FAIL_TS => .du
  | .DU_FLUSH => .du
  | .DU_EVENT => .du
  | .DU_EVENT_EN => .du

/-- Byte address of element `idx` of register `n` in instance `inst` of its page. -/
def loc (n : RegName) (inst : Nat := 0) (idx : Nat := 0) : Nat := locAt n (n.kind.first + inst) idx

/-- Find the register that holds byte offset `off` of a page, with its element and, for a 64-bit register,
whether the offset is that of the high word. -/
def findReg (off : Nat) : List RegName → Option (RegName × Nat × Bool)
  | [] => none
  | n :: ns =>
    let r := n.row
    if r.off ≤ off ∧ off < r.off + r.stride * (r.count - 1) + (if r.wide then 8 else 4) then
      let d := off - r.off
      let k := d / r.stride
      let m := d % r.stride
      if m = 0 then some (n, k, false)
      else if m = 4 ∧ r.wide = true then some (n, k, true)
      else findReg off ns
    else findReg off ns

/-- The register at an offset of a listed page (R85), header included. -/
def regAt (page off : Nat) : Option (RegName × Nat × Bool) :=
  if off < 0x80 then findReg off hdrRegs
  else match pageOf page with
    | some (k, inst) =>
      match findReg off k.regs with
      | some (n, i, hi) =>
        -- eight classes per port block; the node read registers are instance 0's only (spec/12)
        if n = .SC_GATE_MAX ∧ 8 ≤ i % 16 then none
        else if k = .sc ∧ off < 0x100 ∧ inst ≠ 0 then none
        else some (n, i, hi)
      | none => none
    | none => none

/-- Reset value of the 32-bit word at a byte address of the control pages. -/
def resetWord (a : Nat) : BitVec 32 :=
  match regAt (a / 4096) (a % 4096) with
  | some (n, k, hi) =>
    let v := resetReg n (a / 4096) k
    BitVec.ofNat 32 (if hi then v / 2 ^ 32 else v)
  | none => 0

/-- A field of a register: its highest and lowest bit. -/
structure Fld where
  hi : Nat
  lo : Nat
  deriving DecidableEq, Repr

/-! Fields of the registers, named as the field maps name them. -/
namespace F
def PAGE_ID_TYPE : Fld := ⟨15, 8⟩
def PAGE_ID_INSTANCE : Fld := ⟨7, 0⟩
def PAGE_VER_LAYOUT_MAJOR : Fld := ⟨15, 8⟩
def PAGE_VER_LAYOUT_MINOR : Fld := ⟨7, 0⟩
def PAGE_PWR_ISLAND : Fld := ⟨23, 16⟩
def PAGE_PWR_CHANGING : Fld := ⟨4, 4⟩
def PAGE_PWR_STATE : Fld := ⟨2, 0⟩
def PAGE_ACCESS_REASON : Fld := ⟨31, 28⟩
def PAGE_ACCESS_MASTER : Fld := ⟨27, 26⟩
def PAGE_ACCESS_WRITE : Fld := ⟨25, 25⟩
def PAGE_ACCESS_COUNT : Fld := ⟨23, 16⟩
def PAGE_ACCESS_OFFSET : Fld := ⟨11, 2⟩
def PAGE_ACCESS_CLEAR : Fld := ⟨0, 0⟩
def PAGE_LOCK_LOCK : Fld := ⟨0, 0⟩
def PAGE_AUTOWAKE_AW : Fld := ⟨3, 0⟩
def PAGE_ACL_ACL_DBG : Fld := ⟨26, 24⟩
def PAGE_ACL_ACL_STW : Fld := ⟨18, 16⟩
def PAGE_ACL_ACL_CPB : Fld := ⟨10, 8⟩
def PAGE_ACL_ACL_CPA : Fld := ⟨2, 0⟩
def GL_ID_PART_CODE : Fld := ⟨31, 16⟩
def GL_ID_MAJOR_VER : Fld := ⟨15, 8⟩
def GL_ID_MINOR_VER : Fld := ⟨7, 0⟩
def GL_STRAP_PRESENCE : Fld := ⟨15, 15⟩
def GL_STRAP_DUO_ROLE : Fld := ⟨5, 4⟩
def GL_STRAP_PROFILE_SEL : Fld := ⟨1, 0⟩
def GL_HOSTCFG_DBL_READ : Fld := ⟨0, 0⟩
def GL_PROFILE_LOADING : Fld := ⟨31, 31⟩
def GL_PROFILE_VALID : Fld := ⟨27, 24⟩
def GL_PROFILE_ACTIVE : Fld := ⟨18, 16⟩
def GL_BADADDR_MASTER : Fld := ⟨31, 30⟩
def GL_BADADDR_WRITE : Fld := ⟨29, 29⟩
def GL_BADADDR_ADDR : Fld := ⟨25, 2⟩
def GL_WINACL_IX_WR : Fld := ⟨15, 12⟩
def GL_WINACL_IX_RD : Fld := ⟨11, 8⟩
def GL_WINACL_CW_RD : Fld := ⟨7, 4⟩
def GL_WINACL_DB_WR : Fld := ⟨3, 0⟩
def GL_SEM_HELD : Fld := ⟨31, 31⟩
def GL_SEM_FORCE : Fld := ⟨30, 30⟩
def GL_SEM_MASTER : Fld := ⟨29, 28⟩
def GL_SEM_TOKEN : Fld := ⟨15, 0⟩
def GL_ALERT_FUSE : Fld := ⟨9, 9⟩
def GL_ALERT_FATAL : Fld := ⟨8, 8⟩
def GL_ALERT_DUO : Fld := ⟨7, 7⟩
def GL_ALERT_WEAR : Fld := ⟨6, 6⟩
def GL_ALERT_PWR_WARN : Fld := ⟨5, 5⟩
def GL_ALERT_THERMAL : Fld := ⟨4, 4⟩
def GL_ALERT_WAKE_FAIL : Fld := ⟨3, 3⟩
def GL_ALERT_BOOT : Fld := ⟨2, 2⟩
def GL_ALERT_PROFILE : Fld := ⟨1, 1⟩
def GL_ALERT_STRAP : Fld := ⟨0, 0⟩
def LN_CTRL_TX_SWING : Fld := ⟨15, 12⟩
def LN_CTRL_CAL_AUTO : Fld := ⟨11, 11⟩
def LN_CTRL_CAL_PERIOD : Fld := ⟨10, 8⟩
def LN_CTRL_LOOPBACK : Fld := ⟨7, 6⟩
def LN_CTRL_RX_POL : Fld := ⟨5, 5⟩
def LN_CTRL_TX_POL : Fld := ⟨4, 4⟩
def LN_CTRL_TX_FFE_MANUAL : Fld := ⟨3, 3⟩
def LN_CTRL_SPARE_WARM : Fld := ⟨2, 2⟩
def LN_CTRL_TEST : Fld := ⟨1, 1⟩
def LN_STATUS_LOGICAL : Fld := ⟨20, 16⟩
def LN_STATUS_TRAINED : Fld := ⟨11, 11⟩
def LN_STATUS_AM_LOCK : Fld := ⟨10, 10⟩
def LN_STATUS_BLOCK_LOCK : Fld := ⟨9, 9⟩
def LN_STATUS_CDR_LOCK : Fld := ⟨8, 8⟩
def LN_STATUS_SIG_DET : Fld := ⟨7, 7⟩
def LN_STATUS_PRECODE : Fld := ⟨6, 6⟩
def LN_STATUS_LANE_STATE : Fld := ⟨2, 0⟩
def LN_TXEQ_C_M3 : Fld := ⟨29, 25⟩
def LN_TXEQ_C_M2 : Fld := ⟨24, 20⟩
def LN_TXEQ_C_M1 : Fld := ⟨19, 15⟩
def LN_TXEQ_C_0 : Fld := ⟨14, 10⟩
def LN_TXEQ_C_P1 : Fld := ⟨9, 5⟩
def LN_TXEQ_C_P2 : Fld := ⟨4, 0⟩
def LN_EYE_EYE_H : Fld := ⟨31, 16⟩
def LN_EYE_EYE_W : Fld := ⟨15, 0⟩
def LN_CAL_CAL_REQ : Fld := ⟨31, 31⟩
def LN_CAL_CAL_PENDING : Fld := ⟨30, 30⟩
def LN_CAL_CAL_RUN : Fld := ⟨29, 29⟩
def LN_CAL_CAL_TEMP : Fld := ⟨15, 8⟩
def LN_CAL_CAL_COUNT : Fld := ⟨7, 0⟩
def LN_PRBS_CHK_PAT : Fld := ⟨7, 4⟩
def LN_PRBS_GEN_PAT : Fld := ⟨3, 0⟩
def LN_PRBS_ERR_COUNT : Fld := ⟨63, 0⟩
def LN_SUBST_PARKED : Fld := ⟨31, 31⟩
def LN_SUBST_FROM_LANE : Fld := ⟨12, 8⟩
def LN_SUBST_STEP : Fld := ⟨3, 0⟩
def LN_EVENT_SUBST_DONE : Fld := ⟨6, 6⟩
def LN_EVENT_CAL_DONE : Fld := ⟨5, 5⟩
def LN_EVENT_TRAIN_FAIL : Fld := ⟨4, 4⟩
def LN_EVENT_EYE_LOW : Fld := ⟨3, 3⟩
def LN_EVENT_BLOCK_UNLOCK : Fld := ⟨2, 2⟩
def LN_EVENT_CDR_UNLOCK : Fld := ⟨1, 1⟩
def LN_EVENT_SIG_LOSS : Fld := ⟨0, 0⟩
def MP_PCS_CTRL_TRAIN_TO : Fld := ⟨15, 12⟩
def MP_PCS_CTRL_RETRY_HOLD : Fld := ⟨11, 8⟩
def MP_PCS_CTRL_FEC_DEG_EN : Fld := ⟨4, 4⟩
def MP_PCS_CTRL_PRECODE_REQ : Fld := ⟨3, 3⟩
def MP_PCS_CTRL_HOLD : Fld := ⟨2, 2⟩
def MP_PCS_CTRL_LINK_MODE : Fld := ⟨1, 0⟩
def MP_PCS_STATE_RETRIES : Fld := ⟨31, 24⟩
def MP_PCS_STATE_SKEW : Fld := ⟨23, 16⟩
def MP_PCS_STATE_FEC_ON : Fld := ⟨10, 10⟩
def MP_PCS_STATE_RX_FAULT : Fld := ⟨9, 8⟩
def MP_PCS_STATE_AN_RESULT : Fld := ⟨7, 4⟩
def MP_PCS_STATE_STATE : Fld := ⟨2, 0⟩
def MP_FEC_DEG_CLR : Fld := ⟨31, 16⟩
def MP_FEC_DEG_SET : Fld := ⟨15, 0⟩
def MP_PCS_EVENT_REMOTE_FAULT : Fld := ⟨6, 6⟩
def MP_PCS_EVENT_SKEW_FAIL : Fld := ⟨5, 5⟩
def MP_PCS_EVENT_FEC_DEG_CLR : Fld := ⟨4, 4⟩
def MP_PCS_EVENT_FEC_DEG_SET : Fld := ⟨3, 3⟩
def MP_PCS_EVENT_AN_NO_COMMON : Fld := ⟨2, 2⟩
def MP_PCS_EVENT_LINK_DOWN : Fld := ⟨1, 1⟩
def MP_PCS_EVENT_LINK_UP : Fld := ⟨0, 0⟩
def OS_CFG_ACTIVE : Fld := ⟨31, 31⟩
def OS_CFG_FOLLOW : Fld := ⟨24, 24⟩
def OS_CFG_TIM_ACT : Fld := ⟨23, 23⟩
def OS_CFG_TRACE_CHK : Fld := ⟨22, 22⟩
def OS_CFG_FORCE_AIS : Fld := ⟨21, 21⟩
def OS_CFG_FORCE_RDI : Fld := ⟨20, 20⟩
def OS_CFG_RX_GROUP : Fld := ⟨19, 16⟩
def OS_CFG_TX_GROUP : Fld := ⟨15, 12⟩
def OS_CFG_MEMBERS : Fld := ⟨4, 0⟩
def OS_SW_CTRL_COPY : Fld := ⟨31, 31⟩
def OS_SW_CTRL_SW_TIMEOUT : Fld := ⟨7, 0⟩
def OS_SW_STATE_LAST_STATUS : Fld := ⟨31, 24⟩
def OS_SW_STATE_MAP_DIFF : Fld := ⟨18, 18⟩
def OS_SW_STATE_PEER_ACK : Fld := ⟨17, 17⟩
def OS_SW_STATE_PEER_REQ : Fld := ⟨16, 16⟩
def OS_SW_STATE_TARGET : Fld := ⟨10, 10⟩
def OS_SW_STATE_RX_PAGE : Fld := ⟨9, 9⟩
def OS_SW_STATE_TX_PAGE : Fld := ⟨8, 8⟩
def OS_SW_STATE_STATE : Fld := ⟨2, 0⟩
def OS_CM_PTR_AUTOINC : Fld := ⟨31, 31⟩
def OS_CM_PTR_PAGE : Fld := ⟨10, 10⟩
def OS_CM_PTR_SLOT : Fld := ⟨9, 0⟩
def OS_CM_DATA_CLIENT : Fld := ⟨5, 0⟩
def OS_TRACE_SEL_MEMBER : Fld := ⟨4, 0⟩
def OS_TRACE_TX_W : Fld := ⟨31, 0⟩
def OS_TRACE_EXP_W : Fld := ⟨31, 0⟩
def OS_TRACE_RX_W : Fld := ⟨31, 0⟩
def OS_MEMBER_VALID : Fld := ⟨31, 31⟩
def OS_MEMBER_PHYS_LANE : Fld := ⟨30, 26⟩
def OS_MEMBER_ALIGN : Fld := ⟨25, 24⟩
def OS_MEMBER_SKEW : Fld := ⟨23, 16⟩
def OS_MEMBER_MAP_MM : Fld := ⟨9, 9⟩
def OS_MEMBER_USABLE : Fld := ⟨8, 8⟩
def OS_MEMBER_TIM : Fld := ⟨4, 4⟩
def OS_MEMBER_RDI : Fld := ⟨3, 3⟩
def OS_MEMBER_AIS : Fld := ⟨2, 2⟩
def OS_MEMBER_LOF : Fld := ⟨1, 1⟩
def OS_MEMBER_LOS : Fld := ⟨0, 0⟩
def OS_CLIENT_VALID : Fld := ⟨31, 31⟩
def OS_CLIENT_PORT : Fld := ⟨29, 24⟩
def OS_CLIENT_RX_SLOTS : Fld := ⟨19, 10⟩
def OS_CLIENT_TX_SLOTS : Fld := ⟨9, 0⟩
def OS_EVENT_CLEARED : Fld := ⟨10, 10⟩
def OS_EVENT_JOINED : Fld := ⟨9, 9⟩
def OS_EVENT_PAGE_ERR : Fld := ⟨8, 8⟩
def OS_EVENT_MAP_MISMATCH : Fld := ⟨7, 7⟩
def OS_EVENT_SW_FAIL : Fld := ⟨6, 6⟩
def OS_EVENT_SW_DONE : Fld := ⟨5, 5⟩
def OS_EVENT_TIM : Fld := ⟨4, 4⟩
def OS_EVENT_RDI : Fld := ⟨3, 3⟩
def OS_EVENT_AIS : Fld := ⟨2, 2⟩
def OS_EVENT_LOF : Fld := ⟨1, 1⟩
def OS_EVENT_LOS : Fld := ⟨0, 0⟩
def MP_RX_CFG_RX_EN : Fld := ⟨31, 31⟩
def MP_RX_CFG_FCS_POLICY : Fld := ⟨30, 30⟩
def MP_RX_CFG_PASS_CTRL : Fld := ⟨29, 29⟩
def MP_RX_CFG_MM_RX_EN : Fld := ⟨28, 28⟩
def MP_RX_CFG_FC_MODE : Fld := ⟨27, 26⟩
def MP_RX_CFG_UNTAGGED_PRIO : Fld := ⟨25, 23⟩
def MP_RX_CFG_PFC_LOSSLESS : Fld := ⟨15, 8⟩
def MP_RX_CFG_PFC_RX_EN : Fld := ⟨7, 0⟩
def MP_RX_LEN_MAX_LEN : Fld := ⟨13, 0⟩
def MP_RX_PRIO_MAP_PCP_PRIO : Fld := ⟨23, 0⟩
def MP_RX_TS_ADJ_TS_ADJ : Fld := ⟨31, 0⟩
def MP_BUF_OCC_OCC : Fld := ⟨16, 0⟩
def MP_BUF_HDRM_HDRM_USED : Fld := ⟨15, 0⟩
def MP_PFC_THR_XON : Fld := ⟨31, 16⟩
def MP_PFC_THR_XOFF : Fld := ⟨15, 0⟩
def MP_PFC_HDRM_HDRM : Fld := ⟨15, 0⟩
def MP_SHARED_CFG_ALPHA : Fld := ⟨2, 0⟩
def MP_WAKE_CTRL_MAGIC_EN : Fld := ⟨16, 16⟩
def MP_WAKE_CTRL_WAKE_EN : Fld := ⟨15, 0⟩
def MP_WAKE_PTR_AUTOINC : Fld := ⟨31, 31⟩
def MP_WAKE_PTR_FILTER : Fld := ⟨8, 5⟩
def MP_WAKE_PTR_WORD : Fld := ⟨4, 0⟩
def MP_WAKE_DATA_DATA : Fld := ⟨31, 0⟩
def MP_MAGIC_ADDR_ADDR : Fld := ⟨47, 0⟩
def MP_WAKE_STATUS_VALID : Fld := ⟨31, 31⟩
def MP_WAKE_STATUS_CLEAR : Fld := ⟨30, 30⟩
def MP_WAKE_STATUS_SOURCE : Fld := ⟨4, 0⟩
def MP_RX_PAUSE_STATE_XOFF : Fld := ⟨23, 16⟩
def MP_RX_PAUSE_STATE_PAUSE_ALL : Fld := ⟨8, 8⟩
def MP_RX_PAUSE_STATE_PAUSED : Fld := ⟨7, 0⟩
def MP_RX_EVENT_WAKE_MATCH : Fld := ⟨4, 4⟩
def MP_RX_EVENT_CTRL_WRONG_KIND : Fld := ⟨3, 3⟩
def MP_RX_EVENT_MM_ERROR : Fld := ⟨2, 2⟩
def MP_RX_EVENT_HDRM_OVERFLOW : Fld := ⟨1, 1⟩
def MP_RX_EVENT_BUF_DROP : Fld := ⟨0, 0⟩
def MP_TX_CFG_TX_EN : Fld := ⟨31, 31⟩
def MP_TX_CFG_STORE_FWD : Fld := ⟨30, 30⟩
def MP_TX_CFG_START_THR : Fld := ⟨29, 24⟩
def MP_TX_CFG_TX_MAX_LEN : Fld := ⟨13, 0⟩
def MP_TX_TS_ADJ_TS_ADJ : Fld := ⟨31, 0⟩
def MP_TX_SRC_ADDR_ADDR : Fld := ⟨47, 0⟩
def MP_TX_FC_QUANTA : Fld := ⟨31, 16⟩
def MP_TX_FC_REFRESH : Fld := ⟨15, 0⟩
def MP_TX_FC_FORCE_FORCE_PAUSE : Fld := ⟨8, 8⟩
def MP_TX_FC_FORCE_FORCE_XOFF : Fld := ⟨7, 0⟩
def MP_MM_CTRL_MM_TX_EN : Fld := ⟨31, 31⟩
def MP_MM_CTRL_VERIFY_DIS : Fld := ⟨30, 30⟩
def MP_MM_CTRL_VERIFY_TIME : Fld := ⟨23, 16⟩
def MP_MM_CTRL_PREEMPT_MASK : Fld := ⟨15, 8⟩
def MP_MM_CTRL_VERIFY_LIMIT : Fld := ⟨7, 4⟩
def MP_MM_CTRL_ADD_FRAG : Fld := ⟨1, 0⟩
def MP_MM_STATUS_ACTIVE : Fld := ⟨31, 31⟩
def MP_MM_STATUS_VERIFY_STATE : Fld := ⟨30, 28⟩
def MP_MM_STATUS_ATTEMPTS : Fld := ⟨19, 16⟩
def MP_TX_STATE_IN_FRAME : Fld := ⟨31, 31⟩
def MP_TX_STATE_OPEN : Fld := ⟨30, 30⟩
def MP_TX_STATE_PAUSE_SENT : Fld := ⟨16, 16⟩
def MP_TX_STATE_XOFF_SENT : Fld := ⟨7, 0⟩
def MP_TX_EVENT_MM_VERIFY_FAIL : Fld := ⟨5, 5⟩
def MP_TX_EVENT_MM_VERIFY_OK : Fld := ⟨4, 4⟩
def MP_TX_EVENT_LINK_DROP : Fld := ⟨3, 3⟩
def MP_TX_EVENT_BAD_OPTION : Fld := ⟨2, 2⟩
def MP_TX_EVENT_TOO_LONG : Fld := ⟨1, 1⟩
def MP_TX_EVENT_UNDERRUN : Fld := ⟨0, 0⟩
def RE_CL_STATUS_DISABLED : Fld := ⟨31, 31⟩
def RE_CL_STATUS_SPARE_ENG : Fld := ⟨21, 17⟩
def RE_CL_STATUS_ACTIVE : Fld := ⟨16, 0⟩
def RE_CL_SUBST_REQ : Fld := ⟨31, 31⟩
def RE_CL_SUBST_BUSY : Fld := ⟨30, 30⟩
def RE_CL_SUBST_ENGINE : Fld := ⟨4, 0⟩
def RE_FAULT_LAST_KIND : Fld := ⟨31, 28⟩
def RE_FAULT_LAST_DIR : Fld := ⟨27, 27⟩
def RE_FAULT_LAST_PORT : Fld := ⟨26, 21⟩
def RE_FAULT_LAST_ENGINE : Fld := ⟨20, 16⟩
def RE_FAULT_LAST_PC : Fld := ⟨11, 0⟩
def RE_CL_EVENT_PS_ECC_FATAL : Fld := ⟨5, 5⟩
def RE_CL_EVENT_PS_ECC_CORR : Fld := ⟨4, 4⟩
def RE_CL_EVENT_NO_SPARE : Fld := ⟨3, 3⟩
def RE_CL_EVENT_SUBST_DONE : Fld := ⟨2, 2⟩
def RE_CL_EVENT_ENGINE_ERROR : Fld := ⟨1, 1⟩
def RE_CL_EVENT_PROG_FAULT : Fld := ⟨0, 0⟩
def RE_PS_CTRL_SWITCH : Fld := ⟨31, 31⟩
def RE_PS_CTRL_DRAINED : Fld := ⟨30, 30⟩
def RE_PS_CTRL_ACTIVE : Fld := ⟨0, 0⟩
def RE_PS_ADDR_AUTOINC : Fld := ⟨31, 31⟩
def RE_PS_ADDR_SPACE : Fld := ⟨12, 12⟩
def RE_PS_ADDR_INDEX : Fld := ⟨11, 0⟩
def RE_PS_DATA_DATA : Fld := ⟨31, 0⟩
def RE_PS_CRC_CRC : Fld := ⟨31, 0⟩
def RE_BUDGET_EXTENDED : Fld := ⟨31, 31⟩
def RE_BUDGET_EXT_CAP : Fld := ⟨10, 0⟩
def RE_RATE_MEAN_ISSUE : Fld := ⟨31, 16⟩
def RE_RATE_SUSTAIN : Fld := ⟨15, 0⟩
def RE_FAULT_CFG_FAULT_GROUP : Fld := ⟨31, 16⟩
def RE_FAULT_CFG_DELIVER : Fld := ⟨0, 0⟩
def RE_DIGEST_SEED_SEED : Fld := ⟨31, 0⟩
def RE_HASH_KEY_KEY : Fld := ⟨31, 0⟩
def RE_ELAPSED_MEAN_ELAPSED : Fld := ⟨15, 0⟩
def RE_MIRROR_VALID : Fld := ⟨31, 31⟩
def RE_MIRROR_KIND : Fld := ⟨30, 30⟩
def RE_MIRROR_TRUNC : Fld := ⟨29, 16⟩
def RE_MIRROR_TARGET : Fld := ⟨15, 0⟩
def RE_EVENT_CTX_WAIT : Fld := ⟨1, 1⟩
def RE_EVENT_SWITCH_DONE : Fld := ⟨0, 0⟩
def ST_CFG_ASSURED : Fld := ⟨31, 31⟩
def ST_CFG_NOTIFY : Fld := ⟨30, 30⟩
def ST_CFG_SEED_RANDOM : Fld := ⟨29, 29⟩
def ST_CFG_GEN : Fld := ⟨7, 0⟩
def ST_OCC_PENDING : Fld := ⟨31, 23⟩
def ST_OCC_ENTRIES : Fld := ⟨21, 0⟩
def ST_RH_CTRL_START : Fld := ⟨31, 31⟩
def ST_RH_CTRL_PARK : Fld := ⟨30, 30⟩
def ST_RH_CTRL_RESUME : Fld := ⟨29, 29⟩
def ST_RH_CTRL_CANCEL : Fld := ⟨28, 28⟩
def ST_RH_STATE_STATE : Fld := ⟨31, 28⟩
def ST_RH_STATE_REVERSE : Fld := ⟨27, 27⟩
def ST_RH_STATE_STUCK : Fld := ⟨26, 26⟩
def ST_RH_STATE_LAST : Fld := ⟨25, 24⟩
def ST_RH_STATE_CURSOR : Fld := ⟨19, 0⟩
def ST_LEARN_CFG_LEARN_EN : Fld := ⟨31, 31⟩
def ST_LEARN_CFG_LEARN_ACTION : Fld := ⟨30, 26⟩
def ST_LEARN_CFG_HOLD_DOWN : Fld := ⟨25, 16⟩
def ST_LEARN_CFG_LEARN_METER : Fld := ⟨15, 0⟩
def ST_TIMING_AGE_PERIOD : Fld := ⟨31, 16⟩
def ST_TIMING_CONFLICT_GAP : Fld := ⟨15, 8⟩
def ST_MOVE_SEQ_W : Fld := ⟨31, 0⟩
def ST_SEED_CUR_SEED : Fld := ⟨31, 0⟩
def ST_SEED_NEW_SEED : Fld := ⟨31, 0⟩
def ST_EVENT_LEARN_DROP : Fld := ⟨7, 7⟩
def ST_EVENT_ECC_FATAL : Fld := ⟨6, 6⟩
def ST_EVENT_ECC_CORR : Fld := ⟨5, 5⟩
def ST_EVENT_PENDING_FULL : Fld := ⟨4, 4⟩
def ST_EVENT_LEARN_CONFLICT : Fld := ⟨3, 3⟩
def ST_EVENT_REHASH_STUCK : Fld := ⟨2, 2⟩
def ST_EVENT_REHASH_DONE : Fld := ⟨1, 1⟩
def ST_EVENT_REHASH_NEEDED : Fld := ⟨0, 0⟩
def MT_PTR_AUTOINC : Fld := ⟨31, 31⟩
def MT_PTR_INDEX : Fld := ⟨13, 0⟩
def MT_CTRL_WRITE : Fld := ⟨31, 31⟩
def MT_CTRL_READ : Fld := ⟨30, 30⟩
def MT_CTRL_FILL : Fld := ⟨29, 29⟩
def MT_REC_W : Fld := ⟨31, 0⟩
def SC_NODE_SEL_READ : Fld := ⟨31, 31⟩
def SC_NODE_SEL_LEVEL : Fld := ⟨29, 28⟩
def SC_NODE_SEL_NODE : Fld := ⟨14, 0⟩
def SC_NODE_REC_W : Fld := ⟨31, 0⟩
def SC_NODE_LVL_C_LEVEL : Fld := ⟨31, 0⟩
def SC_NODE_LVL_P_LEVEL : Fld := ⟨31, 0⟩
def SC_PCFG_LEAD : Fld := ⟨31, 16⟩
def SC_PCFG_OVERHEAD : Fld := ⟨15, 8⟩
def SC_PRATE_RATE : Fld := ⟨31, 0⟩
def SC_PFC_BANDS_BANDS : Fld := ⟨63, 0⟩
def SC_GATE_STATE_ENABLED : Fld := ⟨31, 31⟩
def SC_GATE_STATE_PENDING : Fld := ⟨30, 30⟩
def SC_GATE_STATE_ENTRY : Fld := ⟨23, 16⟩
def SC_GATE_STATE_OPEN : Fld := ⟨7, 0⟩
def SC_GATE_CYCLE_CYCLE : Fld := ⟨31, 0⟩
def SC_GATE_MAX_MAX : Fld := ⟨31, 0⟩
def TE_CFG_ENABLE : Fld := ⟨31, 31⟩
def TE_CFG_PRIO : Fld := ⟨26, 24⟩
def TE_CFG_WEIGHT : Fld := ⟨23, 20⟩
def TE_CFG_RA : Fld := ⟨14, 8⟩
def TE_RING_SIL_VALID : Fld := ⟨31, 31⟩
def TE_RING_SILLAGE : Fld := ⟨30, 21⟩
def TE_RING_LOG_SIZE : Fld := ⟨20, 16⟩
def TE_RING_FUNC : Fld := ⟨11, 0⟩
def TE_CTRL_DB : Fld := ⟨31, 31⟩
def TE_CTRL_PAUSE : Fld := ⟨30, 30⟩
def TE_CTRL_CANCEL : Fld := ⟨29, 29⟩
def TE_STATE_STATE : Fld := ⟨31, 29⟩
def TE_STATE_HOLD_PAUSE : Fld := ⟨28, 28⟩
def TE_STATE_HOLD_FAULT : Fld := ⟨27, 27⟩
def TE_STATE_HOLD_POWER : Fld := ⟨26, 26⟩
def TE_STATE_PORT : Fld := ⟨25, 24⟩
def TE_STATE_LAST_STATUS : Fld := ⟨23, 16⟩
def TE_STATE_POS : Fld := ⟨15, 0⟩
def TE_RING_BASE_BASE : Fld := ⟨63, 9⟩
def TE_PROG_ELEM_ELEM : Fld := ⟨27, 0⟩
def TE_PROG_SRC_FRAG : Fld := ⟨31, 24⟩
def TE_PROG_SRC_OFS : Fld := ⟨23, 0⟩
def TE_PROG_DST_FRAG : Fld := ⟨31, 24⟩
def TE_PROG_DST_OFS : Fld := ⟨23, 0⟩
def TE_FAULT_ADDR_PAGE : Fld := ⟨63, 12⟩
def TE_FAULT_VALID : Fld := ⟨31, 31⟩
def TE_FAULT_SIDE : Fld := ⟨30, 30⟩
def TE_FAULT_WRITE : Fld := ⟨29, 29⟩
def TE_FAULT_PRQ_ID : Fld := ⟨9, 0⟩
def TR_CFG_BYPASS : Fld := ⟨31, 31⟩
def TR_CFG_PRQ_TIMEOUT : Fld := ⟨15, 0⟩
def TR_OCC_PRQ : Fld := ⟨26, 16⟩
def TR_OCC_VALID : Fld := ⟨14, 0⟩
def TR_INV_START : Fld := ⟨31, 31⟩
def TR_INV_BUSY : Fld := ⟨30, 30⟩
def TR_INV_ALL : Fld := ⟨29, 29⟩
def TR_INV_FUNC : Fld := ⟨11, 0⟩
def TR_LAST_FAULT_PAGE : Fld := ⟨63, 12⟩
def TR_LAST_FUNC_FUNC : Fld := ⟨11, 0⟩
def TR_LAST_FUNC_DENIED : Fld := ⟨31, 31⟩
def TR_EVENT_PRQ_TIMEOUT : Fld := ⟨2, 2⟩
def TR_EVENT_PRS_FAIL : Fld := ⟨1, 1⟩
def TR_EVENT_DENIED : Fld := ⟨0, 0⟩
def WQ_CFG_CQ_POLL : Fld := ⟨23, 16⟩
def WQ_CFG_PREFETCH : Fld := ⟨3, 0⟩
def WQ_POOL_FREE : Fld := ⟨16, 0⟩
def WQ_POOL_RSV_RESERVED : Fld := ⟨16, 0⟩
def WQ_CTX_SEL_KIND : Fld := ⟨31, 31⟩
def WQ_CTX_SEL_NUM : Fld := ⟨14, 0⟩
def WQ_CTX_W : Fld := ⟨31, 0⟩
def WQ_EVENT_DBL_MISMATCH : Fld := ⟨6, 6⟩
def WQ_EVENT_POOL_EMPTY : Fld := ⟨5, 5⟩
def WQ_EVENT_DB_VIOLATION : Fld := ⟨4, 4⟩
def WQ_EVENT_RX_NO_BUFFER_DROP : Fld := ⟨3, 3⟩
def WQ_EVENT_RX_NO_ROOM_DROP : Fld := ⟨2, 2⟩
def WQ_EVENT_QUEUE_ERROR : Fld := ⟨1, 1⟩
def WQ_EVENT_CQ_FULL : Fld := ⟨0, 0⟩
def WQ_ADM_CFG_ENABLE : Fld := ⟨31, 31⟩
def WQ_ADM_CFG_STATE : Fld := ⟨30, 28⟩
def WQ_ADM_CFG_OWNER : Fld := ⟨27, 26⟩
def WQ_ADM_CFG_SQ_LOG : Fld := ⟨25, 21⟩
def WQ_ADM_CFG_CQ_LOG : Fld := ⟨20, 16⟩
def WQ_ADM_CFG_FUNC : Fld := ⟨11, 0⟩
def WQ_ADM_POS_SQ_POS : Fld := ⟨31, 16⟩
def WQ_ADM_POS_CQ_PROD : Fld := ⟨15, 0⟩
def WQ_ADM_ERR_INFLIGHT : Fld := ⟨20, 16⟩
def WQ_ADM_ERR_ERR : Fld := ⟨7, 0⟩
def WQ_ADM_DB_CQ : Fld := ⟨1, 1⟩
def WQ_ADM_DB_SQ : Fld := ⟨0, 0⟩
def EV_CFG_COAL_WIN : Fld := ⟨25, 16⟩
def EV_CFG_SIL_POLL : Fld := ⟨7, 0⟩
def EV_COMPLETE_PRIV : Fld := ⟨31, 31⟩
def EV_COMPLETE_PAGE : Fld := ⟨23, 16⟩
def EV_COMPLETE_WORD : Fld := ⟨15, 8⟩
def EV_COMPLETE_BIT : Fld := ⟨4, 0⟩
def EV_SIL_SEL_SIL : Fld := ⟨9, 0⟩
def EV_SIL_MOD_MOD_COUNT : Fld := ⟨31, 24⟩
def EV_SIL_MOD_MOD_TIME : Fld := ⟨15, 0⟩
def EV_SIL_STATE0_STATE : Fld := ⟨31, 30⟩
def EV_SIL_STATE0_ARMED : Fld := ⟨29, 29⟩
def EV_SIL_STATE0_MODERATING : Fld := ⟨28, 28⟩
def EV_SIL_STATE0_MSG_WAIT : Fld := ⟨27, 27⟩
def EV_SIL_STATE0_LOG_SIZE : Fld := ⟨26, 22⟩
def EV_SIL_STATE0_TARGET : Fld := ⟨21, 16⟩
def EV_SIL_STATE0_PROD : Fld := ⟨15, 0⟩
def EV_SIL_STATE1_LOST : Fld := ⟨31, 16⟩
def EV_SIL_STATE1_CREDIT : Fld := ⟨6, 0⟩
def EV_SIL_DB_ARM : Fld := ⟨31, 31⟩
def EV_SIL_DB_SCAN : Fld := ⟨30, 30⟩
def EV_SIL_DB_SIL : Fld := ⟨9, 0⟩
def EV_ROUTE_PTR_AUTOINC : Fld := ⟨31, 31⟩
def EV_ROUTE_PTR_PAGE : Fld := ⟨7, 0⟩
def EV_ROUTE_DATA_VALID : Fld := ⟨31, 31⟩
def EV_ROUTE_DATA_SIL : Fld := ⟨9, 0⟩
def EV_PRIV_ROUTE_VALID : Fld := ⟨31, 31⟩
def EV_PRIV_ROUTE_SIL : Fld := ⟨9, 0⟩
def EV_PICC_MAP_VALID : Fld := ⟨31, 31⟩
def EV_PICC_MAP_PRIV : Fld := ⟨30, 30⟩
def EV_PICC_MAP_LINE : Fld := ⟨25, 24⟩
def EV_PICC_MAP_SOURCE : Fld := ⟨23, 0⟩
def EV_PRIV_PRIV : Fld := ⟨7, 0⟩
def EV_EVENT_STRAY_COMPL : Fld := ⟨3, 3⟩
def EV_EVENT_COAL_FULL : Fld := ⟨2, 2⟩
def EV_EVENT_SIL_LOST : Fld := ⟨1, 1⟩
def EV_EVENT_SIL_STOPPED : Fld := ⟨0, 0⟩
def EV_PICC_PEND_PEND : Fld := ⟨31, 0⟩
def EV_PICC_MASK_MASK : Fld := ⟨31, 0⟩
def EV_PICC_LINE_FAST_IRQ : Fld := ⟨3, 0⟩
def TB_CFG_TOD_ARM : Fld := ⟨31, 31⟩
def TB_CFG_PPS_OUT_EN : Fld := ⟨30, 30⟩
def TB_CFG_REF_SEL : Fld := ⟨1, 0⟩
def TB_TIME_W : Fld := ⟨31, 0⟩
def TB_FREQ_FREQ : Fld := ⟨31, 0⟩
def TB_PHASE_PHASE : Fld := ⟨31, 0⟩
def TB_ADJ_BUSY : Fld := ⟨31, 31⟩
def TB_ADJ_MODE : Fld := ⟨8, 8⟩
def TB_ADJ_SLEW_PPM : Fld := ⟨7, 0⟩
def TB_PPS_CAP_W : Fld := ⟨31, 0⟩
def TB_REF_PHASE_PHASE : Fld := ⟨31, 0⟩
def TB_TOD_STAGE_W : Fld := ⟨31, 0⟩
def TB_EVENT_REF_LOSS : Fld := ⟨4, 4⟩
def TB_EVENT_PPS_MISSING : Fld := ⟨3, 3⟩
def TB_EVENT_ADJ_DONE : Fld := ⟨2, 2⟩
def TB_EVENT_TOD_LOADED : Fld := ⟨1, 1⟩
def TB_EVENT_PPS_IN : Fld := ⟨0, 0⟩
def PC_SEL_LEVEL : Fld := ⟨31, 31⟩
def PC_SEL_INDEX : Fld := ⟨13, 0⟩
def PC_VAL_LO_W : Fld := ⟨31, 0⟩
def PC_VAL_HI_WRAP : Fld := ⟨16, 16⟩
def PC_VAL_HI_VALUE : Fld := ⟨15, 0⟩
def PC_DUMP_STATE_STATE : Fld := ⟨31, 29⟩
def PC_DUMP_STATE_RECORD : Fld := ⟨24, 16⟩
def PC_DUMP_STATE_SLOT : Fld := ⟨15, 0⟩
def PC_DUMP_CTRL_PARK : Fld := ⟨31, 31⟩
def PC_DUMP_CTRL_RESUME : Fld := ⟨30, 30⟩
def PC_DUMP_CTRL_CANCEL : Fld := ⟨29, 29⟩
def PC_WRAP_LAST_INDEX : Fld := ⟨13, 0⟩
def PC_WIN_DENY_OFFSET : Fld := ⟨22, 12⟩
def PC_WIN_DENY_FUNC : Fld := ⟨11, 0⟩
def PC_RATE_SEL_DIR : Fld := ⟨6, 6⟩
def PC_RATE_SEL_PORT : Fld := ⟨5, 0⟩
def PC_RATE_STATE_WINDOWS : Fld := ⟨31, 20⟩
def PC_RATE_STATE_WINDOW : Fld := ⟨19, 0⟩
def PC_RATE_LAST_SUM : Fld := ⟨47, 0⟩
def PC_RATE_MIN_SUM : Fld := ⟨47, 0⟩
def PC_RATE_MAX_SUM : Fld := ⟨47, 0⟩
def PC_EVENT_WIN_DENY : Fld := ⟨3, 3⟩
def PC_EVENT_DUMP_ERR : Fld := ⟨2, 2⟩
def PC_EVENT_DUMP_SKIP : Fld := ⟨1, 1⟩
def PC_EVENT_WRAP : Fld := ⟨0, 0⟩
def PC_WRAP_WRAP : Fld := ⟨0, 0⟩
def PW_CFG_TABLE_RETAIN : Fld := ⟨31, 31⟩
def PW_CFG_DB_WAKE : Fld := ⟨30, 30⟩
def PW_CFG_TIMER_WAKE : Fld := ⟨29, 29⟩
def PW_CFG_WAKE_IN_EN : Fld := ⟨28, 28⟩
def PW_CFG_PWR_HELD : Fld := ⟨27, 27⟩
def PW_STATE_BLOCK_STATE : Fld := ⟨31, 29⟩
def PW_STATE_CHANGING : Fld := ⟨28, 28⟩
def PW_STATE_PHASE : Fld := ⟨27, 26⟩
def PW_STATE_STEP : Fld := ⟨20, 16⟩
def PW_STATE_REFUSE_CAUSE : Fld := ⟨3, 0⟩
def PW_WAKE_TIMER_TIMER : Fld := ⟨31, 0⟩
def PW_LAST_WAKE_SOURCE : Fld := ⟨31, 24⟩
def PW_LAST_WAKE_OUTCOME : Fld := ⟨23, 22⟩
def PW_LAST_WAKE_RETRIED : Fld := ⟨21, 21⟩
def PW_LAST_WAKE_FAIL_STEP : Fld := ⟨20, 16⟩
def PW_LAST_WAKE_DETAIL : Fld := ⟨15, 8⟩
def PW_LAST_WAKE_SOURCES : Fld := ⟨7, 0⟩
def PW_LAST_WAKE_TS_SEC : Fld := ⟨63, 32⟩
def PW_LAST_WAKE_TS_NS : Fld := ⟨31, 0⟩
def PW_ISLAND_SEL_ISLAND : Fld := ⟨7, 0⟩
def PW_ISLAND_STATE : Fld := ⟨31, 29⟩
def PW_ISLAND_TARGET : Fld := ⟨28, 26⟩
def PW_ISLAND_CHANGING : Fld := ⟨25, 25⟩
def PW_ISLAND_ALONE : Fld := ⟨24, 24⟩
def PW_ISLAND_FAILS : Fld := ⟨23, 16⟩
def PW_EVENT_REFUSED : Fld := ⟨4, 4⟩
def PW_EVENT_WAKE_RETRY : Fld := ⟨3, 3⟩
def PW_EVENT_WAKE_FAIL : Fld := ⟨2, 2⟩
def PW_EVENT_WAKE_DONE : Fld := ⟨1, 1⟩
def PW_EVENT_ENTRY_DONE : Fld := ⟨0, 0⟩
def BT_STATUS_STATE : Fld := ⟨31, 29⟩
def BT_STATUS_SLOT : Fld := ⟨28, 28⟩
def BT_STATUS_GATED : Fld := ⟨27, 27⟩
def BT_STATUS_DEBUG_UNLOCKED : Fld := ⟨26, 26⟩
def BT_STATUS_RELEASED : Fld := ⟨25, 25⟩
def BT_STATUS_REASON : Fld := ⟨23, 16⟩
def BT_STATUS_RESTARTS : Fld := ⟨15, 8⟩
def BT_STATUS_TRIED : Fld := ⟨1, 0⟩
def BT_CTRL_CONFIRM : Fld := ⟨31, 31⟩
def BT_CTRL_RELEASE : Fld := ⟨30, 30⟩
def BT_CTRL_RESTART : Fld := ⟨29, 29⟩
def BT_CTRL_RECOV_GO : Fld := ⟨28, 28⟩
def BT_CTRL_RECOV_SLOT : Fld := ⟨0, 0⟩
def BT_IMG_VER_VER : Fld := ⟨63, 0⟩
def BT_SLOT_A_ADDR : Fld := ⟨63, 12⟩
def BT_SLOT_B_ADDR : Fld := ⟨63, 12⟩
def BT_BCB_ADDR_ADDR : Fld := ⟨63, 12⟩
def BT_TRIAL_REMAIN : Fld := ⟨31, 16⟩
def BT_TRIAL_LIMIT : Fld := ⟨5, 0⟩
def BT_FUSE_CTRL_PROG : Fld := ⟨31, 31⟩
def BT_FUSE_CTRL_BUSY : Fld := ⟨30, 30⟩
def BT_FUSE_CTRL_FAIL : Fld := ⟨29, 29⟩
def BT_FUSE_CTRL_REFUSED : Fld := ⟨28, 28⟩
def BT_FUSE_CTRL_WORD : Fld := ⟨10, 0⟩
def BT_FUSE_DATA_DATA : Fld := ⟨31, 0⟩
def BT_FUSE_RD_SHADOW : Fld := ⟨31, 0⟩
def BT_DEBUG_UNLOCK : Fld := ⟨31, 31⟩
def BT_DEBUG_UNLOCKED : Fld := ⟨30, 30⟩
def BT_DEBUG_DISABLED : Fld := ⟨29, 29⟩
def BT_KEYS_KEY : Fld := ⟨25, 24⟩
def BT_KEYS_IMG_SVN : Fld := ⟨23, 16⟩
def BT_KEYS_ROLLBACK : Fld := ⟨15, 8⟩
def BT_KEYS_PROGRAMMED : Fld := ⟨7, 4⟩
def BT_KEYS_REVOKED : Fld := ⟨3, 0⟩
def BT_EVENT_SLOT_FAIL : Fld := ⟨3, 3⟩
def BT_EVENT_BCB_ERR : Fld := ⟨2, 2⟩
def BT_EVENT_RESTARTED : Fld := ⟨1, 1⟩
def BT_EVENT_CONFIRMED : Fld := ⟨0, 0⟩
def SV_CFG_AUTO_SLOT : Fld := ⟨31, 31⟩
def SV_CFG_AUTO_PLAIN : Fld := ⟨30, 30⟩
def SV_CFG_AUTO_ENG : Fld := ⟨29, 29⟩
def SV_CFG_AUTO_HMP : Fld := ⟨28, 28⟩
def SV_CFG_AUTO_SRAM : Fld := ⟨27, 27⟩
def SV_CFG_EYE_HOLD : Fld := ⟨15, 0⟩
def SV_RO_THR_ACT : Fld := ⟨15, 8⟩
def SV_RO_THR_WARN : Fld := ⟨7, 0⟩
def SV_EYE_THR_EYE_H_MIN : Fld := ⟨31, 16⟩
def SV_EYE_THR_EYE_W_MIN : Fld := ⟨15, 0⟩
def SV_SRAM_THR_SRAM_THR : Fld := ⟨7, 0⟩
def SV_SPARES_LANES : Fld := ⟨31, 27⟩
def SV_SPARES_ENG_CLUSTERS : Fld := ⟨26, 22⟩
def SV_SPARES_HMP : Fld := ⟨21, 21⟩
def SV_SPARES_POOL_HELD : Fld := ⟨20, 12⟩
def SV_SPARES_LEARN_HELD : Fld := ⟨7, 0⟩
def SV_MON_SEL_KIND : Fld := ⟨31, 30⟩
def SV_MON_SEL_INDEX : Fld := ⟨16, 0⟩
def SV_MON_ACT : Fld := ⟨31, 31⟩
def SV_MON_WARN : Fld := ⟨30, 30⟩
def SV_MON_VALUE : Fld := ⟨15, 0⟩
def SV_LAST_KIND : Fld := ⟨31, 28⟩
def SV_LAST_CAUSE : Fld := ⟨27, 26⟩
def SV_LAST_OUTCOME : Fld := ⟨25, 24⟩
def SV_LAST_OBJECT : Fld := ⟨16, 0⟩
def SV_RETIRED_RETIRED : Fld := ⟨17, 0⟩
def SV_REPAIR_CMD_APPLY : Fld := ⟨31, 31⟩
def SV_REPAIR_CMD_READ : Fld := ⟨30, 30⟩
def SV_REPAIR_CMD_BUSY : Fld := ⟨29, 29⟩
def SV_REPAIR_CMD_FAIL : Fld := ⟨28, 28⟩
def SV_REPAIR_CMD_COUNT : Fld := ⟨26, 16⟩
def SV_REPAIR_CMD_INDEX : Fld := ⟨9, 0⟩
def SV_REPAIR_DATA_VALID : Fld := ⟨31, 31⟩
def SV_REPAIR_DATA_COL : Fld := ⟨30, 30⟩
def SV_REPAIR_DATA_ISLAND : Fld := ⟨29, 22⟩
def SV_REPAIR_DATA_MACRO : Fld := ⟨21, 13⟩
def SV_REPAIR_DATA_ADDR : Fld := ⟨12, 0⟩
def SV_EVENT_NO_SPARE : Fld := ⟨5, 5⟩
def SV_EVENT_REPAIR_DONE : Fld := ⟨4, 4⟩
def SV_EVENT_SUBST_DONE : Fld := ⟨3, 3⟩
def SV_EVENT_SUBST_START : Fld := ⟨2, 2⟩
def SV_EVENT_ACT : Fld := ⟨1, 1⟩
def SV_EVENT_WARN : Fld := ⟨0, 0⟩
def DU_STATUS_ROLE : Fld := ⟨31, 30⟩
def DU_STATUS_PAIR : Fld := ⟨29, 28⟩
def DU_STATUS_UNIT : Fld := ⟨27, 27⟩
def DU_STATUS_DMP_UP : Fld := ⟨26, 26⟩
def DU_STATUS_REPLAY : Fld := ⟨12, 0⟩
def DU_LEASE_ADDR_ADDR : Fld := ⟨63, 6⟩
def DU_JOURNAL_SENT : Fld := ⟨31, 16⟩
def DU_JOURNAL_ACKED : Fld := ⟨15, 0⟩
def DU_LAST_FAIL_TRIGGER : Fld := ⟨31, 30⟩
def DU_LAST_FAIL_EPOCH : Fld := ⟨15, 0⟩
def DU_LAST_FAIL_TS_SEC : Fld := ⟨63, 32⟩
def DU_LAST_FAIL_TS_NS : Fld := ⟨31, 0⟩
def DU_FLUSH_REPLAYED : Fld := ⟨31, 16⟩
def DU_FLUSH_FLUSHED : Fld := ⟨15, 8⟩
def DU_FLUSH_LOST : Fld := ⟨7, 0⟩
def DU_EVENT_FENCED : Fld := ⟨4, 4⟩
def DU_EVENT_PARTNER_LOST : Fld := ⟨3, 3⟩
def DU_EVENT_TAKEOVER : Fld := ⟨2, 2⟩
def DU_EVENT_UNPROTECTED : Fld := ⟨1, 1⟩
def DU_EVENT_PROTECTED : Fld := ⟨0, 0⟩
end F

end Sys2Proof.Machine
end

