-- ==== Sys2Proof/Machine/State.lean ====
section
/-!
DEFINITION. The state of the block as plain data, and the machine right after reset.

Registers live in `State.regs`, one 32-bit word per byte address of the control pages, in canonical form:
addresses strictly rising, and no word equal to its reset value (`resetWord`). What the spec gives the
machine beside registers is grouped by chapter in the structures below. Large arrays are lists of
(index, value) pairs in the same canonical form.
-/

namespace Sys2Proof.Machine

/-- A sparse array: (index, value) pairs, indices strictly rising, no value equal to the array's default. -/
abbrev Smap (α : Type) := List (Nat × α)

/-! ## Pins, resets and supplies (spec/02) -/

/-- Input levels the block holds and output levels it drives. -/
structure Pins where
  /-- RST_N (R42, R44). -/
  rstN : Bool
  /-- WARM_RST_N (R46). -/
  warmN : Bool
  /-- REFCLK present within specification (R39). -/
  refclk : Bool
  /-- A supply is below 90 % of nominal (R41). -/
  collapsed : Bool
  /-- Step of the cold reset sequence reached (R44): 0 in reset, 1 straps latched and AON running,
  3 fuse shadow loaded, 4 ROM running, 6 verdict passed and profile applied. -/
  coldStep : Nat
  /-- PROFILE_SEL as sampled at the last cold reset (R47). -/
  coldProfile : Nat
  /-- TARGET_IDLE[63:0] (R397). -/
  targetIdle : BitVec 64
  /-- The boot verdict has passed (R43). -/
  verdict : Bool
  /-- The datapath is out of reset (R43). -/
  datapathUp : Bool
  /-- The active profile has been applied (R43). -/
  profileApplied : Bool
  /-- The block is FENCED in a Duo (R43, R491). -/
  fenced : Bool
  /-- READY (R43). -/
  ready : Bool
  /-- READY has risen since the last cold reset (R316). -/
  everReady : Bool
  /-- ALERT_N (R53). -/
  alertN : Bool
  /-- FAST_IRQ[3:0] (R405). -/
  fastIrq : BitVec 4
  /-- TB_PPS_OUT (R77). -/
  ppsOut : Bool
  /-- Instruction register of the test access port (R81). -/
  tapIr : Nat
  /-- The test access port executes BYPASS in place of its instruction register's code (R81). -/
  tapBypass : Bool
  /-- What IDCODE reads at the port, while IDCODE is its instruction (R81). -/
  tapId : Option Nat
  deriving DecidableEq, Repr

/-! ## Control ports (spec/02 R54 to R57, spec/03) -/

/-- An accepted control request without a response (R54, R57). -/
structure CtlReq where
  write : Bool
  addr : Nat
  data : W32
  /-- Stalled under IDLE or PAGE_AUTOWAKE (R98). -/
  stalled : Bool
  deriving DecidableEq, Repr

/-- Response status of a control port. -/
inductive RStatus where
  | ok | access | off | timeout
  deriving DecidableEq, Repr

/-- A response delivered on a control port. -/
structure CtlRsp where
  master : Master
  status : RStatus
  rdata : W32
  deriving DecidableEq, Repr

/-- Control-port state; `Smap`s here are keyed by master code (0 CPA, 1 CPB, 2 steward, 3 debug port). -/
structure Ctl where
  queue : Smap (List CtlReq)
  /-- Responses delivered, oldest first. -/
  rsp : List CtlRsp
  /-- High-word shadow of 64-bit registers (R96). -/
  shadow : Smap W32
  /-- Staged low word and the register it belongs to (R96): byte address and word. -/
  staged : Smap (Option (Nat × W32))
  deriving DecidableEq, Repr

/-! ## Host memory, translation and Duo-independent access state (spec/02, spec/11) -/

/-- Why the block makes a host memory access: what its data or response is for. -/
inductive Purpose where
  /-- Read of a submission entry by the scan of queue `q` (R267). -/
  | sqEntry (q pos : Nat)
  /-- Final-scan read of a submission entry by the abort sequence of queue `q` (R281). -/
  | sqFinal (q pos : Nat)
  /-- Fragment-table read of execution `x` (R265 step 2). -/
  | sqTable (x off : Nat)
  /-- Data read of transmit execution `x`, frame byte `off` (R265 step 3). -/
  | txData (x off : Nat)
  /-- Data write of receive execution `x`, frame byte `off` (R265 step 3). -/
  | rxData (x off : Nat)
  /-- Completion write of execution `x` into completion queue `c` (R266). -/
  | completion (c x : Nat)
  /-- Release write of execution `x` (R265 step 5). -/
  | release (x : Nat)
  /-- Credit-scan read of a completion slot (R271). -/
  | cqScan (c pos : Nat)
  /-- Arming read of completion queue `c` (R275). -/
  | cqArm (c pos : Nat)
  /-- Reads and writes of an admin pair's rings (R286 to R290). -/
  | admEntry (p pos : Nat)
  | admFinal (p pos : Nat)
  | admScan (p pos : Nat)
  | admArm (p pos : Nat)
  | admCompl (p k : Nat)
  | admRelease (p k : Nat)
  /-- Data read of an admin command (R293): command `k`, byte `off`. -/
  | admData (p k off : Nat)
  /-- Credit-scan read and arming read of Sillage queue `q` (R392, R395). -/
  | silScan (q pos : Nat)
  | silArm (q pos : Nat)
  /-- Event record write (R390). -/
  | silRec (q oid kind obj : Nat)
  /-- Transfer channel accesses (R325). -/
  | teDesc (ch pos : Nat)
  | teFinal (ch pos : Nat)
  | teList (ch : Nat) (dst : Bool) (off : Nat)
  | teRead (ch off : Nat)
  | teWrite (ch off : Nat)
  | teStatus (ch : Nat)
  | teRelease (ch : Nat)
  /-- Accord dump accesses (R422 to R424). -/
  | dumpHdrRead
  | dumpRec (r : Nat)
  | dumpHdrWrite
  /-- Steward accesses (spec/17): boot control block, manifest, signature, chunk bytes. -/
  | bcbRead (copy : Nat)
  | bcbWrite
  | manifest (off : Nat)
  | chunk (k off : Nat)
  /-- Lease record accesses (R491, R494). -/
  | leaseRead
  | leaseWrite
  /-- A released entry's flip made by a Duo standby, and a completion it writes again (R489, R494). -/
  | duoFlip (id : Nat)
  | duoRelease (id : Nat)
  /-- The work it was issued for has ended (a reset, a stop, a destruction, a cancel): its answer is discarded (R13), but for
  the output `oid` it makes visible (R16) and the rebinding of `who` that waits for it, in the coding of `silRec`. -/
  | gone (oid : Option Nat) (who : Nat)
  deriving DecidableEq, Repr

/-- Where a host memory access stands. -/
inductive ReqPhase where
  /-- Its channel has still to look its page up (R335). -/
  | fresh
  /-- Missed: waits for a translation request's response (R335). -/
  | wait
  /-- Its translation answered FAULT: waits for the page response (R336). -/
  | fault
  /-- Its page response was OK: waits for the page's new translation (R336). -/
  | again
  /-- Translated to physical address `pa`; waits for its port's grant (R318). -/
  | ready (pa : Nat)
  /-- Issued on port `port` with `tag` at physical address `pa` (R63). -/
  | out (port tag pa : Nat)
  deriving DecidableEq, Repr

/-- A host memory access the block has created and not finished. -/
structure Req where
  id : Nat
  chan : Nat
  func : Nat
  iova : Nat
  len : Nat
  write : Bool
  /-- Bytes to write, or bytes read so far. -/
  data : Bytes
  snoop : Bool
  purpose : Purpose
  phase : ReqPhase
  /-- An ownership read in double-read mode (R69). -/
  dbl : Bool
  /-- The first read's bytes, while the second read is made (R69). -/
  first : Option Bytes
  /-- The byte that the second part of a two-part write carries (R71). -/
  tail : Option Byte
  /-- An R_ERR beat has been seen (R65). -/
  bad : Bool
  /-- A steward access: a physical address, never translated (R446). -/
  phys : Bool
  /-- Translation entry used: function, page and size (R74); none under BYPASS. -/
  via : Option (Nat × Nat × Nat)
  deriving DecidableEq, Repr

/-- An entry of the translation cache (R334): `size` pages of 4 KiB as a power of two. -/
structure TlbEntry where
  func : Nat
  page : Nat
  size : Nat
  pa : Nat
  write : Bool
  deriving DecidableEq, Repr

/-- An accepted invalidation (R74, R338), with the issued requests and the translation requests it waits for. -/
structure Inval where
  software : Bool
  func : Nat
  /-- Every function (TR_INV ALL). -/
  all : Bool
  /-- Page range; a software invalidation covers every page. -/
  page : Nat
  size : Nat
  waits : List Nat
  /-- Tags of the translation requests that were outstanding and whose response may be for the range. -/
  tags : List Nat
  deriving DecidableEq, Repr

/-- A translation request outstanding on TRP (R72). -/
structure XReq where
  tag : Nat
  func : Nat
  page : Nat
  write : Bool
  /-- The invalidations accepted since: a response for one of their ranges is discarded without use (R74). -/
  invals : List Inval
  deriving DecidableEq, Repr

/-- A page request outstanding on TRP (R336, R337). -/
structure PReq where
  id : Nat
  func : Nat
  page : Nat
  write : Bool
  /-- PRQ_TIMEOUT in force when it was issued, in ms; 0 = none (R337). -/
  timeout : Nat
  /-- Treated as PRS_OK = 0 by time-out; the identifier stays reserved (R337). -/
  timedOut : Bool
  deriving DecidableEq, Repr

/-- Host memory ports and address translation. -/
structure HostSt where
  nextId : Nat
  /-- Accesses created and not finished, oldest first. -/
  reqs : List Req
  /-- Last channel granted and grants left in its turn, per port, direction and PRIO (R318); key
  8 × (2 × port + write) + PRIO. -/
  arb : Smap (Nat × Nat)
  tlb : List TlbEntry
  xreqs : List XReq
  preqs : List PReq
  invals : List Inval
  /-- Invalidations reported done on TRP_INV_DONE (R74), modulo nothing: a count. -/
  invDone : Nat
  /-- A queue, pair, general channel or DUMP_CFG has existed since the last cold reset (R339). -/
  bypassFixed : Bool
  deriving DecidableEq, Repr

/-! ## Events and interrupts (spec/14) -/

/-- State of a Sillage queue. -/
inductive SilState where
  | none | active | stopped
  deriving DecidableEq, Repr

/-- A Sillage queue (R390 to R398). -/
structure Sil where
  state : SilState
  func : Nat
  target : Nat
  logSize : Nat
  base : Nat
  prod : Nat
  credit : Nat
  lost : Nat
  seq : Nat
  armed : Bool
  /-- A write of ARM waits for the responses of the records issued (R395). -/
  armPending : Bool
  moderating : Bool
  msgWait : Bool
  /-- A further message is due, which is raised once the one that waits has been accepted (R398). -/
  msgDue : Bool
  modTime : Nat
  modCount : Nat
  /-- MOD_TIME and MOD_COUNT in force for the message that is due (R398). -/
  dueTime : Nat
  dueCount : Nat
  /-- Records written since the message became due (R396). -/
  sinceDue : Nat
  /-- A credit scan runs: its next slot's read is outstanding (R392). -/
  scan : Bool
  rescan : Bool
  /-- Records issued whose write response is outstanding. -/
  outRecs : Nat
  /-- Admin pair and command of the SIL_CREATE that completes after the initial scan. -/
  cmd : Option (Nat × Nat)
  deriving DecidableEq, Repr

/-- An open coalescing window (R403). -/
structure Window where
  domain : Nat
  /-- End of the window, in units of 2^-48 ns of block time. -/
  stop : Nat
  sil : Nat
  status : Nat
  count : Nat
  deriving DecidableEq, Repr

/-- A CQ_BIND or SIL_BIND that waits for write responses (R400, R401): `obj` is the completion queue plus 1 or the admin
pair plus 2^16, or the Sillage queue for SIL_BIND. -/
structure Rebind where
  silBind : Bool
  obj : Nat
  pair : Nat
  cmd : Nat
  newSil : Nat
  newValid : Bool
  /-- Its COMMAND record has been sent to the Duo partner (R488). -/
  sent : Bool
  /-- Reports of the completion queue or pair that wait for the new binding: status, kind, object, info, domain. -/
  later : List (Nat × Nat × Nat × Nat × Option Nat)
  deriving DecidableEq, Repr

/-- The event unit. -/
structure EvSt where
  /-- Source numbers claimed (R388), in the coding of EV_COMPLETE. -/
  claims : List Nat
  /-- Route table (EV_ROUTE_DATA), by page index: VALID in bit 31, SIL in bits 9:0. -/
  routes : Smap Nat
  windows : List Window
  sils : Smap Sil
  /-- Snapshot words of EV_SIL_STATE1 (taken by a read of EV_SIL_STATE0). -/
  silSnap : Nat
  /-- Messages raised and not accepted on NFP, oldest first: target, queue (R75, R398). -/
  nfp : List (Nat × Nat)
  rebinds : List Rebind
  /-- Port and target of the last learn request refused for a conflict (R239, R391). -/
  conflict : Nat × Nat
  /-- From a warm reset until READY rises, no source reports (R503). -/
  warmHold : Bool
  /-- Bits of EV_PICC_MASK that a write has cleared and none has set since: their sources make no report (R389). -/
  piccMasked : Nat
  deriving DecidableEq, Repr

/-! ## Timebase and counters (spec/15) -/

/-- Block time and the refill clock, in units of 2^-48 ns (R406, R409). -/
structure Tb where
  time : Nat
  /-- Remainder of the tick increment below 2^-48 ns, in parts of 1,280 × 10^9, so that rounding never accumulates. -/
  rem : Nat
  refill : Nat
  /-- Amount a slew has still to absorb, signed, in the unit of `rem`: 2^-48 ns over the denominator of a tick (R408). -/
  slew : Int
  /-- TB_TOD shift register (R77), 96 bits. -/
  tod : Nat
  /-- Snapshot of TB_TIME1 and TB_TIME2, 96 bits (R412). -/
  snap : Nat
  /-- Cycles of the core clock since cold reset. -/
  cycle : Nat
  deriving DecidableEq, Repr

/-- Progress of an Accord dump (PC_DUMP_STATE STATE, and the phases between). -/
inductive DumpPhase where
  | idle
  /-- Header read outstanding, before the latch (R422). -/
  | header
  /-- The header is owned; latch at T. -/
  | latchPending
  /-- Latched by a step; the header is read afterwards (R421, R422). -/
  | steppedHeader
  | writing
  | parked
  /-- Header write outstanding (R424). -/
  | closing
  deriving DecidableEq, Repr

/-- The Accord dump unit (R420 to R426). -/
structure Dump where
  enable : Bool
  period : Nat
  base : Nat
  logSlots : Nat
  sillage : Nat
  func : Nat
  phase : DumpPhase
  /-- Instant T of the dump in progress, or the next periodic T, in units of 2^-48 ns. -/
  latchT : Nat
  nextT : Nat
  seq : Nat
  slot : Nat
  skipped : Nat
  record : Nat
  /-- Record writes whose response is outstanding. -/
  outRecs : Nat
  /-- 0 periodic, 1 DUMP_NOW. -/
  kind : Nat
  stepped : Bool
  /-- Shadow copies of the counters: index, value with WRAP in bit 48 (R420). -/
  shadow : Smap Nat
  parkPark : Bool
  parkFault : Bool
  parkPower : Bool
  /-- Status the header will carry. -/
  status : Nat
  /-- Output number of the record or header outstanding (R16). -/
  oid : Nat
  /-- A DUMP_CFG has named a ring (R498). -/
  named : Bool
  /-- DUMP_NOW commands waiting: pair, command (R421). -/
  waiting : List (Nat × Nat)
  /-- A DUMP_CFG that applies after the dump in progress (R311): enable, period, base, logSlots, sillage, func. -/
  newCfg : Option (Bool × Nat × Nat × Nat × Nat × Nat)
  deriving DecidableEq, Repr

/-- A byte-rate window of one port and direction (R429). -/
structure Rate where
  window : Nat
  /-- W in force once the next multiple of the new W is reached (R430); 0 = none pending. -/
  newWindow : Nat
  sum : Nat
  last : Nat
  min : Nat
  max : Nat
  windows : Nat
  deriving DecidableEq, Repr

/-- Counters, dumps and rate windows. -/
structure Pc where
  val : Smap Nat
  /-- Counters whose WRAP bit is 1. -/
  wrap : List Nat
  /-- E/L counters in level mode (R414). -/
  level : List Nat
  /-- Level-mode counters whose condition has held in the present 10 ns interval. -/
  held : List Nat
  dump : Dump
  /-- Functions whose counter window may be read (R428). -/
  cntPerm : List Nat
  /-- Byte-rate windows; key 2 × port + direction. -/
  rates : Smap Rate
  deriving DecidableEq, Repr

/-! ## Work queues (spec/09) -/

/-- State of a submission or completion queue (R280). -/
inductive QState where
  | none | active | resetting | stopped | destroying
  deriving DecidableEq, Repr

/-- A submission queue's context (R256 to R258, R280). -/
structure Sq where
  state : QState
  rx : Bool
  base : Nat
  logSize : Nat
  func : Nat
  handle : Nat
  cq : Nat
  hold : Nat
  snoop : Bool
  parent : Nat
  band : Nat
  pos : Nat
  /-- A scan runs; its next read's data has not arrived (R267). -/
  scanning : Bool
  /-- A doorbell arrived during the scan (R61). -/
  rescan : Bool
  /-- The scan stopped for cache room or for a completion place (R268). -/
  stopRoom : Bool
  /-- The entry at the position disagreed in its two reads; it is fetched again (R70). -/
  refetch : Bool
  err : Nat
  /-- Received frames waiting to start delivery, in arrival order (R273, R274). -/
  waiting : List Nat
  /-- Admin pair and command whose abort sequence runs (R281). -/
  cmd : Nat × Nat
  /-- The final scan of the abort sequence has ended (R281). -/
  finalDone : Bool
  deriving DecidableEq, Repr

/-- A completion queue's context (R257, R271 to R275). -/
structure Cq where
  state : QState
  base : Nat
  logSize : Nat
  func : Nat
  handle : Nat
  rsv : Bool
  silValid : Bool
  sillage : Nat
  prod : Nat
  credit : Nat
  /-- Outstanding reservations (R272). -/
  reserved : Nat
  /-- Pool entries taken by reservations and held completions. -/
  pool : Nat
  /-- Completions not yet written, oldest first: execution and the 32 bytes. -/
  backlog : List (Nat × Bytes)
  episode : Bool
  episodes : Nat
  armed : Bool
  armPending : Bool
  /-- A credit scan runs: its next slot's read is outstanding; and slots it has found so far (R271). -/
  scan : Bool
  found : Nat
  rescan : Bool
  outWrites : Nat
  /-- Records of this queue whose write response is outstanding (R400). -/
  outRecs : Nat
  err : Nat
  /-- Admin pair and command that completes after the creation or reset scan (R298). -/
  cmd : Option (Nat × Nat)
  deriving DecidableEq, Repr

/-- Where the execution of a submission entry stands (R265). -/
inductive XPhase where
  /-- Accepted, not started. -/
  | accepted
  /-- Fragment table being read. -/
  | table
  /-- Data moving. -/
  | data
  /-- Finished, its completion created and not yet written. -/
  | done
  /-- Completion write outstanding. -/
  | completing
  /-- Release write outstanding. -/
  | releasing
  deriving DecidableEq, Repr

/-- The execution of one accepted submission entry. -/
structure Exec where
  id : Nat
  sq : Nat
  pos : Nat
  /-- The 64 bytes of the entry. -/
  raw : Bytes
  /-- Fragment pairs: address, length. -/
  frags : List (Nat × Nat)
  phase : XPhase
  /-- Frame it transmits or receives. -/
  frame : Option Nat
  /-- Bytes requested, and bytes that have arrived or been answered. -/
  issued : Nat
  moved : Nat
  /-- Transmit: data read, as (frame byte, bytes) pieces in order of arrival. -/
  pieces : List (Nat × Bytes)
  /-- Bytes of a fragment table read so far. -/
  tbl : Bytes
  /-- Data accesses outstanding. -/
  out : Nat
  /-- Parked at its exact byte by a translation fault (R278). -/
  parked : Bool
  /-- An error status met in data access; 0 while none. -/
  err : Nat
  /-- Completion bytes once the outcome is known. -/
  cpl : Option Bytes
  /-- The place reserved is a pool entry (R272). -/
  fromPool : Bool
  placed : Bool
  /-- Output number of its completion, once created (R16). -/
  oid : Nat
  fence : Option Nat
  /-- Cancelled by an abort sequence: completes with ABORTED. -/
  abort : Bool
  deriving DecidableEq, Repr

/-- A fence (R16, R37): covers every output numbered below `upto`. -/
structure Fence where
  id : Nat
  upto : Nat
  /-- Admin pair and command it completes, if it is a FENCE command. -/
  cmd : Option (Nat × Nat)
  deriving DecidableEq, Repr

/-- A receive-queue group (R279). -/
structure Group where
  valid : Bool
  base : Nat
  logSize : Nat
  deriving DecidableEq, Repr

/-- Work-queue state. -/
structure Wq where
  sqs : Smap Sq
  cqs : Smap Cq
  nextExec : Nat
  execs : List Exec
  groups : Smap Group
  /-- Member pool: VALID and receive queue (R279). -/
  members : Smap (Bool × Nat)
  /-- Snapshot of WQ_CTX1 to WQ_CTX3. -/
  ctxSnap : List Nat
  nextFence : Nat
  fences : List Fence
  /-- Outputs created and not yet visible (R16), by output number. -/
  outs : List Nat
  nextOut : Nat
  deriving DecidableEq, Repr

/-! ## Admin pairs (spec/10) -/

/-- Where an admin command stands (R288, R290). -/
inductive CmdPhase where
  | waiting | running | finished | writing | releasing
  deriving DecidableEq, Repr

/-- An accepted admin command. -/
structure Cmd where
  id : Nat
  pos : Nat
  opcode : Nat
  serial : Bool
  tag : Nat
  /-- The 64 bytes of the entry. -/
  raw : Bytes
  phase : CmdPhase
  status : Nat
  result0 : Nat
  result1 : Nat
  /-- Data read from host memory (R293). -/
  data : Bytes
  /-- Output number of its completion, once created. -/
  oid : Nat
  deriving DecidableEq, Repr

/-- An admin pair beside its registers. -/
structure Pair where
  cmds : List Cmd
  nextCmd : Nat
  sqPos : Nat
  cqProd : Nat
  credit : Nat
  scanning : Bool
  rescan : Bool
  stopRoom : Bool
  cqScan : Bool
  cqRescan : Bool
  silValid : Bool
  sillage : Nat
  armed : Bool
  armPending : Bool
  outWrites : Nat
  outRecs : Nat
  /-- The final scan of a drain has ended (R296). -/
  finalDone : Bool
  /-- First position of that scan, once it runs: it covers the ring once (R281, R296). -/
  finalFrom : Option Nat
  /-- The pair has stopped since it was enabled, and writes nothing more (R295, R296). -/
  silent : Bool
  deriving DecidableEq, Repr

/-! ## Transfer channels (spec/11) -/

/-- Execution phase of a general descriptor (R325). -/
inductive TePhase where
  | none | lists | data | status | release
  deriving DecidableEq, Repr

/-- A general channel beside its registers. -/
structure Te where
  /-- Accepted descriptors waiting, oldest first: ring position and 32 bytes (R320). -/
  cache : List (Nat × Bytes)
  scanning : Bool
  rescan : Bool
  stopRoom : Bool
  phase : TePhase
  pos : Nat
  raw : Bytes
  src : List (Nat × Nat)
  dst : List (Nat × Nat)
  /-- List bytes read so far, as pieces. -/
  listBytes : List (Nat × Bytes)
  /-- Source bytes requested, and those received, as pieces; and destination bytes handed to writes. -/
  issued : Nat
  pieces : List (Nat × Bytes)
  wrote : Nat
  status : Nat
  side : Bool
  fence : Option Nat
  /-- Park point while a hold drains (R329): element index. -/
  park : Option Nat
  /-- ENABLE = 0 was accepted: descriptors end with ABORTED (R333). -/
  closing : Bool
  finalDone : Bool
  /-- First position of the final scan, once it runs: it covers the ring once (R281, R333). -/
  finalFrom : Option Nat
  /-- Islands whose power-down holds the channel (R340, R341). -/
  power : List Nat
  deriving DecidableEq, Repr

/-! ## Profiles (spec/03) -/

/-- The profile in force and a LOAD_PROFILE in progress (R104 to R109). -/
structure Prof where
  /-- The 1,024 bytes of the active profile; empty for the null layout. -/
  cur : Bytes
  /-- While a LOAD_PROFILE runs: the profile it replaces, and its command. -/
  next : Option (Bytes × Nat × Nat)
  deriving DecidableEq, Repr

/-! ## Lanes and links (spec/04) -/

/-- A physical lane beside its registers. -/
structure Lane where
  /-- LN_CTRL and LN_TXEQ as in effect; stored changes take effect at the next entry to TRAIN or ALIGN (R131). -/
  effCtrl : Nat
  effEq : Nat
  /-- Role before TEST (LN_CTRL TEST). -/
  prior : Nat
  deriving DecidableEq, Repr

/-- A port's link state beside its registers. -/
structure Link where
  /-- LINK_MODE in force, fixed at the exit from DISABLED or RETRY. -/
  mode : Nat
  /-- FEC-degraded (R126). -/
  fecDeg : Bool
  /-- Fault that the reconciliation sublayer of a slotted client reports: 0 none, 1 local, 2 remote (R148). -/
  rs : Nat
  /-- Link state acted on last (R124, R148). -/
  up : Bool
  deriving DecidableEq, Repr

/-- A lane substitution in progress (R129, R159). Its last completed step and PARKED are in LN_SUBST of the spare. -/
structure Subst where
  /-- Physical lane being replaced, and the spare. -/
  from_ : Nat
  spare : Nat
  /-- Logical lane moved; slot group and member index of a slotted lane, with the spare's member index. -/
  logical : Nat
  slotted : Bool
  group : Nat
  member : Nat
  newMember : Nat
  port : Nat
  /-- Logical lane that the map gave the spare before step 3, 0x1F for none (R129). -/
  back : Nat
  /-- Last completed step. -/
  step : Nat
  parked : Bool
  /-- Parked because an island that it needs powers down (R31). -/
  power : Bool
  /-- The step after the last completed one is in progress. -/
  begun : Bool
  cmd : Option (Nat × Nat)
  /-- Cause of an automatic one, as SV_LAST CAUSE codes it (R473). -/
  cause : Nat
  deriving DecidableEq, Repr

/-- Lanes, links and substitutions. -/
structure Phy where
  lanes : Smap Lane
  links : Smap Link
  /-- Physical lane of each logical lane, where it differs from its own number (R116). -/
  lmap : Smap Nat
  substs : List Subst
  deriving DecidableEq, Repr

/-! ## Ochan slot layer (spec/05) -/

/-- A candidate marker of a hunting member (R144): position, FRAME_NUM, count. -/
structure Cand where
  pos : Nat
  fnum : Nat
  count : Nat
  deriving DecidableEq, Repr

/-- A member beside its OS_MEMBER register (R144 to R149). -/
structure Member where
  cands : List Cand
  /-- Position of its overhead blocks modulo 40,961, and the last frame number, once in frame. -/
  pos : Nat
  fnum : Nat
  bad : Nat
  /-- Runs of consecutive good overheads with AIS 1 and 0, RDI 1 and 0, wrong and right identity (R146). -/
  ais1 : Nat
  ais0 : Nat
  rdi1 : Nat
  rdi0 : Nat
  idBad : Nat
  idGood : Nat
  /-- Consecutive multiframes whose trace differed and matched. -/
  trBad : Nat
  trGood : Nat
  /-- Trace bytes of the multiframe being received; good overheads in a row since its frame 0; last complete trace. -/
  trace : Bytes
  last : Bytes
  /-- Map entries of the cycle being received, and the last complete cycle with its PAGE, SW_REQ and SW_ACK. -/
  part : List Nat
  map : List Nat
  mapPage : Nat
  mapReq : Bool
  mapAck : Bool
  mapDone : Bool
  /-- Flags of the last good overhead. -/
  page : Nat
  req : Bool
  ack : Bool
  /-- Consecutive differing and matching cycles, and the clients named in differing entries (R149). -/
  mapBad : Nat
  mapGood : Nat
  mmClients : List Nat
  /-- RDI is set in its transmitted overhead (R147). -/
  txRdi : Bool
  deriving DecidableEq, Repr

/-- Why a page switch runs (R154). -/
inductive SwWhy where
  | command (p k : Nat)
  | follow
  | profile
  | subst
  deriving DecidableEq, Repr

/-- A slot group beside its registers (R152 to R158). -/
structure Slots where
  why : Option SwWhy
  /-- SW_REQ and SW_ACK as transmitted, and whether both fall at the next transmit frame 0. -/
  swReq : Bool
  swAck : Bool
  /-- Page whose map the group advertises, as its last transmit frame 0 left it (R143). -/
  adv : Nat
  clear : Bool
  /-- The switch is parked because the lanes power down (R31). -/
  power : Bool
  deriving DecidableEq, Repr

/-- The slot layer. -/
structure Os where
  /-- Connection memory: page × 720 + slot; unlisted entries are unassigned (R152). -/
  cm : Smap Nat
  /-- Members, by 32 × group + index. -/
  members : Smap Member
  groups : Smap Slots
  /-- Slots for which each slotted port is paced (R150, R154). -/
  pace : Smap Nat
  deriving DecidableEq, Repr

/-! ## Frames (spec/06, spec/07, spec/13) -/

/-- A learn request (R202, R237). -/
structure Learn where
  key : Nat
  target : Nat
  port : Nat
  deriving DecidableEq, Repr

/-- What a program decided about a frame (R207, R215). -/
inductive VKind where
  | drop
  | deliver (group : Nat)
  | forward (leaf : Nat)
  | send
  /-- A program fault or an engine error, with its status (R216). -/
  | fault (status : Nat)
  deriving DecidableEq, Repr

/-- A verdict: kind, mirror destination (R208), mark (R209). -/
structure Verdict where
  kind : VKind
  mirror : Option Nat
  mark : Bool
  deriving DecidableEq, Repr

/-- A registered layer-4 checksum (R205): UDP or TCP, and the offsets of its headers. -/
structure Csum where
  udp : Bool
  ip : Nat
  l4 : Nat
  deriving DecidableEq, Repr

/-- What a program leaves of its work on a frame (R193 to R196). -/
structure Prog where
  /-- Window bytes stored by the program. -/
  win : Smap (Option Byte)
  /-- The 64 bytes of metadata. -/
  md : Bytes
  /-- Bytes still pending of HLEN and BODY (R195): bits 0 and 1 for HLEN, 2 and 3 for BODY. -/
  pend : Nat
  slot0 : Option Csum
  slot1 : Option Csum
  deriving DecidableEq, Repr

/-- A frame in the block. -/
structure Frame where
  id : Nat
  port : Nat
  prio : Nat
  /-- Direction in which it is dispatched: true for transmit. -/
  tx : Bool
  /-- Original bytes that have arrived (R195); for a transmitted frame, bytes read so far. -/
  data : Bytes
  /-- Frame length: for a received frame that has not ended, not yet known. -/
  len : Nat
  ended : Bool
  /-- A transmitted frame without an entry: forwarded or mirrored to a leaf (spec/13). -/
  fwd : Bool
  /-- First failed receive check (R165), 0 for none. -/
  fail : Nat
  /-- FCS_POLICY at the frame's start (R163). -/
  store : Bool
  /-- Receive timestamp, in units of 2^-48 ns (R180). -/
  ts : Nat
  tagged : Bool
  /-- An error control block was received in a fragment of it (R163, R178). -/
  code : Bool
  /-- A mirror copy: the cluster whose MIRROR_DROP counts its drop (R208). -/
  mirrorOf : Option Nat
  mm : Bool
  /-- A MAC control frame (R167), and whether it is consumed without dispatch. -/
  ctrl : Bool
  consumed : Bool
  /-- Discarded when it ends: 1 RX_EN = 0 (R186), 2 asleep (R184), 3 not admitted, 4 SMD error (R179). -/
  discard : Nat
  /-- Where its cells are charged: 0 nowhere, 1 ordinary space or quota, 2 headroom, 3 pool (R170, R171). -/
  space : Nat
  cells : Nat
  /-- Transmit entry it comes from, or receive post it is delivered into. -/
  exec : Option Nat
  /-- Leaf it was selected from. -/
  leaf : Nat
  /-- The received frame whose cells a forwarded frame keeps (R169, R346). -/
  orig : Option Nat
  /-- Dispatched to an engine; its context while that runs (R190); the cluster it ran in. -/
  dispatched : Bool
  ctx : Option Nat
  cluster : Nat
  /-- Where its END was issued: engine × 4,096 + address. -/
  endAt : Nat
  waited : Bool
  prog : Prog
  verdict : Option Verdict
  effective : Bool
  /-- Receive queue it waits for or is delivered to. -/
  rq : Option Nat
  /-- Dropped before its verdict: the verdict has no effect (R163, R185). -/
  dead : Bool
  /-- Delivered unedited (R215); and its data carries no frame check sequence (R208, R502). -/
  unedited : Bool
  noFcs : Bool
  /-- Status of a program fault or engine error, 0 for none (R215). -/
  faultStatus : Nat
  /-- An ECN mark was made (R209). -/
  marked : Bool
  learns : List Learn
  deriving DecidableEq, Repr

/-- Receive state of a port (spec/06). -/
structure RxPort where
  /-- Frame being received. -/
  cur : Option Nat
  /-- Open MAC merge reassembly: frame, its SMD number, next frag count (R178). -/
  asm : Option (Nat × Nat × Nat)
  /-- Running value of the PAUSE_ALL timer, as the end instant on the refill clock; 0 when it is not running. -/
  pauseAll : Nat
  /-- Running value of each pause timer, as the end instant on the refill clock; key priority (R175). -/
  pause : Smap Nat
  deriving DecidableEq, Repr

/-- A frame on the line or open (R368, R382, R383). -/
structure TxCur where
  frame : Nat
  /-- Sent as preemptable (R381). -/
  pre : Bool
  smd : Nat
  /-- Bytes sent in earlier mPackets, and mPackets ended. -/
  sent : Nat
  frags : Nat
  /-- Timestamp fixed at the start (R374), in units of 2^-48 ns. -/
  ts : Nat
  /-- Instant of the refill clock at which the current mPacket began, its preamble first (R382). -/
  began : Nat := 0
  deriving DecidableEq, Repr

/-- What a MAC puts on the line. -/
inductive LineKind where
  /-- A whole express frame, with its FCS; a whole preemptable frame, with its SMD-S number. -/
  | frame
  | preemptable (smd : Nat)
  /-- A frame cut with an error control block (R372, R380). -/
  | cut
  /-- An mPacket that ends with its mCRC: SMD number and frag count (R382). -/
  | fragment (smd frag : Nat) (first : Bool)
  /-- The last mPacket of a preempted frame, with the FCS. -/
  | last (smd frag : Nat)
  /-- Flow-control frames and MAC merge verification (R377, R378). -/
  | pauseFrame
  | pfcFrame
  | verify
  | respond
  deriving DecidableEq, Repr

/-- An output of a transmit MAC. -/
structure LineOut where
  port : Nat
  kind : LineKind
  bytes : Bytes
  deriving DecidableEq, Repr

/-- Transmit state of a port (spec/13). -/
structure TxPort where
  /-- The frame being sent, and the preempted frame that awaits its continuation. -/
  cur : Option TxCur
  opened : Option TxCur
  /-- SMD-S number of the next preemptable frame (R383). -/
  nextSmd : Nat
  /-- A flow-control frame is due (R377), and the priorities that have left since the previous PFC frame. -/
  fcDue : Bool
  left : Nat
  verifyDue : Bool
  respondDue : Bool
  /-- An error control block is due for a preempted frame whose data failed while another was being sent (R372). -/
  cutDue : Bool := false
  deriving DecidableEq, Repr

/-- A pending result of a context (R199, R200). -/
inductive Pend where
  /-- LKP: destination, key, meter charge (bytes, colour), learn target. -/
  | lkp (rd key : Nat) (meter : Option (Nat × Nat)) (learn : Option Nat)
  /-- MTR: destination, meter, bytes, colour. -/
  | mtr (rd idx len colour : Nat)
  /-- HASHF: destination, function, accumulated bytes. -/
  | hashf (rd fn : Nat) (acc : Bytes)
  deriving DecidableEq, Repr

/-- A running context (R187 to R200). Its number is 34 × cluster + 2 × engine + context. -/
structure Ctx where
  id : Nat
  frame : Nat
  bank : Nat
  pc : Nat
  /-- g0 to g15. -/
  g : List (BitVec 64)
  ret : List Nat
  acc : Bytes
  pend : List Pend
  /-- Instructions issued (R211), and the core cycle of its dispatch. -/
  issued : Nat
  start : Nat
  /-- Error checks of its fetches to come (R217): fetch number, uncorrectable. -/
  ecc : List (Nat × Bool)
  deriving DecidableEq, Repr

/-- A substitution of an engine in progress: cluster, engine, spare, and the ENGINE_SUBST command (R220). -/
structure EngSub where
  cluster : Nat
  engine : Nat
  cmd : Option (Nat × Nat)
  deriving DecidableEq, Repr

/-- Datapath state. -/
structure Dp where
  nextFrame : Nat
  frames : List Frame
  /-- Frames of a port and direction in order, from arrival or selection until their verdict takes effect (R192);
  key 2 × port + direction. -/
  line : Smap (List Nat)
  rx : Smap RxPort
  tx : Smap TxPort
  out : List LineOut
  /-- Wake filter memory (R182): port × 512 + filter × 32 + word. -/
  wake : Smap Nat
  ctxs : List Ctx
  /-- Frames that found no free context, in the order in which they wait (R213). -/
  waiters : List Nat
  /-- By port, the received frames that have ended and whose learn requests are withheld, in the order in which they ended; a
  frame that has its verdict leaves its requests (R237). -/
  learnWait : Smap (List (Nat × Option (List Learn)))
  /-- Cluster chosen last by the dispatcher (R190). -/
  lastCluster : Nat
  /-- Program store: bank × 4,096 + address, and entry tables: bank × 128 + index. -/
  store : Smap Nat
  entry : Smap Nat
  subst : List EngSub
  /-- PROG_UPDATE in progress: pair, command (R309). -/
  progCmd : Option (Nat × Nat)
  /-- This millisecond's totals for R214: frames finished, issue cycles, cycles from dispatch to release. -/
  msFrames : Nat
  msIssue : Nat
  msElapsed : Nat
  deriving DecidableEq, Repr

/-! ## Steering table and meters (spec/08) -/

/-- A table entry (R223), its ECC byte apart. -/
structure Ent where
  key : Nat
  target : Nat
  meter : Nat
  action : Nat
  hit : Bool
  static : Bool
  moving : Bool
  deriving DecidableEq, Repr

/-- A change to the table, by content: a software change with its admin pair and command, a learn, or a change
journalled by the Duo partner (R229, R488). -/
inductive Change where
  | insert (p k : Nat) (e : Ent)
  | update (p k : Nat) (e : Ent) (fields : Nat)
  | delete (p k : Nat) (key : Nat)
  | learn (l : Learn)
  | age (loc : Nat)
  /-- A change that a standby repeats (R488): the kind of its TABLE record, and the entry. -/
  | mirror (op : Nat) (e : Ent)
  deriving DecidableEq, Repr

/-- A meter (R251 to R253): its 20 configuration bytes, its levels in 2^-16 byte, and the core cycle of its last
refill. -/
structure Meter where
  cfg : Bytes
  lvlC : Nat
  lvlX : Nat
  last : Nat
  deriving DecidableEq, Repr

/-- An indirect window (R254). -/
structure IxWin where
  entry : Bytes
  loc : Nat
  result : Nat
  /-- The command in progress: OP, while BUSY is 1. -/
  busy : Option Nat
  /-- A move has emptied the location during the command (R255). -/
  moved : Bool
  deriving DecidableEq, Repr

/-- Table state beside its registers. -/
structure Tab where
  /-- Ways: 4 × bucket + way, then 2,097,152 + 8 × set + way. -/
  ways : Smap (Option Ent)
  /-- The pending list, in the order in which entries came: each with the index that it keeps (R242, R254). -/
  pend : List (Nat × Ent)
  /-- Rotating pointer of R233. -/
  ptr : Nat
  /-- New seeds of a rehash that runs, is parked or is finishing (R243). -/
  newSeeds : Option (Nat × Nat)
  learnQ : List Learn
  /-- The learn insertion or move that the arbiter offers to the change unit (R229). -/
  offered : List Learn
  /-- Hold-down records, oldest first: key, and end of life in units of block time (R238). -/
  holds : List (Nat × Nat)
  /-- Block time at which LEARN_CONFLICT was last set (R239). -/
  conflictAt : Option Nat
  /-- Software changes waiting (R229). -/
  changes : List Change
  /-- Next location the ageing scan visits (R241), and the ageing steps that are due and wait for their turn (R229). -/
  agePos : Nat
  ageDue : Nat
  /-- Whose turn it is: 0 software, 1 learn arbiter, 2 ageing (R229). -/
  turn : Nat
  /-- A change has been applied while the rehash runs: a rehash step follows it (R229). -/
  stepDue : Bool
  /-- A change that waits for the standby's acknowledgement, with its journal number (R231). -/
  acking : Option (Change × Nat)
  /-- An insertion that waits for a pending way (R249). -/
  stuck : Option Change
  /-- The scan of a rehash has passed its last location (R245). -/
  finishing : Bool
  /-- Parked because the table island leaves RUN (R246). -/
  powerPark : Bool
  /-- Software parked the rehash: only software resumes it (R249). -/
  softParked : Bool
  meters : Smap Meter
  win : Smap IxWin
  deriving DecidableEq, Repr

/-! ## Scheduler (spec/12) -/

/-- What a leaf or forwarding FIFO gives the MAC: an execution of a transmit entry, or a forwarded frame. -/
inductive TxItem where
  | exec (x : Nat)
  | frame (f : Nat)
  deriving DecidableEq, Repr

/-- A frame selected by a port's scheduler and not yet passed to the MAC in full (R348, R354, R365). -/
structure Sel where
  item : TxItem
  leaf : Nat
  /-- Nodes charged, as (level, node) codes: level × 2^20 + node. -/
  path : List Nat
  charge : Int
  len : Nat
  cls : Nat
  /-- Projected start S (R358, R365), in units of 2^-48 ns of block time. -/
  start : Nat
  /-- The frame it is in the transmit direction. -/
  frame : Nat
  /-- The transmit verdict has taken effect, and the frame may start (R192). -/
  ready : Bool
  /-- OVERHEAD at the selection (R353, R367). -/
  extra : Int := 0
  deriving DecidableEq, Repr

/-- A gate calendar (R360): entries (duration in ns, open classes), START and cycle in ns. -/
structure Calendar where
  entries : List (Nat × Nat)
  start : Nat
  cycle : Nat
  deriving DecidableEq, Repr

/-- Per-port scheduler state. -/
structure ScPort where
  /-- Projected end PE (R358), on the refill clock in units of 2^-48 ns. -/
  pe : Nat
  sels : List Sel
  active : Option Calendar
  /-- Pending calendar, its activation instant and the command that completes then (R361). -/
  pendingCal : Option (Calendar × Nat × Nat × Nat)
  /-- Calendars that governed before, while a selection waits: the instant each ceased to, most recent first (R361, R365). -/
  past : List (Nat × Option Calendar)
  deriving DecidableEq, Repr

/-- The scheduler. Keys of the maps are level × 2^20 + node (level 0 leaf, 1 subscriber, 2 service, 3 port). -/
structure Sc where
  /-- The 32-byte node records (R347); unlisted nodes are not VALID. -/
  nodes : Smap Bytes
  /-- Committed and peak levels, in 1/64 byte (R355). -/
  lvlC : Smap Int
  lvlP : Smap Int
  /-- Records whose CEN, PEN and bucket fields are in force (R357). -/
  force : Smap Bytes
  /-- A SHAPER_SET's record waits for the node's next refill (R357): 1. -/
  next : Smap Nat
  /-- Deficits in bytes: key 2 × node code + pass (R351). -/
  deficit : Smap Nat
  /-- Child whose turn it is: key (node code × 2 + pass) × 8 + band or priority (R351). -/
  turn : Smap Nat
  /-- FIFOs of forwarding leaves: frame numbers (R346). -/
  fifo : Smap (List Nat)
  ports : Smap ScPort
  deriving DecidableEq, Repr

/-! ## Power states and islands (spec/01, spec/16) -/

/-- Power state of an island (PAGE_PWR STATE). -/
inductive PState where
  | run | idle | sleep | deep | off
  deriving DecidableEq, Repr

/-- One island (R18). -/
structure Island where
  st : PState
  /-- State an entry or wake sequence is moving to. -/
  target : PState
  /-- An entry sequence runs. -/
  entering : Bool
  /-- A wake sequence runs. -/
  waking : Bool
  /-- Wakes that fell back (PW_ISLAND FAILS). -/
  fails : Nat
  deriving DecidableEq, Repr

/-- An entry or wake sequence in progress (R437, R442), of the block (code 0xFF) or of one island. -/
structure PSeq where
  code : Nat
  /-- Islands that change state. -/
  members : List Nat
  wake : Bool
  /-- State being entered, or, in a wake, the state being left. -/
  state : PState
  /-- Entry phase or wake step in progress. -/
  step : Nat
  /-- Admin pair and command of the PWR_REQ it serves. -/
  cmd : Option (Nat × Nat)
  /-- Wake sources accepted (bit c - 1 for code c), the first one, its detail and its time (R440, R441). -/
  sources : Nat
  source : Nat
  detail : Nat
  ts : Nat
  /-- A step has been repeated; the present step is its repetition; the step that timed out (R443). -/
  retried : Bool
  repeating : Bool
  failStep : Nat
  /-- A wake falls back: entry phases 6 and 7 of the prior state run (R443). -/
  fallback : Bool
  /-- Islands asleep alone that a wake source named while the block sequence ran: the wake takes them along (R439, R441). -/
  also : List Nat
  deriving DecidableEq, Repr

/-- Power control beside its registers. -/
structure PwSt where
  seqs : List PSeq
  /-- Doorbell-pending bits: function and handle (R438). -/
  bells : List (Nat × Nat)
  /-- Islands that the present block state put down. -/
  blockDown : List Nat
  /-- Items held at a crossing whose receiving island is not in RUN (R21), as the events that brought them, oldest first. -/
  held : List Instr
  deriving DecidableEq, Repr

/-! ## Steward and secure boot (spec/17) -/

/-- What the steward's ROM is doing in a load (R450 to R458). -/
inductive BootPhase where
  /-- No load runs: the steward is in reset, or an image runs, or the block is in RECOVERY. -/
  | idle
  /-- The boot control block is being read. -/
  | bcb
  /-- The manifest is being read. -/
  | manifest
  /-- The manifest's checks have passed: chunks are copied and hashed, and the signature is being verified. -/
  | chunks
  deriving DecidableEq, Repr

/-- The steward, its loads and the fuses, beside their registers. -/
structure Boot where
  /-- The fuse array's words, by byte offset / 4 (R463): the array keeps them whatever is reset. -/
  array : Smap Nat
  /-- Fuse words, by byte offset / 4, as the fuse shadow holds them (R463). -/
  fuse : Smap Nat
  phase : BootPhase
  /-- The 64 bytes of the boot control block as last read or written (R455, R456). -/
  bcb : Bytes
  /-- The manifest in steward SRAM. -/
  man : Bytes
  /-- Addresses of the slot and of the boot control block in force: a new value of their registers applies at the next choice
  of slot (spec/17). -/
  slotAt : Nat
  bcbAt : Nat
  /-- Image SRAM of the load: (offset, bytes) as copied (R450). -/
  image : List (Nat × Bytes)
  /-- Chunks whose hash has matched (R453). -/
  matched : List Nat
  /-- The load in progress, or the one that led to the running image, is a trial (R457). -/
  trial : Bool
  /-- That load is one of RECOV_GO: only the named slot is tried (R457). -/
  recov : Bool
  /-- Slot that the next load is forced to (R457). -/
  forced : Option Nat
  /-- A steward restart waits for its accesses and admin pairs (R462). -/
  restart : Bool
  /-- End of the trial watchdog, in units of 2^-48 ns of the refill clock; 0 when it does not run (R459). -/
  trialEnd : Nat
  /-- The steward runs its image, its entry reached (R453). -/
  entered : Bool
  /-- A read of the manifest or of a chunk ended with R_ERR (R451). -/
  readErr : Bool
  /-- Profile application has been requested by RELEASE or the time-out before the verdict (R460). -/
  relDue : Bool
  /-- The one RELEASE that a cold reset accepts has been written (R460). -/
  relTaken : Bool
  /-- Bank 0 of the program store and its entry table as the steward's image loads them (R219, R460). -/
  prog : Smap Nat
  progEntry : Smap Nat
  /-- Fuse word being programmed, and the bits to blow (R465). -/
  fusing : Option (Nat × Nat)
  deriving DecidableEq, Repr

/-! ## Wear and spares (spec/18) -/

/-- An automatic action that waits (R472, R474, R477): SV_LAST kind, cause and object, with the address of a row or
column. -/
structure Act where
  kind : Nat
  cause : Nat
  obj : Nat
  addr : Nat
  deriving DecidableEq, Repr

/-- An SRAM repair in progress in an island (R476): its SV_REPAIR_DATA word, and whether APPLY started it. -/
structure Repair where
  isl : Nat
  data : Nat
  byApply : Bool
  deriving DecidableEq, Repr

/-- Wear monitors, repairs and the host memory port substitution, beside their registers. -/
structure Sv where
  /-- Last reading of each monitor, keyed by KIND × 2^17 + INDEX: VALUE of SV_MON. -/
  mon : Smap Nat
  /-- Monitors at or above WARN and ACT, which have reported (R470); lane eyes have KIND 3 and the island code. -/
  warned : List Nat
  acted : List Nat
  /-- Monitors at or above ACT whose action has been triggered, by a reading taken in RUN (R472). -/
  started : List Nat
  /-- Consecutive low eye refreshes of a lane (R470). -/
  eyeLow : Smap Nat
  /-- Actions that wait for the next monitor read. -/
  acts : List Act
  repairs : List Repair
  /-- Field repair list, oldest first (SV_REPAIR_CMD). -/
  fixed : List Nat
  /-- Spare rows and columns used by a macro: key island × 512 + macro, value rows + 8 × columns. -/
  used : Smap Nat
  /-- Port substitution in progress: worn port and spare port (R479). -/
  hmp : Option (Nat × Nat)
  /-- Channel the substitution moves, and channels that kept their port until the next monitor read. -/
  hmpChan : Option Nat
  hmpKept : List Nat
  /-- Host memory ports that are worn and replaced. -/
  wornHmp : List Nat
  /-- Engines whose substitution the block has started, as 17 × cluster + engine, with the cause. -/
  engActs : List (Nat × Nat)
  /-- Retired backlog pool entries and learn queue entries (R469). -/
  poolRet : Nat
  learnRet : Nat
  deriving DecidableEq, Repr

/-! ## Duo (spec/19) -/

/-- A READY received by a standby (R489): what it names, and how far it is: 0 the flip is outstanding, 1 flipped, its
release still to be issued, 2 the release is outstanding. -/
structure Ready where
  id : Nat
  ref : RdyRef
  st : Nat
  deriving DecidableEq, Repr

/-- What waits for a journal acknowledgement (R488, "acked first"). -/
inductive DuWait where
  | cmd (p k : Nat)
  | table
  deriving DecidableEq, Repr

/-- Where the standby or the active stands in a failover or a protect (R491 to R497). -/
inductive DuPhase where
  | none
  /-- Standby: TAKEOVER sent or FATAL received, waiting for FENCED (R493). -/
  | waitFenced
  /-- Standby: the takeover may begin (R493). -/
  | due
  /-- Standby: lease written, its response outstanding (R494 step 1). -/
  | takeLease
  /-- Standby: finishing the flips it holds READY for (R494 step 2). -/
  | flips
  /-- Standby: admin commands of the former active are being completed (R494 step 3). -/
  | flush
  /-- Active: stops issuing and drains before it answers FENCED (R492). -/
  | draining
  /-- Former active: FENCED answered, the partner's takeover awaited (R492, R496). -/
  | gaveUp
  /-- Active: snapshot sent, not yet acknowledged (R497 step 1). -/
  | snapshot
  /-- Active: the partner has acknowledged the whole snapshot (R497 step 2). -/
  | acked
  /-- Active: cutover waits for its own flips and releases (R497 step 2). -/
  | cutover
  /-- Active: the positions are sent, and CUTOVER follows the records that wait (R497 step 2). -/
  | positions
  deriving DecidableEq, Repr

/-- Duo state beside its registers. -/
structure Du where
  txSeq : Nat
  acked : Nat
  /-- Unacknowledged journal flits: sequence number and record (R487). -/
  replay : List (Nat × JRec)
  /-- Journal records that wait while the replay store is full (R487). -/
  held : List (Nat × JRec)
  rxSeq : Nat
  /-- A gap has been found and a resend requested; later flits are discarded (R487). -/
  gap : Bool
  /-- Flits that have arrived since the resend was requested (R487). -/
  gapFlits : Nat
  /-- Flit credits held (R79). -/
  credits : Nat
  /-- Flits waiting for a credit, oldest first. -/
  txq : List Flit
  /-- Flits sent, oldest first. -/
  sent : List Flit
  /-- Credits returned to the partner so far (R79), each carrying the sequence acknowledged then. -/
  creditsOut : List Nat
  /-- Block time of the last flit sent. -/
  lastTx : Nat
  /-- READYs sent whose flip is not reported yet (R489, R490): number and what was written. -/
  flips : List (Nat × Purpose)
  nextReady : Nat
  /-- Standby: READYs received and not yet flipped, in order. -/
  todo : List Ready
  waits : List (Nat × DuWait)
  /-- Lease as last read or written: COUNT, HOLDER, EPOCH (R491). -/
  count : Nat
  holder : Nat
  epoch : Nat
  /-- A lease read has been made since PROTECTED; COUNT was unchanged at each standby read of the last 200 µs: how
  many consecutive reads have shown it (R492). -/
  same : Nat
  /-- The last lease access shows HOLDER as this unit, and a flit has arrived (R491, leaving FENCED). -/
  phase : DuPhase
  /-- Admin pair and command of the DUO_FAILOVER or DUO_PROTECT in progress. -/
  cmd : Option (Nat × Nat)
  /-- Trigger code and instant of the failover in progress (DU_LAST_FAIL). -/
  trigger : Nat
  triggerAt : Nat
  /-- Standby: admin entries the active has accepted and not flipped, by pair and position (R494 step 3). -/
  mirror : List (Nat × AdmEntry)
  /-- ROLE and PAIR that the partner's last flit showed. -/
  partner : Nat × Nat
  /-- Counter values that the partner has been told of (R488). -/
  told : Smap Nat
  /-- Block time at which the last cold or warm reset ended (R496). -/
  leftReset : Nat
  /-- Sequence number of the last snapshot record (R497). -/
  snapSeq : Nat
  /-- Queues, and general channels plus 2^16, whose scan at takeover has not ended: what it accepts is executed again
  (R494, R495). -/
  again : List Nat
  deriving DecidableEq, Repr

/-! ## The whole state -/

/-- The state of the block. -/
structure State where
  /-- Registers, by byte address of the word; unlisted words hold their reset value. -/
  regs : Smap W32
  pins : Pins
  ctl : Ctl
  host : HostSt
  ev : EvSt
  tb : Tb
  pc : Pc
  wq : Wq
  /-- Admin pairs 1 and 2 (R283). -/
  adm : Smap Pair
  /-- General channels 48 to 63 (R314). -/
  te : Smap Te
  prof : Prof
  phy : Phy
  os : Os
  dp : Dp
  tab : Tab
  sc : Sc
  /-- Islands, by island code (PAGE_PWR ISLAND); unlisted islands are OFF. -/
  isl : Smap Island
  pw : PwSt
  boot : Boot
  sv : Sv
  du : Du
  /-- The model's own counter: how many free values have been drawn. It starts at 0 (DESIGN CHOICE: log entry 9). -/
  free : Nat
  /-- Commands waiting, oldest first. -/
  pending : List Instr
  deriving DecidableEq, Repr

/-- Faults of the machine: none. Every command of the block has an effect in every state, so no step ends in a
fault; the one constructor is for an operation the spec would forbid, and nothing raises it (safe). -/
inductive Fault where
  /-- Reserved: raised by no command (safe). -/
  | none
  deriving DecidableEq, Repr

/-- Refusals of the machine. -/
inductive Refusal where
  /-- Raised by an arm of `exec` whose command has no meaning yet (safe). -/
  | notModelled (mnemonic : String)
  deriving DecidableEq, Repr

/-! ## Reset -/

def Pins.reset : Pins :=
  { rstN := false, warmN := true, refclk := true, collapsed := false, coldStep := 0, coldProfile := 0,
    targetIdle := 0, verdict := false, datapathUp := false, profileApplied := false, fenced := false,
    ready := false, everReady := false, alertN := true, fastIrq := 0, ppsOut := false,
    tapIr := 0, tapBypass := true, tapId := none }

def Ctl.reset : Ctl := { queue := [], rsp := [], shadow := [], staged := [] }

def HostSt.reset : HostSt :=
  { nextId := 0, reqs := [], arb := [], tlb := [], xreqs := [], preqs := [], invals := [], invDone := 0,
    bypassFixed := false }

def EvSt.reset : EvSt :=
  { claims := [], routes := [], windows := [], sils := [], silSnap := 0, nfp := [], rebinds := [],
    conflict := (0, 0), warmHold := false, piccMasked := 0 }

def Tb.reset : Tb :=
  { time := 0, rem := 0, refill := 0, slew := 0, tod := 0, snap := 0, cycle := 0 }

def Dump.reset : Dump :=
  { enable := false, period := 0, base := 0, logSlots := 0, sillage := 0, func := 0, phase := .idle, latchT := 0,
    nextT := 0, seq := 0, slot := 0, skipped := 0, record := 0, outRecs := 0, kind := 0, stepped := false,
    shadow := [], parkPark := false, parkFault := false, parkPower := false, status := 0, oid := 0, named := false, waiting := [],
    newCfg := none }

/-- A byte-rate window at reset: W of 1,000 µs (PC_RATE_STATE), MIN and MAX as R430 sets them. -/
def Rate.reset : Rate :=
  { window := 1000, newWindow := 0, sum := 0, last := 0, min := 0xFFFFFFFFFFFF, max := 0, windows := 0 }

def Pc.reset : Pc :=
  { val := [], wrap := [], level := [], held := [], dump := Dump.reset, cntPerm := [], rates := [] }

def Sil.none : Sil :=
  { state := .none, func := 0, target := 0, logSize := 0, base := 0, prod := 0, credit := 0, lost := 0, seq := 0,
    armed := false, armPending := false, moderating := false, msgWait := false, msgDue := false, modTime := 0, modCount := 0,
    dueTime := 0, dueCount := 0, sinceDue := 0, scan := false, rescan := false, outRecs := 0,
    cmd := Option.none }

def Sq.none : Sq :=
  { state := .none, rx := false, base := 0, logSize := 0, func := 0, handle := 0, cq := 0, hold := 0,
    snoop := false, parent := 0, band := 0, pos := 0, scanning := false, rescan := false, stopRoom := false,
    refetch := false, err := 0, waiting := [], cmd := (0, 0), finalDone := false }

def Cq.none : Cq :=
  { state := .none, base := 0, logSize := 0, func := 0, handle := 0, rsv := false, silValid := false,
    sillage := 0, prod := 0, credit := 0, reserved := 0, pool := 0, backlog := [], episode := false,
    episodes := 0, armed := false, armPending := false, scan := false, found := 0, rescan := false,
    outWrites := 0, outRecs := 0, err := 0, cmd := Option.none }

def Wq.reset : Wq :=
  { sqs := [], cqs := [], nextExec := 0, execs := [], groups := [], members := [], ctxSnap := [],
    nextFence := 0, fences := [], outs := [], nextOut := 0 }

def Pair.off : Pair :=
  { cmds := [], nextCmd := 0, sqPos := 0, cqProd := 0, credit := 0, scanning := false, rescan := false,
    stopRoom := false, cqScan := false, cqRescan := false, silValid := false, sillage := 0, armed := false,
    armPending := false, outWrites := 0, outRecs := 0, finalDone := false, finalFrom := none, silent := false }

def Te.off : Te :=
  { cache := [], scanning := false, rescan := false, stopRoom := false, phase := .none, pos := 0, raw := [],
    src := [], dst := [], listBytes := [], issued := 0, pieces := [], wrote := 0,
    status := 0, side := false, fence := none, park := none, closing := false, finalDone := false,
    finalFrom := none, power := [] }

def Prof.reset : Prof := { cur := [], next := none }

/-- LN_CTRL and LN_TXEQ at reset are in effect (spec/04). -/
def Lane.reset : Lane := { effCtrl := 0x8A00, effEq := 0xE63C0, prior := 0 }

def Link.reset : Link := { mode := 0, fecDeg := false, rs := 0, up := false }

def Phy.reset : Phy := { lanes := [], links := [], lmap := [], substs := [] }

def Member.reset : Member :=
  { cands := [], pos := 0, fnum := 0, bad := 0, ais1 := 0, ais0 := 0, rdi1 := 0, rdi0 := 0, idBad := 0, idGood := 0,
    trBad := 0, trGood := 0, trace := [], last := List.replicate 32 0, part := [], map := [], mapPage := 0,
    mapReq := false, mapAck := false, mapDone := false, page := 0, req := false, ack := false, mapBad := 0,
    mapGood := 0, mmClients := [], txRdi := false }

def Slots.reset : Slots := { why := none, swReq := false, swAck := false, adv := 0, clear := false, power := false }

def Os.reset : Os := { cm := [], members := [], groups := [], pace := [] }

/-- A frame's program results before any program has run. -/
def Prog.none : Prog :=
  { win := [], md := List.replicate 64 0, pend := 0, slot0 := Option.none, slot1 := Option.none }

/-- No frame is being received. The PAUSE_ALL timer and the priority timers are not running. -/
def RxPort.reset : RxPort := { cur := none, asm := none, pauseAll := 0, pause := [] }

def TxPort.reset : TxPort :=
  { cur := none, opened := none, nextSmd := 0, fcDue := false, left := 0, verifyDue := false, respondDue := false,
    cutDue := false }

def Dp.reset : Dp :=
  { nextFrame := 0, frames := [], line := [], rx := [], tx := [], out := [], wake := [], ctxs := [],
    waiters := [], learnWait := [], lastCluster := 23, store := [], entry := [], subst := [], progCmd := none, msFrames := 0, msIssue := 0,
    msElapsed := 0 }

def Tab.reset : Tab :=
  { ways := [], pend := [], ptr := 0, newSeeds := none, learnQ := [], offered := [], holds := [], conflictAt := none,
    changes := [], agePos := 0, ageDue := 0, turn := 0, stepDue := false, acking := none, stuck := none, finishing := false,
    powerPark := false, softParked := false, meters := [], win := [] }

/-- A meter with nothing configured. -/
def Meter.none : Meter := { cfg := List.replicate 20 0, lvlC := 0, lvlX := 0, last := 0 }

def IxWin.reset : IxWin := { entry := List.replicate 16 0, loc := 0, result := 0, busy := none, moved := false }

def ScPort.reset : ScPort := { pe := 0, sels := [], active := none, pendingCal := none, past := [] }

def Sc.reset : Sc :=
  { nodes := [], lvlC := [], lvlP := [], force := [], next := [], deficit := [], turn := [], fifo := [], ports := [] }

/-- An island in OFF. -/
def Island.off : Island := { st := .off, target := .off, entering := false, waking := false, fails := 0 }

def PwSt.reset : PwSt := { seqs := [], bells := [], blockDown := [], held := [] }

def Boot.reset : Boot :=
  { array := [], fuse := [], phase := .idle, bcb := [], man := [], slotAt := 0, bcbAt := 0, image := [], matched := [],
    trial := false, recov := false,
    forced := none, restart := false, trialEnd := 0, entered := false, readErr := false,
    relDue := false, relTaken := false, prog := [], progEntry := [], fusing := none }

def Sv.reset : Sv :=
  { mon := [], warned := [], acted := [], started := [], eyeLow := [], acts := [], repairs := [], fixed := [], used := [], hmp := none,
    hmpChan := none, hmpKept := [], wornHmp := [], engActs := [], poolRet := 0, learnRet := 0 }

/-- The Duo unit after cold reset: 16 credits (R79), no journal. -/
def Du.reset : Du :=
  { txSeq := 0, acked := 0, replay := [], held := [], rxSeq := 0, gap := false, gapFlits := 0, credits := 16, txq := [], sent := [],
    creditsOut := [], lastTx := 0, flips := [], nextReady := 0, todo := [], waits := [], count := 0, holder := 0,
    epoch := 0, same := 0, phase := .none, cmd := none, trigger := 0, triggerAt := 0, mirror := [], partner := (0, 0), told := [],
    leftReset := 0, snapSeq := 0, again := [] }

/-- The block while RST_N is low (R42): every register at its reset value, every island down, no queue, and
no command waiting. (DESIGN CHOICE: log entries 1, 8 and 11.) -/
def State.reset : State :=
  { regs := [], pins := Pins.reset, ctl := Ctl.reset, host := HostSt.reset, ev := EvSt.reset, tb := Tb.reset,
    pc := Pc.reset, wq := Wq.reset, adm := [], te := [], prof := Prof.reset,
    phy := Phy.reset,
    os := Os.reset,
    dp := Dp.reset,
    tab := Tab.reset,
    sc := Sc.reset,
    isl := [], pw := PwSt.reset,
    boot := Boot.reset,
    sv := Sv.reset,
    du := Du.reset,
    free := 0, pending := [] }

end Sys2Proof.Machine
end

