-- ==== Sys2Proof/Machine/Ops.lean ====
section
/-!
DEFINITION. Named operations over the state: sparse arrays, registers and their fields, counters, the clock.
-/

namespace Sys2Proof.Machine

/-! ## Sparse arrays in canonical form -/

/-- Element `k` of a sparse array whose default is `d`. -/
def sget {α : Type} (d : α) : Smap α → Nat → α
  | [], _ => d
  | (i, v) :: m, k => if i = k then v else sget d m k

/-- Insert an entry by its index. -/
def sinsert {α : Type} (k : Nat) (v : α) : Smap α → Smap α
  | [] => [(k, v)]
  | (i, x) :: m => if k < i then (k, v) :: (i, x) :: m else (i, x) :: sinsert k v m

/-- Remove element `k`. -/
def sremove {α : Type} (k : Nat) (m : Smap α) : Smap α := m.filter (fun e => e.1 != k)

/-- Write element `k`; writing the default removes the entry, so that equal arrays are equal lists. -/
def sput {α : Type} [DecidableEq α] (d : α) (m : Smap α) (k : Nat) (v : α) : Smap α :=
  if v = d then sremove k m else sinsert k v (sremove k m)

/-- Canonical form: indices strictly rising, all at least `lo`, and no entry equal to its default. -/
def swf {α : Type} [DecidableEq α] (d : Nat → α) (lo : Nat) : Smap α → Bool
  | [] => true
  | (i, v) :: m => decide (lo ≤ i) && decide (v ≠ d i) && swf d (i + 1) m

/-! ## Registers -/

/-- The word at byte address `a` of a register file; an unlisted word reads as its reset value. -/
def rget (m : Smap W32) (a : Nat) : W32 := sget (resetWord a) m a

/-- Write the word at `a`, keeping the canonical form. -/
def rput (m : Smap W32) (a : Nat) (v : W32) : Smap W32 := sput (resetWord a) m a v

/-- Canonical form of the register file. -/
def rwf (m : Smap W32) : Bool := swf resetWord 0 m

/-- Register word at byte address `a`. -/
def rd (a : Nat) (s : State) : Nat := (rget s.regs a).toNat

/-- Write the register word at `a`. -/
def wr (a v : Nat) (s : State) : State := { s with regs := rput s.regs a (BitVec.ofNat 32 v) }

/-- A 64-bit register (R96): low word at the lower address. -/
def rd64 (a : Nat) (s : State) : Nat := rd a s + rd (a + 4) s * 2 ^ 32

/-- Write a 64-bit register. -/
def wr64 (a v : Nat) (s : State) : State := wr (a + 4) (v / 2 ^ 32) (wr a (v % 2 ^ 32) s)

/-- Replace bits `f` of `w` by the low bits of `v`. -/
def putBits (w : Nat) (f : Fld) (v : Nat) : Nat :=
  let n := 2 ^ (f.hi + 1 - f.lo)
  w - w / 2 ^ f.lo % n * 2 ^ f.lo + v % n * 2 ^ f.lo

/-- Field `f` of the register at `a`. -/
def fg (a : Nat) (f : Fld) (s : State) : Nat := bits (rd a s) f.hi f.lo

/-- Write field `f` of the register at `a`. -/
def fs (a : Nat) (f : Fld) (v : Nat) (s : State) : State := wr a (putBits (rd a s) f v) s

/-- A one-bit field as a truth value. -/
def fb (a : Nat) (f : Fld) (s : State) : Bool := fg a f s == 1

/-- Channel registers of the TE pages: channel `n` is block `n mod 4` of instance `n / 4` (spec/11). -/
def teLoc (r : RegName) (n : Nat) : Nat := loc r (n / 4) (n % 4)

/-- Port registers of the SC pages: port `p` is block `p mod 4` of instance `p / 4` (spec/12). -/
def scLoc (r : RegName) (p : Nat) : Nat := loc r (p / 4) (p % 4)

/-- Header register of page index `pg`. -/
def hdrLoc (r : RegName) (pg : Nat) : Nat := locAt r pg 0

/-! ## Flags -/

/-- The hardware sets the bits `m` of the flag register at `a` (sticky, R93). -/
def setFlags (a m : Nat) (s : State) : State := wr a (rd a s ||| m) s

/-- The hardware sets bit `f.lo` of the flag register at `a`. -/
def setFlag (a : Nat) (f : Fld) (s : State) : State := setFlags a (2 ^ f.lo) s

/-- Raise an alert cause (GL_ALERT, R53). -/
def alert (f : Fld) (s : State) : State := setFlag (loc .GL_ALERT) f s

/-! ## Islands -/

/-- Island of a code. -/
def isl (c : Nat) (s : State) : Island := sget Island.off s.isl c

/-- Write an island. -/
def setIsl (c : Nat) (i : Island) (s : State) : State := { s with isl := sput Island.off s.isl c i }

/-- Put islands into a state. (DESIGN CHOICE: log entry 15.) -/
def putIslands (cs : List Nat) (st : PState) (s : State) : State :=
  cs.foldl (fun t c => setIsl c { isl c t with st := st, target := st, entering := false, waking := false } t) s

/-- A lane, a port group, a host memory port. -/
def isLaneIsl (c : Nat) : Bool := decide (0x10 ≤ c) && decide (c < 0x22)
def isGroupIsl (c : Nat) : Bool := decide (0x30 ≤ c) && decide (c < 0x38)
def isHmpIsl (c : Nat) : Bool := decide (0x40 ≤ c) && decide (c < 0x44)

/-- Islands that may change state alone (R432). -/
def aloneIsl (c : Nat) : Bool := isLaneIsl c || isGroupIsl c || isHmpIsl c

/-- An island in RUN or IDLE. -/
def isRun (c : Nat) (s : State) : Bool := (isl c s).st == .run || (isl c s).st == .idle

/-- The island's clock comes from a PLL that locks to REFCLK (R18): the core, the packet buffer, the queue contexts, the table,
the lanes and the port groups. -/
def refclkIsl (c : Nat) : Bool := decide (2 ≤ c ∧ c ≤ 5) || isLaneIsl c || isGroupIsl c

/-- The island has a clock: while REFCLK is absent, every PLL that locks to it stays off (R39). (DEDUCED: log entry 14.) -/
def clocked (c : Nat) (s : State) : Bool := s.pins.refclk || !refclkIsl c

/-- The island is in RUN or IDLE with a clock, and no entry or wake sequence of it runs. -/
def islUp (c : Nat) (s : State) : Bool :=
  let i := isl c s
  (i.st = .run || i.st = .idle) && !i.entering && !i.waking && clocked c s

/-- The island is in RUN: its crossings accept items (R21). -/
def islRun (c : Nat) (s : State) : Bool :=
  let i := isl c s
  i.st = .run && !i.entering && !i.waking && clocked c s

/-- What an island does has an effect only while it is in RUN (R21, R431). -/
def inRun (c : Nat) (f : State → State) (s : State) : State := if islRun c s then f s else s

/-- Every island code (R18, PAGE_PWR ISLAND). -/
def islandCodes : List Nat :=
  [0, 1, 2, 3, 4, 5] ++ (List.range 18).map (0x10 + ·) ++ (List.range 8).map (0x30 + ·) ++
    (List.range 4).map (0x40 + ·)

/-- The block enters a block state or is in one: packet channels start no new entry (R340, R437). -/
def packetsHeld (s : State) : Bool :=
  s.pw.seqs.any (fun q => q.code == 0xFF) || fg (loc .PW_STATE) F.PW_STATE_BLOCK_STATE s != 0

/-! ## Counters (R413, R414) -/

/-- Counter `i` is a lane's, and the lane's island is down: nothing is counted there (R427). -/
def counterDown (i : Nat) (s : State) : Bool :=
  decide (0x3000 ≤ i ∧ i < 0x3090) && !isRun (0x10 + (i - 0x3000) / 8) s

/-- Add `n` to counter `i`; a wrap sets its WRAP bit, PC_EVENT WRAP and PC_WRAP_LAST (R413). -/
def bumpBy (i n : Nat) (s : State) : State :=
  if counterDown i s then s else
  let v := sget 0 s.pc.val i + n
  let s1 := { s with pc := { s.pc with val := sput 0 s.pc.val i (v % 2 ^ 48) } }
  if v < 2 ^ 48 then s1
  else
    let w := if s1.pc.wrap.contains i then s1.pc.wrap else i :: s1.pc.wrap
    { s1 with pc := { s1.pc with wrap := w } }
      |> setFlag (loc .PC_EVENT) F.PC_EVENT_WRAP
      |> fs (loc .PC_WRAP_LAST) F.PC_WRAP_LAST_INDEX i

/-- One occurrence of an edge counter. -/
def bump (i : Nat) (s : State) : State := bumpBy i 1 s

/-- One occurrence of an E/L counter (R414): in edge mode it counts 1. -/
def occur (i : Nat) (s : State) : State := if s.pc.level.contains i then s else bump i s

/-- Port family (R416): counter `off` of port `p`. -/
def cPort (p off : Nat) : Nat := 64 * p + off
/-- Function family. -/
def cFunc (f off : Nat) : Nat := 0x1000 + 2 * f + off
/-- Lane family, by physical lane. -/
def cLane (n off : Nat) : Nat := 0x3000 + 8 * n + off
/-- Slot group family. -/
def cGroup (g off : Nat) : Nat := 0x3100 + 16 * g + off
/-- Engine cluster family. -/
def cClus (c off : Nat) : Nat := 0x3200 + 8 * c + off
/-- Steering table family. -/
def cTable (off : Nat) : Nat := 0x3300 + off
/-- Work queues and transfer family. -/
def cWq (off : Nat) : Nat := 0x3340 + off
/-- Translation family. -/
def cTr (off : Nat) : Nat := 0x3380 + off
/-- Events family. -/
def cEv (off : Nat) : Nat := 0x33A0 + off
/-- Block family. -/
def cBlk (off : Nat) : Nat := 0x33C0 + off

/-! ## Time (R9, R406) -/

/-- One nanosecond in the units of block time. -/
def nsU : Nat := 2 ^ 48

/-- Block time wraps at 2^48 seconds (R406). -/
def timeMod : Nat := 2 ^ 48 * 1000000000 * nsU

/-- The 96-bit block time (R406): seconds, nanoseconds, 2^-16 ns. (DEDUCED: log entry 73.) -/
def time96 (t : Nat) : Nat :=
  let ns := t / nsU
  ns / 1000000000 % 2 ^ 48 * 2 ^ 48 + ns % 1000000000 * 2 ^ 16 + t % nsU / 2 ^ 32

/-- Block time in units of 2^-48 ns from a 96-bit value. -/
def fromTime96 (v : Nat) : Nat :=
  ((v / 2 ^ 48 % 2 ^ 48 * 1000000000 + v / 2 ^ 16 % 2 ^ 32) * nsU + v % 2 ^ 16 * 2 ^ 32) % timeMod

/-- Nanoseconds of an instant, rounded to the nearest with halves up (R9, R412). -/
def roundNs (t : Nat) : Nat := (t + nsU / 2) / nsU

/-- Timestamp in the 64-bit format of R9: seconds modulo 2^32, nanoseconds. -/
def time64 (t : Nat) : Nat :=
  let n := roundNs t
  n / 1000000000 % 2 ^ 32 * 2 ^ 32 + n % 1000000000

/-- Timestamp with a sub-nanosecond field (R9): seconds modulo 2^32, nanoseconds, 1/256 ns. -/
def time72 (t : Nat) : Nat × Nat × Nat :=
  let q := (t + nsU / 512) / (nsU / 256)
  let n := q / 256
  (n / 1000000000 % 2 ^ 32, n % 1000000000, q % 256)

/-! ## Field access of sub-structures -/

def getSil (q : Nat) (s : State) : Sil := sget Sil.none s.ev.sils q
def setSil (q : Nat) (v : Sil) (s : State) : State := { s with ev := { s.ev with sils := sput Sil.none s.ev.sils q v } }
def getSq (q : Nat) (s : State) : Sq := sget Sq.none s.wq.sqs q
def setSq (q : Nat) (v : Sq) (s : State) : State := { s with wq := { s.wq with sqs := sput Sq.none s.wq.sqs q v } }
def getCq (q : Nat) (s : State) : Cq := sget Cq.none s.wq.cqs q
def setCq (q : Nat) (v : Cq) (s : State) : State := { s with wq := { s.wq with cqs := sput Cq.none s.wq.cqs q v } }
def getPair (p : Nat) (s : State) : Pair := sget Pair.off s.adm p
def setPair (p : Nat) (v : Pair) (s : State) : State := { s with adm := sput Pair.off s.adm p v }
def getTe (n : Nat) (s : State) : Te := sget Te.off s.te n
def setTe (n : Nat) (v : Te) (s : State) : State := { s with te := sput Te.off s.te n v }

/-- The execution with number `x`. -/
def getX (x : Nat) (s : State) : Option Exec := s.wq.execs.find? (fun e => e.id == x)

/-- Replace an execution. -/
def setX (e : Exec) (s : State) : State :=
  { s with wq := { s.wq with execs := s.wq.execs.map (fun d => if d.id = e.id then e else d) } }

/-- Remove an execution. -/
def dropX (x : Nat) (s : State) : State :=
  { s with wq := { s.wq with execs := s.wq.execs.filter (fun d => d.id != x) } }

/-- A new output (completion, event record, counter dump or table-change result), numbered for fences (R16). -/
def newOut (s : State) : Nat × State :=
  (s.wq.nextOut, { s with wq := { s.wq with nextOut := s.wq.nextOut + 1, outs := s.wq.outs ++ [s.wq.nextOut] } })

/-- An output is visible in host memory, or will never be written (R16). -/
def endOut (o : Nat) (s : State) : State :=
  { s with wq := { s.wq with outs := s.wq.outs.filter (· != o) } }

/-! ## Checksums of R204, R226 and the frame check sequence -/

/-- One bit of a reflected CRC. -/
def crcBit (poly c : Nat) : Nat := if c % 2 = 1 then c / 2 ^^^ poly else c / 2

/-- One byte of a reflected CRC. -/
def crcByte (poly c b : Nat) : Nat :=
  let step := crcBit poly
  step (step (step (step (step (step (step (step (c ^^^ b))))))))

/-- A reflected CRC over bytes, with no final XOR. -/
def crc (poly init : Nat) (bs : Bytes) : Nat := bs.foldl (fun c b => crcByte poly c b.toNat) init

/-- Reflected polynomials: CRC-32C (R204) and the frame check sequence of IEEE 802.3. -/
def poly32C : Nat := 0x82F63B78
def poly8023 : Nat := 0xEDB88320

/-- CRC-32C of R204. -/
def crc32c (bs : Bytes) : Nat := crc poly32C 0xFFFFFFFF bs ^^^ 0xFFFFFFFF

/-- The frame check sequence of a byte string, as the number whose little-endian bytes end the frame. -/
def fcs (bs : Bytes) : Nat := crc poly8023 0xFFFFFFFF bs ^^^ 0xFFFFFFFF

/-! ## Folds and guards -/

/-- Apply `f` when `c` holds. -/
def doIf (c : Bool) (f : State → State) (s : State) : State := if c then f s else s

/-- Fold a state change over a list. -/
def forEach {α : Type} (l : List α) (f : α → State → State) (s : State) : State := l.foldl (fun t a => f a t) s

/-- Draw a random 32-bit word: a free value (R243, R500). (DESIGN CHOICE: log entry 9.) -/
def drawSeed (s : State) : W32 × State := (Config.randomSeed s.free, { s with free := s.free + 1 })

/-! ## Status codes (R11, R262, R294, R322 and the chapters that define them) -/

namespace St
def ok : Nat := 0x00
def badOpcode : Nat := 0x01
def badLength : Nat := 0x02
def badFragTable : Nat := 0x03
def badHandle : Nat := 0x04
def reservedNonzero : Nat := 0x05
def badAlignment : Nat := 0x06
def hostReadError : Nat := 0x20
def hostWriteError : Nat := 0x21
def translationFault : Nat := 0x22
def accessDenied : Nat := 0x23
def linkDown : Nat := 0x40
def frameExceedsWindow : Nat := 0x41
def rxNoCompletionRoom : Nat := 0x42
def txProgramDrop : Nat := 0x4C
def aborted : Nat := 0x60
def flushed : Nat := 0x61
def backlogExhausted : Nat := 0x70
def rxBufferShort : Nat := 0x73
def loopbackNoBuffer : Nat := 0x74
def adminBadParameter : Nat := 0x80
def adminBusy : Nat := 0x81
def adminNotPermitted : Nat := 0x82
def adminInUse : Nat := 0x83
def adminNotFound : Nat := 0x84
def adminCheckFailed : Nat := 0x85
def adminWakeFailed : Nat := 0x86
def adminWrongRole : Nat := 0x87
end St

end Sys2Proof.Machine
end

