-- ==== Sys2Proof/Machine/HostMem.lean ====
section
/-!
DEFINITION. Host memory accesses: creation, translation, page requests, and the grants of the port arbiters
(R62 to R74, R317 to R319, R334 to R338). An access is created by `access`; `pump` moves every access as far as
it can go without an answer from the host chip, and runs at the end of every command.
-/

namespace Sys2Proof.Machine

/-- What an access is made of. `own` marks a read that decides ownership (R69), and `split` a write that
double-read mode makes in two parts (R71). -/
structure Acc where
  chan : Nat
  func : Nat
  iova : Nat
  len : Nat
  write : Bool := false
  data : Bytes := []
  snoop : Bool := true
  purpose : Purpose
  own : Bool := false
  split : Bool := false
  phys : Bool := false
  deriving DecidableEq, Repr

/-- Double-read mode (R69). (DEDUCED: log entry 50.) -/
def dblMode (s : State) : Bool := fb (loc .GL_HOSTCFG) F.GL_HOSTCFG_DBL_READ s

/-- ROLE and PAIR of DU_STATUS (R485). -/
def duRole (s : State) : Nat := fg (loc .DU_STATUS) F.DU_STATUS_ROLE s
def duPair (s : State) : Nat := fg (loc .DU_STATUS) F.DU_STATUS_PAIR s

/-- The partner makes the ownership flips of this block's structures (R489). -/
def duFlips (s : State) : Bool := duRole s == 1 && (duPair s == 2 || duPair s == 3)

/-- Create an access. A structure whose DEV_OWNS byte is written apart is written without that byte first: in
double-read mode (R71) and in a protected Duo pair (R489). -/
def access (a : Acc) (s : State) : State :=
  let two := a.split && (dblMode s || duFlips s)
  let r : Req :=
    { id := s.host.nextId, chan := a.chan, func := a.func, iova := a.iova,
      len := if two then a.len - 1 else a.len, write := a.write,
      data := if two then a.data.dropLast else a.data,
      snoop := a.snoop, purpose := a.purpose, phase := .fresh, dbl := a.own && dblMode s, first := none,
      tail := if two then a.data.getLast? else none, bad := false, phys := a.phys, via := none }
  { s with host := { s.host with nextId := s.host.nextId + 1, reqs := s.host.reqs ++ [r] } }

/-- Read the 64-byte granule that holds `iova`, to decide ownership (R69). (DEDUCED: log entry 50.) -/
def ownRead (chan func iova : Nat) (p : Purpose) (s : State) : State :=
  access { chan := chan, func := func, iova := iova / 64 * 64, len := 64, purpose := p, own := true } s

/-- Replace an access. -/
def setReq (r : Req) (s : State) : State :=
  { s with host := { s.host with reqs := s.host.reqs.map (fun q => if q.id = r.id then r else q) } }

/-- Remove an access. -/
def dropReq (id : Nat) (s : State) : State :=
  { s with host := { s.host with reqs := s.host.reqs.filter (fun q => q.id != id) } }

/-- Remove every access that is not issued and whose purpose meets `p`; issued ones stay until answered, their
answers being discarded by the handlers. -/
def cancelReqs (p : Purpose → Bool) (s : State) : State :=
  { s with host := { s.host with reqs := s.host.reqs.filter (fun q =>
      match q.phase with
      | .out _ _ _ => true
      | _ => !p q.purpose) } }

/-- Each access as it stands when its turn comes; one that has gone meanwhile is passed over. -/
def forReqs (rs : List Req) (f : Req → State → State) (s : State) : State :=
  forEach rs (fun r t => match t.host.reqs.find? (fun q => q.id == r.id) with
    | some q => f q t
    | none => t) s

/-- The access is issued. -/
def Req.isOut (r : Req) : Bool :=
  match r.phase with
  | .out _ _ _ => true
  | _ => false

/-- Output that a write makes visible (R16). -/
def outOf (p : Purpose) (s : State) : Option Nat :=
  match p with
  | .completion _ x => (getX x s).map (·.oid)
  | .silRec _ oid _ _ => some oid
  | .admCompl p k => ((getPair p s).cmds.find? (fun c => c.id == k)).map (·.oid)
  | .dumpRec _ => some s.pc.dump.oid
  | .dumpHdrWrite => some s.pc.dump.oid
  | .gone oid _ => oid
  | _ => none

/-- Completion queue or admin pair whose record a write is, in the coding of `silRec`; 0 for none. -/
def whoOf : Purpose → Nat
  | .silRec _ _ _ who => who
  | .gone _ who => who
  | _ => 0

/-- A record of completion queue or pair `who` has been answered, or will not be written: a rebinding may wait for it
(R400). -/
def whoEnded (who : Nat) (s : State) : State :=
  if who = 0 then s
  else if 2 ^ 16 ≤ who then
    let p := who - 2 ^ 16
    setPair p { getPair p s with outRecs := (getPair p s).outRecs - 1 } s
  else setCq (who - 1) { getCq (who - 1) s with outRecs := (getCq (who - 1) s).outRecs - 1 } s

/-- A record of completion queue or pair `who` has been created (R400). -/
def whoBegan (who : Nat) (s : State) : State :=
  if who = 0 then s
  else if 2 ^ 16 ≤ who then
    let p := who - 2 ^ 16
    setPair p { getPair p s with outRecs := (getPair p s).outRecs + 1 } s
  else setCq (who - 1) { getCq (who - 1) s with outRecs := (getCq (who - 1) s).outRecs + 1 } s

/-- The work of the accesses whose purpose meets `p` has ended: those not issued are withdrawn, and the answers of those
issued are discarded (R13). What the Duo partner has been told to flip is answered the same way (R489). -/
def endReqs (p : Purpose → Bool) (s : State) : State :=
  let mine (q : Req) : Bool := p q.purpose && (match q.purpose with
    | .gone _ _ => false
    | _ => true)
  let never := s.host.reqs.filter (fun q => mine q && !q.isOut)
  forEach never (fun q t => whoEnded (whoOf q.purpose) ((outOf q.purpose s).elim t (fun o => endOut o t))) { s with
    host := { s.host with reqs := s.host.reqs.filterMap (fun q =>
      if mine q then
        (if q.isOut then some { q with purpose := .gone (outOf q.purpose s) (whoOf q.purpose), tail := none } else none)
      else some q) }
    du := { s.du with flips := s.du.flips.map (fun f =>
      if p f.2 then (f.1, Purpose.gone (outOf f.2 s) (whoOf f.2)) else f) } }

/-- Output `o` still awaits the answer of a write whose work has ended. -/
def pendingOut (o : Nat) (s : State) : Bool :=
  let mine (p : Purpose) : Bool := match p with
    | .gone (some n) _ => n == o
    | _ => false
  s.host.reqs.any (fun q => mine q.purpose) || s.du.flips.any (fun f => mine f.2)

/-- Page number of an I/O virtual address. -/
def pageNo (iova : Nat) : Nat := iova % 2 ^ 64 / 4096

/-- A cache entry covers page `p` of function `f` for an access kind (R334). (DEDUCED: log entry 52.) -/
def TlbEntry.hits (e : TlbEntry) (f p : Nat) (w : Bool) : Bool :=
  e.func == f && e.page == p / 2 ^ e.size * 2 ^ e.size && (e.write || !w)

/-- Physical address of `iova` under a cache entry. -/
def TlbEntry.phys (e : TlbEntry) (iova : Nat) : Nat :=
  (e.pa / 2 ^ e.size * 2 ^ e.size + pageNo iova % 2 ^ e.size) * 4096 + iova % 4096

/-- BYPASS (R339). -/
def bypass (s : State) : Bool := fb (loc .TR_CFG) F.TR_CFG_BYPASS s

/-- Look an access up in the translation cache (R334, R335): a hit makes it ready and its entry the most
recently used; a miss makes it wait for a translation request. -/
def lookupReq (r : Req) (s : State) : State :=
  if bypass s || r.phys then setReq { r with phase := .ready r.iova, via := none } s
  else match s.host.tlb.find? (fun e => e.hits r.func (pageNo r.iova) r.write) with
    | some e =>
      { s with host := { s.host with tlb := e :: s.host.tlb.filter (· != e) } }
        |> setReq { r with phase := .ready (e.phys r.iova), via := some (e.func, e.page, e.size) }
        |> bump (cTr 0)
    | none => s |> setReq { r with phase := .wait } |> bump (cTr 1)

/-- The lowest number below `n` that is not in `used`. -/
def freeTag (n : Nat) (used : List Nat) : Option Nat := (List.range n).find? (fun t => !used.contains t)

/-- Make the translation request an access waits for, unless one for its function, page and access kind is
outstanding or 256 are (R72, R335). -/
def requestXlate (r : Req) (s : State) : State :=
  if s.host.xreqs.any (fun x => x.func == r.func && x.page == pageNo r.iova && x.write == r.write) then s
  else match freeTag 256 (s.host.xreqs.map (·.tag)) with
    | some t =>
      { s with host := { s.host with xreqs := s.host.xreqs ++
          [{ tag := t, func := r.func, page := pageNo r.iova, write := r.write, invals := [] }] } }
    | none => s

/-- Make the page request a faulted access waits for, unless one for its function, page and access kind is
outstanding or 1,024 are (R72, R336). -/
def requestPage (r : Req) (s : State) : State :=
  if s.host.preqs.any (fun x => x.func == r.func && x.page == pageNo r.iova && x.write == r.write && !x.timedOut)
  then s
  else match freeTag 1024 (s.host.preqs.map (·.id)) with
    | some t =>
      { s with host := { s.host with preqs := s.host.preqs ++
          [{ id := t, func := r.func, page := pageNo r.iova, write := r.write,
             timeout := fg (loc .TR_CFG) F.TR_CFG_PRQ_TIMEOUT s, timedOut := false }] } }
        |> bump (cTr 3)
    | none => s

/-- Move one access as far as translation allows. -/
def translateReq (r : Req) (s : State) : State :=
  match r.phase with
  | .fresh =>
    let s1 := lookupReq r s
    match s1.host.reqs.find? (fun q => q.id == r.id) with
    | some q => if q.phase = .wait then requestXlate q s1 else s1
    | none => s1
  | .wait => requestXlate r s
  | .again => requestXlate r s
  | .fault => requestPage r s
  | _ => s

/-- Host memory port in use by a channel (R317, TE_STATEk PORT). -/
def chanPort (n : Nat) (s : State) : Nat := fg (teLoc .TE_STATE n) F.TE_STATE_PORT s

/-- Port that HP_CHMAP assigns to a channel (R317). -/
def chanMap (n : Nat) (s : State) : Nat :=
  let w := n / 16
  let j := n % 16
  bits (rd (loc .HP_CHMAP 0 w) s) (2 * j + 1) (2 * j)

/-- The accesses issued on a port, in one direction. -/
def outOn (port : Nat) (w : Bool) (s : State) : List Req :=
  s.host.reqs.filter (fun r => match r.phase with
    | .out p _ _ => p == port && r.write == w
    | _ => false)

/-- The block makes no new host memory request but a lease read: it is FENCED (R491), or drains before it answers FENCED
(R492). -/
def duSilent (s : State) : Bool := s.pins.fenced || s.du.phase == .draining

/-- A whole write that gives a structure to software, or the release that does so for a general descriptor (R489). -/
def isFlip (r : Req) : Bool :=
  match r.purpose with
  | .completion _ _ => r.len != 1
  | .admCompl _ _ => r.len != 1
  | .silRec _ _ _ _ => r.len != 1
  | .dumpHdrWrite => r.len != 1
  | .teRelease _ => true
  | _ => false

/-- A DUO_PROTECT is in its cutover (R497 step 2). -/
def cutting (s : State) : Bool := s.du.phase == .cutover || s.du.phase == .positions

/-- The active has been told to give up: it starts nothing new (R492). -/
def duStops (s : State) : Bool := s.du.phase == .draining || s.du.phase == .gaveUp

/-- A STANDBY block issues only lease accesses, the flips and releases of R489, the admin completions and releases of
R494 step 3, the accesses to the admin rings that DUO_FAILOVER needs (R313), and its steward's accesses (R486). In the
cutover, new flips are held (R497). (DEDUCED: log entry 88.) -/
def duAllows (r : Req) (s : State) : Bool :=
  match r.purpose with
  | .leaseRead => true
  | .leaseWrite => !duSilent s && (duRole s == 1 || s.du.phase == .takeLease)
  | .duoFlip _ => !duSilent s
  | .duoRelease _ => !duSilent s
  | .admCompl _ _ => !duSilent s && !(cutting s && isFlip r)
  | .admRelease _ _ => !duSilent s
  | .admEntry _ _ => !duSilent s
  | .admScan _ _ => !duSilent s
  | _ => !duSilent s && (duRole s != 2 || r.phys) && !(cutting s && isFlip r)

/-- Whether the block may issue a request at all: not in reset (R42, R46), within its Duo role, and no write between a
warm reset and the next rise of READY (R46). (DEDUCED: log entry 88.) -/
def issueOk (r : Req) (s : State) : Bool :=
  s.pins.rstN && s.pins.warmN && !s.pins.collapsed && duAllows r s && !(r.write && s.ev.warmHold)

/-- A transmit entry's data reads wait until every page that its fragments touch is translated (R371). -/
def txHeld (r : Req) (s : State) : Bool :=
  match r.purpose with
  | .txData x _ => s.host.reqs.any (fun q =>
      match q.purpose, q.phase with
      | .txData y _, .fresh => y == x
      | .txData y _, .wait => y == x
      | .txData y _, .again => y == x
      | .txData y _, .fault => y == x
      | _, _ => false)
  | _ => false

/-- The structure that a READY names, as a stream of writes: what holds it and its number (R489). -/
def rdyStream : RdyRef → Nat × Nat
  | .cpl c _ _ _ => (6, c)
  | .adm p _ _ => (7, p)
  | .sil q _ => (8, q)
  | .te n _ => (12, n)
  | .dump _ => (9, 0)

/-- Accesses that a channel makes in the order of one piece of work, or of one queue (R17, R266): none is issued past a page
whose translation is not held (R335), and one entry's parking holds no other queue's work (R315). (DEDUCED: log entry
49.) -/
def Purpose.stream (s : State) : Purpose → Option (Nat × Nat)
  | .rxData x _ => some (0, x)
  | .sqTable x _ => some (1, x)
  | .teRead c _ => some (2, c)
  | .teWrite c _ => some (3, c)
  | .teList c _ _ => some (4, c)
  | .admData p k _ => some (5, 65536 * k + p)
  | .completion c _ => some (6, c)
  | .admCompl p _ => some (7, p)
  | .silRec q _ _ _ => some (8, q)
  | .dumpRec _ => some (9, 0)
  | .dumpHdrWrite => some (9, 0)
  | .release x => (getX x s).map (fun e => (10, e.sq))
  | .admRelease p _ => some (11, p)
  | .duoFlip id => (s.du.todo.find? (fun t => t.id == id)).map (fun t => rdyStream t.ref)
  | .duoRelease id => (s.du.todo.find? (fun t => t.id == id)).map (fun t => match t.ref with
      | .cpl _ _ q _ => (10, q)
      | _ => (11, (rdyStream t.ref).2))
  | _ => none

/-- The second part of a two-part write, which gives the structure to software (R71). -/
def isTail (r : Req) : Bool :=
  r.write && r.len == 1 && (match r.purpose with
    | .completion _ _ => true
    | .admCompl _ _ => true
    | .silRec _ _ _ _ => true
    | .dumpHdrWrite => true
    | _ => false)

/-- Writes into a ring that have been created and not issued; what they fill lies before the ring's producer. -/
def unissued (p : Purpose → Bool) (s : State) : Nat :=
  (s.host.reqs.filter (fun r => p r.purpose && r.write && !r.isOut && !isTail r)).length

/-- Position `n` places back in a ring of `2 ^ log`. -/
def ringBack (pos n log : Nat) : Nat := (pos + 2 ^ log * (n / 2 ^ log + 1) - n) % 2 ^ log

/-- The issue of a completion write counts towards the wait of R275. -/
def noteIssue (r : Req) (s : State) : State :=
  if isTail r then s
  else match r.purpose with
    | .completion c _ => setCq c { getCq c s with outWrites := (getCq c s).outWrites + 1 } s
    | .admCompl p _ => setPair p { getPair p s with outWrites := (getPair p s).outWrites + 1 } s
    | _ => s

/-- An earlier access of the same work has no translation yet; or, for a second part, an earlier structure of the queue has
its first part still outstanding, so that the structures are given in their order (R17, R71). -/
def pastHeld (r : Req) (s : State) : Bool :=
  match r.purpose.stream s with
  | none => false
  | some w => s.host.reqs.any (fun q =>
      decide (q.id < r.id) && q.purpose.stream s == some w && (match q.phase with
        | .ready _ => false
        | .out _ _ _ => isTail r && q.tail.isSome
        | _ => true))

/-- Bytes from offset `n` on that have arrived without a gap. -/
def prefixLen (ps : List (Nat × Bytes)) : Nat → Nat → Nat
  | 0, n => n
  | k + 1, n =>
    match ps.find? (fun p => decide (p.1 ≤ n) && decide (n < p.1 + p.2.length)) with
    | some p => prefixLen ps k (p.1 + p.2.length)
    | none => n

/-- Channel of a completion queue, and of the submission queues bound to it. -/
def cqChan (c : Nat) : Nat := c % 40
/-- Data bytes of an entry. -/
def Exec.total (e : Exec) : Nat := e.frags.foldl (fun a p => a + p.2) 0

/-- The transmit entries whose data a packet channel takes, with the frame that each is for. -/
def chanData (c : Nat) (s : State) : List (Nat × Exec) :=
  s.wq.execs.filterMap (fun e =>
    let k := getSq e.sq s
    match e.frame with
    | some f => if e.phase = .data ∧ k.rx = false ∧ e.cpl.isNone = true ∧ cqChan k.cq = c then some (f, e) else none
    | none => none)

/-- The transfer bytes of a channel that lie before those of frame `f` and from the first byte that has not arrived on: the rest
of the first entry that is not complete, and every entry after it. -/
def bytesAhead (f : Nat) (l : List (Nat × Exec)) : Nat :=
  let gap (e : Exec) : Nat := prefixLen e.pieces (e.pieces.length + 1) 0
  let before := l.filter (fun p => decide (p.1 < f))
  match (before.filter (fun p => decide (gap p.2 < p.2.total))).map (·.1) |>.min? with
  | none => 0
  | some f0 => before.foldl (fun a p => if p.1 = f0 then a + (p.2.total - gap p.2) else if f0 < p.1 then a + p.2.total else a) 0

/-- The read-ahead window of R319 for a packet channel's data reads: a read reaches no further than (RA + 1) × 512 bytes
beyond the first byte of the channel's transfer that has not arrived, its frames being transferred in the order in which they
were selected. (DEDUCED: log entry 49.) -/
def inWindow (r : Req) (s : State) : Bool :=
  match r.purpose with
  | .txData x off => (match getX x s with
    | some e =>
      let l := chanData r.chan s
      let ahead := bytesAhead (e.frame.getD 0) l
      let from_ := if ahead = 0 then prefixLen e.pieces (e.pieces.length + 1) 0 else 0
      decide (ahead + off + r.len ≤ from_ + (fg (teLoc .TE_CFG r.chan) F.TE_CFG_RA s + 1) * 512)
    | none => true)
  | _ => true

/-- The accesses a port's arbiter may grant in one direction (R63, R317, R318). (DEDUCED: log entry 49.) -/
def candidates (port : Nat) (w : Bool) (s : State) : List Req :=
  if islRun (0x40 + port) s = true then
    s.host.reqs.filter (fun r => match r.phase with
      | .ready _ => issueOk r s && !(isTail r && duFlips s) && !txHeld r s && !pastHeld r s && inWindow r s &&
          r.write == w && chanPort r.chan s == port && chanMap r.chan s == port
      | _ => false)
  else []

/-- PRIO and WEIGHT of a channel (R318). -/
def chanPrio (n : Nat) (s : State) : Nat := fg (teLoc .TE_CFG n) F.TE_CFG_PRIO s
def chanWeight (n : Nat) (s : State) : Nat := fg (teLoc .TE_CFG n) F.TE_CFG_WEIGHT s

/-- The highest PRIO among the channels that have a request ready (R318). -/
def topPrio (rs : List Req) (s : State) : Nat := rs.foldl (fun a r => max a (chanPrio r.chan s)) 0

/-- The channel granted next (R318) at the highest PRIO, `top`: the channel of that PRIO whose turn still has grants,
else the next one round robin. Answers the channel and the grants left in its turn. (DEDUCED: log entry 49.) -/
def arbitrate (top last left : Nat) (rs : List Req) (s : State) : Option (Nat × Nat) :=
  let cs := (rs.filter (fun r => chanPrio r.chan s == top)).map (·.chan)
  if 0 < left ∧ cs.contains last then some (last, left - 1)
  else
    match (List.range 64).find? (fun i => cs.contains ((last + 1 + i) % 64)) with
    | some i => let c := (last + 1 + i) % 64; some (c, chanWeight c s)
    | none => none

/-- Grant one request of a port and direction (R318), with the lowest free tag (R63). (DEDUCED: log entry 49.) -/
def grantOne (port : Nat) (w : Bool) (s : State) : State :=
  let rs := candidates port w s
  let top := topPrio rs s
  let key := 8 * (2 * port + b2n w) + top
  let a := sget (0, 0) s.host.arb key
  match arbitrate top a.1 a.2 rs s with
  | none => s
  | some (c, left) =>
    match rs.find? (fun r => r.chan == c) with
    | none => s
    | some r =>
      let used := (outOn port w s).filterMap (fun q => match q.phase with
        | .out _ t _ => some t
        | _ => none)
      match freeTag 1024 used, r.phase with
      | some t, .ready pa =>
        { s with host := { s.host with arb := sput (0, 0) s.host.arb key (c, left) } }
          |> setReq { r with phase := .out port t pa }
          |> noteIssue r
      | _, _ => s

/-- Grant up to `n` requests of a port and direction. -/
def grantMany (port : Nat) (w : Bool) : Nat → State → State
  | 0, s => s
  | n + 1, s => if candidates port w s = [] then s else grantMany port w n (grantOne port w s)

/-- Move every access as far as it can go: translation, page requests, grants. (DESIGN CHOICE: log entry 6.) -/
def pump (s : State) : State :=
  if s.host.reqs = [] then s else
  let s1 := forEach s.host.reqs translateReq s
  forEach [0, 1, 2, 3] (fun p t =>
    grantMany p true s1.host.reqs.length (grantMany p false s1.host.reqs.length t)) s1

/-! ## Channels of the queues (R314) -/

/-- Channel of a Sillage queue. -/
def silChan (q : Nat) : Nat := 40 + q % 4
/-- Channel of an admin pair. -/
def admChan (p : Nat) : Nat := 44 + p

/-- Split a byte range into requests that do not cross a 512-byte boundary (R62): address, offset, length. -/
def bursts : Nat → Nat → Nat → Nat → List (Nat × Nat × Nat)
  | 0, _, _, _ => []
  | fuel + 1, addr, off, len =>
    if len = 0 then [] else
    let n := min len (512 - addr % 512)
    (addr, off, n) :: bursts fuel (addr + n) (off + n) (len - n)

/-- Transfer bytes `off` to `off + len` of a fragment list, as (address, transfer offset, length). -/
def fragSpan : List (Nat × Nat) → Nat → Nat → Nat → List (Nat × Nat × Nat)
  | [], _, _, _ => []
  | (a, l) :: fr, base, off, len =>
    if len = 0 then [] else
    if off < base + l then
      let n := min len (base + l - off)
      (a + (off - base), off, n) :: fragSpan fr (base + l) (off + n) (len - n)
    else fragSpan fr (base + l) off len

/-- Bytes `off` to `off + len` of data held as (offset, bytes) pieces; bytes in no piece read 0. -/
def gather (pieces : List (Nat × Bytes)) (off len : Nat) : Bytes :=
  (List.range len).map (fun i =>
    match pieces.find? (fun p => p.1 ≤ off + i && off + i < p.1 + p.2.length) with
    | some p => p.2.getD (off + i - p.1) 0
    | none => 0)

end Sys2Proof.Machine
end

