-- ==== Sys2Proof/Machine/DuoOps.lean ====
section
/-!
DEFINITION. The Duo journal and its flits (R79, R487, R488): sending under credits, the replay store, and the records
that other chapters' steps send.
-/

namespace Sys2Proof.Machine

/-- Send a flit if a credit is held; otherwise it waits (R79). In the SINGLE role DMP is not driven (R50). (DEDUCED:
log entry 86.) -/
def sendFlit (b : FlitBody) (s : State) : State :=
  if duRole s = 0 then s
  else
    let f : Flit := { role := duRole s, pair := duPair s, body := b }
    if s.du.credits = 0 ∨ s.du.txq ≠ [] then { s with du := { s.du with txq := s.du.txq ++ [f] } }
    else { s with du := { s.du with credits := s.du.credits - 1, sent := s.du.sent ++ [f], lastTx := s.tb.time } }

/-- Send waiting flits while credits are held. -/
def drainTxq : List Flit → State → State
  | [], s => s
  | f :: fs, s =>
    if s.du.credits = 0 then { s with du := { s.du with txq := f :: fs } }
    else drainTxq fs { s with du := { s.du with
      credits := s.du.credits - 1, sent := s.du.sent ++ [f], lastTx := s.tb.time, txq := [] } }

/-- While PAIR is SYNCING or PROTECTED, the ACTIVE block journals (R487). While it is FENCED, its records wait: a pair that
returns to PROTECTED has lost none. (DESIGN CHOICE: log entry 87.) -/
def journaling (s : State) : Bool := duRole s == 1 && duPair s != 0

/-- Put a numbered record into the replay store and send it, or hold it while the store is full or the block FENCED (R487). -/
def placeJournal (n : Nat) (r : JRec) (s : State) : State :=
  if 4096 ≤ s.du.replay.length ∨ s.du.held ≠ [] ∨ duPair s = 3 then { s with du := { s.du with held := s.du.held ++ [(n, r)] } }
  else sendFlit (.journal n r) { s with du := { s.du with replay := s.du.replay ++ [(n, r)] } }

/-- Held records enter the replay store as room appears (R487). -/
def releaseHeld : List (Nat × JRec) → State → State
  | [], s => s
  | (n, r) :: rs, s =>
    if 4096 ≤ s.du.replay.length ∨ duPair s = 3 then { s with du := { s.du with held := (n, r) :: rs } }
    else releaseHeld rs (sendFlit (.journal n r) { s with du := { s.du with replay := s.du.replay ++ [(n, r)] } })

/-- The records that wait go on. -/
def passRecords (s : State) : State := releaseHeld s.du.held { s with du := { s.du with held := [] } }

/-- Send a journal record with the next sequence number (R487). (DEDUCED: log entry 87.) -/
def journal (r : JRec) (s : State) : State :=
  if journaling s then
    let n := (s.du.txSeq + 1) % 2 ^ 32
    placeJournal n r { s with du := { s.du with txSeq := n } }
  else s

/-- Send a record that is "acked first" (R488) and note what waits for its acknowledgement. -/
def journalWait (r : JRec) (w : DuWait) (s : State) : State :=
  let s1 := journal r s
  { s1 with du := { s1.du with waits := s1.du.waits ++ [(s1.du.txSeq, w)] } }

/-- Pages whose register writes are journalled as CONFIG (R488): EV, PC, MP, RE page 0x09F, ST, MT, SC, TE, WQ, TR. -/
def configPage (pg : Nat) : Bool :=
  pg == 3 || pg == 5 || (decide (0x40 ≤ pg) && decide (pg < 0x80)) || (decide (0x9F ≤ pg) && decide (pg < 0xD4)) ||
    pg == 0xE8

/-- Journal a write that has taken effect in a plain or flag register (R488): both words of a 64-bit register when its
high word is written (R96). Rehashes belong to each block alone. -/
def journalConfig (a data : Nat) (s : State) : State :=
  let send (b v : Nat) (s : State) : State := journal (.config b (BitVec.ofNat 32 v)) s
  if configPage (a / 4096) = false ∨ a % 4096 < 0x80 ∨ a = loc .ST_RH_CTRL then s
  else match regAt (a / 4096) (a % 4096) with
    | some (n, _, hi) =>
      if n.row.wide = false then send a data s
      else if hi then send (a - 4) (rd (a - 4) s) s |> send a (rd a s)
      else s
    | none => if 0x800 ≤ a % 4096 then send a data s else s

/-- Send READY for a structure whose body has its write response (R489), and remember what was written. (DEDUCED: log
entry 87.) -/
def sendReady (p : Purpose) (ref : RdyRef) (s : State) : State :=
  let n := s.du.nextReady
  journal (.ready n ref) { s with du := { s.du with nextReady := n + 1, flips := s.du.flips ++ [(n, p)] } }

/-- The active has been told to give up, and drains (R492): once no write is outstanding and no frame that has started is
on a MAC, it answers FENCED. -/
def duDrainCheck (s : State) : State :=
  if s.du.phase = .draining ∧
      s.host.reqs.all (fun r => match r.phase with | .out _ _ _ => !r.write | _ => true) = true ∧
      (s.du.trigger = 3 ∨ s.dp.tx.all (fun p => p.2.cur.isNone && p.2.opened.isNone) = true) then
    { s with du := { s.du with phase := .gaveUp }, pins := { s.pins with fenced := true } }
      |> fs (loc .DU_STATUS) F.DU_STATUS_PAIR 3
      |> setFlag (loc .DU_EVENT) F.DU_EVENT_FENCED
      |> doIf (duPair s == 2) (setFlag (loc .DU_EVENT) F.DU_EVENT_UNPROTECTED)
      |> sendFlit .fenced
  else s

/-- An entry or descriptor accepted by the scan of a takeover is executed again (R495, DU_FLUSH REPLAYED): `x` is the
submission queue, or the general channel plus 2^16. -/
def duReplayed (x : Nat) (s : State) : State :=
  if s.du.again.contains x then
    fs (loc .DU_FLUSH) F.DU_FLUSH_REPLAYED (min 65535 (fg (loc .DU_FLUSH) F.DU_FLUSH_REPLAYED s + 1)) s
  else s

/-- The scan of a takeover ends. -/
def duScanned (x : Nat) (s : State) : State :=
  { s with du := { s.du with again := s.du.again.filter (· != x) } }

end Sys2Proof.Machine
end

