-- ==== Sys2Proof/Machine/Flags.lean ====
section
/-!
DEFINITION. Flag registers: their set and clear aliases (R93, R94), the flag sources and their numbers (R385 to
R388), and the output pins that follow flag registers (R43, R53, R405).
-/

namespace Sys2Proof.Machine

/-- The event bits of the flag register at byte address `a` whose page describes them as writing event records:
its sticky bits, when the next word is their enable register (R385). PC_WRAP has no enable register. -/
def sourceMask (a : Nat) : Nat :=
  if a % 4096 < 0x400 ∨ 0x800 ≤ a % 4096 then 0 else
  match regAt (a / 4096) (a % 4096) with
  | some (n, _, _) => if n = .PC_WRAP then 0 else n.row.sticky
  | none => 0

/-- Source number, in the coding of EV_COMPLETE: PRIV in bit 31, page, word, bit. The bits of EV_PRIV are the
privileged sources (R387). -/
def sourceNo (a b : Nat) : Nat :=
  if a = loc .EV_PRIV then 2 ^ 31 + b
  else a / 4096 * 65536 + (a % 4096 - 0x400) / 4 * 256 + b

/-- Byte address of the flag register of a source number. -/
def sourceAddr (n : Nat) : Nat :=
  if 2 ^ 31 ≤ n then loc .EV_PRIV else n / 65536 % 256 * 4096 + 0x400 + n / 256 % 256 * 4

/-- Flag bit of a source number. -/
def sourceBit (n : Nat) : Nat := if 2 ^ 31 ≤ n then n % 8 else n % 32

/-- A source is active while its flag bit and its enable bit are both 1 (R386). -/
def sourceActive (n : Nat) (s : State) : Bool :=
  let a := sourceAddr n
  bit (sourceMask a) (sourceBit n) && bit (rd a s) (sourceBit n) && bit (rd (a + 4) s) (sourceBit n)

/-- Management sources: the flag sources of the pages GL to DU, and all privileged sources (R385). -/
def isMgmt (n : Nat) : Bool := decide (2 ^ 31 ≤ n) || decide (n / 65536 % 256 < 8)

/-- Every active source. Flags have reset value 0, so only listed words can hold one. -/
def activeSources (s : State) : List Nat :=
  s.regs.flatMap (fun p =>
    let m := sourceMask p.1
    if m = 0 then [] else
    let v := p.2.toNat &&& m &&& rd (p.1 + 4) s
    ((List.range 32).filter (fun b => bit v b)).map (sourceNo p.1))

/-! ## Aliases -/

/-- EV_PICC_MASK becomes `v`: a bit that the write clears masks its source (R389). -/
def setPiccMask (v : Nat) (s : State) : State :=
  let a := loc .EV_PICC_MASK
  let m := s.ev.piccMasked ||| rd a s
  { wr a v s with ev := { s.ev with piccMasked := m ^^^ (m &&& v) } }

/-- A flag register becomes `v`. -/
def putFlags (n : RegName) (a v : Nat) (s : State) : State := if n = .EV_PICC_MASK then setPiccMask v s else wr a v s

/-- A write of `v` at the set alias of the flag register at `a` (R93): sticky bits and reserved bits stay. The
Piccolo bits and the enables are the settable ones. -/
def setAlias (a v : Nat) (s : State) : State :=
  match regAt (a / 4096) (a % 4096) with
  | some (n, _, _) => putFlags n a (rd a s ||| (v &&& n.row.rw)) s
  | none => s

/-- WRAP of the counter PC_SEL names. -/
def clearWrap (s : State) : State :=
  let i := fg (loc .PC_SEL) F.PC_SEL_INDEX s
  { s with pc := { s.pc with wrap := s.pc.wrap.filter (· != i) } }

/-- A write of `v` at the clear alias of the flag register at `a`, in a cycle in which the hardware sets the bits
`hw`: a bit that is both cleared and set ends set (R94). PC_WRAP clears the WRAP bit of the selected counter
(R419). -/
def clearAlias (a v hw : Nat) (s : State) : State :=
  match regAt (a / 4096) (a % 4096) with
  | some (n, _, _) =>
    if n = .PC_WRAP then
      if bit v 0 && !bit hw 0 then clearWrap s else s
    else
      let m := n.row.rw ||| n.row.sticky
      let old := rd a s
      putFlags n a ((old ^^^ (old &&& v &&& m)) ||| (hw &&& n.row.sticky)) s
  | none => s

/-! ## Piccolo mapping (R404) -/

/-- Source number that EV_COMPLETE or EV_PICC_MAP codes: PRIV and its bits 23:0. A privileged source is named by
BIT[2:0]. (DEDUCED: log entry 24.) -/
def codedSource (priv : Bool) (v : Nat) : Nat :=
  if priv then 2 ^ 31 + v % 8 else v / 256 % 65536 * 256 + v % 32

/-- Source that Piccolo entry `n` maps; none while it is not VALID. (DEDUCED: log entry 24.) -/
def piccSource (n : Nat) (s : State) : Option Nat :=
  let a := loc .EV_PICC_MAP 0 n
  if fb a F.EV_PICC_MAP_VALID s then some (codedSource (fb a F.EV_PICC_MAP_PRIV s) (fg a F.EV_PICC_MAP_SOURCE s)) else none

/-- The Piccolo entry that maps a management source, if any. -/
def piccOf (src : Nat) (s : State) : Option Nat :=
  if isMgmt src then
    (List.range 32).find? (fun n => piccSource n s == some src)
  else none

/-- FAST_IRQ[3:0] (R405): line `l` is 1 while a pending, unmasked bit is mapped to it. -/
def fastLines (s : State) : Nat :=
  let v := rd (loc .EV_PICC_PEND) s &&& rd (loc .EV_PICC_MASK) s
  if v = 0 then 0 else
  (List.range 32).foldl (fun acc n =>
    if bit v n then acc ||| 2 ^ fg (loc .EV_PICC_MAP 0 n) F.EV_PICC_MAP_LINE s else acc) 0

/-! ## Pins -/

/-- The block is in reset, or its supplies have collapsed: outputs hold their reset values (R38, R41, R42, R46). -/
def inReset (s : State) : Bool := !s.pins.rstN || !s.pins.warmN || s.pins.collapsed

/-- What happens in the datapath, and what arrives at it, has an effect only out of reset (R42, R46). (DESIGN CHOICE: log
entry 4.) -/
def outOfReset (f : State → State) (s : State) : State := if inReset s then s else f s

/-- READY (R43). -/
def readyNow (s : State) : Bool :=
  !inReset s && s.pins.verdict && s.pins.datapathUp && s.pins.profileApplied && !s.pins.fenced

/-- ALERT_N (R53). -/
def alertNow (s : State) : Bool :=
  inReset s || (rd (loc .GL_ALERT) s &&& rd (loc .GL_ALERT_EN) s) == 0

/-- FAST_IRQ (R405, R42): none is raised before the boot verdict (R454). -/
def fastNow (s : State) : BitVec 4 := if inReset s || !s.pins.verdict then 0 else BitVec.ofNat 4 (fastLines s)

/-- READY follows its conditions; its first rise since cold reset frees channel 63 (R316), and each rise ends the
hold of R503. -/
def refreshReady (s : State) : State :=
  let r := readyNow s
  { s with
    pins := { s.pins with ready := r, everReady := s.pins.everReady || r }
    ev := { s.ev with warmHold := s.ev.warmHold && !r } }

/-- Drive READY, ALERT_N and FAST_IRQ. -/
def refreshPins (s : State) : State :=
  { s with pins := { s.pins with ready := readyNow s, alertN := alertNow s, fastIrq := fastNow s } }

end Sys2Proof.Machine
end

