-- ==== Sys2Proof/Machine/Events.lean ====
section
/-!
DEFINITION. Reports, event records, Sillage queues and messages (R385 to R405).
-/

namespace Sys2Proof.Machine

/-! ## Credit scans and records of a Sillage queue -/

/-- Slots a credit may cover: 64, or the whole ring where it is smaller (R392). -/
def creditMax (logSize : Nat) : Nat := min 64 (2 ^ logSize)

/-- Read the next slot of a Sillage queue's credit scan: the first slot beyond the credit. -/
def silScanRead (q : Nat) (s : State) : State :=
  let k := getSil q s
  let p := (k.prod + k.credit) % 2 ^ k.logSize
  ownRead (silChan q) k.func (k.base + 16 * p) (.silScan q p) s

/-- Start a credit scan (R392); requests made during a scan merge into one further scan. (DEDUCED: log entry 55.) -/
def silScanStart (q : Nat) (s : State) : State :=
  let k := getSil q s
  if k.state ≠ .active then s
  else if k.scan then setSil q { k with rescan := true } s
  else if creditMax k.logSize ≤ k.credit then s
  else silScanRead q (setSil q { k with scan := true } s)

/-- The 16 bytes of an event record (R390), DEV_OWNS = 0. -/
def recordBytes (status kind obj info t seq : Nat) : Bytes :=
  let n := roundNs t
  bytesLE 1 status ++ bytesLE 1 kind ++ bytesLE 2 obj ++ bytesLE 4 info ++
    bytesLE 4 (n % 1000000000) ++ bytesLE 3 (n / 1000000000) ++ bytesLE 1 (seq % 128)

/-- Write a record into a credited slot (R390, R392, R393). `who` names the completion queue (its number plus
1) or admin pair (0x10000 plus its number) whose record it is, for R400. -/
def writeRecord (q status kind obj info who t : Nat) (s : State) : State :=
  let k := getSil q s
  let o := newOut s
  let s1 := setSil q { k with
      prod := (k.prod + 1) % 2 ^ k.logSize, credit := k.credit - 1, seq := (k.seq + 1) % 128,
      outRecs := k.outRecs + 1 } o.2
    |> bump (cEv 5)
    |> whoBegan who
    |> access { chan := silChan q, func := k.func, iova := k.base + 16 * k.prod, len := 16, write := true,
                data := recordBytes status kind obj info t k.seq, purpose := .silRec q o.1 kind who, split := true }
  if k.credit = 32 then silScanStart q s1 else s1

/-- A report for a queue with no credit, or in STOPPED, is lost (R393, R394). -/
def loseReport (q : Nat) (s : State) : State :=
  let k := getSil q s
  setSil q { k with lost := min 65535 (k.lost + 1), seq := (k.seq + 1) % 128 } s
    |> setFlag (loc .EV_EVENT) F.EV_EVENT_SIL_LOST
    |> bump (cEv 1)

/-- The OVERFLOW record, written before any other once there is credit again (R393). -/
def overflowRecord (q : Nat) (s : State) : State :=
  let k := getSil q s
  if k.state = .active ∧ k.lost ≠ 0 ∧ k.credit ≠ 0 then
    writeRecord q 0 0x12 0 k.lost 0 s.tb.time (setSil q { k with lost := 0 } s)
  else s

/-- Make a report into Sillage queue `q`, with no coalescing (R390 to R394): a report for a queue that does not
exist is discarded and counted. -/
def emit (q status kind obj info who t : Nat) (s : State) : State :=
  let k := getSil q s
  match k.state with
  | .none => bump (cEv 4) s
  | .stopped => loseReport q s
  | .active => if k.credit = 0 then loseReport q s else writeRecord q status kind obj info who t s

/-- Close a coalescing window: its SUMMARY report goes to the root's queue, with the window end as its time
(R403). -/
def closeWindow (w : Window) (s : State) : State :=
  { s with ev := { s.ev with windows := s.ev.windows.filter (fun v => v.domain != w.domain) } }
    |> emit w.sil w.status 0x11 w.domain w.count 0 w.stop

/-- A report of a coalesced domain (R403), COAL_WIN not being 0. -/
def coalesce (d q status kind obj info who : Nat) (s : State) : State :=
  let opened (s : State) : State :=
    if 256 ≤ s.ev.windows.length then
      emit q status kind obj info who s.tb.time s |> setFlag (loc .EV_EVENT) F.EV_EVENT_COAL_FULL
    else
      let w : Window :=
        { domain := d, stop := s.tb.time + fg (loc .EV_CFG) F.EV_CFG_COAL_WIN s * 1000 * nsU, sil := q,
          status := status, count := 0 }
      emit q status kind obj info who s.tb.time { s with ev := { s.ev with windows := s.ev.windows ++ [w] } }
  match s.ev.windows.find? (fun w => w.domain == d) with
  | some w =>
    if s.tb.time < w.stop then
      let ws := s.ev.windows.map (fun v => if v.domain = d then { v with count := v.count + 1 } else v)
      bump (cEv 2) { s with ev := { s.ev with windows := ws } }
    else opened (closeWindow w s)
  | none => opened s

/-- Make a report (R385 to R394, R402, R403); `dom` is its fault domain where its kind is coalesced (R391). -/
def report (q status kind obj info who : Nat) (dom : Option Nat) (s : State) : State :=
  match dom with
  | none => emit q status kind obj info who s.tb.time s
  | some d =>
    if fg (loc .EV_CFG) F.EV_CFG_COAL_WIN s = 0 then emit q status kind obj info who s.tb.time s
    else coalesce d q status kind obj info who s

/-- An object report for a queue that may not be named (R276, R326): without one, only the flag is set. -/
def reportTo (valid : Bool) (q status kind obj info who : Nat) (dom : Option Nat) (s : State) : State :=
  if valid then report q status kind obj info who dom s else s

/-! ## Messages -/

/-- Raise the message of a queue on NFP (R396, R398). While one of the queue's is raised and not yet accepted, the next waits
for that. (DEDUCED: log entry 70.) -/
def raiseMessage (q : Nat) (s : State) : State :=
  let k := getSil q s
  if k.msgWait then setSil q { k with msgDue := true } s
  else
    let s1 := setSil q { k with moderating := false, msgWait := true, msgDue := false } s
    bump (cEv 6) { s1 with ev := { s1.ev with nfp := s1.ev.nfp ++ [(k.target, q)] } }

/-- TARGET_IDLE of a target (R397). (DEDUCED: log entry 70.) -/
def targetIdle (t : Nat) (s : State) : Bool := s.pins.targetIdle.getLsbD t

/-- Raise a moderating queue's message if one of the instants of R396 other than the passing of MOD_TIME has come.
(DEDUCED: log entry 70.) -/
def moderate (q : Nat) (priv : Bool) (s : State) : State :=
  let k := getSil q s
  if k.moderating &&
      (k.dueTime == 0 || (k.dueCount != 0 && decide (k.dueCount ≤ k.sinceDue)) || targetIdle k.target s || priv)
  then raiseMessage q s else s

/-- A message becomes due (R395, R396), `n` records counting towards MOD_COUNT. -/
def messageDue (q n : Nat) (priv : Bool) (s : State) : State :=
  let k := getSil q s
  setSil q { k with armed := false, moderating := true, dueTime := k.modTime, dueCount := k.modCount,
                    sinceDue := n } s
    |> moderate q priv

/-- A record counts as written: its write response has arrived (R395, R396). -/
def recordWritten (q kind : Nat) (s : State) : State :=
  let k := getSil q s
  let priv := kind == 0x02
  if k.armed then messageDue q 1 priv s
  else if k.moderating then setSil q { k with sinceDue := k.sinceDue + 1 } s |> moderate q priv
  else s

/-- A write is a record of Sillage queue `q`. -/
def ofSil (q : Nat) (p : Purpose) : Bool :=
  match p with
  | .silRec r _ _ _ => r == q
  | _ => false

/-- Once every record issued has its response, a pending arm reads the slot before the producer (R395): before the first
record that is not issued. -/
def silArmRead (q : Nat) (s : State) : State :=
  let k := getSil q s
  let n := unissued (ofSil q) s
  if k.state = .active ∧ k.armPending = true ∧ k.outRecs = n then
    let p := ringBack k.prod (n + 1) k.logSize
    ownRead (silChan q) k.func (k.base + 16 * p) (.silArm q p) (setSil q { k with armPending := false } s)
  else s

/-- The queue enters STOPPED (R394). -/
def silStop (q : Nat) (s : State) : State :=
  let k := getSil q s
  if k.state = .active then
    setSil q { k with state := .stopped, scan := false, rescan := false, armPending := false } s
      |> endReqs (fun p => match p with
          | .silScan r _ => r == q
          | .silArm r _ => r == q
          | _ => false)
      |> cancelReqs (ofSil q)
      |> setFlag (loc .EV_EVENT) F.EV_EVENT_SIL_STOPPED
  else s

/-! ## Claims (R386, R388) -/

/-- The Sillage queue a flag source's records go to (R391): the route of EV_PRIV_ROUTE for a privileged source,
the page's entry of the route table for the others. -/
def routeOf (src : Nat) (s : State) : Option Nat :=
  let v := if 2 ^ 31 ≤ src then rd (loc .EV_PRIV_ROUTE 0 (src % 8)) s
           else sget 0 s.ev.routes (src / 65536 % 256)
  if bit v 31 then some (v % 1024) else none

/-- Sources of the steward, which report nothing while its outputs are gated (R454): the BT page, and the privileged
sources of the trial watchdog, the verdict and the fuses. (DEDUCED: log entry 72.) -/
def stewardGated (src : Nat) (s : State) : Bool :=
  fb (loc .BT_STATUS) F.BT_STATUS_GATED s &&
    (if 2 ^ 31 ≤ src then src % 8 == 1 || src % 8 == 2 || src % 8 == 3 else src / 65536 % 256 == 1)

/-- Make the report of a flag source and claim it (R388, R390, R404): a Piccolo mapping takes the place of the record, and a
source whose bit of EV_PICC_MASK a write has cleared makes none (R389);
the flag ST_EVENT LEARN_CONFLICT reports as a LEARN_CONFLICT record (R391). A source with neither mapping nor route
makes no report, and in the STANDBY role only the Piccolo bank works (R486). (DEDUCED: log entry 71.) (DEDUCED: log
entry 72.) -/
def reportSource (src : Nat) (s : State) : State :=
  let claimed (s : State) : State := { s with ev := { s.ev with claims := src :: s.ev.claims } }
  if stewardGated src s then s else
  match piccOf src s with
  | some n => if bit s.ev.piccMasked n then s else claimed (setFlags (loc .EV_PICC_PEND) (2 ^ n) s)
  | none =>
    match routeOf src s with
    | none => s
    | some q =>
      if islRun 2 s = false ∨ duRole s = 2 then s
      else if 2 ^ 31 ≤ src then claimed (report q 0 0x02 (src % 8) 0 0 none s)
      else if src = sourceNo (loc .ST_EVENT) 3 then
        claimed (report q 0 0x09 s.ev.conflict.1 s.ev.conflict.2 0 none s)
      else
        let page := src / 65536 % 256
        let dom := if isMgmt src then none else some (0x8000 + page)
        claimed (report q 0 0x01 page (src / 256 % 256 * 256 + src % 32) 0 dom s)

/-- Management sources end their claims by becoming inactive (R388). -/
def unclaim (s : State) : State :=
  { s with ev := { s.ev with claims := s.ev.claims.filter (fun c => !isMgmt c || sourceActive c s) } }

/-- One round of the source table (R388). (DESIGN CHOICE: log entry 6.) (DEDUCED: log entry 71.) -/
def sourceRound (s : State) : State :=
  let s1 := unclaim s
  forEach ((activeSources s1).filter (fun c => !s1.ev.claims.contains c)) reportSource s1

/-- A rising edge of privileged source `i`: its EV_PRIV bit is set, or the edge is merged and counted (R387).
(DEDUCED: log entry 71.) -/
def privEdge (i : Nat) (s : State) : State :=
  if bit (rd (loc .EV_PRIV) s) i then bump (cEv 3) s else setFlags (loc .EV_PRIV) (2 ^ i) s

/-! ## Crossings (R21) -/

/-- An item that its crossing does not accept waits there (R21). -/
def holdItem (i : Instr) (s : State) : State := { s with pw := { s.pw with held := s.pw.held ++ [i] } }

/-- An item passes its crossing where `ok` says so, or waits there (R21). -/
def crossing (ok : Bool) (i : Instr) (f : State → State) (s : State) : State := if ok then f s else holdItem i s

end Sys2Proof.Machine
end

