-- ==== Sys2Proof/Machine/Ports.lean ====
section
/-!
DEFINITION. What a profile makes of lanes and ports (R104 to R107), the lane map (R116), connection memory and clients
(R138, R139, R152), and the link state and rate of a port (R124, R148, R150).
-/

namespace Sys2Proof.Machine

/-! ## Profile records (R104, R105) -/

/-- Lane descriptor byte 0 of logical lane `l`: USE, RATE, GRP_FEC_BYPASS, GROUP. -/
def profLane (b : Bytes) (l : Nat) : Nat := u b (8 + 2 * l) 1
def laneUse (b : Bytes) (l : Nat) : Nat := bits (profLane b l) 1 0
def laneRate (b : Bytes) (l : Nat) : Nat := bits (profLane b l) 2 2
def laneGroup (b : Bytes) (l : Nat) : Nat := bits (profLane b l) 7 4

/-- The 8-byte descriptor of port `p`, as a number. -/
def portDesc (b : Bytes) (p : Nat) : Nat := u b (64 + 8 * p) 8
def portEnabled (b : Bytes) (p : Nat) : Bool := bit (portDesc b p) 0
def portSlotted (b : Bytes) (p : Nat) : Bool := bit (portDesc b p) 1
def portBypass (b : Bytes) (p : Nat) : Bool := bit (portDesc b p) 2
def portSpeed (b : Bytes) (p : Nat) : Nat := bits (portDesc b p) 7 4
def portFirst (b : Bytes) (p : Nat) : Nat := bits (portDesc b p) 12 8
def portGroup (b : Bytes) (p : Nat) : Nat := bits (portDesc b p) 11 8
def portSlots (b : Bytes) (p : Nat) : Nat := bits (portDesc b p) 25 16
def rxEntry (b : Bytes) (p : Nat) : Nat := bits (portDesc b p) 43 32
def txEntry (b : Bytes) (p : Nat) : Nat := bits (portDesc b p) 59 48
def quota (b : Bytes) (p : Nat) : Nat := u b (576 + 2 * p) 2

/-- Byte 4: ENGINE_EXT, TABLE_ASSURED, BUF_SHARED, PWR_HELD. -/
def profMode (b : Bytes) (i : Nat) : Bool := bit (u b 4 1) i

/-- Lanes of a plain port by SPEED (R113). -/
def speedLanes (sp : Nat) : Nat :=
  match sp with
  | 0 => 1
  | 1 => 1
  | 2 => 2
  | 3 => 4
  | _ => 8

/-- Nominal speed of a plain port in Mbit/s by SPEED. -/
def speedRate (sp : Nat) : Nat :=
  match sp with
  | 0 => 100000
  | 1 => 200000
  | 2 => 400000
  | 3 => 800000
  | _ => 1600000

/-- Logical lanes of a plain port. -/
def portLanes (b : Bytes) (p : Nat) : List Nat :=
  (List.range (speedLanes (portSpeed b p))).map (portFirst b p + ·)

/-- Enabled plain ports, and enabled slotted ports. -/
def plainPorts (b : Bytes) : List Nat := (List.range 64).filter (fun p => portEnabled b p && !portSlotted b p)
def slottedPorts (b : Bytes) : List Nat := (List.range 64).filter (fun p => portEnabled b p && portSlotted b p)

/-- Members that a profile gives a group: its slotted logical lanes, in ascending order (R136). -/
def groupLanes (b : Bytes) (g : Nat) : List Nat :=
  (List.range 18).filter (fun l => laneUse b l == 2 && laneGroup b l == g)

/-- A list has no repeats. -/
def distinct (l : List Nat) : Bool := l.all (fun x => (l.filter (· == x)).length == 1)

/-- Validity of profile record `b` as number `n` (R106, R136). -/
def profValid (b : Bytes) (n : Nat) : Bool :=
  u b 0 2 == 0x4650 && u b 2 1 == n && u b 3 1 == 1 && u b 1016 4 == fcs (b.take 1016) &&
  decide (((List.range 18).filter (fun l => laneUse b l == 1 || laneUse b l == 2)).length ≤ 16) &&
  (plainPorts b).all (fun p =>
    decide (portSpeed b p ≤ 4) && portFirst b p % speedLanes (portSpeed b p) == 0 &&
    (portLanes b p).all (fun l => decide (l < 18) && laneUse b l == 1 &&
      laneRate b l == (if portSpeed b p = 0 then 0 else 1))) &&
  distinct ((plainPorts b).flatMap (portLanes b)) &&
  (List.range 18).all (fun l => laneUse b l != 2 || laneRate b l == 1) &&
  (List.range 16).all (fun g =>
    let n := (groupLanes b g).length
    let ps := (slottedPorts b).filter (fun p => portGroup b p == g)
    [0, 1, 2, 4, 8, 16].contains n && decide (ps.length ≤ 63) &&
      decide (ps.foldl (fun a p => a + portSlots b p) 0 ≤ 40 * n)) &&
  decide ((List.range 64).foldl (fun a p => a + quota b p) 0 ≤ 1536)

/-! ## Lanes -/

def getLane (n : Nat) (s : State) : Lane := sget Lane.reset s.phy.lanes n
def setLane (n : Nat) (l : Lane) (s : State) : State := { s with phy := { s.phy with lanes := sput Lane.reset s.phy.lanes n l } }
def getLink (p : Nat) (s : State) : Link := sget Link.reset s.phy.links p
def setLink (p : Nat) (l : Link) (s : State) : State := { s with phy := { s.phy with links := sput Link.reset s.phy.links p l } }

/-- Physical lane of logical lane `l` (R116): the map is kept with the lane's own number as its default. -/
def physOf (l : Nat) (s : State) : Nat :=
  match s.phy.lmap.find? (fun e => e.1 == l) with
  | some e => e.2
  | none => l

/-- Put logical lane `l` on physical lane `n`. -/
def mapLane (l n : Nat) (s : State) : State :=
  let m := s.phy.lmap.filter (fun e => e.1 != l)
  { s with phy := { s.phy with lmap := if l = n then m else sput l m l n } }

/-- Role of a physical lane (R117). -/
def laneRole (n : Nat) (s : State) : Nat := fg (loc .LN_STATUS n) F.LN_STATUS_LANE_STATE s
def setRole (n r : Nat) (s : State) : State := fs (loc .LN_STATUS n) F.LN_STATUS_LANE_STATE r s

/-- Rate of the logical lane a physical lane carries. -/
def laneLogical (n : Nat) (s : State) : Nat := fg (loc .LN_STATUS n) F.LN_STATUS_LOGICAL s

/-- The plain port that a logical lane serves, if any. -/
def lanePort (l : Nat) (s : State) : Option Nat := (plainPorts s.prof.cur).find? (fun p => (portLanes s.prof.cur p).contains l)

/-- Physical lanes of a plain port. -/
def portPhys (p : Nat) (s : State) : List Nat := (portLanes s.prof.cur p).map (fun l => physOf l s)

/-- The port is an enabled plain port; an enabled slotted client. -/
def isPlain (p : Nat) (s : State) : Bool := portEnabled s.prof.cur p && !portSlotted s.prof.cur p
def isClient (p : Nat) (s : State) : Bool := portEnabled s.prof.cur p && portSlotted s.prof.cur p

/-- Code of the island of a port's group. -/
def portIsland (p : Nat) : Nat := 0x30 + p / 8
/-- Code of a lane's island. -/
def laneIsland (n : Nat) : Nat := 0x10 + n

/-! ## Slot groups, members and clients -/

def memKey (g k : Nat) : Nat := 32 * g + k
def getMem (g k : Nat) (s : State) : Member := sget Member.reset s.os.members (memKey g k)
def setMem (g k : Nat) (m : Member) (s : State) : State :=
  { s with os := { s.os with members := sput Member.reset s.os.members (memKey g k) m } }
def getGrp (g : Nat) (s : State) : Slots := sget Slots.reset s.os.groups g
def setGrp (g : Nat) (v : Slots) (s : State) : State :=
  { s with os := { s.os with groups := sput Slots.reset s.os.groups g v } }

/-- Valid member indices of a group, ascending (R137). -/
def memIdx (g : Nat) (s : State) : List Nat :=
  (List.range 17).filter (fun k => fb (loc .OS_MEMBER g k) F.OS_MEMBER_VALID s)

/-- Physical lane of a member. -/
def memLane (g k : Nat) (s : State) : Nat := fg (loc .OS_MEMBER g k) F.OS_MEMBER_PHYS_LANE s

/-- Group ACTIVE (OS_CFG). -/
def grpActive (g : Nat) (s : State) : Bool := fb (loc .OS_CFG g) F.OS_CFG_ACTIVE s

/-- TX_PAGE, RX_PAGE and switch state of a group (OS_SW_STATE). -/
def txPage (g : Nat) (s : State) : Nat := fg (loc .OS_SW_STATE g) F.OS_SW_STATE_TX_PAGE s
def rxPage (g : Nat) (s : State) : Nat := fg (loc .OS_SW_STATE g) F.OS_SW_STATE_RX_PAGE s
def swState (g : Nat) (s : State) : Nat := fg (loc .OS_SW_STATE g) F.OS_SW_STATE_STATE s

/-- Connection-memory entry: page, slot (R152). -/
def cmGet (pg slot : Nat) (s : State) : Nat := sget 0x3F s.os.cm (720 * pg + slot)
def cmPut (pg slot c : Nat) (s : State) : State :=
  { s with os := { s.os with cm := sput 0x3F s.os.cm (720 * pg + slot) c } }

/-- Slots of a physical lane (R135). -/
def laneSlots (n : Nat) : List Nat := (List.range 40).map (40 * n + ·)

/-- Slots of a group. -/
def grpSlots (g : Nat) (s : State) : List Nat := (memIdx g s).flatMap (fun k => laneSlots (memLane g k s))

/-- Slots of client `c` of a group in a page. -/
def clientSlots (g c pg : Nat) (s : State) : Nat := ((grpSlots g s).filter (fun x => cmGet pg x s == c)).length

/-- Client number of a slotted port in its group (OS_CLIENT). -/
def clientOf (g p : Nat) (s : State) : Option Nat :=
  (List.range 63).find? (fun c =>
    let a := loc .OS_CLIENT g c
    fb a F.OS_CLIENT_VALID s && fg a F.OS_CLIENT_PORT s == p)

/-- A member has a defect with consequent action (R147). -/
def memActs (g k : Nat) (s : State) : Bool :=
  let a := loc .OS_MEMBER g k
  fb a F.OS_MEMBER_LOS s || fb a F.OS_MEMBER_LOF s || fb a F.OS_MEMBER_AIS s ||
    (fb a F.OS_MEMBER_TIM s && fb (loc .OS_CFG g) F.OS_CFG_TIM_ACT s)

/-- Consequent local fault of a client (R147, R149). -/
def clientFault (g c : Nat) (s : State) : Bool :=
  clientSlots g c (rxPage g s) s == 0 ||
  (memIdx g s).any (fun k =>
    (memActs g k s && (laneSlots (memLane g k s)).any (fun x => cmGet (rxPage g s) x s == c)) ||
    (fb (loc .OS_MEMBER g k) F.OS_MEMBER_MAP_MM s && (getMem g k s).mmClients.contains c))

/-- The block enters SLEEP, DEEP or OFF: the MACs take in nothing and the scheduler selects nothing (R437). -/
def blockEntering (s : State) : Bool := s.pw.seqs.any (fun q => q.code == 0xFF && !q.wake)

/-- The island of a port's group is asleep, waking or entering (R182, R184), or the block is entering a state. -/
def portAsleep (p : Nat) (s : State) : Bool :=
  let i := isl (portIsland p) s
  i.st = .sleep || i.waking || i.entering || blockEntering s

/-- Link state of a port (R124, R148): down while its group's island is not in RUN or IDLE (R435, R437). -/
def linkUp (p : Nat) (s : State) : Bool :=
  if islUp (portIsland p) s = false then false
  else if isPlain p s then
    fg (loc .MP_PCS_STATE p) F.MP_PCS_STATE_STATE s == 4 && fg (loc .MP_PCS_STATE p) F.MP_PCS_STATE_RX_FAULT s == 0
  else if isClient p s then
    let g := portGroup s.prof.cur p
    match clientOf g p s with
    | some c => decide (clientSlots g c (txPage g s) s ≠ 0) && !clientFault g c s && (getLink p s).rs == 0
    | none => false
  else false

/-! ## Islands that change together (R435) -/

/-- Enabled slotted ports of a group, ascending. -/
def groupPorts (b : Bytes) (g : Nat) : List Nat := (slottedPorts b).filter (fun p => portGroup b p == g)

/-- Lanes of the plain ports of group island `c`. -/
def plainFollow (c : Nat) (s : State) : List Nat :=
  ((plainPorts s.prof.cur).filter (fun p => portIsland p == c)).flatMap (fun p => (portPhys p s).map laneIsland)

/-- Port groups that hold a client of slot group `g`. -/
def clientIslands (g : Nat) (s : State) : List Nat := ((groupPorts s.prof.cur g).map portIsland).dedup

/-- Lanes of the slot groups with a client on group island `c`, each with the state that they take when `c` goes to `st`:
SLEEP or OFF once every port group with a client is there, SLEEP while one of them is in SLEEP (R435). -/
def slotFollow (c : Nat) (st : PState) (s : State) : List (Nat × PState) :=
  (List.range 16).flatMap (fun g =>
    let is_ := clientIslands g s
    if is_.contains c = false then []
    else
      let sts := is_.map (fun i => if i = c then st else (isl i s).st)
      if sts.any (fun x => x == .run || x == .idle) then []
      else
        let t := if sts.contains .sleep then PState.sleep else PState.off
        (memIdx g s).map (fun k => (laneIsland (memLane g k s), t)))

/-- Islands that change with island `c` alone, and the state each takes. -/
def follow1 (c : Nat) (st : PState) (s : State) : List (Nat × PState) :=
  (c, st) :: (if isGroupIsl c then (plainFollow c s).map (fun x => (x, st)) ++ slotFollow c st s else [])

/-- Islands that return to RUN with island `c` alone. -/
def wakeMembers (c : Nat) (s : State) : List Nat :=
  c :: (if isGroupIsl c then
    (plainFollow c s ++ (List.range 16).flatMap (fun g =>
      if (clientIslands g s).contains c then (memIdx g s).map (fun k => laneIsland (memLane g k s)) else [])).filter
        (fun x => !isRun x s)
    else [])

/-! ## Rates -/

/-- Slots for which a slotted port is paced (R150, R154). -/
def paceOf (p : Nat) (s : State) : Nat := sget 0 s.os.pace p
def setPace (p k : Nat) (s : State) : State := { s with os := { s.os with pace := sput 0 s.os.pace p k } }

/-- Rate of a port in bit/s: nominal for a plain port (R113), paced for a slotted client (R150). -/
def portBps (p : Nat) (s : State) : Nat :=
  if isPlain p s then speedRate (portSpeed s.prof.cur p) * 1000000
  else if isClient p s then paceOf p s * 4999127951
  else 0

/-- PRATE of a port in Mbit/s (SC_PRATE, R358). -/
def setPrate (p : Nat) (s : State) : State := wr (scLoc .SC_PRATE p) (portBps p s / 1000000) s

/-- Nominal rate of a port for pause quanta in Mbit/s: `slots` × 5 Gbit/s for a client (R175, R377). -/
def quantaRate (p slots : Nat) (s : State) : Nat :=
  if isPlain p s then speedRate (portSpeed s.prof.cur p) else slots * 5000

/-- Slots of a slotted port in RX_PAGE. -/
def rxSlots (p : Nat) (s : State) : Nat :=
  let g := portGroup s.prof.cur p
  match clientOf g p s with
  | some c => clientSlots g c (rxPage g s) s
  | none => 0

end Sys2Proof.Machine
end

