-- ==== Sys2Proof/Machine/Control.lean ====
section
/-!
DEFINITION. Control accesses (R54 to R58, R82 to R99): the regions of the aperture, the checks of the page access
tables, the handling of accesses to islands that are not in RUN, the records that refused accesses leave, and the
responses. A meaning gives the effect of the register it writes; everything around it is here.
-/

namespace Sys2Proof.Machine

/-- A region of the aperture (R82). -/
inductive Region where
  | page (i off : Nat)
  | doorbell (f h : Nat)
  | counters (f off : Nat)
  | indirect (off : Nat)
  | reserved
  deriving DecidableEq, Repr

/-- Region of a byte address (R82, R83): an unlisted page index counts as reserved. -/
def region (a : Nat) : Region :=
  if a < 0x100000 then
    match pageOf (a / 4096) with
    | some _ => .page (a / 4096) (a % 4096)
    | none => .reserved
  else if 0x1000000 ≤ a ∧ a < 0x2000000 then .doorbell ((a - 0x1000000) / 4096) (a % 4096 / 8)
  else if 0x2000000 ≤ a ∧ a < 0x2800000 then .counters ((a - 0x2000000) / 2048) (a % 2048)
  else if 0x2800000 ≤ a ∧ a < 0x3000000 then .indirect (a - 0x2800000)
  else .reserved

/-! ## Responses and records -/

/-- Answer a control access (R54): a read that is not OK returns 0xFFFF_FFFF (R56), a write returns 0. -/
def respond (m : Master) (st : RStatus) (write : Bool) (v : Nat) (s : State) : State :=
  let d : W32 := if write then 0 else if st = .ok then BitVec.ofNat 32 v else 0xFFFFFFFF
  { s with ctl := { s.ctl with rsp := s.ctl.rsp ++ [{ master := m, status := st, rdata := d }] } }

/-- Record an access in PAGE_ACCESS (R87); the count saturates at 255. (DESIGN CHOICE: log entry 19.) -/
def recordAccess (m : Master) (write : Bool) (pg off reason : Nat) (s : State) : State :=
  let a := hdrLoc .PAGE_ACCESS pg
  let c := min 255 (fg a F.PAGE_ACCESS_COUNT s + 1)
  wr a (reason * 2 ^ 28 + m.code * 2 ^ 26 + b2n write * 2 ^ 25 + c * 2 ^ 16 + off / 4 * 4) s

/-- Record an unmapped or refused window access in GL_BADADDR (R83, R92). (DESIGN CHOICE: log entry 19.) -/
def badAddr (m : Master) (write : Bool) (a : Nat) (s : State) : State :=
  wr (loc .GL_BADADDR) (m.code * 2 ^ 30 + b2n write * 2 ^ 29 + a / 4 * 4) s

/-- Refuse an access to a page with ACCESS, recording it (R87). (DESIGN CHOICE: log entry 19.) -/
def refusePage (m : Master) (write : Bool) (pg off reason : Nat) (s : State) : State :=
  recordAccess m write pg off reason s |> respond m .access write 0

/-- Refuse a misaligned access to a listed page, recording it (R87). No reason code of R87 names it: REASON is a free value.
(DESIGN CHOICE: log entry 19.) -/
def refuseAlign (m : Master) (write : Bool) (pg off : Nat) (s : State) : State :=
  recordAccess m write pg off Config.misalignReason.toNat s |> respond m .access write 0

/-- Refuse a window or unmapped access. -/
def refuseAddr (m : Master) (write : Bool) (a : Nat) (s : State) : State :=
  badAddr m write a s |> respond m .access write 0

/-- Answer OFF, recording it (R98). (DESIGN CHOICE: log entry 21.) -/
def answerOff (m : Master) (write : Bool) (pg off : Nat) (s : State) : State :=
  recordAccess m write pg off 5 s |> respond m .off write 0

/-! ## Rights -/

/-- Rights of a master in a page's access table (R89, R91): RD 1, WR 2, PRES 4. ACL_DBG reads 0 until debug unlock.
(DEDUCED: log entry 22.) -/
def rightsOf (m : Master) (pg : Nat) (s : State) : Nat :=
  let a := hdrLoc .PAGE_ACL pg
  match m with
  | .cpa => fg a F.PAGE_ACL_ACL_CPA s
  | .cpb => fg a F.PAGE_ACL_ACL_CPB s
  | .stw => 3
  | .dbg => if fb (loc .BT_DEBUG) F.BT_DEBUG_UNLOCKED s then fg a F.PAGE_ACL_ACL_DBG s else 0

/-- Debounced presence (R51). -/
def presence (s : State) : Bool := fb (loc .GL_STRAP) F.GL_STRAP_PRESENCE s

/-- The steward's state is RECOVERY (R458). -/
def inRecovery (s : State) : Bool := fg (loc .BT_STATUS) F.BT_STATUS_STATE s == 4

/-- In RECOVERY, CPA and CPB may write the slot addresses, the BCB address and BT_CTRL RECOV_GO whatever PAGE_ACL
says (R461). -/
def recoveryWrite (m : Master) (pg off data : Nat) (s : State) : Bool :=
  inRecovery s && (m = .cpa || m = .cpb) && pg == 1 &&
    ((decide (0x90 ≤ off) && decide (off < 0xA8)) || (off == 0x84 && data / 2 ^ 28 == 1))

/-- Writes that are accepted from the steward only (R91, R111, R459, R460, R465, R467, R480). (DEDUCED: log entry 22.)
-/
def stewardOnly (pg off data : Nat) : Bool :=
  let a := pg * 4096 + off
  a == loc .GL_WINACL || (a == loc .BT_CTRL && (bit data 31 || bit data 30)) ||
    (a == loc .BT_FUSE_CTRL && bit data 31) || (a == loc .BT_DEBUG && bit data 31) ||
    a == loc .ST_SEED_NEW 0 0 || a == loc .ST_SEED_NEW 0 1 ||
    (decide (loc .SV_LMAP ≤ a) && decide (a ≤ loc .SV_RETIRED)) || (a == loc .SV_REPAIR_CMD && bit data 31)

/-- Writes that need presence whatever the access table says (R465, R467). -/
def needsPresence (pg off data : Nat) : Bool :=
  let a := pg * 4096 + off
  (a == loc .BT_FUSE_CTRL || a == loc .BT_DEBUG) && bit data 31

/-- A write of the steward to a page other than BT and GL is refused while its outputs are gated (R454), the page's header
being part of the page (R85). -/
def stwGated (m : Master) (pg : Nat) (s : State) : Bool :=
  m == .stw && fb (loc .BT_STATUS) F.BT_STATUS_GATED s && pg != 0 && pg != 1

/-- Reason for which a page access is refused by the access table, the presence rule or the flag addresses (R83, R86,
R89, R90, R93, R454); none where it is not. (DEDUCED: log entry 22.) -/
def tableCheck (m : Master) (write : Bool) (pg off data : Nat) (s : State) : Option Nat :=
  let r := rightsOf m pg s
  if off < 0x80 then
    if write = false then none
    else if off = 0x20 ∧ m ≠ .stw then some 1
    else if bit r 1 = false then some 1
    else if stwGated m pg s then some 7 else none
  else if write = false then
    if bit r 0 then none else some 1
  else if recoveryWrite m pg off data s then none
  else if bit r 1 = false then some 1
  else if m ≠ .stw ∧ stewardOnly pg off data = true then some 1
  else if (bit r 2 || needsPresence pg off data) && !presence s then some 2
  else if 0x400 ≤ off ∧ off < 0x800 then some 4
  else if stwGated m pg s then some 7
  else none

/-! ## Islands -/

/-- Island that serves an offset of a page outside its header (R84): the always-on registers of the EV page are
served by AON (spec/14), HP_CHMAP0 to HP_CHMAP3 by the core (R343). -/
def servedBy (pg off : Nat) : Nat :=
  if pg = 3 then
    let o := if 0x400 ≤ off then 0x400 + off % 0x400 else off
    if (0xC0 ≤ o ∧ o < 0x180) ∨ (0x400 ≤ o ∧ o < 0x41C) then 0 else 2
  else if pg = 0xE0 ∧ 0x100 ≤ off ∧ off < 0x110 then 2
  else pageIsland pg

/-- What becomes of an access outside the header (R98). -/
inductive Gate where
  | go | stall | off
  deriving DecidableEq, Repr

/-- AW bit of a master (PAGE_AUTOWAKE). -/
def autoWake (m : Master) (pg : Nat) (s : State) : Bool :=
  bit (fg (hdrLoc .PAGE_AUTOWAKE pg) F.PAGE_AUTOWAKE_AW s) m.code

/-- Block state shown by PW_STATE (R433). -/
def blockState (s : State) : Nat := fg (loc .PW_STATE) F.PW_STATE_BLOCK_STATE s

/-- Until the ROM runs, a page outside its header answers OFF whatever its access table says (R44 step 2), but for the
pages of AON in block OFF. -/
def romOff (pg off : Nat) (s : State) : Bool :=
  decide (0x80 ≤ off) && decide (s.pins.coldStep < 4) &&
    !(s.pins.coldStep == 0 && blockState s == 4 && servedBy pg off == 0)

/-- Handling of an access to a page by its island's state (R98). Until the ROM runs, every page but the headers
answers OFF (R44), but for the pages of AON in block OFF; while the datapath is held in reset, every page but GL and BT
does. -/
def gate (m : Master) (pg off : Nat) (s : State) : Gate :=
  if off < 0x80 then .go
  else if romOff pg off s then .off
  else if s.pins.coldStep < 4 then .go
  else if pg ≠ 0 ∧ pg ≠ 1 ∧ s.pins.datapathUp = false then .off
  else
    let i := isl (servedBy pg off) s
    if i.entering then
      if i.target = .sleep ∧ autoWake m pg s = true then .stall else .off
    else if i.waking then if autoWake m pg s then .stall else .off
    else match i.st with
      | .run => if clocked (servedBy pg off) s then .go else .stall
      | .idle => .stall
      | .sleep => if autoWake m pg s then .stall else .off
      | _ => .off

/-- Island that a request stalls for: its page's, the core for a counter window, the table for an indirect window. -/
def reqIsland (r : CtlReq) : Nat :=
  match region r.addr with
  | .page pg off => servedBy pg off
  | .indirect _ => 5
  | _ => 2

/-! ## Wake requests (R439 to R441) -/

/-- A fresh sequence. -/
def mkSeq (c : Nat) (members : List Nat) (wake : Bool) (st : PState) (step : Nat) (cmd : Option (Nat × Nat)) : PSeq :=
  { code := c, members := members, wake := wake, state := st, step := step, cmd := cmd, sources := 0, source := 0,
    detail := 0, ts := 0, retried := false, repeating := false, failStep := 0, fallback := false, also := [] }

/-- Number of the cycle of the AON clock in which an instant falls: 6.4 ns each, 40 ns while REFCLK is absent (R18). (DEDUCED:
log entry 78.) -/
def aonCycle (t : Nat) (s : State) : Nat := 5 * t / (nsU * (if s.pins.refclk then 32 else 200))

/-- Add wake source `c`, accepted now, to a sequence (R440, R441): the first accepted is kept, and of sources accepted in one
cycle of the AON clock the lowest code. -/
def PSeq.addSource (q : PSeq) (c detail : Nat) (s : State) : PSeq :=
  if q.sources = 0 then { q with sources := 2 ^ (c - 1), source := c, detail := detail, ts := s.tb.time }
  else
    let q1 := { q with sources := q.sources ||| 2 ^ (c - 1) }
    if aonCycle q.ts s = aonCycle s.tb.time s ∧ c < q.source then { q1 with source := c, detail := detail } else q1

/-- Mark islands as waking towards RUN. -/
def markWaking (cs : List Nat) (s : State) : State :=
  forEach cs (fun c t => setIsl c { isl c t with waking := true, entering := false, target := .run } t) s

/-- Show a block sequence in PW_STATE. -/
def showSeq (q : PSeq) (s : State) : State :=
  if q.code = 0xFF then
    s |> fs (loc .PW_STATE) F.PW_STATE_CHANGING 1
      |> fs (loc .PW_STATE) F.PW_STATE_PHASE (if q.fallback then 3 else if q.wake then 2 else 1)
      |> fs (loc .PW_STATE) F.PW_STATE_STEP q.step
  else s

/-- Replace a sequence. -/
def setSeq (q : PSeq) (s : State) : State :=
  showSeq q { s with pw := { s.pw with seqs := s.pw.seqs.map (fun r => if r.code = q.code then q else r) } }

/-- Remove a sequence; PW_STATE shows none of the block. -/
def endSeq (c : Nat) (s : State) : State :=
  { s with pw := { s.pw with seqs := s.pw.seqs.filter (fun q => q.code != c) } }
    |> doIf (c == 0xFF) (fun t =>
        fs (loc .PW_STATE) F.PW_STATE_CHANGING 0 t |> fs (loc .PW_STATE) F.PW_STATE_PHASE 0 |> fs (loc .PW_STATE) F.PW_STATE_STEP 0)

/-- The last-wake record (R440): `outcome` is its OUTCOME. -/
def lastWake (q : PSeq) (outcome : Nat) (s : State) : State :=
  wr (loc .PW_LAST_WAKE)
    (q.source * 2 ^ 24 + outcome * 2 ^ 22 + b2n q.retried * 2 ^ 21 + q.failStep * 2 ^ 16 + q.detail % 256 * 2 ^ 8 + q.sources) s
    |> wr64 (loc .PW_LAST_WAKE_TS) (time64 q.ts)

/-- A wake reaches RUN (R440). -/
def wakeRecord (q : PSeq) (s : State) : State :=
  lastWake q (b2n q.retried) s |> bump (cBlk 4) |> setFlag (loc .PW_EVENT) F.PW_EVENT_WAKE_DONE

/-- Start a sequence. -/
def newSeq (q : PSeq) (s : State) : State :=
  showSeq q { s with pw := { s.pw with seqs := s.pw.seqs ++ [q] } }

/-- A power state from its code; unknown codes count as OFF. -/
def PState.ofCode : Nat → PState
  | 0 => .run
  | 1 => .idle
  | 2 => .sleep
  | 3 => .deep
  | _ => .off

/-- Code of a power state (PAGE_PWR STATE). -/
def PState.code : PState → Nat
  | .run => 0
  | .idle => 1
  | .sleep => 2
  | .deep => 3
  | .off => 4

/-- Islands asleep alone that a wake named by island `c` brings back (R435). -/
def alsoWoken (c : Nat) (s : State) : List Nat := if (isl c s).st = .sleep then wakeMembers c s else []

/-- Join a sequence of the block: a wake takes along at once, and an entry once it has ended, an island asleep alone. -/
def joinBlock (q : PSeq) (c src detail : Nat) (s : State) : State :=
  let ms := (alsoWoken c s).filter (fun i => !q.members.contains i)
  let q1 := q.addSource src detail s
  if q.wake then setSeq { q1 with members := q.members ++ ms } s |> markWaking ms
  else setSeq { q1 with also := q.also ++ ms.filter (fun i => !q.also.contains i) } s

/-- A wake source of the block, or of island `c` when only that island is down (R439, R441): it joins a sequence in
progress, starts a wake from SLEEP or DEEP, and is ignored otherwise. An island that went to SLEEP alone wakes with the
block. (DEDUCED: log entry 78.) -/
def requestWake (c src detail : Nat) (s : State) : State :=
  let start (code : Nat) (ms : List Nat) (st : PState) : State :=
    newSeq ((mkSeq code ms true st 1 none).addSource src detail s) s |> markWaking ms
  match s.pw.seqs.find? (fun q => q.code == 0xFF) with
  | some q => joinBlock q c src detail s
  | none =>
    if blockState s = 2 ∨ blockState s = 3 then
      let also := if blockState s = 2 then (alsoWoken c s).filter (fun i => !s.pw.blockDown.contains i) else []
      start 0xFF (s.pw.blockDown ++ also) (PState.ofCode (blockState s))
    else match s.pw.seqs.find? (fun q => q.members.contains c) with
    | some q => setSeq (q.addSource src detail s) s
    | none => if (isl c s).st = .sleep then start c (wakeMembers c s) .sleep else s

/-! ## Running an access -/

/-- Queue of a master. -/
def ctlQueue (m : Master) (s : State) : List CtlReq := sget [] s.ctl.queue m.code

/-- Replace a master's queue. -/
def setCtlQueue (m : Master) (q : List CtlReq) (s : State) : State :=
  { s with ctl := { s.ctl with queue := sput [] s.ctl.queue m.code q } }

/-- The once fields of a register after PAGE_LOCK: whether a write of `data` would change one (R88). -/
def locked (pg off data : Nat) (s : State) : Bool :=
  if fb (hdrLoc .PAGE_LOCK pg) F.PAGE_LOCK_LOCK s then
    match regAt pg off with
    | some (n, _, false) =>
      n != .PAGE_LOCK && ((rd (pg * 4096 + off) s ^^^ data) &&& n.row.once) != 0
    | _ => false
  else false

/-- Carry out a write to a page whose checks have passed: the lock rule, then the register's effect; an effect that
answers none is refused in the present state (reason STATE), and `miss` is then all that happens beside. -/
def runWrite (m : Master) (pg off data : Nat) (eff : State → Option State) (s : State) (miss : State → State := id) :
    State :=
  if locked pg off data s then refusePage m true pg off 3 s
  else match eff s with
    | some t => respond m .ok true 0 (journalConfig (pg * 4096 + off) data t)
    | none => refusePage m true pg off 7 (miss s)

/-- Wait at the crossing (R98): the request stays in its master's queue, and a sleeping island is woken. -/
def stallReq (m : Master) (r : CtlReq) (pg off : Nat) (s : State) : State :=
  let s1 := setCtlQueue m (ctlQueue m s ++ [{ r with stalled := true }]) s
  if isRun (servedBy pg off) s then s1 else requestWake (servedBy pg off) 0x02 0 s1

/-- RST_N is low, or the supplies have collapsed. -/
def coldHeld (s : State) : Bool := !s.pins.rstN || s.pins.collapsed

/-- In reset, a header read returns the reset value and every other access answers OFF with no effect (R42, R46). AON runs
while only WARM_RST_N is low, and records what it refuses (R87). (DEDUCED: log entry 17.) -/
def resetAccess (m : Master) (write : Bool) (a : Nat) (s : State) : State :=
  match region a with
  | .page pg off =>
    if write = false ∧ off < 0x80 ∧ off % 4 = 0 then respond m .ok false (resetWord (pg * 4096 + off)).toNat s
    else if coldHeld s then respond m .off write 0 s
    else answerOff m write pg off s
  | _ => respond m .off write 0 s

/-- A request takes its turn: a port answers in acceptance order, and accesses of one port to one page act in that order
(R54, R55), so behind an earlier request it waits, and a port that holds eight accepts none. -/
def inTurn (m : Master) (r : CtlReq) (act : State → State) (s : State) : State :=
  let q := ctlQueue m s
  if q = [] then act s else if 8 ≤ q.length then s else setCtlQueue m (q ++ [r]) s

/-- The reset rules answer an access to address `a`: every access while RST_N is low (R42), and while WARM_RST_N is low every
access but those to the GL and BT pages (R46). -/
def resetHolds (a : Nat) (s : State) : Bool := coldHeld s || (!s.pins.warmN && decide (0x2000 ≤ a))

/-- A write request, and a read request. -/
def wreq (a data : Nat) : CtlReq := { write := true, addr := a, data := BitVec.ofNat 32 data, stalled := false }
def rreq (a : Nat) : CtlReq := { write := false, addr := a, data := 0, stalled := false }

/-- A write whose turn it is, to a page register by master `m`, with the register's effect given (R56, R86 to R98). -/
def ctlWriteNow (m : Master) (a data : Nat) (eff : State → Option State) (miss : State → State) (s : State) : State :=
  if resetHolds a s then resetAccess m true a s
  else
    let pg := a / 4096
    let off := a % 4096
    if romOff pg off s then answerOff m true pg off s else
    match tableCheck m true pg off data s with
    | some reason => refusePage m true pg off reason s
    | none =>
      match gate m pg off s with
      | .off => answerOff m true pg off s
      | .stall => stallReq m { write := true, addr := a, data := BitVec.ofNat 32 data, stalled := true } pg off s
      | .go => runWrite m pg off data eff s miss

/-- A complete write to a page register (R54, R55). -/
def ctlWrite (m : Master) (a data : Nat) (eff : State → Option State) (s : State) (miss : State → State := id) :
    State :=
  inTurn m (wreq a data) (ctlWriteNow m a data eff miss) s

/-- A read whose turn it is, of a page register, with the value and any side effect given. -/
def ctlReadNow (m : Master) (a : Nat) (eff : State → Nat × State) (s : State) : State :=
  if resetHolds a s then resetAccess m false a s
  else
    let pg := a / 4096
    let off := a % 4096
    if romOff pg off s then answerOff m false pg off s else
    match tableCheck m false pg off 0 s with
    | some reason => refusePage m false pg off reason s
    | none =>
      match gate m pg off s with
      | .off => answerOff m false pg off s
      | .stall => stallReq m { write := false, addr := a, data := 0, stalled := true } pg off s
      | .go => let r := eff s; respond m .ok false r.1 r.2

/-- A complete read of a page register (R54, R55). -/
def ctlRead (m : Master) (a : Nat) (eff : State → Nat × State) (s : State) : State :=
  inTurn m (rreq a) (ctlReadNow m a eff) s

/-- Rights of a master in a field of GL_WINACL (R92, R111). -/
def winRight (f : Fld) (m : Master) (s : State) : Bool := bit (fg (loc .GL_WINACL) f s) m.code

/-- A write that a register with no behaviour of its own takes: the writable fields (R8, R95). -/
def plainWrite (n : RegName) (a data : Nat) (s : State) : State :=
  let m := n.row.rw ||| n.row.once
  let old := rd a s
  wr a ((old ^^^ (old &&& m)) ||| (data &&& m)) s

end Sys2Proof.Machine
end

