-- ==== Sys2Proof/Machine/WorkQueue.lean ====
section
/-!
DEFINITION. Work queues (spec/09): scans, acceptance and checks of submission entries, completion room, completions
and their order, arming, fences, queue errors and the abort sequence. What moves frames is in the files of the
receive and transmit paths.
-/

namespace Sys2Proof.Machine

/-! ## Commands that hold a queue (R257, R292) -/

/-- A command that is started and has not finished. -/
def Cmd.active (c : Cmd) : Bool := c.phase == .running

/-- A command of opcode `op` that `f` picks holds its object, from its start to its completion (R292). -/
def heldBy (op : Nat) (f : Cmd → Bool) (s : State) : Bool :=
  [1, 2].any (fun p => (getPair p s).cmds.any (fun c => (c.active || c.phase == .finished) && c.opcode == op && f c))

/-- A completion queue exists from the completion of its create command, at the end of the initial scan (R257, R298). -/
def cqExists (c : Nat) (s : State) : Bool := (getCq c s).state != .none && !heldBy 0x02 (fun d => u d.raw 8 2 == c) s

/-! ## Backlog pool (R272) -/

/-- Pool entries set aside by backlog reservations (WQ_POOL_RSV): 64 for each reserving queue, less those in use. -/
def poolReserved (s : State) : Nat :=
  s.wq.cqs.foldl (fun a p => if p.2.rsv && p.2.state != .none then a + (64 - min 64 p.2.pool) else a) 0

/-- Pool entries neither holding a completion nor reserved (WQ_POOL FREE). Retired entries beyond the 4,096 held back are
missing (R469). -/
def poolFree (s : State) : Nat :=
  65536 - (s.sv.poolRet - 4096) - s.wq.cqs.foldl (fun a p =>
    if p.2.state = .none then a else if p.2.rsv then a + max 64 p.2.pool else a + p.2.pool) 0

/-! ## Records of completion queues (R273, R275, R276) -/

/-- Code of a completion queue as the owner of a record, for R400. -/
def cqWho (c : Nat) : Nat := c + 1
/-- Code of an admin pair as the owner of a record. -/
def admWho (p : Nat) : Nat := 0x10000 + p

/-- A rebinding of `who` is under way: its reports wait for the new binding (R400). (DEDUCED: log entry 60.) -/
def rebinding (who : Nat) (s : State) : Bool := s.ev.rebinds.any (fun r => !r.silBind && r.obj == who)

/-- Keep a report for the new binding. (DEDUCED: log entry 60.) -/
def deferReport (who status kind obj info : Nat) (dom : Option Nat) (s : State) : State :=
  { s with ev := { s.ev with rebinds := s.ev.rebinds.map (fun r =>
    if !r.silBind && r.obj == who then { r with later := r.later ++ [(status, kind, obj, info, dom)] } else r) } }

/-- A record about completion queue `c`, to the Sillage queue it is bound to (R276). -/
def cqRecord (c status kind obj info : Nat) (dom : Option Nat) (s : State) : State :=
  let k := getCq c s
  if rebinding (cqWho c) s then deferReport (cqWho c) status kind obj info dom s
  else if k.silValid then report k.sillage status kind obj info (cqWho c) dom s
  else s

/-- The access writes a completion of queue `c`. -/
def ofCq (c : Nat) (p : Purpose) : Bool :=
  match p with
  | .completion r _ => r == c
  | _ => false

/-- The COMPLETION record of an armed queue, which disarms it (R275), with the producer position `n` back from that of
the last completion written. -/
def completionRecord (c n : Nat) (s : State) : State :=
  let k := getCq c s
  setCq c { k with armed := false } s |> cqRecord c 0 0x03 c (ringBack k.prod (unissued (ofCq c) s + n) k.logSize) none

/-! ## Credit scans (R271) -/

/-- Read the slot after the credited ones. -/
def cqScanRead (c : Nat) (s : State) : State :=
  let k := getCq c s
  let p := (k.prod + k.credit) % 2 ^ k.logSize
  ownRead (cqChan c) k.func (k.base + 32 * p) (.cqScan c p) s

/-- Start a credit scan; requests made during one merge into one further scan (R271). (DEDUCED: log entry 55.) -/
def cqScanStart (c : Nat) (s : State) : State :=
  let k := getCq c s
  if k.state ≠ .active then s
  else if k.scan then setCq c { k with rescan := true } s
  else if creditMax k.logSize ≤ k.credit then s
  else cqScanRead c (setCq c { k with scan := true, found := 0 } s)

/-- Once every completion write issued has its response, a pending arm reads the slot before the producer (R275): before the
first one that is not issued. -/
def cqArmRead (c : Nat) (s : State) : State :=
  let k := getCq c s
  if k.state = .active ∧ k.armPending = true ∧ k.outWrites = 0 then
    let p := ringBack k.prod (unissued (ofCq c) s + 1) k.logSize
    ownRead (cqChan c) k.func (k.base + 32 * p) (.cqArm c p) (setCq c { k with armPending := false } s)
  else s

/-- A doorbell on a completion queue's handle: credit scan, and arming where it is bound to a Sillage queue (R270,
R275). -/
def cqDoorbell (c : Nat) (s : State) : State :=
  let s1 := cqScanStart c s
  let k := getCq c s1
  if k.silValid then cqArmRead c (setCq c { k with armPending := true } s1) else s1

/-! ## Places and episodes (R272, R273) -/

/-- Start a backlog episode, if none runs (R273). -/
def episodeStart (c status : Nat) (s : State) : State :=
  let k := getCq c s
  if k.episode then s
  else
    let n := (k.episodes + 1) % 65536
    setCq c { k with episode := true, episodes := n } s
      |> bump (cWq 7)
      |> setFlag (loc .WQ_EVENT) F.WQ_EVENT_CQ_FULL
      |> cqRecord c status 0x04 c n none

/-- Reserve a place on completion queue `c` (R272). Answers whether the reservation succeeded and whether it took a
pool entry; a failure starts an episode (R273). A queue that is not ACTIVE gives no place and starts no episode.
(DEDUCED: log entry 56.) -/
def reservePlace (c : Nat) (s : State) : Bool × Bool × State :=
  let k := getCq c s
  if k.state ≠ .active then (false, false, s)
  else
    let sum := k.backlog.length + k.reserved
    if sum < k.credit then (true, false, setCq c { k with reserved := k.reserved + 1 } s)
    else if k.credit + 64 ≤ sum then (false, false, episodeStart c St.ok s)
    else if (k.rsv && decide (k.pool < 64)) || decide (0 < poolFree s) then
      (true, true, setCq c { k with reserved := k.reserved + 1, pool := k.pool + 1 } s)
    else
      (false, false, setFlag (loc .WQ_EVENT) F.WQ_EVENT_POOL_EMPTY s |> episodeStart c St.backlogExhausted)

/-- Give a reserved place back. (DEDUCED: log entry 56.) -/
def freePlace (c : Nat) (fromPool : Bool) (s : State) : State :=
  let k := getCq c s
  setCq c { k with reserved := k.reserved - 1, pool := k.pool - b2n fromPool } s

/-! ## Completions (R265, R266) -/

/-- The 32 bytes of a completion entry, DEV_OWNS = 0. -/
structure Cpl where
  status : Nat := 0
  rx : Bool := false
  tsValid : Bool := false
  trunc : Bool := false
  marked : Bool := false
  fcsKept : Bool := false
  handle : Nat := 0
  entry : Nat := 0
  len : Nat := 0
  user : Nat := 0
  ts : Nat × Nat × Nat := (0, 0, 0)
  hash : Nat := 0
  port : Nat := 0
  csum0 : Nat := 0
  csum1 : Nat := 0
  prio : Nat := 0
  deriving DecidableEq, Repr

/-- Layout of a completion entry (spec/09). -/
def Cpl.bytes (c : Cpl) : Bytes :=
  bytesLE 1 c.status ++
    bytesLE 1 (b2n c.rx + 2 * b2n c.tsValid + 4 * b2n c.trunc + 8 * b2n c.marked + 16 * b2n c.fcsKept) ++
    bytesLE 2 c.handle ++ bytesLE 2 c.entry ++ bytesLE 2 c.len ++ bytesLE 8 c.user ++
    bytesLE 4 c.ts.2.1 ++ bytesLE 4 c.ts.1 ++ bytesLE 4 c.hash ++ bytesLE 1 c.ts.2.2 ++ bytesLE 1 c.port ++
    bytesLE 1 (c.csum0 + 4 * c.csum1 + 16 * c.prio) ++ bytesLE 1 0

/-- Write backlog completions from the head into credited slots (R272): the completion write of R266, and the pool entry
returned. Where the queue is armed, `settle` makes the COMPLETION record at the write's issue (R275). -/
def drainBacklog (c : Nat) : Nat → State → State
  | 0, s => s
  | n + 1, s =>
    let k := getCq c s
    match k.backlog with
    | [] => s
    | (x, b) :: rest =>
      if k.credit = 0 ∨ k.state ≠ .active then s
      else
        let fp := match getX x s with | some e => e.fromPool | none => false
        let s1 := setCq c { k with
            backlog := rest, credit := k.credit - 1, prod := (k.prod + 1) % 2 ^ k.logSize,
            pool := k.pool - b2n fp } s
        let s2 := match getX x s1 with
          | some e => setX { e with phase := .completing } s1
          | none => s1
        let s3 := access
          { chan := cqChan c, func := k.func, iova := k.base + 32 * k.prod, len := 32, write := true, data := b,
            purpose := .completion c x, split := true } s2
        drainBacklog c n (if k.credit = 32 then cqScanStart c s3 else s3)

/-- Write what the credit allows. -/
def drainCq (c : Nat) (s : State) : State := drainBacklog c 64 s

/-- Fence `f` is still outstanding. (DEDUCED: log entry 57.) -/
def fenceOpen (f : Option Nat) (s : State) : Bool :=
  match f with
  | some n => s.wq.fences.any (fun g => g.id == n)
  | none => false

/-- Create the completions of queue `q` that may be created, in entry order (R266): each waits for the earlier
entries' completions and for its own fence (R277). -/
def createCompletions (q : Nat) : Nat → State → State
  | 0, s => s
  | n + 1, s =>
    match s.wq.execs.find? (fun e => e.sq == q &&
        (e.phase == .accepted || e.phase == .table || e.phase == .data)) with
    | none => s
    | some e =>
      match e.cpl with
      | none => s
      | some b =>
        if fenceOpen e.fence s || !e.placed || e.out != 0 || (getCq (getSq q s).cq s).state == .stopped then s
        else
          let c := (getSq q s).cq
          let k := getCq c s
          let o := newOut s
          let s1 := setX { e with phase := .done, oid := o.1 } o.2
          let s2 := setCq c { k with backlog := k.backlog ++ [(e.id, b)], reserved := k.reserved - 1 } s1
          createCompletions q n (drainCq c s2)

/-- Create what can be created of a queue's completions. -/
def completeSq (q : Nat) (s : State) : State := createCompletions q s.wq.execs.length s

/-- An execution reaches its outcome: its completion bytes are known. -/
def finishExec (x : Nat) (b : Bytes) (s : State) : State :=
  match getX x s with
  | some e => if e.cpl.isSome then s else completeSq e.sq (setX { e with cpl := some b, parked := false } s)
  | none => s

/-- The port of a transmit queue's tree is found by the scheduler; a completion of a malformed entry carries it. -/
def sqPort (q : Nat) (s : State) : Nat :=
  let sub := sget [] s.sc.nodes (2 ^ 20 + (getSq q s).parent)
  let svc := sget [] s.sc.nodes (2 * 2 ^ 20 + u sub 2 2 % 512)
  u svc 2 2 % 64

/-- Finish an execution that moved no frame (R261, R65, R277, R281): STATUS, KIND, HANDLE, ENTRY, PORT, and USER of a
transmit entry; LEN of a transmit entry that is not malformed. -/
def failExec (x status : Nat) (s : State) : State :=
  match getX x s with
  | some e =>
    let k := getSq e.sq s
    finishExec x (Cpl.bytes
      { status := status, rx := k.rx, handle := k.handle, entry := e.pos,
        len := if k.rx || (decide (1 ≤ status) && decide (status ≤ 6)) then 0 else u e.raw 4 2,
        user := if k.rx then 0 else u e.raw 8 8, port := if k.rx then 0 else sqPort e.sq s }) s
  | none => s

/-! ## Checks of entries (R260, R261) -/

/-- Fragment pairs of a table or of inline bytes: address, length, flags. -/
def parsePairs : Nat → Bytes → List (Nat × Nat × Nat)
  | 0, _ => []
  | n + 1, b => (u b 0 8, u b 8 4, u b 12 4) :: parsePairs n (b.drop 16)

/-- A pair meets R260. -/
def pairOk (p : Nat × Nat × Nat) : Bool := decide (1 ≤ p.2.1) && decide (p.2.1 ≤ 16352) && p.2.2 == 0

/-- The INDIRECT bit of an entry. -/
def entryIndirect (b : Bytes) : Bool := bit (u b 1 1) 1

/-- Reserved bytes of an entry from `lo` to `hi` (excluded) are all 0. -/
def zeroed (b : Bytes) (lo hi : Nat) : Bool := ((b.drop lo).take (hi - lo)).all (· == 0)

/-- Reserved fields of a transmit or receive entry, those of TX_OPT among them, and the reserved value TS_MODE 3 (R261
check 2). -/
def entryReserved (rx : Bool) (b : Bytes) : Bool :=
  let ind := entryIndirect b
  let nf := u b 6 2
  let common := decide (nf < 512) && (if ind then zeroed b 24 48 else nf == 2 || zeroed b 32 48) &&
    zeroed b 56 63 && u b 63 1 % 128 == 0
  if rx then common && decide (u b 1 1 < 4) && zeroed b 2 6 && zeroed b 8 16 && zeroed b 48 56
  else common && decide (u b 1 1 < 16) && bits (u b 1 1) 3 2 != 3 && decide (u b 2 1 < 8) && u b 3 1 == 0 &&
    decide (u b 4 2 < 2 ^ 14) && decide (u b 48 1 < 2) && decide (u b 50 2 < 512) && zeroed b 52 56

/-- Sum of fragment lengths. -/
def fragTotal (fr : List (Nat × Nat)) : Nat := fr.foldl (fun a p => a + p.2) 0

/-- Length check of an entry with fragments `fr` (R261 check 4). -/
def entryLength (rx : Bool) (b : Bytes) (fr : List (Nat × Nat)) : Bool :=
  if rx then decide (64 ≤ fragTotal fr)
  else if u b 0 1 = 0x02 then u b 4 2 == 0 && u b 6 2 == 0
  else decide (14 ≤ u b 4 2) && decide (u b 4 2 ≤ 16348) && u b 4 2 == fragTotal fr

/-- Checks made when an entry is accepted (R261): the status of the first that fails, and the inline fragments. NFRAG of a
TX_NOP falls under check 4, which names it. (DEDUCED: log entry 54.) -/
def checkEntry (rx : Bool) (b : Bytes) : Nat × List (Nat × Nat) :=
  let op := u b 0 1
  let nf := u b 6 2
  if ¬ (if rx then op = 0x10 else op = 0x01 ∨ op = 0x02) then (St.badOpcode, [])
  else if entryReserved rx b = false then (St.reservedNonzero, [])
  else if op = 0x02 then (if u b 4 2 = 0 ∧ nf = 0 then St.ok else St.badLength, [])
  else if entryIndirect b then
    let ta := u b 16 8
    if 1 ≤ nf ∧ nf ≤ 256 ∧ ta % 16 = 0 ∧ ta % 4096 + 16 * nf ≤ 4096 then (St.ok, []) else (St.badFragTable, [])
  else if nf = 1 ∨ nf = 2 then
    let ps := parsePairs nf (b.drop 16)
    let fr := ps.map (fun p => (p.1, p.2.1))
    if ps.all pairOk = false then (St.badFragTable, [])
    else if entryLength rx b fr = false then (St.badLength, [])
    else (St.ok, fr)
  else (St.badFragTable, [])

/-! ## Fences (R16, R277) -/

/-- Take a fence covering every output created so far; answers its number. -/
def takeFence (cmd : Option (Nat × Nat)) (s : State) : Nat × State :=
  let n := s.wq.nextFence
  (n, { s with wq := { s.wq with
    nextFence := n + 1, fences := s.wq.fences ++ [{ id := n, upto := s.wq.nextOut, cmd := cmd }] } })

/-! ## Queue errors (R280) -/

/-- QUEUE_ERROR record of a submission queue, to its completion queue's Sillage queue (R276). -/
def sqErrorRecord (q status : Nat) (s : State) : State :=
  let k := getSq q s
  setFlag (loc .WQ_EVENT) F.WQ_EVENT_QUEUE_ERROR s
    |> cqRecord k.cq status 0x05 q k.func (some k.func)

/-- The access reads an entry in the scan of queue `q`. -/
def ofScan (q : Nat) (p : Purpose) : Bool :=
  match p with
  | .sqEntry r _ => r == q
  | _ => false

/-- The access reads a slot of completion queue `c`, in its credit scan or for arming. -/
def ofCqRead (c : Nat) (p : Purpose) : Bool :=
  match p with
  | .cqScan r _ => r == c
  | .cqArm r _ => r == c
  | _ => false

/-- A submission queue enters STOPPED (R280): its scan ends and nothing more is accepted. (DEDUCED: log entry 59.) -/
def sqStop (q status : Nat) (s : State) : State :=
  let k := getSq q s
  if k.state = .active then
    setSq q { k with state := .stopped, err := status, scanning := false, rescan := false, stopRoom := false } s
      |> endReqs (ofScan q)
      |> sqErrorRecord q status
  else s

/-- A completion queue enters STOPPED, and with it every submission queue bound to it (R280): what it has not issued is
never written. -/
def cqStop (c status : Nat) (s : State) : State :=
  let k := getCq c s
  if k.state = .active then
    let s1 := setCq c { k with state := .stopped, err := status, scan := false, rescan := false, armed := false,
                               armPending := false, outWrites := 0 } s
      |> endReqs (fun p => ofCqRead c p || ofCq c p)
      |> setFlag (loc .WQ_EVENT) F.WQ_EVENT_QUEUE_ERROR
      |> cqRecord c status 0x05 c (2 ^ 31 + k.func) (some k.func)
    forEach (s1.wq.sqs.map (·.1)) (fun q t => if (getSq q t).cq = c then sqStop q status t else t) s1
  else s

/-! ## Scans (R267 to R269) -/

/-- PREFETCH (WQ_CFG). -/
def prefetch (s : State) : Nat := fg (loc .WQ_CFG) F.WQ_CFG_PREFETCH s

/-- Entries of a queue held in its cache: accepted and not yet started, as the backlog example of spec/09 needs and R350
says of a transmit queue. (DEDUCED: log entry 54.) -/
def cached (q : Nat) (s : State) : Nat :=
  (s.wq.execs.filter (fun e => e.sq == q && e.phase == .accepted && e.cpl.isNone && e.frame.isNone)).length

/-- A packet channel starts no new entry while the block enters a power state (R340, R437): no transmit entry is accepted.
Posts are, since frames in the packet buffer wait for them (R437 phase 2). (DEDUCED: log entry 76.) -/
def scanHeld (k : Sq) (s : State) : Bool := !k.rx && packetsHeld s

/-- Read the entry at the queue's position, if the cache has room (R267). (DEDUCED: log entry 54.) -/
def sqScanNext (q : Nat) (s : State) : State :=
  let k := getSq q s
  if k.state ≠ .active then s
  else if scanHeld k s then setSq q { k with scanning := false, rescan := true } s
  else if prefetch s ≤ cached q s then setSq q { k with scanning := false, stopRoom := true } s
  else
    let s1 := if k.refetch then bump (cWq 3) s else s
    setSq q { k with scanning := true, stopRoom := false, refetch := false } s1
      |> ownRead (cqChan k.cq) k.func (k.base + 64 * k.pos) (.sqEntry q k.pos)

/-- A doorbell, or a continuation, requests a scan; a request during a scan causes one further scan (R61). (DEDUCED: log
entry 54.) -/
def sqScanStart (q : Nat) (s : State) : State :=
  let k := getSq q s
  if k.state ≠ .active then s
  else if k.scanning then setSq q { k with rescan := true } s
  else sqScanNext q s

/-- The scan ends at an entry that was not accepted; a doorbell that arrived meanwhile causes one further scan.
(DEDUCED: log entry 54.) -/
def sqScanEnd (q : Nat) (s : State) : State :=
  let k := getSq q s
  let s1 := duScanned q (setSq q { k with scanning := false, rescan := false } s)
  if k.rescan then sqScanStart q s1 else s1

/-- The scans that waited for the block to leave a power state go on. -/
def scansResume (s : State) : State :=
  forEach ((s.wq.sqs.filter (fun p => p.2.rescan && !p.2.scanning)).map (·.1))
    (fun q t => sqScanStart q (setSq q { getSq q t with rescan := false } t)) s

/-- A fresh execution of entry bytes `b` at position `pos`. -/
def newExec (q pos : Nat) (b : Bytes) (fr : List (Nat × Nat)) (placed fromPool : Bool) (fence : Option Nat)
    (s : State) : Exec :=
  { id := s.wq.nextExec, sq := q, pos := pos, raw := b, frags := fr, phase := .accepted, frame := none,
    issued := 0, moved := 0, pieces := [], tbl := [], out := 0, parked := false, err := 0, cpl := none,
    fromPool := fromPool, placed := placed, oid := 0, fence := fence, abort := false }

/-- Add an execution. -/
def addExec (e : Exec) (s : State) : State :=
  { s with wq := { s.wq with nextExec := s.wq.nextExec + 1, execs := s.wq.execs ++ [e] } }

/-- Accept an owned entry (R261, R267, R269, R272, R277): a place is reserved for a transmit entry and for a malformed
receive entry; a receive post's frame reserves its own (the backlog example of spec/09). A transmit queue accepts nothing
while an episode of its completion queue runs (R273). A malformed entry completes at once, and so does a TX_NOP, which
moves nothing; either takes its fence first (R277). Answers whether the entry was accepted. (DEDUCED: log entry 56.) -/
def acceptEntry (q : Nat) (b : Bytes) (s : State) : Bool × State :=
  let k := getSq q s
  let chk := checkEntry k.rx b
  let need := !k.rx || chk.1 != St.ok
  let r := if !k.rx && (getCq k.cq s).episode then (false, false, s)
    else if need then reservePlace k.cq s else (true, false, s)
  if r.1 = false then (false, r.2.2)
  else
    let s1 := r.2.2
    let k1 := getSq q s1
    let fs := if bit (u b 1 1) 0 then (let f := takeFence none s1; (some f.1, f.2)) else (none, s1)
    let e := newExec q k.pos b chk.2 need r.2.1 fs.1 fs.2
    let s2 := duReplayed q <| addExec e (setSq q { k1 with pos := (k.pos + 1) % 2 ^ k.logSize } fs.2)
    (true, if chk.1 = St.ok ∧ (k.rx = true ∨ u b 0 1 ≠ 0x02) then s2 else failExec e.id chk.1 s2)

/-- DEV_OWNS of the structure of `n` bytes at byte `off` of a granule (R12), in a read that agreed with its second
read where there was one (R70). -/
def owned (b : Bytes) (off n : Nat) (agree : Bool) : Bool := agree && bit (u b (off + n - 1) 1) 7

/-! ## Doorbells (R60, R438) -/

/-- The queue that a function's handle names: `inl` a submission queue, `inr` a completion queue that exists (R257). -/
def handleQueue (f h : Nat) (s : State) : Option (Sum Nat Nat) :=
  match s.wq.sqs.find? (fun p => p.2.state != .none && p.2.func == f && p.2.handle == h) with
  | some p => some (.inl p.1)
  | none =>
    match s.wq.cqs.find? (fun p => cqExists p.1 s && p.2.func == f && p.2.handle == h) with
    | some p => some (.inr p.1)
    | none => none

/-- Drop and count a doorbell, and report the violation (R60, R391). -/
def doorbellDrop (f addr status : Nat) (s : State) : State :=
  let s1 := bump (cWq 1) s |> setFlag (loc .WQ_EVENT) F.WQ_EVENT_DB_VIOLATION
  let r := sget 0 s.ev.routes 0xD0
  if bit r 31 then report (r % 1024) status 0x07 f (addr * 8) 0 (some f) s1 else s1

/-- What a doorbell asks of its queue (R267, R270, R280). -/
def ringQueue (f h : Nat) (s : State) : State :=
  match handleQueue f h s with
  | some (.inl q) =>
    let k := getSq q s
    if k.state = .resetting ∨ k.state = .destroying then bump (cWq 1) s else sqScanStart q s
  | some (.inr c) => if (getCq c s).state = .destroying then bump (cWq 1) s else cqDoorbell c s
  | none => s

/-- A doorbell for function `f` with bits 23:3 of its address (R60): a window mismatch or an unknown handle drops it.
While the queue-context island is down an accepted one is recorded and may wake the block (R438, R439), and one to be dropped
waits at the crossing (R21); a STANDBY block records it (R486). -/
def doorbellFrom (f addr : Nat) (s : State) : State :=
  let w := addr / 512 % 4096
  let h := addr % 512
  let s1 := bump (cWq 0) s
  if w ≠ f then
    crossing (islRun 4 s) (.doorbell f addr) (fun s => doorbellDrop f addr St.accessDenied (bump (cWq 0) s)) s
  else
    if islRun 4 s = false ∨ duRole s = 2 then
      let bs := if s1.pw.bells.contains (f, h) then s1.pw.bells else s1.pw.bells ++ [(f, h)]
      { s1 with pw := { s1.pw with bells := bs } }
    else match handleQueue f h s1 with
      | none => doorbellDrop f addr St.badHandle s1
      | some _ => ringQueue f h s1

/-! ## Abort sequence (R281) -/

/-- Read the next entry of the final scan: at most 2^LOG_SIZE entries from the position (R281). (DEDUCED: log entry
58.) -/
def finalScanNext (q pos : Nat) (s : State) : State :=
  let k := getSq q s
  ownRead (cqChan k.cq) k.func (k.base + 64 * pos) (.sqFinal q pos) s

/-- The frame of an execution is being sent, or awaits its continuation, on a MAC. -/
def onMac (f : Nat) (s : State) : Bool :=
  s.dp.tx.any (fun p =>
    (match p.2.cur with | some c => c.frame == f | none => false) ||
    (match p.2.opened with | some c => c.frame == f | none => false))

/-- An entry that the abort sequence cancels (R281): its frame has not started on the MAC, or its received frame has
not started delivery, or it is parked. -/
def abortable (e : Exec) (s : State) : Bool :=
  e.cpl.isNone && (e.parked || (match e.frame with
    | none => true
    | some f => !(getSq e.sq s).rx && !onMac f s))

/-- Withdraw the accesses of an execution that are not issued. -/
def cancelExec (x : Nat) (s : State) : State :=
  let mine (p : Purpose) : Bool := match p with
    | .sqTable y _ => y == x
    | .txData y _ => y == x
    | .rxData y _ => y == x
    | _ => false
  let s1 := cancelReqs mine s
  let n := (s1.host.reqs.filter (fun r => mine r.purpose)).length
  match getX x s1 with
  | some e => setX { e with out := n } s1
  | none => s1

/-- Drop the verdict and the data of a frame whose entry no longer needs it. -/
def killFrame (f : Nat) (s : State) : State :=
  { s with dp := { s.dp with frames := s.dp.frames.map (fun g => if g.id = f then { g with dead := true } else g) } }

/-- Outputs of executions that are never written: created, and not issued. -/
def neverWritten (f : Exec → Bool) (s : State) : List Nat :=
  (s.wq.execs.filter (fun e => f e && (e.phase == .done || e.phase == .completing) && !pendingOut e.oid s)).map (·.oid)

/-- Forget the executions of a queue whose completion queue is STOPPED: nothing more is written for them (R281). -/
def dropExecs (q : Nat) (s : State) : State :=
  let s1 := endReqs (fun p => match p with
    | .release x => (getX x s).any (fun e => e.sq == q)
    | _ => false) s
  forEach (neverWritten (fun e => e.sq == q) s1) endOut
    { s1 with wq := { s1.wq with execs := s1.wq.execs.filter (fun e => e.sq != q) } }

/-- Start the abort sequence of a queue for an admin command (R281): no more entries are accepted, a parked entry is
cancelled, and every cached entry that has not started completes with ABORTED in queue order. If the completion queue
is STOPPED, nothing is written and the entries are dropped. (DEDUCED: log entry 58.) -/
def abortStart (q : Nat) (st : QState) (cmd : Nat × Nat) (s : State) : State :=
  let k := getSq q s
  let s1 := setSq q { k with state := st, scanning := false, rescan := false, stopRoom := false, cmd := cmd,
                             finalDone := false } s
    |> endReqs (ofScan q)
  if (getCq k.cq s).state ≠ .active then
    dropExecs q (setSq q { getSq q s1 with finalDone := true } s1)
  else
    let xs := (s1.wq.execs.filter (fun e => e.sq == q && abortable e s1)).map (·.id)
    let s2 := forEach xs (fun x t =>
      match getX x t with
      | some e =>
        let r := if e.placed then (true, e.fromPool, t) else reservePlace k.cq t
        let t1 := cancelExec x (setX { e with abort := true, placed := r.1, fromPool := r.2.1 } r.2.2)
        failExec x St.aborted (match e.frame with | some f => killFrame f t1 | none => t1)
      | none => t) s1
    finalScanNext q k.pos s2

/-! ## Context views (WQ_CTX_SEL) -/

/-- Code of a queue state (WQ_CTX0 STATE). -/
def QState.code : QState → Nat
  | .none => 0
  | .active => 1
  | .resetting => 2
  | .stopped => 3
  | .destroying => 4

/-- The four words of a submission queue's context view. -/
def sqView (q : Nat) (s : State) : List Nat :=
  let k := getSq q s
  let xs := s.wq.execs.filter (fun e => e.sq == q)
  [k.state.code * 2 ^ 29 + b2n k.rx * 2 ^ 28 + k.logSize * 2 ^ 23 + k.func * 2 ^ 9 + k.handle,
   k.pos * 2 ^ 16 + k.cq,
   cached q s % 16 * 2 ^ 28 + b2n (xs.any (·.parked)) * 2 ^ 27 +
     b2n (xs.any (fun e => e.cpl.isSome && fenceOpen e.fence s)) * 2 ^ 26 + k.hold * 2 ^ 10 + b2n k.snoop * 2 ^ 9,
   k.err]

/-- The four words of a completion queue's context view. -/
def cqView (c : Nat) (s : State) : List Nat :=
  let k := getCq c s
  [k.state.code * 2 ^ 29 + b2n k.episode * 2 ^ 28 + k.logSize * 2 ^ 23 + b2n k.armed * 2 ^ 22 + b2n k.rsv * 2 ^ 21 +
     k.func * 2 ^ 9 + k.handle,
   k.prod * 2 ^ 16 + k.credit,
   k.backlog.length * 2 ^ 16 + b2n k.silValid * 2 ^ 10 + k.sillage,
   k.episodes * 2 ^ 16 + k.err]

end Sys2Proof.Machine
end

