-- ==== Sys2Proof/Machine/SchedTree.lean ====
section
/-!
DEFINITION. The scheduling tree (R344 to R347): node records, the head of a leaf (R350), and the deficits of its nodes,
which end when a node becomes empty (R351).
-/

namespace Sys2Proof.Machine

/-! ## Node records (R344, R347) -/

/-- Code of a node: level 0 leaf, 1 subscriber, 2 service, 3 port. -/
def nodeCode (level n : Nat) : Nat := level * 2 ^ 20 + n
def nodeLevel (c : Nat) : Nat := c / 2 ^ 20
def nodeNum (c : Nat) : Nat := c % 2 ^ 20

/-- Numbers of nodes per level (R344). -/
def levelCount (level : Nat) : Nat :=
  match level with
  | 0 => 32768
  | 1 => 4096
  | 2 => 512
  | _ => 64

/-- Record of a node. -/
def nodeRec (c : Nat) (s : State) : Bytes := sget [] s.sc.nodes c

def recValid (b : Bytes) : Bool := bit (u b 0 1) 0
def recCen (b : Bytes) : Bool := bit (u b 0 1) 1
def recPen (b : Bytes) : Bool := bit (u b 0 1) 2
def recFwd (b : Bytes) : Bool := bit (u b 0 1) 3
def recBand (b : Bytes) : Nat := u b 1 1 % 8
def recQuantum (b : Bytes) : Nat := u b 4 2 % 1024
def recPfc (b : Bytes) : Nat := u b 6 1
def recDepth (b : Bytes) : Nat := u b 6 2 % 1024
def recCir (b : Bytes) : Nat := u b 8 3
def recCbs (b : Bytes) : Nat := u b 12 3
def recPir (b : Bytes) : Nat := u b 16 3
def recPbs (b : Bytes) : Nat := u b 20 3

/-- Parent of a node with record `b` at a level. -/
def recParent (level : Nat) (b : Bytes) : Nat :=
  nodeCode (level + 1) (u b 2 2 % (match level with
    | 0 => 4096
    | 1 => 512
    | _ => 64))

def nodeValid (c : Nat) (s : State) : Bool := recValid (nodeRec c s)
def nodeParent (c : Nat) (s : State) : Nat := recParent (nodeLevel c) (nodeRec c s)

/-- QUANTUM of a node in bytes (R351). -/
def quantumBytes (c : Nat) (s : State) : Nat :=
  let q := recQuantum (nodeRec c s)
  64 * (if q = 0 then 1 + Config.leafQuantum (nodeNum c) % 1023 else q)

/-- VALID children of a node, in number order. -/
def children (c : Nat) (s : State) : List Nat :=
  (s.sc.nodes.filter (fun p => nodeLevel p.1 + 1 == nodeLevel c && recValid p.2 &&
    recParent (nodeLevel p.1) p.2 == c)).map (·.1)

/-- The path of a leaf: leaf, subscriber, service, port. -/
def leafPath (l : Nat) (s : State) : List Nat :=
  let c0 := nodeCode 0 l
  let c1 := nodeParent c0 s
  let c2 := nodeParent c1 s
  [c0, c1, c2, nodeParent c2 s]

/-! ## Heads (R350) -/

/-- A frame of the store. -/
def getF (f : Nat) (s : State) : Option Frame := s.dp.frames.find? (fun g => g.id == f)

/-- What a leaf holds to be selected: the lowest-position accepted entry not yet selected, or the first frame of its FIFO; a
frame under FCS_POLICY 1 (R163) once it has ended. A queue with a parked entry starts no later entry (R278, R371). (DESIGN
CHOICE: log entry 69.) -/
def leafHolds (l : Nat) (s : State) : Option TxItem :=
  if recFwd (nodeRec (nodeCode 0 l) s) then
    match sget [] s.sc.fifo l with
    | f :: _ => match getF f s with
      | some g => if g.ended || !g.store then some (.frame f) else none
      | none => none
    | [] => none
  else if (getSq l s).rx then none
  else
    let es := s.wq.execs.filter (fun e => e.sq == l)
    if es.any (·.parked) then none
    else (es.find? (fun e => e.phase == .accepted && e.cpl.isNone && e.frame.isNone)).map (fun e => .exec e.id)

/-- The head of a leaf; a queue whose channel moves to another host memory port starts no entry (R479). -/
def leafHead (l : Nat) (s : State) : Option TxItem :=
  if s.sv.hmpChan == some (cqChan (getSq l s).cq) && !recFwd (nodeRec (nodeCode 0 l) s) then none else leafHolds l s

/-- A node holds a head somewhere below it. -/
def nodeFull (c : Nat) (s : State) : Bool :=
  match nodeLevel c with
  | 0 => (leafHolds (nodeNum c) s).isSome
  | 1 => (children c s).any (fun l => (leafHolds (nodeNum l) s).isSome)
  | 2 => (children c s).any (fun b => (children b s).any (fun l => (leafHolds (nodeNum l) s).isSome))
  | _ => false

/-! ## Deficits (R351) -/

def deficitOf (c pass : Nat) (s : State) : Nat := sget 0 s.sc.deficit (2 * c + pass)
def setDeficit (c pass v : Nat) (s : State) : State :=
  { s with sc := { s.sc with deficit := sput 0 s.sc.deficit (2 * c + pass) v } }

/-- A child that has become empty, or that changes parent or band, has deficit 0 (R348, R351). -/
def clearDeficit (c : Nat) (s : State) : State := setDeficit c 0 0 (setDeficit c 1 0 s)

/-- A child's deficits go to 0 when it becomes empty, whatever emptied it (R351). -/
def emptyDeficits (s : State) : State :=
  { s with sc := { s.sc with deficit := s.sc.deficit.filter (fun d => nodeFull (d.1 / 2) s) } }

end Sys2Proof.Machine
end

