-- ==== Sys2Proof/Machine/AdminOps.lean ====
section
/-!
DEFINITION. The rings of the admin pairs (R283 to R296): scans, acceptance, completions, releases and the stop of a
pair; and `settle`, which ends every command. What each command does is in Admin.lean; every file whose operations end a
long command uses `finishCmd`.
-/

namespace Sys2Proof.Machine

/-- STATE of an admin pair: 0 OFF, 1 ACTIVE, 2 STOPPED, 3 DRAINING (WQ_ADM_CFG). -/
def admState (p : Nat) (s : State) : Nat := fg (loc .WQ_ADM_CFG (p - 1)) F.WQ_ADM_CFG_STATE s
def setAdmState (p v : Nat) (s : State) : State := fs (loc .WQ_ADM_CFG (p - 1)) F.WQ_ADM_CFG_STATE v s
def admFunc (p : Nat) (s : State) : Nat := fg (loc .WQ_ADM_CFG (p - 1)) F.WQ_ADM_CFG_FUNC s
def admSqLog (p : Nat) (s : State) : Nat := fg (loc .WQ_ADM_CFG (p - 1)) F.WQ_ADM_CFG_SQ_LOG s
def admCqLog (p : Nat) (s : State) : Nat := fg (loc .WQ_ADM_CFG (p - 1)) F.WQ_ADM_CFG_CQ_LOG s
def admSqBase (p : Nat) (s : State) : Nat := rd64 (loc .WQ_ADM_SQ_BASE (p - 1)) s
def admCqBase (p : Nat) (s : State) : Nat := rd64 (loc .WQ_ADM_CQ_BASE (p - 1)) s

/-- Command `k` of a pair. -/
def getCmd (p k : Nat) (s : State) : Option Cmd := (getPair p s).cmds.find? (fun c => c.id == k)

/-- Replace a command. -/
def setCmd (p : Nat) (c : Cmd) (s : State) : State :=
  let pr := getPair p s
  setPair p { pr with cmds := pr.cmds.map (fun d => if d.id = c.id then c else d) } s

/-- Remove a command: it is no longer in flight. -/
def dropCmd (p k : Nat) (s : State) : State :=
  let pr := getPair p s
  setPair p { pr with cmds := pr.cmds.filter (fun d => d.id != k) } s

/-- The entry of a command, as a journal record carries it. -/
def Cmd.entry (c : Cmd) : AdmEntry := { pos := c.pos, raw := BitVec.ofNat 512 (Bytes.toNat c.raw) }

/-- A command in flight: it has not completed. -/
def Cmd.inFlight (c : Cmd) : Bool := c.phase != .releasing

/-! ## Records of a pair (R275, R286) -/

/-- A record about admin pair `p`, to the Sillage queue bound to its completion ring. -/
def admRecord (p status kind info : Nat) (s : State) : State :=
  let k := getPair p s
  if rebinding (admWho p) s then deferReport (admWho p) status kind (2 ^ 15 + p) info none s
  else if k.silValid then report k.sillage status kind (2 ^ 15 + p) info (admWho p) none s
  else s

/-! ## Credit scans and arming of the admin completion ring (R271, R275, R286) -/

/-- Read the slot after the credited ones. -/
def admCqScanRead (p : Nat) (s : State) : State :=
  let k := getPair p s
  let i := (k.cqProd + k.credit) % 2 ^ admCqLog p s
  ownRead (admChan p) (admFunc p s) (admCqBase p s + 32 * i) (.admScan p i) s

/-- Start a credit scan of the admin completion ring. -/
def admCqScanStart (p : Nat) (s : State) : State :=
  let k := getPair p s
  if admState p s ≠ 1 ∧ admState p s ≠ 3 then s
  else if k.cqScan then setPair p { k with cqRescan := true } s
  else if creditMax (admCqLog p s) ≤ k.credit then s
  else admCqScanRead p (setPair p { k with cqScan := true } s)

/-- The access writes a completion of pair `p`. -/
def ofAdm (p : Nat) (q : Purpose) : Bool :=
  match q with
  | .admCompl r _ => r == p
  | _ => false

/-- The COMPLETION record of an armed ring, which disarms it, with the producer position `n` back from that of the last
completion written. -/
def admCplRecord (p n : Nat) (s : State) : State :=
  let k := getPair p s
  setPair p { k with armed := false } s |> admRecord p 0 0x03 (ringBack k.cqProd (unissued (ofAdm p) s + n) (admCqLog p s))

/-- Once every completion write issued has its response, a pending arm reads the slot before the producer: before the first
one that is not issued. -/
def admArmRead (p : Nat) (s : State) : State :=
  let k := getPair p s
  if admState p s = 1 ∧ k.armPending = true ∧ k.outWrites = 0 then
    let i := ringBack k.cqProd (unissued (ofAdm p) s + 1) (admCqLog p s)
    ownRead (admChan p) (admFunc p s) (admCqBase p s + 32 * i) (.admArm p i)
      (setPair p { k with armPending := false } s)
  else s

/-! ## Completions (R290) -/

/-- The 32 bytes of an admin completion. -/
def Cmd.cplBytes (c : Cmd) : Bytes :=
  bytesLE 1 c.status ++ bytesLE 1 c.opcode ++ bytesLE 2 c.pos ++ bytesLE 4 c.tag ++ bytesLE 8 c.result0 ++
    bytesLE 8 c.result1 ++ bytesLE 8 0

/-- The pair is in STOPPED, or drains after it has been. -/
def admSilent (p : Nat) (s : State) : Bool :=
  admState p s == 2 || (getPair p s).silent

/-- Write the completion of a finished command (R290). A pair that has stopped writes nothing (R295, R296). -/
def writeCmdCpl (p k : Nat) (s : State) : State :=
  match getCmd p k s with
  | none => s
  | some c =>
    if admSilent p s then endOut c.oid (dropCmd p k s)
    else
      let pr := getPair p s
      let s1 := setPair p { pr with
          cqProd := (pr.cqProd + 1) % 2 ^ admCqLog p s, credit := pr.credit - 1 } s
        |> setCmd p { c with phase := .writing }
        |> access { chan := admChan p, func := admFunc p s, iova := admCqBase p s + 32 * pr.cqProd, len := 32,
                    write := true, data := c.cplBytes, purpose := .admCompl p k, split := true }
      if pr.credit = 32 then admCqScanStart p s1 else s1

/-- Commands of kind I (R288, R297). -/
def immediate (op : Nat) : Bool :=
  [0x01, 0x02, 0x04, 0x06, 0x07, 0x08, 0x09, 0x0A, 0x0B, 0x0C, 0x0F, 0x10, 0x11, 0x12, 0x14, 0x20, 0x40, 0x42, 0x43].contains op

/-- The finished command whose completion is written next: outputs are numbered in the order commands finish (R290). -/
def nextFinished : List Cmd → Option Cmd
  | [] => none
  | c :: cs =>
    match nextFinished cs with
    | none => if c.phase = .finished then some c else none
    | some d => if c.phase = .finished ∧ c.oid < d.oid then some c else some d

/-- Write the completions of the finished commands of a pair, in the order they finished (R290). -/
def writeFinished (p : Nat) : Nat → State → State
  | 0, s => s
  | n + 1, s =>
    match nextFinished (getPair p s).cmds with
    | none => s
    | some c => writeFinished p n (writeCmdCpl p c.id s)

/-- Write them all. -/
def flushFinished (p : Nat) (s : State) : State := writeFinished p (getPair p s).cmds.length s

/-- A command finishes (R288). The completion of an immediate command is written at once; that of a long one is written by
ADMIN_LONG_COMPLETE, or before it when a later completion must follow it (R290). -/
def finishCmd (p k status r0 r1 : Nat) (s : State) : State :=
  match getCmd p k s with
  | none => s
  | some c =>
    if c.phase ≠ .running then s
    else
      let o := newOut s
      let s1 := setCmd p { c with phase := .finished, status := status, result0 := r0, result1 := r1, oid := o.1 } o.2
      if immediate c.opcode || admSilent p s1 then flushFinished p s1 else s1

/-- Finish an optional command: operations that software starts through registers have none. -/
def finishOpt (c : Option (Nat × Nat)) (status r0 : Nat) (s : State) : State :=
  match c with
  | some (p, k) => finishCmd p k status r0 0 s
  | none => s

/-- Finish every running command of opcode `op` that `f` picks. -/
def finishWhere (op : Nat) (f : Cmd → Bool) (status r0 : Nat) (s : State) : State :=
  forEach [1, 2] (fun p t =>
    forEach (((getPair p t).cmds.filter (fun c => c.active && c.opcode == op && f c)).map (·.id))
      (fun k t => finishCmd p k status r0 0 t) t) s

/-! ## Data of a command (R293) -/

/-- Read `len` bytes at `addr` for a command, under the pair's function. -/
def admRead (p k addr len : Nat) (s : State) : State :=
  match getCmd p k s with
  | none => s
  | some c =>
    forEach (bursts (len / 512 + 2) addr 0 len) (fun b t =>
      access { chan := admChan p, func := admFunc p s, iova := b.1, len := b.2.2, purpose := .admData p k b.2.1 } t)
      (setCmd p { c with data := List.replicate len 0 } s)

/-- PROG_UPDATE reads its image once the standby bank is DRAINED (R309 steps 1 and 2). -/
def progKick (s : State) : State :=
  if fb (loc .RE_PS_CTRL) F.RE_PS_CTRL_DRAINED s then
    forEach [1, 2] (fun p t =>
      match (getPair p t).cmds.find? (fun c => c.active && c.opcode == 0x33 && c.data.isEmpty) with
      | some c => admRead p c.id (u c.raw 16 8) 16896 t
      | none => t) s
  else s

/-! ## The admin submission ring (R286, R287) -/

/-- Room for one more command: the entry cache of 8, 16 in flight, and a credited slot that no earlier command will
use. -/
def admRoom (p : Nat) (s : State) : Bool :=
  let k := getPair p s
  let unwritten := (k.cmds.filter (fun c => c.phase == .waiting || c.phase == .running || c.phase == .finished)).length
  decide ((k.cmds.filter (fun c => c.phase == .waiting)).length < 8) && decide ((k.cmds.filter Cmd.inFlight).length < 16) &&
    decide (unwritten < k.credit)

/-- Read the next admin entry, if there is room (R287); a packet channel starts no new entry while the block enters a power
state (R340). -/
def admScanNext (p : Nat) (s : State) : State :=
  let k := getPair p s
  if admState p s ≠ 1 then s
  else if packetsHeld s then setPair p { k with scanning := false, rescan := true } s
  else if admRoom p s = false then setPair p { k with scanning := false, stopRoom := true } s
  else
    setPair p { k with scanning := true, stopRoom := false } s
      |> ownRead (admChan p) (admFunc p s) (admSqBase p s + 64 * k.sqPos) (.admEntry p k.sqPos)

/-- A scan of the admin submission ring is requested (R286). -/
def admScanStart (p : Nat) (s : State) : State :=
  let k := getPair p s
  if admState p s ≠ 1 then s
  else if k.scanning then setPair p { k with rescan := true } s
  else admScanNext p s

/-- The scan ends at an entry that was not accepted. -/
def admScanEnd (p : Nat) (s : State) : State :=
  let k := getPair p s
  let s1 := setPair p { k with scanning := false, rescan := false } s
  if k.rescan then admScanStart p s1 else s1

/-- A command from the 64 bytes of its entry. -/
def newCmd (id pos : Nat) (b : Bytes) : Cmd :=
  { id := id, pos := pos, opcode := u b 0 1, serial := bit (u b 1 1) 0, tag := u b 4 4, raw := b, phase := .waiting,
    status := 0, result0 := 0, result1 := 0, data := [], oid := 0 }

/-- An entry that a block may start: a STANDBY starts none but DUO_FAILOVER, which is valid nowhere else, and DUO_PROTECT, which
answers with its role (R313, R486); none starts while the block enters a power state (R340). (DEDUCED: log entry 88.) -/
def admStarts (b : Bytes) (s : State) : Bool := (duRole s != 2 || u b 0 1 == 0x60 || u b 0 1 == 0x61) && !packetsHeld s

/-- The admin scans that waited for the block to leave a power state go on. -/
def admScansResume (s : State) : State :=
  forEach ([1, 2].filter (fun p => (getPair p s).rescan && !(getPair p s).scanning))
    (fun p t => admScanStart p (setPair p { getPair p t with rescan := false } t)) s

/-- Accept an admin entry (R287): the command waits for its start. -/
def admAccept (p pos : Nat) (b : Bytes) (s : State) : State :=
  let k := getPair p s
  let c := newCmd k.nextCmd pos b
  setPair p { k with cmds := k.cmds ++ [c], nextCmd := k.nextCmd + 1, sqPos := (pos + 1) % 2 ^ admSqLog p s } s
    |> journal (.accepted p c.entry)

/-- The pair enters STOPPED (R295): it accepts nothing more and writes no completion. -/
def admStop (p status : Nat) (s : State) : State :=
  if admState p s = 1 ∨ admState p s = 3 then
    let k := getPair p s
    let s1 := setAdmState p 2 s
      |> fs (loc .WQ_ADM_ERR (p - 1)) F.WQ_ADM_ERR_ERR status
      |> setFlag (loc .WQ_EVENT) F.WQ_EVENT_QUEUE_ERROR
      |> endReqs (fun q => match q with
          | .admEntry r _ => r == p
          | .admFinal r _ => r == p
          | .admScan r _ => r == p
          | .admArm r _ => r == p
          | .admCompl r _ => r == p
          | .admRelease r _ => r == p
          | _ => false)
    let gone := (k.cmds.filter (fun c => (c.phase == .finished || c.phase == .writing) && !pendingOut c.oid s1)).map (·.oid)
    forEach gone endOut (setPair p { k with
      cmds := k.cmds.filter (fun c => c.phase == .running || c.phase == .waiting), scanning := false, rescan := false,
      stopRoom := false, cqScan := false, cqRescan := false, armed := false, armPending := false, outWrites := 0,
      silent := true } s1)
  else s

/-- Read the next entry of a drain's final scan (R296, as R281), which covers the ring once and meets no entry of a command
that has not been released. -/
def admFinalNext (p pos : Nat) (s : State) : State :=
  let k := getPair p s
  if k.finalFrom = some pos ∨ k.cmds.any (fun c => c.pos == pos) = true then setPair p { k with finalDone := true } s
  else
    setPair p { k with finalFrom := some (k.finalFrom.getD pos) } s
      |> ownRead (admChan p) (admFunc p s) (admSqBase p s + 64 * pos) (.admFinal p pos)

/-- A draining pair has nothing left: it goes to OFF (R296). -/
def admDrained (p : Nat) (s : State) : Bool :=
  admState p s == 3 && (getPair p s).finalDone && (getPair p s).cmds.isEmpty

/-! ## End of every command -/

/-- Accesses move on, and the first completion issued to an armed ring causes its COMPLETION record (R275); in a
protected pair the record waits for the flip (R490). -/
def issueAll (s : State) : State :=
  let t := pump s
  if duFlips t then t
  else
    let cs := (t.wq.cqs.filter (fun p => p.2.armed && decide ((getCq p.1 s).outWrites < p.2.outWrites))).map (·.1)
    let ps := (t.adm.filter (fun p => p.2.armed && decide ((getPair p.1 s).outWrites < p.2.outWrites))).map (·.1)
    if cs.isEmpty && ps.isEmpty then t
    else
      forEach cs (fun c v => completionRecord c ((getCq c v).outWrites - (getCq c s).outWrites - 1) v) t
        |> forEach ps (fun p v => admCplRecord p ((getPair p v).outWrites - (getPair p s).outWrites - 1) v)
        |> pump

/-! ## Level-mode counters (R414) -/

/-- A member of group `g` whose lane's island is up shows field `f`. -/
def anyMember (g : Nat) (f : Fld) (s : State) : Bool :=
  (memIdx g s).any (fun k => fb (loc .OS_MEMBER g k) f s && isRun (laneIsland (memLane g k s)) s)

/-- The condition of a level-mode counter holds now (R414, R417, R418), in an island that is up (R427). -/
def levelHolds (i : Nat) (s : State) : Bool :=
  if i < 0x1000 then
    let p := i / 64
    let o := i % 64
    let r := sget RxPort.reset s.dp.rx p
    if isRun (portIsland p) s = false then false
    else if o = 7 then r.pauseAll != 0
    else if o ≤ 15 then sget 0 r.pause (o - 8) != 0
    else if o = 48 then fb (loc .MP_TX_STATE p) F.MP_TX_STATE_PAUSE_SENT s
    else bit (fg (loc .MP_TX_STATE p) F.MP_TX_STATE_XOFF_SENT s) (o - 49)
  else if i < 0x3100 then
    let a := loc .LN_STATUS ((i - 0x3000) / 8)
    let up := match i % 8 with
      | 2 => fb a F.LN_STATUS_SIG_DET s
      | 3 => fb a F.LN_STATUS_CDR_LOCK s
      | _ => fb a F.LN_STATUS_BLOCK_LOCK s
    !up && !counterDown i s
  else if i < 0x3200 then
    let g := (i - 0x3100) / 16
    match i % 16 with
    | 3 => anyMember g F.OS_MEMBER_LOF s
    | 6 => anyMember g F.OS_MEMBER_MAP_MM s
    | 9 => anyMember g F.OS_MEMBER_LOS s
    | 10 => anyMember g F.OS_MEMBER_AIS s
    | 11 => anyMember g F.OS_MEMBER_RDI s
    | _ => anyMember g F.OS_MEMBER_TIM s
  else isRun 2 s && s.wq.sqs.any (fun q => q.2.rx && q.2.waiting != [] && decide (0 < q.2.hold))

/-- What a command leaves holds in the present interval of the level-mode counters (R414). -/
def noteLevels (s : State) : State :=
  let l := s.pc.level.filter (fun i => !s.pc.held.contains i && levelHolds i s)
  if l = [] then s else { s with pc := { s.pc with held := l ++ s.pc.held } }

/-- End of every command: sources report (a report can itself set a flag of the EV or PC page, so the round is made
again until nothing new can be active), accesses move on, and the pins follow; a Duo block that gives up answers
FENCED; a node that has become empty loses its deficit (R351), and a level-mode counter notes its
condition (R414). (DESIGN CHOICE: log entry 6.) -/
def settle (s : State) : State :=
  let s1 := refreshReady (duDrainCheck s)
  let s2 := if s1.ev.warmHold || inReset s1 then s1 else sourceRound (sourceRound (sourceRound (sourceRound s1)))
  refreshPins (emptyDeficits (issueAll (noteLevels s2)))

/-- The outcome of a command: the state its effect leaves, settled. -/
def done (s : State) : Host.Outcome State Fault Refusal := .next (settle s)

end Sys2Proof.Machine
end

