-- ==== Sys2Proof/Machine/Table.lean ====
section
/-!
DEFINITION. The steering table, learning and the meters (spec/08): hashing, lookup, insertion with relocation, the
pending list, the rehash, ageing, the learn arbiter, the change unit, the indirect windows, and meter charges.
-/

namespace Sys2Proof.Machine

/-! ## Keys and places (R222, R226) -/

/-- Key type. -/
def keyType (k : Nat) : Nat := k / 2 ^ 72 % 256

/-- H_i of R226. -/
def hashKey (seed key : Nat) : Nat := crc poly32C seed (bytesLE 10 key)

/-- The places of a key under a generation: its H_0 bucket, its H_1 bucket, its overflow set. -/
structure Places where
  b0 : Nat
  b1 : Nat
  set : Nat
  deriving DecidableEq, Repr

def places (seeds : Nat × Nat) (key : Nat) : Places :=
  let h0 := hashKey seeds.1 key
  { b0 := h0 % 2 ^ 19, b1 := hashKey seeds.2 key % 2 ^ 19, set := h0 / 2 ^ 19 % 2 ^ 12 }

/-- First way of the overflow store. -/
def ovBase : Nat := 2097152

/-- The ways of a location: buckets 0 to 524,287, then overflow sets (R244). -/
def locWays (l : Nat) : List Nat :=
  if l < 524288 then (List.range 4).map (4 * l + ·) else (List.range 8).map (ovBase + 8 * (l - 524288) + ·)

/-- Location of a way. -/
def wayLoc (w : Nat) : Nat := if w < ovBase then w / 4 else 524288 + (w - ovBase) / 8

/-- The locations of a key's places. -/
def Places.locs (p : Places) : List Nat :=
  (if p.b0 = p.b1 then [p.b0] else [p.b0, p.b1]) ++ [524288 + p.set]

/-- A way as IX_LOC codes it (R254). -/
def wayCode (w : Nat) : Nat :=
  if w < ovBase then w % 4 * 2 ^ 24 + w / 4 else 2 ^ 30 + (w - ovBase) % 8 * 2 ^ 24 + (w - ovBase) / 8

/-- A pending-list place as IX_LOC codes it. -/
def pendCode (i : Nat) : Nat := 2 * 2 ^ 30 + i

def getWay (w : Nat) (t : Tab) : Option Ent := sget none t.ways w
def setWay (w : Nat) (e : Option Ent) (t : Tab) : Tab := { t with ways := sput none t.ways w e }

/-- The pending entry of index `i`. -/
def pendAt (i : Nat) (t : Tab) : Option Ent := (t.pend.find? (fun p => p.1 == i)).map (·.2)

/-- The lowest index that no pending entry has. (DEDUCED: log entry 44.) -/
def pendSlot (t : Tab) : Nat := (freeTag 256 (t.pend.map (·.1))).getD 256

/-- The free ways of a location, lowest first. (DEDUCED: log entry 44.) -/
def freeIn (l : Nat) (t : Tab) : List Nat := (locWays l).filter (fun w => (getWay w t).isNone)

/-! ## Generations -/

/-- STATE of ST_RH_STATE: 0 IDLE, 1 RUNNING, 2 PARKED. -/
def rhState (s : State) : Nat := fg (loc .ST_RH_STATE) F.ST_RH_STATE_STATE s
def rhReverse (s : State) : Bool := fb (loc .ST_RH_STATE) F.ST_RH_STATE_REVERSE s
def rhCursor (s : State) : Nat := fg (loc .ST_RH_STATE) F.ST_RH_STATE_CURSOR s

/-- Seeds of the current generation. -/
def curSeeds (s : State) : Nat × Nat := (rd (loc .ST_SEED_CUR 0 0) s, rd (loc .ST_SEED_CUR 0 1) s)

/-- Seeds of the target generation (R232, R247). -/
def tgtSeeds (s : State) : Nat × Nat :=
  if rhReverse s then curSeeds s else s.tab.newSeeds.getD (curSeeds s)

/-- ASSURED (ST_CFG). -/
def assured (s : State) : Bool := fb (loc .ST_CFG) F.ST_CFG_ASSURED s

/-- Occupancy (R248). -/
def occupancy (t : Tab) : Nat := (t.ways.filter (fun p => match p.2 with | some e => !e.moving | none => false)).length +
  t.pend.length

def setTab (t : Tab) (s : State) : State := { s with tab := t }

/-! ## Lookup (R227, R228) -/

/-- Ways searched for a key: current generation, then the other one while a rehash runs or is parked. -/
def searchWays (key : Nat) (s : State) : List Nat :=
  ((places (curSeeds s) key).locs ++ (match s.tab.newSeeds with
    | some n => (places n key).locs
    | none => [])).flatMap locWays

/-- The way that holds a key, if any. -/
def findWay (key : Nat) (s : State) : Option Nat :=
  (searchWays key s).find? (fun w => match getWay w s.tab with
    | some e => e.key == key
    | none => false)

/-- Where a key is found: a way, or an index of the pending list. -/
def findKey (key : Nat) (s : State) : Option (Sum Nat Nat) :=
  match findWay key s with
  | some w => some (.inl w)
  | none =>
    match s.tab.pend.find? (fun p => p.2.key == key) with
    | some p => some (.inr p.1)
    | none => none

/-- The entry at a found place. -/
def entAt (p : Sum Nat Nat) (s : State) : Option Ent :=
  match p with
  | .inl w => getWay w s.tab
  | .inr i => pendAt i s.tab

/-- Rewrite every copy of a key. -/
def mapKey (key : Nat) (f : Ent → Ent) (s : State) : State :=
  let t := s.tab
  let g (e : Ent) : Ent := if e.key = key then f e else e
  setTab { t with
    ways := t.ways.map (fun p => (p.1, p.2.map g))
    pend := t.pend.map (fun p => (p.1, g p.2)) } s

/-- A lookup that hits sets HIT in the copy it found (R228). -/
def setHit (p : Sum Nat Nat) (s : State) : State :=
  let t := s.tab
  match p with
  | .inl w =>
    match getWay w t with
    | some e => setTab (setWay w (some { e with hit := true }) t) s
    | none => s
  | .inr i => setTab { t with pend := t.pend.map (fun p => if p.1 = i then (i, { p.2 with hit := true }) else p) } s

/-! ## Placement (R232 to R234) -/

/-- Step 1: a free way of the key's buckets. -/
def bucketWay (p : Places) (t : Tab) : Option Nat :=
  let f0 := freeIn p.b0 t
  let f1 := if p.b1 = p.b0 then [] else freeIn p.b1 t
  if f0.length < f1.length then f1.head? else f0.head?

/-- The victim of a walk in bucket `b`: the first placed way at or after the rotating pointer (R233). (DEDUCED: log
entry 44.) -/
def victim (seeds : Nat × Nat) (b : Nat) (t : Tab) : Option Nat :=
  ((List.range 4).map (fun i => 4 * b + (t.ptr + i) % 4)).find? (fun w =>
    match getWay w t with
    | some e => !e.moving && (let p := places seeds e.key; p.b0 == b || p.b1 == b)
    | none => false)

/-- The relocation walk (R233): the ways of its victims, first to last, and the free way it ends at. -/
def walk (seeds : Nat × Nat) (t : Tab) : Nat → Nat → List Nat → List Nat → Option (List Nat × Nat)
  | 0, _, _, _ => none
  | n + 1, b, seen, path =>
    if seen.contains b then none
    else match (freeIn b t).head? with
      | some w => some (path.reverse, w)
      | none =>
        if 8 ≤ path.length then none
        else match victim seeds b t with
          | none => none
          | some v =>
            match getWay v t with
            | none => none
            | some e =>
              let p := places seeds e.key
              walk seeds t n (if p.b0 = b then p.b1 else p.b0) (b :: seen) (v :: path)

/-- Move the victims, from the last back to the first (R234): `dst` is the way the next one goes to. -/
def moveBack : List Nat → Nat → Tab → Nat × Tab
  | [], dst, t => (dst, t)
  | v :: vs, dst, t => moveBack vs v (setWay v none (setWay dst (getWay v t) t))

/-- What an attempt to place an entry gives: its way, and the ways whose victims moved. -/
structure Place where
  tab : Tab
  way : Option Nat
  moves : List Nat
  deriving DecidableEq, Repr

/-- Step 2 from one bucket: the pointer advances at every walk. -/
def relocate (seeds : Nat × Nat) (b : Nat) (t : Tab) : Place :=
  let t1 := { t with ptr := (t.ptr + 1) % 4 }
  match walk seeds t 10 b [] [] with
  | none => { tab := t1, way := none, moves := [] }
  | some (vs, dst) =>
    let r := moveBack vs.reverse dst t1
    { tab := r.2, way := some r.1, moves := vs }

/-- Steps 1 to 3 of R232: a way for a key under a generation. The way is left empty. -/
def findPlace (seeds : Nat × Nat) (key : Nat) (t : Tab) : Place :=
  let p := places seeds key
  match bucketWay p t with
  | some w => { tab := t, way := some w, moves := [] }
  | none =>
    let r0 := relocate seeds p.b0 t
    if r0.way.isSome then r0
    else
      let r1 := if p.b1 = p.b0 then r0 else relocate seeds p.b1 r0.tab
      if r1.way.isSome then r1
      else { tab := r1.tab, way := (freeIn (524288 + p.set) r1.tab).head?, moves := [] }

/-- The place an IX_LOC names; none where it names none (R254). -/
def locPlace (l : Nat) : Option (Sum Nat Nat) :=
  let sp := l / 2 ^ 30
  let way := l / 2 ^ 24 % 8
  let i := l % 2 ^ 19
  if sp = 0 ∧ way < 4 then some (.inl (4 * i + way))
  else if sp = 1 ∧ i < 4096 then some (.inl (ovBase + 8 * i + way))
  else if sp = 2 ∧ i < 256 then some (.inr i)
  else none

/-- A move empties a place: a READ_LOC of it that is under way will say so (R255). -/
def noteMove (f : Sum Nat Nat → Bool) (s : State) : State :=
  setTab { s.tab with win := s.tab.win.map (fun p =>
    (p.1, if p.2.busy = some 1 ∧ (locPlace p.2.loc).any f = true then { p.2 with moved := true } else p.2)) } s

/-- ST_MOVE_SEQ advances (R501). -/
def moveSeq (n : Nat) (s : State) : State := wr (loc .ST_MOVE_SEQ) (rd (loc .ST_MOVE_SEQ) s + n) s

/-- Count the victims of a relocation walk (R501). -/
def countMoves (n : Nat) (s : State) : State := moveSeq n s |> bumpBy (cTable 15) n

/-- Place an entry by steps 1 to 3; answers its way. The victims' ways have been emptied by moves (R255). (DEDUCED: log entry
43.) -/
def placeEnt (seeds : Nat × Nat) (e : Ent) (s : State) : Option Nat × State :=
  let r := findPlace seeds e.key s.tab
  match r.way with
  | some w =>
    (some w, countMoves r.moves.length (noteMove (fun p => match p with
      | .inl v => r.moves.contains v
      | .inr _ => false) (setTab (setWay w (some e) r.tab) s)))
  | none => (none, setTab r.tab s)

/-- Append to the pending list, under the lowest free index; filling it sets PENDING_FULL (R242). -/
def toPending (e : Ent) (s : State) : State :=
  let t := s.tab
  let s1 := setTab { t with pend := t.pend ++ [(pendSlot t, e)] } s
  if 256 ≤ s1.tab.pend.length then setFlag (loc .ST_EVENT) F.ST_EVENT_PENDING_FULL s1 else s1

/-! ## Starting a rehash (R243) -/

/-- The first of `d`, `d` + 1, … that is not in `bad`: a drawn seed that meets R243. -/
def pickSeed (d : W32) (bad : List Nat) : Nat :=
  match (List.range 5).find? (fun i => !bad.contains ((d.toNat + i) % 2 ^ 32)) with
  | some i => (d.toNat + i) % 2 ^ 32
  | none => d.toNat

/-- Draw two new seeds: free values that differ from each other and from both current seeds (R243). -/
def drawSeeds (s : State) : (Nat × Nat) × State :=
  let c := curSeeds s
  let d0 := drawSeed s
  let d1 := drawSeed d0.2
  let n0 := pickSeed d0.1 [c.1, c.2]
  ((n0, pickSeed d1.1 [c.1, c.2, n0]), d1.2)

/-- Start a rehash with the given seeds. -/
def rehashStart (seeds : Nat × Nat) (s : State) : State :=
  setTab { s.tab with newSeeds := some seeds, finishing := false, powerPark := false, softParked := false,
                      stepDue := false } s
    |> fs (loc .ST_RH_STATE) F.ST_RH_STATE_STATE 1
    |> fs (loc .ST_RH_STATE) F.ST_RH_STATE_REVERSE 0
    |> fs (loc .ST_RH_STATE) F.ST_RH_STATE_STUCK 0
    |> fs (loc .ST_RH_STATE) F.ST_RH_STATE_CURSOR 0

/-- Start a rehash with random seeds, if none runs or is parked (R249). -/
def rehashAuto (s : State) : State :=
  if rhState s = 0 then (let d := drawSeeds s; rehashStart d.1 d.2) else s

/-- Start a rehash as START does; none where the seeds refuse it (R243). -/
def rehashCommand (s : State) : Option State :=
  if fb (loc .ST_CFG) F.ST_CFG_SEED_RANDOM s then some (rehashAuto s)
  else
    let n := (rd (loc .ST_SEED_NEW 0 0) s, rd (loc .ST_SEED_NEW 0 1) s)
    if n.1 = n.2 ∨ n = curSeeds s then none else some (rehashStart n s)

/-! ## Insertion (R232, R249) -/

/-- Outcome of an insertion: status, location code, and whether it waits for a pending way. -/
structure Ins where
  status : Nat
  loc : Nat
  waits : Bool
  st : State

/-- Insert an entry whose key is absent (R232, R242, R249). (DEDUCED: log entry 44.) -/
def insertNew (e : Ent) (s : State) : Ins :=
  if assured s && decide (1572864 ≤ occupancy s.tab) then { status := 0x72, loc := 0, waits := false, st := s }
  else
    let r := placeEnt (tgtSeeds s) e s
    match r.1 with
    | some w => { status := St.ok, loc := wayCode w, waits := false, st := r.2 }
    | none =>
      let s1 := r.2
      if s1.tab.pend.length < 256 then
        let n := pendSlot s1.tab
        let s2 := if assured s1 then s1
          else if rhState s1 = 1 then s1 else setFlag (loc .ST_EVENT) F.ST_EVENT_REHASH_NEEDED s1
        let s3 := toPending e s2
        { status := 0x71, loc := pendCode n, waits := false, st := if assured s3 then rehashAuto s3 else s3 }
      else if assured s1 then { status := 0x72, loc := 0, waits := true, st := rehashAuto s1 }
      else { status := 0x72, loc := 0, waits := false, st := s1 }

/-- TABLE_CHANGE report (R240, R391): to the route of the ST page. -/
def tableNotify (what locCode : Nat) (s : State) : State :=
  if fb (loc .ST_CFG) F.ST_CFG_NOTIFY s then
    let r := sget 0 s.ev.routes 0xA0
    if bit r 31 then report (r % 1024) 0 0x08 what locCode 0 none s else s
  else s

/-- Make a hold-down record (R238): a full store evicts its oldest record. -/
def holdDown (key : Nat) (s : State) : State :=
  let t := s.tab
  let h := (key, s.tb.time + fg (loc .ST_LEARN_CFG) F.ST_LEARN_CFG_HOLD_DOWN s * 1000000 * nsU)
  if 8192 ≤ t.holds.length then bump (cTable 11) (setTab { t with holds := t.holds.drop 1 ++ [h] } s)
  else setTab { t with holds := t.holds ++ [h] } s

/-- A live hold-down record of a key. -/
def held (key : Nat) (s : State) : Bool := s.tab.holds.any (fun h => h.1 == key)

/-- The location code of a found place. -/
def foundCode : Sum Nat Nat → Nat
  | .inl w => wayCode w
  | .inr i => pendCode i

/-! ## Changes by content -/

/-- Empty every copy of a key (R236). -/
def deleteKey (key : Nat) (s : State) : State :=
  let t := s.tab
  setTab { t with
    ways := t.ways.filter (fun p => match p.2 with | some e => e.key != key | none => true)
    pend := t.pend.filter (fun p => p.2.key != key) } s

/-- Rewrite the fields of an update (R236): bit 0 TARGET, 1 METER, 2 ACTION, 3 STATIC. -/
def updateEnt (f : Nat) (n e : Ent) : Ent :=
  { e with target := if bit f 0 then n.target else e.target, meter := if bit f 1 then n.meter else e.meter,
           action := if bit f 2 then n.action else e.action, static := if bit f 3 then n.static else e.static }

/-- CONFLICT_GAP in units of block time (ST_TIMING). -/
def conflictGap (s : State) : Nat := max 1 (fg (loc .ST_TIMING) F.ST_TIMING_CONFLICT_GAP s) * 1000000 * nsU

/-- A learn request refused under a live hold-down record (R238, R239). (DEDUCED: log entry 47.) -/
def learnConflict (l : Learn) (s : State) : State :=
  let s1 := bump (cTable 7) s
  let quiet := match s.tab.conflictAt with
    | some t => decide (s.tb.time < t + conflictGap s)
    | none => false
  if quiet then s1
  else { s1 with tab := { s1.tab with conflictAt := some s.tb.time }, ev := { s1.ev with conflict := (l.port, l.target) } }
    |> setFlag (loc .ST_EVENT) F.ST_EVENT_LEARN_CONFLICT

/-- Apply a learn insertion or move (R237). Answers whether the insertion waits. -/
def applyLearn (l : Learn) (s : State) : Bool × State :=
  match findKey l.key s with
  | none =>
    let e : Ent := { key := l.key, target := l.target % 65536, meter := fg (loc .ST_LEARN_CFG) F.ST_LEARN_CFG_LEARN_METER s,
                     action := fg (loc .ST_LEARN_CFG) F.ST_LEARN_CFG_LEARN_ACTION s, hit := true, static := false,
                     moving := false }
    let r := insertNew e s
    if r.waits then (true, r.st)
    else
      let s1 := bump (cTable 5) r.st
      let s2 := if r.status = 0x71 then bump (cTable 9) s1 else if r.status = 0x72 then bump (cTable 10) s1 else s1
      (false, if r.status = 0x72 then s2 else tableNotify 0 r.loc (holdDown l.key s2))
  | some p =>
    match entAt p s with
    | none => (false, s)
    | some e =>
      if e.target = l.target then (false, s)
      else if e.static then (false, bump (cTable 6) s)
      else if held l.key s then (false, learnConflict l s)
      else (false, mapKey l.key (fun e => { e with target := l.target % 65536, hit := true }) s
        |> bump (cTable 8) |> holdDown l.key |> tableNotify 1 (foundCode p))

/-- Finish the admin command of a table change: its completion is the table-change result (R301). -/
def changeDone (p k status r0 : Nat) (s : State) : State := if p = 0 then s else finishCmd p k status r0 0 s

/-- Ageing step of location `l` (R241). (DEDUCED: log entry 46.) -/
def ageLoc (l : Nat) (s : State) : State :=
  forEach (locWays l) (fun w s =>
    match getWay w s.tab with
    | some e =>
      if e.moving then s
      else if e.hit then setTab (setWay w (some { e with hit := false }) s.tab) s
      else if e.static then s
      else setTab (setWay w none s.tab) s |> bump (cTable 12) |> tableNotify 2 (wayCode w)
    | none => s) s

/-- Repeat a change of the active's table by content, under the own seeds (R488): kind 2 a delete, 5 an age-out, 0 and 3
insertions, 1 and 4 changes of an entry. -/
def applyMirror (op : Nat) (e : Ent) (s : State) : Bool × State :=
  let change (o : Ent) : Ent := { o with target := e.target, meter := e.meter, action := e.action, static := e.static }
  if op = 2 ∨ op = 5 then (false, deleteKey e.key s)
  else match findKey e.key s with
    | some _ => (false, mapKey e.key change s)
    | none =>
      if op = 0 ∨ op = 3 then (let r := insertNew e s; (r.waits, r.st)) else (false, s)

/-- Apply a change (R229 to R237). Answers whether it waits under R249. -/
def applyChange (c : Change) (s : State) : Bool × State :=
  match c with
  | .insert p k e =>
    match findKey e.key s with
    | some q => (false, changeDone p k 0x90 (foundCode q) s)
    | none =>
      let r := insertNew e s
      if r.waits then (true, r.st) else (false, changeDone p k r.status r.loc r.st)
  | .update p k e f =>
    match findKey e.key s with
    | none => (false, changeDone p k 0x91 0 s)
    | some _ => (false, changeDone p k St.ok 0 (mapKey e.key (updateEnt f e) s))
  | .delete p k key =>
    match findKey key s with
    | none => (false, changeDone p k 0x91 0 s)
    | some _ => (false, changeDone p k St.ok 0 (deleteKey key s))
  | .learn l => applyLearn l s
  | .age l => (false, ageLoc l s)
  | .mirror op e => applyMirror op e s

/-- The journal records of a change that will alter the table (R488); none where it will not. An ageing step has one for each
entry that ages out. -/
def changeRecords (c : Change) (s : State) : List JRec :=
  let rec' (op : Nat) (e : Ent) : JRec := .table op (BitVec.ofNat 80 e.key) e.target e.meter e.action e.static
  match c with
  | .insert _ _ e => if (findKey e.key s).isNone then [rec' 0 e] else []
  | .update _ _ e f =>
    match findKey e.key s with
    | some p => ((entAt p s).map (fun o => rec' 1 (updateEnt f e o))).toList
    | none => []
  | .delete _ _ key => if (findKey key s).isSome then [.table 2 (BitVec.ofNat 80 key) 0 0 0 false] else []
  | .learn l =>
    match findKey l.key s with
    | none => [.table 3 (BitVec.ofNat 80 l.key) (l.target % 65536) (fg (loc .ST_LEARN_CFG) F.ST_LEARN_CFG_LEARN_METER s)
        (fg (loc .ST_LEARN_CFG) F.ST_LEARN_CFG_LEARN_ACTION s) false]
    | some p =>
      ((entAt p s).filter (fun o => o.target != l.target && !o.static && !held l.key s)).toList.map
        (fun o => rec' 4 { o with target := l.target % 65536 })
  | .age l =>
    ((locWays l).filterMap (fun w => getWay w s.tab)).filterMap (fun e =>
      if e.moving || e.hit || e.static then none else some (rec' 5 e))
  | .mirror op e => [rec' op e]

/-- Apply a change whose turn has come; a change that waits holds up the unit (R249). (DEDUCED: log entry 43.) -/
def runChange (c : Change) (s : State) : State :=
  let r := applyChange c s
  let t := r.2.tab
  setTab { t with stuck := if r.1 then some c else none, stepDue := rhState r.2 == 1 } r.2

/-- Give a change to the table: in a protected pair, once the standby has acknowledged the last of its records (R231). -/
def submitChange (c : Change) (s : State) : State :=
  if journaling s then
    let rs := changeRecords c s
    match rs.getLast? with
    | some r =>
      let s1 := journalWait r .table (forEach rs.dropLast journal s)
      setTab { s1.tab with acking := some (c, s1.du.txSeq) } s1
    | none => runChange c s
  else runChange c s

/-! ## The change unit (R229) -/

/-- Retry the pending entries by steps 1 to 3, in order (R245): those placed leave the list, their places emptied by a move. -/
def retryPending : List (Nat × Ent) → State → State
  | [], s => s
  | (i, e) :: es, s =>
    let r := placeEnt (tgtSeeds s) e s
    match r.1 with
    | some _ =>
      retryPending es (moveSeq 1 (noteMove (· == .inr i) (setTab { r.2.tab with pend := r.2.tab.pend.filter (·.1 != i) } r.2)))
    | none => retryPending es r.2

/-- Retry the whole pending list. -/
def retryAll (s : State) : State := retryPending s.tab.pend s

/-- AGE_PERIOD (ST_TIMING). -/
def agePeriod (s : State) : Nat := fg (loc .ST_TIMING) F.ST_TIMING_AGE_PERIOD s

/-- The next change of one kind, and the state without it: 0 software, 1 the learn arbiter's, 2 an ageing step (R229). -/
def changeOf (kind : Nat) (s : State) : Option (Change × State) :=
  let t := s.tab
  match kind with
  | 0 => (match t.changes with
    | c :: cs => some (c, setTab { t with changes := cs, turn := 1 } s)
    | [] => none)
  | 1 => (match t.offered with
    | l :: ls => some (.learn l, setTab { t with offered := ls, turn := 2 } s)
    | [] => none)
  | _ =>
    if t.ageDue = 0 ∨ agePeriod s = 0 then none
    else some (.age t.agePos, setTab { t with ageDue := t.ageDue - 1, agePos := (t.agePos + 1) % 528384, turn := 0 } s)

/-- The next change in round robin, and the state without it (R229). (DEDUCED: log entry 43.) -/
def nextChange (s : State) : Option (Change × State) :=
  let t := s.tab.turn
  (changeOf (t % 3) s).orElse (fun _ => (changeOf ((t + 1) % 3) s).orElse (fun _ => changeOf ((t + 2) % 3) s))

/-- The unit may take a change: none awaits the standby's acknowledgement, and no rehash step is due (R229, R231). -/
def unitFree (s : State) : Bool := s.tab.acking.isNone && !(s.tab.stepDue && rhState s == 1)

/-- The change unit applies one change: a waiting insertion after a retry, or the next change in turn. While software has the
rehash parked, the insertion goes on waiting (R249). -/
def changeUnit (s : State) : State :=
  if unitFree s = false then s
  else match s.tab.stuck with
    | some c => if rhState s = 2 ∧ s.tab.softParked = true then s else runChange c (retryAll s)
    | none =>
      match nextChange s with
      | some (c, s1) => submitChange c s1
      | none => s

/-- Hand a software change to the change unit. -/
def queueChange (c : Change) (s : State) : State :=
  setTab { s.tab with changes := s.tab.changes ++ [c] } s

/-! ## Rehash (R244 to R247) -/

/-- Park a rehash. -/
def rehashPark (s : State) : State := fs (loc .ST_RH_STATE) F.ST_RH_STATE_STATE 2 s

/-- Re-place the entries of a location's ways; answers none when the pending list is full (R244). -/
def replaceWays : List Nat → State → Bool × State
  | [], s => (true, s)
  | w :: ws, s =>
    match getWay w s.tab with
    | none => replaceWays ws s
    | some e =>
      if e.moving || (places (tgtSeeds s) e.key).locs.contains (wayLoc w) then replaceWays ws s
      else
        let r := placeEnt (tgtSeeds s) e s
        match r.1 with
        | some _ => replaceWays ws (moveSeq 1 (noteMove (· == .inl w) (setTab (setWay w none r.2.tab) r.2)))
        | none =>
          if 256 ≤ r.2.tab.pend.length then (false, r.2)
          else replaceWays ws (moveSeq 1 (toPending e (noteMove (· == .inl w) (setTab (setWay w none r.2.tab) r.2))))

/-- A rehash step may run (R229, R249): the rehash does, no change awaits its acknowledgement, and the step follows a change, or
none waits that can be applied. -/
def stepReady (s : State) : Bool :=
  rhState s == 1 && !s.tab.finishing && s.tab.acking.isNone &&
    (s.tab.stepDue || s.tab.stuck.isSome || (nextChange s).isNone)

/-- One rehash step (R244). (DEDUCED: log entry 45.) -/
def rehashStep (s : State) : State :=
  if stepReady s = false then s
  else
    let c := rhCursor s
    let r := replaceWays (locWays c) s
    let s1 := setTab { r.2.tab with stepDue := false } r.2
    if r.1 then
      let s2 := bump (cTable 16) s1 |> fs (loc .ST_RH_STATE) F.ST_RH_STATE_CURSOR (c + 1)
      if 528383 < c + 1 then setTab { s2.tab with finishing := true } s2 else s2
    else
      rehashPark s1
        |> fs (loc .ST_RH_STATE) F.ST_RH_STATE_STUCK 1
        |> setFlag (loc .ST_EVENT) F.ST_EVENT_REHASH_STUCK

/-- GEN (ST_CFG). -/
def gen (s : State) : Nat := fg (loc .ST_CFG) F.ST_CFG_GEN s

/-- The finishing steps of a rehash (R245, R247, R249). (DEDUCED: log entry 45.) -/
def rehashFinish (s : State) : State :=
  if s.tab.finishing = false then s
  else
    let rev := rhReverse s
    let n := s.tab.newSeeds.getD (curSeeds s)
    let s1 := if rev then s
      else wr (loc .ST_SEED_CUR 0 0) n.1 s |> wr (loc .ST_SEED_CUR 0 1) n.2 |> fs (loc .ST_CFG) F.ST_CFG_GEN (gen s + 1)
    let s2 := setTab { s1.tab with newSeeds := none, finishing := false, stepDue := false } s1
      |> fs (loc .ST_RH_STATE) F.ST_RH_STATE_STATE 0
      |> fs (loc .ST_RH_STATE) F.ST_RH_STATE_REVERSE 0
      |> fs (loc .ST_RH_STATE) F.ST_RH_STATE_STUCK 0
      |> fs (loc .ST_RH_STATE) F.ST_RH_STATE_CURSOR 0
      |> fs (loc .ST_RH_STATE) F.ST_RH_STATE_LAST (if rev then 2 else 1)
    let s3 := retryAll s2 |> setFlag (loc .ST_EVENT) F.ST_EVENT_REHASH_DONE
    let s4 := finishWhere 0x13 (fun c => u c.raw 8 1 % 4 == 0) (if rev then St.aborted else St.ok) (gen s3) s3
    if s4.tab.stuck.isSome && decide (256 ≤ s4.tab.pend.length) then rehashAuto s4 else s4

/-- Why a rehash operation does not apply in the present state (ST_RH_CTRL, R245, R247). (DEDUCED: log entry 45.) -/
def rehashBusy (op : Nat) (s : State) : Bool :=
  match op with
  | 0 => rhState s != 0
  | 1 => rhState s != 1 || s.tab.finishing
  | 2 => rhState s != 2
  | _ => rhState s == 0 || s.tab.finishing || rhReverse s

/-- Park, resume or cancel a rehash by software. -/
def rehashOp (op : Nat) (s : State) : State :=
  match op with
  | 1 => rehashPark (setTab { s.tab with softParked := true } s)
  | 2 =>
    setTab { s.tab with softParked := false, powerPark := false } s
      |> fs (loc .ST_RH_STATE) F.ST_RH_STATE_STATE 1
      |> fs (loc .ST_RH_STATE) F.ST_RH_STATE_STUCK 0
  | _ =>
    setTab { s.tab with softParked := false, powerPark := false, stepDue := false } s
      |> fs (loc .ST_RH_STATE) F.ST_RH_STATE_STATE 1
      |> fs (loc .ST_RH_STATE) F.ST_RH_STATE_STUCK 0
      |> fs (loc .ST_RH_STATE) F.ST_RH_STATE_REVERSE 1
      |> fs (loc .ST_RH_STATE) F.ST_RH_STATE_CURSOR 0

/-! ## Learning (R237 to R239) -/

/-- A learn request reaches the learn queue (R237). (DEDUCED: log entry 47.) -/
def learnEnqueue (l : Learn) (s : State) : State :=
  if 1024 - (s.sv.learnRet - 128) ≤ s.tab.learnQ.length then setFlag (loc .ST_EVENT) F.ST_EVENT_LEARN_DROP s |> bump (cTable 2)
  else setTab { s.tab with learnQ := s.tab.learnQ ++ [l] } s

/-- The learn requests that the change unit has or is offered and has not applied. -/
def learnsUnderWay (s : State) : List Learn :=
  s.tab.offered ++ ((s.tab.stuck.toList ++ (s.tab.acking.map (·.1)).toList).filterMap (fun c => match c with
    | .learn l => some l
    | _ => none))

/-- The learn arbiter decides the next request (R237), offering insertions and moves to the change unit (R229), one at a
time: a request for the key of one under way, and a second insertion or move, wait in the queue (R237, R249).
(DEDUCED: log entry 47.) -/
def learnArbitrate (s : State) : State :=
  match s.tab.learnQ with
  | [] => s
  | l :: ls =>
    let s1 := setTab { s.tab with learnQ := ls } s
    let busy := learnsUnderWay s
    let offer (t : State) : State := if busy = [] ∧ s.tab.stuck = none then setTab { t.tab with offered := [l] } t else s
    if busy.any (fun m => m.key == l.key) then s else
    if fb (loc .ST_LEARN_CFG) F.ST_LEARN_CFG_LEARN_EN s = false then bump (cTable 3) s1
    else if keyType l.key % 2 = 0 ∨ 65536 ≤ l.target then bump (cTable 4) s1
    else match findKey l.key s1 with
      | none => offer s1
      | some p =>
        match entAt p s1 with
        | none => s1
        | some e =>
          if e.target = l.target then s1
          else if e.static then bump (cTable 6) s1
          else if held l.key s1 then learnConflict l s1
          else offer s1

/-- The oldest hold-down record of a key stops being live (R238). -/
def holdExpire (key : Nat) (s : State) : State :=
  setTab { s.tab with holds := s.tab.holds.eraseP (fun h => h.1 == key) } s

/-- The instant of the next ageing step (R241): none while AGE_PERIOD is 0. The step takes its turn in the change unit, at
once where the unit is free and the turn is its own (R229). A STANDBY ages by TABLE records only (R488). (DEDUCED: log entry
46.) -/
def ageStep (s : State) : State :=
  if agePeriod s = 0 ∨ duRole s = 2 then s
  else
    let s1 := setTab { s.tab with ageDue := s.tab.ageDue + 1 } s
    if unitFree s1 = false ∨ s1.tab.stuck.isSome = true then s1
    else match nextChange s1 with
      | some (.age l, s2) => submitChange (.age l) s2
      | _ => s1

/-! ## ECC (R225) -/

/-- Code of pending-list entry `i` among the places that an uncorrectable error empties; ways have their own numbers. -/
def pendBase : Nat := ovBase + 32768

/-- An entry stands at a place. -/
def placeHeld (w : Nat) (t : Tab) : Bool :=
  if w < pendBase then (getWay w t).isSome else (pendAt (w - pendBase) t).isSome

/-- A read finds single-bit errors in `corr` entries, which are corrected, and uncorrectable errors in the places `fatal`,
whose entries are emptied. -/
def eccRead (corr : Nat) (fatal : List Nat) (s : State) : State :=
  let s1 := if corr = 0 then s else bumpBy (cTable 13) corr s |> setFlag (loc .ST_EVENT) F.ST_EVENT_ECC_CORR
  let bad := fatal.dedup.filter (fun w => placeHeld w s.tab)
  if bad = [] then s1
  else
    let s2 := forEach bad (fun w t => if w < pendBase then setTab (setWay w none t.tab) t else t) s1
    setTab { s2.tab with pend := s2.tab.pend.filter (fun p => !bad.contains (pendBase + p.1)) } s2
      |> bumpBy (cTable 14) bad.length
      |> setFlag (loc .ST_EVENT) F.ST_EVENT_ECC_FATAL

/-- An operation of the table island that reads the table: it has an effect while the island is in RUN (R21), and its
reads may find errors (R225). -/
def tableOp (ready : Bool) (corr : Nat) (fatal : List Nat) (f : State → State) (s : State) : State :=
  if ready && islRun 5 s then f (eccRead corr fatal s) else s

/-! ## Indirect windows (R254, R255) -/

/-- The 16 bytes of an entry, ECC 0 (R223). -/
def Ent.bytes (e : Ent) : Bytes :=
  bytesLE 10 e.key ++ bytesLE 2 e.target ++ bytesLE 2 e.meter ++
    bytesLE 1 (e.action + 32 * b2n e.hit + 64 * b2n e.static + 128 * b2n e.moving) ++ [0]

def getWin (k : Nat) (s : State) : IxWin := sget IxWin.reset s.tab.win k
def setWin (k : Nat) (w : IxWin) (s : State) : State :=
  setTab { s.tab with win := sput IxWin.reset s.tab.win k w } s

/-- READ_KEY. -/
def readKey (k : Nat) (s : State) : State :=
  let w := getWin k s
  match findKey (u w.entry 0 10) s with
  | some p =>
    match entAt p s with
    | some e => setWin k { w with entry := e.bytes, loc := foundCode p, result := 0, busy := none } s
    | none => setWin k { w with result := 1, busy := none } s
  | none => setWin k { w with result := 1, busy := none } s

/-- READ_LOC: BAD for a location that does not exist, MOVED for one that a move has emptied during the read, whether or not it
has been filled again (R255). -/
def readLoc (k : Nat) (s : State) : State :=
  let w := getWin k s
  match locPlace w.loc with
  | none => setWin k { w with result := 5, busy := none } s
  | some p =>
    match entAt p s with
    | none => setWin k { w with entry := List.replicate 16 0, result := if w.moved then 2 else 3, busy := none } s
    | some e => setWin k { w with entry := e.bytes, result := if e.moving || w.moved then 2 else 0, busy := none } s

/-- READ_NEXT: the next non-empty location after IX_LOC (R255). -/
def readNext (k : Nat) (s : State) : State :=
  let w := getWin k s
  let fromPend (i : Nat) : State :=
    match (List.range 256).find? (fun j => decide (i ≤ j) && (pendAt j s.tab).isSome) with
    | some j =>
      setWin k { w with entry := ((pendAt j s.tab).map Ent.bytes).getD [], loc := pendCode j, result := 0, busy := none } s
    | none => setWin k { w with result := 4, busy := none } s
  match locPlace w.loc with
  | none => setWin k { w with result := 5, busy := none } s
  | some (.inr i) => fromPend (i + 1)
  | some (.inl j) =>
    match s.tab.ways.find? (fun p => decide (j < p.1)) with
    | some (n, some e) => setWin k { w with entry := e.bytes, loc := wayCode n, result := 0, busy := none } s
    | _ => fromPend 0

/-! ## Meters (R251 to R253) -/

def getMeter (i : Nat) (s : State) : Meter := sget Meter.none s.tab.meters i
def setMeter (i : Nat) (m : Meter) (s : State) : State :=
  setTab { s.tab with meters := sput Meter.none s.tab.meters i m } s

/-- Refill to cycle `now` (R252). (DEDUCED: log entry 46.) -/
def Meter.refill (m : Meter) (now : Nat) : Meter :=
  let d := now - m.last
  { m with lvlC := min (m.lvlC + u m.cfg 0 3 * d) (u m.cfg 8 3 * 65536),
           lvlX := min (m.lvlX + u m.cfg 4 3 * d) (u m.cfg 12 3 * 65536), last := now }

/-- Colour a packet of `b` bytes on refilled levels (R252): 0 green, 1 yellow, 2 red. -/
def Meter.colour (m : Meter) (b input : Nat) : Nat × Meter :=
  let n := b * 65536
  let i := if bit (u m.cfg 3 1) 1 then input else 0
  let takeX : Meter := { m with lvlX := m.lvlX - n }
  if i = 2 then (2, m)
  else if bit (u m.cfg 3 1) 0 then
    if i = 0 ∧ n ≤ m.lvlC then (0, { m with lvlC := m.lvlC - n })
    else if n ≤ m.lvlX then (1, takeX) else (2, m)
  else
    if m.lvlX < n then (2, m)
    else if i = 1 ∨ m.lvlC < n then (1, takeX)
    else (0, { m with lvlX := m.lvlX - n, lvlC := m.lvlC - n })

/-- Charge a meter (R252); answers the colour. -/
def chargeMeter (i b input : Nat) (s : State) : Nat × State :=
  let r := ((getMeter i s).refill s.tb.cycle).colour b input
  (r.1, setMeter i r.2 s)

/-- Action code of a colour. -/
def meterAction (i colour : Nat) (s : State) : Nat := u (getMeter i s).cfg (16 + colour) 1

/-- A configuration that R253 refuses. -/
def meterBad (cfg : Bytes) : Bool := bit (u cfg 3 1) 0 == false && decide (u cfg 4 3 < u cfg 0 3)

/-- Write a meter's configuration (R253). -/
def meterWrite (i : Nat) (cfg : Bytes) (fill : Bool) (s : State) : State :=
  let m := (getMeter i s).refill s.tb.cycle
  let c := u cfg 8 3 * 65536
  let x := u cfg 12 3 * 65536
  setMeter i { m with cfg := cfg.take 20, lvlC := if fill then c else min m.lvlC c,
                      lvlX := if fill then x else min m.lvlX x } s

/-- The 28 bytes of a meter as MT_REC shows them at a read. -/
def meterView (i : Nat) (s : State) : Bytes :=
  let m := (getMeter i s).refill s.tb.cycle
  m.cfg ++ bytesLE 4 (m.lvlC / 65536) ++ bytesLE 4 (m.lvlX / 65536)

/-- A write of MT_CTRL (MT_CTRL): WRITE with FILL, READ, and AUTOINC. -/
def mtCtrl (inst data : Nat) (s : State) : Option State :=
  let i := fg (loc .MT_PTR inst) F.MT_PTR_INDEX s
  let n := 16384 * inst + i
  let cfg := (List.range 5).flatMap (fun w => bytesLE 4 (rd (loc .MT_REC inst w) s))
  let wrt := bit data 31
  if wrt && meterBad cfg then none
  else
    let s1 := if wrt then meterWrite n cfg (bit data 29) s else s
    let s2 := if bit data 30 then
        (let v := meterView n s1; forEach (List.range 7) (fun w t => wr (loc .MT_REC inst w) (u v (4 * w) 4) t) s1)
      else s1
    some (if (wrt || bit data 30) && fb (loc .MT_PTR inst) F.MT_PTR_AUTOINC s then
      fs (loc .MT_PTR inst) F.MT_PTR_INDEX (i + 1) s2 else s2)

/-! ## Warm reset (R500) -/

/-- A warm reset of the table. -/
def tableWarmReset (s : State) : State :=
  let d := drawSeeds s
  setTab { Tab.reset with meters := [] } d.2
    |> wr (loc .ST_SEED_CUR 0 0) d.1.1
    |> wr (loc .ST_SEED_CUR 0 1) d.1.2

end Sys2Proof.Machine
end

