-- ==== Sys2Proof/Machine/Frames.lean ====
section
/-!
DEFINITION. Frames in the block: the packet buffer and its thresholds (R169 to R173), the emitted frame (R195, R196,
R209), receive checksums (R206), delivery into receive posts (R263 to R265, R273 to R279), and the data of transmit
entries.
-/

namespace Sys2Proof.Machine

/-! ## The frame store -/

def setF (f : Frame) (s : State) : State :=
  { s with dp := { s.dp with frames := s.dp.frames.map (fun g => if g.id = f.id then f else g) } }
def getRx (p : Nat) (s : State) : RxPort := sget RxPort.reset s.dp.rx p
def setRx (p : Nat) (v : RxPort) (s : State) : State := { s with dp := { s.dp with rx := sput RxPort.reset s.dp.rx p v } }
def getTx (p : Nat) (s : State) : TxPort := sget TxPort.reset s.dp.tx p
def setTx (p : Nat) (v : TxPort) (s : State) : State := { s with dp := { s.dp with tx := sput TxPort.reset s.dp.tx p v } }

/-- Add the length of a frame that has ended to the byte-rate window of its port and direction (R429). -/
def rateAdd (p : Nat) (tx : Bool) (n : Nat) (s : State) : State :=
  let k := 2 * p + b2n tx
  let r := sget Rate.reset s.pc.rates k
  { s with pc := { s.pc with rates := sput Rate.reset s.pc.rates k { r with sum := r.sum + n } } }

/-- Frames of a port and direction in dispatch order (R192). -/
def lineOf (p : Nat) (tx : Bool) (s : State) : List Nat := sget [] s.dp.line (2 * p + b2n tx)
def setLine (p : Nat) (tx : Bool) (l : List Nat) (s : State) : State :=
  { s with dp := { s.dp with line := sput [] s.dp.line (2 * p + b2n tx) l } }

/-- A frame with nothing known of it yet. -/
def freshFrame (id port : Nat) (tx : Bool) : Frame :=
  { id := id, port := port, prio := 0, tx := tx, data := [], len := 0, ended := false, fwd := false, fail := 0,
    store := false, ts := 0, tagged := false, code := false, mirrorOf := none, mm := false, ctrl := false, consumed := false,
    discard := 0, space := 0,
    cells := 0, exec := none, leaf := 0, orig := none, dispatched := false, ctx := none, cluster := 0, endAt := 0,
    waited := false, prog := Prog.none,
    verdict := none, effective := false, rq := none, dead := false, unedited := false, noFcs := false,
    faultStatus := 0, marked := false, learns := [] }

/-- Put a frame into the store. -/
def addF (f : Frame) (s : State) : State :=
  { s with dp := { s.dp with nextFrame := s.dp.nextFrame + 1, frames := s.dp.frames ++ [f] } }

/-! ## The packet buffer (R169 to R173) -/

/-- Cells held on a port by frames that `f` picks. -/
def cellsOf (port : Nat) (f : Frame → Bool) (s : State) : Nat :=
  (s.dp.frames.filter (fun g => g.port == port && !g.dead && f g)).foldl (fun a g => a + g.cells) 0

def portCells (p : Nat) (s : State) : Nat := cellsOf p (fun _ => true) s
def ordCells (p : Nat) (s : State) : Nat := cellsOf p (fun g => g.space == 1) s
def prioCells (p q : Nat) (s : State) : Nat := cellsOf p (fun g => g.prio == q) s
def hdrmCells (p q : Nat) (s : State) : Nat := cellsOf p (fun g => g.space == 2 && g.prio == q) s
def poolCells (p : Nat) (s : State) : Nat := cellsOf p (fun g => g.space == 3) s

/-- Cells in `n` bytes. -/
def cellsIn (n : Nat) : Nat := (n + 255) / 256

/-- A port's quota in cells (R104), its frame reserve, and its modes. -/
def quotaCells (p : Nat) (s : State) : Nat := quota s.prof.cur p * 64
def maxLen (p : Nat) (s : State) : Nat := fg (loc .MP_RX_LEN p) F.MP_RX_LEN_MAX_LEN s
/-- (DEDUCED: log entry 31.) -/
def reserve (p : Nat) (s : State) : Nat := cellsIn (maxLen p s)
def sharedMode (s : State) : Bool := profMode s.prof.cur 2
def lossless (p q : Nat) (s : State) : Bool := bit (fg (loc .MP_RX_CFG p) F.MP_RX_CFG_PFC_LOSSLESS s) q
def hdrm (p q : Nat) (s : State) : Nat := fg (loc .MP_PFC_HDRM p q) F.MP_PFC_HDRM_HDRM s

/-- Ordinary space S of a port in headroom mode (R170). -/
def ordSpace (p : Nat) (s : State) : Nat :=
  quotaCells p s - ((List.range 8).filter (fun q => lossless p q s)).foldl (fun a q => a + hdrm p q s) 0

/-- Free cells of the shared pool (R171). -/
def poolFreeCells (s : State) : Nat :=
  98304 - (List.range 64).foldl (fun a p => a + quotaCells p s) 0 -
    (s.dp.frames.filter (fun g => g.space == 3 && !g.dead)).foldl (fun a g => a + g.cells) 0

/-- The admission test with `need` cells (R170, R171): where the frame is charged, or 0 where it is refused. (DEDUCED:
log entry 31.) -/
def admitSpace (p q need : Nat) (s : State) : Nat :=
  if sharedMode s then
    if portCells p s + need ≤ quotaCells p s then 1
    else if (poolCells p s + need) * 16 ≤ 2 ^ fg (loc .MP_SHARED_CFG p) F.MP_SHARED_CFG_ALPHA s * poolFreeCells s then 3
    else 0
  else if ordCells p s + need ≤ ordSpace p s then 1
  else if lossless p q s = true ∧ hdrmCells p q s + need ≤ hdrm p q s then 2
  else 0

/-- Count a refused admission (R170). (DEDUCED: log entry 31.) -/
def countRefusal (p q : Nat) (s : State) : State :=
  if lossless p q s then
    bump (cPort p (26 + q)) s |> setFlag (loc .MP_RX_EVENT p) F.MP_RX_EVENT_HDRM_OVERFLOW
  else bump (cPort p (18 + q)) s |> setFlag (loc .MP_RX_EVENT p) F.MP_RX_EVENT_BUF_DROP

/-- XOFF bits of a port (MP_RX_PAUSE_STATE). -/
def xoffBits (p : Nat) (s : State) : Nat := fg (loc .MP_RX_PAUSE_STATE p) F.MP_RX_PAUSE_STATE_XOFF s

/-- FC_MODE (MP_RX_CFG). -/
def fcMode (p : Nat) (s : State) : Nat := fg (loc .MP_RX_CFG p) F.MP_RX_CFG_FC_MODE s

/-- Priorities in XOFF or forced. -/
def xoffOrForced (p : Nat) (s : State) : Nat :=
  xoffBits p s ||| fg (loc .MP_TX_FC_FORCE p) F.MP_TX_FC_FORCE_FORCE_XOFF s

/-- FC_MODE 1: a priority is in XOFF, or FORCE_PAUSE is 1. -/
def pauseWanted (p : Nat) (s : State) : Bool :=
  xoffBits p s != 0 || fb (loc .MP_TX_FC_FORCE p) F.MP_TX_FC_FORCE_FORCE_PAUSE s

/-- Bits of `a` that are not in `b`. -/
def bitsGone (a b : Nat) : Nat := a &&& (a ^^^ b)

/-- The change from `old` to the present asks for a flow-control frame (R377). FC_MODE 2: a priority enters XOFF, a forced
bit becomes 1, or a priority is held off no longer. FC_MODE 1: the first lossless priority enters XOFF, FORCE_PAUSE becomes
1, or neither holds any longer. (DEDUCED: log entry 32.) -/
def fcAsked (p : Nat) (old s : State) : Bool :=
  let force := loc .MP_TX_FC_FORCE p
  match fcMode p s with
  | 2 =>
    bitsGone (xoffBits p s) (xoffBits p old) != 0 ||
    bitsGone (fg force F.MP_TX_FC_FORCE_FORCE_XOFF s) (fg force F.MP_TX_FC_FORCE_FORCE_XOFF old) != 0 ||
    bitsGone (xoffOrForced p old) (xoffOrForced p s) != 0
  | 1 =>
    (xoffBits p old == 0 && xoffBits p s != 0) ||
    (fb force F.MP_TX_FC_FORCE_FORCE_PAUSE s && !fb force F.MP_TX_FC_FORCE_FORCE_PAUSE old) ||
    (pauseWanted p old && !pauseWanted p s)
  | _ => false

/-- The priorities held off, or FORCE_PAUSE, changed from what they were in `old`: a flow-control frame may be due
(R377), and the priorities that have left are remembered until they are held off again or a frame says so. -/
def fcChange (p : Nat) (old s : State) : State :=
  let t := getTx p s
  let now := xoffOrForced p s
  if fcAsked p old s then
    setTx p { t with fcDue := true, left := (t.left ||| bitsGone (xoffOrForced p old) now) &&& (255 ^^^ now) } s
  else s

/-- XOFF of one priority, as R173 leaves it. -/
def xoffNow (p q : Nat) (s : State) : Bool :=
  let was := bit (xoffBits p s) q
  if lossless p q s then
    let c := prioCells p q s
    let a := loc .MP_PFC_THR p q
    let enter := decide (fg a F.MP_PFC_THR_XOFF s ≤ c) ||
      (!sharedMode s && decide (ordSpace p s < ordCells p s + reserve p s))
    enter || (was && !decide (c ≤ fg a F.MP_PFC_THR_XON s))
  else false

/-- Evaluate the XOFF conditions of a port (R173). (DEDUCED: log entry 32.) -/
def xoffEval (p : Nat) (s : State) : State :=
  let n := (List.range 8).foldl (fun a q => a + b2n (xoffNow p q s) * 2 ^ q) 0
  if n = xoffBits p s then s
  else fcChange p s (fs (loc .MP_RX_PAUSE_STATE p) F.MP_RX_PAUSE_STATE_XOFF n s)

/-! ## Dropping frames -/

/-- A dropped frame leaves the store once nothing refers to it: it is not being received, and no context runs on it or
its verdict has taken its turn (R192). -/
def reap (f : Nat) (s : State) : State :=
  match getF f s with
  | some g =>
    let r := getRx g.port s
    let arriving := r.cur == some f || (match r.asm with | some a => a.1 == f | none => false)
    if g.dead && !arriving && (!g.dispatched || g.effective) then
      setLine g.port g.tx ((lineOf g.port g.tx s).filter (· != f))
        { s with dp := { s.dp with frames := s.dp.frames.filter (fun h => h.id != f) } }
    else if g.dead && !g.dispatched then setLine g.port g.tx ((lineOf g.port g.tx s).filter (· != f)) s
    else s
  | none => s

/-- Drop a frame: its cells are freed (R169). -/
def dropF (f : Nat) (s : State) : State :=
  match getF f s with
  | some g => reap f (xoffEval g.port (setF { g with dead := true } s))
  | none => s

/-! ## The emitted frame (R195) -/

/-- A field of a frame's metadata. -/
def md (f : Frame) (off n : Nat) : Nat := u f.prog.md off n

def headOf (f : Frame) : Nat := md f 32 2 % 512
def hlenOf (f : Frame) : Nat := md f 34 2 % 512
def bodyOf (f : Frame) : Nat := md f 36 2 % 16384
def keepFcs (f : Frame) : Bool := bit (md f 39 1) 0

/-- Write `n` metadata bytes at `off`. -/
def putMd (off n v : Nat) (b : Bytes) : Bytes := b.take off ++ bytesLE n v ++ b.drop (off + n)

/-- The initial value of HLEN and BODY is known (R195). -/
def lenKnown (f : Frame) : Bool := f.ended || f.tx || decide (256 ≤ f.data.length)

/-- Give the pending bytes of HLEN and BODY their value once it is known (R195). -/
def resolvePend (f : Frame) : Frame :=
  if f.prog.pend = 0 ∨ lenKnown f = false then f
  else
    let v := min 256 (if f.ended || f.tx then f.len else 256)
    let put (i off val : Nat) (b : Bytes) : Bytes := if bit f.prog.pend i then putMd off 1 val b else b
    let b := f.prog.md |> put 0 34 (v % 256) |> put 1 35 (v / 256) |> put 2 36 (v % 256) |> put 3 37 (v / 256)
    { f with prog := { f.prog with md := b, pend := 0 } }

/-- Window byte `i` (R193): what the program stored, else the frame's byte, else 0. -/
def winByte (f : Frame) (i : Nat) : Byte :=
  match sget none f.prog.win i with
  | some b => b
  | none => f.data.getD i 0

/-- The emitted frame so far (R195): window bytes, then the original from BODY. -/
def emitted (f : Frame) : Bytes :=
  if f.unedited then f.data
  else (List.range (hlenOf f)).map (fun i => winByte f (headOf f + i)) ++ f.data.drop (bodyOf f)

/-- One's-complement sum of the 16-bit big-endian words of a byte string. -/
def sum16 : Bytes → Nat
  | [] => 0
  | [a] => a.toNat * 256
  | a :: b :: r => a.toNat * 256 + b.toNat + sum16 r

/-- Fold a sum to 16 bits. -/
def fold16 (n : Nat) : Nat :=
  let f (x : Nat) : Nat := x / 65536 + x % 65536
  f (f (f n))

/-- A big-endian 16-bit word of a byte string. -/
def be16 (b : Bytes) (off : Nat) : Nat := (b.getD off 0).toNat * 256 + (b.getD (off + 1) 0).toNat

/-- Replace bytes at `off`. -/
def putBytes (b : Bytes) (off : Nat) (v : Bytes) : Bytes := b.take off ++ v ++ b.drop (off + v.length)

/-- Big-endian bytes of a number. -/
def bytesBE (n v : Nat) : Bytes := (bytesLE n v).reverse

/-- Update a checksum field for a word that changed from `a` to `b`. -/
def csumFix (c a b : Nat) : Nat := 65535 - fold16 ((65535 - c) + (65535 - a) + b)

/-- Set the ECN field to CE where it holds ECT (R209). Answers whether it did. -/
def markEcn (b : Bytes) (l3 : Nat) : Bytes × Bool :=
  let v := (b.getD l3 0).toNat / 16
  let t := (b.getD (l3 + 1) 0).toNat
  if v = 4 ∧ l3 + 20 ≤ b.length ∧ (t % 4 = 1 ∨ t % 4 = 2) then
    let w := be16 b l3
    let b1 := putBytes b l3 (bytesBE 2 (w / 4 * 4 + 3))
    (putBytes b1 (l3 + 10) (bytesBE 2 (csumFix (be16 b (l3 + 10)) w (w / 4 * 4 + 3))), true)
  else if v = 6 ∧ l3 + 40 ≤ b.length ∧ (t / 16 % 4 = 1 ∨ t / 16 % 4 = 2) then
    (putBytes b (l3 + 1) [BitVec.ofNat 8 (t / 64 * 64 + 48 + t % 16)], true)
  else (b, false)

/-- The frame's verdict asks for a mark (R209). -/
def wantsMark (f : Frame) : Bool :=
  match f.verdict with
  | some v => v.mark && v.kind != .drop && !f.unedited
  | none => false

/-- The emitted frame with its mark, and whether a mark was made. -/
def finalBytes (f : Frame) : Bytes × Bool :=
  if wantsMark f then markEcn (emitted f) (md f 38 1) else (emitted f, false)

/-- A window byte has not arrived (R193). -/
def notArrived (f : Frame) (i : Nat) : Bool := (sget none f.prog.win i).isNone && !f.ended && decide (f.data.length ≤ i)

/-- The first bytes of the emitted frame of a frame that has not ended, as far as they have arrived, and a length that the
emitted frame will at least have. HLEN, or BODY, may be pending (R195): a pending HLEN is no less than what has arrived. -/
def emittedSoFar (f : Frame) : Bytes × Nat :=
  if f.unedited then (f.data, f.data.length)
  else if bits f.prog.pend 1 0 = 1 ∨ bits f.prog.pend 1 0 = 2 then ([], 0)
  else
    let open_ := bits f.prog.pend 1 0 == 3
    let h := if open_ then min 256 f.data.length else hlenOf f
    let have' := ((List.range h).map (fun i => headOf f + i)).takeWhile (fun i => !notArrived f i)
    let w := have'.map (winByte f)
    let rest := if open_ || bits f.prog.pend 3 2 != 0 then [] else f.data.drop (bodyOf f)
    (if have'.length = h then w ++ rest else w, h + rest.length)

/-- The part of an incomplete byte string on which a mark at `l3` is decided, marked: the IP header's first byte says how
far the header reaches, and no byte before its second changes (R209). -/
def markedPrefix (b : Bytes) (l3 : Nat) : Bytes :=
  let v := (b.getD l3 0).toNat / 16
  let need := if v = 4 then 20 else if v = 6 then 40 else 1
  if l3 + need ≤ b.length then (markEcn b l3).1 else b.take (l3 + 1)

/-- Bytes of a received frame's emitted frame that can pass on now, its last `strip` bytes kept back (R27, R196). -/
def passable (strip : Nat) (f : Frame) : Bytes :=
  if f.ended then (let b := (finalBytes f).1; b.take (b.length - strip))
  else
    let e := emittedSoFar f
    let b := if wantsMark f then markedPrefix e.1 (md f 38 1) else e.1
    b.take (e.2 - strip)

/-- Bytes of a received frame that may be delivered now (R27, R196): all but its last 4, which are its check sequence,
unless KEEP_FCS is 1. -/
def deliverable (f : Frame) : Bytes := passable (if f.noFcs || (keepFcs f && !f.unedited) then 0 else 4) f

/-- A received frame as it enters transmission (R196): its emitted frame less its last 4 bytes. -/
def forwardBytes (f : Frame) : Bytes := passable (if f.noFcs then 0 else 4) f

/-! ## Checksums (R205, R206) -/

/-- Length of the IP datagram at `ip`, and its protocol-independent address bytes for the pseudo-header. -/
def ipLength (b : Bytes) (ip : Nat) : Option (Nat × Bytes) :=
  let v := (b.getD ip 0).toNat / 16
  if v = 4 then some (be16 b (ip + 2), (b.drop (ip + 12)).take 8)
  else if v = 6 then some (40 + be16 b (ip + 4), (b.drop (ip + 8)).take 32)
  else none

/-- The checksum sum over pseudo-header and layer-4 bytes of a registered slot: `n` bytes of layer 4. -/
def l4Sum (b : Bytes) (c : Csum) (addrs : Bytes) (n : Nat) : Nat :=
  fold16 (sum16 addrs + n + (if c.udp then 17 else 6) + sum16 ((b.drop c.l4).take n))

/-- Offset of the checksum field of a slot. -/
def csumField (c : Csum) : Nat := c.l4 + (if c.udp then 6 else 16)

/-- Outcome of a receive checksum slot (R206): 0 NONE, 1 GOOD, 2 BAD, 3 UNCHECKED. `b` is the frame without its last 4
bytes. -/
def rxCsum (slot : Option Csum) (b : Bytes) : Nat :=
  match slot with
  | none => 0
  | some c =>
    if b.length < c.ip + 1 then 3
    else match ipLength b c.ip with
      | none => 3
      | some (n, addrs) =>
        let v4 := (b.getD c.ip 0).toNat / 16 == 4
        let hdr := if v4 then max 20 (4 * ((b.getD c.ip 0).toNat % 16)) else 40
        let l4h := if c.udp then 8 else max 20 (4 * ((b.getD (c.l4 + 12) 0).toNat / 16))
        if b.length < c.ip + n ∨ b.length < c.ip + hdr ∨ b.length < c.l4 + l4h then 3
        else if c.ip + n < c.l4 then Config.rxCsumOpen c.ip c.l4 % 4
        else if c.udp && v4 && be16 b (csumField c) == 0 then 3
        else if c.udp && !v4 && be16 b (csumField c) == 0 then 2
        else if l4Sum b c addrs (c.ip + n - c.l4) = 65535 then 1 else 2

/-! ## Receive completions (R263) -/

/-- PROGRAM_FAULT and ENGINE_ERROR (R216). -/
def stProgramFault : Nat := 0x46
def stEngineError : Nat := 0x47

/-- Sum of a post's fragment lengths. -/
def capacity (e : Exec) : Nat := fragTotal e.frags

/-- The completion of a receive post (R263): the first status in the order of R165, then PROGRAM_FAULT, then an access
error, then RX_BUFFER_SHORT, then OK. -/
def rxCpl (e : Exec) (f : Frame) (s : State) : Cpl :=
  let k := getSq e.sq s
  let n := (deliverable f).length
  let cut := decide (capacity e < n)
  let st := if f.fail ≠ 0 then f.fail else if f.faultStatus ≠ 0 then f.faultStatus
    else if e.err ≠ 0 then e.err else if cut then St.rxBufferShort else St.ok
  let body := f.data.take (f.data.length - 4)
  { status := st, rx := true, tsValid := true, trunc := cut, marked := f.marked || (finalBytes f).2,
    fcsKept := keepFcs f && !f.unedited && !f.noFcs && !cut, handle := k.handle, entry := e.pos, len := e.issued,
    user := md f 16 8, ts := time72 f.ts, hash := md f 40 4, port := f.port,
    csum0 := rxCsum f.prog.slot0 body, csum1 := rxCsum f.prog.slot1 body, prio := f.prio }

/-- Finish a delivery once the frame has ended, everything is written, and every write has its response (R265). -/
def rxFinish (x : Nat) (s : State) : State :=
  match getX x s with
  | none => s
  | some e =>
    match e.frame.bind (fun f => getF f s) with
    | none => s
    | some f =>
      if f.ended && e.phase == .data && e.out == 0 && !e.parked && e.cpl.isNone &&
          (e.err != 0 || decide (min (deliverable f).length (capacity e) ≤ e.issued)) then
        dropF f.id (finishExec x (rxCpl e f s).bytes s)
      else s

/-- Write what may be delivered now into the post's fragments, in order, in bursts that cross no 512-byte boundary. -/
def rxAdvance (x : Nat) (s : State) : State :=
  match getX x s with
  | none => s
  | some e =>
    match e.frame.bind (fun f => getF f s) with
    | none => s
    | some f =>
      if e.phase ≠ .data ∨ e.err ≠ 0 ∨ e.cpl.isSome = true then s
      else
        let b := deliverable f
        let n := min b.length (capacity e)
        let k := getSq e.sq s
        let parts := (fragSpan e.frags 0 e.issued (n - e.issued)).flatMap (fun p => bursts (p.2.2 + 1) p.1 p.2.1 p.2.2)
        let s1 := setX { e with issued := max e.issued n, out := e.out + parts.length } s
        let s2 := forEach parts (fun p t => access
          { chan := cqChan k.cq, func := k.func, iova := p.1, len := p.2.2, write := true,
            data := (b.drop p.2.1).take p.2.2, snoop := k.snoop, purpose := .rxData x p.2.1 } t) s1
        rxFinish x s2

/-- Read an entry's fragment table (R265 step 2): one request per 512 bytes. -/
def readTable (x : Nat) (s : State) : State :=
  match getX x s with
  | none => s
  | some e =>
    let k := getSq e.sq s
    let n := 16 * u e.raw 6 2
    let parts := bursts (n + 1) (u e.raw 16 8) 0 n
    let s1 := setX { e with phase := .table, tbl := List.replicate n 0, out := parts.length } s
    forEach parts (fun p t => access
      { chan := cqChan k.cq, func := k.func, iova := p.1, len := p.2.2, purpose := .sqTable x p.2.1 } t) s1

/-! ## Waiting frames (R273, R274) -/

/-- The first post of a receive queue that no frame has taken. -/
def freePost (q : Nat) (s : State) : Option Exec :=
  s.wq.execs.find? (fun e => e.sq == q && e.phase == .accepted && e.cpl.isNone && e.frame.isNone)

/-- Start the delivery of a queue's waiting frames, in arrival order, while posts and places last; none while the queue's
channel moves to another host memory port (R479). -/
def rxStart (q : Nat) : Nat → State → State
  | 0, s => s
  | n + 1, s =>
    let k := getSq q s
    match k.waiting with
    | [] => s
    | f :: rest =>
      if k.state ≠ .active ∨ s.sv.hmpChan = some (cqChan k.cq) then s
      else match freePost q s with
        | none => s
        | some e =>
          let r := if e.placed then (true, e.fromPool, s) else reservePlace k.cq s
          if r.1 = false then r.2.2
          else
            let s1 := setSq q { getSq q r.2.2 with waiting := rest } r.2.2
              |> setX { e with frame := some f, placed := true, fromPool := r.2.1, phase := .data }
            let s2 := match getF f s1 with
              | some g => setF { g with exec := some e.id } s1
              | none => s1
            let s3 := if entryIndirect e.raw then readTable e.id s2 else rxAdvance e.id s2
            rxStart q n s3

/-- Start what can be started of a receive queue. -/
def rxKick (q : Nat) (s : State) : State := rxStart q (getSq q s).waiting.length s

/-- A frame that its destination cannot take is a mirror copy: it is counted in MIRROR_DROP (R208). -/
def copyDropped (f : Nat) (s : State) : State :=
  match (getF f s).bind (·.mirrorOf) with
  | some cl => bump (cClus cl 6) s
  | none => s

/-- A frame is dropped under its hold budget (R273, R274): for want of a completion place where the queue holds a post,
else for want of a post. -/
def holdDrop (q f : Nat) (s : State) : State :=
  let k := getSq q s
  let noPost := (freePost q s).isNone
  let s1 := setSq q { k with waiting := k.waiting.filter (· != f) } s
  let s2 := if noPost then
      bump (cFunc k.func 1) s1 |> bump (cWq 5) |> setFlag (loc .WQ_EVENT) F.WQ_EVENT_RX_NO_BUFFER_DROP
    else bump (cFunc k.func 0) s1 |> bump (cWq 4) |> setFlag (loc .WQ_EVENT) F.WQ_EVENT_RX_NO_ROOM_DROP
  dropF f (cqRecord k.cq St.rxNoCompletionRoom 0x06 q (b2n noPost + k.func * 65536) (some k.func) (copyDropped f s2))

/-- Receive queue of a group and hash (R279); none where the frame is dropped. -/
def groupQueue (g hash : Nat) (s : State) : Option Nat :=
  if 16384 ≤ g then none
  else
    let e := sget ⟨false, 0, 0⟩ s.wq.groups g
    let m := sget (false, 0) s.wq.members (e.base + hash % 2 ^ e.logSize)
    let k := getSq m.2 s
    if e.valid && m.1 && k.rx && k.state == .active then some m.2 else none

/-- Deliver a frame to a receive-queue group (R279). A frame that cannot start at once waits under the queue's hold
budget; with HOLD = 0 it is dropped (R274). (DEDUCED: log entry 56.) -/
def deliverTo (g f : Nat) (s : State) : State :=
  match getF f s with
  | none => s
  | some fr =>
    match groupQueue g (md fr 40 4) s with
    | none => dropF f (bump (cWq 6) (copyDropped f s))
    | some q =>
      let k := getSq q s
      let s1 := setF { fr with rq := some q } (setSq q { k with waiting := k.waiting ++ [f] } s)
      let s2 := rxKick q s1
      if (getSq q s2).waiting.contains f then
        if k.hold = 0 then holdDrop q f s2 else occur (cWq 8) s2
      else s2

/-! ## Data of transmit entries (R265, R371) -/

/-- Begin a transmit entry's data reads, in fragment order. -/
def txReads (x : Nat) (s : State) : State :=
  match getX x s with
  | none => s
  | some e =>
    let k := getSq e.sq s
    let n := fragTotal e.frags
    let parts := (fragSpan e.frags 0 0 n).flatMap (fun p => bursts (p.2.2 + 1) p.1 p.2.1 p.2.2)
    let s1 := setX { e with phase := .data, issued := n, out := parts.length } s
    forEach parts (fun p t => access
      { chan := cqChan k.cq, func := k.func, iova := p.1, len := p.2.2, snoop := k.snoop,
        purpose := .txData x p.2.1 } t) s1

/-- Give a transmitted frame the bytes of its entry that have arrived. -/
def txArrived (x : Nat) (s : State) : State :=
  match getX x s with
  | none => s
  | some e =>
    match e.frame.bind (fun f => getF f s) with
    | none => s
    | some f =>
      let n := prefixLen e.pieces (e.pieces.length + 1) 0
      setF { f with data := gather e.pieces 0 n, ended := decide (f.len ≤ n) } s

end Sys2Proof.Machine
end

