-- ==== Sys2Proof/Machine/Sched.lean ====
section
/-!
DEFINITION. The transmit scheduler (spec/12): node records, eligibility, deficit round robin, charges, token buckets,
the projection, and gate calendars.
-/

namespace Sys2Proof.Machine

/-- Port of a leaf's tree, where every node on its path is VALID (R346). -/
def leafPort (l : Nat) (s : State) : Option Nat :=
  let p := leafPath l s
  if p.all (fun c => nodeValid c s) then (p.getLast?).map nodeNum else none

def getSp (p : Nat) (s : State) : ScPort := sget ScPort.reset s.sc.ports p
def setSp (p : Nat) (v : ScPort) (s : State) : State :=
  { s with sc := { s.sc with ports := sput ScPort.reset s.sc.ports p v } }

/-! ## Token buckets (R355 to R357) -/

def levelC (c : Nat) (s : State) : Int := sget 0 s.sc.lvlC c
def levelP (c : Nat) (s : State) : Int := sget 0 s.sc.lvlP c
def setLevelC (c : Nat) (v : Int) (s : State) : State := { s with sc := { s.sc with lvlC := sput 0 s.sc.lvlC c v } }
def setLevelP (c : Nat) (v : Int) (s : State) : State := { s with sc := { s.sc with lvlP := sput 0 s.sc.lvlP c v } }

/-- Record whose bucket fields are in force. -/
def inForce (c : Nat) (s : State) : Bytes := sget [] s.sc.force c
def setForce (c : Nat) (b : Bytes) (s : State) : State := { s with sc := { s.sc with force := sput [] s.sc.force c b } }

/-- Committed bucket enabled: a leaf has none. -/
def cenOf (c : Nat) (s : State) : Bool := recCen (inForce c s) && decide (1 ≤ nodeLevel c)
def penOf (c : Nat) (s : State) : Bool := recPen (inForce c s)

/-- A node is committed (R349). -/
def committed (c : Nat) (s : State) : Bool := cenOf c s && decide (0 < levelC c s)

/-- The peak bucket lets a node send (R350). (DEDUCED: log entry 67.) -/
def peakOk (c : Nat) (s : State) : Bool := !penOf c s || decide (0 < levelP c s)

/-- Take `n` bytes from every enabled bucket of a node; a negative number returns bytes. (DEDUCED: log entry 67.) -/
def chargeNode (n : Int) (c : Nat) (s : State) : State :=
  let s1 := if cenOf c s then setLevelC c (levelC c s - n * 64) s else s
  if penOf c s then setLevelP c (levelP c s1 - n * 64) s1 else s1

/-- Level after a refill: at enable the burst, else the level plus the rate, clipped to the burst (R356, R357). (DEDUCED: log
entry 67.) -/
def refilled (lvl : Int) (rate burst : Nat) (full : Bool) : Int :=
  if full then 64 * (burst : Int) else min (lvl + (rate : Int)) (64 * (burst : Int))

/-- Refill a node's buckets, first applying the record that waits for it (R356, R357). -/
def refillNode (c : Nat) (s : State) : State :=
  if nodeRec c s = [] then s
  else
    let w := sget 0 s.sc.next c
    let old := inForce c s
    let new := if w = 0 then old else nodeRec c s
    let s1 := setForce c new { s with sc := { s.sc with next := sput 0 s.sc.next c 0 } }
    let s2 := if cenOf c s1 then
        setLevelC c (refilled (levelC c s) (recCir new) (recCbs new) (!recCen old)) s1
      else s1
    if penOf c s2 then
      setLevelP c (refilled (levelP c s) (recPir new) (recPbs new) (!recPen old)) s2
    else s2

/-! ## Charges of heads (R353) -/

/-- LEN of a frame that is forwarded: the emitted length less the FCS, a free value until the frame has ended (R353). (DESIGN
CHOICE: log entry 69.) -/
def forwardLen (g : Frame) : Nat := if g.ended then (forwardBytes g).length else Config.cutThroughLen g.id

/-- LEN of a head (R353). -/
def itemLen (i : TxItem) (s : State) : Nat :=
  match i with
  | .exec x => match getX x s with
    | some e => u e.raw 4 2
    | none => 0
  | .frame f => match getF f s with
    | some g => forwardLen g
    | none => 0

/-- OVERHEAD of a port, signed (R353). -/
def overhead (p : Nat) (s : State) : Int :=
  let v := fg (scLoc .SC_PCFG p) F.SC_PCFG_OVERHEAD s
  if v < 128 then (v : Int) else (v : Int) - 256

/-- Charge of a frame of `n` bytes at a port (R353). -/
def chargeOf (p n : Nat) (s : State) : Int := (max n 60 + 4 : Nat) + overhead p s

/-! ## Wire time and gates (R358, R360 to R364) -/

/-- Wire time of a number of bytes at a port, in units of 2^-48 ns (R358). -/
def wireTime (p n : Nat) (s : State) : Nat :=
  let r := portBps p s
  if r = 0 then Config.wireAtRateZero n else n * 8 * 1000000000 * nsU / r

/-- Wire time of a charge, which may be negative. -/
def wireInt (p : Nat) (n : Int) (s : State) : Int :=
  if n < 0 then -(wireTime p n.natAbs s : Int) else (wireTime p n.natAbs s : Int)

/-- Entry of a calendar at an offset in ns from the start of a cycle: its index, its open classes, and its end. -/
def calEntry : List (Nat × Nat) → Nat → Nat → Nat → Option (Nat × Nat × Nat)
  | [], _, _, _ => none
  | (d, o) :: r, i, base, off => if off < base + d then some (i, o, base + d) else calEntry r (i + 1) (base + d) off

/-- Entry in force at time `t`, in units of 2^-48 ns of block time: index, open classes, and the instant it ends.
(DEDUCED: log entry 68.) -/
def calAt (c : Calendar) (t : Nat) : Option (Nat × Nat × Nat) :=
  if c.cycle = 0 then none
  else
    let off := ((t : Int) - (c.start * nsU : Nat)) % (c.cycle * nsU : Nat)
    match calEntry c.entries 0 0 (off.toNat / nsU) with
    | some (i, o, e) => some (i, o, t + (e * nsU - off.toNat))
    | none => none

/-- Class `k` is open in every entry, and in no entry. -/
def allOpen (c : Calendar) (k : Nat) : Bool := c.entries.all (fun e => bit e.2 k)
def neverOpen (c : Calendar) (k : Nat) : Bool := !c.entries.any (fun e => bit e.2 k)

/-- The calendar that governed at `t`, the present one being `cur` (R361). -/
def pastCal (t : Nat) (cur : Option Calendar) : List (Nat × Option Calendar) → Option Calendar
  | [] => cur
  | (a, c) :: r => if a ≤ t then cur else pastCal t c r

/-- The calendar in force at `t` (R361): the pending one from its activation instant, none where every class is open. -/
def calFor (p t : Nat) (s : State) : Option Calendar :=
  let v := getSp p s
  match v.pendingCal with
  | some (c, a, _, _) => if a * nsU ≤ t then some c else pastCal t v.active v.past
  | none => pastCal t v.active v.past

/-- Class `k` is open at `t` (R362). -/
def classOpen (p k t : Nat) (s : State) : Bool :=
  match calFor p t s with
  | none => true
  | some c => match calAt c t with
    | some (_, o, _) => bit o k
    | none => true

/-- The instants at which one calendar gives way to another (R361). -/
def calChanges (p : Nat) (s : State) : List Nat :=
  let v := getSp p s
  v.past.map (·.1) ++ (match v.pendingCal with | some (_, a, _, _) => [a * nsU] | none => [])

/-- The next instant after `t` at which class `k` of the port could close: the end of the entry in force, or a change of
calendar. -/
def segEnd (p k t : Nat) (s : State) : Option Nat :=
  let own := match calFor p t s with
    | none => none
    | some c => if allOpen c k then none else (calAt c t).map (fun e => e.2.2)
  ((calChanges p s).filter (fun a => decide (t < a))).foldl (fun o a => some (min a (o.getD a))) own

/-- End of the window of class `k` that contains `t`, from an instant in it (R362); none where it never ends. -/
def windowEnd (p k : Nat) (s : State) : Nat → Nat → Option Nat
  | 0, _ => none
  | n + 1, t =>
    match segEnd p k t s with
    | none => none
    | some e => if classOpen p k e s then windowEnd p k s n e else some e

/-- Steps that a search for a window's end may take: every entry of every calendar, twice, and every change. -/
def windowFuel (p : Nat) (s : State) : Nat :=
  let v := getSp p s
  let n (c : Option Calendar) : Nat := match c with | some c => c.entries.length | none => 0
  4 + 2 * n v.active + 2 * n (v.pendingCal.map (·.1)) + v.past.foldl (fun a c => a + 2 * n c.2 + 1) 0

/-- (DEDUCED: log entry 68.) -/
def windowOf (p k t : Nat) (s : State) : Option Nat := windowEnd p k s (windowFuel p s) t

/-- Longest run of open entries (R362). -/
def longestRun (k : Nat) : List (Nat × Nat) → Nat → Nat → Nat
  | [], cur, best => max cur best
  | (d, o) :: r, cur, best =>
    if bit o k then longestRun k r (cur + d) best else longestRun k r 0 (max cur best)

/-- Longest window of a class in ns; none where it is unlimited (R362). -/
def longestWindow (c : Option Calendar) (k : Nat) : Option Nat :=
  match c with
  | none => none
  | some c => if allOpen c k then none else some (longestRun k (c.entries ++ c.entries) 0 0)

/-- MAC merge transmission is active (R381), and ADD_FRAG (MP_MM_CTRL). -/
def mmActive (p : Nat) (s : State) : Bool := fb (loc .MP_MM_STATUS p) F.MP_MM_STATUS_ACTIVE s
def addFrag (p : Nat) (s : State) : Nat := fg (loc .MP_MM_CTRL p) F.MP_MM_CTRL_ADD_FRAG s

/-- A class is preemptable (R366, R381). -/
def preemptable (p k : Nat) (s : State) : Bool :=
  mmActive p s && bit (fg (loc .MP_MM_CTRL p) F.MP_MM_CTRL_PREEMPT_MASK s) k

/-- F: wire time of a frame of `n` bytes with preamble and delimiter (R363). -/
def fitTime (p n : Nat) (s : State) : Nat := wireTime p (max n 60 + 4 + 8) s

/-- Wire time a preemptable frame needs in its window: its minimum first fragment (R366, R382). -/
def firstFragTime (p n : Nat) (s : State) : Nat :=
  if max n 60 + 4 < 64 * (2 + addFrag p s) then fitTime p n s else wireTime p (12 + 64 * (1 + addFrag p s)) s

/-- The gate and fit check of a frame of `n` bytes and class `k` at `t` (R363, R366). (DEDUCED: log entry 68.) -/
def gateFit (p k n t : Nat) (pre : Bool) (s : State) : Bool :=
  classOpen p k t s &&
    (match windowOf p k t s with
     | none => true
     | some e => decide (t + (if pre then firstFragTime p n s else fitTime p n s) ≤ e))

/-- A frame that no window can hold (R364): not preemptable, and longer than its class's longest window; a class with
no window waits (R363). -/
def exceedsWindow (p k n : Nat) (pre : Bool) (s : State) : Bool :=
  if pre then false
  else match longestWindow (getSp p s).active k with
    | none => false
    | some w => decide (w ≠ 0) && decide (w * nsU < fitTime p n s)

/-! ## Received flow control (R359) -/

/-- Priorities whose received pause timer runs. -/
def pausedPrios (p : Nat) (s : State) : List Nat := (List.range 8).filter (fun q => sget 0 (getRx p s).pause q != 0)

/-- A band is paused; a service is paused. -/
def bandPaused (p b : Nat) (s : State) : Bool :=
  let m := rd64 (scLoc .SC_PFC_BANDS p) s
  (pausedPrios p s).any (fun q => bit m (8 * q + b))
def servicePaused (p c : Nat) (s : State) : Bool := (pausedPrios p s).any (fun q => bit (recPfc (nodeRec c s)) q)

/-! ## Eligibility (R350) -/

/-- LEAD in units of 2^-48 ns, the projected start of a selection made now, and that instant on block time. -/
def leadTime (p : Nat) (s : State) : Nat := fg (scLoc .SC_PCFG p) F.SC_PCFG_LEAD s * nsU
def projected (p : Nat) (s : State) : Nat := max (getSp p s).pe (s.tb.refill + leadTime p s)
def projectedBlock (p : Nat) (s : State) : Nat := s.tb.time + (projected p s - s.tb.refill)

def leafEligible (p c : Nat) (s : State) : Bool :=
  let b := recBand (nodeRec c s)
  match leafHead (nodeNum c) s with
  | none => false
  | some i => peakOk c s && !bandPaused p b s &&
      gateFit p b (itemLen i s) (projectedBlock p s) (preemptable p b s) s

def subEligible (p c : Nat) (s : State) : Bool := peakOk c s && (children c s).any (fun l => leafEligible p l s)

def svcEligible (p c : Nat) (s : State) : Bool :=
  peakOk c s && !servicePaused p c s && (children c s).any (fun b => subEligible p b s)

/-! ## Deficit round robin (R351) -/

/-- Key of a parent's turn in a pass and a band or priority. -/
def turnKey (parent pass k : Nat) : Nat := (2 * parent + pass) * 8 + k

/-- The child after `cur` in number order, round again from the first. -/
def nextChild (cur : Nat) (cs : List Nat) : Option Nat := (cs.find? (fun c => cur < c + 1)).orElse (fun _ => cs.head?)

/-- Pass the turn on until a child's deficit covers its head's charge. -/
def dwrrTurn (key pass : Nat) (cost : Nat → Int) (cs : List Nat) : Nat → Nat → State → Option (Nat × State)
  | 0, _, _ => none
  | n + 1, cur, s =>
    match nextChild cur cs with
    | none => none
    | some c =>
      let d := deficitOf c pass s + quantumBytes c s
      let s1 := setDeficit c pass d s
      if cost c ≤ (d : Int) then
        some (c, setDeficit c pass ((d : Int) - cost c).toNat
          { s1 with sc := { s1.sc with turn := sput 0 s1.sc.turn key (c + 1) } })
      else dwrrTurn key pass cost cs n (c + 1) s1

/-- Choose among eligible children: the child whose turn it is while its deficit covers the charge, else the next. -/
def dwrr (key pass : Nat) (cost : Nat → Int) (cs : List Nat) (s : State) : Option (Nat × State) :=
  let cur := sget 0 s.sc.turn key
  let held := cs.find? (fun c => c + 1 == cur && decide (cost c ≤ (deficitOf c pass s : Int)))
  match held with
  | some c => some (c, setDeficit c pass ((deficitOf c pass s : Int) - cost c).toNat s)
  | none => dwrrTurn key pass cost cs (300 * (cs.length + 1)) cur s

/-! ## The walk (R349) -/

/-- Charge of the head of a leaf. -/
def leafCharge (p c : Nat) (s : State) : Int :=
  match leafHead (nodeNum c) s with
  | some i => chargeOf p (itemLen i s) s
  | none => 0

/-- Step 3: the highest band with an eligible leaf, and round robin among its eligible leaves. -/
def pickLeaf (p c : Nat) (s : State) : Option (Nat × State) :=
  let ls := (children c s).filter (fun l => leafEligible p l s)
  let band := ls.foldl (fun a l => max a (recBand (nodeRec l s))) 0
  dwrr (turnKey c 0 band) 0 (fun l => leafCharge p l s) (ls.filter (fun l => recBand (nodeRec l s) == band)) s

/-- Charge of the head that a walk from a subscriber reaches. -/
def subCharge (p c : Nat) (s : State) : Int :=
  match pickLeaf p c s with
  | some r => leafCharge p r.1 s
  | none => 0

/-- Children of a pass: the committed ones if there are any (pass 0), else all (pass 1). -/
def passOf (cs : List Nat) (s : State) : Nat × List Nat :=
  let com := cs.filter (fun c => committed c s)
  if com = [] then (1, cs) else (0, com)

/-- Step 2: round robin within the pass among a service's subscribers, and then step 3. (DEDUCED: log entry 66.) -/
def pickSub (p c : Nat) (s : State) : Option (List Nat × State) :=
  let ps := passOf ((children c s).filter (fun b => subEligible p b s)) s
  match dwrr (turnKey c ps.1 0) ps.1 (fun b => subCharge p b s) ps.2 s with
  | none => none
  | some (b, s1) => (pickLeaf p b s1).map (fun r => ([r.1, b], r.2))

/-- Charge of the head that a walk from a service reaches. -/
def svcCharge (p c : Nat) (s : State) : Int :=
  match pickSub p c s with
  | some (l :: _, _) => leafCharge p l s
  | _ => 0

/-- Step 1: the pass and the highest priority among a port's services, and then step 2. Answers leaf, subscriber and
service. (DEDUCED: log entry 66.) -/
def pickSvc (p : Nat) (s : State) : Option (List Nat × State) :=
  let c := nodeCode 3 p
  let ps := passOf ((children c s).filter (fun v => svcEligible p v s)) s
  let prio := ps.2.foldl (fun a v => max a (recBand (nodeRec v s))) 0
  match dwrr (turnKey c ps.1 prio) ps.1 (fun v => svcCharge p v s)
      (ps.2.filter (fun v => recBand (nodeRec v s) == prio)) s with
  | none => none
  | some (v, s1) => (pickSub p v s1).map (fun r => (r.1 ++ [v], r.2))

/-! ## Charges (R353, R354) -/

/-- The selection that a transmitted frame comes from. -/
def selOf (p f : Nat) (s : State) : Option Sel := (getSp p s).sels.find? (fun x => x.frame == f)
def setSel (p : Nat) (x : Sel) (s : State) : State :=
  let v := getSp p s
  setSp p { v with sels := v.sels.map (fun y => if y.frame = x.frame then x else y) } s
def dropSel (p f : Nat) (s : State) : State :=
  let v := getSp p s
  setSp p { v with sels := v.sels.filter (fun y => y.frame != f) } s

/-- Change a selection's charge to `n` on its path, and move PE by the wire time of the difference (R354, R358). -/
def adjustCharge (p f : Nat) (n : Int) (s : State) : State :=
  match selOf p f s with
  | none => s
  | some x =>
    let s1 := forEach x.path (chargeNode (n - x.charge)) s
    let v := getSp p s1
    setSel p { x with charge := n }
      (setSp p { v with pe := ((v.pe : Int) + wireInt p n s - wireInt p x.charge s).toNat } s1)

/-- Return a selection's whole charge (R354), and forget the selection. -/
def returnCharge (p f : Nat) (s : State) : State := dropSel p f (adjustCharge p f 0 s)

/-- The port sends `n` bytes of frames: they count in SC_ABOVE_COMMIT while its committed level is at or below 0 (R349). (DEDUCED:
log entry 67.) -/
def countAbove (p n : Nat) (s : State) : State :=
  let c := nodeCode 3 p
  if cenOf c s && decide (levelC c s ≤ 0) then bumpBy (cPort p 60) n s else s

/-- Charge of a selected frame whose emitted length has become `n` (R353, R354): OVERHEAD is that of its selection (R367). -/
def chargeNow (p f n : Nat) (s : State) : Int :=
  match selOf p f s with
  | some x => (max n 60 + 4 : Nat) + x.extra
  | none => chargeOf p n s

/-! ## Selection -/

/-- An event bit of a port (SC_EVENT): 0 GATE_LATE, 1 EXCEEDS, 2 FWD_DROP, 3 GATE_ACTIVE. -/
def scEvent (p i : Nat) (s : State) : State := setFlags (loc .SC_EVENT (p / 4)) (2 ^ (4 * (p % 4) + i)) s

/-- Remove a frame from a leaf's FIFO. (DEDUCED: log entry 69.) -/
def fifoDrop (l f : Nat) (s : State) : State :=
  { s with sc := { s.sc with fifo := sput [] s.sc.fifo l ((sget [] s.sc.fifo l).filter (· != f)) } }

/-- A head whose frame no window can hold is not selected (R364): its entry completes with FRAME_EXCEEDS_WINDOW, or its
frame is dropped and counted. -/
def refuseHead (p l : Nat) (i : TxItem) (s : State) : State :=
  match i with
  | .exec x => scEvent p 1 (failExec x St.frameExceedsWindow s)
  | .frame f => scEvent p 1 (bump (cPort p 62) (dropF f (fifoDrop l f s)))

/-- Refuse the heads of a port's leaves that R364 refuses. -/
def refuseHeads (p : Nat) : Nat → State → State
  | 0, s => s
  | n + 1, s =>
    if (getSp p s).active.isNone then s
    else
      let ls := (children (nodeCode 3 p) s).flatMap (fun v => (children v s).flatMap (fun b => children b s))
      let bad := ls.filterMap (fun l =>
        match leafHead (nodeNum l) s with
        | none => none
        | some i =>
          let k := recBand (nodeRec l s)
          if exceedsWindow p k (itemLen i s) (preemptable p k s) s then some (nodeNum l, i) else none)
      match bad with
      | [] => s
      | (l, i) :: _ => refuseHeads p n (refuseHead p l i s)

/-- The transmit frame of a selected head. -/
def txFrame (id p l : Nat) (i : TxItem) (s : State) : Frame :=
  match i with
  | .exec x =>
    match getX x s with
    | some e => { freshFrame id p true with prio := u e.raw 2 1 % 8, len := u e.raw 4 2, exec := some x, leaf := l }
    | none => freshFrame id p true
  | .frame f =>
    match getF f s with
    | some g =>
      { freshFrame id p true with prio := g.prio, data := forwardBytes g, len := forwardLen g, ended := g.ended, fwd := true,
                                  leaf := l, orig := some f, noFcs := true }
    | none => freshFrame id p true

/-- Start the execution of a selected entry (R265 steps 2 and 3). -/
def startTx (x id : Nat) (s : State) : State :=
  match getX x s with
  | some e =>
    let s1 := setX { e with frame := some id } s
    if entryIndirect e.raw then readTable x s1 else txReads x s1
  | none => s

/-- Give the chosen leaf's head to the port: charge it, advance PE, and put it in the order of dispatch (R349, R353,
R358, R192). -/
def commitSel (p : Nat) (path : List Nat) (s : State) : State :=
  match path with
  | [] => s
  | c :: _ =>
    let l := nodeNum c
    match leafHead l s with
    | none => s
    | some i =>
      let n := itemLen i s
      let ch := chargeOf p n s
      let full := path ++ [nodeCode 3 p]
      let id := s.dp.nextFrame
      let k := recBand (nodeRec c s)
      let sel : Sel :=
        { item := i, leaf := l, path := full, charge := ch, len := n, cls := k,
          start := projectedBlock p s, frame := id, ready := false, extra := overhead p s }
      let start := projected p s
      let s1 := forEach full (chargeNode ch) s
      let v := getSp p s1
      let s2 := setSp p { v with pe := ((start : Int) + wireInt p ch s).toNat, sels := v.sels ++ [sel] } s1
        |> addF (txFrame id p l i s)
      let s3 := setLine p true (lineOf p true s2 ++ [id]) s2
      match i with
        | .exec x => startTx x id s3
        | .frame f => fifoDrop l f s3

/-- The scheduler may select for a port (R350, R358): the core runs, the block enters no power state (R437) and is not a
STANDBY (R486), the port node is VALID, PAUSE_ALL does not run, and PE is within the lead. -/
def portSelectable (p : Nat) (s : State) : Bool :=
  islRun 2 s && !blockEntering s && duRole s != 2 && !duSilent s && nodeValid (nodeCode 3 p) s && (getRx p s).pauseAll == 0 &&
    decide ((getSp p s).pe ≤ s.tb.refill + leadTime p s)

/-- One selection of a port (R349). (DEDUCED: log entry 66.) -/
def selectOne (p : Nat) (s : State) : State :=
  if portSelectable p s then
    let s1 := refuseHeads p (s.wq.execs.length + s.dp.frames.length) s
    match pickSvc p s1 with
    | some (path, s2) => commitSel p path s2
    | none => s1
  else s

/-- Withdraw the selection of an entry (R371): its charge is returned and its frame is forgotten. -/
def withdrawSel (p f : Nat) (s : State) : State :=
  let s1 := returnCharge p f s
  setLine p true ((lineOf p true s1).filter (· != f))
    { s1 with dp := { s1.dp with frames := s1.dp.frames.filter (fun g => g.id != f) } }

/-- A transmitted frame whose entry ends before the frame has started: its charge is returned, and it is dropped. -/
def killTx (f : Nat) (s : State) : State :=
  match getF f s with
  | some g => dropF f (returnCharge g.port f s)
  | none => s

/-! ## Forwarding (R346) -/

/-- A frame enters a forwarding leaf's FIFO, or is dropped and counted: the leaf must be a valid forwarding leaf of the tree
of the frame's port, its FIFO not full. Answers whether it entered. (DEDUCED: log entry 69.) -/
def forwardTo (l f : Nat) (s : State) : Bool × State :=
  let b := nodeRec (nodeCode 0 l) s
  let q := sget [] s.sc.fifo l
  let p := match getF f s with | some g => g.port | none => 0
  if recValid b && recFwd b && decide (q.length < recDepth b) && leafPort l s == some p then
    (true, { s with sc := { s.sc with fifo := sput [] s.sc.fifo l (q ++ [f]) } })
  else (false, dropF f (scEvent p 2 (bump (cPort p 63) s)))

/-! ## SHAPER_SET (R304, R347, R348) -/

/-- Mask of the PARENT field of a level. -/
def parentMax (level : Nat) : Nat :=
  match level with
  | 0 => 4096
  | 1 => 512
  | 2 => 64
  | _ => 1

/-- Reserved bits of a record at a level are 0: the fields that do not apply there are reserved (R347). -/
def recReserved (level : Nat) (b : Bytes) : Bool :=
  let b0 := u b 0 1
  let b1 := u b 1 1
  let b67 := u b 6 2
  decide (b0 < 16) && decide (b1 < 8) && u b 11 1 == 0 && u b 15 1 == 0 && u b 19 1 == 0 &&
    (b.drop 23).all (· == 0) &&
    (match level with
     | 0 => !bit b0 1 && decide (u b 2 2 < 4096) && decide (u b 4 2 < 1024) && decide (b67 < 1024) &&
         (bit b0 3 || b67 == 0) && u b 8 3 == 0 && u b 12 3 == 0
     | 1 => !bit b0 3 && b1 == 0 && decide (u b 2 2 < 512) && decide (u b 4 2 < 1024) && b67 == 0
     | 2 => !bit b0 3 && decide (u b 2 2 < 64) && decide (u b 4 2 < 1024) && decide (b67 < 256)
     | _ => !bit b0 3 && b1 == 0 && u b 2 2 == 0 && u b 4 2 == 0 && b67 == 0)

/-- A submission queue holds the number. -/
def sqHolds (n : Nat) (s : State) : Bool := (getSq n s).state != .none

/-- Parameters that R347 refuses with ADMIN_BAD_PARAMETER. -/
def recBad (level n : Nat) (b : Bytes) (s : State) : Bool :=
  (recCen b && decide (recCbs b * 64 < recCir b)) || (recPen b && decide (recPbs b * 64 < recPir b)) ||
  (recCen b && recPen b && decide (recPir b < recCir b)) ||
  (decide (level < 3) && recQuantum b == 0) ||
  (level == 0 && recFwd b && (sqHolds n s || recDepth b == 0))

/-- A node's bucket fields wait for its next refill (R357); a node that was not VALID has none in force before. -/
def waitRefill (c : Nat) (valid : Bool) (s : State) : State :=
  let s1 := { s with sc := { s.sc with next := sput 0 s.sc.next c 1 } }
  if valid then s1 else setForce c [] s1

/-- Write a node's record (R348, R356, R357): its bucket fields take effect at the node's next refill, a node that was not
VALID having no bucket until then. FILL starts the levels at the record's bursts at once. -/
def writeRec (level n : Nat) (b : Bytes) (fill : Bool) (s : State) : State :=
  let c := nodeCode level n
  let old := nodeRec c s
  let s1 := { s with sc := { s.sc with nodes := sput [] s.sc.nodes c b } }
  let s2 := if u old 2 2 = u b 2 2 ∧ (level = 0 → recBand old = recBand b) then s1 else clearDeficit c s1
  let s3 := waitRefill c (recValid old) s2
  if fill then setLevelC c (64 * (recCbs b : Int)) s3 |> setLevelP c (64 * (recPbs b : Int)) else s3

/-- Status of a SHAPER_SET and the state it leaves (R347). -/
def shaperSet (level n : Nat) (b : Bytes) (fill : Bool) (s : State) : Nat × State :=
  let c := nodeCode level n
  if levelCount level ≤ n ∨ recBad level n b s = true then (St.adminBadParameter, s)
  else if decide (level < 3) && !nodeValid (recParent level b) s then (St.adminNotFound, s)
  else if recValid b = false ∧ (children c s ≠ [] ∨ (level = 0 ∧ sqHolds n s = true ∧ (getSq n s).rx = false)) then
    (St.adminBusy, s)
  else (St.ok, writeRec level n b fill s)

/-- SQ_CREATE makes a transmit queue's number a leaf (R345): VALID, PARENT and BAND from the command, the other fields as a
SHAPER_SET left them. -/
def makeLeaf (n parent band : Nat) (s : State) : State :=
  let c := nodeCode 0 n
  let old := nodeRec c s
  let b := if old = [] then List.replicate 32 0 else old
  let v := BitVec.ofNat 8 (u b 0 1 / 16 * 16 + u b 0 1 % 8 / 2 * 2 + 1)
  let rec1 : Bytes := [v, BitVec.ofNat 8 band] ++ bytesLE 2 parent ++ b.drop 4
  let s1 := clearDeficit c { s with sc := { s.sc with nodes := sput [] s.sc.nodes c rec1 } }
  if recValid old then s1 else waitRefill c false s1

/-- A transmit queue's leaf goes with its queue. (DEDUCED: log entry 69.) -/
def removeLeaf (n : Nat) (s : State) : State :=
  let c := nodeCode 0 n
  clearDeficit c { s with sc := { s.sc with
    nodes := sput [] s.sc.nodes c [], force := sput [] s.sc.force c [], next := sput 0 s.sc.next c 0,
    lvlC := sput 0 s.sc.lvlC c 0, lvlP := sput 0 s.sc.lvlP c 0 } }

/-! ## Capture (SC_NODE_SEL) -/

/-- A 32-bit word of a signed level. -/
def levelWord (v : Int) : Nat := (v % (2 ^ 32 : Nat)).toNat

/-- A write of SC_NODE_SEL: LEVEL and NODE, and with READ the capture of the record and the levels. -/
def nodeCapture (data : Nat) (s : State) : State :=
  let a := loc .SC_NODE_SEL
  let s1 := plainWrite .SC_NODE_SEL a data s
  if bit data 31 then
    let c := nodeCode (bits data 29 28) (bits data 14 0)
    let b := nodeRec c s1
    forEach (List.range 8) (fun w t => wr (loc .SC_NODE_REC 0 w) (u b (4 * w) 4) t) s1
      |> wr (loc .SC_NODE_LVL_C) (if cenOf c s1 then levelWord (levelC c s1) else 0)
      |> wr (loc .SC_NODE_LVL_P) (if penOf c s1 then levelWord (levelP c s1) else 0)
  else s1

/-! ## Gate calendars (R360, R361) -/

/-- Registers that show the calendar in force. -/
def showCalendar (p : Nat) (s : State) : State :=
  let c := (getSp p s).active
  let cyc := match c with
    | some c => c.cycle
    | none => 0
  forEach (List.range 8) (fun k t =>
      wr (loc .SC_GATE_MAX (p / 4) (p % 4 * 16 + k)) ((longestWindow c k).getD 0xFFFFFFFF) t)
    (wr (scLoc .SC_GATE_CYCLE p) cyc s)

/-- SC_GATE_STATE as a read finds it. -/
def gateState (p : Nat) (s : State) : Nat :=
  let v := getSp p s
  let now := match calFor p s.tb.time s with
    | some c => calAt c s.tb.time
    | none => none
  let pend := match v.pendingCal with
    | some (_, a, _, _) => decide (s.tb.time < a * nsU)
    | none => false
  b2n (calFor p s.tb.time s).isSome * 2 ^ 31 + b2n pend * 2 ^ 30 +
    (match now with
     | some (i, o, _) => i * 2 ^ 16 + o
     | none => 255)

/-- The calendar entries of a GATE_SET's data: duration and open classes; none where R360 refuses them. -/
def gateEntries : Nat → Bytes → Option (List (Nat × Nat))
  | 0, _ => some []
  | n + 1, b =>
    let d := u b 0 4
    if d < 16 ∨ 1000000000 < d ∨ u b 5 3 ≠ 0 then none
    else (gateEntries n (b.drop 8)).map (fun r => (d, u b 4 1) :: r)

/-- START in ns of block time: its seconds name the instant nearest to the present (R361). -/
def nearestStart (v : Nat) (s : State) : Nat :=
  let turn := 2 ^ 32 * 1000000000
  let base := s.tb.time / nsU / turn * turn + v / 2 ^ 32 * 1000000000 + v % 2 ^ 32
  let far (t : Nat) : Nat := max (t * nsU) s.tb.time - min (t * nsU) s.tb.time
  let near (a b : Nat) : Nat := if far b < far a then b else a
  near (if turn ≤ base then near base (base - turn) else base) (base + turn)

/-- Activation instant in ns: the first cycle start at least 1 µs from now (R361). -/
def activation (start cycle : Nat) (s : State) : Nat :=
  let t := (s.tb.time + 1000 * nsU + nsU - 1) / nsU
  if t ≤ start then start else start + (t - start + cycle - 1) / cycle * cycle

/-- Load a calendar for a GATE_SET (R361): a pending one is replaced, and its command completes with ABORTED. -/
def gateLoad (p start : Nat) (es : List (Nat × Nat)) (pr k : Nat) (s : State) : State :=
  let cyc := es.foldl (fun a e => a + e.1) 0
  let st := nearestStart start s
  let v := getSp p s
  let s1 := setSp p { v with
    pendingCal := some ({ entries := es, start := st, cycle := cyc }, activation st cyc s, pr, k) } s
  match v.pendingCal with
  | some (_, _, a, b) => finishCmd a b St.aborted 0 0 s1
  | none => s1

/-- A calendar, or none, governs a port from the instant `a` on (R361). What it replaces is kept while selections wait, whose
projected starts may lie before `a` (R365). -/
def putActive (p a : Nat) (c : Option Calendar) (s : State) : State :=
  let v := getSp p s
  showCalendar p (setSp p { v with
    active := c, pendingCal := none, past := if v.sels.isEmpty then [] else (a, v.active) :: v.past } s)

/-- ENABLE = 0 (R361): every class is open from the completion on. -/
def gateRemove (p : Nat) (s : State) : State :=
  let v := getSp p s
  let s1 := putActive p s.tb.time none s
  match v.pendingCal with
  | some (_, _, a, b) => finishCmd a b St.aborted 0 0 s1
  | none => s1

/-- The activation instant of a pending calendar (R361). -/
def gateActivate (p : Nat) (s : State) : State :=
  let v := getSp p s
  match v.pendingCal with
  | none => s
  | some (c, a, pr, k) =>
    putActive p (a * nsU) (some c) s
      |> scEvent p 3
      |> finishCmd pr k St.ok (time64 (a * nsU)) 0

/-! ## Rows -/

/-- SCHEDULER_SELECTION. -/
def execSchedulerSelection (p : Nat) (s : State) : Host.Outcome State Fault Refusal := done (selectOne (p % 64) s)

/-- BUCKET_REFILL. -/
def execBucketRefill (level n : Nat) (s : State) : Host.Outcome State Fault Refusal :=
  done (refillNode (nodeCode (level % 4) (n % 2 ^ 20)) s)

/-- GATE_ACTIVATE. -/
def execGateActivate (p : Nat) (s : State) : Host.Outcome State Fault Refusal := done (gateActivate (p % 64) s)

/-- NODE_CAPTURE: a write of SC_NODE_SEL. -/
def execNodeCapture (m : Master) (data : W32) (s : State) : Host.Outcome State Fault Refusal :=
  done (ctlWrite m (loc .SC_NODE_SEL) data.toNat (fun t => some (nodeCapture data.toNat t)) s)

end Sys2Proof.Machine
end

