-- ==== Sys2Proof/Machine/MacTx.lean ====
section
/-!
DEFINITION. The transmit MAC (spec/13): transmit options, the sent frame, refusals, starts, cuts, preemption, flow-control
frames and MAC merge verification.
-/

namespace Sys2Proof.Machine

/-! ## Transmit options (TX_OPT) -/

/-- A transmit entry's bytes; empty for a forwarded frame, whose options are all 0. -/
def entryOf (f : Frame) (s : State) : Bytes :=
  match f.exec.bind (fun x => getX x s) with
  | some e => e.raw
  | none => []

def fcsIncluded (b : Bytes) : Bool := bit (u b 48 1) 0
def ptpOfs (b : Bytes) : Nat := u b 49 1
def udpOfs (b : Bytes) : Nat := u b 50 2 % 512
def tsMode (b : Bytes) : Nat := bits (u b 1 1) 3 2

/-- Length of the emitted frame of a transmitted frame (R195), whether or not its data has arrived. -/
def emitLen (f : Frame) : Nat := hlenOf f + (f.len - bodyOf f)

/-- L: the emitted length, less 4 when the FCS is included (R368). -/
def lenL (b : Bytes) (f : Frame) : Nat := emitLen f - (if fcsIncluded b then 4 else 0)

/-- Sent length (R368). -/
def sentLen (b : Bytes) (f : Frame) : Nat := max (lenL b f) 60 + 4

/-- A transmit checksum slot is registered. -/
def hasSlot (f : Frame) : Bool := f.prog.slot0.isSome || f.prog.slot1.isSome

/-! ## The sent frame (R30, R205, R368, R376) -/

/-- Insert a registered checksum over the bytes as written (R205, R206). -/
def putCsum (slot : Option Csum) (b : Bytes) : Bytes :=
  match slot with
  | none => b
  | some c =>
    let o := csumField c
    if b.length < o + 2 then b
    else
      let z := putBytes b o [0, 0]
      let open' : Nat := (Config.txChecksum b c.ip c.l4).toNat
      match ipLength b c.ip with
      | none => putBytes b o (bytesBE 2 open')
      | some (n, addrs) =>
        if b.length < c.ip + n ∨ c.ip + n < c.l4 then putBytes b o (bytesBE 2 open')
        else
          let v := 65535 - l4Sum z c addrs (c.ip + n - c.l4)
          putBytes b o (bytesBE 2 (if c.udp && v == 0 then 65535 else v))

/-- Adjust a checksum for `n` bytes that changed from `a` to `b`, the first at an offset of parity `odd` from the header. -/
def csumDelta : Bytes → Bytes → Bool → Nat → Nat
  | x :: a, y :: b, odd, c =>
    let w := if odd then 1 else 256
    csumDelta a b (!odd) (csumFix c (x.toNat * w) (y.toNat * w))
  | _, _, _, c => c

/-- Offset of a frame's EtherType, past at most `n` VLAN tags. -/
def typeAt : Nat → Bytes → Nat → Nat
  | 0, _, o => o
  | n + 1, b, o => if be16 b o = 0x8100 ∨ be16 b o = 0x88A8 then typeAt n b (o + 4) else o

/-- The UDP header at `h` belongs to a datagram of IPv4: the frame's own IP header says so where it ends at `h`. (DESIGN CHOICE:
log entry 33.) -/
def udpV4 (b : Bytes) (h : Nat) : Bool :=
  let o := typeAt 2 b 12 + 2
  let t := be16 b (o - 2)
  if t = 0x0800 ∧ h = o + 4 * ((b.getD o 0).toNat % 16) then true
  else if t = 0x86DD ∧ h = o + 40 then false
  else Config.udpOverIpv4 (b.take h) h

/-- Write the timestamp of TS_MODE 2 and update the UDP checksum, of which IPv4's 0x0000 stays (R376). (DEDUCED: log entry 33.) -/
def oneStep (opt : Bytes) (f : Frame) (ts : Nat) (b : Bytes) : Bytes :=
  let o := ptpOfs opt + 34
  let ns := ts / nsU
  let new := bytesBE 6 (ns / 1000000000) ++ bytesBE 4 (ns % 1000000000)
  let old := (b.drop o).take 10
  let b1 := putBytes b o new
  let h := udpOfs opt
  let covered := [f.prog.slot0, f.prog.slot1].any (fun c => match c with
    | some c => c.udp && c.l4 == h
    | none => false)
  if h = 0 ∨ covered = true ∨ b.length < h + 8 ∨ (be16 b (h + 6) = 0 ∧ udpV4 b h = true) then b1
  else
    let v := csumDelta old new (decide ((o - h) % 2 = 1)) (be16 b (h + 6))
    putBytes b1 (h + 6) (bytesBE 2 (if v = 0 then 65535 else v))

/-- The frame as sent (R368, R376), its data complete: emitted bytes, timestamp, checksums (the inner slot first,
since the outer datagram covers it), padding, FCS. (DEDUCED: log entry 36.) -/
def sentBytes (opt : Bytes) (f : Frame) (ts : Nat) : Bytes :=
  let e := (finalBytes f).1
  let b := e.take (e.length - (if fcsIncluded opt then 4 else 0))
  let b1 := if tsMode opt = 2 then oneStep opt f ts b else b
  let b2 := putCsum f.prog.slot0 (putCsum f.prog.slot1 b1)
  let b3 := b2 ++ List.replicate (60 - b2.length) 0
  if fcsIncluded opt then b3 ++ e.drop (e.length - 4) else b3 ++ bytesLE 4 (fcs b3)

/-- Bytes of the emitted frame that have arrived, before its end has. -/
def arrivedBytes (opt : Bytes) (f : Frame) : Bytes :=
  let b := if f.fwd then emitted f else (emitted f).take (lenL opt f)
  if wantsMark f then markedPrefix b (md f 38 1) else b

/-- The arrived bytes as they may go out: under TS_MODE 2 the timestamp and the UDP checksum are written before the
bytes that hold them are sent (R376), so that they wait for the field's last byte. -/
def stampedPrefix (opt : Bytes) (f : Frame) (ts : Nat) (b : Bytes) : Bytes :=
  if tsMode opt ≠ 2 then b
  else if ptpOfs opt + 44 ≤ b.length then oneStep opt f ts b
  else b.take (if udpOfs opt = 0 then ptpOfs opt + 34 else min (udpOfs opt + 6) (ptpOfs opt + 34))

/-- Bytes of the sent frame that may go out now: all of it once the data has arrived. -/
def presentBytes (opt : Bytes) (f : Frame) (ts : Nat) : Bytes :=
  if f.ended then sentBytes opt f ts else stampedPrefix opt f ts (arrivedBytes opt f)

/-! ## Outcomes (R264, R373, R384) -/

/-- The completion of a transmit entry whose frame has reached an outcome. -/
def txCpl (e : Exec) (f : Frame) (status : Nat) (ts : Option Nat) (s : State) : Cpl :=
  { status := status, tsValid := ts.isSome && tsMode e.raw != 0, marked := (finalBytes f).2,
    handle := (getSq e.sq s).handle, entry := e.pos, len := u e.raw 4 2, user := u e.raw 8 8,
    ts := match ts with
      | some t => if tsMode e.raw = 0 then (0, 0, 0) else time72 t
      | none => (0, 0, 0),
    port := f.port, prio := f.prio }

/-- Forget a transmitted frame; the cells of the received frame behind a forwarded one are freed (R169). -/
def forgetTx (f : Frame) (s : State) : State :=
  let s1 := dropSel f.port f.id s
  let s2 := setLine f.port true ((lineOf f.port true s1).filter (· != f.id))
    { s1 with dp := { s1.dp with frames := s1.dp.frames.filter (fun g => g.id != f.id) } }
  match f.orig with
  | some o => dropF o s2
  | none => s2

/-- A transmitted frame reaches its outcome (R384): its entry completes. -/
def endTx (f : Frame) (status : Nat) (ts : Option Nat) (s : State) : State :=
  let s1 := forgetTx f s
  match f.exec.bind (fun x => getX x s) with
  | some e => finishExec e.id (txCpl e f status ts s).bytes s1
  | none => s1

/-! ## Refusals (R369) -/

/-- Status codes of spec/13. -/
def stTxUnderrun : Nat := 0x4D
def stTxTooLong : Nat := 0x4E
def stTxBadOption : Nat := 0x4F

/-- Inconsistent options (R369 check 1). -/
def badOption (b : Bytes) (f : Frame) : Bool :=
  (fcsIncluded b && (tsMode b == 2 || hasSlot f || decide (emitLen f < 64))) ||
  (tsMode b == 2 && decide (lenL b f < ptpOfs b + 44)) || (udpOfs b != 0 && decide (lenL b f < udpOfs b + 8))

/-- The link is up for transmission (R380). -/
def txLinkUp (p : Nat) (s : State) : Bool := linkUp p s && fb (loc .MP_TX_CFG p) F.MP_TX_CFG_TX_EN s

/-- Class of a selected frame, and whether it is preemptable. -/
def clsOf (f : Frame) (s : State) : Nat :=
  match selOf f.port f.id s with
  | some x => x.cls
  | none => 0

/-- First failed check of R369; 0 where the frame passes. -/
def refusal (f : Frame) (s : State) : Nat :=
  let b := entryOf f s
  let k := clsOf f s
  if badOption b f then stTxBadOption
  else if fg (loc .MP_TX_CFG f.port) F.MP_TX_CFG_TX_MAX_LEN s < sentLen b f then stTxTooLong
  else if exceedsWindow f.port k (lenL b f) (preemptable f.port k s) s then St.frameExceedsWindow
  else if txLinkUp f.port s = false then St.linkDown
  else 0

/-- Event bit and counter of a refusal. -/
def countRefused (f : Frame) (status : Nat) (s : State) : State :=
  let p := f.port
  let ev := loc .MP_TX_EVENT p
  if status = stTxBadOption then setFlag ev F.MP_TX_EVENT_BAD_OPTION s |> bump (cPort p 46)
  else if status = stTxTooLong then setFlag ev F.MP_TX_EVENT_TOO_LONG s |> bump (cPort p 45)
  else if status = St.frameExceedsWindow then
    scEvent p 1 (if f.fwd then bump (cPort p 62) s else s)
  else if status = St.linkDown then setFlag ev F.MP_TX_EVENT_LINK_DROP s |> bump (cPort p 47)
  else s

/-- Refuse a frame: it sends no byte, and its charge is returned (R369). -/
def refuseTx (f : Frame) (status : Nat) (s : State) : State :=
  endTx f status none (returnCharge f.port f.id (countRefused f status s))

/-! ## Starting (R365, R366, R370, R374, R383) -/

/-- The frame is in the transmit buffer as far as its start needs (R370). The length of a forwarded frame that is still being
received is not known: it starts once the header gather and the threshold have arrived. -/
def startable (b : Bytes) (f : Frame) (s : State) : Bool :=
  let a := loc .MP_TX_CFG f.port
  if fb a F.MP_TX_CFG_STORE_FWD s || hasSlot f then f.ended
  else
    let thr := 256 * fg a F.MP_TX_CFG_START_THR s
    f.ended || decide ((if f.fwd then max 256 thr else min (lenL b f) (max (min 256 f.len) thr)) ≤
      (arrivedBytes b f).length)

/-- Put an output on a port's line. -/
def lineOut (p : Nat) (k : LineKind) (b : Bytes) (s : State) : State :=
  { s with dp := { s.dp with out := s.dp.out ++ [{ port := p, kind := k, bytes := b }] } }

/-- IN_FRAME and OPEN of MP_TX_STATE. -/
def showTx (p : Nat) (s : State) : State :=
  let t := getTx p s
  fs (loc .MP_TX_STATE p) F.MP_TX_STATE_IN_FRAME (b2n t.cur.isSome) s
    |> fs (loc .MP_TX_STATE p) F.MP_TX_STATE_OPEN (b2n t.opened.isSome)

/-- Transmit timestamp of a frame that starts now (R374): its start delimiter follows 7 bytes of preamble. MP_TX_TS_ADJ is signed,
in units of 2^-16 ns. (DEDUCED: log entry 33.) -/
def txStamp (p : Nat) (s : State) : Nat :=
  let a := rd (loc .MP_TX_TS_ADJ p) s
  let v : Int := if a < 2 ^ 31 then (a : Int) else (a : Int) - (2 ^ 32 : Nat)
  (((s.tb.time : Int) + (wireTime p 7 s : Nat) + v * (2 ^ 32 : Nat)) % (timeMod : Nat)).toNat

/-- The next selection that may start: the first in selection order, or, while a preempted frame is open, the first express
one (R365, R383). -/
def nextSel (p : Nat) (s : State) : Option Sel :=
  let xs := (getSp p s).sels
  if (getTx p s).opened.isSome then xs.find? (fun x => !preemptable p x.cls s && x.ready &&
      (getTx p s).opened.all (fun o => o.frame != x.frame))
  else xs.head?

/-- The continuation of the open frame may go (R366): its class is open, and the window holds the shortest mPacket or the
rest of the frame. -/
def continuable (p : Nat) (c : TxCur) (s : State) : Bool :=
  match getF c.frame s with
  | none => false
  | some f =>
    let k := clsOf f s
    let rest := sentLen (entryOf f s) f - c.sent
    classOpen p k s.tb.time s &&
      (match windowOf p k s.tb.time s with
       | none => true
       | some e => decide (s.tb.time + wireTime p (8 + min rest (64 * (1 + addFrag p s) + 4)) s ≤ e))

/-- A frame of class `k` whose projected start is `t` starts late: not in the window that contains `t` (R365). -/
def startsLate (p k t : Nat) (s : State) : Bool :=
  decide (t ≤ s.tb.time) && (!classOpen p k t s || (match windowOf p k t s with
    | some e => decide (e ≤ s.tb.time)
    | none => false))

/-- Start a frame: its timestamp is fixed, and a late start is counted (R365, R374). -/
def beginTx (p : Nat) (x : Sel) (f : Frame) (s : State) : State :=
  let pre := preemptable p x.cls s
  let t := getTx p s
  let s1 := setTx p { t with
    cur := some { frame := f.id, pre := pre, smd := t.nextSmd, sent := 0, frags := 0, ts := txStamp p s,
                  began := s.tb.refill },
    nextSmd := if pre then (t.nextSmd + 1) % 4 else t.nextSmd } s
  showTx p (if startsLate p x.cls x.start s then scEvent p 0 (bump (cPort p 61) s1) else s1)

/-- A preempted frame that awaits its continuation completes with LINK_DOWN (R380). (DESIGN CHOICE: log entry 35.) -/
def openDown (p : Nat) (s : State) : State :=
  match (getTx p s).opened with
  | some c =>
    let s1 := setTx p { getTx p s with opened := none } s |> setFlag (loc .MP_TX_EVENT p) F.MP_TX_EVENT_LINK_DROP
      |> rateAdd p true c.sent
    match getF c.frame s1 with
    | some f => showTx p (endTx f St.linkDown (some c.ts) s1)
    | none => showTx p s1
  | none => s

/-- MAC_FRAME_START: while the link is down for transmission a preempted frame ends (R380); otherwise the next frame
starts when its data, the window and the link allow; a frame that no longer passes R369 is refused. An open frame's
continuation starts when no express frame can. An active that gives up finishes what has started only (R492). (DESIGN CHOICE: log
entry 35.) -/
def macStart (p : Nat) (s : State) : State :=
  let t := getTx p s
  if t.cur.isSome || !islRun (portIsland p) s then s
  else if t.opened.isSome && !txLinkUp p s then openDown p s
  else
    let resume (s : State) : State :=
      match t.opened with
      | some c => if continuable p c s then showTx p (setTx p { t with cur := some { c with began := s.tb.refill }, opened := none } s)
        else s
      | none => s
    match (if duStops s then none else nextSel p s) with
    | none => resume s
    | some x =>
      match getF x.frame s with
      | none => resume s
      | some f =>
        if x.ready = false then resume s
        else
          let r := refusal f s
          if r ≠ 0 then refuseTx f r s
          else
            let b := entryOf f s
            if startable b f s && gateFit p x.cls (lenL b f) s.tb.time (preemptable p x.cls s) s then beginTx p x f s
            else resume s

/-! ## MAC merge (R381) -/

/-- VERIFY_STATE of MP_MM_STATUS. -/
def mmState (p : Nat) (s : State) : Nat := fg (loc .MP_MM_STATUS p) F.MP_MM_STATUS_VERIFY_STATE s
def setMm (p st act : Nat) (s : State) : State :=
  fs (loc .MP_MM_STATUS p) F.MP_MM_STATUS_VERIFY_STATE st s |> fs (loc .MP_MM_STATUS p) F.MP_MM_STATUS_ACTIVE act

/-- A STANDBY block transmits idle only (R486). -/
def idleOnly (s : State) : Bool := duRole s == 2

/-- Send the verify and respond mPackets that are due, once the MAC is between frames. -/
def flushMm (p : Nat) (s : State) : State :=
  let t := getTx p s
  if t.cur.isSome then s
  else if idleOnly s then setTx p { t with verifyDue := false, respondDue := false } s
  else
    let s1 := if t.verifyDue then lineOut p .verify [] s |> bump (cPort p 58) else s
    let s2 := if t.respondDue then lineOut p .respond [] s1 else s1
    setTx p { t with verifyDue := false, respondDue := false } s2

/-- Ask for a verify mPacket. -/
def sendVerify (p : Nat) (s : State) : State := flushMm p (setTx p { getTx p s with verifyDue := true } s)

/-- DISABLED again (MM_TX_EN := 0, or link down). -/
def mmDisable (p : Nat) (s : State) : State := setMm p 0 0 (setTx p { getTx p s with verifyDue := false } s)

/-- MM_ENABLE. -/
def mmEnable (p : Nat) (s : State) : State :=
  let a := loc .MP_MM_CTRL p
  if fb a F.MP_MM_CTRL_MM_TX_EN s && linkUp p s && mmState p s == 0 then
    if fb a F.MP_MM_CTRL_VERIFY_DIS s then setMm p 2 1 s
    else sendVerify p (fs (loc .MP_MM_STATUS p) F.MP_MM_STATUS_ATTEMPTS 1 (setMm p 1 0 s))
  else s

/-- A respond mPacket arrives. -/
def mmResponded (p : Nat) (s : State) : State :=
  if mmState p s = 1 then setMm p 2 1 s |> setFlag (loc .MP_TX_EVENT p) F.MP_TX_EVENT_MM_VERIFY_OK else s

/-- VERIFY_TIME elapses. -/
def mmTimeout (p : Nat) (s : State) : State :=
  if mmState p s ≠ 1 then s
  else
    let n := fg (loc .MP_MM_STATUS p) F.MP_MM_STATUS_ATTEMPTS s
    if n < max 1 (fg (loc .MP_MM_CTRL p) F.MP_MM_CTRL_VERIFY_LIMIT s) then
      sendVerify p (fs (loc .MP_MM_STATUS p) F.MP_MM_STATUS_ATTEMPTS (n + 1) s)
    else setMm p 3 0 s |> setFlag (loc .MP_TX_EVENT p) F.MP_TX_EVENT_MM_VERIFY_FAIL

/-! ## Ends of frames -/

/-- Send the error control block that is due for a preempted frame, once the MAC is between frames (R372). A STANDBY sends none
(R486). (DESIGN CHOICE: log entry 35.) -/
def flushCut (p : Nat) (s : State) : State :=
  let t := getTx p s
  if t.cutDue && t.cur.isNone then
    let s1 := setTx p { t with cutDue := false } s
    if idleOnly s then s1 else lineOut p .cut [] s1
  else s

/-- The MAC is between frames again. -/
def idleTx (p : Nat) (s : State) : State := flushMm p (flushCut p (showTx p (setTx p { getTx p s with cur := none } s)))

/-- Cut the frame on the line with an error control block (R372, R380). (DESIGN CHOICE: log entry 35.) -/
def cutTx (p status : Nat) (s : State) : State :=
  match (getTx p s).cur with
  | none => s
  | some c =>
    match getF c.frame s with
    | none => idleTx p s
    | some f =>
      let whole := presentBytes (entryOf f s) f c.ts
      let b := whole.drop c.sent
      let s1 := idleTx p (countAbove p b.length (lineOut p .cut b s)) |> rateAdd p true (max whole.length c.sent)
      endTx f status (some c.ts) s1

/-- An underrun or a read error of a started frame (R372). -/
def underrun (p status : Nat) (s : State) : State :=
  cutTx p status (setFlag (loc .MP_TX_EVENT p) F.MP_TX_EVENT_UNDERRUN s
    |> bump (cPort p (if status = St.hostReadError then 44 else 43)))

/-- TX_UNDERRUN: the started frame's next bytes are absent. (DEDUCED: log entry 36.) -/
def txUnderrun (p : Nat) (s : State) : State :=
  match (getTx p s).cur with
  | none => s
  | some c =>
    match getF c.frame s with
    | none => s
    | some f => if f.ended then s else underrun p stTxUnderrun s

/-- TX_FRAME_END: the last byte passes to the PCS. -/
def txFrameEnd (p : Nat) (s : State) : State :=
  match (getTx p s).cur with
  | none => s
  | some c =>
    match getF c.frame s with
    | none => s
    | some f =>
      if f.ended = false then s
      else
        let opt := entryOf f s
        let b := sentBytes opt f c.ts
        let k := if c.pre = false then LineKind.frame
          else if c.frags = 0 then .preemptable c.smd else .last c.smd ((c.frags - 1) % 4)
        let s1 := lineOut p k (b.drop c.sent) s |> bump (cPort p 41) |> bumpBy (cPort p 42) b.length
          |> rateAdd p true b.length |> countAbove p (b.length - c.sent)
        let s2 := if tsMode opt = 2 then bump (cPort p 59) s1 else s1
        endTx f St.ok (some c.ts) (idleTx p s2)

/-- A valid point of a preemptable frame (R382). (DEDUCED: log entry 36.) -/
def validPoint (p d : Nat) (c : TxCur) (n : Nat) (s : State) : Bool :=
  d % 8 == 0 && decide (c.sent + 64 * (1 + addFrag p s) ≤ d + 4) && decide (c.sent < d) && decide (d + 64 ≤ n)

/-- Instant of the refill clock at which the mPacket's bytes up to frame offset `d` have been sent, with the 8 of its preamble and
`more` bytes behind them (R382). -/
def sentAt (p d more : Nat) (c : TxCur) (s : State) : Nat := c.began + wireTime p (8 + (d - c.sent) + more) s

/-- `d` is the first valid point that the MAC has not passed. (DESIGN CHOICE: log entry 36.) -/
def firstPoint (p d : Nat) (c : TxCur) (n : Nat) (s : State) : Bool :=
  validPoint p d c n s && decide (s.tb.refill ≤ sentAt p d 0 c s) &&
    !(validPoint p (d - 8) c n s && decide (s.tb.refill ≤ sentAt p (d - 8) 0 c s))

/-- `d` is the last valid point whose mCRC ends no later than the window of class `k` in which the mPacket began, the frame's `n`
bytes not ending in it (R382). Outside a window, it is the first point that has not passed. (DESIGN CHOICE: log entry 36.) -/
def windowPoint (p k d : Nat) (c : TxCur) (n : Nat) (s : State) : Bool :=
  let t := s.tb.time - (s.tb.refill - c.began)
  if !classOpen p k t s then firstPoint p d c n s
  else match windowOf p k t s with
    | none => false
    | some e =>
      let late (x more : Nat) : Bool := decide (e < t + (sentAt p x more c s - c.began))
      late n 0 && validPoint p d c n s && !late d 4 && !(validPoint p (d + 8) c n s && !late (d + 8) 4)

/-- An express frame, a flow-control or a verification frame is ready at the MAC (R382). -/
def expressReady (p : Nat) (f : Frame) (s : State) : Bool :=
  let t := getTx p s
  t.fcDue || t.verifyDue || t.respondDue ||
    (getSp p s).sels.any (fun x => x.ready && x.frame != f.id && !preemptable p x.cls s)

/-- The MAC ends the mPacket at `d` (R382): the first valid point left, for what is ready, or the last one before the window's
end. -/
def preemptAt (p d n : Nat) (c : TxCur) (f : Frame) (s : State) : Bool :=
  (expressReady p f s && firstPoint p d c n s) || windowPoint p (clsOf f s) d c n s

/-- MPACKET_PREEMPT: the MAC ends the current mPacket at valid point `d`. -/
def preempt (p d : Nat) (s : State) : State :=
  let t := getTx p s
  match t.cur with
  | none => s
  | some c =>
    match getF c.frame s with
    | none => s
    | some f =>
      let opt := entryOf f s
      let b := presentBytes opt f c.ts
      let n := if f.fwd && !f.ended then b.length + 4 else sentLen opt f
      if c.pre && decide (d ≤ b.length) && preemptAt p d n c f s then
        let s1 := lineOut p (.fragment c.smd ((c.frags - 1) % 4) (c.sent == 0)) ((b.take d).drop c.sent) s
          |> bump (cPort p 57) |> countAbove p (d - c.sent)
        flushMm p (showTx p (setTx p { getTx p s1 with
          cur := none, opened := some { c with sent := d, frags := c.frags + 1 } } s1))
      else s

/-! ## Forwarded frames that are still being received (R196, R210) -/

/-- The transmitted frames whose bytes come from a received frame. -/
def forwardsOf (f : Nat) (s : State) : List Frame := s.dp.frames.filter (fun t => t.orig == some f && !t.dead)

/-- More of a forwarded frame has arrived: it enters transmission as it comes. Once its length is known, the charge that was
made for it follows (R353, R354). -/
def forwardMore (g : Frame) (s : State) : State :=
  forEach ((forwardsOf g.id s).filter (fun t => !t.ended)) (fun t u =>
    let t1 := { t with data := forwardBytes g, len := forwardLen g, ended := g.ended }
    let v := setF t1 u
    if g.ended && t1.effective then adjustCharge t1.port t1.id (chargeNow t1.port t1.id (emitLen t1) v) v else v) s

/-- A preempted frame that awaits its continuation ends: an error control block closes it once the line is free (R372). -/
def cutOpened (p status : Nat) (s : State) : State :=
  match (getTx p s).opened with
  | none => s
  | some c =>
    let s1 := showTx p (flushCut p (setTx p { getTx p s with opened := none, cutDue := true } s)) |> rateAdd p true c.sent
    match getF c.frame s1 with
    | some f => endTx f status (some c.ts) s1
    | none => s1

/-- The preempted frame's data fails before its continuation (R372). -/
def loseOpened (p status : Nat) (s : State) : State :=
  setFlag (loc .MP_TX_EVENT p) F.MP_TX_EVENT_UNDERRUN s
    |> bump (cPort p (if status = St.hostReadError then 44 else 43)) |> cutOpened p status

/-- The rest of a forwarded frame will not come: what has begun is cut on the line and counted as an underrun or, with
`late`, in TX_READ_CUT (R210, R372); what has not begun is withdrawn, its charge returned. (DESIGN CHOICE: log entry
35.) -/
def forwardLost (f : Nat) (late : Bool) (s : State) : State :=
  let st := if late then St.hostReadError else stTxUnderrun
  forEach ((forwardsOf f s).filter (fun t => !t.ended)) (fun t u =>
    let p := t.port
    if (match (getTx p u).cur with | some c => c.frame == t.id | none => false) then underrun p st u
    else if (match (getTx p u).opened with | some c => c.frame == t.id | none => false) then loseOpened p st u
    else killTx t.id u) s

/-! ## Flow-control frames (R377, R378) -/

/-- A flow-control frame's bytes: destination, source, EtherType, opcode and body, padded, with its FCS. -/
def controlFrame (p opcode : Nat) (body : Bytes) (s : State) : Bytes :=
  let b := bytesBE 6 0x0180C2000001 ++ bytesLE 6 (rd64 (loc .MP_TX_SRC_ADDR p) s) ++ bytesBE 2 0x8808 ++
    bytesBE 2 opcode ++ body
  let b1 := b ++ List.replicate (60 - b.length) 0
  b1 ++ bytesLE 4 (fcs b1)

/-- Send the flow-control frame that is due, in the form FC_MODE gives it. (DEDUCED: log entry 32.) -/
def sendFc (p : Nat) (s : State) : State :=
  let t := getTx p s
  let q := fg (loc .MP_TX_FC p) F.MP_TX_FC_QUANTA s
  let s1 := setTx p { t with fcDue := false, left := 0 } s
  match fcMode p s with
  | 2 =>
    let on := xoffOrForced p s
    let en := on ||| t.left
    let body := bytesBE 2 en ++ (List.range 8).flatMap (fun i => bytesBE 2 (if bit on i then q else 0))
    lineOut p .pfcFrame (controlFrame p 0x0101 body s) s1 |> rateAdd p true 64 |> countAbove p 64
      |> forEach ((List.range 8).filter (fun i => bit en i)) (fun i u => occur (cPort p (49 + i)) u)
      |> fs (loc .MP_TX_STATE p) F.MP_TX_STATE_XOFF_SENT on
  | 1 =>
    let on := pauseWanted p s
    lineOut p .pauseFrame (controlFrame p 0x0001 (bytesBE 2 (if on then q else 0)) s) s1 |> rateAdd p true 64
      |> countAbove p 64
      |> occur (cPort p 48)
      |> fs (loc .MP_TX_STATE p) F.MP_TX_STATE_PAUSE_SENT (b2n (on && q != 0))
  | _ => s1

/-- The port may send a flow-control frame: its link is up for transmission, and the block is no STANDBY (R378, R486).
(DEDUCED: log entry 32.) -/
def fcMay (p : Nat) (s : State) : Bool := txLinkUp p s && !idleOnly s

/-- FLOW_CONTROL_FRAME_SEND: one is due, and the MAC is between frames. -/
def fcSend (p : Nat) (s : State) : State :=
  let t := getTx p s
  if t.fcDue && t.cur.isNone && fcMay p s then sendFc p s else s

/-- FC_REFRESH: REFRESH quanta have passed while something is held off. -/
def fcRefresh (p : Nat) (s : State) : State :=
  let on := match fcMode p s with
    | 2 => xoffOrForced p s != 0
    | 1 => pauseWanted p s
    | _ => false
  if on && fg (loc .MP_TX_FC p) F.MP_TX_FC_REFRESH s != 0 && fcMay p s then
    let t := getTx p s
    if t.cur.isNone then sendFc p s else setTx p { t with fcDue := true } s
  else s

/-- A write of MP_TX_FC_FORCE (R377). -/
def writeForce (p data : Nat) (s : State) : State :=
  fcChange p s (plainWrite .MP_TX_FC_FORCE (loc .MP_TX_FC_FORCE p) data s)

/-- A write of MP_MM_CTRL: MM_TX_EN := 0 disables. -/
def writeMmCtrl (p data : Nat) (s : State) : State :=
  let s1 := plainWrite .MP_MM_CTRL (loc .MP_MM_CTRL p) data s
  if bit data 31 then s1 else mmDisable p s1

/-! ## Link changes (R378, R380, R381) -/

/-- The link goes down for transmission: the frame on the line is cut, the open frame completes, MAC merge is disabled. -/
def txLinkDown (p : Nat) (s : State) : State :=
  let t := getTx p s
  let drops := setFlag (loc .MP_TX_EVENT p) F.MP_TX_EVENT_LINK_DROP
  let s1 := if t.cur.isSome then cutTx p St.linkDown (drops (setTx p { t with cutDue := false } s)) else s
  let s2 := openDown p s1
  mmDisable p (showTx p (setTx p { getTx p s2 with verifyDue := false, respondDue := false, cutDue := false } s2))

/-- The link comes up: a flow-control frame is due if anything is held off (R378). -/
def txLinkUpNow (p : Nat) (s : State) : State :=
  let due := match fcMode p s with
    | 2 => xoffOrForced p s != 0
    | 1 => pauseWanted p s
    | _ => false
  setTx p { getTx p s with fcDue := due } s

/-! ## Rows -/

/-- MAC_FRAME_START. -/
def execMacFrameStart (p : Nat) (s : State) : Host.Outcome State Fault Refusal := done (macStart (p % 64) s)

/-- TX_UNDERRUN. -/
def execTxUnderrun (p : Nat) (s : State) : Host.Outcome State Fault Refusal := done (txUnderrun (p % 64) s)

/-- TX_FRAME_END. -/
def execTxFrameEnd (p : Nat) (s : State) : Host.Outcome State Fault Refusal := done (txFrameEnd (p % 64) s)

/-- MPACKET_PREEMPT, at frame offset `d`. -/
def execMpacketPreempt (p d : Nat) (s : State) : Host.Outcome State Fault Refusal := done (preempt (p % 64) d s)

/-- FLOW_CONTROL_FRAME_SEND. -/
def execFlowControlFrameSend (p : Nat) (s : State) : Host.Outcome State Fault Refusal := done (fcSend (p % 64) s)

/-- FC_REFRESH. -/
def execFcRefresh (p : Nat) (s : State) : Host.Outcome State Fault Refusal := done (fcRefresh (p % 64) s)

/-- MM_ENABLE. -/
def execMmEnable (p : Nat) (s : State) : Host.Outcome State Fault Refusal := done (mmEnable (p % 64) s)

/-- MM_RESPOND_RECEIVED. -/
def execMmRespondReceived (p : Nat) (s : State) : Host.Outcome State Fault Refusal := done (mmResponded (p % 64) s)

/-- MM_VERIFY_TIMEOUT. -/
def execMmVerifyTimeout (p : Nat) (s : State) : Host.Outcome State Fault Refusal := done (mmTimeout (p % 64) s)

end Sys2Proof.Machine
end

