-- ==== Sys2Proof/Machine/Reed.lean ====
section
/-!
DEFINITION. The Reed engines (spec/07): dispatch, the instruction set, asynchronous results, program faults, verdicts, the
program store, and substitution of engines. A context is numbered 34 × cluster + 2 × engine + context.
-/

namespace Sys2Proof.Machine

/-! ## Contexts -/

def getCtx (i : Nat) (s : State) : Option Ctx := s.dp.ctxs.find? (fun c => c.id == i)
def setCtx (c : Ctx) (s : State) : State :=
  { s with dp := { s.dp with ctxs := s.dp.ctxs.map (fun d => if d.id = c.id then c else d) } }

def ctxCluster (i : Nat) : Nat := i / 34
def ctxEngine (i : Nat) : Nat := i % 34 / 2

/-- Register `r` of a context. -/
def Ctx.reg (c : Ctx) (r : Nat) : Nat := (c.g.getD r 0).toNat
def Ctx.setReg (c : Ctx) (r v : Nat) : Ctx := { c with g := c.g.set r (BitVec.ofNat 64 v) }

/-- Registers whose result a pending operation will write (R200). -/
def Pend.writes : Pend → List Nat
  | .lkp rd _ _ _ => [rd]
  | .mtr rd _ _ _ => [rd]
  | .hashf rd fn _ => if fn = 2 then [rd, rd + 1] else [rd]

/-- A register's result is pending. -/
def Ctx.waits (c : Ctx) (r : Nat) : Bool := c.pend.any (fun p => p.writes.contains r)

/-! ## The instruction encodings (R197) -/

/-- The rows of the instruction table. -/
inductive Op where
  | nop | end_ | sync | cnt | alu | alui | movw | ext | ins | ld | st | br | brh | bb | jmp | call | ret | jmpr
  | lkp | mtr | hasha | hashf | csumIp4h | csumIp4g | csumL4
  deriving DecidableEq, Repr

/-- The instruction that a word encodes; none for an opcode outside the table, a non-zero reserved bit, or a reserved
FN or CC value (R197). (DESIGN CHOICE: log entry 37.) -/
def opOf (w : Nat) : Option Op :=
  let z (hi lo : Nat) : Bool := bits w hi lo == 0
  let ok (c : Bool) (o : Op) : Option Op := if c then some o else none
  match bits w 31 26 with
  | 0x00 => ok (z 25 0) .nop
  | 0x01 => ok (z 20 18 && z 9 0) .end_
  | 0x02 => ok (z 25 2) .sync
  | 0x03 => ok (z 25 6) .cnt
  | 0x04 => ok (z 13 4 && decide (bits w 3 0 ≤ 6)) .alu
  | 0x05 => ok (decide (bits w 17 15 ≤ 6)) .alui
  | 0x06 => ok (z 21 19) .movw
  | 0x07 => ok (z 5 0) .ext
  | 0x08 => ok (z 5 0) .ins
  | 0x10 => ok (z 13 9) .ld
  | 0x11 => ok (z 13 9) .st
  | 0x18 => ok (z 14 12 && decide (bits w 17 15 ≤ 5)) .br
  | 0x19 => some .brh
  | 0x1A => ok (z 14 12) .bb
  | 0x1B => ok (z 23 22 && z 17 12)
      (match bits w 25 24 with
       | 0 => .jmp
       | 1 => .call
       | 2 => .ret
       | _ => .jmpr)
  | 0x20 => ok (z 11 0) .lkp
  | 0x21 => ok (z 13 0) .mtr
  | 0x22 => ok (z 15 9) .hasha
  | 0x23 => ok (z 19 0) .hashf
  | 0x24 => if z 9 0 then
      (match bits w 25 24 with
       | 0 => some .csumIp4h
       | 1 => some .csumIp4g
       | 2 => some .csumL4
       | _ => none) else none
  | _ => none

/-- The operation FN of ALU and ALUI on 64-bit values; the shift amount is the low 6 bits of the second. -/
def aluFn (fn a b : Nat) : Nat :=
  let m := 2 ^ 64
  match fn with
  | 0 => (a + b) % m
  | 1 => (a + m - b % m) % m
  | 2 => a &&& b
  | 3 => (a ||| b) % m
  | 4 => (a ^^^ b) % m
  | 5 => a * 2 ^ (b % 64) % m
  | _ => a / 2 ^ (b % 64)

/-- A 64-bit value as a signed number. -/
def signed64 (a : Nat) : Int := if a < 2 ^ 63 then (a : Int) else (a : Int) - (2 ^ 64 : Nat)

/-- The comparison CC of BR. -/
def brTest (cc a b : Nat) : Bool :=
  match cc with
  | 0 => a == b
  | 1 => a != b
  | 2 => decide (a < b)
  | 3 => decide (b ≤ a)
  | 4 => decide (signed64 a < signed64 b)
  | _ => decide (signed64 b ≤ signed64 a)

/-! ## Program faults (R215) -/

namespace Kind
def badOpcode : Nat := 1
def range : Nat := 2
def metaRo : Nat := 3
def stack : Nat := 4
def hashLimit : Nat := 5
def badOperand : Nat := 6
def badVerdict : Nat := 7
def overrun : Nat := 8
def bodyLate : Nat := 9
def timeout : Nat := 10
def psEcc : Nat := 14
def engine : Nat := 15
end Kind

/-- The status of a fault kind (R215). -/
def kindStatus (k : Nat) : Nat := if k = Kind.psEcc ∨ k = Kind.engine then stEngineError else stProgramFault

/-- A context is released: the totals of R214 take its cycles. -/
def freeCtx (c : Ctx) (s : State) : State :=
  { s with dp := { s.dp with
    ctxs := s.dp.ctxs.filter (fun d => d.id != c.id), msFrames := s.dp.msFrames + 1,
    msIssue := s.dp.msIssue + c.issued, msElapsed := s.dp.msElapsed + (s.tb.cycle - c.start) } }
    |> bumpBy (cClus (ctxCluster c.id) 1) c.issued

/-- Record a fault of a cluster: RE_FAULT_LAST, its event bit and its counter. -/
def noteFault (cl eng kind pc : Nat) (f : Frame) (s : State) : State :=
  wr (loc .RE_FAULT_LAST cl)
      (kind * 2 ^ 28 + b2n f.tx * 2 ^ 27 + f.port * 2 ^ 21 + eng * 2 ^ 16 + pc % 4096) s
    |> (if kindStatus kind = stEngineError then
          fun t => setFlag (loc .RE_CL_EVENT cl) F.RE_CL_EVENT_ENGINE_ERROR t |> bump (cClus cl 3)
        else fun t => setFlag (loc .RE_CL_EVENT cl) F.RE_CL_EVENT_PROG_FAULT t |> bump (cClus cl 2))

/-- The frame of a fault: its verdict is the fault, and its learn requests are discarded (R202, R215). -/
def faultVerdict (kind : Nat) (f : Frame) : Frame :=
  { f with verdict := some { kind := .fault (kindStatus kind), mirror := none, mark := false }, ctx := none,
           learns := [] }

/-- A program fault or engine error in a context (R215). -/
def ctxFault (kind : Nat) (c : Ctx) (s : State) : State :=
  match getF c.frame s with
  | none => freeCtx c s
  | some f =>
    setF (faultVerdict kind f) (freeCtx c s) |> noteFault (ctxCluster c.id) (ctxEngine c.id) kind c.pc f

/-! ## Issue (R188, R197, R211) -/

/-- An uncorrectable program-store word (R217): the frame faults at its address, and its cluster is disabled. -/
def psFatal (c : Ctx) (s : State) : State :=
  let cl := ctxCluster c.id
  ctxFault Kind.psEcc c s
    |> fs (loc .RE_CL_STATUS cl) F.RE_CL_STATUS_DISABLED 1
    |> setFlag (loc .RE_CL_EVENT cl) F.RE_CL_EVENT_PS_ECC_FATAL

/-- A single-bit error of a fetch is corrected and counted (R217). -/
def psCorrected (c : Ctx) (s : State) : State :=
  if c.ecc.contains (c.issued, false) then
    setFlag (loc .RE_CL_EVENT (ctxCluster c.id)) F.RE_CL_EVENT_PS_ECC_CORR s |> bump (cClus (ctxCluster c.id) 4)
  else s

/-- Issue-cycle cap (R211): 64 in strict mode, EXT_CAP in extended mode. -/
def issueCap (s : State) : Nat :=
  let a := loc .RE_BUDGET
  if fb a F.RE_BUDGET_EXTENDED s then fg a F.RE_BUDGET_EXT_CAP s else 64

/-- What an issued instruction does: stalls, faults, or leaves its context and the state changed; `stop` says that END
has freed the context. -/
inductive Issue where
  | stall
  | fault (kind : Nat)
  | next (c : Ctx) (s : State)
  | stop (s : State)

/-- The word at a context's pc. (DESIGN CHOICE: log entry 37.) -/
def fetch (c : Ctx) (s : State) : Nat := sget 0 s.dp.store (c.bank * 4096 + c.pc)

/-- Issue the instruction at the pc of context `i`, which must be of row `o`: one cycle, the pc advanced modulo 4,096
before the operation. A word that encodes no instruction faults with BAD_OPCODE, and one with an uncorrectable error with
PS_ECC (R217), whichever row is commanded; the instruction after the last the budget allows faults with OVERRUN and does not
issue. (DESIGN CHOICE: log entry 37.) -/
def issue (o : Op) (i : Nat) (f : Ctx → Nat → State → Issue) (s : State) : State :=
  match getCtx i s with
  | none => s
  | some c =>
    let w := fetch c s
    let mine := match opOf w with
      | some p => p == o
      | none => true
    let fatal := c.ecc.contains (c.issued, true)
    let s1 := psCorrected c s
    if fatal = false ∧ mine = false then s
    else if issueCap s ≤ c.issued then ctxFault Kind.overrun c s
    else if fatal then psFatal c s
    else if (opOf w).isNone then ctxFault Kind.badOpcode { c with issued := c.issued + 1 } s1
    else
      let c1 := { c with issued := c.issued + 1 }
      match f { c1 with pc := (c.pc + 1) % 4096 } w s1 with
      | .stall => s
      | .fault k => ctxFault k c1 s1
      | .next c2 t => setCtx c2 t
      | .stop t => t

/-- An instruction that reads and writes registers only: it stalls while one of them is pending (R200). -/
def regOp (regs : List Nat) (c : Ctx) (s : State) (f : Ctx → Ctx) : Issue :=
  if regs.any c.waits then .stall else .next (f c) s

/-! ## Registers and branches -/

def opNop (c : Ctx) (_ : Nat) (s : State) : Issue := .next c s

/-- SYNC: ASYNC waits for every result, FEND for the end of the frame. -/
def opSync (c : Ctx) (w : Nat) (s : State) : Issue :=
  let known := match getF c.frame s with
    | some f => f.ended || f.tx
    | none => true
  if (bit w 1 && !c.pend.isEmpty) || (bit w 0 && !known) then .stall else .next c s

def opCnt (c : Ctx) (w : Nat) (s : State) : Issue := .next c (bump (0x32C0 + bits w 5 0) s)

def opAlu (c : Ctx) (w : Nat) (s : State) : Issue :=
  let rd := bits w 25 22
  let rs := bits w 21 18
  let rt := bits w 17 14
  regOp [rd, rs, rt] c s (fun c => c.setReg rd (aluFn (bits w 3 0) (c.reg rs) (c.reg rt)))

def opAlui (c : Ctx) (w : Nat) (s : State) : Issue :=
  let rd := bits w 25 22
  let rs := bits w 21 18
  regOp [rd, rs] c s (fun c => c.setReg rd (aluFn (bits w 17 15) (c.reg rs) (bits w 14 0)))

def opMovw (c : Ctx) (w : Nat) (s : State) : Issue :=
  let rd := bits w 25 22
  let sh := 16 * bits w 17 16
  regOp [rd] c s (fun c =>
    let old := if bit w 18 then c.reg rd else 0
    c.setReg rd (old - old / 2 ^ sh % 65536 * 2 ^ sh + bits w 15 0 * 2 ^ sh))

def opExt (c : Ctx) (w : Nat) (s : State) : Issue :=
  let rd := bits w 25 22
  let rs := bits w 21 18
  let pos := bits w 17 12
  let lm1 := bits w 11 6
  if 63 < pos + lm1 then .fault Kind.range
  else regOp [rd, rs] c s (fun c => c.setReg rd (c.reg rs / 2 ^ pos % 2 ^ (lm1 + 1)))

def opIns (c : Ctx) (w : Nat) (s : State) : Issue :=
  let rd := bits w 25 22
  let rs := bits w 21 18
  let pos := bits w 17 12
  let lm1 := bits w 11 6
  if 63 < pos + lm1 then .fault Kind.range
  else regOp [rd, rs] c s (fun c =>
    let n := 2 ^ (lm1 + 1)
    c.setReg rd (c.reg rd - c.reg rd / 2 ^ pos % n * 2 ^ pos + c.reg rs % n * 2 ^ pos))

def opBr (c : Ctx) (w : Nat) (s : State) : Issue :=
  let rs := bits w 25 22
  let rt := bits w 21 18
  regOp [rs, rt] c s (fun c => if brTest (bits w 17 15) (c.reg rs) (c.reg rt) then { c with pc := bits w 11 0 } else c)

def opBrh (c : Ctx) (w : Nat) (s : State) : Issue :=
  let rs := bits w 25 23
  regOp [rs] c s (fun c =>
    if xor (c.reg rs % 65536 == bits w 15 0) (bit w 22) then { c with pc := (c.pc + bits w 21 16) % 4096 } else c)

def opBb (c : Ctx) (w : Nat) (s : State) : Issue :=
  let rs := bits w 25 22
  regOp [rs] c s (fun c => if bit (c.reg rs) (bits w 20 15) = bit w 21 then { c with pc := bits w 11 0 } else c)

def opJmp (c : Ctx) (w : Nat) (s : State) : Issue := .next { c with pc := bits w 11 0 } s

/-- CALL: the stack holds 4 addresses (R198). -/
def opCall (c : Ctx) (w : Nat) (s : State) : Issue :=
  if 4 ≤ c.ret.length then .fault Kind.stack else .next { c with ret := c.pc :: c.ret, pc := bits w 11 0 } s

def opRet (c : Ctx) (_ : Nat) (s : State) : Issue :=
  match c.ret with
  | [] => .fault Kind.stack
  | a :: r => .next { c with ret := r, pc := a } s

def opJmpr (c : Ctx) (w : Nat) (s : State) : Issue :=
  let rs := bits w 21 18
  regOp [rs] c s (fun c => { c with pc := c.reg rs % 4096 })

/-! ## Loads and stores (R193 to R195, R198) -/

/-- The first tag of a frame's data has TPID 0x8100 or 0x88A8 (R168, R194). -/
def firstTag (b : Bytes) : Bool := be16 b 12 == 0x8100 || be16 b 12 == 0x88A8

/-- Metadata bytes 0 to 15 as a load finds them (R194): LEN_KNOWN, LEN and CHK_FAIL follow the frame. -/
def mdHead (f : Frame) : Nat :=
  let known := f.ended || f.tx
  f.port + b2n f.tx * 128 +
    (f.prio + 8 * b2n f.tagged + 16 * b2n f.mm + 32 * b2n known + 64 * b2n f.ctrl +
      128 * b2n (known && !f.tx && f.fail != 0)) * 256 +
    (if known then f.len else 0) * 65536

/-- The metadata of a frame as a load finds it. -/
def metaBytes (f : Frame) : Bytes := bytesLE 4 (mdHead f) ++ f.prog.md.drop 4

/-- Metadata at dispatch (R194): the issuing function, the handle and USER of a transmitted frame, the timestamp of a
received one, and HLEN and BODY. -/
def initMeta (f : Frame) (func handle user : Nat) : Bytes :=
  let v := min 256 f.len
  bytesLE 4 0 ++ bytesLE 2 func ++ bytesLE 2 handle ++ bytesLE 8 (if f.tx then 0 else time64 f.ts) ++
    bytesLE 8 user ++ List.replicate 8 0 ++ bytesLE 2 0 ++ bytesLE 2 v ++ bytesLE 2 v ++ List.replicate 26 0

/-- The bytes `a` to `a + n` of the window. -/
def winBytes (f : Frame) (a n : Nat) : Bytes := (List.range n).map (fun i => winByte f (a + i))

/-- A load of metadata meets a pending field (R195). -/
def mdPending (f : Frame) (a n : Nat) : Bool :=
  (bits f.prog.pend 1 0 != 0 && decide (a < 36) && decide (34 < a + n)) ||
  (bits f.prog.pend 3 2 != 0 && decide (a < 38) && decide (36 < a + n))

/-- Address of LD, ST and HASHA. -/
def memAddr (c : Ctx) (base : Bool) (rs ofs : Nat) : Nat := ofs + (if base then c.reg rs % 65536 else 0)

def opLd (c : Ctx) (w : Nat) (s : State) : Issue :=
  let rd := bits w 25 22
  let rs := bits w 21 18
  let n := 2 ^ bits w 17 16
  if c.waits rd || (bit w 15 && c.waits rs) then .stall
  else match getF c.frame s with
    | none => .next c s
    | some f =>
      let a := memAddr c (bit w 15) rs (bits w 8 0)
      if bit w 14 then
        if 63 < a + n - 1 then .fault Kind.range
        else if mdPending f a n then .stall
        else .next (c.setReg rd (u (metaBytes f) a n)) s
      else if 255 < a + n - 1 then .fault Kind.range
      else if (List.range n).any (fun i => notArrived f (a + i)) then .stall
      else .next (c.setReg rd (Bytes.toNat (winBytes f a n).reverse)) s

/-- Store a byte string into the window. -/
def storeWin (a : Nat) (b : Bytes) (f : Frame) : Frame :=
  let w := (List.range b.length).foldl (fun m i => sput none m (a + i) (some (b.getD i 0))) f.prog.win
  { f with prog := { f.prog with win := w } }

/-- Store a byte string into the metadata; the bytes of HLEN and BODY that it writes are no longer pending. -/
def storeMeta (a : Nat) (b : Bytes) (f : Frame) : Frame :=
  let still (i o : Nat) : Nat := if a ≤ o ∧ o < a + b.length then 0 else b2n (bit f.prog.pend i) * 2 ^ i
  { f with prog := { f.prog with
    md := putBytes f.prog.md a b, pend := still 0 34 + still 1 35 + still 2 36 + still 3 37 } }

def opSt (c : Ctx) (w : Nat) (s : State) : Issue :=
  let rt := bits w 25 22
  let rs := bits w 21 18
  let n := 2 ^ bits w 17 16
  if c.waits rt || (bit w 15 && c.waits rs) then .stall
  else match getF c.frame s with
    | none => .next c s
    | some f =>
      let a := memAddr c (bit w 15) rs (bits w 8 0)
      if bit w 14 then
        if 63 < a + n - 1 then .fault Kind.range
        else if a < 16 then .fault Kind.metaRo
        else .next c (setF (storeMeta a (bytesLE n (c.reg rt)) f) s)
      else if 255 < a + n - 1 then .fault Kind.range
      else .next c (setF (storeWin a (bytesBE n (c.reg rt)) f) s)

/-! ## Lookup, meters, hash and checksums (R200 to R205) -/

/-- A fifth pending operation stalls (R200). -/
def pendFull (c : Ctx) : Bool := decide (4 ≤ c.pend.length)

def addPend (p : Pend) (c : Ctx) : Ctx := { c with pend := c.pend ++ [p] }

def opLkp (c : Ctx) (w : Nat) (s : State) : Issue :=
  let rd := bits w 25 22
  let rs := bits w 21 18
  let rt := bits w 17 14
  let l := bit w 13
  let m := bit w 12
  let tx := match getF c.frame s with
    | some f => f.tx
    | none => false
  if rs % 2 = 1 ∨ (l && m) = true ∨ (l && tx) = true then .fault Kind.badOperand
  else if c.waits rd || c.waits rs || c.waits (rs + 1) || ((l || m) && c.waits rt) then .stall
  else if m && bits (c.reg rt) 15 14 == 3 then .fault Kind.badOperand
  else if pendFull c then .stall
  else
    let key := c.reg rs + c.reg (rs + 1) % 65536 * 2 ^ 64
    .next (addPend (.lkp rd key (if m then some (c.reg rt % 2 ^ 14, bits (c.reg rt) 15 14) else none)
      (if l then some (c.reg rt % 2 ^ 32) else none)) c) s

def opMtr (c : Ctx) (w : Nat) (s : State) : Issue :=
  let rd := bits w 25 22
  let rs := bits w 21 18
  let rt := bits w 17 14
  if c.waits rd || c.waits rs || c.waits rt then .stall
  else if bits (c.reg rt) 15 14 = 3 then .fault Kind.badOperand
  else if pendFull c then .stall
  else .next (addPend (.mtr rd (c.reg rs % 65536) (c.reg rt % 2 ^ 14) (bits (c.reg rt) 15 14)) c) s

def opHasha (c : Ctx) (w : Nat) (s : State) : Issue :=
  let rs := bits w 25 22
  let base := bit w 21
  let n := bits w 20 17 + 1
  let put (b : Bytes) : Issue :=
    if 64 < c.acc.length + n then .fault Kind.hashLimit else .next { c with acc := c.acc ++ b } s
  if bit w 16 then
    if base = true ∨ 8 < n then .fault Kind.badOperand
    else if c.waits rs then .stall
    else put (bytesBE n (c.reg rs))
  else if base && c.waits rs then .stall
  else
    let a := memAddr c base rs (bits w 8 0)
    if 255 < a + n - 1 then .fault Kind.range
    else match getF c.frame s with
      | none => .next c s
      | some f => if (List.range n).any (fun i => notArrived f (a + i)) then .stall else put (winBytes f a n)

/-- Accumulation limit of a hash function (R204). -/
def hashLimitOf (fn : Nat) : Nat := if fn = 0 then 36 else 64

def opHashf (c : Ctx) (w : Nat) (s : State) : Issue :=
  let rd := bits w 25 22
  let fn := bits w 21 20
  if fn = 3 ∨ (fn = 2 ∧ rd % 2 = 1) then .fault Kind.badOperand
  else if c.waits rd || (fn == 2 && c.waits (rd + 1)) || pendFull c then .stall
  else if hashLimitOf fn < c.acc.length then .fault Kind.hashLimit
  else .next (addPend (.hashf rd fn c.acc) { c with acc := [] }) s

/-- 32 bits of a byte string from bit `i`, most significant bit first. -/
def keyBits (k : Bytes) (i : Nat) : Nat :=
  let v := Bytes.toNat ((k.drop (i / 8)).take 5).reverse
  v / 2 ^ (8 - i % 8) % 2 ^ 32

/-- Toeplitz hash (R204). -/
def toeplitz (key : Bytes) (b : Bytes) : Nat :=
  (List.range (8 * b.length)).foldl (fun h i =>
    if bit (b.getD (i / 8) 0).toNat (7 - i % 8) then h ^^^ keyBits key i else h) 0

/-- Key of the Toeplitz hash (RE_HASH_KEY). -/
def hashKey40 (s : State) : Bytes := (List.range 10).flatMap (fun w => bytesLE 4 (rd (loc .RE_HASH_KEY 0 w) s))

/-- An IPv4 header at a window offset: its length in bytes, where it lies in the window. -/
def ip4Header (f : Frame) (a : Nat) : Option Nat :=
  if 255 < a then none
  else
    let n := 4 * ((winByte f a).toNat % 16)
    if n < 20 ∨ 256 < a + n then none else some n

/-- Some byte that a CSUM reads has not arrived. -/
def ip4Waits (f : Frame) (a : Nat) : Bool :=
  decide (a ≤ 255) && (notArrived f a || (match ip4Header f a with
    | some n => (List.range n).any (fun i => notArrived f (a + i))
    | none => false))

def opIp4h (c : Ctx) (w : Nat) (s : State) : Issue :=
  let rd := bits w 23 20
  let rs := bits w 19 16
  if c.waits rd || c.waits rs then .stall
  else match getF c.frame s with
    | none => .next c s
    | some f =>
      let a := c.reg rs % 512
      if ip4Waits f a then .stall
      else match ip4Header f a with
        | none => .next (c.setReg rd 2) s
        | some n => .next (c.setReg rd (if fold16 (sum16 (winBytes f a n)) = 65535 then 0 else 1)) s

def opIp4g (c : Ctx) (w : Nat) (s : State) : Issue :=
  let rs := bits w 19 16
  if c.waits rs then .stall
  else match getF c.frame s with
    | none => .next c s
    | some f =>
      let a := c.reg rs % 512
      if ip4Waits f a then .stall
      else match ip4Header f a with
        | none => .fault Kind.badOperand
        | some n =>
          let z := putBytes (winBytes f a n) 10 [0, 0]
          .next c (setF (storeWin (a + 10) (bytesBE 2 (65535 - fold16 (sum16 z))) f) s)

def opL4 (c : Ctx) (w : Nat) (s : State) : Issue :=
  let rs := bits w 19 16
  let rt := bits w 15 12
  if c.waits rs || c.waits rt then .stall
  else match getF c.frame s with
    | none => .next c s
    | some f =>
      let k : Csum := { udp := bit w 10, ip := c.reg rs % 2 ^ 14, l4 := c.reg rt % 2 ^ 14 }
      let pr := if bit w 11 then { f.prog with slot1 := some k } else { f.prog with slot0 := some k }
      .next c (setF { f with prog := pr } s)

/-! ## Asynchronous results -/

/-- Take the pending operation of register `r` out of a context. -/
def takePend (c : Ctx) (r : Nat) : Option (Pend × Ctx) :=
  match c.pend.find? (fun p => p.writes.head? == some r) with
  | some p => some (p, { c with pend := c.pend.filter (fun q => q.writes.head? != some r) })
  | none => none

/-- The LKP result word (R201). -/
def lkpWord (ovf metered : Bool) (colour : Nat) (e : Ent) : Nat :=
  2 ^ 63 + b2n ovf * 2 ^ 62 + (if metered then colour else 0) * 2 ^ 60 + b2n metered * 2 ^ 59 +
    e.action % 32 * 2 ^ 48 + e.meter % 65536 * 2 ^ 32 + e.target % 65536

/-- A steering lookup (R227, R228): its result word. -/
def lookup (key : Nat) (charge : Option (Nat × Nat)) (s : State) : Nat × State :=
  let s1 := bump (cTable 0) s
  match findKey key s1 with
  | none => (0, s1)
  | some p =>
    match entAt p s1 with
    | none => (0, s1)
    | some e =>
      let ovf := match p with
        | .inl w => decide (ovBase ≤ w)
        | .inr _ => true
      let s2 := setHit p (bump (cTable 1) s1)
      match charge with
      | some (n, colour) =>
        if e.meter = 65535 then (lkpWord ovf false 0 e, s2)
        else (let r := chargeMeter e.meter n colour s2; (lkpWord ovf true r.1 e, r.2))
      | none => (lkpWord ovf false 0 e, s2)

/-- LOOKUP_RESULT, the table island being in RUN (R21), for register `r` of context `i`; the read finds `corr`
correctable and the ways `fatal` uncorrectable (R225). A learn request is held on the frame (R202). (DEDUCED: log entry
38.) -/
def lookupResult (i r corr : Nat) (fatal : List Nat) (s : State) : State :=
  match (if islRun 5 s then getCtx i s else none) with
  | none => s
  | some c =>
    match takePend c r with
    | some (.lkp rd key charge learn, c1) =>
      let v := lookup key charge (eccRead corr fatal s)
      let s1 := setCtx (c1.setReg rd v.1) v.2
      match learn, getF c.frame s1 with
      | some t, some f => setF { f with learns := f.learns ++ [{ key := key, target := t, port := f.port }] } s1
      | _, _ => s1
    | _ => s

/-- METER_CHARGE (R203, R252). (DEDUCED: log entry 38.) -/
def meterCharge (i r : Nat) (s : State) : State :=
  match getCtx i s with
  | none => s
  | some c =>
    match takePend c r with
    | some (.mtr rd idx n colour, c1) =>
      let v := chargeMeter idx n colour s
      setCtx (c1.setReg rd (v.1 + meterAction idx v.1 s * 256)) v.2
    | _ => s

/-- HASH_RESULT (R204). (DEDUCED: log entry 38.) -/
def hashResult (i r : Nat) (s : State) : State :=
  match getCtx i s with
  | none => s
  | some c =>
    match takePend c r with
    | some (.hashf rd fn b, c1) =>
      let c2 := match fn with
        | 0 => c1.setReg rd (toeplitz (hashKey40 s) b)
        | 1 => c1.setReg rd (crc32c b)
        | _ => (c1.setReg rd (crc32c b * 2 ^ 32 + crc poly32C (Sys2Proof.Machine.rd (loc .RE_DIGEST_SEED) s) b)).setReg
            (rd + 1) b.length
      setCtx c2 s
    | _ => s

/-! ## END (R202, R207) -/

/-- The fault that a complete frame's edits bring (R207, R210): BODY beyond the frame, or nothing delivered. (DEDUCED:
log entry 40.) -/
def lateFault (f : Frame) : Nat :=
  let bad := decide (256 < headOf f + hlenOf f)
  if f.unedited ∨ f.tx then 0
  else match f.verdict.map Verdict.kind with
    | none => 0
    | some (.fault _) => 0
    | some .drop => if bad then Kind.badVerdict else if f.len < bodyOf f then Kind.bodyLate else 0
    | some _ =>
      if bad then Kind.badVerdict
      else if f.len < bodyOf f ∨ (finalBytes f).1.length - (if f.noFcs || keepFcs f then 0 else 4) < 1 then Kind.bodyLate
      else 0

/-- The learn requests of a frame that has ended with a verdict: none where a check failed or the frame ends in a program fault
(R166, R202). -/
def learnsOf (g : Frame) : List Learn := if g.fail ≠ 0 ∨ lateFault g ≠ 0 then [] else g.learns

/-- Frames that have ended, oldest first, leave their learn requests for the learn queue, up to the first that has no verdict
yet (R237). -/
def drainList : List (Nat × Option (List Learn)) → State → List (Nat × Option (List Learn)) × State
  | [], s => ([], s)
  | (_, some ls) :: r, s => drainList r (forEach ls learnEnqueue s)
  | (f, none) :: r, s =>
    match getF f s with
    | none => drainList r s
    | some g =>
      if g.verdict.isNone then ((f, none) :: r, s)
      else drainList r (forEach (learnsOf g) learnEnqueue (setF { g with learns := [] } s))

/-- The learn requests of port `p`'s frames go to the learn queue in the order in which the frames ended (R237). -/
def drainLearns (p : Nat) (s : State) : State :=
  let r := drainList (sget [] s.dp.learnWait p) s
  { r.2 with dp := { r.2.dp with learnWait := sput [] r.2.dp.learnWait p r.1 } }

/-- Release a frame's learn requests once it has ended and its program has reached a verdict: into the learn queue, or
discarded where a check failed or the frame ends in a program fault (R166, R202, R237). Until it has its verdict, a frame that
has ended keeps its place before those that end later. -/
def releaseLearns (f : Nat) (s : State) : State :=
  match getF f s with
  | none => s
  | some g =>
    if g.ended = false ∨ g.tx = true then s
    else
      let l := sget [] s.dp.learnWait g.port
      let e := (f, if g.verdict.isNone then none else some (learnsOf g))
      let l1 := if l.any (fun x => x.1 == f) then l.map (fun x => if x.1 = f then e else x) else l ++ [e]
      let s1 := if g.verdict.isNone then s else setF { g with learns := [] } s
      drainLearns g.port { s1 with dp := { s1.dp with learnWait := sput [] s1.dp.learnWait g.port l1 } }

/-- The verdict that VERD and TARGET name; none for BAD_VERDICT. -/
def verdictOf (verd target : Nat) (f : Frame) : Option VKind :=
  match verd with
  | 0 => some .drop
  | 1 => some (.deliver (target % 65536))
  | 2 => if f.tx then none else some (.forward (target % 32768))
  | 3 => if f.tx then some .send else none
  | _ => none

/-- HEAD + HLEN > 256, HLEN being known (R207). (DEDUCED: log entry 40.) -/
def headBad (f : Frame) : Bool := bits f.prog.pend 1 0 == 0 && decide (256 < headOf f + hlenOf f)

def opEnd (c : Ctx) (w : Nat) (s : State) : Issue :=
  if c.pend ≠ [] then .stall
  else match getF c.frame s with
    | none => .stop (freeCtx c s)
    | some f0 =>
      let f := resolvePend f0
      match verdictOf (bits w 25 23) (c.reg (bits w 17 14) % 2 ^ 32) f with
      | none => .fault Kind.badVerdict
      | some k =>
        if headBad f then .fault Kind.badVerdict
        else
          let v : Verdict :=
            { kind := k, mirror := if bit w 22 then some (bits w 13 10) else none, mark := bit w 21 }
          let s1 := setF { f with verdict := some v, ctx := none, endAt := ctxEngine c.id * 4096 + (c.pc + 4095) % 4096 } (freeCtx c s)
          let s2 := if k = .drop then bump (cClus (ctxCluster c.id) 7) s1 else s1
          .stop (releaseLearns f.id s2)

/-! ## Dispatch (R189 to R191, R213) -/

/-- Engines of a cluster that dispatch. -/
def dispatching (cl : Nat) (s : State) : List Nat :=
  let a := loc .RE_CL_STATUS cl
  if fb a F.RE_CL_STATUS_DISABLED s then []
  else (List.range 17).filter (fun e => bit (fg a F.RE_CL_STATUS_ACTIVE s) e)

/-- Free contexts of an engine. -/
def freeOf (cl e : Nat) (s : State) : List Nat :=
  [34 * cl + 2 * e, 34 * cl + 2 * e + 1].filter (fun i => (getCtx i s).isNone)

/-- Free contexts of a cluster. -/
def freeCount (cl : Nat) (s : State) : Nat := (dispatching cl s).foldl (fun a e => a + (freeOf cl e s).length) 0

/-- The cluster with the most free contexts; ties go to the lowest-numbered after the one chosen last (R190). (DESIGN
CHOICE: log entry 39.) -/
def pickCluster (s : State) : Option Nat :=
  let order := (List.range 24).map (fun k => (s.dp.lastCluster + 1 + k) % 24)
  let best := order.foldl (fun a c => max a (freeCount c s)) 0
  if best = 0 then none else order.find? (fun c => freeCount c s == best)

/-- The context a frame is placed in within a cluster (R190). -/
def pickCtx (cl : Nat) (s : State) : Option Nat :=
  let es := dispatching cl s
  let e := (es.find? (fun e => (freeOf cl e s).length == 2)).orElse
    (fun _ => es.find? (fun e => (freeOf cl e s).length != 0))
  e.bind (fun e => (freeOf cl e s).head?)

/-- A frame may be dispatched (R189): admitted, with 64 bytes or ended; a transmitted frame, its header gathered. -/
def dispatchable (f : Frame) : Bool :=
  !f.dead && (if f.tx then f.ended || decide (256 ≤ f.data.length)
    else f.discard == 0 && (f.ended || decide (64 ≤ f.data.length)))

/-- Active bank of the program store. -/
def activeBank (s : State) : Nat := fg (loc .RE_PS_CTRL) F.RE_PS_CTRL_ACTIVE s

/-- Entry point of a frame (R191). -/
def entryPoint (f : Frame) (s : State) : Nat := sget 0 s.dp.entry (activeBank s * 128 + 2 * f.port + b2n f.tx) % 4096

/-- Program results of a frame at dispatch (R194, R195). -/
def initProg (f : Frame) (s : State) : Prog :=
  let b := entryOf f s
  let k := match f.exec.bind (fun x => getX x s) with
    | some e => if f.tx then getSq e.sq s else Sq.none
    | none => Sq.none
  let b1 := if f.tx then initMeta f k.func k.handle (u b 8 8) else initMeta f 0 0 0
  let known := lenKnown f
  let v := if f.ended then min 256 f.len else 256
  { Prog.none with
    md := if known then putMd 36 2 v (putMd 34 2 v b1) else b1
    pend := if known then 0 else 15 }

/-- Place a frame in a context; its fetches will meet the error checks `ecc` (R217). -/
def place (f : Frame) (cl i : Nat) (ecc : List (Nat × Bool)) (s : State) : State :=
  let c : Ctx :=
    { id := i, frame := f.id, bank := activeBank s, pc := entryPoint f s, g := List.replicate 16 0, ret := [], acc := [],
      pend := [], issued := 0, start := s.tb.cycle, ecc := ecc }
  { s with dp := { s.dp with
      ctxs := s.dp.ctxs ++ [c], lastCluster := cl, waiters := s.dp.waiters.filter (· != f.id) } }
    |> setF { f with
        dispatched := true, ctx := some i, cluster := cl, tagged := firstTag f.data, prog := initProg f s }
    |> bump (cClus cl 0)

/-- The frame that waits first for a context (R213). -/
def firstWaiter (s : State) : Option Nat :=
  s.dp.waiters.find? (fun i => match getF i s with
    | some f => dispatchable f && !f.dispatched
    | none => false)

/-- A frame finds no free context: it waits behind the frames that wait already, CTX_WAIT is set, and the frame is counted,
with the cluster after the one chosen last (R213). (DESIGN CHOICE: log entry 39.) -/
def joinWaiters (f : Frame) (s : State) : State :=
  if f.waited then s
  else setF { f with waited := true } { s with dp := { s.dp with waiters := s.dp.waiters ++ [f.id] } }
    |> setFlag (loc .RE_EVENT) F.RE_EVENT_CTX_WAIT
    |> bump (cClus ((s.dp.lastCluster + 1) % 24) 5)

/-- FRAME_DISPATCH for a port and direction, the core being in RUN: the oldest frame not yet dispatched goes to a free
context, or waits; frames that wait go first, in the order in which they wait. `ecc` lists the fetches of its program
that meet an error, and whether it is uncorrectable (R217). (DESIGN CHOICE: log entry 39.) -/
def dispatch (p : Nat) (tx : Bool) (ecc : List (Nat × Bool)) (s : State) : State :=
  match ((lineOf p tx s).filterMap (fun f => getF f s)).find? (fun f => !f.dispatched) with
  | none => s
  | some f =>
    if dispatchable f = false ∨ islRun 2 s = false then s
    else if (firstWaiter s).any (· != f.id) then joinWaiters f s
    else match (pickCluster s).bind (fun cl => (pickCtx cl s).map (fun i => (cl, i))) with
      | none => joinWaiters f s
      | some (cl, i) => place f cl i ecc s

/-! ## Verdicts take effect (R192, R207 to R210, R215, R502) -/

/-- A frame that is a copy of another's emitted bytes, delivered as it is. -/
def copyFrame (id : Nat) (f : Frame) (b : Bytes) (t : Nat) : Frame :=
  { freshFrame id f.port false with
    prio := f.prio, data := b, len := b.length, ended := true, ts := t, unedited := true, noFcs := true,
    dispatched := true, effective := true, prog := { Prog.none with md := f.prog.md },
    marked := (finalBytes f).2 }

/-- Send the mirror copy of a frame whose data is complete (R208). It holds no cells of its own. A copy that its destination
cannot take, now or at the end of a hold, is dropped and counted. -/
def mirrorCopy (f : Frame) (m : Nat) (s : State) : State :=
  let r := loc .RE_MIRROR 0 m
  let e := (finalBytes f).1
  let cut := if f.tx then (if fcsIncluded (entryOf f s) then 4 else 0) else if f.noFcs then 0 else 4
  let b := e.take (e.length - cut)
  let n := fg r F.RE_MIRROR_TRUNC s
  let b1 := if n = 0 then b else b.take n
  let t := fg r F.RE_MIRROR_TARGET s
  let id := s.dp.nextFrame
  let dropped := bump (cClus f.cluster 6)
  if fb r F.RE_MIRROR_VALID s = false then dropped s
  else
    let s1 := addF { copyFrame id f b1 (if f.tx then s.tb.time else f.ts) with mirrorOf := some f.cluster } s
    if fb r F.RE_MIRROR_KIND s then
      let w := forwardTo (t % 32768) id s1
      if w.1 then w.2 else dropped w.2
    else deliverTo t id s1

/-- Record a late fault, at the END of the frame's program. (DEDUCED: log entry 40.) -/
def noteLate (f : Frame) (k : Nat) (s : State) : State := noteFault f.cluster (f.endAt / 4096) k (f.endAt % 4096) f s

/-- A received frame ends in a fault (R215): delivered unedited to FAULT_GROUP, under FCS_POLICY 1 once it has ended (R163),
or dropped. -/
def rxFault (f : Frame) (status : Nat) (s : State) : State :=
  let a := loc .RE_FAULT_CFG
  if fb a F.RE_FAULT_CFG_DELIVER s then
    let s1 := setF { f with unedited := true, faultStatus := status, effective := true, learns := [] } s
    if f.store && !f.ended then s1 else deliverTo (fg a F.RE_FAULT_CFG_FAULT_GROUP s) f.id s1
  else dropF f.id (setF { f with effective := true, learns := [] } s)

/-- The frame can no longer end in BAD_VERDICT or BODY_LATE for what is pending (R195, R207, R210): HLEN is known, or will be
min(256, LEN) behind HEAD 0; what has arrived reaches BODY, or it will be min(256, LEN). -/
def bodySettled (f : Frame) : Bool :=
  (bits f.prog.pend 1 0 == 0 || (bits f.prog.pend 1 0 == 3 && headOf f == 0)) &&
  (bits f.prog.pend 3 2 == 3 || (bits f.prog.pend 3 2 == 0 && decide (bodyOf f ≤ f.data.length)))

/-- The primary verdict of a received frame takes effect, its data being complete or its policy letting it start. -/
def rxEffect (f : Frame) (v : Verdict) (s : State) : State :=
  match v.kind with
  | .drop => if f.ended || (v.mirror.isNone && bodySettled f) then dropF f.id s else s
  | .deliver g => if f.store && !f.ended then s else deliverTo g f.id s
  | .forward l => (forwardTo l f.id s).2
  | .send => s
  | .fault st => rxFault f st s

/-- A received frame's verdict takes effect. A mirror copy is made once the frame is complete. -/
def takeRx (f : Frame) (v : Verdict) (s : State) : State :=
  let s1 := setF { f with effective := true } s
  let k := if f.ended then lateFault f else 0
  if k ≠ 0 then rxFault f (kindStatus k) (noteLate f k s1)
  else
    let s2 := match v.mirror with
      | some m => if f.ended then mirrorCopy f m s1 else s1
      | none => s1
    rxEffect { f with effective := true } v s2

/-- A transmit DELIVER (R264, R502): the emitted frame is admitted as a received frame of its port, or refused. -/
def loopback (f : Frame) (g : Nat) (s : State) : State :=
  let b := (finalBytes f).1
  let n := cellsIn b.length
  let sp := admitSpace f.port f.prio n s
  if sp = 0 then endTx f St.loopbackNoBuffer none (countRefusal f.port f.prio s)
  else
    let id := s.dp.nextFrame
    let c := { copyFrame id f b s.tb.time with space := sp, cells := n }
    endTx f St.ok none (deliverTo g id (xoffEval f.port (addF c s)))

/-- A transmitted frame's verdict takes effect. A copy or a loopback needs all its data. -/
def takeTx (f : Frame) (v : Verdict) (s : State) : State :=
  let s1 := setF { f with effective := true } s
  let s2 := match v.mirror with
    | some m => mirrorCopy f m s1
    | none => s1
  match v.kind with
  | .send =>
    let s3 := adjustCharge f.port f.id (chargeNow f.port f.id (emitLen f) s2) s2
    let r := refusal f s3
    if r ≠ 0 then refuseTx f r s3
    else match selOf f.port f.id s3 with
      | some x => setSel f.port { x with ready := true } s3
      | none => s3
  | .drop => endTx f St.txProgramDrop none (returnCharge f.port f.id s2)
  | .deliver g => loopback f g (returnCharge f.port f.id s2)
  | .forward _ => s2
  | .fault st => endTx f st none (returnCharge f.port f.id s2)

/-- A transmitted frame's verdict must wait for its data. -/
def txWaits (f : Frame) (v : Verdict) : Bool :=
  !f.ended && (v.mirror.isSome || (match v.kind with | .deliver _ => true | _ => false))

/-- VERDICT_TAKE_EFFECT: the oldest frame of a port and direction has its verdict, and leaves the order (R192). The verdict
of a dropped frame has no effect. -/
def verdictEffect (p : Nat) (tx : Bool) (s : State) : State :=
  match lineOf p tx s with
  | [] => s
  | i :: rest =>
    match getF i s with
    | none => setLine p tx rest s
    | some f =>
      match f.verdict with
      | none => s
      | some v =>
        if f.dead then
          reap i (setF { f with effective := true } (setLine p tx rest s))
        else if tx && txWaits f v then s
        else if tx then takeTx f v (setLine p tx rest s)
        else takeRx f v (drainLearns p (setLine p tx rest s))

/-! ## R214 -/

/-- A field's value, saturated at 16 bits. -/
def sat16 (n : Nat) : Nat := min n 65535

/-- ENGINE_RATE_UPDATE: RE_RATE and RE_ELAPSED from the past millisecond's totals. -/
def rateUpdate (s : State) : State :=
  let d := s.dp
  let e := (List.range 24).foldl (fun a c => a + (dispatching c s).length) 0
  let idle := d.msFrames = 0 ∨ d.msIssue = 0 ∨ d.msElapsed = 0
  let i := if d.msFrames = 0 then Config.idleRate 0 else d.msIssue * 16 / d.msFrames
  let t := if d.msFrames = 0 then Config.idleRate 1 else d.msElapsed * 16 / d.msFrames
  let sus := if idle then Config.idleRate 2
    else min (e * 1600 * d.msFrames / d.msIssue) (2 * e * 1600 * d.msFrames / d.msElapsed)
  fs (loc .RE_RATE) F.RE_RATE_MEAN_ISSUE (sat16 i) s
    |> fs (loc .RE_RATE) F.RE_RATE_SUSTAIN (sat16 sus)
    |> fs (loc .RE_ELAPSED) F.RE_ELAPSED_MEAN_ELAPSED (sat16 t)
    |> (fun u => { u with dp := { u.dp with msFrames := 0, msIssue := 0, msElapsed := 0 } })

/-! ## Program store (R217 to R219) -/

def standbyBank (s : State) : Nat := 1 - activeBank s
def drained (s : State) : Bool := fb (loc .RE_PS_CTRL) F.RE_PS_CTRL_DRAINED s

/-- Advance INDEX under AUTOINC. (DEDUCED: log entry 41.) -/
def psAdvance (s : State) : State :=
  let a := loc .RE_PS_ADDR
  if fb a F.RE_PS_ADDR_AUTOINC s then fs a F.RE_PS_ADDR_INDEX (fg a F.RE_PS_ADDR_INDEX s + 1) s else s

/-- Store an instruction word, or an entry word, into a bank. -/
def putStore (bank i v : Nat) (s : State) : State :=
  { s with dp := { s.dp with store := sput 0 s.dp.store (bank * 4096 + i) v } }
def putEntry (bank i v : Nat) (s : State) : State :=
  { s with dp := { s.dp with entry := sput 0 s.dp.entry (bank * 128 + i) v } }

/-- A PROG_UPDATE runs (R309). -/
def progRuns (s : State) : Bool := heldBy 0x33 (fun _ => true) s

/-- A write of RE_PS_DATA; refused while the bank drains or a PROG_UPDATE runs (R218, R309). (DEDUCED: log entry 41.)
-/
def psWrite (data : Nat) (s : State) : Option State :=
  if drained s = false ∨ progRuns s = true then none
  else
    let a := loc .RE_PS_ADDR
    let i := fg a F.RE_PS_ADDR_INDEX s
    let b := standbyBank s
    some (psAdvance (
      if fb a F.RE_PS_ADDR_SPACE s then (if i < 128 then putEntry b i data s else s) else putStore b i data s))

/-- A read of RE_PS_DATA. -/
def psRead (s : State) : Nat × State :=
  let a := loc .RE_PS_ADDR
  let i := fg a F.RE_PS_ADDR_INDEX s
  let b := standbyBank s
  (if fb a F.RE_PS_ADDR_SPACE s then (if i < 128 then sget 0 s.dp.entry (b * 128 + i) else 0)
    else sget 0 s.dp.store (b * 4096 + i), psAdvance s)

/-- RE_PS_CRC of a bank: its instruction words, then its entry words, each little-endian. (DEDUCED: log entry 41.) -/
def psCrc (bank : Nat) (s : State) : Nat :=
  fcs ((List.range 4096).flatMap (fun i => bytesLE 4 (sget 0 s.dp.store (bank * 4096 + i))) ++
    (List.range 128).flatMap (fun i => bytesLE 4 (sget 0 s.dp.entry (bank * 128 + i))))

/-- Switch banks (R217, R218): disabled clusters return to dispatch. -/
def bankSwitch (s : State) : State :=
  let a := loc .RE_PS_CTRL
  forEach (List.range 24) (fun c t => fs (loc .RE_CL_STATUS c) F.RE_CL_STATUS_DISABLED 0 t)
    (fs a F.RE_PS_CTRL_DRAINED 0 (fs a F.RE_PS_CTRL_ACTIVE (standbyBank s) s))

/-- A write of RE_PS_CTRL. -/
def psCtrl (data : Nat) (s : State) : Option State :=
  if bit data 31 = false then some s else if drained s && !progRuns s then some (bankSwitch s) else none

/-- PS_DRAINED: no context runs from the former active bank; a PROG_UPDATE completes. -/
def psDrained (s : State) : State :=
  if drained s || s.dp.ctxs.any (fun c => c.bank == standbyBank s) then s
  else
    let s1 := fs (loc .RE_PS_CTRL) F.RE_PS_CTRL_DRAINED 1 s |> setFlag (loc .RE_EVENT) F.RE_EVENT_SWITCH_DONE
    finishOpt s.dp.progCmd St.ok 0 { s1 with dp := { s1.dp with progCmd := none } } |> progKick

/-- A write of RE_BUDGET: EXT_CAP outside 64 to 1,024 is refused. -/
def writeBudget (data : Nat) (s : State) : Option State :=
  let v := data % 2048
  if v < 64 ∨ 1024 < v then none else some (fs (loc .RE_BUDGET) F.RE_BUDGET_EXT_CAP v s)

/-! ## Substitution of engines (R220, R221) -/

/-- The spare of a cluster, 0x1F for none. -/
def spareEng (cl : Nat) (s : State) : Nat := fg (loc .RE_CL_STATUS cl) F.RE_CL_STATUS_SPARE_ENG s
def substBusy (cl : Nat) (s : State) : Bool := fb (loc .RE_CL_SUBST cl) F.RE_CL_SUBST_BUSY s

/-- ACTIVE with a bit changed. -/
def setActive (cl e : Nat) (on : Bool) (s : State) : State :=
  let a := loc .RE_CL_STATUS cl
  let v := fg a F.RE_CL_STATUS_ACTIVE s
  fs a F.RE_CL_STATUS_ACTIVE (if on then v ||| 2 ^ e else v ^^^ (v &&& 2 ^ e)) s

/-- Start a substitution (R220 steps 1 and 2); none while one runs or where there is no spare. -/
def substEngine (cl e : Nat) (cmd : Option (Nat × Nat)) (s : State) : Option State :=
  let sp := spareEng cl s
  if substBusy cl s || sp == 0x1F then none
  else
    let s1 := setActive cl e false (setActive cl sp true s)
      |> fs (loc .RE_CL_STATUS cl) F.RE_CL_STATUS_SPARE_ENG 0x1F
      |> fs (loc .RE_CL_SUBST cl) F.RE_CL_SUBST_BUSY 1
    some { s1 with dp := { s1.dp with subst := s1.dp.subst ++ [{ cluster := cl, engine := e, cmd := cmd }] } }

/-- A write of RE_CL_SUBST. -/
def writeSubst (cl data : Nat) (s : State) : Option State :=
  let s1 := fs (loc .RE_CL_SUBST cl) F.RE_CL_SUBST_ENGINE (data % 32) s
  if bit data 31 then substEngine cl (data % 32) none s1 else some s1

/-- ENGINE_SUBST_DONE: the engine's contexts have finished. -/
def substDone (cl : Nat) (s : State) : State :=
  match s.dp.subst.find? (fun x => x.cluster == cl) with
  | none => s
  | some x =>
    if s.dp.ctxs.any (fun c => ctxCluster c.id == cl && ctxEngine c.id == x.engine) then s
    else
      { s with dp := { s.dp with subst := s.dp.subst.filter (fun y => y.cluster != cl) } }
        |> fs (loc .RE_CL_SUBST cl) F.RE_CL_SUBST_BUSY 0
        |> setFlag (loc .RE_CL_EVENT cl) F.RE_CL_EVENT_SUBST_DONE
        |> finishOpt x.cmd St.ok 0

/-- ENGINE_FAULT (R221): every frame in the engine's contexts ends with ENGINE_ERROR, and the spare is substituted.
(DEDUCED: log entry 42.) -/
def engineFault (cl e : Nat) (s : State) : State :=
  let cs := s.dp.ctxs.filter (fun c => ctxCluster c.id == cl && ctxEngine c.id == e)
  let s1 := forEach cs (fun c t => ctxFault Kind.engine c t) s
  match substEngine cl e none s1 with
  | some t => t
  | none => setFlag (loc .RE_CL_EVENT cl) F.RE_CL_EVENT_NO_SPARE (setActive cl e false s1)

/-! ## Rows: the instructions -/

/-- NOP. -/
def execNop (i : Nat) (s : State) : Host.Outcome State Fault Refusal := done (issue .nop i opNop s)
/-- END. -/
def execEnd (i : Nat) (s : State) : Host.Outcome State Fault Refusal := done (issue .end_ i opEnd s)
/-- SYNC. -/
def execSync (i : Nat) (s : State) : Host.Outcome State Fault Refusal := done (issue .sync i opSync s)
/-- CNT. -/
def execCnt (i : Nat) (s : State) : Host.Outcome State Fault Refusal := done (issue .cnt i opCnt s)
/-- ALU. -/
def execAlu (i : Nat) (s : State) : Host.Outcome State Fault Refusal := done (issue .alu i opAlu s)
/-- ALUI. -/
def execAlui (i : Nat) (s : State) : Host.Outcome State Fault Refusal := done (issue .alui i opAlui s)
/-- MOVW. -/
def execMovw (i : Nat) (s : State) : Host.Outcome State Fault Refusal := done (issue .movw i opMovw s)
/-- EXT. -/
def execExt (i : Nat) (s : State) : Host.Outcome State Fault Refusal := done (issue .ext i opExt s)
/-- INS. -/
def execIns (i : Nat) (s : State) : Host.Outcome State Fault Refusal := done (issue .ins i opIns s)
/-- LD. -/
def execLd (i : Nat) (s : State) : Host.Outcome State Fault Refusal := done (issue .ld i opLd s)
/-- ST. -/
def execSt (i : Nat) (s : State) : Host.Outcome State Fault Refusal := done (issue .st i opSt s)
/-- BR. -/
def execBr (i : Nat) (s : State) : Host.Outcome State Fault Refusal := done (issue .br i opBr s)
/-- BRH. -/
def execBrh (i : Nat) (s : State) : Host.Outcome State Fault Refusal := done (issue .brh i opBrh s)
/-- BB. -/
def execBb (i : Nat) (s : State) : Host.Outcome State Fault Refusal := done (issue .bb i opBb s)
/-- JMP. -/
def execJmp (i : Nat) (s : State) : Host.Outcome State Fault Refusal := done (issue .jmp i opJmp s)
/-- CALL. -/
def execCall (i : Nat) (s : State) : Host.Outcome State Fault Refusal := done (issue .call i opCall s)
/-- RET. -/
def execRet (i : Nat) (s : State) : Host.Outcome State Fault Refusal := done (issue .ret i opRet s)
/-- JMPR. -/
def execJmpr (i : Nat) (s : State) : Host.Outcome State Fault Refusal := done (issue .jmpr i opJmpr s)
/-- LKP. -/
def execLkp (i : Nat) (s : State) : Host.Outcome State Fault Refusal := done (issue .lkp i opLkp s)
/-- MTR. -/
def execMtr (i : Nat) (s : State) : Host.Outcome State Fault Refusal := done (issue .mtr i opMtr s)
/-- HASHA. -/
def execHasha (i : Nat) (s : State) : Host.Outcome State Fault Refusal := done (issue .hasha i opHasha s)
/-- HASHF. -/
def execHashf (i : Nat) (s : State) : Host.Outcome State Fault Refusal := done (issue .hashf i opHashf s)
/-- CSUM_IP4H. -/
def execCsumIp4h (i : Nat) (s : State) : Host.Outcome State Fault Refusal := done (issue .csumIp4h i opIp4h s)
/-- CSUM_IP4G. -/
def execCsumIp4g (i : Nat) (s : State) : Host.Outcome State Fault Refusal := done (issue .csumIp4g i opIp4g s)
/-- CSUM_L4. -/
def execCsumL4 (i : Nat) (s : State) : Host.Outcome State Fault Refusal := done (issue .csumL4 i opL4 s)

/-! ## Rows: engines and programs -/

/-- LOOKUP_RESULT. -/
def execLookupResult (i r corr : Nat) (fatal : List Nat) (s : State) : Host.Outcome State Fault Refusal :=
  done (lookupResult i r corr fatal s)
/-- METER_CHARGE. -/
def execMeterCharge (i r : Nat) (s : State) : Host.Outcome State Fault Refusal := done (meterCharge i r s)
/-- HASH_RESULT. -/
def execHashResult (i r : Nat) (s : State) : Host.Outcome State Fault Refusal := done (hashResult i r s)
/-- CONTEXT_TIMEOUT (R211). -/
def execContextTimeout (i : Nat) (s : State) : Host.Outcome State Fault Refusal :=
  done (match getCtx i s with
    | some c => ctxFault Kind.timeout c s
    | none => s)
/-- FRAME_DISPATCH. -/
def execFrameDispatch (p : Nat) (tx : Bool) (ecc : List (Nat × Bool)) (s : State) : Host.Outcome State Fault Refusal :=
  done (dispatch (p % 64) tx ecc s)
/-- VERDICT_TAKE_EFFECT. -/
def execVerdictTakeEffect (p : Nat) (tx : Bool) (s : State) : Host.Outcome State Fault Refusal :=
  done (verdictEffect (p % 64) tx s)
/-- ENGINE_RATE_UPDATE. -/
def execEngineRateUpdate (s : State) : Host.Outcome State Fault Refusal := done (rateUpdate s)
/-- PS_DATA_WRITE. -/
def execPsDataWrite (m : Master) (data : W32) (s : State) : Host.Outcome State Fault Refusal :=
  done (ctlWrite m (loc .RE_PS_DATA) data.toNat (psWrite data.toNat) s)
/-- PS_SWITCH: a write of RE_PS_CTRL. -/
def execPsSwitch (m : Master) (data : W32) (s : State) : Host.Outcome State Fault Refusal :=
  done (ctlWrite m (loc .RE_PS_CTRL) data.toNat (psCtrl data.toNat) s)
/-- PS_DRAINED. -/
def execPsDrained (s : State) : Host.Outcome State Fault Refusal := done (psDrained s)
/-- ENGINE_SUBST_REQUEST: a write of RE_CL_SUBST of a cluster. -/
def execEngineSubstRequest (m : Master) (cl : Nat) (data : W32) (s : State) : Host.Outcome State Fault Refusal :=
  done (ctlWrite m (loc .RE_CL_SUBST (cl % 24)) data.toNat (writeSubst (cl % 24) data.toNat) s)

end Sys2Proof.Machine
end

