-- ==== Sys2Proof/Machine/MacRx.lean ====
section
/-!
DEFINITION. The receive MAC and packet buffer admission (spec/06): arriving cells, receive checks, control frames and
pause timers, MAC merge reassembly, wake filters, and link loss inside a frame.
-/

namespace Sys2Proof.Machine

/-! ## Opening a frame -/

/-- Receive timestamp of a frame that starts now (R180): MP_RX_TS_ADJ is signed, in units of 2^-16 ns. (DEDUCED: log
entry 33.) -/
def rxStamp (p : Nat) (s : State) : Nat :=
  let a := rd (loc .MP_RX_TS_ADJ p) s
  let v : Int := if a < 2 ^ 31 then (a : Int) else (a : Int) - (2 ^ 32 : Nat)
  (((s.tb.time : Int) + v * (2 ^ 32 : Nat)) % (timeMod : Nat)).toNat

/-- Why a frame that starts now is discarded when it ends (R184, R186); a STANDBY discards as if RX_EN were 0 (R486). A port that
is asleep with RX_EN = 0 counts in RX_ASLEEP_DROP alone, and a discarded frame in no counter of R162 or R163. (DESIGN CHOICE: log
entry 30.) -/
def startDiscard (p : Nat) (s : State) : Nat :=
  if portAsleep p s then 2 else if fb (loc .MP_RX_CFG p) F.MP_RX_CFG_RX_EN s = false ∨ duRole s = 2 then 1 else 0

/-- A port may receive: enabled, with its link up and its group in RUN (R21), or asleep and watching for wake frames. -/
def receives (p : Nat) (s : State) : Bool :=
  portEnabled s.prof.cur p && ((linkUp p s && islRun (portIsland p) s) || portAsleep p s)

/-- Open a received frame. -/
def rxOpen (p : Nat) (mm : Bool) (s : State) : Nat × State :=
  let id := s.dp.nextFrame
  (id, addF { freshFrame id p false with
    store := fb (loc .MP_RX_CFG p) F.MP_RX_CFG_FCS_POLICY s, ts := rxStamp p s, mm := mm,
    discard := startDiscard p s } s)

/-! ## Cells (R167 to R173) -/

/-- Priority and TAGGED of a frame from its first bytes (R168). -/
def rxPrio (p : Nat) (b : Bytes) (s : State) : Nat × Bool :=
  if firstTag b then
    (fg (loc .MP_RX_PRIO_MAP p) F.MP_RX_PRIO_MAP_PCP_PRIO s / 2 ^ (3 * (be16 b 14 / 2 ^ 13)) % 8, true)
  else (fg (loc .MP_RX_CFG p) F.MP_RX_CFG_UNTAGGED_PRIO s, false)

def passCtrl (p : Nat) (s : State) : Bool := fb (loc .MP_RX_CFG p) F.MP_RX_CFG_PASS_CTRL s

/-- The first cell of a frame: its priority, whether it is a control frame, and its admission (R167, R170, R171). A control
frame that the MAC consumes asks the buffer for nothing. -/
def firstCell (f : Frame) (b : Bytes) (s : State) : State :=
  let p := f.port
  let pr := rxPrio p b s
  let ctrl := be16 b 12 == 0x8808
  let f1 := { f with prio := pr.1, tagged := pr.2, ctrl := ctrl && passCtrl p s, consumed := ctrl && !passCtrl p s }
  if f1.consumed ∨ f1.discard ≠ 0 then setF f1 s
  else
    let sp := admitSpace p pr.1 (reserve p s) s
    if sp = 0 then countRefusal p pr.1 (setF { f1 with discard := 3 } s)
    else setLine p false (lineOf p false s ++ [f.id]) (setF { f1 with space := sp } s)

/-- Continue what waits for a frame's data: its transmission (R210) and its delivery. -/
def rxMore (f : Nat) (s0 : State) : State :=
  match getF f s0 with
  | some g =>
    let s := forwardMore g s0
    match g.exec with
    | some x => if g.ended || !g.store then rxAdvance x s else s
    | none => s
  | none => s0

/-- Bytes of a frame arrive: those beyond MAX_LEN are discarded (R163), the cells they begin are taken, and XOFF is
evaluated (R169, R173). -/
def rxBytes (f : Nat) (b : Bytes) (s : State) : State :=
  match getF f s with
  | none => s
  | some g =>
    let s1 := if g.len = 0 then firstCell g b s else s
    match getF f s1 with
    | none => s1
    | some h =>
      let d := (h.data ++ b).take (maxLen h.port s1)
      let h1 := resolvePend { h with
        data := d, len := h.len + b.length, cells := if h.space = 0 then 0 else cellsIn d.length }
      rxMore f (xoffEval h.port (setF h1 s1))

/-! ## Pause timers (R175 to R177) -/

/-- Show the running timers in MP_RX_PAUSE_STATE. -/
def showPause (p : Nat) (s : State) : State :=
  let r := getRx p s
  fs (loc .MP_RX_PAUSE_STATE p) F.MP_RX_PAUSE_STATE_PAUSE_ALL (b2n (r.pauseAll != 0)) s
    |> fs (loc .MP_RX_PAUSE_STATE p) F.MP_RX_PAUSE_STATE_PAUSED
      ((List.range 8).foldl (fun a q => a + b2n (sget 0 r.pause q != 0) * 2 ^ q) 0)

/-- End of a pause of `q` quanta on the refill clock; 0 where the pause ends at once. -/
def pauseEnd (p q : Nat) (s : State) : Nat :=
  let mbps := quantaRate p (rxSlots p s) s
  if q = 0 ∨ mbps = 0 then 0 else s.tb.refill + q * 512 * 1000 * nsU / mbps

def setPauseAll (p q : Nat) (s : State) : State :=
  showPause p (setRx p { getRx p s with pauseAll := pauseEnd p q s } s)
def setPausePrio (p i q : Nat) (s : State) : State :=
  let r := getRx p s
  showPause p (setRx p { r with pause := sput 0 r.pause i (pauseEnd p q s) } s)

/-- PAUSE_TIMER_EXPIRY: timer of priority `i`, or PAUSE_ALL for 8. -/
def pauseExpire (p i : Nat) (s : State) : State :=
  let r := getRx p s
  showPause p (setRx p (if i = 8 then { r with pauseAll := 0 } else { r with pause := sput 0 r.pause i 0 }) s)

/-- Every pause timer of a port expires (R177). -/
def pauseExpireAll (p : Nat) (s : State) : State :=
  showPause p (setRx p { getRx p s with pauseAll := 0, pause := [] } s)

/-- A control frame acts, its checks having passed (R167, R175). -/
def controlAct (p : Nat) (b : Bytes) (s : State) : State :=
  let op := be16 b 14
  let right := Bytes.toNat (b.take 6).reverse == 0x0180C2000001
  let wrong (s : State) : State :=
    bump (cPort p 16) s |> setFlag (loc .MP_RX_EVENT p) F.MP_RX_EVENT_CTRL_WRONG_KIND
  if op = 0x0001 then
    if fcMode p s ≠ 1 then wrong s
    else if right then setPauseAll p (be16 b 16) s |> occur (cPort p 7)
    else s
  else if op = 0x0101 then
    if fcMode p s ≠ 2 then wrong s
    else if right then
      let en := be16 b 16 &&& fg (loc .MP_RX_CFG p) F.MP_RX_CFG_PFC_RX_EN s
      forEach ((List.range 8).filter (fun i => bit en i)) (fun i t =>
        setPausePrio p i (be16 b (18 + 2 * i)) t |> occur (cPort p (8 + i))) s
    else s
  else bump (cPort p 17) s

/-! ## Wake filters (R182 to R184) -/

/-- A word of the wake filter memory. -/
def wakeWord (p f w : Nat) (s : State) : Nat := sget 0 s.dp.wake (512 * p + 32 * f + w)

/-- Station address of a port, first transmitted byte first. -/
def magicAddr (p : Nat) (s : State) : Bytes := bytesLE 6 (rd64 (loc .MP_MAGIC_ADDR p) s)

/-- Filter `f` matches a frame (R182). (DEDUCED: log entry 34.) -/
def wakeMatch (p f : Nat) (b : Bytes) (s : State) : Bool :=
  let c := wakeWord p f 18 s
  let mask := wakeWord p f 16 s + wakeWord p f 17 s * 2 ^ 32
  let byte (i : Nat) : Nat := wakeWord p f (i / 4) s / 2 ^ (8 * (i % 4)) % 256
  bit (fg (loc .MP_WAKE_CTRL p) F.MP_WAKE_CTRL_WAKE_EN s) f &&
    (List.range 64).all (fun i => !bit mask i || (match b[c % 256 + i]? with
      | some x => x.toNat == byte i
      | none => false)) &&
    (!bit c 8 || b.take 6 == magicAddr p s)

/-- The byte string starts with a magic pattern (R183). -/
def magicAt (m : Bytes) (b : Bytes) : Bool :=
  b.take 102 == List.replicate 6 0xFF ++ (List.range 16).flatMap (fun _ => m)

/-- A magic pattern lies somewhere in the byte string. (DEDUCED: log entry 34.) -/
def magicIn (m : Bytes) : Bytes → Bool
  | [] => false
  | x :: b => magicAt m (x :: b) || magicIn m b

/-- The source number of a frame's match: a filter, or 16 for a magic frame. -/
def wakeSource (p : Nat) (b : Bytes) (s : State) : Option Nat :=
  match (List.range 16).find? (fun f => wakeMatch p f b s) with
  | some f => some f
  | none =>
    if fb (loc .MP_WAKE_CTRL p) F.MP_WAKE_CTRL_MAGIC_EN s && magicIn (magicAddr p s) b then some 16 else none

/-- A good frame arrives while the port's group is in SLEEP (R184): the first match starts the wake. (DEDUCED: log
entry 34.) -/
def wakeFrame (p : Nat) (b : Bytes) (s : State) : State :=
  let i := isl (portIsland p) s
  if i.st ≠ .sleep ∨ i.waking = true then s
  else match wakeSource p b s with
    | none => s
    | some n =>
      wr (loc .MP_WAKE_STATUS p) (2 ^ 31 + n) s
        |> setFlag (loc .MP_RX_EVENT p) F.MP_RX_EVENT_WAKE_MATCH
        |> requestWake (portIsland p) 0x03 p

/-- A write of MP_WAKE_STATUS CLEAR. -/
def writeWakeStatus (p data : Nat) (s : State) : State := if bit data 30 then wr (loc .MP_WAKE_STATUS p) 0 s else s

/-- Advance WORD and FILTER after an access of MP_WAKE_DATA under AUTOINC. -/
def wakeAdvance (p : Nat) (s : State) : State :=
  let a := loc .MP_WAKE_PTR p
  if fb a F.MP_WAKE_PTR_AUTOINC s then
    let w := fg a F.MP_WAKE_PTR_WORD s
    if w = 19 then
      fs a F.MP_WAKE_PTR_FILTER (fg a F.MP_WAKE_PTR_FILTER s + 1) (fs a F.MP_WAKE_PTR_WORD 0 s)
    else fs a F.MP_WAKE_PTR_WORD (w + 1) s
  else s

/-- Writable bits of a wake filter word. -/
def wakeMask (w : Nat) : Nat := if w < 18 then 2 ^ 32 else if w = 18 then 512 else 1

/-- A write and a read of MP_WAKE_DATA. -/
def wakeWrite (p data : Nat) (s : State) : State :=
  let a := loc .MP_WAKE_PTR p
  let w := fg a F.MP_WAKE_PTR_WORD s
  let k := 512 * p + 32 * fg a F.MP_WAKE_PTR_FILTER s + w
  wakeAdvance p (if w < 20 then
    { s with dp := { s.dp with wake := sput 0 s.dp.wake k (data % wakeMask w) } } else s)
def wakeRead (p : Nat) (s : State) : Nat × State :=
  let a := loc .MP_WAKE_PTR p
  (wakeWord p (fg a F.MP_WAKE_PTR_FILTER s) (fg a F.MP_WAKE_PTR_WORD s) s, wakeAdvance p s)

/-! ## The end of a frame -/

/-- Status codes of spec/06. -/
def stRxFcs : Nat := 0x43
def stRxLong : Nat := 0x44
def stRxCode : Nat := 0x45

/-- Take a frame out of the queues and FIFOs it waits in. -/
def unqueue (f : Nat) (s : State) : State :=
  { s with
    wq := { s.wq with sqs := s.wq.sqs.map (fun p => (p.1, { p.2 with waiting := p.2.waiting.filter (· != f) })) }
    sc := { s.sc with fifo := (s.sc.fifo.map (fun p => (p.1, p.2.filter (· != f)))).filter (fun p => !p.2.isEmpty) } }

/-- Drop a frame wherever it stands, also in transmission. -/
def dropEverywhere (f : Nat) (s : State) : State := dropF f (forwardLost f false (unqueue f s))

/-- A frame's delivery has started: it has taken a post. -/
def delivering (f : Frame) : Bool := f.exec.isSome

/-- The block has begun writing a frame's data to its receive post (R210). -/
def writing (f : Frame) (s : State) : Bool :=
  match f.exec.bind (fun x => getX x s) with
  | some e => decide (0 < e.issued)
  | none => false

/-- A frame gives its receive post back, nothing being written: the next frame of the queue may take it. -/
def leavePost (f : Nat) (s : State) : State :=
  match getF f s with
  | none => s
  | some g =>
    match g.exec.bind (fun x => getX x s) with
    | none => s
    | some e =>
      let e1 := { e with frame := none, phase := if e.phase = .data then .accepted else e.phase }
      rxKick e.sq (setF { g with exec := none } (setX e1 s))

/-- A frame that was received whole ends in BODY_LATE or in a late BAD_VERDICT, its verdict having taken effect (R207,
R210): one already being delivered completes with the status, one whose transmission has begun is cut, every other is
handled as R215 states. -/
def lateEnd (f : Nat) (k : Nat) (s : State) : State :=
  match getF f s with
  | none => s
  | some g0 =>
    let s1 := noteLate g0 k (setF { g0 with learns := [] } s)
    let out := (forwardsOf f s1).any (fun t => onMac t.id s1)
    if writing g0 s1 then
      rxMore f (setF { g0 with learns := [], faultStatus := kindStatus k } s1)
    else if out then dropF f (forwardLost f true s1)
    else
      let s2 := leavePost f (forwardLost f true (unqueue f s1))
      match getF f s2 with
      | some g => rxFault g (kindStatus k) s2
      | none => s2

/-- The mirror copy that a frame's verdict asks for, its data being complete (R208). -/
def sendMirror (g : Frame) (s : State) : State :=
  match g.verdict.bind (·.mirror) with
  | some m => mirrorCopy g m s
  | none => s

/-- The data of a received frame is complete and its checks are made (R163, R202, R208, R210). -/
def rxComplete (f : Nat) (s : State) : State :=
  match getF f s with
  | none => s
  | some g =>
    if g.dead then
      let g1 := resolvePend { g with ended := true }
      let s1 := setF g1 s
      if g.effective = false ∨ (g.fail ≠ 0 ∧ g.store = true) then reap f s1
      else if lateFault g1 ≠ 0 then reap f (noteLate g1 (lateFault g1) s1)
      else reap f (releaseLearns f (sendMirror g1 s1))
    else if g.fail ≠ 0 ∧ g.store = true then dropEverywhere f (setF { g with learns := [] } s)
    else
      let g1 := resolvePend { g with ended := true }
      let s1 := setF g1 s
      if g1.effective = false then releaseLearns f s1
      else
        let k := lateFault g1
        if k ≠ 0 then lateEnd f k s1
        else
          let s2 := releaseLearns f (sendMirror g1 s1)
          match g1.verdict with
            | some v => (match v.kind with
              | .drop => dropF f s2
              | .deliver grp => if g1.store && !delivering g1 then deliverTo grp f s2 else rxMore f s2
              | .fault _ =>
                if g1.store && !delivering g1 then deliverTo (fg (loc .RE_FAULT_CFG) F.RE_FAULT_CFG_FAULT_GROUP s2) f s2
                else rxMore f s2
              | _ => rxMore f s2)
            | none => s2

/-- First status in the order of R165. (DESIGN CHOICE: log entry 30.) -/
def firstFail (code long bad : Bool) : Nat :=
  if code then stRxCode else if long then stRxLong else if bad then stRxFcs else 0

/-- Forget a frame that no one but the MAC has seen. -/
def forgetRx (f : Nat) (s : State) : State :=
  { s with dp := { s.dp with frames := s.dp.frames.filter (fun g => g.id != f) } }

/-- The length check and the FCS check fail (R163): a truncated frame fails both. -/
def tooLong (g : Frame) : Bool := decide (g.data.length < g.len)
def badFcs (g : Frame) : Bool :=
  tooLong g || fcs (g.data.take (g.data.length - 4)) != Bytes.toNat (g.data.drop (g.data.length - 4))

/-- Count each failed check of a frame (R163, R165): an error control block, the length, the FCS. -/
def countChecks (g : Frame) (code : Bool) (s : State) : State :=
  doIf code (bump (cPort g.port 5)) s |> doIf (tooLong g) (bump (cPort g.port 3)) |> doIf (badFcs g) (bump (cPort g.port 4))

/-- A frame that was to be discarded when it ends is counted and forgotten (R184, R186). -/
def discardEnd (g : Frame) (s : State) : State :=
  forgetRx g.id (if g.discard = 1 then bump (cPort g.port 38) s else if g.discard = 2 then bump (cPort g.port 37) s else s)

/-- The last byte of a frame has arrived; `code` says that an error control block was received (R162 to R168, R184,
R186). -/
def rxEnd (f : Nat) (code0 : Bool) (s0 : State) : State :=
  match getF f s0 with
  | none => s0
  | some g =>
    let p := g.port
    let code := code0 || g.code
    let s := if 64 ≤ g.len then rateAdd p false g.len s0 else s0
    if g.discard = 1 then discardEnd g s
    else if g.discard = 2 then doIf (decide (64 ≤ g.len) && !badFcs g) (wakeFrame p g.data) (discardEnd g s)
    else if g.len < 64 then
      let s1 := bump (cPort p 2) s
      if g.space = 0 then forgetRx f s1 else dropEverywhere f s1
    else
      let fail := firstFail code (tooLong g) (badFcs g)
      let s3 := countChecks g code s
      let s4 := if fail = 0 then bumpBy (cPort p 1) g.len (bump (cPort p 0) s3) else s3
      let s5 := if (g.ctrl || g.consumed) && fail == 0 then controlAct p g.data s4 else s4
      if g.consumed || g.discard != 0 then forgetRx f s5
      else rxComplete f (setF { g with len := g.data.length, fail := fail, ended := true } s5)

/-- An error control block has been received in a frame (R163). -/
def noteCode (f : Nat) (code : Bool) (s : State) : State :=
  match getF f s with
  | some g => if code then setF { g with code := true } s else s
  | none => s

/-- RX_CELL_TAKEN: the next bytes of the frame being received on a port, at most 256, arrive; the first open a frame.
(DESIGN CHOICE: log entry 30.) -/
def cellTaken (p : Nat) (b : Bytes) (code : Bool) (s : State) : State :=
  if receives p s = false ∨ b = [] then s
  else
    let b := b.take 256
    match (getRx p s).cur with
    | some f => noteCode f code (rxBytes f b s)
    | none =>
      let o := rxOpen p false s
      noteCode o.1 code (rxBytes o.1 b (setRx p { getRx p o.2 with cur := some o.1 } o.2))

/-- RX_FRAME_END. (DESIGN CHOICE: log entry 30.) -/
def frameEnd (p : Nat) (code : Bool) (s : State) : State :=
  match (getRx p s).cur with
  | some f => rxEnd f code (setRx p { getRx p s with cur := none } s)
  | none => s

/-! ## MAC merge (R178, R179) -/

/-- A frame ends before its last byte with a status (R179, R185): one whose delivery has started completes with it,
every other is dropped. A verdict that has taken effect with MIRROR = 1 sends its copy (R208). -/
def endEarly (g : Frame) (status : Nat) (s : State) : State :=
  let g1 := resolvePend { g with fail := status, ended := true, len := g.data.length, learns := [] }
  let s1 := doIf (g.effective && !g.store && lateFault g1 == 0) (sendMirror g1) (setF g1 s)
  if delivering g then rxMore g.id (forwardLost g.id false s1) else dropEverywhere g.id s1

/-- The open reassembly ends as an error (R179). -/
def asmError (p : Nat) (s : State) : State :=
  match (getRx p s).asm with
  | none => s
  | some (f, _, _) =>
    let s1 := setRx p { getRx p s with asm := none } s
      |> bump (cPort p 35)
      |> setFlag (loc .MP_RX_EVENT p) F.MP_RX_EVENT_MM_ERROR
    match getF f s1 with
    | none => s1
    | some g =>
      let s2 := doIf (64 ≤ g.len) (rateAdd p false g.len) s1
      if g.space = 0 then discardEnd g s2
      else endEarly g stRxCode s2

/-- Feed the bytes of an mPacket to its frame, a cell at a time. -/
def feed (f : Nat) : Nat → Bytes → State → State
  | 0, _, s => s
  | n + 1, b, s => if b = [] then s else feed f n (b.drop 256) (rxBytes f (b.take 256) s)

/-- An mPacket's bytes join the open reassembly; the final one ends the frame. -/
def asmTake (p f : Nat) (b : Bytes) (code final bad : Bool) (s : State) : State :=
  let s0 := feed f (b.length + 1) b s
  let s1 := match getF f s0 with
    | some g => setF { g with code := g.code || code } s0
    | none => s0
  if final then rxEnd f false (setRx p { getRx p s1 with asm := none } s1)
  else if bad then asmError p s1
  else s1

/-- MM_FRAGMENT_RECEIVE: SMD 0 to 3 start a frame (SMD-S), 4 to 7 continue one (SMD-C) with a frag count, 8 is a verify and
9 a respond mPacket. `code` says that an error control block was received in the fragment, and `bad` that the mCRC of a
fragment that is not the final one failed. -/
def fragment (p smd frag : Nat) (b : Bytes) (code final bad : Bool) (s : State) : State :=
  if receives p s = false then s
  else if fb (loc .MP_RX_CFG p) F.MP_RX_CFG_MM_RX_EN s = false then bump (cPort p 36) s
  else if smd = 8 then flushMm p (setTx p { getTx p s with respondDue := true } s)
  else if smd = 9 then mmResponded p s
  else
    let s1 := bump (cPort p 34) s
    if smd < 4 then
      let s2 := asmError p s1
      let o := rxOpen p true s2
      asmTake p o.1 b code final bad (setRx p { getRx p o.2 with asm := some (o.1, smd, 0) } o.2)
    else match (getRx p s1).asm with
      | none => bump (cPort p 36) s1
      | some (f, n, c) =>
        if smd - 4 = n ∧ frag % 4 = c then
          asmTake p f b code final bad (setRx p { getRx p s1 with asm := some (f, n, (c + 1) % 4) } s1)
        else asmError p s1

/-! ## Link loss (R177, R185) -/

/-- A frame that is being received is cut by link loss (R185): a runt is counted as one (R162), and every other fails
the link check and each other check that its received bytes fail (R165). -/
def cutFrame (f : Nat) (s0 : State) : State :=
  match getF f s0 with
  | none => s0
  | some g =>
    let s := if 64 ≤ g.len then rateAdd g.port false g.len s0 else s0
    if g.discard = 1 ∨ g.discard = 2 then discardEnd g s
    else
      let s1 := if g.len < 64 then bump (cPort g.port 2) s else countChecks g g.code (bump (cPort g.port 6) s)
      if g.space = 0 then forgetRx f s1
      else endEarly g St.linkDown s1

/-- A port's link goes down: frames inside are cut, and every pause timer expires. -/
def rxLinkDown (p : Nat) (s : State) : State :=
  let r := getRx p s
  let s1 := setRx p { r with cur := none, asm := none } s
  let s2 := match r.cur with
    | some f => cutFrame f s1
    | none => s1
  let s3 := match r.asm with
    | some (f, _, _) => cutFrame f s2
    | none => s2
  pauseExpireAll p s3

/-! ## Register writes of the receive side (R173, R174) -/

/-- A write of MP_RX_LEN. -/
def writeRxLen (p data : Nat) (s : State) : Option State :=
  let v := data % 2 ^ 14
  if v < 64 ∨ 16352 < v then none else some (plainWrite .MP_RX_LEN (loc .MP_RX_LEN p) data s)

/-- A write of MP_PFC_THR: XON ≥ XOFF is refused. -/
def writeThr (p q data : Nat) (s : State) : Option State :=
  if data % 65536 ≤ data / 65536 then none else some (plainWrite .MP_PFC_THR (loc .MP_PFC_THR p q) data s)

/-- A write of MP_PFC_HDRM: the sum over the eight priorities may not exceed Q. -/
def writeHdrm (p q data : Nat) (s : State) : Option State :=
  let s1 := plainWrite .MP_PFC_HDRM (loc .MP_PFC_HDRM p q) data s
  if quotaCells p s < (List.range 8).foldl (fun a i => a + hdrm p i s1) 0 then none else some s1

/-! ## Rows -/

/-- What a port receives need not wait for the core and the packet buffer (R21): both are in RUN, or the MAC keeps nothing. -/
def rxPasses (p : Nat) (s : State) : Bool := !receives p s || portAsleep p s || (islRun 2 s && islRun 3 s)

/-- RX_CELL_TAKEN at its crossing (R21). -/
def cellItem (p : Nat) (b : List Byte) (code : Bool) (s : State) : State :=
  crossing (rxPasses (p % 64) s) (.rxCellTaken p b code) (cellTaken (p % 64) b code) s

/-- RX_FRAME_END at its crossing (R21). -/
def endItem (p : Nat) (code : Bool) (s : State) : State :=
  crossing (rxPasses (p % 64) s) (.rxFrameEnd p code) (frameEnd (p % 64) code) s

/-- MM_FRAGMENT_RECEIVE at its crossing (R21). -/
def fragmentItem (p smd frag : Nat) (b : List Byte) (code final bad : Bool) (s : State) : State :=
  crossing (rxPasses (p % 64) s) (.mmFragmentReceive p smd frag b final bad code) (fragment (p % 64) smd frag b code final bad) s

/-- RX_CELL_TAKEN. -/
def execRxCellTaken (p : Nat) (b : List Byte) (s : State) (code : Bool := false) : Host.Outcome State Fault Refusal :=
  done (cellItem p b code s)

/-- RX_FRAME_END. -/
def execRxFrameEnd (p : Nat) (code : Bool) (s : State) : Host.Outcome State Fault Refusal :=
  done (endItem p code s)

/-- PAUSE_TIMER_EXPIRY. -/
def execPauseTimerExpiry (p i : Nat) (s : State) : Host.Outcome State Fault Refusal := done (pauseExpire (p % 64) i s)

/-- MM_FRAGMENT_RECEIVE. -/
def execMmFragmentReceive (p smd frag : Nat) (b : List Byte) (final bad : Bool) (s : State) (code : Bool := false) :
    Host.Outcome State Fault Refusal :=
  done (fragmentItem p smd frag b code final bad s)

end Sys2Proof.Machine
end

