-- ==== Sys2Proof/Machine/Link.lean ====
section
/-!
DEFINITION. Lanes, PCS and link bring-up (spec/04): the link state machine of plain ports, fault signalling, FEC-degraded,
alignment in the bypass format, recalibration, and the LN and MP_PCS registers.
-/

namespace Sys2Proof.Machine

/-! ## Link changes (R124, R148) -/

/-- Act on a change of a port's link: its events (plain ports), frames cut in both directions, and the work that waits
for the link (R124, R185, R380). -/
def linkCheck (p : Nat) (s : State) : State :=
  let k := getLink p s
  let up := linkUp p s
  if up = k.up then s
  else
    let s1 := setLink p { k with up := up } s
    if up then
      doIf (isPlain p s) (setFlag (loc .MP_PCS_EVENT p) F.MP_PCS_EVENT_LINK_UP) s1 |> txLinkUpNow p
    else
      doIf (isPlain p s) (setFlag (loc .MP_PCS_EVENT p) F.MP_PCS_EVENT_LINK_DOWN) s1 |> rxLinkDown p |> txLinkDown p

/-- Check every port's link. -/
def linkCheckAll (s : State) : State := forEach (List.range 64) linkCheck s

/-! ## The link state machine (R122, R123) -/

def pcsState (p : Nat) (s : State) : Nat := fg (loc .MP_PCS_STATE p) F.MP_PCS_STATE_STATE s
def setPcs (p v : Nat) (s : State) : State := fs (loc .MP_PCS_STATE p) F.MP_PCS_STATE_STATE v s
def rxFaultOf (p : Nat) (s : State) : Nat := fg (loc .MP_PCS_STATE p) F.MP_PCS_STATE_RX_FAULT s

/-- RX_FAULT, with the REMOTE_FAULT event when it becomes REMOTE. -/
def setRxFault (p v : Nat) (s : State) : State :=
  doIf (v == 2 && rxFaultOf p s != 2) (setFlag (loc .MP_PCS_EVENT p) F.MP_PCS_EVENT_REMOTE_FAULT)
    (fs (loc .MP_PCS_STATE p) F.MP_PCS_STATE_RX_FAULT v s)

/-- Write a field of LN_STATUS. -/
def setLn (f : Fld) (v n : Nat) (s : State) : State := fs (loc .LN_STATUS n) f v s

/-- Stored transmit and polarity changes of a lane take effect (R131). (DEDUCED: log entry 26.) -/
def applyLane (n : Nat) (s : State) : State :=
  setLane n { getLane n s with effCtrl := rd (loc .LN_CTRL n) s, effEq := rd (loc .LN_TXEQ n) s } s

/-- Enter ALIGN: the port's FEC format is in use, and the receive fault is LOCAL until the PCS is aligned (R125).
(DEDUCED: log entry 26.) -/
def enterAlign (p : Nat) (s : State) : State :=
  setPcs p 3 s
    |> fs (loc .MP_PCS_STATE p) F.MP_PCS_STATE_FEC_ON (b2n (!portBypass s.prof.cur p))
    |> setRxFault p 1

/-- Enter TRAIN: stored changes take effect and the lanes train afresh (R131). (DEDUCED: log entry 26.) -/
def enterTrain (p : Nat) (s : State) : State :=
  forEach (portPhys p s) (fun n t => applyLane n t |> setLn F.LN_STATUS_TRAINED 0 n |> setLn F.LN_STATUS_PRECODE 0 n)
    (setPcs p 2 s)

/-- Leave DISABLED or RETRY by LINK_MODE (R122, R123); the mode in force is fixed here. -/
def bringUp (p : Nat) (s : State) : State :=
  let m0 := fg (loc .MP_PCS_CTRL p) F.MP_PCS_CTRL_LINK_MODE s
  let m := if portBypass s.prof.cur p ∧ m0 = 0 then 1 else m0
  let s1 := setLink p { getLink p s with mode := m } s
    |> forEach (portPhys p s) (fun n t =>
        setLn F.LN_STATUS_BLOCK_LOCK 0 n t |> setLn F.LN_STATUS_AM_LOCK 0 n)
    |> setRxFault p 1
    |> fs (loc .MP_PCS_STATE p) F.MP_PCS_STATE_AN_RESULT (if m = 0 then 1 else 0)
  if m = 0 then setPcs p 1 s1
  else if m = 1 then enterTrain p s1
  else enterAlign p (forEach (portPhys p s1) applyLane s1)

/-- The port leaves UP, ALIGN or TRAIN: its PCS is not aligned. -/
def unalign (p v : Nat) (s : State) : State :=
  setPcs p v s |> fs (loc .MP_PCS_STATE p) F.MP_PCS_STATE_FEC_ON 0 |> setRxFault p 1 |> linkCheck p

/-- Enter RETRY; RETRIES saturates at 255 (R123). -/
def toRetry (p : Nat) (s : State) : State :=
  let r := fg (loc .MP_PCS_STATE p) F.MP_PCS_STATE_RETRIES s
  fs (loc .MP_PCS_STATE p) F.MP_PCS_STATE_RETRIES (min 255 (r + 1)) s |> unalign p 5

/-- Enter DISABLED from any state (R123). -/
def portDisable (p : Nat) (s : State) : State := if isPlain p s = true ∧ pcsState p s ≠ 0 then unalign p 0 s else s

/-- HOLD of a port. -/
def portHold (p : Nat) (s : State) : Bool := fb (loc .MP_PCS_CTRL p) F.MP_PCS_CTRL_HOLD s

/-- A lane substitution keeps the port in DISABLED, from the start of its step 2 to that of step 4 (R129, R130). -/
def substHolds (p : Nat) (s : State) : Bool :=
  s.phy.substs.any (fun x => !x.slotted && x.port == p &&
    ((x.step == 1 && x.begun) || x.step == 2 || (x.step == 3 && !x.begun)))

/-- An enabled plain port with HOLD = 0 whose lanes are in RUN leaves DISABLED, REFCLK being present (R39); RETRIES
counts from here. -/
def portEnable (p : Nat) (s : State) : State :=
  if isPlain p s = true ∧ pcsState p s = 0 ∧ portHold p s = false ∧ substHolds p s = false ∧ s.pins.refclk = true ∧
      islUp (portIsland p) s = true ∧ (portPhys p s).all (fun n => islUp (laneIsland n) s) = true then
        fs (loc .MP_PCS_STATE p) F.MP_PCS_STATE_RETRIES 0 s |> bringUp p
  else s

/-- Auto-negotiation agrees speed and FEC. (DESIGN CHOICE: log entry 25.) -/
def anAgreed (p : Nat) (s : State) : State :=
  if isPlain p s = true ∧ pcsState p s = 1 ∧ s.pins.refclk = true then
    fs (loc .MP_PCS_STATE p) F.MP_PCS_STATE_AN_RESULT 2 s |> enterTrain p
  else s

/-- The peer shows no common speed, or an FEC mismatch (`fec`): one event per episode, and AN continues. -/
def anNoCommon (p : Nat) (fec : Bool) (s : State) : State :=
  if isPlain p s = true ∧ pcsState p s = 1 then
    doIf (fg (loc .MP_PCS_STATE p) F.MP_PCS_STATE_AN_RESULT s == 1)
      (setFlag (loc .MP_PCS_EVENT p) F.MP_PCS_EVENT_AN_NO_COMMON)
      (fs (loc .MP_PCS_STATE p) F.MP_PCS_STATE_AN_RESULT (if fec then 4 else 3) s)
  else s

/-- A lane has trained: its coefficients are in LN_TXEQ and in effect unless it uses those software set, and precoding is
fixed (R123). What software stored during the training waits for the next (R131). (DESIGN CHOICE: log entry 25.) -/
def laneTrained (n eq : Nat) (pre : Bool) (s : State) : State :=
  let s1 := if bit (getLane n s).effCtrl 3 then s
    else wr (loc .LN_TXEQ n) (eq % 2 ^ 30) (setLane n { getLane n s with effEq := eq % 2 ^ 30 } s)
  s1 |> setLn F.LN_STATUS_TRAINED 1 n |> setLn F.LN_STATUS_PRECODE (b2n pre) n
    |> setLn F.LN_STATUS_SIG_DET 1 n |> setLn F.LN_STATUS_CDR_LOCK 1 n

/-- Every lane of a port has trained; `eqs` and `pre` give the trained coefficients and the precoding of its lanes in
ascending logical order. -/
def trainDone (p : Nat) (eqs : List Nat) (pre : List Bool) (s : State) : State :=
  if isPlain p s = true ∧ pcsState p s = 2 ∧ s.pins.refclk = true then
    let ls := portPhys p s
    forEach (List.range ls.length) (fun i t =>
      let n := ls.getD i 0
      laneTrained n (eqs.getD i (rd (loc .LN_TXEQ n) t)) (pre.getD i false) t) s
      |> enterAlign p
  else s

/-- A lane of a slot group, or a spare that is to join one, begins forced training (R115): stored changes take effect (R131).
(DEDUCED: log entry 26.) -/
def laneTrainStart (n : Nat) (s : State) : State :=
  applyLane n s |> setLn F.LN_STATUS_TRAINED 0 n |> setLn F.LN_STATUS_PRECODE 0 n

/-- The lane trains as a lane of a slot group does: its role is SLOTTED, or it is a spare. -/
def trainsAlone (n : Nat) (s : State) : Bool := laneRole n s == 3 || laneRole n s == 1

/-- A slotted or spare lane has trained under forced training (R115). TRAIN_TO is a plain port's: a lane that trains alone has
no time-out and no TRAIN_FAIL. (DESIGN CHOICE: log entry 25.) -/
def laneTrainDone (n eq : Nat) (pre : Bool) (s : State) : State :=
  if trainsAlone n s && s.pins.refclk && islUp (laneIsland n) s && !fb (loc .LN_STATUS n) F.LN_STATUS_TRAINED s then
    laneTrained n eq pre s
  else s

/-- TRAIN_TO expires with the lanes of `mask` (bit i: the port's lane i) untrained. -/
def trainTimeout (p mask : Nat) (s : State) : State :=
  let ls := portPhys p s
  let bad := (List.range ls.length).filter (fun i => bit mask i)
  if isPlain p s = true ∧ pcsState p s = 2 ∧ bad ≠ [] then
    forEach bad (fun i t =>
      let n := ls.getD i 0
      setFlag (loc .LN_EVENT n) F.LN_EVENT_TRAIN_FAIL t |> bump (cLane n 5)) s
      |> toRetry p
  else s

/-! ## Recalibration (R127, R128) -/

/-- The lane carries a logical lane of a plain port: by its role, or as the spare of a substitution whose step 3 has
moved the logical lane to it (R129). -/
def lanePlain (n : Nat) (s : State) : Bool :=
  laneRole n s == 2 || s.phy.substs.any (fun x => !x.slotted && x.spare == n && decide (3 ≤ x.step))

/-- The port of a lane is UP. A slotted lane has no link state machine: it counts as up while its member is in frame. -/
def lanePortUp (n : Nat) (s : State) : Bool :=
  if lanePlain n s then
    match lanePort (laneLogical n s) s with
    | some p => pcsState p s == 4
    | none => false
  else if laneRole n s = 3 then
    (List.range 16).any (fun g => (memIdx g s).any (fun k =>
      memLane g k s == n && fg (loc .OS_MEMBER g k) F.OS_MEMBER_ALIGN s == 2))
  else false

/-- A pending recalibration starts once its port is UP. -/
def recalStart (n : Nat) (s : State) : State :=
  if fb (loc .LN_CAL n) F.LN_CAL_CAL_PENDING s = true ∧ lanePortUp n s = true then
    fs (loc .LN_CAL n) F.LN_CAL_CAL_PENDING 0 s |> fs (loc .LN_CAL n) F.LN_CAL_CAL_RUN 1
  else s

/-- Request a recalibration; requests made while one is pending or running merge into it. -/
def recalRequest (n : Nat) (s : State) : State :=
  if fb (loc .LN_CAL n) F.LN_CAL_CAL_PENDING s || fb (loc .LN_CAL n) F.LN_CAL_CAL_RUN s then s
  else recalStart n (fs (loc .LN_CAL n) F.LN_CAL_CAL_PENDING 1 s)

/-- CAL_AUTO of a lane. -/
def calAuto (n : Nat) (s : State) : Bool := fb (loc .LN_CTRL n) F.LN_CTRL_CAL_AUTO s

/-- CAL_PERIOD ends. -/
def recalTimer (n : Nat) (s : State) : State := if calAuto n s then recalRequest n s else s

/-- A signed byte. -/
def signed8 (v : Nat) : Int := if v % 256 < 128 then ((v % 256 : Nat) : Int) else ((v % 256 : Nat) : Int) - 256

/-- The die temperature (signed, in °C) has moved 10 °C since the last recalibration. -/
def recalThermal (n temp : Nat) (s : State) : State :=
  if calAuto n s = true ∧ 10 ≤ (signed8 temp - signed8 (fg (loc .LN_CAL n) F.LN_CAL_CAL_TEMP s)).natAbs then
    recalRequest n s
  else s

/-- A running recalibration finishes at die temperature `temp`. -/
def recalDone (n temp : Nat) (s : State) : State :=
  if fb (loc .LN_CAL n) F.LN_CAL_CAL_RUN s then
    let a := loc .LN_CAL n
    fs a F.LN_CAL_CAL_RUN 0 s
      |> fs a F.LN_CAL_CAL_TEMP (temp % 256)
      |> fs a F.LN_CAL_CAL_COUNT ((fg a F.LN_CAL_CAL_COUNT s + 1) % 256)
      |> setFlag (loc .LN_EVENT n) F.LN_EVENT_CAL_DONE
      |> bump (cLane n 6)
  else s

/-- A recalibration that is running when its lane enters substitution is abandoned (R128). -/
def recalAbandon (n : Nat) (s : State) : State := fs (loc .LN_CAL n) F.LN_CAL_CAL_RUN 0 s

/-! ## ALIGN and UP -/

/-- Every lane has block and marker lock, with a receive skew of `skewPs` picoseconds: the port goes UP, or fails for
skew (R123). SKEW is the skew in whole ns, the rest dropped. (DESIGN CHOICE: log entry 25.) -/
def alignLock (p skewPs : Nat) (s : State) : State :=
  if isPlain p s = true ∧ pcsState p s = 3 ∧ s.pins.refclk = true then
    let s1 := fs (loc .MP_PCS_STATE p) F.MP_PCS_STATE_SKEW (min 255 (skewPs / 1000)) s
      |> forEach (portPhys p s) (fun n t => setLn F.LN_STATUS_BLOCK_LOCK 1 n t |> setLn F.LN_STATUS_AM_LOCK 1 n
          |> setLn F.LN_STATUS_SIG_DET 1 n |> setLn F.LN_STATUS_CDR_LOCK 1 n)
    if 180000 < skewPs then
      setFlag (loc .MP_PCS_EVENT p) F.MP_PCS_EVENT_SKEW_FAIL s1 |> toRetry p
    else
      setPcs p 4 s1 |> setRxFault p 0 |> linkCheck p |> forEach (portPhys p s) recalStart
  else s

/-- A slotted lane has block lock and FEC alignment lock. -/
def laneLock (n : Nat) (s : State) : State :=
  if laneRole n s = 3 ∧ s.pins.refclk = true ∧ fb (loc .LN_STATUS n) F.LN_STATUS_TRAINED s = true then
    setLn F.LN_STATUS_BLOCK_LOCK 1 n s |> setLn F.LN_STATUS_AM_LOCK 1 n
  else s

/-- 10 ms pass in ALIGN without lock. -/
def alignTimeout (p : Nat) (s : State) : State := if isPlain p s = true ∧ pcsState p s = 3 then toRetry p s else s

/-- A lane's receive indications are lost, as `what` says: bit 0 signal, bit 1 CDR lock, bit 2 block lock, bit 3 marker
lock. Each has its LN_EVENT bit and counter, but for marker lock (R123, R418). -/
def laneLost (n what : Nat) (s : State) : State :=
  let e := loc .LN_EVENT n
  s |> doIf (bit what 0) (fun t => setLn F.LN_STATUS_SIG_DET 0 n t |> setFlag e F.LN_EVENT_SIG_LOSS |> occur (cLane n 2))
    |> doIf (bit what 1) (fun t => setLn F.LN_STATUS_CDR_LOCK 0 n t |> setFlag e F.LN_EVENT_CDR_UNLOCK |> occur (cLane n 3))
    |> doIf (bit what 2) (fun t => setLn F.LN_STATUS_BLOCK_LOCK 0 n t |> setFlag e F.LN_EVENT_BLOCK_UNLOCK |> occur (cLane n 4))
    |> doIf (bit what 3) (setLn F.LN_STATUS_AM_LOCK 0 n)

/-- An UP port loses signal, block lock or marker lock on its lane `i`, or declares high BER (bit 4 of `what`, R120). Loss of
CDR lock alone counts as a loss of the lane. (DESIGN CHOICE: log entry 25.) -/
def linkLoss (p i what : Nat) (s : State) : State :=
  let ls := portPhys p s
  if isPlain p s = true ∧ pcsState p s = 4 ∧ what % 32 ≠ 0 ∧ i < ls.length then
    laneLost (ls.getD i 0) what s |> toRetry p
  else s

/-- A slotted lane loses signal, CDR lock, block lock or alignment lock. -/
def laneLoss (n what : Nat) (s : State) : State :=
  if laneRole n s = 3 then laneLost n (what % 16) s else s

/-- RETRY_HOLD elapses, REFCLK being present (R39). -/
def retryExpiry (p : Nat) (s : State) : State :=
  if isPlain p s = true ∧ pcsState p s = 5 ∧ s.pins.refclk = true then bringUp p s else s

/-- REFCLK disappears (R39): the lanes' PLLs are off. Every lock that a lane holds is lost, and a port that is UP loses its
link. (DEDUCED: log entry 14.) -/
def lanesUnclocked (s : State) : State :=
  let has (n : Nat) (f : Fld) : Bool := fb (loc .LN_STATUS n) f s
  forEach (List.range 18) (fun n t =>
      laneLost n (2 * b2n (has n F.LN_STATUS_CDR_LOCK) + 4 * b2n (has n F.LN_STATUS_BLOCK_LOCK) +
        8 * b2n (has n F.LN_STATUS_AM_LOCK)) t) s
    |> forEach (List.range 64) (fun p t => if isPlain p t = true ∧ pcsState p t = 4 then toRetry p t else t)

/-! ## Faults (R125, R148) -/

/-- Four fault ordered sets of one kind: RX_FAULT of an aligned plain port, or the reconciliation sublayer's fault of a
slotted client. -/
def faultDeclare (p : Nat) (remote : Bool) (s : State) : State :=
  let v := if remote then 2 else 1
  if isPlain p s = true ∧ pcsState p s = 4 then setRxFault p v s |> linkCheck p
  else if isClient p s then setLink p { getLink p s with rs := v } s |> linkCheck p
  else s

/-- 128 columns pass without a fault ordered set. -/
def faultClear (p : Nat) (s : State) : State :=
  if isPlain p s = true ∧ pcsState p s = 4 then setRxFault p 0 s |> linkCheck p
  else if isClient p s then setLink p { getLink p s with rs := 0 } s |> linkCheck p
  else s

/-! ## The bypass format (R115, R120, R121) -/

/-- The group and member of a slotted physical lane. -/
def laneMember (n : Nat) (s : State) : Option (Nat × Nat) :=
  (List.range 16).findSome? (fun g => ((memIdx g s).find? (fun k => memLane g k s == n)).map (fun k => (g, k)))

/-- GRP_FEC_BYPASS of the slot group that the lane is a member of (R105, R115). -/
def groupBypass (n : Nat) (s : State) : Bool :=
  match laneMember n s with
  | some (g, _) => (groupLanes s.prof.cur g).any (fun l => bit (profLane s.prof.cur l) 3)
  | none => false

/-- The lane carries the bypass format. -/
def laneBypass (n : Nat) (s : State) : Bool :=
  if lanePlain n s then
    match lanePort (laneLogical n s) s with
    | some p => portBypass s.prof.cur p
    | none => false
  else laneRole n s == 3 && groupBypass n s

/-! ## FEC-degraded (R126) and FEC counters -/

/-- A window of 2^20 codewords ends: `corr` corrected and `uncorr` uncorrectable codewords, and for each lane of the
port in ascending logical order the symbols corrected in its first and second FEC lane. -/
def fecWindow (p corr uncorr : Nat) (syms : List (Nat × Nat)) (s : State) : State :=
  if isPlain p s = true ∧ fb (loc .MP_PCS_STATE p) F.MP_PCS_STATE_FEC_ON s = true then
    let ls := portPhys p s
    let total := syms.foldl (fun a x => a + x.1 + x.2) 0
    let s1 := bumpBy (cPort p 39) corr s |> bumpBy (cPort p 40) uncorr
      |> forEach (List.range ls.length) (fun i t =>
          let n := ls.getD i 0
          let x := syms.getD i (0, 0)
          bumpBy (cLane n 0) x.1 t |> bumpBy (cLane n 1) x.2)
    let k := getLink p s1
    let a := loc .MP_FEC_DEG p
    if fb (loc .MP_PCS_CTRL p) F.MP_PCS_CTRL_FEC_DEG_EN s1 = false then s1
    else if k.fecDeg = false ∧ 64 * fg a F.MP_FEC_DEG_SET s1 ≤ total then
      setLink p { k with fecDeg := true } s1 |> setFlag (loc .MP_PCS_EVENT p) F.MP_PCS_EVENT_FEC_DEG_SET
    else if k.fecDeg = true ∧ total ≤ 64 * fg a F.MP_FEC_DEG_CLR s1 then
      setLink p { k with fecDeg := false } s1 |> setFlag (loc .MP_PCS_EVENT p) F.MP_PCS_EVENT_FEC_DEG_CLR
    else s1
  else s

/-- The same window of a slotted lane (R115, R418): its symbols corrected in its first and second FEC lane. -/
def laneFec (n : Nat) (syms : List (Nat × Nat)) (s : State) : State :=
  if laneRole n s = 3 ∧ laneBypass n s = false ∧ fb (loc .LN_STATUS n) F.LN_STATUS_AM_LOCK s = true then
    let x := syms.getD 0 (0, 0)
    bumpBy (cLane n 0) x.1 s |> bumpBy (cLane n 1) x.2
  else s


/-! ## Locks of the bypass format (R120) -/

/-- Two alignment blocks at the exact spacing. -/
def bypassLock (n : Nat) (s : State) : State := if laneBypass n s then setLn F.LN_STATUS_AM_LOCK 1 n s else s

/-- Four expected positions without a valid alignment block; an UP port loses its link. -/
def bypassLoss (n : Nat) (s : State) : State :=
  if laneBypass n s = true ∧ fb (loc .LN_STATUS n) F.LN_STATUS_AM_LOCK s = true then
    let s1 := laneLost n 8 s
    if lanePlain n s then
      match lanePort (laneLogical n s) s with
      | some p => if pcsState p s1 = 4 then toRetry p s1 else s1
      | none => s1
    else s1
  else s

/-- High BER on a lane of an UP bypass port. -/
def highBer (n : Nat) (s : State) : State :=
  if laneBypass n s = true ∧ lanePlain n s = true then
    match lanePort (laneLogical n s) s with
    | some p => if pcsState p s = 4 then toRetry p s else s
    | none => s
  else s

/-! ## Registers (R131 to R133) -/

/-- The lane's port is DISABLED, or it serves no port: changes take effect at once (R131). -/
def laneIdle (n : Nat) (s : State) : Bool :=
  if lanePlain n s then
    match lanePort (laneLogical n s) s with
    | some p => pcsState p s == 0
    | none => true
  else laneRole n s != 3

/-- The stored and effective values agree where changes take effect at once. -/
def laneStored (n : Nat) (s : State) : State := if laneIdle n s then applyLane n s else s

/-- What an island put in OFF alone loses (R431): the registers that it serves outside its pages' headers, and what a port group
holds of its ports. A lane keeps its role and logical lane, which change by R117 alone; a lane under TEST leaves it. (DEDUCED:
log entry 77.) -/
def islandLost (c : Nat) (s : State) : State :=
  let lost (a : Nat) : Bool := decide (0x80 ≤ a % 4096) && servedBy (a / 4096) (a % 4096) == c
  let of (p : Nat) : Bool := portIsland p == c
  let s1 := { s with regs := s.regs.filter (fun e => !lost e.1) }
  if isLaneIsl c then
    let n := c - 0x10
    let r := if laneRole n s = 5 then (getLane n s).prior else laneRole n s
    setLane n Lane.reset s1 |> setRole n r |> setLn F.LN_STATUS_LOGICAL (laneLogical n s) n
      |> wr (loc .LN_SUBST n) (rd (loc .LN_SUBST n) s)
  else if isGroupIsl c then
    { s1 with
      phy := { s1.phy with links := s1.phy.links.filter (fun e => !of e.1) }
      dp := { s1.dp with
        rx := s1.dp.rx.filter (fun e => !of e.1), tx := s1.dp.tx.filter (fun e => !of e.1)
        wake := s1.dp.wake.filter (fun e => !of (e.1 / 512)) } }
  else s1

/-- An island that changes alone takes a state, and loses in OFF what OFF does not keep. -/
def settleIsland (c : Nat) (st : PState) (s : State) : State :=
  putIslands [c] st s |> doIf (st == .off && aloneIsl c) (islandLost c)

/-- Put an island into a resting state: at once, or once the SRAM repair that runs in it is done (R477). -/
def restIsland (c : Nat) (st : PState) (s : State) : State :=
  if s.sv.repairs.any (fun r => r.isl == c) && st != .run then
    setIsl c { isl c s with target := st, entering := true, waking := false } s
  else settleIsland c st s

/-- State of a lane's island by its role (R117): a spare keeps it OFF, or in SLEEP while SPARE_WARM is 1. -/
def roleIsland (n r : Nat) (s : State) : PState :=
  if r = 2 ∨ r = 3 then .run
  else if r = 1 ∧ fb (loc .LN_CTRL n) F.LN_CTRL_SPARE_WARM s = true then .sleep
  else .off

/-- A spare lane that no substitution has woken rests as SPARE_WARM says (R117). -/
def spareRest (n : Nat) (s : State) : State :=
  if laneRole n s = 1 ∧ s.phy.substs.all (fun x => x.spare != n) = true then
    restIsland (laneIsland n) (roleIsland n 1 s) s
  else s

/-- A write of LN_CTRL (R131): TEST = 1 needs role OFF or SPARE. -/
def writeLnCtrl (n data : Nat) (s : State) : Option State :=
  let a := loc .LN_CTRL n
  let r := laneRole n s
  if bit data 1 = true ∧ r ≠ 0 ∧ r ≠ 1 then none
  else
    let s1 := wr a (data &&& 0xFFFE) s
    let s2 := if bit data 1 then setRole n 5 (setLane n { getLane n s1 with prior := r } s1)
      else if r = 5 then setRole n (getLane n s1).prior s1 else s1
    some (spareRest n (laneStored n s2))

/-- Magnitude of a five-bit two's complement coefficient. -/
def coefMag (v : Nat) : Nat := if v < 16 then v else 32 - v

/-- Sum of the magnitudes of the six coefficients (R132). -/
def eqSum (d : Nat) : Nat :=
  coefMag (bits d 29 25) + coefMag (bits d 24 20) + coefMag (bits d 19 15) + bits d 14 10 + coefMag (bits d 9 5) +
    coefMag (bits d 4 0)

/-- A write of LN_TXEQ (R132). -/
def writeTxeq (n data : Nat) (s : State) : Option State :=
  if 32 < eqSum data then none else some (laneStored n (wr (loc .LN_TXEQ n) (data % 2 ^ 30) s))

/-- A write of LN_CAL: CAL_REQ. -/
def writeCal (n data : Nat) (s : State) : State := if bit data 31 then recalRequest n s else s

/-- A write of LN_PRBS: the error count starts again when CHK_PAT changes. -/
def writePrbs (n data : Nat) (s : State) : State :=
  let a := loc .LN_PRBS n
  let s1 := if bits (rd a s) 7 4 = bits data 7 4 then s else wr64 (loc .LN_PRBS_ERR n) 0 s
  wr a (data % 256) s1

/-- A write of MP_PCS_CTRL: refused with LINK_MODE = 3; HOLD = 1 takes the port to DISABLED; ignored for a slotted client
(R123, R133). -/
def writePcsCtrl (p data : Nat) (s : State) : Option State :=
  if isClient p s then some s
  else if bits data 1 0 = 3 then none
  else
    let s1 := wr (loc .MP_PCS_CTRL p) (data &&& 0xFF1F) s
    some (if bit data 2 then portDisable p s1 else s1)

/-- A PCS register of a slotted client ignores writes and reads as 0 (R133). -/
def pcsOffset (off : Nat) : Bool :=
  let o := if 0x400 ≤ off then 0x400 + off % 0x400 else off
  (decide (0x200 ≤ o) && decide (o < 0x240)) || (decide (0x600 ≤ o) && decide (o < 0x610))

/-! ## Meanings -/

/-- PORT_ENABLE (R123). -/
def execPortEnable (p : Nat) (s : State) : Host.Outcome State Fault Refusal := done (portEnable (p % 64) s)
/-- AN_AGREED (R123). -/
def execAnAgreed (p : Nat) (s : State) : Host.Outcome State Fault Refusal := done (anAgreed (p % 64) s)
/-- AN_NO_COMMON (R123). -/
def execAnNoCommon (p : Nat) (fec : Bool) (s : State) : Host.Outcome State Fault Refusal := done (anNoCommon (p % 64) fec s)
/-- TRAIN_DONE (R123); from 64 on the command names a lane that trains alone (R115). -/
def execTrainDone (p : Nat) (eqs : List Nat) (pre : List Bool) (s : State) : Host.Outcome State Fault Refusal :=
  done (if p < 64 then trainDone p eqs pre s else laneTrainDone (p % 64 % 18) (eqs.getD 0 0) (pre.getD 0 false) s)
/-- TRAIN_TIMEOUT (R123). -/
def execTrainTimeout (p mask : Nat) (s : State) : Host.Outcome State Fault Refusal := done (trainTimeout (p % 64) mask s)
/-- ALIGN_LOCK (R123); from 64 on the command names a slotted lane. -/
def execAlignLock (p skewPs : Nat) (s : State) : Host.Outcome State Fault Refusal :=
  done (if p < 64 then alignLock p skewPs s else laneLock (p % 64 % 18) s)
/-- ALIGN_TIMEOUT (R123). -/
def execAlignTimeout (p : Nat) (s : State) : Host.Outcome State Fault Refusal := done (alignTimeout (p % 64) s)
/-- LINK_LOSS (R123); from 64 on the command names a slotted lane. -/
def execLinkLoss (p lane what : Nat) (s : State) : Host.Outcome State Fault Refusal :=
  done (if p < 64 then linkLoss p lane what s else laneLoss (p % 64 % 18) what s)
/-- RETRY_HOLD_EXPIRY (R123). -/
def execRetryHoldExpiry (p : Nat) (s : State) : Host.Outcome State Fault Refusal := done (retryExpiry (p % 64) s)
/-- PORT_DISABLE (R123). -/
def execPortDisable (p : Nat) (s : State) : Host.Outcome State Fault Refusal := done (portDisable (p % 64) s)
/-- FAULT_DECLARE (R125). -/
def execFaultDeclare (p : Nat) (remote : Bool) (s : State) : Host.Outcome State Fault Refusal :=
  done (faultDeclare (p % 64) remote s)
/-- FAULT_CLEAR (R125). -/
def execFaultClear (p : Nat) (s : State) : Host.Outcome State Fault Refusal := done (faultClear (p % 64) s)
/-- FEC_DEG_WINDOW_END (R126); from 64 on the command names a slotted lane (R115, R418). -/
def execFecDegWindowEnd (p corr uncorr : Nat) (syms : List (Nat × Nat)) (s : State) : Host.Outcome State Fault Refusal :=
  done (if p < 64 then fecWindow p corr uncorr syms s else laneFec (p % 64 % 18) syms s)
/-- BYPASS_ALIGN_LOCK (R120). -/
def execBypassAlignLock (n : Nat) (s : State) : Host.Outcome State Fault Refusal := done (bypassLock (n % 18) s)
/-- BYPASS_ALIGN_LOSS (R120). -/
def execBypassAlignLoss (n : Nat) (s : State) : Host.Outcome State Fault Refusal := done (bypassLoss (n % 18) s)
/-- HIGH_BER (R120). -/
def execHighBer (n : Nat) (s : State) : Host.Outcome State Fault Refusal := done (highBer (n % 18) s)
/-- RECAL_TIMER (R128). -/
def execRecalTimer (n : Nat) (s : State) : Host.Outcome State Fault Refusal := done (outOfReset (recalTimer (n % 18)) s)
/-- RECAL_THERMAL (R128). -/
def execRecalThermal (n temp : Nat) (s : State) : Host.Outcome State Fault Refusal := done (outOfReset (recalThermal (n % 18) temp) s)
/-- CAL_REQ (R128). -/
def execCalReq (m : Master) (n : Nat) (data : W32) (s : State) : Host.Outcome State Fault Refusal :=
  done (ctlWrite m (loc .LN_CAL (n % 18)) data.toNat (fun t => some (writeCal (n % 18) data.toNat t)) s)
/-- RECAL_DONE (R127). -/
def execRecalDone (n temp : Nat) (s : State) : Host.Outcome State Fault Refusal := done (recalDone (n % 18) temp s)
/-- LANE_TEST_WRITE (R131). -/
def execLaneTestWrite (m : Master) (n : Nat) (data : W32) (s : State) : Host.Outcome State Fault Refusal :=
  done (ctlWrite m (loc .LN_CTRL (n % 18)) data.toNat (writeLnCtrl (n % 18) data.toNat) s)

end Sys2Proof.Machine
end

