-- ==== Sys2Proof/Machine/Ochan.lean ====
section
/-!
DEFINITION. The Ochan slot layer (spec/05): overhead blocks, member alignment and defects, map cycles, pages and the page
switch, and the OS registers.
-/

namespace Sys2Proof.Machine

/-! ## Overhead blocks (R141, R142) -/

/-- One bit of the CRC-16 of R142, most significant bit first. -/
def crc16Bit (c : Nat) (b : Bool) : Nat :=
  let f := (c / 2 ^ 15 % 2 == 1) != b
  let d := c * 2 % 65536
  if f then d ^^^ 0x1021 else d

/-- The CRC-16 of R142 over bytes in order, each from bit 7 to bit 0. -/
def crc16 (bs : Bytes) : Nat :=
  bs.foldl (fun c b => [7, 6, 5, 4, 3, 2, 1, 0].foldl (fun d i => crc16Bit d (bit b.toNat i)) c) 0xFFFF

/-- The fields of an overhead block. -/
structure Over where
  member : Nat
  page : Nat
  req : Bool
  ack : Bool
  fnum : Nat
  ais : Bool
  rdi : Bool
  trace : Byte
  group : Nat
  mapA : Nat
  mapB : Nat
  deriving DecidableEq, Repr

/-- Read the payload of an overhead block (R141). -/
def overOf (b : Bytes) : Over :=
  let v (i : Nat) : Nat := u b i 1
  { member := bits (v 1) 7 3, page := bits (v 1) 2 2, req := bit (v 1) 1, ack := bit (v 1) 0, fnum := bits (v 2) 7 3,
    ais := bit (v 2) 2, rdi := bit (v 2) 1, trace := b.getD 3 0, group := bits (v 4) 7 4,
    mapA := v 4 % 16 * 4 + bits (v 5) 7 6, mapB := bits (v 5) 5 0 }

/-- The payload of an overhead block (R141, R142). (DESIGN CHOICE: log entry 28.) -/
def Over.bytes (o : Over) : Bytes :=
  let h := [0x5A, o.member * 8 + o.page % 2 * 4 + b2n o.req * 2 + b2n o.ack, o.fnum * 8 + b2n o.ais * 4 + b2n o.rdi * 2,
    o.trace.toNat, o.group * 16 + o.mapA / 4, o.mapA % 4 * 64 + o.mapB].map (BitVec.ofNat 8)
  let c := crc16 h
  h ++ [BitVec.ofNat 8 (c / 256), BitVec.ofNat 8 c]

/-- The block is a well-formed overhead apart from its frame number (R144): sync header, TYPE, CRC, MEMBER. -/
def overType (sync : Nat) (b : Bytes) : Bool := sync == 2 && u b 0 1 == 0x5A
/-- (DESIGN CHOICE: log entry 28.) -/
def overCrc (b : Bytes) : Bool := u b 6 1 * 256 + u b 7 1 == crc16 (b.take 6)
def overSeed (sync : Nat) (b : Bytes) : Bool := overType sync b && overCrc b && decide ((overOf b).member ≤ 16)

/-! ## Members of a group -/

/-- Members in use that are usable (R145). -/
def usable (g : Nat) (s : State) : List Nat := (memIdx g s).filter (fun k => fb (loc .OS_MEMBER g k) F.OS_MEMBER_USABLE s)

/-- A member is in frame. -/
def inFrame (g k : Nat) (s : State) : Bool := fg (loc .OS_MEMBER g k) F.OS_MEMBER_ALIGN s == 2
def setAlign (g k v : Nat) (s : State) : State := fs (loc .OS_MEMBER g k) F.OS_MEMBER_ALIGN v s

/-- Set or clear a defect: its event and counter when it is declared, CLEARED when it clears (R146). Nothing is counted while
the lane is down (R427). -/
def setDefect (g k : Nat) (f ev : Fld) (cnt : Nat) (on : Bool) (s : State) : State :=
  let a := loc .OS_MEMBER g k
  if fb a f s = on then s
  else if on then
    fs a f 1 s |> setFlag (loc .OS_EVENT g) ev |> doIf (isRun (laneIsland (memLane g k s)) s) (occur (cGroup g cnt))
  else fs a f 0 s |> setFlag (loc .OS_EVENT g) F.OS_EVENT_CLEARED

/-- The clients of a group that have a valid entry, as ports. -/
def clientPorts (g : Nat) (s : State) : List Nat :=
  (List.range 63).filterMap (fun c =>
    let a := loc .OS_CLIENT g c
    if fb a F.OS_CLIENT_VALID s then some (fg a F.OS_CLIENT_PORT s) else none)

/-- LOF and usability follow alignment, skew and LOS; then the consequent actions: RDI in the member's transmitted
overhead, and the links of the group's clients (R145 to R148). -/
def memUpdate (g k : Nat) (s : State) : State :=
  let a := loc .OS_MEMBER g k
  let ok := inFrame g k s && decide (fg a F.OS_MEMBER_SKEW s ≤ 180)
  let s1 := setDefect g k F.OS_MEMBER_LOF F.OS_EVENT_LOF 3 (!ok) s
    |> fs a F.OS_MEMBER_USABLE (b2n (ok && !fb a F.OS_MEMBER_LOS s))
  setMem g k { getMem g k s1 with txRdi := memActs g k s1 } s1 |> forEach (clientPorts g s) linkCheck

/-- Leave IN_FRAME, or drop every candidate. -/
def hunt (g k : Nat) (s : State) : State :=
  setAlign g k 0 (setMem g k { getMem g k s with cands := [], bad := 0, trace := [], part := [] } s)

/-! ## Page switch (R154, R155) -/

def setSw (g v : Nat) (s : State) : State := fs (loc .OS_SW_STATE g) F.OS_SW_STATE_STATE v s
def swTarget (g : Nat) (s : State) : Nat := fg (loc .OS_SW_STATE g) F.OS_SW_STATE_TARGET s
def peerReq (g : Nat) (s : State) : Bool := fb (loc .OS_SW_STATE g) F.OS_SW_STATE_PEER_REQ s
def peerAck (g : Nat) (s : State) : Bool := fb (loc .OS_SW_STATE g) F.OS_SW_STATE_PEER_ACK s

/-- Pace every client of a group for its slots in page `pg`, where `f` of its present and its new number holds
(R154). -/
def paceClients (g pg : Nat) (f : Nat → Nat → Bool) (s : State) : State :=
  forEach (List.range 63) (fun c t =>
    let a := loc .OS_CLIENT g c
    if fb a F.OS_CLIENT_VALID t then
      let p := fg a F.OS_CLIENT_PORT t
      let n := clientSlots g c pg t
      if f (paceOf p t) n then setPrate p (setPace p n t) else t
    else t) s

/-- SW_REQ and SW_ACK fall at the next transmit frame 0. -/
def swClear (g : Nat) (s : State) : State := setGrp g { getGrp g s with clear := true } s

/-- A switch ends with `status` (R154, R155). A command that started it completes. -/
def switchEnd (g status : Nat) (s : State) : State :=
  let w := (getGrp g s).why
  let ok := status == St.ok
  let s1 := setSw g 0 s
    |> fs (loc .OS_SW_STATE g) F.OS_SW_STATE_LAST_STATUS status
    |> setFlag (loc .OS_EVENT g) (if ok then F.OS_EVENT_SW_DONE else F.OS_EVENT_SW_FAIL)
    |> bump (cGroup g (if ok then 7 else 8))
    |> swClear g
    |> paceClients g (txPage g s) (fun a b => a != b)
  let s2 := setGrp g { getGrp g s1 with why := none } s1
  match w with
  | some (.command p k) => finishCmd p k status 0 0 s2
  | _ => s2

/-- Flags of a peer as every usable member last showed them: SW_REQ, and SW_ACK in one slot frame. (DEDUCED: log entry
29.) -/
def peerShows (g : Nat) (f : Member → Bool) (s : State) : Bool :=
  let us := usable g s
  !us.isEmpty && us.all (fun k => f (getMem g k s)) &&
    us.all (fun k => (getMem g k s).fnum == (getMem g (us.headD 0) s).fnum)

/-- Update PEER_REQ and PEER_ACK; while a switch runs, what has been seen stays seen. -/
def peerUpdate (g : Nat) (s : State) : State :=
  let a := loc .OS_SW_STATE g
  let run := swState g s != 0
  fs a F.OS_SW_STATE_PEER_REQ (b2n (peerShows g (·.req) s || (run && peerReq g s))) s
    |> fs a F.OS_SW_STATE_PEER_ACK (b2n (peerShows g (·.ack) s || (run && peerAck g s)))

/-- The end's own entries for a member in a page. -/
def ownMap (g k pg : Nat) (s : State) : List Nat := (laneSlots (memLane g k s)).map (fun x => cmGet pg x s)

/-- A matching cycle is held (R154): on every usable member the peer's last map was sent with SW_REQ = 1, equals the
end's target page, and targets the same letter. -/
def matchHeld (g : Nat) (s : State) : Bool :=
  let us := usable g s
  !us.isEmpty && us.all (fun k =>
    let m := getMem g k s
    m.map.length == 40 && m.mapReq && m.map == ownMap g k (swTarget g s) s && 1 - m.mapPage == swTarget g s)

/-- REQ with a matching cycle held goes to ACKED: SW_ACK is sent, and clients that lose slots are paced down. -/
def switchAck (g : Nat) (s : State) : State :=
  if swState g s = 2 ∧ matchHeld g s = true then
    setSw g 3 (setGrp g { getGrp g s with swAck := true } s) |> paceClients g (swTarget g s) (fun a b => decide (b < a))
  else s

/-- COMMITTED with RX_PAGE at the target ends OK. -/
def switchSettle (g : Nat) (s : State) : State :=
  if swState g s = 4 ∧ rxPage g s = swTarget g s then switchEnd g St.ok s else s

/-- Start a switch, or none where R154 refuses it: the target page is frozen. (DEDUCED: log entry 29.) -/
def switchStart (g : Nat) (w : SwWhy) (s : State) : Option State :=
  if swState g s ≠ 0 ∨ txPage g s ≠ rxPage g s then none
  else
    let a := loc .OS_SW_STATE g
    some (setSw g 1 s |> fs a F.OS_SW_STATE_TARGET (1 - txPage g s) |> fs a F.OS_SW_STATE_MAP_DIFF 0
      |> fs a F.OS_SW_STATE_PEER_REQ 0 |> fs a F.OS_SW_STATE_PEER_ACK 0
      |> peerUpdate g |> (fun t => setGrp g { getGrp g t with why := some w } t))

/-- Park a switch; answers none where R154 refuses. -/
def switchPark (g : Nat) (s : State) : Option State :=
  if swState g s = 1 ∨ swState g s = 2 then some (setSw g 5 (swClear g s)) else none

/-- Resume a parked switch. -/
def switchResume (g : Nat) (s : State) : Option State := if swState g s = 5 then some (setSw g 1 s) else none

/-- Cancel an uncommitted switch: it ends with ABORTED. -/
def switchCancel (g : Nat) (s : State) : Option State :=
  if swState g s = 1 ∨ swState g s = 2 ∨ swState g s = 5 then some (switchEnd g St.aborted s) else none

/-- SW_TIMEOUT expires (R154, R155). -/
def switchTimeout (g : Nat) (s : State) : State :=
  match swState g s with
  | 2 => switchEnd g (if peerReq g s then 0x49 else 0x48) s
  | 3 => switchEnd g 0x4A s
  | 4 => switchEnd g 0x4B s
  | _ => s

/-- What a transmit frame 0 makes of the switch (R154); `ackSent`: its SW_ACK has been sent in at least one complete slot
frame. (DEDUCED: log entry 29.) -/
def switchFrame0 (g : Nat) (ackSent : Bool) (s : State) : State :=
  let v := getGrp g s
  let s1 := if v.clear then setGrp g { v with swReq := false, swAck := false, clear := false } s else s
  if swState g s1 = 1 then
    setSw g 2 (setGrp g { getGrp g s1 with swReq := true } s1) |> switchAck g
  else if swState g s1 = 3 ∧ ackSent = true ∧ peerAck g s1 = true then
    fs (loc .OS_SW_STATE g) F.OS_SW_STATE_TX_PAGE (swTarget g s1) s1
      |> setSw g 4
      |> paceClients g (swTarget g s1) (fun a b => a != b)
      |> forEach (clientPorts g s1) linkCheck
      |> switchSettle g
  else s1

/-- The end's own transmit frame 0 (R143, R154). The page that the map describes is fixed here for the whole multiframe: the
target while a switch runs from REQ on, TX_PAGE otherwise, while the switch is parked too. (DESIGN CHOICE: log entry 29.) -/
def txFrame0 (g : Nat) (ackSent : Bool) (s : State) : State :=
  let t := switchFrame0 g ackSent s
  let on := decide (2 ≤ swState g t) && decide (swState g t ≤ 4)
  setGrp g { getGrp g t with adv := if on then swTarget g t else txPage g t } t

/-- The overhead block that a member transmits in slot frame `f` (R137, R141 to R143, R147, OS_CFG). Its map is of the
page that the multiframe's frame 0 fixed. -/
def txOverhead (g k f : Nat) (s : State) : Over :=
  let cfg := loc .OS_CFG g
  let v := getGrp g s
  let m (i : Nat) : Nat := if 20 ≤ f then 0x3F else cmGet v.adv (40 * memLane g k s + i) s
  { member := k, page := txPage g s, req := v.swReq, ack := v.swAck, fnum := f, ais := fb cfg F.OS_CFG_FORCE_AIS s,
    rdi := (getMem g k s).txRdi || fb cfg F.OS_CFG_FORCE_RDI s,
    trace := BitVec.ofNat 8 (rd (loc .OS_TRACE_TX g (f / 4)) s / 2 ^ (8 * (f % 4))), group := fg cfg F.OS_CFG_TX_GROUP s,
    mapA := m (2 * f), mapB := m (2 * f + 1) }

/-! ## Fields of a good overhead (R146, R152) -/

/-- A run of consecutive occurrences. -/
def run (on : Bool) (n : Nat) : Nat := if on then n + 1 else 0

/-- The expected trace of a group. -/
def expTrace (g : Nat) (s : State) : Bytes := (List.range 8).flatMap (fun w => bytesLE 4 (rd (loc .OS_TRACE_EXP g w) s))

/-- TRACE_CHK of a group. -/
def traceChk (g : Nat) (s : State) : Bool := fb (loc .OS_CFG g) F.OS_CFG_TRACE_CHK s

/-- Add a good overhead's trace byte and map entries, and advance the runs. Traces are compared whatever TRACE_CHK is, so a
mismatch seen under 0 counts once it is 1. (DESIGN CHOICE: log entry 28.) -/
def takeFields (g k : Nat) (o : Over) (m : Member) (s : State) : Member :=
  let idOk := o.group == fg (loc .OS_CFG g) F.OS_CFG_RX_GROUP s && o.member == k
  let tr := if o.fnum = 0 then [o.trace] else if m.trace.length = o.fnum then m.trace ++ [o.trace] else []
  let pt := if o.fnum = 0 then [o.mapA, o.mapB]
    else if m.part.length = 2 * o.fnum ∧ o.fnum < 20 then m.part ++ [o.mapA, o.mapB] else []
  let whole := tr.length == 32
  let same := tr == expTrace g s
  let cyc := pt.length == 40
  { m with
    fnum := o.fnum, bad := 0, page := o.page, req := o.req, ack := o.ack,
    ais1 := run o.ais m.ais1, ais0 := run (!o.ais) m.ais0, rdi1 := run o.rdi m.rdi1, rdi0 := run (!o.rdi) m.rdi0,
    idBad := run (!idOk) m.idBad, idGood := run idOk m.idGood,
    trace := if whole then [] else tr, last := if whole then tr else m.last,
    trBad := if whole then run (!same) m.trBad else m.trBad,
    trGood := if whole then run same m.trGood else m.trGood,
    part := if cyc then [] else pt, map := if cyc then pt else m.map,
    mapPage := if cyc then o.page else m.mapPage, mapReq := if cyc then o.req else m.mapReq,
    mapAck := if cyc then o.ack else m.mapAck, mapDone := m.mapDone || cyc }

/-- AIS, RDI and TIM of a member from its runs; frozen under LOS (R146). -/
def defects (g k : Nat) (s : State) : State :=
  let a := loc .OS_MEMBER g k
  let m := getMem g k s
  if fb a F.OS_MEMBER_LOS s then s
  else
    let ais := if 3 ≤ m.ais1 then true else if 3 ≤ m.ais0 then false else fb a F.OS_MEMBER_AIS s
    let rdi := if 3 ≤ m.rdi1 then true else if 3 ≤ m.rdi0 then false else fb a F.OS_MEMBER_RDI s
    let chk := traceChk g s
    let tim := if (chk && decide (2 ≤ m.trBad)) || decide (3 ≤ m.idBad) then true
      else if (!chk || decide (2 ≤ m.trGood)) && decide (3 ≤ m.idGood) then false
      else fb a F.OS_MEMBER_TIM s
    setDefect g k F.OS_MEMBER_AIS F.OS_EVENT_AIS 10 ais s
      |> setDefect g k F.OS_MEMBER_RDI F.OS_EVENT_RDI 11 rdi
      |> setDefect g k F.OS_MEMBER_TIM F.OS_EVENT_TIM 12 tim

/-- PAGE disagreement or a change outside frame 0 (R152). -/
def pageErr (g : Nat) (s : State) : State :=
  setFlag (loc .OS_EVENT g) F.OS_EVENT_PAGE_ERR s |> bump (cGroup g 5)

/-- RX_PAGE follows the received PAGE once every usable member has had its frame 0; a member whose overhead was bad
there names no page (R144, R152). -/
def rxPageUpdate (g : Nat) (s : State) : State :=
  let all := usable g s
  let us := all.filter (fun k => (getMem g k s).bad == 0)
  if us.isEmpty || all.any (fun k => (getMem g k s).fnum != 0) then s
  else
    let p := (getMem g (us.headD 0) s).page
    if us.any (fun k => (getMem g k s).page != p) then pageErr g s
    else if rxPage g s = p then switchSettle g s
    else
      fs (loc .OS_SW_STATE g) F.OS_SW_STATE_RX_PAGE p s
        |> forEach (clientPorts g s) linkCheck
        |> switchSettle g

/-- A good overhead of member `k` in frame: its fields are taken. PAGE may change only in frame 0, seen or missed. -/
def goodOverhead (g k : Nat) (o : Over) (s : State) : State :=
  let m := getMem g k s
  let s1 := doIf (decide (m.bad < o.fnum) && o.page != m.page) (pageErr g) s
  let s2 := setMem g k (takeFields g k o m s) s1 |> defects g k |> memUpdate g k |> peerUpdate g
  if o.fnum = 0 ∧ fb (loc .OS_MEMBER g k) F.OS_MEMBER_USABLE s2 = true then rxPageUpdate g s2 else s2

/-- A bad overhead at the expected position: its fields are ignored, and the fourth in a row ends the frame lock. Being no good
overhead, it ends the runs of AIS, RDI and identity. (DESIGN CHOICE: log entry 28.) -/
def badOverhead (g k : Nat) (crcBad : Bool) (s : State) : State :=
  let m := getMem g k s
  let s1 := bump (cGroup g 0) s |> doIf crcBad (bump (cGroup g 2))
    |> setMem g k { m with bad := m.bad + 1, fnum := (m.fnum + 1) % 32, trace := [], part := [], ais1 := 0, ais0 := 0,
                           rdi1 := 0, rdi0 := 0, idBad := 0, idGood := 0 }
  if m.bad + 1 = 4 then hunt g k s1 |> memUpdate g k |> doIf ((m.fnum + 1) % 32 == 0) (rxPageUpdate g)
  else if (m.fnum + 1) % 32 = 0 ∧ fb (loc .OS_MEMBER g k) F.OS_MEMBER_USABLE s1 = true then rxPageUpdate g s1
  else s1

/-- HUNT (R144): what a block does to a member's candidates; answers the new list, whether a ninth was ignored, and the
position that is now in frame. -/
def huntStep (sync pos : Nat) (b : Bytes) (cs : List Cand) : List Cand × Bool × Bool :=
  let seed := overSeed sync b
  let o := overOf b
  let hold (l : List Cand) : List Cand × Bool × Bool :=
    if seed = false then (l, false, false)
    else if 8 ≤ l.length then (l, true, false)
    else (l ++ [{ pos := pos, fnum := o.fnum, count := 1 }], false, false)
  match cs.find? (fun c => c.pos == pos) with
  | some c =>
    let rest := cs.filter (fun d => d.pos != pos)
    if seed = true ∧ o.fnum = (c.fnum + 1) % 32 then
      if 2 ≤ c.count then ([], false, true)
      else (rest ++ [{ c with fnum := o.fnum, count := c.count + 1 }], false, false)
    else hold rest
  | none => hold cs

/-- The member enters IN_FRAME at `pos` with this overhead, which is good. -/
def enterFrame (g k pos : Nat) (o : Over) (s : State) : State :=
  setMem g k { getMem g k s with cands := [], pos := pos, fnum := o.fnum, bad := 0, page := o.page, trace := [], part := [],
                                 ais1 := 0, ais0 := 0, rdi1 := 0, rdi0 := 0, idBad := 0, idGood := 0, trBad := 0, trGood := 0 } s
    |> setAlign g k 2
    |> goodOverhead g k o
    |> recalStart (memLane g k s)

/-- SKEW of a member, rounded up to whole ns. (DESIGN CHOICE: log entry 28.) -/
def setSkew (g k skewPs : Nat) (s : State) : State :=
  fs (loc .OS_MEMBER g k) F.OS_MEMBER_SKEW (min 255 ((skewPs + 999) / 1000)) s

/-- A slot frame of a member ends: the blocks that arrived in its slots whose client has no valid OS_CLIENT entry were
discarded, 1,024 in each slot (R134, R139). (DEDUCED: log entry 28.) -/
def discardCount (g k : Nat) (s : State) : State :=
  let cs := ownMap g k (rxPage g s) s
  bumpBy (cGroup g 4) (1024 * (cs.filter (fun c => c != 0x3F && !fb (loc .OS_CLIENT g c) F.OS_CLIENT_VALID s)).length) s

/-- A member's lane receives a block at position `pos` (modulo 40,961) of its stream, its slot-frame boundary `skewPs`
behind the earliest member's (R144, R145). -/
def memberBlock (g k sync pos skewPs : Nat) (b : Bytes) (s : State) : State :=
  let s0 := setSkew g k skewPs s
  let m := getMem g k s0
  if inFrame g k s0 then
    if pos % 40961 ≠ m.pos then memUpdate g k s0
    else if overSeed sync b = true ∧ (overOf b).fnum = (m.fnum + 1) % 32 then
      goodOverhead g k (overOf b) (discardCount g k s0)
    else badOverhead g k (overType sync b && !overCrc b) (discardCount g k s0) |> memUpdate g k
  else
    let r := huntStep sync (pos % 40961) b m.cands
    let s1 := setMem g k { m with cands := r.1 } s0 |> doIf r.2.1 (bump (cGroup g 1))
    if r.2.2 then enterFrame g k (pos % 40961) (overOf b) s1 else memUpdate g k s1

/-! ## Joining (R157, R159) -/

/-- Lowest index of a group that no member uses. -/
def vacant (g : Nat) (s : State) : Option Nat := (List.range 17).find? (fun k => !(memIdx g s).contains k)

/-- A group may take one member beyond those of its profile (R136). -/
def mayJoin (g : Nat) (s : State) : Bool := decide ((memIdx g s).length ≤ (groupLanes s.prof.cur g).length) && grpActive g s

/-- Physical lane `n` joins group `g` as member `k`, carrying no slots; it has LOF, and sends RDI, until it is in frame (R147). -/
def joinMember (g k n : Nat) (s : State) : State :=
  let s1 := wr (loc .OS_MEMBER g k) (2 ^ 31 + n * 2 ^ 26 + 2) (setMem g k Member.reset s)
    |> fs (loc .OS_CFG g) F.OS_CFG_MEMBERS ((memIdx g s).length + 1)
    |> setRole n 3
    |> setFlag (loc .OS_EVENT g) F.OS_EVENT_JOINED
  forEach (laneSlots n) (fun x t => cmPut 0 x 0x3F (cmPut 1 x 0x3F t)) s1 |> memUpdate g k

/-- Alignment of a SPARE lane is kept under a key of its own. -/
def spareKey : Nat := 16

/-- A SPARE lane receives a block: once in frame, it joins the group with FOLLOW = 1 whose RX_GROUP and vacant member
index the overhead names (R157). Of two such groups it is the lowest-numbered. (DESIGN CHOICE: log entry 29.) -/
def spareBlock (n sync pos skewPs : Nat) (b : Bytes) (s : State) : State :=
  let m := getMem spareKey n s
  let r := huntStep sync (pos % 40961) b m.cands
  let s1 := setMem spareKey n { m with cands := r.1 } s
  let o := overOf b
  if r.2.2 = false then s1
  else
    match (List.range 16).find? (fun g => fb (loc .OS_CFG g) F.OS_CFG_FOLLOW s && mayJoin g s &&
        fg (loc .OS_CFG g) F.OS_CFG_RX_GROUP s == o.group && !(memIdx g s).contains o.member) with
    | some g => joinMember g o.member n s1 |> setSkew g o.member skewPs |> enterFrame g o.member (pos % 40961) o
    | none => s1

/-- OVERHEAD_RECEIVE on physical lane `n`. (DESIGN CHOICE: log entry 28.) -/
def overheadIn (n sync pos skewPs : Nat) (b : Bytes) (s : State) : State :=
  match laneMember n s with
  | some (g, k) => memberBlock g k sync pos skewPs b s
  | none => if laneRole n s = 1 then spareBlock n sync pos skewPs b s else s

/-! ## LOS (R146) -/

/-- A member lane's signal, CDR lock or FEC alignment lock (bits 0, 1 and 3 of `what`) has been 0 for 1 µs. -/
def losDeclare (n what : Nat) (s : State) : State :=
  match laneMember n s with
  | some (g, k) =>
    if fb (loc .OS_MEMBER g k) F.OS_MEMBER_LOS s = true ∨ what &&& 0xB = 0 then s
    else
      laneLost n (what &&& 0xB) s
        |> setDefect g k F.OS_MEMBER_LOS F.OS_EVENT_LOS 9 true
        |> hunt g k
        |> memUpdate g k
        |> doIf (inFrame g k s && (getMem g k s).fnum == 31) (rxPageUpdate g)
  | none => s

/-- All three lane indications have been 1 for 100 µs. -/
def losClear (n : Nat) (s : State) : State :=
  match laneMember n s with
  | some (g, k) =>
    if fb (loc .OS_MEMBER g k) F.OS_MEMBER_LOS s then
      setLn F.LN_STATUS_SIG_DET 1 n s |> setLn F.LN_STATUS_CDR_LOCK 1 n |> setLn F.LN_STATUS_AM_LOCK 1 n
        |> setDefect g k F.OS_MEMBER_LOS F.OS_EVENT_LOS 9 false
        |> memUpdate g k
    else s
  | none => s

/-! ## Map cycles (R149, R154, R157) -/

/-- Map mismatch of one usable member whose cycle with SW_REQ = 0 has been received. -/
def mapCompare (g k : Nat) (s : State) : State :=
  let a := loc .OS_MEMBER g k
  let m := getMem g k s
  if m.mapDone = false ∨ m.mapReq = true then s
  else
    let own := ownMap g k m.mapPage s
    if m.map = own then
      let n := m.mapGood + 1
      if 2 ≤ n then fs a F.OS_MEMBER_MAP_MM 0 (setMem g k { m with mapGood := n, mapBad := 0, mmClients := [] } s)
      else setMem g k { m with mapGood := n, mapBad := 0 } s
    else
      let n := m.mapBad + 1
      let named := (m.map.zip own).flatMap (fun x => if x.1 = x.2 then [] else [x.1, x.2])
      if 2 ≤ n then
        let new := !fb a F.OS_MEMBER_MAP_MM s
        fs a F.OS_MEMBER_MAP_MM 1 (setMem g k { m with mapBad := n, mapGood := 0, mmClients := named } s)
          |> doIf new (fun t => setFlag (loc .OS_EVENT g) F.OS_EVENT_MAP_MISMATCH t |> occur (cGroup g 6))
      else setMem g k { m with mapBad := n, mapGood := 0 } s

/-- A client number that the group's table maps, or unassigned. -/
def clientKnown (g c : Nat) (s : State) : Bool := c == 0x3F || fb (loc .OS_CLIENT g c) F.OS_CLIENT_VALID s

/-- FOLLOW (R157): every usable member has received a cycle with SW_REQ = 1 and SW_ACK = 0 while the end is IDLE. The
advertised entries go into the page the peer targets, and a switch starts as if commanded. A copy that is refused sets the event
and moves no counter. (DESIGN CHOICE: log entry 29.) -/
def follow (g : Nat) (s : State) : State :=
  let us := usable g s
  if fb (loc .OS_CFG g) F.OS_CFG_FOLLOW s = true ∧ swState g s = 0 ∧ us ≠ [] ∧ txPage g s = rxPage g s ∧
      us.all (fun k =>
        let m := getMem g k s
        m.mapDone && m.mapReq && !m.mapAck && 1 - m.mapPage == 1 - txPage g s) = true then
    if us.any (fun k => (getMem g k s).map.any (fun c => !clientKnown g c s)) then
      setFlag (loc .OS_EVENT g) F.OS_EVENT_SW_FAIL s
    else
      let pg := 1 - txPage g s
      let s1 := forEach us (fun k t =>
        forEach (List.range 40) (fun i t => cmPut pg (40 * memLane g k s + i) ((getMem g k s).map.getD i 0x3F) t) t) s
      (switchStart g .follow s1).getD s1
  else s

/-- MAP_CYCLE_RECEIVED: the complete cycles of the group's usable members are acted on. -/
def mapCycle (g : Nat) (s : State) : State :=
  let us := usable g s
  let s1 := forEach us (mapCompare g) s |> follow g
  let s2 := if swState g s1 = 2 ∧ matchHeld g s1 = false ∧ us.any (fun k => (getMem g k s1).mapDone && (getMem g k s1).mapReq) = true
    then fs (loc .OS_SW_STATE g) F.OS_SW_STATE_MAP_DIFF 1 s1 else s1
  forEach us (fun k t => setMem g k { getMem g k t with mapDone := false } t) (switchAck g s2)
    |> forEach (clientPorts g s) linkCheck

/-! ## Registers (R153, R160) -/

/-- The pointer advances under AUTOINC after each OS_CM_DATA access. -/
def cmAdvance (g : Nat) (s : State) : State :=
  let a := loc .OS_CM_PTR g
  if fb a F.OS_CM_PTR_AUTOINC s then fs a F.OS_CM_PTR_SLOT ((fg a F.OS_CM_PTR_SLOT s + 1) % 1024) s else s

/-- Page and slot that OS_CM_PTR selects. -/
def cmPtr (g : Nat) (s : State) : Nat × Nat :=
  let a := loc .OS_CM_PTR g
  (fg a F.OS_CM_PTR_PAGE s, fg a F.OS_CM_PTR_SLOT s)

/-- A write of OS_CM_DATA; none in the cases of R153. -/
def writeCm (g data : Nat) (s : State) : Option State :=
  let p := cmPtr g s
  if p.1 = txPage g s ∨ p.1 = rxPage g s ∨ swState g s ≠ 0 ∨ (grpSlots g s).contains p.2 = false then none
  else some (cmAdvance g (cmPut p.1 p.2 (data % 64) s))

/-- An entry as OS_CM_DATA reads it: there are 720 slots, and what SLOT beyond them reads is a free value. (DESIGN CHOICE: log
entry 29.) -/
def cmRead (pg slot : Nat) (s : State) : Nat :=
  if slot < 720 then cmGet pg slot s else (Config.cmBeyond (1024 * pg + slot)).toNat

/-- A read of OS_CM_DATA. -/
def readCm (g : Nat) (s : State) : Nat × State := (cmRead (cmPtr g s).1 (cmPtr g s).2 s, cmAdvance g s)

/-- Copy the group's slots from a page into the other. -/
def cmCopy (g pg : Nat) (s : State) : State := forEach (grpSlots g s) (fun x t => cmPut (1 - pg) x (cmGet pg x s) t) s

/-- A write of OS_SW_CTRL; COPY is refused unless TX_PAGE equals RX_PAGE, and while a switch has frozen its target
(R153, R154). -/
def writeSwCtrl (g data : Nat) (s : State) : Option State :=
  if bit data 31 = true ∧ (txPage g s ≠ rxPage g s ∨ swState g s ≠ 0) then none
  else
    let s1 := wr (loc .OS_SW_CTRL g) (data % 256) s
    some (if bit data 31 then cmCopy g (txPage g s) s1 else s1)

/-- A write of OS_CFG: what TIM_ACT and TRACE_CHK decide follows at once (R146, R147). -/
def writeOsCfg (g data : Nat) (s : State) : State :=
  forEach (memIdx g s) (fun k t => defects g k t |> memUpdate g k) (plainWrite .OS_CFG (loc .OS_CFG g) data s)

/-- A write of OS_CLIENTc (R160). -/
def writeClient (g c data : Nat) (s : State) : Option State :=
  let a := loc .OS_CLIENT g c
  let p := bits data 29 24
  if bit data 31 = fb a F.OS_CLIENT_VALID s ∧ p = fg a F.OS_CLIENT_PORT s then some s
  else if clientSlots g c (txPage g s) s ≠ 0 ∨ clientSlots g c (rxPage g s) s ≠ 0 ∨ swState g s ≠ 0 ∨
      isClient p s = false ∨ portGroup s.prof.cur p ≠ g then none
  else
    let old := fg a F.OS_CLIENT_PORT s
    some (wr a (b2n (bit data 31) * 2 ^ 31 + p * 2 ^ 24) s |> linkCheck old |> linkCheck p)

/-- OS_CLIENTc as read: its slot counts are of the pages now in use. -/
def readClient (g c : Nat) (s : State) : Nat :=
  rd (loc .OS_CLIENT g c) s + clientSlots g c (rxPage g s) s * 2 ^ 10 + clientSlots g c (txPage g s) s

/-- OS_TRACE_RX word `w` of the selected member. -/
def readTraceRx (g w : Nat) (s : State) : Nat :=
  u (getMem g (fg (loc .OS_TRACE_SEL g) F.OS_TRACE_SEL_MEMBER s) s).last (4 * w) 4

/-! ## Meanings -/

/-- OVERHEAD_RECEIVE (R144). -/
def execOverheadReceive (n hdr pos skewPs : Nat) (b : List Byte) (s : State) : Host.Outcome State Fault Refusal :=
  done (overheadIn (n % 18) hdr pos skewPs b s)
/-- LOS_DECLARE (R146). -/
def execLosDeclare (n what : Nat) (s : State) : Host.Outcome State Fault Refusal := done (losDeclare (n % 18) what s)
/-- LOS_CLEAR (R146). -/
def execLosClear (n : Nat) (s : State) : Host.Outcome State Fault Refusal := done (losClear (n % 18) s)
/-- MAP_CYCLE_RECEIVED (R149). -/
def execMapCycleReceived (g : Nat) (s : State) : Host.Outcome State Fault Refusal := done (mapCycle (g % 16) s)
/-- SWITCH_TX_FRAME0 (R154). -/
def execSwitchTxFrame0 (g : Nat) (ackSent : Bool) (s : State) : Host.Outcome State Fault Refusal :=
  done (txFrame0 (g % 16) ackSent s)
/-- SWITCH_TIMEOUT (R155). -/
def execSwitchTimeout (g : Nat) (s : State) : Host.Outcome State Fault Refusal := done (switchTimeout (g % 16) s)
/-- CM_DATA_WRITE (R153): the pointer advances under AUTOINC even when the write is refused. -/
def execCmDataWrite (m : Master) (g : Nat) (data : W32) (s : State) : Host.Outcome State Fault Refusal :=
  done (ctlWrite m (loc .OS_CM_DATA (g % 16)) data.toNat (writeCm (g % 16) data.toNat) s (cmAdvance (g % 16)))
/-- CM_COPY (R153). -/
def execCmCopy (m : Master) (g : Nat) (data : W32) (s : State) : Host.Outcome State Fault Refusal :=
  done (ctlWrite m (loc .OS_SW_CTRL (g % 16)) data.toNat (writeSwCtrl (g % 16) data.toNat) s)
/-- OS_CLIENT_WRITE (R160). -/
def execOsClientWrite (m : Master) (g c : Nat) (data : W32) (s : State) : Host.Outcome State Fault Refusal :=
  done (ctlWrite m (loc .OS_CLIENT (g % 16) (c % 63)) data.toNat (writeClient (g % 16) (c % 63) data.toNat) s)

end Sys2Proof.Machine
end

