-- ==== Sys2Proof/Machine/Transfer.lean ====
section
/-!
DEFINITION. The general channels of the transfer engine (R314 to R333, R340 to R343): rings, descriptors, packing and
unpacking, holds and park points, errors, and the TE and HP registers. What a translation response or a read beat gives a
channel reaches it through the handlers of this file.
-/

namespace Sys2Proof.Machine

/-! ## Registers of a channel -/

def teState (n : Nat) (s : State) : Nat := fg (teLoc .TE_STATE n) F.TE_STATE_STATE s
def setTeState (n v : Nat) (s : State) : State := fs (teLoc .TE_STATE n) F.TE_STATE_STATE v s
def teHoldBit (n : Nat) (f : Fld) (s : State) : Bool := fb (teLoc .TE_STATE n) f s
def setHoldBit (n : Nat) (f : Fld) (v : Bool) (s : State) : State := fs (teLoc .TE_STATE n) f (b2n v) s
def teFunc (n : Nat) (s : State) : Nat := fg (teLoc .TE_RING n) F.TE_RING_FUNC s
def teLog (n : Nat) (s : State) : Nat := fg (teLoc .TE_RING n) F.TE_RING_LOG_SIZE s
def teBase (n : Nat) (s : State) : Nat := rd64 (teLoc .TE_RING_BASE n) s / 512 * 512

/-- Any hold is in force. -/
def teHeld (n : Nat) (s : State) : Bool :=
  teHoldBit n F.TE_STATE_HOLD_PAUSE s || teHoldBit n F.TE_STATE_HOLD_FAULT s || teHoldBit n F.TE_STATE_HOLD_POWER s

/-- Set event bit `b` of a channel's block (TE_EVENT): 0 FAULT, 1 ERROR, 2 STOPPED, 3 HELD. -/
def teFlag (n b : Nat) (s : State) : State := setFlags (loc .TE_EVENT (n / 4)) (2 ^ (8 * (n % 4) + b)) s

/-- Next ring position to examine. -/
def tePos (n : Nat) (s : State) : Nat := fg (teLoc .TE_STATE n) F.TE_STATE_POS s
def setTePos (n v : Nat) (s : State) : State := fs (teLoc .TE_STATE n) F.TE_STATE_POS v s

/-- A record about a channel (R326). -/
def teRecord (n status kind pos user : Nat) (dom : Bool) (s : State) : State :=
  let a := teLoc .TE_RING n
  reportTo (fb a F.TE_RING_SIL_VALID s) (fg a F.TE_RING_SILLAGE s) status kind n (pos * 65536 + user) 0
    (if dom then some (teFunc n s) else none) s

/-! ## Descriptors (R320 to R322) -/

def dNelem (d : Bytes) : Nat := u d 4 4 % 2 ^ 28
def dSew (d : Bytes) : Nat := 2 ^ bits (u d 2 1) 2 0
def dDew (d : Bytes) : Nat := 2 ^ bits (u d 2 1) 6 4
def dSrcList (d : Bytes) : Bool := bit (u d 1 1) 0
def dDstList (d : Bytes) : Bool := bit (u d 1 1) 1
def dFence (d : Bytes) : Bool := bit (u d 1 1) 2
def dNotify (d : Bytes) : Bool := bit (u d 1 1) 3
def dSext (d : Bytes) : Bool := bit (u d 1 1) 4
def dUser (d : Bytes) : Nat := u d 26 2
/-- Address of a side, and the pairs of its list. -/
def dAddr (d : Bytes) (dst : Bool) : Nat := u d (if dst then 16 else 8) 8
def dPairs (d : Bytes) (dst : Bool) : Nat := u d (if dst then 25 else 24) 1 + 1
def dList (d : Bytes) (dst : Bool) : Bool := if dst then dDstList d else dSrcList d
def dWidth (d : Bytes) (dst : Bool) : Nat := if dst then dDew d else dSew d
/-- Transfer bytes of a side. -/
def dTotal (d : Bytes) (dst : Bool) : Nat := dNelem d * dWidth d dst

/-- Reserved fields of a descriptor (R322 check 2). -/
def descReserved (d : Bytes) : Bool :=
  decide (u d 1 1 < 32) && u d 3 1 == 0 && decide (u d 4 4 < 2 ^ 28) && (dSrcList d || u d 24 1 == 0) &&
    (dDstList d || u d 25 1 == 0) && decide (u d 29 1 < 2) && u d 30 1 == 0 && u d 31 1 % 128 == 0

/-- A list lies in one page, its pairs 16-byte aligned (R321). -/
def listPlace (d : Bytes) (dst : Bool) : Bool :=
  !dList d dst || (dAddr d dst % 16 == 0 && decide (dAddr d dst % 4096 + 16 * dPairs d dst ≤ 4096))

/-- Checks made before any list is read (R322 checks 1 to 3, and where a list lies). -/
def descCheck (d : Bytes) : Nat :=
  if 1 < u d 0 1 then St.badOpcode
  else if descReserved d = false ∨ 6 < bits (u d 2 1) 2 0 ∨ 6 < bits (u d 2 1) 6 4 then St.reservedNonzero
  else if (if u d 0 1 = 1 then dNelem d = 0 else dNelem d ≠ 0) then St.badLength
  else if listPlace d false = false ∨ listPlace d true = false then St.badFragTable
  else St.ok

/-- A side's fragment pairs meet R321 apart from alignment. -/
def pairsOk (d : Bytes) (dst : Bool) (ps : List (Nat × Nat × Nat)) : Bool :=
  ps.all (fun p => decide (1 ≤ p.2.1) && decide (p.2.1 < 2 ^ 24) && p.2.2 == 0 && p.2.1 % dWidth d dst == 0) &&
    ps.foldl (fun a p => a + p.2.1) 0 == dTotal d dst

/-- The fragments of a side (R321). -/
def sideFrags (d : Bytes) (dst : Bool) (lst : Bytes) : List (Nat × Nat × Nat) :=
  if dList d dst then parsePairs (dPairs d dst) lst else [(dAddr d dst, dTotal d dst, 0)]

/-- Checks made once the lists are read (R322 checks 4 and 5). -/
def listCheck (d : Bytes) (src dst : Bytes) : Nat :=
  let fs := sideFrags d false src
  let fd := sideFrags d true dst
  if (dSrcList d && !pairsOk d false fs) || (dDstList d && !pairsOk d true fd) then St.badFragTable
  else if fs.all (fun p => p.1 % dSew d == 0) && fd.all (fun p => p.1 % dDew d == 0) then St.ok
  else St.badAlignment

/-! ## Accesses of a channel -/

/-- Channel and kind of an access of a descriptor: 0 list, 1 data read, 2 data write. -/
def teKind : Purpose → Option (Nat × Nat)
  | .teList n _ _ => some (n, 0)
  | .teRead n _ => some (n, 1)
  | .teWrite n _ => some (n, 2)
  | _ => none

/-- The accesses of a channel's descriptor. -/
def teReqs (n : Nat) (s : State) : List Req :=
  s.host.reqs.filter (fun r => match teKind r.purpose with
    | some k => k.1 == n
    | none => false)

/-- The accesses of a channel that are issued and not answered, ring reads included. -/
def teOut (n : Nat) (s : State) : List Req :=
  s.host.reqs.filter (fun r => r.chan == n && (match r.phase with
    | .out _ _ _ => true
    | _ => false))

/-- Waits for the answer of a translation that has faulted. -/
def faulted (r : Req) : Bool :=
  match r.phase with
  | .fault => true
  | .again => true
  | _ => false

/-! ## Packing and unpacking (R323) -/

/-- Convert one element. -/
def convertEl (sew dew : Nat) (sext : Bool) (b : Bytes) : Bytes :=
  let top := bit ((b.getD (sew - 1) 0).toNat) 7
  (List.range dew).map (fun i => if i < sew then b.getD i 0 else if sext && top then 0xFF else 0)

/-- Destination transfer bytes `off` to `off + len`, from source pieces. -/
def convert (t : Te) (off len : Nat) : Bytes :=
  let sew := dSew t.raw
  let dew := dDew t.raw
  let e0 := off / dew
  let e1 := (off + len + dew - 1) / dew
  let all := (List.range (e1 - e0)).flatMap (fun i =>
    convertEl sew dew (dSext t.raw) (gather t.pieces ((e0 + i) * sew) sew))
  (all.drop (off - e0 * dew)).take len

/-- Elements whose source bytes have all been received, in the pieces given. -/
def availIn (t : Te) (ps : List (Nat × Bytes)) : Nat :=
  prefixLen ps (ps.length + 1) (t.wrote / dDew t.raw * dSew t.raw) / dSew t.raw
def teAvail (t : Te) : Nat := availIn t t.pieces

/-- The bytes received of bursts that are still arriving. -/
def teArriving (n : Nat) (s : State) : List (Nat × Bytes) :=
  s.host.reqs.filterMap (fun r => match r.purpose, r.phase with
    | .teRead c off, .out _ _ pa => if c = n ∧ r.bad = false then some (off, (r.data.drop (pa % 64)).take r.len) else none
    | _, _ => none)

/-- Element limit of writes: the park point while a hold drains. -/
def teLimit (t : Te) : Nat := match t.park with
  | some p => min p (dNelem t.raw)
  | none => dNelem t.raw

/-! ## Data phase (R319, R324, R329) -/

/-- The next burst of a side at transfer byte `off`: address and length, up to the fragment's end and the next 512-byte
boundary. -/
def nextBurst (fr : List (Nat × Nat)) (off : Nat) : Option (Nat × Nat) :=
  match fragSpan fr 0 off 512 with
  | (a, _, n) :: _ => some (a, min n (512 - a % 512))
  | [] => none

/-- Destination bytes handed to write requests: those before the first write that is not issued (R319). -/
def teHanded (n : Nat) (s : State) : Nat :=
  (teReqs n s).foldl (fun a r => match r.purpose, r.phase with
    | .teWrite _ _, .out _ _ _ => a
    | .teWrite _ off, _ => min a off
    | _, _ => a) (getTe n s).wrote

/-- Issue reads while the window of R319 allows. (DEDUCED: log entry 64.) -/
def teIssueReads (n : Nat) : Nat → State → State
  | 0, s => s
  | fuel + 1, s =>
    let t := getTe n s
    let lim := (fg (teLoc .TE_CFG n) F.TE_CFG_RA s + 1) * 512
    let first := teHanded n s / dDew t.raw * dSew t.raw
    match nextBurst t.src t.issued with
    | some (a, len) =>
      if dTotal t.raw false ≤ t.issued ∨ first + lim ≤ t.issued + len - 1 then s
      else
        setTe n { t with issued := t.issued + len } s
          |> access { chan := n, func := teFunc n s, iova := a, len := len, snoop := bit (u t.raw 2 1) 3,
                      purpose := .teRead n t.issued }
          |> teIssueReads n fuel
    | none => s

/-- No data read of the channel is outstanding and none can be issued: a part of a burst is then written. -/
def teNoReads (n : Nat) (s : State) : Bool :=
  !(teReqs n s).any (fun r => match r.purpose with
    | .teRead _ _ => true
    | _ => false)

/-- Issue writes whose source bytes have been received, a whole destination burst at a time; the rest of a burst when
nothing more will arrive before it is written. -/
def teIssueWrites (n : Nat) : Nat → State → State
  | 0, s => s
  | fuel + 1, s =>
    let t := getTe n s
    let have_ := min (teAvail t) (teLimit t) * dDew t.raw
    match nextBurst t.dst t.wrote with
    | some (a, len) =>
      let stuck := t.park.isSome || teNoReads n s
      let m := if t.wrote + len ≤ have_ then len else if stuck then have_ - t.wrote else 0
      if m = 0 then s
      else
        setTe n { t with wrote := t.wrote + m } s
          |> access { chan := n, func := teFunc n s, iova := a, len := m, write := true, data := convert t t.wrote m,
                      snoop := bit (u t.raw 2 1) 7, purpose := .teWrite n t.wrote }
          |> teIssueWrites n fuel
    | none => s

/-- Rounds that the data phase can need for one event. -/
def teFuel : Nat := 300

/-- The status write of a descriptor (R325 step 4), once its fence has completed: bytes 28 to 30; in double-read mode
bytes 0 to 30. -/
def teStatusWrite (n : Nat) (s : State) : State :=
  let t := getTe n s
  if t.phase ≠ .status ∨ fenceOpen t.fence s = true then s
  else
    let a := teBase n s + 32 * t.pos
    let w := bytesLE 1 t.status ++ bytesLE 1 (b2n t.side) ++ bytesLE 1 0
    let d := if dblMode s then t.raw.take 28 ++ w else w
    let off := if dblMode s then 0 else 28
    if s.host.reqs.any (fun r => r.purpose == .teStatus n) then s
    else access { chan := n, func := teFunc n s, iova := a + off, len := d.length, write := true, data := d,
                  purpose := .teStatus n } s

/-- The descriptor's data phase is over: its status is written. -/
def teFinish (n status : Nat) (side : Bool) (s : State) : State :=
  let t := getTe n s
  setTe n { t with phase := .status, status := status, side := side, src := [], dst := [], listBytes := [], pieces := [],
                   issued := 0, wrote := 0, park := none } s
    |> teStatusWrite n

/-- Move a channel's data phase on: reads and writes in RUNNING, writes before the park point in DRAINING; an error
waits for what is outstanding (R327); the last write response ends the phase. (DEDUCED: log entry 64.) -/
def tePump (n : Nat) (s : State) : State :=
  let t := getTe n s
  if t.phase ≠ .data ∧ t.phase ≠ .lists then s
  else if t.status ≠ 0 then
    if (teReqs n s).all faulted then teFinish n t.status t.side s else s
  else if t.phase = .lists then s
  else if teState n s = 2 then
    let s1 := teIssueReads n teFuel s
    let s2 := teIssueWrites n teFuel s1
    let s3 := teIssueWrites n teFuel (teIssueReads n teFuel s2)
    if (getTe n s3).wrote = dTotal t.raw true ∧ (teReqs n s3).isEmpty = true then teFinish n St.ok false s3 else s3
  else if teState n s = 3 then teIssueWrites n teFuel s
  else s

/-- Read a side's list (R325 step 2). -/
def teReadList (n : Nat) (dst : Bool) (s : State) : State :=
  let t := getTe n s
  setTe n { t with phase := .lists, listBytes := [] } s
    |> forEach (bursts 9 (dAddr t.raw dst) 0 (16 * dPairs t.raw dst)) (fun p u => access
        { chan := n, func := teFunc n s, iova := p.1, len := p.2.2, purpose := .teList n dst p.2.1 } u)

/-- The lists are in: check them and start the data phase. -/
def teData (n : Nat) (src dst : Bytes) (s : State) : State :=
  let t := getTe n s
  let st := listCheck t.raw src dst
  if st ≠ 0 then teFinish n st false s
  else
    let fr (d : Bool) (l : Bytes) : List (Nat × Nat) := (sideFrags t.raw d l).map (fun p => (p.1, p.2.1))
    setTe n { t with phase := .data, src := fr false src, dst := fr true dst, listBytes := [], issued := 0, wrote := 0,
                     pieces := [] } s
      |> tePump n

/-- Read the lists of a descriptor, source first, or go on without. -/
def teLists (n : Nat) (s : State) : State :=
  let t := getTe n s
  if dSrcList t.raw then teReadList n false s
  else if dDstList t.raw then teReadList n true s
  else teData n [] [] s

/-- Fences a descriptor takes at its start (R320 FENCE, R16). -/
def teTakeFence (d : Bytes) (s : State) : Option Nat × State :=
  if dFence d then (let f := takeFence none s; (some f.1, f.2)) else (none, s)

/-- Start the next accepted descriptor, if the channel is free to (R320, R325). (DEDUCED: log entry 64.) -/
def teStart (n : Nat) (s : State) : State :=
  let t := getTe n s
  if t.phase ≠ .none ∨ (teState n s ≠ 1 ∧ teState n s ≠ 2) then s
  else match t.cache with
  | [] => if t.closing then s else setTeState n 1 s
  | (pos, d) :: rest =>
    let f := teTakeFence d s
    let s1 := setTeState n 2 (setTe n { t with cache := rest, pos := pos, raw := d, fence := f.1, status := 0,
                                               side := false, park := none } f.2)
    let st := descCheck d
    if st ≠ 0 then teFinish n st false s1
    else teLists n s1

/-! ## Scans (R320, as R267 to R269) -/

/-- Read the granule of the next ring position. -/
def teScanNext (n : Nat) (s : State) : State :=
  let t := getTe n s
  let busy := t.cache.length + (if t.phase = .none then 0 else 1)
  if teState n s ≠ 1 ∧ teState n s ≠ 2 then setTe n { t with scanning := false, rescan := true } s
  else if 8 ≤ busy then setTe n { t with scanning := false, stopRoom := true } s
  else
    setTe n { t with scanning := true, stopRoom := false } s
      |> ownRead n (teFunc n s) (teBase n s + 32 * tePos n s) (.teDesc n (tePos n s))

/-- A doorbell: outside IDLE and RUNNING it is remembered, and in the STANDBY role, which fetches no descriptor (R486). -/
def teScanStart (n : Nat) (s : State) : State :=
  let t := getTe n s
  if duRole s = 2 ∨ t.scanning ∨ (teState n s ≠ 1 ∧ teState n s ≠ 2) ∨ t.closing then setTe n { t with rescan := true } s
  else teScanNext n s

/-- The scan ends; a doorbell that arrived meanwhile causes one further scan. -/
def teScanEnd (n : Nat) (s : State) : State :=
  let t := getTe n s
  let s1 := duScanned (65536 + n) (setTe n { t with scanning := false, rescan := false } s)
  if t.rescan then teScanStart n s1 else s1

/-- A remembered doorbell, or a scan that stopped for room, goes on. -/
def teScanMore (n : Nat) (s : State) : State :=
  let t := getTe n s
  if t.scanning ∨ t.closing then s
  else if t.rescan then teScanStart n (setTe n { t with rescan := false } s)
  else if t.stopRoom then teScanNext n s
  else s

/-! ## Stops (R328) -/

/-- General channel that an access is made for. -/
def teOf : Purpose → Option Nat
  | .teDesc n _ => some n
  | .teFinal n _ => some n
  | .teList n _ _ => some n
  | .teRead n _ => some n
  | .teWrite n _ => some n
  | .teStatus n => some n
  | .teRelease n => some n
  | _ => none

/-- The work of every access of a channel has ended (R13). -/
def teCancelAll (n : Nat) (s : State) : State := endReqs (fun p => teOf p == some n) s

/-- Outside PARKED the PROG registers read 0. -/
def clearProg (n : Nat) (s : State) : State :=
  wr (teLoc .TE_PROG_ELEM n) 0 s |> wr (teLoc .TE_PROG_SRC n) 0 |> wr (teLoc .TE_PROG_DST n) 0

/-- The channel enters STOPPED: it issues nothing more. -/
def teStop (n status pos : Nat) (s : State) : State :=
  let t := getTe n s
  if teState n s = 0 ∨ teState n s = 5 then s
  else
    setTe n { t with cache := [], scanning := false, stopRoom := false, phase := .none, park := none, closing := false } s
      |> teCancelAll n
      |> setTeState n 5
      |> setHoldBit n F.TE_STATE_HOLD_FAULT false
      |> wr (teLoc .TE_FAULT n) 0
      |> wr64 (teLoc .TE_FAULT_ADDR n) 0
      |> clearProg n
      |> teFlag n 2
      |> teRecord n status 0x0D pos (dUser t.raw) true

/-! ## Holds (R329 to R331) -/

/-- PROG registers (R330): element, and fragment and offset of its first byte on each side. OFS shows the low 24 bits of an
offset beyond its width; behind the last element there is no first byte, and only the index shows. (DESIGN CHOICE: log entry
65.) -/
def fragAt : List (Nat × Nat) → Nat → Nat → Nat × Nat
  | [], i, _ => (i, 0)
  | (_, l) :: fr, i, off => if off < l then (i, off) else fragAt fr (i + 1) (off - l)

def showProg (n : Nat) (s : State) : State :=
  let t := getTe n s
  match t.park with
  | some e =>
    let a := fragAt t.src 0 (e * dSew t.raw)
    let b := fragAt t.dst 0 (e * dDew t.raw)
    wr (teLoc .TE_PROG_ELEM n) (e % 2 ^ 28) s
      |> wr (teLoc .TE_PROG_SRC n) (a.1 % 256 * 2 ^ 24 + a.2 % 2 ^ 24)
      |> wr (teLoc .TE_PROG_DST n) (b.1 % 256 * 2 ^ 24 + b.2 % 2 ^ 24)
  | none =>
    if (t.phase = .status ∨ t.phase = .release) ∧ t.status = St.ok then wr (teLoc .TE_PROG_ELEM n) (dNelem t.raw) s else s

/-- Withdraw accesses of a held channel that are not issued: the reads and the writes of elements at or beyond the park
point, and reads of lists and of the ring; what waits for a page response stays. The scan whose read goes is made again.
-/
def teWithdraw (n park : Nat) (s : State) : State :=
  let dew := dDew (getTe n s).raw
  let sew := dSew (getTe n s).raw
  let gone (q : Req) : Bool := !faulted q && (match q.purpose, q.phase with
    | _, .out _ _ _ => false
    | .teRead c off, _ => c == n && decide (park * sew ≤ off)
    | .teWrite c off, _ => c == n && decide (park * dew ≤ off)
    | .teList c _ _, _ => c == n
    | .teDesc c _, _ => c == n
    | _, _ => false)
  let scan := s.host.reqs.any (fun q => gone q && (match q.purpose with
    | .teDesc _ _ => true
    | _ => false))
  let s1 := { s with host := { s.host with reqs := s.host.reqs.filter (fun q => !gone q) } }
  if scan then setTe n { getTe n s1 with scanning := false, rescan := true } s1 else s1

/-- A hold arises (R329): the channel drains to `point`, or to the first element not received. -/
def teHold (n : Nat) (cause : Fld) (point : Option Nat) (s : State) : State :=
  let s0 := setHoldBit n cause true s
  let t := getTe n s0
  let own := if t.phase = .data then availIn t (t.pieces ++ teArriving n s0) else 0
  let p0 := point.getD own
  let st := teState n s0
  if st = 1 ∨ st = 2 then
    let p := if t.phase = .data ∨ t.phase = .lists then some p0 else none
    setTeState n 3 (setTe n { t with park := p } s0) |> teWithdraw n p0 |> tePump n
  else if st = 3 then
    match t.park, point with
    | some q, some p => setTe n { t with park := some (min p q) } s0 |> teWithdraw n (min p q) |> tePump n
    | _, _ => s0
  else s0

/-- The drain of a held channel is over (R330): nothing is issued, and every element before the park point is written. A
descriptor whose status or release write has met the fault is parked behind its last element. (DEDUCED: log entry 65.) -/
def teDrained (n : Nat) (s : State) : Bool :=
  let t := getTe n s
  (teOut n s).isEmpty && (match t.phase with
    | .none => true
    | .lists => t.status == 0
    | .data => t.status == 0 && decide (teLimit t * dDew t.raw ≤ t.wrote) &&
        !(teReqs n s).any (fun r => r.write && !faulted r)
    | _ => s.host.reqs.any (fun r => faulted r && (r.purpose == .teStatus n || r.purpose == .teRelease n)))

/-- Go on from the park point (R331): everything at or beyond it is read again. -/
def teResume (n : Nat) (s : State) : State :=
  if teState n s ≠ 4 ∨ teHeld n s = true then s
  else
    let t := getTe n s
    let e := t.park.getD 0
    let s1 := clearProg n (setTe n { t with park := none, issued := e * dSew t.raw, wrote := e * dDew t.raw, pieces := [] } s)
    match t.phase with
    | .none => setTeState n 1 s1 |> teStart n |> teScanMore n
    | .lists => setTeState n 2 s1 |> teLists n |> teScanMore n
    | .data => setTeState n 2 s1 |> tePump n |> teScanMore n
    | _ => setTeState n 2 s1 |> teScanMore n

/-- A hold is removed. -/
def teUnhold (n : Nat) (cause : Fld) (s : State) : State := setHoldBit n cause false s |> teResume n

/-- The drain ends: the channel is parked; a TE_FAULT record if it is held for a fault. -/
def teDrainEnd (n : Nat) (s : State) : State :=
  if teState n s = 3 ∧ teDrained n s = true then
    let t := getTe n s
    let e := t.park.getD 0
    let s1 := setTeState n 4 (setTe n { t with pieces := [], issued := e * dSew t.raw, wrote := e * dDew t.raw } s)
      |> showProg n
      |> teFlag n 3
    let pos := if t.phase = .none then tePos n s else t.pos
    let s2 := if teHoldBit n F.TE_STATE_HOLD_FAULT s1 then
        teRecord n St.translationFault 0x0B pos (if t.phase = .none then 0 else dUser t.raw) true s1 else s1
    teResume n s2
  else s

/-! ## Faults and errors of a descriptor's accesses (R327, R328, R336) -/

/-- The first element that needs the page of an access. (DEDUCED: log entry 65.) -/
def teFaultPoint (n : Nat) (r : Req) (s : State) : Nat :=
  let t := getTe n s
  match r.purpose with
  | .teRead _ off => off / dSew t.raw
  | .teWrite _ off => off / dDew t.raw
  | _ => 0

/-- The page request that serves an access. -/
def preqOf (r : Req) (s : State) : Nat :=
  match s.host.preqs.find? (fun x => x.func == r.func && x.page == pageNo r.iova && x.write == r.write && !x.timedOut) with
  | some x => x.id
  | none => 0

/-- A translation for the channel answered FAULT: a FAULT hold (R329, R336). (DEDUCED: log entry 65.) -/
def teFault (n : Nat) (r : Req) (s : State) : State :=
  let side := match r.purpose with
    | .teWrite _ _ => true
    | _ => false
  let pt := if (teKind r.purpose).isSome then some (teFaultPoint n r s) else none
  s |> wr64 (teLoc .TE_FAULT_ADDR n) (pageNo r.iova * 4096)
    |> wr (teLoc .TE_FAULT n) (2 ^ 31 + b2n side * 2 ^ 30 + b2n r.write * 2 ^ 29 + preqOf r s)
    |> teFlag n 0
    |> teHold n F.TE_STATE_HOLD_FAULT pt

/-- No access of the channel waits for a page response any more: the FAULT hold ends. (DEDUCED: log entry 65.) -/
def teFaultOver (n : Nat) (s : State) : State :=
  if s.host.reqs.any (fun r => r.chan == n && faulted r) then s
  else wr (teLoc .TE_FAULT n) 0 s |> wr64 (teLoc .TE_FAULT_ADDR n) 0 |> teUnhold n F.TE_STATE_HOLD_FAULT

/-- An access of the descriptor ends in `status`: nothing more is issued for it, and it completes when what is
outstanding has been answered (R327). What waits for a page response keeps the FAULT hold until the response (R336). -/
def teError (n status : Nat) (side : Bool) (s : State) : State :=
  let t := getTe n s
  if t.phase ≠ .data ∧ t.phase ≠ .lists then s
  else
    let keep (q : Req) : Bool := match teKind q.purpose with
      | some (c, _) => c != n || faulted q || (match q.phase with
        | .out _ _ _ => true
        | _ => false)
      | none => true
    let s1 := { s with host := { s.host with reqs := s.host.reqs.filter keep } }
    tePump n (setTe n { t with status := if t.status = 0 then status else t.status,
                               side := if t.status = 0 then side else t.side } s1)

/-- Side of an access, for SIDE of the status word. -/
def teSide (p : Purpose) : Bool :=
  match p with
  | .teWrite _ _ => true
  | .teList _ d _ => d
  | _ => false

/-! ## Closing (R333) -/

/-- Read the next descriptor of the final scan; it covers at most the ring. -/
def teFinalNext (n pos : Nat) (s : State) : State :=
  ownRead n (teFunc n s) (teBase n s + 32 * pos) (.teFinal n pos) s

/-- The channel is OFF: nothing is in force but a doorbell that is remembered, and what makes POWER holds of its island. -/
def teOff (n : Nat) (s : State) : State :=
  setTe n { Te.off with rescan := (getTe n s).rescan, power := (getTe n s).power } (teCancelAll n s)
    |> setTeState n 0 |> setTePos n 0 |> clearProg n
    |> setHoldBit n F.TE_STATE_HOLD_FAULT false |> setHoldBit n F.TE_STATE_HOLD_POWER false
    |> wr (teLoc .TE_FAULT n) 0 |> wr64 (teLoc .TE_FAULT_ADDR n) 0

/-- Go on closing: the next cached descriptor completes with ABORTED, then the final scan, then OFF. -/
def teCloseNext (n : Nat) (s : State) : State :=
  let t := getTe n s
  if t.closing = false ∨ t.phase ≠ .none then s
  else match t.cache with
  | (pos, d) :: rest =>
    setTe n { t with cache := rest, pos := pos, raw := d, fence := none } s |> teFinish n St.aborted false
  | [] =>
    if t.finalDone then teOff n s
    else teFinalNext n (tePos n s) (setTe n { t with finalFrom := some (t.finalFrom.getD (tePos n s)) } s)

/-- The final scan finds an owned descriptor: it completes with ABORTED. The scan covers at most the ring (R281). -/
def teFinalFound (n pos : Nat) (d : Bytes) (s : State) : State :=
  let t := getTe n s
  let next := (pos + 1) % 2 ^ teLog n s
  setTePos n next (setTe n { t with pos := pos, raw := d, fence := none, finalDone := t.finalFrom == some next } s)
    |> teFinish n St.aborted false

/-- The final scan has ended. -/
def teFinalEnd (n : Nat) (s : State) : State := teCloseNext n (setTe n { getTe n s with finalDone := true } s)

/-! ## Completion of a descriptor (R325 steps 5 and 6) -/

/-- The release write, made by the partner in a protected Duo pair (R489). -/
def teReleaseWrite (n : Nat) (s : State) : State :=
  let t := getTe n s
  let a := teBase n s + 32 * t.pos + 31
  let s1 := setTe n { t with phase := .release } s
  if t.phase ≠ .status then s else if duFlips s1 then sendReady (.teRelease n) (.te n t.pos) s1
  else access { chan := n, func := teFunc n s, iova := a, len := 1, write := true, data := [0], purpose := .teRelease n } s1

/-- The release has its response: LAST_STATUS, counters, events and records; then the next descriptor. -/
def teReleased (n : Nat) (s : State) : State :=
  let t := getTe n s
  let bad := t.status != St.ok && t.status != St.aborted
  let s1 := fs (teLoc .TE_STATE n) F.TE_STATE_LAST_STATUS t.status (setTe n { t with phase := .none, fence := none, park := none } s)
    |> doIf (t.status == St.ok) (bump (cWq 9))
    |> doIf bad (fun v => bump (cWq 10) v |> teFlag n 1)
    |> doIf (dNotify t.raw) (teRecord n t.status 0x0A t.pos (dUser t.raw) false)
    |> doIf bad (teRecord n t.status 0x0C t.pos (dUser t.raw) true)
  if t.closing then teCloseNext n s1
  else if teState n s1 = 4 then teResume n (clearProg n s1)
  else teStart n s1 |> teScanMore n

/-! ## Handlers of answers -/

/-- A ring read's granule: the descriptor at `pos` is accepted if the block owns it (R267, R320). -/
def teDescRead (n pos : Nat) (g : Bytes) (agree : Bool) (s : State) : State :=
  let t := getTe n s
  if t.scanning = false then s
  else
    let off := 32 * (pos % 2)
    if owned g off 32 agree = false then teScanEnd n s
    else
      let s1 := setTePos n ((pos + 1) % 2 ^ teLog n s)
        (setTe n { t with cache := t.cache ++ [(pos, (g.drop off).take 32)] } (duReplayed (65536 + n) s))
      teScanNext n (teStart n s1)

/-- A granule of the final scan. -/
def teFinalRead (n pos : Nat) (g : Bytes) (agree : Bool) (s : State) : State :=
  let off := 32 * (pos % 2)
  if owned g off 32 agree then teFinalFound n pos ((g.drop off).take 32) s else teFinalEnd n s

/-- List bytes: when a side's list is complete, the other side's is read, or the data phase starts. -/
def teListRead (n : Nat) (dst : Bool) (off : Nat) (b : Bytes) (s : State) : State :=
  let t := getTe n s
  if t.phase ≠ .lists then s
  else if t.status ≠ 0 ∨ teState n s = 3 then tePump n s
  else
    let ps := t.listBytes ++ [(off, b)]
    let l := gather ps 0 (16 * dPairs t.raw dst)
    if prefixLen ps (ps.length + 1) 0 < 16 * dPairs t.raw dst then setTe n { t with listBytes := ps } s
    else if dst = false ∧ dDstList t.raw = true then
      teReadList n true (setTe n { t with src := (parsePairs (dPairs t.raw false) l).map (fun p => (p.1, p.2.1)),
                                          pieces := [(0, l)] } s)
    else if dst then teData n (if dSrcList t.raw then gather t.pieces 0 (16 * dPairs t.raw false) else []) l s
    else teData n l [] s

/-- Source bytes at transfer byte `off`. -/
def teDataRead (n off : Nat) (b : Bytes) (s : State) : State :=
  let t := getTe n s
  if t.phase ≠ .data then s
  else if t.status ≠ 0 then tePump n s
  else
    let keep := t.pieces.filter (fun p => decide (t.wrote / dDew t.raw * dSew t.raw < p.1 + p.2.length))
    tePump n (setTe n { t with pieces := keep ++ [(off, b)] } s)

/-! ## Register writes -/

/-- Channel 63 belongs to the steward until READY first rises (R316). -/
def teForeign (m : Master) (n : Nat) (s : State) : Bool := n == 63 && m != .stw && !s.pins.everReady

/-- CANCEL of the descriptor under execution of a parked channel (R332): its FAULT hold ends with it, and with no hold
left the channel is RUNNING. A scan whose read waits for the page is made again. -/
def teCancel (n : Nat) (s : State) : State :=
  let scan := s.host.reqs.any (fun q => faulted q && (match q.purpose with
    | .teDesc c _ => c == n
    | _ => false))
  let s1 := { s with host := { s.host with reqs := s.host.reqs.filter (fun q => q.chan != n || !faulted q) } }
  let s2 := if scan then setTe n { getTe n s1 with scanning := false, rescan := true } s1 else s1
  let s3 := clearProg n s2 |> wr (teLoc .TE_FAULT n) 0 |> wr64 (teLoc .TE_FAULT_ADDR n) 0
    |> setHoldBit n F.TE_STATE_HOLD_FAULT false
  teFinish n St.aborted false (doIf (!teHeld n s3) (setTeState n 2) s3)

/-- A write of TE_CTRLk (R320, R329, R331, R332). -/
def writeTeCtrl (m : Master) (n data : Nat) (s : State) : Option State :=
  let cancel := bit data 29
  if n < 48 then some s
  else if teForeign m n s = true ∨ (cancel = true ∧ (teState n s ≠ 4 ∨ (getTe n s).phase = .none ∨
      (getTe n s).phase = .status ∨ (getTe n s).phase = .release)) then none
  else
    let was := fb (teLoc .TE_CTRL n) F.TE_CTRL_PAUSE s
    let now := bit data 30
    let s1 := fs (teLoc .TE_CTRL n) F.TE_CTRL_PAUSE (b2n now) s
    let s2 := if cancel then teCancel n s1 else s1
    let s3 := if now = true ∧ was = false then teHold n F.TE_STATE_HOLD_PAUSE none s2
      else if now = false ∧ was = true then teUnhold n F.TE_STATE_HOLD_PAUSE s2 else s2
    some (if bit data 31 = true ∧ teState n s3 ≠ 0 then teScanStart n s3 else s3)

/-- A write of TE_CFGk (R333, R342). Channels 0 to 47 take PRIO, WEIGHT and RA. A channel enabled while its island is down takes
the POWER hold (R340); one that stopped while it closed goes to OFF by a second write of ENABLE = 0. -/
def writeTeCfg (m : Master) (n data : Nat) (s : State) : Option State :=
  let a := teLoc .TE_CFG n
  let on := fb a F.TE_CFG_ENABLE s
  let arb (s : State) : State :=
    fs a F.TE_CFG_PRIO (bits data 26 24) s |> fs a F.TE_CFG_WEIGHT (bits data 23 20) |> fs a F.TE_CFG_RA (bits data 14 8)
  if n < 48 then some (arb s)
  else if teForeign m n s then none
  else if bit data 31 = true ∧ on = false then
    if teState n s ≠ 0 ∨ teLog n s < 3 ∨ 16 < teLog n s then none
    else
      let s1 := fs a F.TE_CFG_ENABLE 1 (arb s) |> setTeState n 1 |> setTePos n 0
      let s2 := { s1 with host := { s1.host with bypassFixed := true } }
      let s3 := if fb (teLoc .TE_CTRL n) F.TE_CTRL_PAUSE s2 then teHold n F.TE_STATE_HOLD_PAUSE none s2 else s2
      let s4 := if (getTe n s3).power = [] then s3 else teHold n F.TE_STATE_HOLD_POWER none s3
      some (teScanMore n s4)
  else if bit data 31 = false ∧ (on = true ∨ teState n s = 5) then
    let st := teState n s
    if st = 1 ∨ (st = 4 ∧ teHoldBit n F.TE_STATE_HOLD_PAUSE s = true) then
      let t := getTe n s
      let s1 := fs a F.TE_CFG_ENABLE 0 (arb s)
        |> setTe n { t with closing := true, scanning := false, rescan := t.rescan && st == 4, stopRoom := false }
        |> endReqs (fun p => teOf p == some n && p != .teStatus n && p != .teRelease n)
      some (if t.phase = .data ∨ t.phase = .lists then teFinish n St.aborted false (clearProg n s1) else teCloseNext n s1)
    else if st = 5 then some (teOff n (fs a F.TE_CFG_ENABLE 0 (arb s)))
    else none
  else some (arb s)

/-- A write of TE_RINGk or TE_RING_BASEk: only in OFF (R342). -/
def writeTeRing (m : Master) (n : Nat) (f : State → State) (s : State) : Option State :=
  if n < 48 then some s else if teForeign m n s = true ∨ teState n s ≠ 0 then none else some (f s)

/-- The channel register of a packet channel that reads 0 and ignores writes (R342). -/
def tePacketOnly (r : RegName) : Bool :=
  r == .TE_RING || r == .TE_CTRL || r == .TE_RING_BASE || r == .TE_PROG_ELEM || r == .TE_PROG_SRC || r == .TE_PROG_DST ||
    r == .TE_FAULT_ADDR || r == .TE_FAULT

/-- TE_CFGk as read: packet channels read ENABLE 1. -/
def readTeCfg (n : Nat) (s : State) : Nat :=
  let v := rd (teLoc .TE_CFG n) s
  if n < 48 then v % 2 ^ 31 + 2 ^ 31 else v

/-- TE_STATEk as read: packet channels show IDLE or RUNNING, and PORT. -/
def readTeState (n : Nat) (s : State) : Nat :=
  if n < 48 then
    (if s.host.reqs.any (fun r => r.chan == n) then 2 else 1) * 2 ^ 29 + chanPort n s * 2 ^ 24
  else rd (teLoc .TE_STATE n) s

/-- An assignment of HP_CHMAP takes effect for a channel with no request outstanding (R317). -/
def chmapTake (n : Nat) (s : State) : State :=
  if (teOut n s).isEmpty then fs (teLoc .TE_STATE n) F.TE_STATE_PORT (chanMap n s) s else s

/-- Channels assigned to a host memory port, or every channel for the core. -/
def islandChans (c : Nat) (s : State) : List Nat :=
  if c = 2 then List.range 64 else (List.range 64).filter (fun n => chanPort n s == c - 0x40)

/-- A POWER hold of channel `n` for cause `c`, which one in OFF takes once it is enabled: an island, or a port substitution
that moves the channel (R340, R479). -/
def powerHoldOne (c n : Nat) (s : State) : State :=
  let s1 := setTe n { getTe n s with power := c :: (getTe n s).power.filter (· != c) } s
  if teHoldBit n F.TE_STATE_HOLD_POWER s || teState n s == 0 then s1 else teHold n F.TE_STATE_HOLD_POWER none s1

/-- The channels that an island's power-down holds (R340). -/
def powerHold (c : Nat) (s : State) : State :=
  forEach ((islandChans c s).filter (fun n => decide (48 ≤ n))) (powerHoldOne c) s

/-- Cause `c` is over: the POWER holds that no other cause makes end (R341). -/
def powerUnhold (c : Nat) (s : State) : State :=
  forEach ((List.range 64).filter (fun n => (getTe n s).power.contains c)) (fun n t =>
    let l := (getTe n t).power.filter (· != c)
    let t1 := setTe n { getTe n t with power := l } t
    if l = [] then teUnhold n F.TE_STATE_HOLD_POWER t1 else t1) s

/-! ## Meanings -/

/-- A general channel's number from an operand. -/
def genChan (n : Nat) : Nat := 48 + n % 16

/-- TE_DOORBELL (R320): a write of TE_CTRLk with DB = 1. -/
def execTeDoorbell (m : Master) (n : Nat) (data : W32) (s : State) : Host.Outcome State Fault Refusal :=
  let d := data.toNat % 2 ^ 31 + 2 ^ 31
  done (ctlWrite m (teLoc .TE_CTRL (genChan n)) d (writeTeCtrl m (genChan n) d) s)
/-- TE_PAUSE (R329): a write of TE_CTRLk with PAUSE = 1. -/
def execTePause (m : Master) (n : Nat) (s : State) : Host.Outcome State Fault Refusal :=
  done (ctlWrite m (teLoc .TE_CTRL (genChan n)) (2 ^ 30) (writeTeCtrl m (genChan n) (2 ^ 30)) s)
/-- TE_UNPAUSE (R331): a write of TE_CTRLk with PAUSE = 0. -/
def execTeUnpause (m : Master) (n : Nat) (s : State) : Host.Outcome State Fault Refusal :=
  done (ctlWrite m (teLoc .TE_CTRL (genChan n)) 0 (writeTeCtrl m (genChan n) 0) s)
/-- TE_CANCEL (R332): a write of TE_CTRLk with CANCEL = 1 and PAUSE as given. -/
def execTeCancel (m : Master) (n : Nat) (pause : Bool) (s : State) : Host.Outcome State Fault Refusal :=
  let d := 2 ^ 29 + b2n pause * 2 ^ 30
  done (ctlWrite m (teLoc .TE_CTRL (genChan n)) d (writeTeCtrl m (genChan n) d) s)
/-- TE_ENABLE (R320): a write of TE_CFGk with ENABLE = 1. -/
def execTeEnable (m : Master) (n : Nat) (data : W32) (s : State) : Host.Outcome State Fault Refusal :=
  let d := data.toNat % 2 ^ 31 + 2 ^ 31
  done (ctlWrite m (teLoc .TE_CFG (genChan n)) d (writeTeCfg m (genChan n) d) s)
/-- TE_DISABLE (R333): a write of TE_CFGk with ENABLE = 0. -/
def execTeDisable (m : Master) (n : Nat) (data : W32) (s : State) : Host.Outcome State Fault Refusal :=
  let d := data.toNat % 2 ^ 31
  done (ctlWrite m (teLoc .TE_CFG (genChan n)) d (writeTeCfg m (genChan n) d) s)
/-- TE_DRAIN_END (R330). -/
def execTeDrainEnd (n : Nat) (s : State) : Host.Outcome State Fault Refusal := done (teDrainEnd (genChan n) s)
end Sys2Proof.Machine
end

