-- ==== Sys2Proof/Machine/Time.lean ====
section
/-!
DEFINITION. Block time and counters (spec/15): ticks, steps, slews and loads of block time, the reference, counter modes and
reads, byte-rate windows, and Accord dumps.
-/

namespace Sys2Proof.Machine

/-! ## Block time (R406 to R411) -/

/-- A 32-bit word as a signed number. -/
def s32 (v : Nat) : Int := if v < 2 ^ 31 then (v : Int) else (v : Int) - 2 ^ 32

/-- Core island code, and whether it is in SLEEP or DEEP, or leaves them (R411). -/
def coreAsleep (s : State) : Bool := (isl 2 s).st == .sleep || (isl 2 s).st == .deep

/-- The clocks of block time run: the block is out of cold reset and the core has been brought up (R411). -/
def timeRuns (s : State) : Bool := !coldHeld s && ((isl 2 s).st != .off)

/-- Denominator of a tick: TB_FREQ counts 2^-8 ppb, and 6.4 ns are 32/5 ns. -/
def tickDen : Nat := 1280000000000

/-- Numerator of a tick's increment, in units of 2^-48 ns / `tickDen`: 0.625 ns, or 6.4 ns while the core is asleep
(R406, R411), corrected by TB_FREQ (R407). (DESIGN CHOICE: log entry 3.) -/
def tickNum (s : State) : Nat :=
  let f := (256000000000 + s32 (rd (loc .TB_FREQ) s)).toNat
  (if coreAsleep s then 32 * 2 ^ 48 else 25 * 2 ^ 45) * f

/-- What a slew adds in one tick at most, in the unit of `tickNum`: SLEW_PPM × 1,000 ppb of the nominal tick (R408). -/
def slewPart (s : State) : Nat :=
  let ppm := max 1 (fg (loc .TB_ADJ) F.TB_ADJ_SLEW_PPM s)
  (if coreAsleep s then 32 * 2 ^ 48 else 25 * 2 ^ 45) * (256000 * ppm)

/-- Move block time by a signed amount. -/
def moveTime (t : Nat) (d : Int) : Nat := (((t : Int) + d) % (timeMod : Int)).toNat

/-- Block time and the refill clock advance by `n`, in units of 2^-48 ns / `tickDen`; what is less than 2^-48 ns is
kept, so that rounding never accumulates (R406). -/
def advance (n : Int) (t : Tb) : Tb :=
  let v := (t.rem : Int) + n
  let d := v / (tickDen : Int)
  { t with time := moveTime t.time d, refill := ((t.refill : Int) + d).toNat, rem := (v % (tickDen : Int)).toNat }

/-- One tick of block time and of the refill clock (R406, R408, R409). (DESIGN CHOICE: log entry 3.) (DEDUCED: log
entry 73.) -/
def tick (s : State) : State :=
  if timeRuns s = false then s
  else
    let part : Int := min (slewPart s : Int) s.tb.slew.natAbs * s.tb.slew.sign
    let t := advance ((tickNum s : Int) + part) s.tb
    { s with tb := { t with slew := s.tb.slew - part, cycle := s.tb.cycle + 1 } }

/-- The three words of a 96-bit time as TB_TIME shows them: nanoseconds, seconds 31:0, fraction and seconds 47:32. -/
def timeWords (v : Nat) : List Nat :=
  [v / 2 ^ 16 % 2 ^ 32, v / 2 ^ 48 % 2 ^ 32, v % 2 ^ 16 * 2 ^ 16 + v / 2 ^ 80 % 2 ^ 16]

/-- Write a 96-bit time into the three registers of `n`. -/
def putTime (n : RegName) (v : Nat) (s : State) : State :=
  forEach (List.range 3) (fun i t => wr (loc n 0 i) ((timeWords v).getD i 0) t) s

/-! ## Accord dumps: latch, records, header (R420 to R426) -/

def setDump (d : Dump) (s : State) : State := { s with pc := { s.pc with dump := d } }

/-- Channel of dumps (R314). -/
def dumpChan : Nat := 44

/-- The 2 µs between the header read and T (R422). -/
def dumpLead : Nat := 2000 * nsU

/-- The first multiple of PERIOD at least 2 µs after `now`, and after `past` (R421). -/
def nextMultiple (period now past : Nat) : Nat :=
  let per := period * 1000 * nsU
  if per = 0 then 0 else
  let a := (now + dumpLead + per - 1) / per * per
  if a ≤ past then (past / per + 1) * per else a

/-- Set the next T (R421). (DEDUCED: log entry 75.) -/
def dumpPlan (past : Nat) (s : State) : State :=
  let d := s.pc.dump
  if d.enable then setDump { d with nextT := nextMultiple d.period s.tb.time past } s else s

/-- A dump is skipped (R422). -/
def dumpSkip (s : State) : State :=
  setDump { s.pc.dump with skipped := (s.pc.dump.skipped + 1) % 2 ^ 32 } s
    |> bump (cBlk 1)
    |> setFlag (loc .PC_EVENT) F.PC_EVENT_DUMP_SKIP

/-- Base of the slot in use or next (R423). -/
def dumpSlot (s : State) : Nat := s.pc.dump.base + s.pc.dump.slot * 0x21000

/-- Read the header of the next slot (R422). -/
def dumpReadHeader (s : State) : State :=
  ownRead dumpChan s.pc.dump.func (dumpSlot s + 0x20000) .dumpHdrRead s

/-- Start a dump at instant `t`: its header is read (R422). -/
def dumpBegin (kind t : Nat) (s : State) : State :=
  setDump { s.pc.dump with phase := .header, kind := kind, latchT := t, stepped := false } s |> dumpReadHeader

/-- Start a DUMP_NOW that waits (R421): T is block time plus 2 µs. -/
def dumpNextNow (s : State) : State :=
  if s.pc.dump.phase = .idle ∧ s.pc.dump.waiting ≠ [] then dumpBegin 1 (s.tb.time + dumpLead) s else s

/-- Apply a DUMP_CFG (R311, R425, R498). -/
def dumpApply (c : Bool × Nat × Nat × Nat × Nat × Nat) (s : State) : State :=
  setDump { s.pc.dump with
    enable := c.1, period := c.2.1, base := c.2.2.1, logSlots := c.2.2.2.1, sillage := c.2.2.2.2.1,
    func := c.2.2.2.2.2, seq := 0, slot := 0, named := true, newCfg := none } s
    |> dumpPlan 0

/-- The dump unit is free again: a configuration that waited applies, and the next DUMP_NOW starts. -/
def dumpFree (s : State) : State :=
  let s1 := setDump { s.pc.dump with
    phase := .idle, shadow := [], record := 0, parkPark := false, parkFault := false } s
  let s2 := match s1.pc.dump.newCfg with
    | some c => dumpApply c s1
    | none => s1
  dumpNextNow s2

/-- Complete the DUMP_NOW in progress (R424, R426); RESULT0 is the latch instant. -/
def dumpFinishNow (status : Nat) (s : State) : State :=
  let d := s.pc.dump
  if d.kind = 1 then
    match d.waiting with
    | (p, k) :: rest => finishCmd p k status (if status = St.ok then time64 d.latchT else 0) 0 (setDump { d with waiting := rest } s)
    | [] => s
  else s

/-- A dump ends without a latch, or with its latched values discarded (R422). -/
def dumpGiveUp (err : Bool) (s : State) : State :=
  let t := s.pc.dump.latchT
  let periodic := s.pc.dump.kind == 0
  dumpSkip s
    |> doIf err (setFlag (loc .PC_EVENT) F.PC_EVENT_DUMP_ERR)
    |> dumpFinishNow St.backlogExhausted
    |> doIf periodic (dumpPlan t)
    |> dumpFree

/-- Every island copies its counters (R420). -/
def latchCounters (s : State) : Smap Nat :=
  s.pc.wrap.dedup.foldl (fun m i => sput 0 m i (sget 0 m i + 2 ^ 48)) s.pc.val

/-- The 512 bytes of record `r` (R423, R424). -/
def dumpBytes (shadow : Smap Nat) (r : Nat) : Bytes :=
  (List.range 64).flatMap (fun i => bytesLE 8 (sget 0 shadow (64 * r + i)))

/-- The 64 bytes of the header (R423). -/
def dumpHeader (d : Dump) : Bytes :=
  let v := time96 d.latchT
  bytesLE 6 (v / 2 ^ 48) ++ bytesLE 4 (v / 2 ^ 16) ++ bytesLE 2 v ++ bytesLE 4 d.seq ++ bytesLE 1 d.status ++
    bytesLE 1 (d.kind + 2 * b2n d.stepped) ++ bytesLE 2 d.record ++ bytesLE 4 d.skipped ++ bytesLE 40 0

/-- Write the header (R424), carrying and clearing the count of skipped dumps. -/
def dumpClose (s : State) : State :=
  let d := s.pc.dump
  let o := newOut s
  setDump { d with phase := .closing, skipped := 0, oid := o.1 } o.2
    |> access { chan := dumpChan, func := d.func, iova := dumpSlot s + 0x20000, len := 64, write := true,
                data := dumpHeader d, purpose := .dumpHdrWrite, split := true }

/-- Something parks the dump (R426). -/
def dumpHeld (d : Dump) : Bool := d.parkPark || d.parkFault || d.parkPower

/-- Write the next record, park before it, or close (R424, R426). (DEDUCED: log entry 75.) -/
def dumpNext (s : State) : State :=
  let d := s.pc.dump
  if d.outRecs ≠ 0 then s
  else if d.status ≠ 0 ∨ 256 ≤ d.record then dumpClose s
  else if dumpHeld d then setDump { d with phase := .parked } s
  else
    let o := newOut s
    setDump { d with phase := .writing, outRecs := 1, oid := o.1 } o.2
      |> access { chan := dumpChan, func := d.func, iova := dumpSlot s + 512 * d.record, len := 512, write := true,
                  data := dumpBytes d.shadow d.record, purpose := .dumpRec d.record }

/-- A latched dump whose slot is owned takes its SEQ and slot and writes (R424, R425). -/
def dumpWrite (s : State) : State :=
  setDump { s.pc.dump with phase := .writing, record := 0, outRecs := 0, status := 0, parkPark := false, parkFault := false } s
    |> dumpNext

/-- Latch at `t`, and plan the next T (R420, R421). -/
def dumpTake (t : Nat) (stepped : Bool) (s : State) : State :=
  setDump { s.pc.dump with shadow := latchCounters s, latchT := t, stepped := stepped } s
    |> doIf (s.pc.dump.kind == 0) (dumpPlan t)

/-- The core island runs, so that dumps are not skipped (R422). -/
def dumpRuns (s : State) : Bool := (isl 2 s).st == .run || (isl 2 s).st == .idle

/-- DUMP_HEADER_READ: T - 2 µs of the next periodic dump (R422). A STANDBY block makes none (R486). -/
def dumpHeaderRead (s : State) : State :=
  let d := s.pc.dump
  if d.enable = false then s
  else if duRole s = 2 then dumpPlan d.nextT s
  else if d.phase ≠ .idle ∨ dumpRuns s = false then dumpSkip s |> dumpPlan d.nextT
  else dumpBegin 0 d.nextT s

/-- The header read's data is in, or it failed (R422). -/
def dumpHeaderArrived (owns err : Bool) (s : State) : State :=
  match s.pc.dump.phase with
  | .header => if owns && !err then setDump { s.pc.dump with phase := .latchPending } s else dumpGiveUp err s
  | .steppedHeader => if owns && !err then dumpWrite s else dumpGiveUp err s
  | _ => s

/-- DUMP_LATCH: block time reaches T (R420). A header read that is not resolved by T counts as failed (R422).
(DEDUCED: log entry 75.) -/
def dumpLatch (s : State) : State :=
  match s.pc.dump.phase with
  | .latchPending => dumpTake s.pc.dump.latchT false s |> dumpWrite
  | .header => dumpGiveUp true (endReqs (fun p => p == .dumpHdrRead) s)
  | _ => s

/-- A record write has its response (R424, R426). -/
def dumpRecDone (err : Bool) (s : State) : State :=
  let d := s.pc.dump
  let s1 := endOut d.oid s
  if err then dumpNext (setDump { d with outRecs := 0, status := if d.status = 0 then St.hostWriteError else d.status } s1)
  else dumpNext (setDump { d with outRecs := 0, record := d.record + 1 } s1)

/-- A record's translation ends the dump (R426): DENIED, or a page response with PRS_OK = 0. -/
def dumpRecFail (status : Nat) (s : State) : State :=
  let d := s.pc.dump
  endOut d.oid s |> setDump { d with outRecs := 0, parkFault := false, status := if d.status = 0 then status else d.status }
    |> dumpNext

/-- The header write has its response, or cannot be made (R424, R426). -/
def dumpHdrDone (err : Bool) (s : State) : State :=
  let d := s.pc.dump
  let st := if err && d.status != St.aborted then St.hostWriteError else d.status
  endOut d.oid s
    |> doIf err (setFlag (loc .PC_EVENT) F.PC_EVENT_DUMP_ERR)
    |> doIf (!err && d.status == 0) (bump (cBlk 0))
    |> doIf (d.status != St.aborted) (report d.sillage st 0x0E 0 d.slot 0 none)
    |> dumpFinishNow (if err && d.status == 0 then St.hostWriteError else d.status)
    |> fun t => setDump { t.pc.dump with slot := (d.slot + 1) % 2 ^ d.logSlots, seq := (d.seq + 1) % 2 ^ 32, status := 0 } t
    |> dumpFree

/-- A translation fault parks the dump before its record, which is then no output that a fence waits for (R35, R426). -/
def dumpFaultOn (s : State) : State :=
  let d := s.pc.dump
  if d.phase = .writing ∨ d.phase = .parked then
    endOut d.oid (setDump { d with parkFault := true, phase := .parked } s)
  else s

/-- The page response has come: the record is written, or waits while another cause parks the dump (R426). -/
def dumpFaultOff (s : State) : State :=
  let d := s.pc.dump
  if d.parkFault = false then s
  else if d.parkPark || d.parkPower then
    cancelReqs (fun p => match p with | .dumpRec _ => true | _ => false) s
      |> fun t => setDump { t.pc.dump with parkFault := false, outRecs := 0 } t
  else
    let o := newOut s
    setDump { d with parkFault := false, phase := .writing, oid := o.1 } o.2

/-- A power cause begins or ends (R426). -/
def dumpPower (on : Bool) (s : State) : State :=
  let s1 := setDump { s.pc.dump with parkPower := on } s
  if on = false ∧ s1.pc.dump.phase = .parked then dumpNext s1 else s1

/-- A write of PC_DUMP_CTRL (R426). -/
def writeDumpCtrl (data : Nat) (s : State) : Option State :=
  let d := s.pc.dump
  let live := d.phase = .writing ∨ d.phase = .parked
  let pk (s : State) : Option State :=
    if bit data 31 then
      if live ∧ d.parkPark = false ∧ d.status = 0 then
        some (setDump { s.pc.dump with parkPark := true } s)
      else none
    else some s
  let rs (s : State) : Option State :=
    if bit data 30 then
      if d.parkPark then some (dumpNext (setDump { s.pc.dump with parkPark := false } s)) else none
    else some s
  let cn (s : State) : Option State :=
    if bit data 29 then
      if live ∧ d.status = 0 then
        let s1 := setDump { s.pc.dump with status := St.aborted } s
        let s2 := if d.parkFault then
            cancelReqs (fun p => match p with | .dumpRec _ => true | _ => false) s1
              |> endOut d.oid |> fun t => setDump { t.pc.dump with outRecs := 0, parkFault := false } t
          else s1
        some (dumpNext s2)
      else none
    else some s
  (pk s).bind (fun a => (rs a).bind cn)

/-- Set the next T after a step or a load (R421). A multiple of PERIOD from `first` on that lies less than 2 µs ahead is
passed over: it is skipped and counted (R422). -/
def dumpReplan (first : Nat) (s : State) : State :=
  let d := s.pc.dump
  let per := d.period * 1000 * nsU
  if d.enable = false then s
  else dumpPlan 0 s |> doIf (decide (per ≠ 0 ∧ (first + per - 1) / per * per < s.tb.time + dumpLead)) dumpSkip

/-- A step or a load has moved block time (R421): the next T is set anew; one that was passed causes one stepped latch, or is
skipped where the unit is taken or the core island is out of RUN (R422). (DEDUCED: log entry 75.) -/
def dumpStep (s : State) : State :=
  let d := s.pc.dump
  let now := s.tb.time
  -- the next T of the periodic dumps while another dump holds the unit
  let periodic (t : State) : State :=
    if d.enable && decide (d.nextT ≤ now) then dumpReplan (now + 1) (dumpSkip t) else dumpReplan now t
  -- the stepped latch of the dump that waits for its T
  let latch (t : State) : State :=
    dumpTake now true t |> (if t.pc.dump.kind = 1 then periodic else dumpReplan (now + 1))
  let defer (t : State) : State :=
    let t1 := dumpReplan now t
    setDump { t1.pc.dump with latchT := t1.pc.dump.nextT } t1
  if duRole s = 2 then dumpPlan 0 s else
  match d.phase with
  | .latchPending =>
    if d.latchT ≤ now then dumpWrite (latch s) else if d.kind = 0 then defer s else periodic s
  | .header =>
    if d.latchT ≤ now then
      let s1 := latch s
      setDump { s1.pc.dump with phase := .steppedHeader } s1
    else if d.kind = 0 then defer s
    else periodic s
  | .idle =>
    if d.enable && decide (d.nextT ≤ now) && dumpRuns s then
      let s1 := latch (setDump { d with kind := 0 } s)
      dumpReadHeader (setDump { s1.pc.dump with phase := .steppedHeader } s1)
    else periodic s
  | _ => periodic s

/-- STATE of PC_DUMP_STATE. -/
def DumpPhase.code : DumpPhase → Nat
  | .idle => 0
  | .header => 0
  | .latchPending => 1
  | .steppedHeader => 1
  | .writing => 2
  | .parked => 3
  | .closing => 2

/-- A read of PC_DUMP_STATE. -/
def readDumpState (s : State) : Nat :=
  let d := s.pc.dump
  d.phase.code * 2 ^ 29 + d.record * 2 ^ 16 + d.slot % 2 ^ 16

/-- DUMP_NOW (R311, R421, R498). -/
def dumpNow (p k : Nat) (s : State) : State :=
  if s.pc.dump.named = false then finishCmd p k St.adminNotFound 0 0 s
  else dumpNextNow (setDump { s.pc.dump with waiting := s.pc.dump.waiting ++ [(p, k)] } s)

/-- A DUMP_CFG whose parameters are good (R311): it applies after any dump in progress. -/
def dumpCfg (c : Bool × Nat × Nat × Nat × Nat × Nat) (s : State) : State :=
  if s.pc.dump.phase = .idle then dumpApply c s else setDump { s.pc.dump with newCfg := some c } s

/-! ## Adjustments of block time (R407, R408, R410) -/

/-- A slew is in progress. -/
def slewing (s : State) : Bool := fb (loc .TB_ADJ) F.TB_ADJ_BUSY s

/-- A write of TB_PHASE (R408): a step takes effect, or a slew starts. -/
def writePhase (data : Nat) (s : State) : Option State :=
  if slewing s then none
  else
    let n : Int := s32 data * 2 ^ 40
    if fg (loc .TB_ADJ) F.TB_ADJ_MODE s = 1 ∧ n ≠ 0 then
      some (fs (loc .TB_ADJ) F.TB_ADJ_BUSY 1 { s with tb := { s.tb with slew := n * tickDen } })
    else
      let s1 := setFlag (loc .TB_EVENT) F.TB_EVENT_ADJ_DONE { s with tb := { s.tb with time := moveTime s.tb.time n } }
      some (if n = 0 then s1 else dumpStep s1)

/-- A write of TB_ADJ (R408). -/
def writeAdj (data : Nat) (s : State) : Option State :=
  if slewing s then none else some (plainWrite .TB_ADJ (loc .TB_ADJ) data s)

/-- SLEW_DONE: the slew has absorbed its amount, tick by tick (R408, R409). -/
def slewDone (s : State) : State :=
  if slewing s && s.tb.slew == 0 then
    fs (loc .TB_ADJ) F.TB_ADJ_BUSY 0 s
      |> setFlag (loc .TB_EVENT) F.TB_EVENT_ADJ_DONE
  else s

/-- PPS_IN_EDGE (R410). (DEDUCED: log entry 74.) -/
def ppsIn (s : State) : State :=
  let s1 := putTime .TB_PPS_CAP (time96 s.tb.time) s |> setFlag (loc .TB_EVENT) F.TB_EVENT_PPS_IN
  if fb (loc .TB_CFG) F.TB_CFG_TOD_ARM s then
    { s1 with tb := { s1.tb with time := fromTime96 s1.tb.tod } }
      |> fs (loc .TB_CFG) F.TB_CFG_TOD_ARM 0
      |> setFlag (loc .TB_EVENT) F.TB_EVENT_TOD_LOADED
      |> dumpStep
  else s1

/-- TB_TOD_CLK_EDGE: one bit of the 96 is shifted in, the most significant first (R77). (DEDUCED: log entry 74.) -/
def todShift (b : Bool) (s : State) : State :=
  let v := (s.tb.tod * 2 + b2n b) % 2 ^ 96
  putTime .TB_TOD_STAGE v { s with tb := { s.tb with tod := v } }

/-- PPS_OUT_PULSE: block time reaches a whole second (R77, R387). -/
def ppsOut (s : State) : State :=
  let on := fb (loc .TB_CFG) F.TB_CFG_PPS_OUT_EN s
  privEdge 4 { s with pins := { s.pins with ppsOut := s.pins.ppsOut || on } }

/-- PPS_OUT_FALL (R77). -/
def ppsFall (s : State) : State := { s with pins := { s.pins with ppsOut := false } }

/-- REF_PHASE_SAMPLE: `v` is the signed offset in 2^-16 ns (R410). (DEDUCED: log entry 74.) -/
def refPhase (v : Nat) (s : State) : State :=
  let r := fg (loc .TB_CFG) F.TB_CFG_REF_SEL s
  if r = 1 ∨ r = 2 then wr (loc .TB_REF_PHASE) v s else s

/-- REF_LOSS (TB_EVENT). -/
def refLoss (s : State) : State :=
  if fg (loc .TB_CFG) F.TB_CFG_REF_SEL s = 0 then s else setFlag (loc .TB_EVENT) F.TB_EVENT_REF_LOSS s

/-- PPS_MISSING (TB_EVENT). -/
def ppsMissing (s : State) : State :=
  if fb (loc .TB_CFG) F.TB_CFG_TOD_ARM s then setFlag (loc .TB_EVENT) F.TB_EVENT_PPS_MISSING s else s

/-- A read of TB_TIME0 snapshots block time (R412); the other two words return the snapshot. -/
def readTime (i : Nat) (s : State) : Nat × State :=
  let s1 := if i = 0 then { s with tb := { s.tb with snap := time96 s.tb.time } } else s
  ((timeWords s1.tb.snap).getD i 0, s1)

/-! ## Counter modes and reads (R414, R419, R428) -/

/-- A counter marked E/L (R417, R418). -/
def isEL (i : Nat) : Bool :=
  if i < 0x1000 then
    let o := i % 64
    (decide (7 ≤ o) && decide (o ≤ 15)) || (decide (48 ≤ o) && decide (o ≤ 56))
  else if 0x3000 ≤ i ∧ i < 0x3090 then decide (2 ≤ i % 8) && decide (i % 8 ≤ 4)
  else if 0x3100 ≤ i ∧ i < 0x3200 then
    let o := i % 16
    o == 3 || o == 6 || (decide (9 ≤ o) && decide (o ≤ 12))
  else i == 0x3348

/-- LEVEL_INTERVAL_END: level-mode counters whose condition held in the 10 ns that end add 1 (R414). Those whose
condition holds now have it in the interval that begins, too. -/
def levelEnd (s : State) : State :=
  let now := s.pc.level.filter (fun i => s.pc.held.contains i || levelHolds i s)
  forEach now (fun i t => bump i t) { s with pc := { s.pc with held := s.pc.level.filter (fun i => levelHolds i s) } }

/-- A write of PC_SEL (R414): a change of LEVEL sets the counter and its WRAP bit to 0. -/
def writeSel (data : Nat) (s : State) : State :=
  let i := data % 2 ^ 14
  let lv := bit data 31 && isEL i
  let s1 := wr (loc .PC_SEL) (b2n lv * 2 ^ 31 + i) s
  if isEL i ∧ s.pc.level.contains i ≠ lv then
    { s1 with pc := { s1.pc with
        val := sput 0 s1.pc.val i 0, wrap := s1.pc.wrap.filter (· != i),
        held := (if lv && levelHolds i s then [i] else []) ++ s1.pc.held.filter (· != i),
        level := if lv then i :: s1.pc.level else s1.pc.level.filter (· != i) } }
  else s1

/-- Put a word in a master's high-word shadow (R96). -/
def setShadow (m : Master) (v : Nat) (s : State) : State :=
  { s with ctl := { s.ctl with shadow := sput 0 s.ctl.shadow m.code (BitVec.ofNat 32 v) } }

/-- A master's high-word shadow. -/
def getShadow (m : Master) (s : State) : Nat := (sget (0 : W32) s.ctl.shadow m.code).toNat

/-- A counter as 64 bits, WRAP in bit 48. -/
def counterWord (i : Nat) (s : State) : Nat := sget 0 s.pc.val i + b2n (s.pc.wrap.contains i) * 2 ^ 48

/-- A read of PC_VAL_LO (R419): VALUE and WRAP of PC_VAL_HI go to the shadow. -/
def readCounter (m : Master) (s : State) : Nat × State :=
  let v := counterWord (fg (loc .PC_SEL) F.PC_SEL_INDEX s) s
  (v % 2 ^ 32, setShadow m (v / 2 ^ 32) s)

/-- The 64-bit word `w` of function `f`'s counter window (R428). -/
def windowWord (f w : Nat) (s : State) : Nat :=
  match w with
  | 0 => counterWord (cFunc f 0) s
  | 1 => counterWord (cFunc f 1) s
  | 2 => time64 s.tb.time
  | _ => 0

/-- A read of a word of function `f`'s counter window (R428). -/
def readWindow (m : Master) (f off : Nat) (s : State) : Nat × State :=
  if s.pc.cntPerm.contains f = false then
    (0, bump (cBlk 2) s |> wr (loc .PC_WIN_DENY) (off % 2048 * 2 ^ 12 + f)
      |> setFlag (loc .PC_EVENT) F.PC_EVENT_WIN_DENY)
  else if off % 8 / 4 = 1 then (getShadow m s, s)
  else
    let v := windowWord f (off / 8) s
    (v % 2 ^ 32, setShadow m (v / 2 ^ 32) s)

/-- An access to a counter window (R82, R92, R428): writes are refused; the core serves reads, handled by its state as
for the PC page. A window has no header: page PC's PAGE_AUTOWAKE governs its accesses. (DESIGN CHOICE: log entry 23.) -/
def windowAccess (m : Master) (write : Bool) (a : Nat) (s : State) : State :=
  if resetHolds a s then resetAccess m write a s
  else if write || !winRight F.GL_WINACL_CW_RD m s then refuseAddr m write a s
  else match gate m 5 0x80 s with
    | .off => respond m .off write 0 s
    | .stall => stallReq m { write := false, addr := a, data := 0, stalled := true } 5 0x80 s
    | .go =>
      let r := readWindow m ((a - 0x2000000) / 2048 % 4096) (a % 2048) s
      respond m .ok false r.1 r.2

/-! ## Byte-rate windows (R429, R430) -/

def getRate (k : Nat) (s : State) : Rate := sget Rate.reset s.pc.rates k
def setRate (k : Nat) (r : Rate) (s : State) : State := { s with pc := { s.pc with rates := sput Rate.reset s.pc.rates k r } }

/-- RATE_WINDOW_END: the window of a port and direction ends. Where a new W waits for its first multiple, the bytes
before are not reported (R430). -/
def rateEnd (k : Nat) (s : State) : State :=
  let r := getRate k s
  if r.newWindow ≠ 0 then setRate k { r with window := r.newWindow, newWindow := 0, sum := 0 } s
  else setRate k { r with
    last := r.sum % 2 ^ 48, min := min r.min r.sum, max := max r.max r.sum, windows := min 4095 (r.windows + 1), sum := 0 } s

/-- A write of PC_RATE_SEL copies the state of the selected port and direction (R429). -/
def writeRateSel (data : Nat) (s : State) : State :=
  let r := getRate (2 * (data % 64) + data / 64 % 2) s
  wr (loc .PC_RATE_SEL) (data % 128) s
    |> wr (loc .PC_RATE_STATE) (r.windows * 2 ^ 20 + r.window % 2 ^ 20)
    |> wr64 (loc .PC_RATE_LAST) r.last
    |> wr64 (loc .PC_RATE_MIN) r.min
    |> wr64 (loc .PC_RATE_MAX) r.max

/-! ## Commands -/

/-- PPS_IN_EDGE. -/
def execPpsInEdge (s : State) : Host.Outcome State Fault Refusal := done (outOfReset ppsIn s)
/-- PPS_OUT_PULSE. -/
def execPpsOutPulse (s : State) : Host.Outcome State Fault Refusal := done (outOfReset ppsOut s)
/-- PPS_OUT_FALL. -/
def execPpsOutFall (s : State) : Host.Outcome State Fault Refusal := done (ppsFall s)
/-- REF_PHASE_SAMPLE. -/
def execRefPhaseSample (v : Nat) (s : State) : Host.Outcome State Fault Refusal := done (refPhase v s)
/-- REF_LOSS. -/
def execRefLoss (s : State) : Host.Outcome State Fault Refusal := done (refLoss s)
/-- PPS_MISSING. -/
def execPpsMissing (s : State) : Host.Outcome State Fault Refusal := done (ppsMissing s)
/-- TB_TOD_CLK_EDGE. -/
def execTbTodClkEdge (b : Bool) (s : State) : Host.Outcome State Fault Refusal := done (outOfReset (todShift b) s)
/-- TB_FREQ_WRITE (R407): ticks use the register. -/
def execTbFreqWrite (m : Master) (data : W32) (s : State) : Host.Outcome State Fault Refusal :=
  done (ctlWrite m (loc .TB_FREQ) data.toNat (fun t => some (wr (loc .TB_FREQ) data.toNat t)) s)
/-- TB_PHASE_WRITE. -/
def execTbPhaseWrite (m : Master) (data : W32) (s : State) : Host.Outcome State Fault Refusal :=
  done (ctlWrite m (loc .TB_PHASE) data.toNat (writePhase data.toNat) s)
/-- SLEW_DONE. -/
def execSlewDone (s : State) : Host.Outcome State Fault Refusal := done (slewDone s)
/-- TB_TIME_READ. -/
def execTbTimeRead (m : Master) (s : State) : Host.Outcome State Fault Refusal :=
  done (ctlRead m (loc .TB_TIME) (readTime 0) s)
/-- LEVEL_INTERVAL_END. -/
def execLevelIntervalEnd (s : State) : Host.Outcome State Fault Refusal := done (levelEnd s)
/-- PC_SEL_WRITE. -/
def execPcSelWrite (m : Master) (data : W32) (s : State) : Host.Outcome State Fault Refusal :=
  done (ctlWrite m (loc .PC_SEL) data.toNat (fun t => some (writeSel data.toNat t)) s)
/-- COUNTER_READ. -/
def execCounterRead (m : Master) (s : State) : Host.Outcome State Fault Refusal :=
  done (ctlRead m (loc .PC_VAL_LO) (readCounter m) s)
/-- COUNTER_WINDOW_READ. -/
def execCounterWindowRead (m : Master) (f off : Nat) (s : State) : Host.Outcome State Fault Refusal :=
  let a := 0x2000000 + 2048 * (f % 4096) + off % 2048 / 4 * 4
  done (inTurn m (rreq a) (windowAccess m false a) s)
/-- DUMP_HEADER_READ. -/
def execDumpHeaderRead (s : State) : Host.Outcome State Fault Refusal := done (dumpHeaderRead s)
/-- DUMP_LATCH. -/
def execDumpLatch (s : State) : Host.Outcome State Fault Refusal := done (dumpLatch s)
/-- DUMP_PARK: a write of PC_DUMP_CTRL with PARK. -/
def execDumpPark (m : Master) (s : State) : Host.Outcome State Fault Refusal :=
  done (ctlWrite m (loc .PC_DUMP_CTRL) (2 ^ 31) (writeDumpCtrl (2 ^ 31)) s)
/-- DUMP_RESUME: a write of PC_DUMP_CTRL with RESUME. -/
def execDumpResume (m : Master) (s : State) : Host.Outcome State Fault Refusal :=
  done (ctlWrite m (loc .PC_DUMP_CTRL) (2 ^ 30) (writeDumpCtrl (2 ^ 30)) s)
/-- DUMP_CANCEL: a write of PC_DUMP_CTRL with CANCEL. -/
def execDumpCancel (m : Master) (s : State) : Host.Outcome State Fault Refusal :=
  done (ctlWrite m (loc .PC_DUMP_CTRL) (2 ^ 29) (writeDumpCtrl (2 ^ 29)) s)
/-- RATE_WINDOW_END. -/
def execRateWindowEnd (p : Nat) (tx : Bool) (s : State) : Host.Outcome State Fault Refusal :=
  done (outOfReset (rateEnd (2 * (p % 64) + b2n tx)) s)
/-- RATE_SNAPSHOT. -/
def execRateSnapshot (m : Master) (data : W32) (s : State) : Host.Outcome State Fault Refusal :=
  done (ctlWrite m (loc .PC_RATE_SEL) data.toNat (fun t => some (writeRateSel data.toNat t)) s)

end Sys2Proof.Machine
end

