-- ==== Sys2Proof/Machine/Resets.lean ====
section
/-!
DEFINITION. Supplies, resets, straps and board signals (spec/02), the fuses as far as resets use them (R463), and the
application of profiles (R104 to R109, R140, R219).
-/

namespace Sys2Proof.Machine

/-! ## Fuses (R463, R464) -/

/-- Fuse word `w` (byte offset / 4), as the fuse shadow holds it. -/
def fuseWord (w : Nat) (s : State) : Nat := sget 0 s.boot.fuse w

/-- `n` bytes of the fuse shadow from byte `off`, a multiple of 4. -/
def fuseBytes (off n : Nat) (s : State) : Bytes :=
  ((List.range ((n + 3) / 4)).flatMap (fun i => bytesLE 4 (fuseWord (off / 4 + i) s))).take n

/-- Rollback count: consecutive 1 bits of ROLLBACK from bit 0 (R464). -/
def onesFrom : Nat → Nat → Nat
  | 0, _ => 0
  | n + 1, v => if v % 2 = 1 then 1 + onesFrom n (v / 2) else 0
def rollbackFuse (s : State) : Nat := Bytes.toNat (fuseBytes 0xC8 8 s)
def rollback (s : State) : Nat := onesFrom 64 (rollbackFuse s)

/-- REVOKE, and whether digest `k` is programmed. -/
def revoked (s : State) : Nat := fuseWord 0x30 s % 16
def keyDigest (k : Nat) (s : State) : Bytes := fuseBytes (48 * k) 48 s
def programmed (k : Nat) (s : State) : Bool := (keyDigest k s).any (· != 0)

/-- Stored profile `n`, as its fuses hold it. -/
def storedProfile (n : Nat) (s : State) : Bytes := fuseBytes (0x1000 + 0x400 * n) 1024 s

/-- BT_KEYS fields and BT_DEBUG DISABLED that follow the fuses. -/
def showFuses (s : State) : State :=
  s |> fs (loc .BT_KEYS) F.BT_KEYS_ROLLBACK (rollback s)
    |> fs (loc .BT_KEYS) F.BT_KEYS_PROGRAMMED
        ((List.range 4).foldl (fun a k => a + b2n (programmed k s) * 2 ^ k) 0)
    |> fs (loc .BT_KEYS) F.BT_KEYS_REVOKED (revoked s)
    |> fs (loc .BT_DEBUG) F.BT_DEBUG_DISABLED (fuseWord 0x34 s % 2)

/-- Every listed page (R84). -/
def allPages : List Nat := (List.range 256).filter (fun i => (pageOf i).isSome)

/-- A fuse word with the bits of `v` blown beside its own: a fuse never reads 0 again. -/
def blow (m : Smap Nat) (w v : Nat) : Smap Nat := sput 0 m w (sget 0 m w ||| v)

/-- A cold boot shows the step of R44 that it is in (PW_STATE STEP). (DEDUCED: log entry 77.) -/
def bootStep (n : Nat) (s : State) : State :=
  match s.pw.seqs.find? (fun q => q.code == 0xFF && q.wake && q.state == .off) with
  | some q => setSeq { q with step := n } s
  | none => s

/-- FUSE_SHADOW_LOAD: `words` are words of the fuse array that are not 0 (word number, value), beside those that the block has
programmed. The access tables take their fuse defaults, the steward's addresses their reset values, and GL_PROFILE shows which
profiles are valid. (DEDUCED: log entry 82.) -/
def fuseLoad (words : List (Nat × Nat)) (s : State) : State :=
  if s.pins.coldStep ≠ 1 then s
  else
    let f := words.foldl (fun m e => blow m (e.1 % 2048) (e.2 % 2 ^ 32)) s.boot.array
    let s1 := { s with boot := { s.boot with array := f, fuse := f }, pins := { s.pins with coldStep := 3 } }
    let acl := fuseWord 0x3C s1 % 2 ^ 12
    let valid := (List.range 4).foldl (fun a n => a + b2n (profValid (storedProfile n s1) n) * 2 ^ n) 0
    forEach allPages (fun pg t =>
        let v := if pg = 1 then acl else acl / 64
        wr (hdrLoc .PAGE_ACL pg) (3 * 2 ^ 16 + v / 8 % 8 * 2 ^ 8 + v % 8) t) s1
      |> wr64 (loc .BT_SLOT_A) (Bytes.toNat (fuseBytes 0xD8 8 s1) / 4096 * 4096)
      |> wr64 (loc .BT_SLOT_B) (Bytes.toNat (fuseBytes 0xE0 8 s1) / 4096 * 4096)
      |> wr64 (loc .BT_BCB_ADDR) (Bytes.toNat (fuseBytes 0xE8 8 s1) / 64 * 64)
      |> fs (loc .GL_PROFILE) F.GL_PROFILE_VALID valid
      |> showFuses
      |> bootStep 4

/-! ## Forming lanes and groups from a profile (R117, R140) -/

/-- Give physical lane `n` role `r`, carrying logical lane `l` (0x1F: none), and its island the state of the role. -/
def takeRole (n r l : Nat) (s : State) : State :=
  setRole n r s |> setLn F.LN_STATUS_LOGICAL l n |> restIsland (laneIsland n) (roleIsland n r s)

/-- Logical lane that the map puts on a physical lane. -/
def logicalOf (n : Nat) (s : State) : Option Nat := (List.range 18).find? (fun l => physOf l s == n)

/-- Role that a profile gives a physical lane: a lane in SV_RETIRED is RETIRED (R480). -/
def profRole (b : Bytes) (n : Nat) (s : State) : Nat × Nat :=
  if bit (fg (loc .SV_RETIRED) F.SV_RETIRED_RETIRED s) n then (4, 0x1F)
  else match logicalOf n s with
    | none => (0, 0x1F)
    | some l =>
      match laneUse b l with
      | 1 => (2, l)
      | 2 => (3, l)
      | 3 => (1, 0x1F)
      | _ => (0, 0x1F)

/-- Lane `n` takes its role from a profile. -/
def profLaneRole (b : Bytes) (n : Nat) (s : State) : State := let r := profRole b n s; takeRole n r.1 r.2 s

/-- Slots of a group in calendar order (spec/05): by position, then by member. -/
def calSlots (g : Nat) (s : State) : List Nat :=
  (List.range 40).flatMap (fun r => (memIdx g s).map (fun k => 40 * memLane g k s + r))

/-- Give consecutive slots of a list to clients in order: client, count (R140). -/
def dealSlots : List (Nat × Nat) → List Nat → State → State
  | [], _, s => s
  | (c, k) :: cs, sl, s => dealSlots cs (sl.drop k) (forEach (sl.take k) (fun x t => cmPut 0 x c (cmPut 1 x c t)) s)

/-- Member `k` of a group that is formed is physical lane `n`: with what lane `n` was as member `j` before, in `s`, or as a new
member, which trains (R115, R137). -/
def formMember (g k n : Nat) (j : Option Nat) (s t : State) : State :=
  match j with
  | some j => wr (loc .OS_MEMBER g k) (rd (loc .OS_MEMBER g j) s) (setMem g k (getMem g j s) t)
  | none => wr (loc .OS_MEMBER g k) (2 ^ 31 + n * 2 ^ 26 + 2) t |> laneTrainStart n

/-- Form slot group `g` from a profile (R140): members in ascending logical order, clients in ascending port order, both
pages alike, both directions on page A. A lane that was a member and for which `fresh` does not hold keeps its training and its
alignment (R108). A new member has LOF, and sends RDI (R147). -/
def formGroup (b : Bytes) (fresh : Nat → Bool) (g : Nat) (s : State) : State :=
  let ls := groupLanes b g
  let ps := groupPorts b g
  let was (l : Nat) : Option Nat :=
    if fresh l then none else (memIdx g s).find? (fun k => memLane g k s == physOf l s)
  let s1 := forEach (List.range 17) (fun k t => wr (loc .OS_MEMBER g k) 0 (setMem g k Member.reset t)) s
    |> forEach (List.range ls.length) (fun k => formMember g k (physOf (ls.getD k 0) s) (was (ls.getD k 0)) s)
    |> fs (loc .OS_CFG g) F.OS_CFG_ACTIVE (b2n (!ls.isEmpty))
    |> fs (loc .OS_CFG g) F.OS_CFG_MEMBERS ls.length
    |> wr (loc .OS_SW_STATE g) 0
    |> setGrp g Slots.reset
    |> forEach (List.range 63) (fun c t => wr (loc .OS_CLIENT g c) 0 t)
    |> forEach (List.range ps.length) (fun c t => wr (loc .OS_CLIENT g c) (2 ^ 31 + ps.getD c 0 * 2 ^ 24) t)
  let s2 := forEach (grpSlots g s1) (fun x t => cmPut 0 x 0x3F (cmPut 1 x 0x3F t)) s1
    |> dealSlots ((List.range ps.length).map (fun c => (c, portSlots b (ps.getD c 0)))) (calSlots g s1)
  forEach ps (fun p t => setPace p (portSlots b p) t) s2 |> forEach (List.range ls.length) (memUpdate g)

/-- Entry points of a port go to the active bank's entry table (R219). -/
def profEntries (b : Bytes) (p : Nat) (s : State) : State :=
  if portEnabled b p then
    putEntry (activeBank s) (2 * p) (rxEntry b p) s |> putEntry (activeBank s) (2 * p + 1) (txEntry b p)
  else s

/-- The mode bits of a profile (R104): ENGINE_EXT, TABLE_ASSURED and PWR_HELD are shown in registers. -/
def profModes (b : Bytes) (s : State) : State :=
  s |> fs (loc .RE_BUDGET) F.RE_BUDGET_EXTENDED (b2n (profMode b 0))
    |> fs (loc .ST_CFG) F.ST_CFG_ASSURED (b2n (profMode b 1))
    |> fs (loc .PW_CFG) F.PW_CFG_PWR_HELD (b2n (profMode b 3))

/-- Apply a profile to a block whose datapath has just left reset. The null layout is the empty record (R107). -/
def applyProfile (b : Bytes) (s : State) : State :=
  { s with prof := { s.prof with cur := b, next := none } }
    |> profModes b
    |> forEach (List.range 18) (profLaneRole b)
    |> forEach (List.range 16) (formGroup b (fun _ => true))
    |> forEach (List.range 64) (fun p t => profEntries b p t |> setPrate p)
    |> fs (loc .GL_PROFILE) F.GL_PROFILE_LOADING 0

/-- Apply the profile of the last cold reset's straps (R107), and leave datapath reset (R460). -/
def applyStrap (s : State) : State :=
  let n := s.pins.coldProfile
  let b := storedProfile n s
  let ok := profValid b n
  applyProfile (if ok then b else []) s
    |> fs (loc .GL_PROFILE) F.GL_PROFILE_ACTIVE (if ok then n else 7)
    |> doIf (!ok) (alert F.GL_ALERT_PROFILE)
    |> fs (loc .BT_STATUS) F.BT_STATUS_RELEASED 1
    |> fun t => { t with
        pins := { t.pins with datapathUp := true, profileApplied := true, coldStep := max 6 t.pins.coldStep } }
    |> doIf (blockState s == 4) (fun t =>
        let t1 := fs (loc .PW_STATE) F.PW_STATE_BLOCK_STATE 0 t
        match t1.pw.seqs.find? (fun q => q.code == 0xFF) with
        | some q => wakeRecord q (endSeq 0xFF t1)
        | none => t1)

/-- Bank 0 of the program store as the image has loaded it (R219). -/
def keepBank0 (s : State) : State :=
  { s with boot := { s.boot with
      prog := s.dp.store.filter (fun e => decide (e.1 < 4096)), progEntry := s.dp.entry.filter (fun e => decide (e.1 < 128)) } }

/-- The profile may be applied (R460): RELEASE has been written or the time-out has come, or 240 ms have passed since the
block left reset. -/
def releaseDue (s : State) : Bool :=
  s.boot.relTaken || s.boot.relDue || fb (loc .BT_STATUS) F.BT_STATUS_RELEASED s ||
    decide (s.du.leftReset + 240000000 * nsU ≤ s.tb.refill)

/-- PROFILE_APPLY: the strap-selected profile is applied once the verdict has passed, if it is not yet (R107, R460). -/
def profileApply (s : State) : State :=
  if inReset s || !s.pins.verdict || s.pins.profileApplied || !releaseDue s then s else applyStrap (keepBank0 s)

/-! ## LOAD_PROFILE (R108, R109) -/

/-- What R108 compares of a port descriptor apart from its entry points: SPEED, FIRST_LANE and FEC_BYPASS of a plain
port, the group and SLOTS of a client; 0 for a port not in use. -/
def portShape (b : Bytes) (p : Nat) : Nat :=
  if portEnabled b p = false then 0
  else if portSlotted b p then 3 + portGroup b p * 2 ^ 8 + portSlots b p * 2 ^ 16
  else 1 + b2n (portBypass b p) * 4 + portSpeed b p * 2 ^ 4 + portFirst b p * 2 ^ 8

/-- What R108 compares of a lane descriptor: USE and RATE, and GRP_FEC_BYPASS and GROUP of a slotted lane (R105). -/
def laneShape (b : Bytes) (l : Nat) : Nat := if laneUse b l = 2 then profLane b l else profLane b l % 8

/-- A logical lane differs between two profiles. -/
def laneDiffers (o n : Bytes) (l : Nat) : Bool := laneShape o l != laneShape n l

/-- A slotted port of one group in both profiles. -/
def staysClient (o n : Bytes) (p : Nat) : Bool :=
  portEnabled o p && portSlotted o p && portEnabled n p && portSlotted n p && portGroup o p == portGroup n p

/-- A group whose lanes differ is formed anew; the others keep their members. -/
def reforms (o n : Bytes) (g : Nat) : Bool :=
  (groupLanes o g ++ groupLanes n g).any (laneDiffers o n)

/-- The port is a client of a group that is formed anew. -/
def reformed (o n b : Bytes) (p : Nat) : Bool := portEnabled b p && portSlotted b p && reforms o n (portGroup b p)

/-- A LOAD_PROFILE touches a port (R108): its descriptor or its lanes differ, or its slot group is formed anew. -/
def touchesPort (o n : Bytes) (p : Nat) : Bool :=
  portShape o p != portShape n p ||
    (portEnabled o p && !portSlotted o p && (portLanes o p).any (laneDiffers o n)) ||
    reformed o n o p || reformed o n n p

/-- It brings a port down and up again (R108): it touches the port, beyond the slots of a client that stays in its group. -/
def bringsDown (o n : Bytes) (p : Nat) : Bool :=
  touchesPort o n p && !(staysClient o n p && !reformed o n o p)

/-- It touches a logical lane: the lane differs, or the port or the slot group that it serves is touched. -/
def touchesLane (o n : Bytes) (l : Nat) : Bool :=
  laneDiffers o n l || (laneUse o l == 2 && reforms o n (laneGroup o l)) || (laneUse n l == 2 && reforms o n (laneGroup n l)) ||
  (List.range 64).any (fun p => touchesPort o n p &&
    ((portEnabled o p && !portSlotted o p && (portLanes o p).contains l) ||
     (portEnabled n p && !portSlotted n p && (portLanes n p).contains l)))

/-- A LOAD_PROFILE that runs touches the lane or the port (R109). -/
def loadLane (n : Nat) (s : State) : Bool :=
  match s.prof.next with
  | some (o, _, _) => (logicalOf n s).any (touchesLane o s.prof.cur)
  | none => false
def loadPort (n : Nat) (s : State) : Bool :=
  match s.prof.next with
  | some (o, _, _) => touchesPort o s.prof.cur n
  | none => false

/-- The lowest client number of a group that is not in use. -/
def freeClient (g : Nat) (s : State) : Option Nat :=
  (List.range 63).find? (fun c => !fb (loc .OS_CLIENT g c) F.OS_CLIENT_VALID s)

/-- New clients of a group that keeps its members take client numbers. -/
def addClient (o n : Bytes) (g p : Nat) (s : State) : State :=
  if staysClient o n p then s
  else match freeClient g s with
    | some c => wr (loc .OS_CLIENT g c) (2 ^ 31 + p * 2 ^ 24) s
    | none => s

/-- Slots that a LOAD_PROFILE gives a client port. -/
def wantSlots (n : Bytes) (g p : Nat) : Nat :=
  if portEnabled n p && portSlotted n p && portGroup n p == g then portSlots n p else 0

/-- Clients of a group whose slots a LOAD_PROFILE changes: client, and slots wanted. -/
def slotChanges (o n : Bytes) (g : Nat) (s : State) : List (Nat × Nat) :=
  (List.range 64).filterMap (fun p =>
    if portShape o p = portShape n p then none
    else (clientOf g p s).map (fun c => (c, wantSlots n g p)))

/-- Change one client's slots in a page: freed from its last slots, or taken from the first that are unassigned. -/
def resizeClient (g pg : Nat) (e : Nat × Nat) (s : State) : State :=
  let mine := (calSlots g s).filter (fun x => cmGet pg x s == e.1)
  if e.2 < mine.length then forEach (mine.drop e.2) (fun x t => cmPut pg x 0x3F t) s
  else
    let open_ := (calSlots g s).filter (fun x => cmGet pg x s == 0x3F)
    forEach (open_.take (e.2 - mine.length)) (fun x t => cmPut pg x e.1 t) s

/-- Every change of a group's slots has been committed. -/
def groupSettled (o n : Bytes) (g : Nat) (s : State) : Bool :=
  swState g s == 0 && (slotChanges o n g s).all (fun e => clientSlots g e.1 (txPage g s) s == e.2)

/-- Prepare the standby page of a group, and start the switch (R108); where one runs, the load waits for it. (DEDUCED:
log entry 63.) -/
def loadSwitch (o n : Bytes) (g : Nat) (s : State) : State :=
  if groupSettled o n g s ∨ swState g s ≠ 0 ∨ txPage g s ≠ rxPage g s then s
  else
    let s1 := cmCopy g (txPage g s) s
    let cs := slotChanges o n g s1
    let pg := 1 - txPage g s1
    -- what is freed first can be taken by a client that grows
    let shrink := cs.filter (fun e => decide (e.2 < clientSlots g e.1 pg s1))
    let grow := cs.filter (fun e => decide (clientSlots g e.1 pg s1 ≤ e.2))
    let s2 := forEach (shrink ++ grow) (resizeClient g pg) s1
    (switchStart g .profile s2).getD s2

/-- Start a LOAD_PROFILE of valid profile `n` (R108). A port whose entry points differ, and one that is brought down and up
again, takes those of the profile. (DEDUCED: log entry 63.) -/
def loadStart (n : Bytes) (p k : Nat) (s : State) : State :=
  let o := s.prof.cur
  let down := (plainPorts o).filter (touchesPort o n)
  let lanes := (List.range 18).filter (fun l => laneDiffers o n l)
  let s1 := forEach down (fun q t => portDisable q t) s
  let s2 := { s1 with prof := { cur := n, next := some (o, p, k) } }
    |> fs (loc .GL_PROFILE) F.GL_PROFILE_LOADING 1
    |> profModes n
    |> forEach lanes (fun l t => profLaneRole n (physOf l t) t)
    |> forEach (plainPorts n) (fun q t => doIf (touchesPort o n q) (fun t => setPcs q 0 t) t)
  let s3 := forEach (List.range 16) (fun g t =>
    if reforms o n g then formGroup n (laneDiffers o n) g t
    else loadSwitch o n g (forEach (groupPorts n g) (addClient o n g) t)) s2
  let fresh (q : Nat) : Bool := bringsDown o n q || rxEntry o q != rxEntry n q || txEntry o q != txEntry n q
  forEach (List.range 64) (fun q t => doIf (fresh q) (profEntries n q) t |> setPrate q) s3 |> linkCheckAll

/-- LOAD_PROFILE_DONE: when every change has been applied, LOADING falls and the command completes (R109). A
connection-page switch that failed is started again. (DEDUCED: log entry 63.) -/
def loadDone (s : State) : State :=
  match s.prof.next with
  | none => s
  | some (o, p, k) =>
    let n := s.prof.cur
    let gs := (List.range 16).filter (fun g => !reforms o n g)
    if gs.all (fun g => groupSettled o n g s) then
      let s1 := forEach gs (fun g t => forEach (List.range 64) (fun q t =>
        if portShape o q = portShape n q ∨ wantSlots n g q ≠ 0 then t
        else match clientOf g q t with
          | some c => wr (loc .OS_CLIENT g c) 0 t
          | none => t) t) s
      { s1 with prof := { s1.prof with next := none } }
        |> fs (loc .GL_PROFILE) F.GL_PROFILE_LOADING 0
        |> fs (loc .GL_PROFILE) F.GL_PROFILE_ACTIVE (u n 2 1)
        |> finishCmd p k St.ok 0 0
    else forEach gs (loadSwitch o n) s

/-! ## Reset of the datapath (R46, R47) -/

/-- A register that a warm reset keeps: the pages of AON and of the steward, the always-on registers of the EV page
(R503), every header register beside PAGE_ACCESS, TB_FREQ and TB_ADJ (R411), HP_CHMAP and the engine substitutions
(spec/18). (DEDUCED: log entry 17.) -/
def keepWarm (a : Nat) : Bool :=
  let pg := a / 4096
  let off := a % 4096
  if off < 0x40 then true
  else if pageIsland pg < 2 then true
  else if pg = 3 then servedBy pg off == 0
  else if pg = 4 then a == loc .TB_FREQ || a == loc .TB_ADJ
  else if pg = 0xE0 then true
  else if 0x80 ≤ pg ∧ pg < 0x98 then off == 0x80
  else pg == 0xE8 && a == loc .TR_CFG

/-- What a warm reset keeps of a kept word: of TR_CFG only BYPASS (R339), of RE_CL_STATUS only the engines in service, of
TB_ADJ everything. -/
def warmWord (a : Nat) (v : W32) : W32 :=
  if a = loc .TR_CFG then BitVec.ofNat 32 (putBits (resetWord a).toNat F.TR_CFG_BYPASS (bits v.toNat F.TR_CFG_BYPASS.hi F.TR_CFG_BYPASS.lo))
  else v

/-- Registers after a warm reset. (DEDUCED: log entry 17.) -/
def warmRegs (r : Smap W32) : Smap W32 :=
  (r.filter (fun e => keepWarm e.1)).foldl (fun m e => rput m e.1 (warmWord e.1 e.2)) []

/-- A steward access survives a warm reset: one that is issued still has its answer, so that no byte of a load is read twice
and no boot control block written twice (R452, R456); every other access ends. (DEDUCED: log entry 17.) -/
def warmReqs (rs : List Req) : List Req :=
  (rs.filter (·.phys)).map (fun r => if r.isOut then r else { r with phase := .fresh })

/-- Semaphores after a warm reset: those held by the steward stay (R102). -/
def warmSems (s : State) : State :=
  forEach (List.range 64) (fun i t =>
    let a := loc .GL_SEM 0 i
    if fb a F.GL_SEM_HELD t = true ∧ fg a F.GL_SEM_MASTER t ≠ 2 then wr a 0 t else t) s

/-- DU_STATUS takes the strapped role (R485, R483). -/
def showRole (s : State) : State :=
  let d := fg (loc .GL_STRAP) F.GL_STRAP_DUO_ROLE s
  let r := if d = 3 then 0 else d
  wr (loc .DU_STATUS) (r * 2 ^ 30 + b2n (r == 2) * 2 ^ 27) s

/-- Islands of the digital datapath. -/
def digitalIslands : List Nat := [2, 3, 4, 5] ++ (List.range 8).map (0x30 + ·) ++ (List.range 4).map (0x40 + ·)

/-- The scheduler's ports at a reset: every projected end at the refill clock's time (R358). -/
def portsAt (t : Nat) : Smap ScPort := if t = 0 then [] else (List.range 64).map (fun p => (p, { ScPort.reset with pe := t }))

/-- The datapath is reset: every queue, frame, table entry and counter is gone (R47, R413, R500, R503). The steward runs: a block
state is left (R46), but for OFF and the cold boot that leaves it, in which nothing is there to be reset. The ring of the last
DUMP_CFG stays named (R498). (DEDUCED: log entry 17.) -/
def resetDatapath (s : State) : State :=
  let s1 := { s with
    regs := warmRegs s.regs
    host := { HostSt.reset with
      nextId := s.host.nextId, reqs := warmReqs s.host.reqs, invDone := s.host.invDone, bypassFixed := s.host.bypassFixed }
    ev := { EvSt.reset with warmHold := true }
    pc := { Pc.reset with dump := { Dump.reset with
      named := s.pc.dump.named, base := s.pc.dump.base, logSlots := s.pc.dump.logSlots, sillage := s.pc.dump.sillage,
      func := s.pc.dump.func, seq := s.pc.dump.seq, slot := s.pc.dump.slot } }
    wq := { Wq.reset with nextExec := s.wq.nextExec, nextFence := s.wq.nextFence, nextOut := s.wq.nextOut }
    adm := [], te := [], prof := Prof.reset
    phy := { Phy.reset with lmap := s.phy.lmap }
    os := Os.reset
    dp := { Dp.reset with nextFrame := s.dp.nextFrame, out := s.dp.out }
    sc := { Sc.reset with ports := portsAt s.tb.refill }
    pw := { PwSt.reset with seqs := s.pw.seqs.filter (fun q => q.code == 0xFF && blockState s == 4) }
    sv := { s.sv with hmp := none, hmpChan := none, hmpKept := [], engActs := [] }
    du := { Du.reset with sent := s.du.sent, creditsOut := s.du.creditsOut, credits := s.du.credits } }
  tableWarmReset s1
    |> forEach (List.range 24) (fun c t => fs (loc .RE_CL_STATUS c) F.RE_CL_STATUS_DISABLED 0 t)
    |> doIf (blockState s != 4) (fun t => fs (loc .PW_STATE) F.PW_STATE_CHANGING 0 t
        |> fs (loc .PW_STATE) F.PW_STATE_PHASE 0
        |> fs (loc .PW_STATE) F.PW_STATE_STEP 0
        |> fs (loc .PW_STATE) F.PW_STATE_BLOCK_STATE 0
        |> putIslands [1] .run)
    |> showRole

/-- WARM_RESET_ASSERT (R46, R47, R102). (DESIGN CHOICE: log entry 16.) -/
def warmAssert (s : State) : State :=
  if s.pins.warmN = false then s
  else if coldHeld s then { s with pins := { s.pins with warmN := false } }
  else
    let s1 := resetDatapath s |> warmSems
    { s1 with pins := { s1.pins with warmN := false, profileApplied := false, datapathUp := false } }

/-- The steward's program goes into bank 0, which becomes active (R219, R460). -/
def loadBank0 (s : State) : State :=
  { s with dp := { s.dp with store := s.boot.prog, entry := s.boot.progEntry } }
    |> fs (loc .RE_PS_CTRL) F.RE_PS_CTRL_ACTIVE 0
    |> fs (loc .RE_PS_CTRL) F.RE_PS_CTRL_DRAINED 1

/-- WARM_RESET_RELEASE (R47, R460): bank 0 is reloaded and the profile of the last cold reset is applied. -/
def warmRelease (s : State) : State :=
  let s1 := { s with pins := { s.pins with warmN := true }, du := { s.du with leftReset := s.tb.refill } }
  if s.pins.warmN = true ∨ coldHeld s = true ∨ s.pins.verdict = false then s1
  else putIslands digitalIslands .run s1 |> loadBank0 |> applyStrap

/-! ## Cold reset and supplies (R41, R42, R44, R49) -/

/-- Answer every accepted control request with OFF (R42, R54): the spec does not say what becomes of them. (DESIGN
CHOICE: log entry 13.) -/
def flushRequests (s : State) : State :=
  forEach [Master.cpa, .cpb, .stw, .dbg] (fun m t =>
    setCtlQueue m [] (forEach (ctlQueue m t) (fun r t => respond m .off r.write 0 t) t)) s

/-- Every register and every piece of state takes its reset value; what comes from outside (the levels of input pins, the
commands waiting) and the record of what the block has put out stay. -/
def coldClear (s0 : State) : State :=
  let s := flushRequests s0
  let s1 : State := { State.reset with
    free := s.free, pending := s.pending
    pins := { Pins.reset with
      rstN := s.pins.rstN, warmN := s.pins.warmN, refclk := s.pins.refclk, collapsed := s.pins.collapsed,
      targetIdle := s.pins.targetIdle }
    ctl := { Ctl.reset with rsp := s.ctl.rsp }
    dp := { Dp.reset with out := s.dp.out }
    host := { HostSt.reset with nextId := s.host.nextId }
    boot := { Boot.reset with array := s.boot.array }
    du := { Du.reset with sent := s.du.sent, creditsOut := s.du.creditsOut } }
  let d := drawSeeds s1
  wr (loc .ST_SEED_CUR 0 0) d.1.1 d.2 |> wr (loc .ST_SEED_CUR 0 1) d.1.2

/-- COLD_RESET_ASSERT. (DEDUCED: log entry 13.) -/
def coldAssert (s : State) : State :=
  if s.pins.rstN = false then s else coldClear { s with pins := { s.pins with rstN := false } }

/-- AON runs with the straps latched: step 1 of R44. (DEDUCED: log entry 13.) -/
def coldBegin (prof duo : Nat) (s : State) : State :=
  let s1 := { s with pins := { s.pins with coldStep := 1, coldProfile := prof % 4 }, du := { s.du with leftReset := s.tb.refill } }
  putIslands [0] .run s1
    |> fs (loc .GL_STRAP) F.GL_STRAP_PROFILE_SEL (prof % 4)
    |> fs (loc .GL_STRAP) F.GL_STRAP_DUO_ROLE (duo % 4)
    |> doIf (duo % 4 == 3) (alert F.GL_ALERT_STRAP)
    |> showRole

/-- COLD_RESET_RELEASE: RST_N rises and the straps are latched (R44, R49). (DEDUCED: log entry 13.) -/
def coldRelease (prof duo : Nat) (s : State) : State :=
  if s.pins.rstN then s
  else
    let s1 := { s with pins := { s.pins with rstN := true } }
    if s.pins.collapsed then s1 else coldBegin prof duo s1

/-- SUPPLY_WARNING (R41). -/
def supplyWarning (s : State) : State :=
  if coldHeld s then s else privEdge 7 s |> alert F.GL_ALERT_PWR_WARN

/-- SUPPLY_COLLAPSE: every output takes its reset value (R41). The straps latched before it stay, since RST_N does not rise
again. -/
def supplyCollapse (s : State) : State :=
  if s.pins.collapsed then s
  else
    let p := s.pins.coldProfile
    let g := rd (loc .GL_STRAP) s
    let s1 := coldClear { s with pins := { s.pins with collapsed := true } }
    { s1 with pins := { s1.pins with coldProfile := p } }
      |> fs (loc .GL_STRAP) F.GL_STRAP_PROFILE_SEL (bits g 1 0)
      |> fs (loc .GL_STRAP) F.GL_STRAP_DUO_ROLE (bits g 5 4)

/-- SUPPLY_RECOVER: the block behaves as after a cold reset (R41). -/
def supplyRecover (s : State) : State :=
  if s.pins.collapsed = false then s
  else
    let s1 := { s with pins := { s.pins with collapsed := false } }
    if s.pins.rstN then coldBegin s.pins.coldProfile (fg (loc .GL_STRAP) F.GL_STRAP_DUO_ROLE s) s1 else s1

/-- REFCLK_LOSS and REFCLK_RETURN (R39). While REFCLK is absent every island but AON, the steward and the host memory ports is
without a clock, and the lanes lose their locks at once. (DEDUCED: log entry 14.) -/
def setRefclk (on : Bool) (s : State) : State :=
  let s1 := { s with pins := { s.pins with refclk := on } }
  if on || !s.pins.refclk || inReset s then s1 else lanesUnclocked s1

/-! ## Board signals -/

/-- PRESENCE_DEBOUNCED (R51): `level` is the level held for 10 ms. (DESIGN CHOICE: log entry 16.) -/
def presenceChange (level : Bool) (s : State) : State :=
  if coldHeld s then s
  else
    doIf (level && !presence s) (privEdge 0) (fs (loc .GL_STRAP) F.GL_STRAP_PRESENCE (b2n level) s)

/-- What IDCODE reads (R81), in the layout of IEEE 1149.1: version, part number, manufacturer, 1. (DEDUCED: log entry
83.) -/
def idcode (s : State) : Nat := 4 * 2 ^ 28 + 0x3216 * 2 ^ 12 + bits (fuseWord 0x3C s) 26 16 * 2 + 1

/-- TAP_INSTRUCTION (R81): `code` is 0 BYPASS, 1 IDCODE, 2 SAMPLE/PRELOAD, 3 EXTEST, any other number another
instruction, which behaves as BYPASS until debug unlock. IDCODE puts its value at the port. (DEDUCED: log entry 83.) -/
def tapInstruction (code : Nat) (s : State) : State :=
  let ok := decide (code ≤ 3) || fb (loc .BT_DEBUG) F.BT_DEBUG_UNLOCKED s
  { s with pins := { s.pins with
      tapIr := code, tapBypass := code == 0 || !ok, tapId := if code = 1 then some (idcode s) else none } }

/-- TAP_RESET: the test access port alone is reset; the instruction it then holds is BYPASS. (DESIGN CHOICE: log entry
83.) -/
def tapReset (s : State) : State := { s with pins := { s.pins with tapIr := 0, tapBypass := true, tapId := none } }

/-! ## Commands -/

/-- SUPPLY_WARNING. -/
def execSupplyWarning (s : State) : Host.Outcome State Fault Refusal := done (supplyWarning s)
/-- SUPPLY_COLLAPSE. -/
def execSupplyCollapse (s : State) : Host.Outcome State Fault Refusal := done (supplyCollapse s)
/-- SUPPLY_RECOVER. -/
def execSupplyRecover (s : State) : Host.Outcome State Fault Refusal := done (supplyRecover s)
/-- COLD_RESET_ASSERT. -/
def execColdResetAssert (s : State) : Host.Outcome State Fault Refusal := done (coldAssert s)
/-- COLD_RESET_RELEASE: `prof` and `duo` are the levels of PROFILE_SEL and DUO_ROLE. -/
def execColdResetRelease (prof duo : Nat) (s : State) : Host.Outcome State Fault Refusal := done (coldRelease prof duo s)
/-- FUSE_SHADOW_LOAD. -/
def execFuseShadowLoad (words : List (Nat × Nat)) (s : State) : Host.Outcome State Fault Refusal := done (fuseLoad words s)
/-- WARM_RESET_ASSERT. -/
def execWarmResetAssert (s : State) : Host.Outcome State Fault Refusal := done (warmAssert s)
/-- WARM_RESET_RELEASE. -/
def execWarmResetRelease (s : State) : Host.Outcome State Fault Refusal := done (warmRelease s)
/-- PROFILE_APPLY. -/
def execProfileApply (s : State) : Host.Outcome State Fault Refusal := done (profileApply s)
/-- PRESENCE_DEBOUNCED. -/
def execPresenceDebounced (level : Bool) (s : State) : Host.Outcome State Fault Refusal := done (presenceChange level s)
/-- TAP_INSTRUCTION. -/
def execTapInstruction (code : Nat) (s : State) : Host.Outcome State Fault Refusal := done (tapInstruction code s)
/-- TAP_RESET. -/
def execTapReset (s : State) : Host.Outcome State Fault Refusal := done (tapReset s)
/-- REFCLK_LOSS. -/
def execRefclkLoss (s : State) : Host.Outcome State Fault Refusal := done (setRefclk false s)
/-- LOAD_PROFILE_DONE. -/
def execLoadProfileDone (s : State) : Host.Outcome State Fault Refusal := done (loadDone s)

end Sys2Proof.Machine
end

