-- ==== Sys2Proof/Machine/Power.lean ====
section
/-!
DEFINITION. Power states and islands (spec/16): IDLE, the entry and wake sequences of the block and of islands that change
alone, wake sources, the last-wake record, what DEEP and OFF lose, and the PW registers.

An island is named by its PAGE_PWR code; 0xFF is the block. Entry phases and wake steps end by commands of their own.
-/

namespace Sys2Proof.Machine

/-- Code of the block in PWR_REQ and in the commands of sequences. -/
def wholeBlock : Nat := 0xFF



/-- The digital islands, which enter IDLE (R432, R434). -/
def idlesIsl (c : Nat) : Bool := decide (1 ≤ c ∧ c ≤ 5) || isGroupIsl c || isHmpIsl c


/-- The sequence of a code, and the sequence that holds an island. -/
def seqOf (c : Nat) (s : State) : Option PSeq := s.pw.seqs.find? (fun q => q.code == c)
def seqWith (c : Nat) (s : State) : Option PSeq := s.pw.seqs.find? (fun q => q.members.contains c)

/-! ## IDLE (R434) -/

/-- Access of a queue-context structure: its channels' entries, completions, event records and their scans. -/
def ofQueues (p : Purpose) : Bool :=
  match p with
  | .sqEntry _ _ | .sqFinal _ _ | .sqTable _ _ | .txData _ _ | .rxData _ _ | .completion _ _ | .release _ | .cqScan _ _
  | .cqArm _ _ | .silScan _ _ | .silArm _ _ | .silRec _ _ _ _ => true
  | _ => false

/-- A lane sends items to the port group of port `p`: a lane of the port, or of its slot group, holds its receive clock. -/
def feeds (p : Nat) (s : State) : Bool :=
  let lit (n : Nat) : Bool := fb (loc .LN_STATUS n) F.LN_STATUS_CDR_LOCK s
  if isPlain p s then (portPhys p s).any lit
  else isClient p s && (let g := portGroup s.prof.cur p; (memIdx g s).any (fun k => lit (memLane g k s)))

/-- No operation of the core island runs: no frame, context, transfer, admin command, dump, window or substitution of an
engine. -/
def coreQuiet (s : State) : Bool :=
  s.dp.frames.isEmpty && s.dp.ctxs.isEmpty && s.dp.subst.isEmpty && s.dp.progCmd.isNone && s.prof.next.isNone &&
    s.host.reqs.all (fun r => r.phys || ofQueues r.purpose) && s.host.xreqs.isEmpty && s.host.preqs.isEmpty &&
    s.adm.all (fun e => e.2.cmds.isEmpty && !e.2.scanning && !e.2.cqScan) &&
    s.te.all (fun e => e.2.phase == .none && !e.2.scanning && e.2.cache.isEmpty) &&
    s.pc.dump.phase == .idle && s.ev.windows.isEmpty && s.ev.nfp.isEmpty && s.ev.rebinds.isEmpty

/-- No operation of the queue-context island runs: no execution, scan, waiting completion or access of one. -/
def queuesQuiet (s : State) : Bool :=
  s.wq.execs.isEmpty && s.host.reqs.all (fun r => r.phys || !ofQueues r.purpose) &&
    s.wq.sqs.all (fun e => !e.2.scanning && !e.2.refetch && e.2.state != .resetting && e.2.state != .destroying) &&
    s.wq.cqs.all (fun e => !e.2.scan && e.2.backlog.isEmpty) && s.ev.sils.all (fun e => !e.2.scan && e.2.outRecs == 0)

/-- No operation of the table island runs: no lookup, change, learn request, ageing or rehash step, window command. -/
def tableQuiet (s : State) : Bool :=
  s.tab.learnQ.isEmpty && s.tab.offered.isEmpty && s.tab.changes.isEmpty && s.tab.ageDue == 0 && s.tab.acking.isNone &&
    s.tab.stuck.isNone && rhState s != 1 && s.tab.win.all (fun e => e.2.busy.isNone) && s.dp.ctxs.all (fun c => c.pend.isEmpty)

/-- No crossing into the island holds an item, no operation of it runs, and no control access to it is pending (R434). (DEDUCED:
log entry 76.) -/
def quiet (c : Nat) (s : State) : Bool :=
  s.pw.held.isEmpty && s.sv.repairs.all (fun r => r.isl != c) &&
    s.ctl.queue.all (fun e => e.2.all (fun r => reqIsland r != c)) &&
    (if c = 1 then s.boot.phase == .idle && !s.boot.restart && s.host.reqs.all (fun r => !r.phys)
     else if c = 2 then coreQuiet s
     else if c = 3 then s.dp.frames.all (fun f => f.cells == 0)
     else if c = 4 then queuesQuiet s
     else if c = 5 then tableQuiet s
     else if isGroupIsl c then (List.range 64).all (fun p => portIsland p != c || !feeds p s)
     else s.host.reqs.all (fun r => match r.phase with
       | .out p _ _ => p + 0x40 != c
       | _ => true))

/-- IDLE_ENTRY (R434): a digital island that is quiet enters IDLE, but not under PWR_HELD, or while it changes state. -/
def idleEntry (c : Nat) (s : State) : State :=
  let i := isl c s
  if idlesIsl c = true ∧ i.st = .run ∧ i.entering = false ∧ i.waking = false ∧ fb (loc .PW_CFG) F.PW_CFG_PWR_HELD s = false ∧
      quiet c s = true
  then setIsl c { i with st := .idle } s else s

/-- Each queue whose doorbell was recorded scans once (R438); a STANDBY block keeps them (R486). (DEDUCED: log entry 78.) -/
def ringBells (s : State) : State :=
  let bs := s.pw.bells
  if duRole s = 2 then s
  else forEach bs (fun b t =>
    match handleQueue b.1 b.2 t with
    | some _ => ringQueue b.1 b.2 t
    | none => doorbellDrop b.1 (b.1 * 512 + b.2) St.badHandle t) { s with pw := { s.pw with bells := [] } }

/-- IDLE_EXIT: the items that waited at the island's crossings pass, doorbells among them (R21). -/
def idleExit (c : Nat) (s : State) : State :=
  let i := isl c s
  if i.st = .idle then setIsl c { i with st := .run } s |> doIf (c == 4) ringBells else s

/-! ## Operations that park while their islands are down (R31) -/

/-- The substitution of a lane. -/
def substOf (fr : Nat) (s : State) : Option Subst := s.phy.substs.find? (fun x => x.from_ == fr)

/-- Show a substitution in LN_SUBST of its spare. -/
def showSubst (x : Subst) (s : State) : State :=
  wr (loc .LN_SUBST x.spare) (b2n ((x.parked && !x.begun) || x.power) * 2 ^ 31 + x.from_ * 2 ^ 8 + x.step) s

/-- Replace a substitution. -/
def setSubst (x : Subst) (s : State) : State :=
  showSubst x { s with phy := { s.phy with substs := s.phy.substs.map (fun y => if y.from_ = x.from_ then x else y) } }

/-- What starts with the step after the last completed one: step 1 wakes the spare's island, step 2 takes a plain port
down or trains the spare of a slotted lane, step 4 brings the port up or starts the page switch, unless it runs already.
-/
def substBegin (x : Subst) (s0 : State) : State :=
  let s := setSubst { x with begun := true } s0
  match x.step with
  | 0 => setIsl (laneIsland x.spare) { isl (laneIsland x.spare) s with target := .run, waking := true } s
  | 1 => if x.slotted then laneTrainStart x.spare s else portDisable x.port s
  | 3 =>
    if x.slotted = true ∧ swState x.group s ≠ 0 ∧ (getGrp x.group s).why = some .subst then s
    else if x.slotted then
      match switchStart x.group .subst s with
      | some t => t
      | none => setSubst { x with parked := true, begun := false } s
    else portEnable x.port s
  | _ => s

/-- The page switch of step 4 has ended, and whether it committed. -/
def substSwitched (x : Subst) (s : State) : Bool × Bool :=
  (swState x.group s == 0, fg (loc .OS_SW_STATE x.group) F.OS_SW_STATE_LAST_STATUS s == St.ok)

/-- The page switch of step 4 can no longer be parked or cancelled (R154): it is ACKED or COMMITTED, or has committed. -/
def substFixed (x : Subst) (s : State) : Bool :=
  x.slotted && x.step == 3 && x.begun &&
    (swState x.group s == 3 || swState x.group s == 4 || substSwitched x s == (true, true))

/-- Islands in which a page switch runs (R31): the port groups of the group's clients, and its lanes. -/
def switchIslands (g : Nat) (s : State) : List Nat :=
  clientIslands g s ++ (memIdx g s).map (fun k => laneIsland (memLane g k s))

/-- Islands in which a lane substitution runs: its lanes and port groups (R31). -/
def substIslands (x : Subst) (s : State) : List Nat :=
  [laneIsland x.from_] ++ (if x.step = 0 then [] else [laneIsland x.spare]) ++
    (if x.slotted then switchIslands x.group s else if x.port < 64 then [portIsland x.port] else [])

/-- The operations whose islands enter a state without clocks park (R31): a page switch before its commit, and a lane
substitution after its last completed step. (DEDUCED: log entry 76.) -/
def parkOps (s : State) : State :=
  let down (cs : List Nat) (t : State) : Bool := cs.any (fun c => (isl c t).entering)
  let s1 := forEach (List.range 16) (fun g t =>
    if down (switchIslands g t) t then
      match switchPark g t with
      | some u => setGrp g { getGrp g u with power := true } u
      | none => t
    else t) s
  forEach s1.phy.substs (fun x t =>
    if x.power = false ∧ down (substIslands x t) t = true ∧ substFixed x t = false then
      setSubst { x with power := true, begun := false } t
    else t) s1

/-- They go on once their islands are back in RUN, unless software has parked them. -/
def resumeOps (s : State) : State :=
  let back (cs : List Nat) (t : State) : Bool := cs.all (fun c => islUp c t)
  let s1 := forEach (List.range 16) (fun g t =>
    if (getGrp g t).power = true ∧ back (switchIslands g t) t = true then
      let u := setGrp g { getGrp g t with power := false } t
      (switchResume g u).getD u
    else t) s
  forEach s1.phy.substs (fun x t =>
    if x.power = true ∧ back (substIslands x t) t = true then
      let y := { x with power := false }
      let u := setSubst y t
      if y.parked then u else substBegin y u
    else t) s1

/-! ## Members of a sequence (R432, R435) -/

/-- Islands that a block state puts down. -/
def blockMembers (st : PState) (s : State) : List Nat :=
  islandCodes.filter (fun c =>
    if c = 0 then false
    else if c ≤ 5 then true
    else if st = .sleep then
      isRun c s && (!isLaneIsl c || laneRole (c - 0x10) s == 2 || laneRole (c - 0x10) s == 3)
    else (isl c s).st != .off)

/-! ## Sequences (R437, R442) -/

/-- Entry phases of a code for a state. Phase 5 is for DEEP and OFF of the block, phase 2 drains a host memory port.
(DEDUCED: log entry 76.) -/
def entryPhases (c : Nat) (st : PState) : List Nat :=
  if c = wholeBlock then (if st = .sleep then [1, 2, 3, 4, 6, 7] else [1, 2, 3, 4, 5, 6, 7])
  else if isHmpIsl c then [2, 6, 7]
  else if isGroupIsl c then [4, 6, 7]
  else [6, 7]

/-- Wake steps of a code from a state: the steps of the block's table that concern the island. -/
def wakeSteps (c : Nat) (st : PState) : List Nat :=
  if c = wholeBlock then [1, 2, 3, 4, 5, 6]
  else if st = .sleep then
    (if isHmpIsl c then [1, 2, 3, 5] else if isGroupIsl c then [1, 2, 3, 5, 6] else [1, 2, 5, 6])
  else if isLaneIsl c then [1, 2, 3, 5, 6] else [1, 2, 3, 6]

/-- The step after `n` in a list of steps. -/
def nextStep (n : Nat) : List Nat → Option Nat
  | [] => none
  | x :: xs => if x = n then xs.head? else nextStep n xs

/-- A step ends when regulators or PLLs report (R442), and can therefore time out (R443). -/
def stepReports (n : Nat) : Bool := n == 1 || n == 3

/-! ## Entry (R437, R340) -/

/-- Mark islands as entering their states. (DEDUCED: log entry 76.) -/
def markEntering (ms : List (Nat × PState)) (s : State) : State :=
  forEach ms (fun m t => setIsl m.1 { isl m.1 t with target := m.2, entering := true } t) s

/-- A rehash that runs parks for a power-down, but not in its finishing steps (R245, R246). -/
def parkRehash (s : State) : State :=
  if rhState s = 1 ∧ s.tab.finishing = false then rehashPark (setTab { s.tab with powerPark := true } s) else s

/-- Phase 1: POWER holds, and a running dump and a running rehash park. -/
def prepare (s : State) : State := powerHold 2 s |> dumpPower true |> parkRehash

/-- What phase 1 began ends: holds, dump and rehash go on. A rehash that software parked stays parked (R249). -/
def unprepare (s : State) : State :=
  let s1 := dumpPower false s
  let s2 := if s1.tab.powerPark then
      let t := setTab { s1.tab with powerPark := false } s1
      if t.tab.softParked then t else fs (loc .ST_RH_STATE) F.ST_RH_STATE_STATE 1 t
    else s1
  powerUnhold 2 s2 |> scansResume |> admScansResume

/-- Packet channels assigned to a host memory port. -/
def packetsOn (c : Nat) (s : State) : Bool :=
  (List.range 48).any (fun n => chanPort n s == c - 0x40 || chanMap n s == c - 0x40)

/-- A general channel has drained: parked, or with nothing to do. -/
def teQuiet (n : Nat) (s : State) : Bool := teState n s == 0 || teState n s == 4 || teState n s == 5

/-- The packet buffer holds a cell. -/
def holdsCells (s : State) : Bool := s.dp.frames.any (fun f => f.cells != 0 && f.space != 0)

/-- Every channel has drained: entries that have started have finished, general channels are parked, no access is
outstanding, and every output is visible. -/
def channelsDrained (s : State) : Bool :=
  s.wq.execs.all (fun e => e.phase == .accepted && e.frame.isNone) && s.wq.outs.isEmpty &&
    !s.host.reqs.any Req.isOut && ((List.range 16).all (fun i => teQuiet (48 + i) s))

/-- The drain of a sequence has ended. -/
def drainedSeq (q : PSeq) (s : State) : Bool :=
  if q.code = wholeBlock then !holdsCells s && channelsDrained s && !s.tab.finishing
  else ((islandChans q.code s).filter (fun n => decide (48 ≤ n))).all (fun n => teQuiet n s) &&
    !s.host.reqs.any (fun r => match r.phase with
      | .out p _ _ => p == q.code - 0x40
      | _ => false)

/-- States that the members of an entry take (R432): in block DEEP the islands that change alone are in OFF. -/
def entryTargets (q : PSeq) (s : State) : List (Nat × PState) :=
  if q.code = wholeBlock then q.members.map (fun c => (c, if q.state = .deep ∧ aloneIsl c = true then .off else q.state)) else
    (follow1 q.code q.state s).filter (fun m => q.members.contains m.1)

/-- The links of every plain port whose group enters a state go down, and frames in reception end (R185, R380, R435). -/
def linksDown (s : State) : State :=
  forEach (List.range 64) (fun p t => if (isl (portIsland p) t).entering then portDisable p t else t) s |> linkCheckAll

/-- Work at the start of a phase. -/
def phaseWork (q : PSeq) (s : State) : State :=
  match q.step with
  | 1 => prepare s
  | 2 => if q.code = wholeBlock then s else powerHold q.code s
  | 4 => markEntering (entryTargets q s) s |> parkOps |> linksDown |> doIf (q.code == wholeBlock) parkRehash
  | 5 => if q.state = .off then { s with pins := { s.pins with profileApplied := false } } else s
  | 6 => markEntering (entryTargets q s) s |> parkOps |> doIf (q.code == wholeBlock) parkRehash
  | _ => s

/-- Show and start a phase of an entry. -/
def startPhase (q : PSeq) (n : Nat) (s : State) : State :=
  let q1 := { q with step := n }
  phaseWork q1 (setSeq q1 s)

/-! ## What DEEP and OFF lose (R431, R445) -/

/-- Token buckets restart at their bursts, deficits at 0 (R445). -/
def bucketsRestart (s : State) : State :=
  let s1 := forEach (s.sc.nodes.map (·.1)) (fun c t =>
    let b := inForce c t
    setLevelC c (if cenOf c t then 64 * (recCbs b : Int) else 0) t
      |> setLevelP c (if penOf c t then 64 * (recPbs b : Int) else 0)) s
  { s1 with sc := { s1.sc with deficit := [], turn := [] } }

/-- Meter levels restart at their bursts. -/
def metersRestart (s : State) : State :=
  forEach (s.tab.meters.map (·.1)) (fun i t =>
    let m := getMeter i t
    setMeter i { m with lvlC := u m.cfg 8 3 * 65536, lvlX := u m.cfg 12 3 * 65536, last := t.tb.cycle } t) s

/-- The standby bank reads as all 0, DRAINED = 1. -/
def standbyCleared (s : State) : State :=
  let b := activeBank s
  let d := { s.dp with
    ctxs := [],
    store := s.dp.store.filter (fun e => e.1 / 4096 == b),
    entry := s.dp.entry.filter (fun e => e.1 / 128 == b) }
  fs (loc .RE_PS_CTRL) F.RE_PS_CTRL_DRAINED 1 { s with dp := d }

/-- The table wakes empty, with new random seeds and GEN unchanged; a rehash is gone with its entries. -/
def tableEmptied (s : State) : State :=
  let m := s.tab.meters
  let g := gen s
  let s1 := tableWarmReset s
  setTab { s1.tab with meters := m } s1
    |> fs (loc .ST_CFG) F.ST_CFG_GEN g
    |> fs (loc .ST_RH_STATE) F.ST_RH_STATE_STATE 0
    |> fs (loc .ST_RH_STATE) F.ST_RH_STATE_REVERSE 0
    |> fs (loc .ST_RH_STATE) F.ST_RH_STATE_STUCK 0
    |> fs (loc .ST_RH_STATE) F.ST_RH_STATE_CURSOR 0
    |> finishWhere 0x13 (fun _ => true) St.aborted g

/-- Everything that DEEP does not keep. The translation cache is in no retained memory. (DEDUCED: log entry 77.) -/
def deepLoss (s : State) : State :=
  let s1 := bucketsRestart s |> metersRestart |> standbyCleared
  let s2 := { s1 with host := { s1.host with tlb := [] } }
  if fb (loc .PW_CFG) F.PW_CFG_TABLE_RETAIN s2 then s2 else tableEmptied s2

/-- Block OFF keeps the PW page, the straps and the presence level that AON debounces (R51), and what comes from outside
(R431, R441). (DEDUCED: log entry 77.) -/
def offLoss (s : State) : State :=
  let pw := s.regs.filter (fun e => e.1 / 4096 == loc .PW_CFG / 4096)
  let g := rd (loc .GL_STRAP) s
  let n := s.pins.coldProfile
  let s1 := coldClear s
  let s2 := { s1 with regs := pw.foldl (fun m e => rput m e.1 e.2) s1.regs, pins := { s1.pins with coldProfile := n } }
    |> forEach islandCodes (fun c t => setIsl c { isl c t with fails := (isl c s).fails } t)
  wr (loc .GL_STRAP) g s2
    |> showRole
    |> putIslands [0] .run

/-! ## Wakes (R439 to R442) -/

/-- Start a wake with what a sequence has gathered. -/
def startWake (q : PSeq) (s : State) : State :=
  newSeq { q with wake := true, step := 1 } s |> markWaking q.members

/-- A cold boot leaves OFF (R52, R441): the cold-reset sequence from its step 2, with the straps latched at the last
RST_N. -/
def coldBoot (q : PSeq) (s : State) : State :=
  newSeq { q with wake := true, members := [], step := 2 } { s with pins := { s.pins with coldStep := 1 } }

/-! ## End of an entry -/

/-- The members of a sequence of code `c` are in their states; the block saves what its DEEP does not keep (R445). -/
def settleMembers (c : Nat) (ms : List (Nat × PState)) (s : State) : State :=
  forEach ms (fun m t => if c = wholeBlock then putIslands [m.1] m.2 t else settleIsland m.1 m.2 t) s

/-- Write SV_LAST (spec/18). (DEDUCED: log entry 42.) -/
def svLast (kind cause outcome obj : Nat) (s : State) : State :=
  wr (loc .SV_LAST) (kind * 2 ^ 28 + cause * 2 ^ 26 + outcome * 2 ^ 24 + obj % 2 ^ 17) s

/-- An SRAM repair runs in a member of a sequence: its entry waits (R477). -/
def repairing (q : PSeq) (s : State) : Bool := s.sv.repairs.any (fun r => q.members.contains r.isl)

/-- A host memory port that a port substitution empties goes to OFF, and the substitution ends (R479). -/
def hmpRetired (c : Nat) (s : State) : State :=
  match s.sv.hmp with
  | some e =>
    if c = 0x40 + e.1 ∧ (isl c s).st = .off then
      { s with sv := { s.sv with hmp := none, hmpChan := none, hmpKept := [], wornHmp := e.1 :: s.sv.wornHmp } }
        |> svLast 5 0 0 c
        |> setFlag (loc .SV_EVENT) F.SV_EVENT_SUBST_DONE
    else s
  | none => s

/-- The last phase of an entry has ended (R437, R441): a wake source that arrived meanwhile starts a wake at once. -/
def entryEnd (q : PSeq) (s : State) : State :=
  let ms := entryTargets q s
  let s1 := settleMembers q.code ms (endSeq q.code s) |> setFlag (loc .PW_EVENT) F.PW_EVENT_ENTRY_DONE
  let down := (ms.filter (fun m => m.2 != .run)).map (·.1)
  if q.code = wholeBlock then
    let s2 := { s1 with pw := { s1.pw with blockDown := down } }
      |> doIf (q.state == .deep) deepLoss
      |> doIf (q.state == .off) offLoss
      |> fs (loc .PW_STATE) F.PW_STATE_BLOCK_STATE q.state.code
    if q.sources = 0 then s2
    else if q.state = .off then (if bit q.sources 0 then coldBoot { q with cmd := none } s2 else s2)
    else startWake { q with cmd := none, members := down ++ q.also } s2
  else
    let s2 := finishOpt q.cmd St.ok (b2n (q.sources != 0)) s1 |> hmpRetired q.code
    if q.sources ≠ 0 ∧ q.state = .sleep then startWake { q with cmd := none, members := wakeMembers q.code s2 } s2 else s2

/-- A phase of an entry has ended. (DEDUCED: log entry 76.) -/
def phaseNext (q : PSeq) (s : State) : State :=
  match nextStep q.step (entryPhases q.code q.state) with
  | some n => startPhase q n s
  | none => entryEnd q s

/-- Phase 3 ends with the response of the completion write (R437), or at once where the pair writes none. -/
def completionWritten (p k : Nat) (s : State) : State :=
  match s.pw.seqs.find? (fun q => q.code == wholeBlock && !q.wake && q.step == 3 && q.cmd == some (p, k)) with
  | some q => phaseNext q s
  | none => s

/-- POWER_DRAIN_END: the drain of the block has ended, and the completion is written; or that of a host memory port. -/
def drainEnd (c : Nat) (s : State) : State :=
  match seqOf c s with
  | some q =>
    if q.wake = true ∨ q.step ≠ 2 ∨ drainedSeq q s = false ∨ repairing q s = true then s
    else if c = wholeBlock then
      let s1 := finishOpt q.cmd St.ok 0 (startPhase q 3 s)
      match q.cmd with
      | some (p, k) => if (getCmd p k s1).isNone then completionWritten p k s1 else s1
      | none => phaseNext { q with step := 3 } s1
    else phaseNext q s
  | none => s

/-- POWER_DRAIN_TIMEOUT: phase 1 is undone and the request completes with ADMIN_BUSY (R340, R437). -/
def drainTimeout (c : Nat) (s : State) : State :=
  match seqOf c s with
  | some q =>
    if q.wake = true ∨ q.step ≠ 2 then s
    else
      let cause := if c = wholeBlock ∧ holdsCells s = true then 2 else 1
      let s1 := endSeq c s
        |> fs (loc .PW_STATE) F.PW_STATE_REFUSE_CAUSE cause
        |> setFlag (loc .PW_EVENT) F.PW_EVENT_REFUSED
      (if c = wholeBlock then unprepare s1 else powerUnhold c s1) |> finishOpt q.cmd St.adminBusy 0
  | none => s

/-! ## End of a wake -/

/-- State that an island takes at the end of a wake: a spare lane rests after DEEP (R117), but for one that a running substitution
has woken (R129). -/
def wokenState (q : PSeq) (c : Nat) (s : State) : PState :=
  if q.code = wholeBlock ∧ q.state = .deep ∧ isLaneIsl c = true ∧ laneRole (c - 0x10) s = 1 ∧
      s.phy.substs.any (fun x => x.spare == c - 0x10 && x.step != 0) = false then roleIsland (c - 0x10) 1 s else .run

/-- Block time comes back from the always-on island after SLEEP or DEEP, with an error of at most 1 ns (R411): a free value
within that bound. -/
def handBack (q : PSeq) (s : State) : State :=
  if q.state = .sleep ∨ q.state = .deep then
    let e : Int := max (-(nsU : Int)) (min (nsU : Int) (Config.handBackError s.free))
    { s with free := s.free + 1, tb := { s.tb with time := moveTime s.tb.time e } }
  else s

/-- A wake has reached RUN (R440). -/
def wakeEnd (q : PSeq) (s : State) : State :=
  let s1 := settleMembers q.code (q.members.map (fun c => (c, wokenState q c s))) (endSeq q.code s) |> wakeRecord q
  if q.code = wholeBlock then
    { s1 with pw := { s1.pw with blockDown := [] } }
      |> handBack q
      |> fs (loc .PW_STATE) F.PW_STATE_BLOCK_STATE 0
      |> unprepare
      |> (fun t => forEach ([0x40, 0x41, 0x42, 0x43].filter (fun c => isRun c t)) powerUnhold t)
      |> resumeOps
      |> ringBells
      |> linkCheckAll
  else
    doIf (isHmpIsl q.code) (powerUnhold q.code) s1 |> resumeOps |> linkCheckAll |> finishOpt q.cmd St.ok 0

/-- WAKE_STEP_DONE: the step in progress ends, and the next runs or the wake reaches RUN. Without REFCLK no PLL locks
(R39). -/
def wakeStepDone (c : Nat) (s : State) : State :=
  match seqOf c s with
  | some q =>
    if q.wake = false ∨ q.fallback = true ∨ q.state = .off ∧ c = wholeBlock then s
    else if q.step = 3 ∧ s.pins.refclk = false then s
    else match nextStep q.step (wakeSteps c q.state) with
      | some n => setSeq { q with step := n, repeating := false } s
      | none => wakeEnd q s
  | none => s

/-- A wake falls back (R443): the islands return to the state they were in. -/
def wakeFellBack (q : PSeq) (s : State) : State :=
  let o := if q.failStep = 1 then 2 else 3
  let s1 := forEach q.members (fun c t =>
      let i := isl c t
      setIsl c { i with target := i.st, waking := false, entering := false,
                        fails := if q.code = wholeBlock ∨ c = q.code then min 255 (i.fails + 1) else i.fails } t)
    (endSeq q.code s)
  lastWake q o s1
    |> alert F.GL_ALERT_WAKE_FAIL
    |> setFlag (loc .PW_EVENT) F.PW_EVENT_WAKE_FAIL
    |> bump (cBlk 5)
    |> finishOpt q.cmd St.adminWakeFailed 0

/-- WAKE_STEP_TIMEOUT: a step of regulators or PLLs has not ended in time; it is repeated once, then the wake falls back
(R443). -/
def wakeStepTimeout (c : Nat) (s : State) : State :=
  match seqOf c s with
  | some q =>
    if q.wake = false ∨ q.fallback = true ∨ stepReports q.step = false ∨ (q.state = .off ∧ c = wholeBlock) then s
    else if q.repeating then setSeq { q with fallback := true, step := 6, failStep := q.step } s
    else
      setSeq { q with retried := true, repeating := true, failStep := q.step } s
        |> setFlag (loc .PW_EVENT) F.PW_EVENT_WAKE_RETRY
  | none => s

/-- No island is gated with an output that has no write response yet (R36): the reports of links that phase 4 took down are
outputs too. A rehash in its finishing steps holds the table island (R245). (DEDUCED: log entry 76.) -/
def outputsVisible (q : PSeq) (s : State) : Bool :=
  q.code != wholeBlock || (s.wq.outs.isEmpty && !s.host.reqs.any Req.isOut && !s.tab.finishing)

/-- POWER_ENTRY_PHASE_DONE: a phase of fixed delay ends, of an entry or of the phases that a fall-back runs. -/
def entryPhaseDone (c : Nat) (s : State) : State :=
  match seqOf c s with
  | some q =>
    if q.fallback then
      if q.step = 6 then setSeq { q with step := 7 } s else wakeFellBack q s
    else if q.wake = true ∨ q.step = 2 ∨ q.step = 3 ∨ repairing q s = true then s
    else if nextStep q.step (entryPhases q.code q.state) = some 6 ∧ outputsVisible q s = false then s
    else phaseNext q s
  | none => s

/-! ## PWR_REQ (R312, R435, R436) -/

/-- The states that R432 and R435 let a request name for an island. -/
def pwrAllowed (c : Nat) (st : Nat) (s : State) : Bool :=
  if c = wholeBlock then st == 0 || st == 2 || st == 3 || st == 4
  else aloneIsl c && (st == 0 || st == 2 || st == 4) &&
    (!isLaneIsl c || (laneRole (c - 0x10) s != 2 && laneRole (c - 0x10) s != 3))

/-- Start an entry. -/
def startEntry (c : Nat) (ms : List Nat) (st : PState) (cmd : Option (Nat × Nat)) (s : State) : State :=
  let n := (entryPhases c st).headD 7
  let q := mkSeq c ms false st n cmd
  phaseWork q (newSeq q s)

/-- Start the wake of an island alone for a command. -/
def adminWake (c : Nat) (cmd : Option (Nat × Nat)) (s : State) : State :=
  let q := mkSeq c (wakeMembers c s) true (isl c s).st 1 cmd
  newSeq (q.addSource 6 c s) s |> markWaking (wakeMembers c s)

/-- Another command holds the island's lane or ports: a substitution of the lane or by it (R292), or a LOAD_PROFILE that
touches them (R109). (DEDUCED: log entry 76.) -/
def pwrBusy (c : Nat) (s : State) : Bool :=
  (isLaneIsl c && (loadLane (c - 0x10) s || s.phy.substs.any (fun x => x.from_ == c - 0x10 || x.spare == c - 0x10))) ||
    (isGroupIsl c && (List.range 64).any (fun p => portIsland p == c && loadPort p s))

/-- PWR_REQ of island `c` to the state of code `st`, for command `k` of pair `p`. -/
def pwrReq (p k c st : Nat) (s : State) : State :=
  let fin (v : Nat) : State := finishCmd p k v 0 0 s
  let tgt := PState.ofCode st
  if pwrAllowed c st s = false then fin St.adminBadParameter
  else if c = wholeBlock then
    let strap := fg (loc .GL_STRAP) F.GL_STRAP_DUO_ROLE s
    if st = 0 then fin (if s.pw.seqs ≠ [] then St.adminBusy else St.ok)
    else if strap = 1 ∨ strap = 2 then fin St.adminWrongRole
    else if s.pw.seqs ≠ [] then fin St.adminBusy
    else startEntry c (blockMembers tgt s) tgt (some (p, k)) s
  else if pwrBusy c s then fin St.adminBusy
  else if (isl c s).st = tgt ∨ (tgt = .run ∧ (isl c s).st = .idle) then
    (match seqWith c s with
     | none => fin St.ok
     | some _ => fin St.adminBusy)
  else match seqWith c s with
  | some q =>
    if q.wake = true ∧ tgt = .run ∧ q.code = c ∧ q.cmd = none then
      setSeq ({ q with cmd := some (p, k) }.addSource 6 c s) s
    else fin St.adminBusy
  | none =>
    if s.pw.seqs.any (fun q => q.code == wholeBlock) then fin St.adminBusy
    else if tgt = .run then adminWake c (some (p, k)) s
    else if isHmpIsl c = true ∧ packetsOn c s = true then
      fs (loc .PW_STATE) F.PW_STATE_REFUSE_CAUSE 3 s
        |> setFlag (loc .PW_EVENT) F.PW_EVENT_REFUSED
        |> finishCmd p k St.adminBusy 0 0
    else startEntry c ((follow1 c tgt s).map (·.1)) tgt (some (p, k)) s

/-! ## Wake sources (R439) -/

/-- WAKE_TIMER: PW_WAKE_TIMER has elapsed since the end of entry. -/
def wakeTimer (s : State) : State :=
  if fb (loc .PW_CFG) F.PW_CFG_TIMER_WAKE s = true ∧ rd (loc .PW_WAKE_TIMER) s ≠ 0 ∧
      (blockState s = 2 ∨ blockState s = 3) then requestWake 0 5 0 s
  else s

/-- WAKE_IN_WAKE (R52): a cold boot from OFF, else a wake where WAKE_IN_EN allows one. During an entry to OFF the
source is kept whatever WAKE_IN_EN says, since OFF always wakes. (DESIGN CHOICE: log entry 16.) (DEDUCED: log entry
77.) -/
def wakeIn (s : State) : State :=
  if coldHeld s then s
  else if blockState s = 4 then
    if s.pins.coldStep = 0 then coldBoot ((mkSeq wholeBlock [] true .off 2 none).addSource 1 0 s) s else s
  else
    let off := s.pw.seqs.any (fun q => q.code == wholeBlock && !q.wake && q.state == .off)
    if fb (loc .PW_CFG) F.PW_CFG_WAKE_IN_EN s || off then requestWake 0 1 0 s else s

/-- DOORBELL (R60, R438, R439): one that arrives while the queue contexts are down, or the block enters a state (R441), wakes the
block under DB_WAKE. (DEDUCED: log entry 78.) -/
def doorbellWake (f addr : Nat) (s : State) : State :=
  let i := isl 4 s
  let down := i.st == .sleep || i.st == .deep || i.waking || i.entering || blockEntering s
  let s1 := doorbellFrom f addr s
  if down = true ∧ addr / 512 % 4096 = f ∧ fb (loc .PW_CFG) F.PW_CFG_DB_WAKE s = true then requestWake 4 4 0 s1 else s1

/-! ## PW registers -/

/-- A write of PW_CFG: none while the block changes. -/
def writePwCfg (data : Nat) (s : State) : Option State :=
  if fb (loc .PW_STATE) F.PW_STATE_CHANGING s then none else some (plainWrite .PW_CFG (loc .PW_CFG) data s)

/-- PW_ISLAND as read: the island PW_ISLAND_SEL names. -/
def readIsland (s : State) : Nat :=
  let c := fg (loc .PW_ISLAND_SEL) F.PW_ISLAND_SEL_ISLAND s
  let i := isl c s
  let t := match seqWith c s with
    | some q => if q.wake then (if q.fallback then i.st else .run) else
        (match (entryTargets q s).find? (fun m : Nat × PState => m.1 == c) with
         | some m => m.2
         | none => q.state)
    | none => i.st
  if islandCodes.contains c then
    i.st.code * 2 ^ 29 + t.code * 2 ^ 26 + b2n (seqWith c s).isSome * 2 ^ 25 + b2n (aloneIsl c) * 2 ^ 24 + i.fails * 2 ^ 16
  else 0

/-- PAGE_PWR as read: STATE and CHANGING of the page's island, beside the constant fields. -/
def readPagePwr (pg : Nat) (s : State) : Nat :=
  let i := isl (pageIsland pg) s
  putBits (putBits (rd (hdrLoc .PAGE_PWR pg) s) F.PAGE_PWR_STATE i.st.code) F.PAGE_PWR_CHANGING
    (b2n (i.entering || i.waking || (seqWith (pageIsland pg) s).isSome))

/-! ## Meanings -/

/-- WAKE_IN_WAKE. -/
def execWakeInWake (s : State) : Host.Outcome State Fault Refusal := done (wakeIn s)
/-- DOORBELL: function `f` with bits 23:3 of its address; ignored in reset (R42, R46). -/
def execDoorbell (f addr : Nat) (s : State) : Host.Outcome State Fault Refusal :=
  done (if inReset s then s else doorbellWake (f % 4096) (addr % 2 ^ 21) s)
/-- IDLE_ENTRY of island `c`. -/
def execIdleEntry (c : Nat) (s : State) : Host.Outcome State Fault Refusal := done (idleEntry c s)
/-- POWER_ENTRY_PHASE_DONE of the sequence of code `c`. -/
def execPowerEntryPhaseDone (c : Nat) (s : State) : Host.Outcome State Fault Refusal := done (entryPhaseDone c s)
/-- POWER_DRAIN_END of the sequence of code `c`. -/
def execPowerDrainEnd (c : Nat) (s : State) : Host.Outcome State Fault Refusal := done (drainEnd c s)
/-- POWER_DRAIN_TIMEOUT of the sequence of code `c`. -/
def execPowerDrainTimeout (c : Nat) (s : State) : Host.Outcome State Fault Refusal := done (drainTimeout c s)
/-- WAKE_TIMER. -/
def execWakeTimer (s : State) : Host.Outcome State Fault Refusal := done (wakeTimer s)
/-- WAKE_STEP_TIMEOUT of the sequence of code `c`. -/
def execWakeStepTimeout (c : Nat) (s : State) : Host.Outcome State Fault Refusal := done (wakeStepTimeout c s)

end Sys2Proof.Machine
end

