-- ==== Sys2Proof/Machine/Spares.lean ====
section
/-!
DEFINITION. Wear and spares (spec/18): monitors and the actions they start, lane substitution (R129, R159, R307, R473),
engine substitution (R475), SRAM repair (R476, R477), host memory port substitution (R479), entry retirement (R469), and the
SV registers.
-/

namespace Sys2Proof.Machine

def setSv (v : Sv) (s : State) : State := { s with sv := v }

/-- SV_LAST OUTCOME codes. -/
def outDone : Nat := 0
def outRunning : Nat := 1
def outNoSpare : Nat := 2
def outAborted : Nat := 3

/-- An action finds no spare of its kind (R471). -/
def noSpare (kind cause obj : Nat) (s : State) : State :=
  setFlag (loc .SV_EVENT) F.SV_EVENT_NO_SPARE s |> alert F.GL_ALERT_WEAR |> svLast kind cause outNoSpare obj

/-! ## Lane substitution (R129, R159, R307, R473) -/

/-- Rate of a physical lane: that of the logical lane it carries in the map. -/
def physRate (n : Nat) (s : State) : Nat :=
  match logicalOf n s with
  | some l => laneRate s.prof.cur l
  | none => 0

/-- A lane that a substitution may take as its spare: in role SPARE, at the retired lane's rate, in no substitution. -/
def spareOk (fr n : Nat) (s : State) : Bool :=
  decide (n < 18) && laneRole n s == 1 && physRate n s == physRate fr s && !s.phy.substs.any (fun x => x.spare == n)

/-- The lowest-numbered such lane. -/
def spareFor (fr : Nat) (s : State) : Option Nat := (List.range 18).find? (fun n => spareOk fr n s)

/-- The cases of R159 in which a slotted lane is not substituted now, the group taking no further member among them
(R136), and a substitution that holds the lane (R292). -/
def substBlocked (fr : Nat) (s : State) : Bool :=
  s.phy.substs.any (fun x => x.from_ == fr || x.spare == fr) ||
  (laneRole fr s == 3 && (match laneMember fr s with
    | some (g, _) => !mayJoin g s || swState g s != 0 || s.phy.substs.any (fun x => x.slotted && x.group == g)
    | none => false))

/-- Remove a substitution. -/
def dropSubst (fr : Nat) (s : State) : State :=
  { s with phy := { s.phy with substs := s.phy.substs.filter (fun y => y.from_ != fr) } }

/-- Start a substitution of lane `fr` by `spare`. A recalibration that runs on the lane is abandoned (R128). -/
def substStart (fr spare cause : Nat) (cmd : Option (Nat × Nat)) (s : State) : State :=
  let l := laneLogical fr s
  let m := (laneMember fr s).getD (0, 0)
  let x : Subst :=
    { from_ := fr, spare := spare, logical := l, slotted := laneRole fr s == 3, group := m.1, member := m.2, newMember := 0,
      port := (lanePort l s).getD 64, back := 0x1F, step := 0, parked := false, power := false, begun := false, cmd := cmd, cause := cause }
  substBegin x (showSubst x (recalAbandon fr { s with phy := { s.phy with substs := s.phy.substs ++ [x] } }))

/-- The standby page of a slotted substitution (R159): a copy of TX_PAGE, the retired member's slots moved to the spare. -/
def substPage (x : Subst) (s : State) : State :=
  let pg := txPage x.group s
  let s1 := cmCopy x.group pg s
  forEach (List.range 40) (fun r t =>
    cmPut (1 - pg) (40 * x.spare + r) (cmGet (1 - pg) (40 * x.from_ + r) s1) t |> cmPut (1 - pg) (40 * x.from_ + r) 0x3F) s1

/-- Member `k` leaves a group; its index becomes vacant, and its OS_MEMBER reads 0. (DESIGN CHOICE: log entry 27.) -/
def leaveMember (g k : Nat) (s : State) : State :=
  wr (loc .OS_MEMBER g k) 0 (setMem g k Member.reset s)
    |> fs (loc .OS_CFG g) F.OS_CFG_MEMBERS ((memIdx g s).length - 1)

/-- Move a logical lane to the spare; the logical lane of the spare is then on no physical lane (R116, R480). -/
def moveLogical (l n : Nat) (s : State) : State :=
  let s1 := match logicalOf n s with
    | some k => if k = l then s else mapLane k 0x1F s
    | none => s
  mapLane l n s1

/-- An automatic substitution is one that no command started. -/
def Subst.auto (x : Subst) : Bool := x.cmd.isNone

/-- Step 5 has completed: the old lane is RETIRED, the spare has its role, and the substitution is over. -/
def substFinish (x : Subst) (s : State) : State :=
  let role := if x.slotted then 3 else 2
  let s1 := if x.slotted then moveLogical x.logical x.spare (leaveMember x.group x.member s) else s
  setRole x.from_ 4 s1 |> setLn F.LN_STATUS_LOGICAL 0x1F x.from_
    |> restIsland (laneIsland x.from_) .off
    |> fs (loc .SV_RETIRED) F.SV_RETIRED_RETIRED (fg (loc .SV_RETIRED) F.SV_RETIRED_RETIRED s1 ||| 2 ^ x.from_)
    |> setRole x.spare role |> setLn F.LN_STATUS_LOGICAL x.logical x.spare
    |> showSubst { x with step := 5, parked := false, power := false, begun := false }
    |> dropSubst x.from_
    |> setFlag (loc .LN_EVENT x.spare) F.LN_EVENT_SUBST_DONE
    |> doIf x.auto (fun t => setFlag (loc .SV_EVENT) F.SV_EVENT_SUBST_DONE t |> svLast 1 x.cause outDone (laneIsland x.from_))
    |> finishOpt x.cmd St.ok x.spare
    |> linkCheckAll

/-- What the completion of step `x.step + 1` does, beside the step count. A spare that FOLLOW has already made a member
(R157) joins no second time, and the substitution goes on with the index that it has, in whichever group. (DESIGN CHOICE: log
entry 27.) -/
def substEffect (x : Subst) (s : State) : Subst × State :=
  match x.step with
  | 0 => (x, putIslands [laneIsland x.spare] .run s)
  | 1 =>
    if x.slotted then
      match laneMember x.spare s with
      | some (_, k) => ({ x with newMember := k }, s)
      | none =>
        let k := (vacant x.group s).getD 0
        ({ x with newMember := k }, joinMember x.group k x.spare s)
    else (x, s)
  | 2 =>
    if x.slotted then (x, substPage x s)
    else ({ x with back := (logicalOf x.spare s).getD 0x1F },
      moveLogical x.logical x.spare s |> setLn F.LN_STATUS_LOGICAL x.logical x.spare
        |> setLn F.LN_STATUS_LOGICAL 0x1F x.from_)
  | _ => (x, s)

/-- The step in progress of a slotted substitution cannot complete yet: step 2 waits until the spare has trained (R115)
and the group takes a further member (R136), step 3 while a switch has frozen the page that it would copy into, or the
pages differ (R153, R154). -/
def substWaits (x : Subst) (s : State) : Bool :=
  x.slotted && (
    (x.step == 1 && (!fb (loc .LN_STATUS x.spare) F.LN_STATUS_TRAINED s ||
      ((laneMember x.spare s).isNone && !mayJoin x.group s))) ||
    (x.step == 2 && (swState x.group s != 0 || txPage x.group s != rxPage x.group s)))

/-- LANE_SUBST_STEP_DONE: the step in progress completes and the next starts, unless the substitution parks between
them. A page switch that has failed leaves it parked after step 3. (DEDUCED: log entry 27.) -/
def substStep (fr : Nat) (s : State) : State :=
  match substOf fr s with
  | none => s
  | some x =>
    if x.power = true ∨ x.begun = false then s
    else if substWaits x s = true ∨ x.step = 0 ∧ s.pins.refclk = false then s
    else if x.slotted = true ∧ x.step = 3 ∧ (substSwitched x s).1 = false then s
    else if x.slotted = true ∧ x.step = 3 ∧ (substSwitched x s).2 = false then setSubst { x with parked := true, begun := false } s
    else if x.step = 4 then substFinish x s
    else
      let r := substEffect x s
      let y := { r.1 with step := x.step + 1, begun := false }
      let s1 := setSubst y r.2
      if y.parked then s1 else substBegin y s1

/-- PARK: the substitution parks when the step in progress completes. (DEDUCED: log entry 27.) -/
def substPark (fr : Nat) (s : State) : Option State :=
  match substOf fr s with
  | some x => if x.parked then none else
      some { s with phy := { s.phy with substs := s.phy.substs.map (fun y => if y.from_ = fr then { x with parked := true } else y) } }
  | none => none

/-- RESUME a parked substitution; one whose step is still in progress just goes on, and one that its islands' power parks too
goes on when they are back (R31). (DEDUCED: log entry 27.) -/
def substResume (fr : Nat) (s : State) : Option State :=
  match substOf fr s with
  | some x =>
    if x.parked = false then none
    else
      let y := { x with parked := false }
      let s1 := setSubst y s
      some (if !x.begun && !x.power then substBegin y s1 else s1)
  | none => none

/-- A cancel is refused: the page switch of step 4 is ACKED or COMMITTED (R154) or has ended, or step 4 has completed. -/
def substCommitted (x : Subst) (s : State) : Bool :=
  decide (4 ≤ x.step) || substFixed x s

/-- CANCEL before step 4 commits restores the prior map (R129). -/
def substCancel (fr : Nat) (s : State) : Option State :=
  match substOf fr s with
  | none => none
  | some x =>
    if substCommitted x s then none
    else
      let s1 := if x.slotted then
          let t := if x.step = 3 then (switchCancel x.group s).getD s else s
          if 2 ≤ x.step then leaveMember x.group x.newMember t else t
        else if 3 ≤ x.step then
          portDisable x.port s |> mapLane x.logical x.from_
            |> doIf (x.back != 0x1F) (mapLane x.back x.spare)
            |> setLn F.LN_STATUS_LOGICAL x.logical x.from_ |> setLn F.LN_STATUS_LOGICAL 0x1F x.spare
        else s
      let st := roleIsland x.spare 1 s1
      some (dropSubst fr s1 |> setRole x.spare 1 |> restIsland (laneIsland x.spare) st
        |> wr (loc .LN_SUBST x.spare) 0
        |> doIf x.auto (svLast 1 x.cause outAborted (laneIsland fr))
        |> finishOpt x.cmd St.aborted x.spare
        |> portEnable x.port
        |> linkCheckAll)

/-! ## SRAM repair (R476, R477) -/

/-- Fields of a repair word (SV_REPAIR_DATA): column, island, macro, address. -/
def repCol (w : Nat) : Bool := bit w 30
def repIsl (w : Nat) : Nat := bits w 29 22
def repMacro (w : Nat) : Nat := bits w 21 13

/-- Spare rows or columns that a macro has left (R468). -/
def macroKey (i m : Nat) : Nat := 512 * i + m
/-- (DEDUCED: log entry 85.) -/
def spareRows (k : Nat) (s : State) : Nat := 4 - sget 0 s.sv.used k % 8
/-- (DEDUCED: log entry 85.) -/
def spareCols (k : Nat) (s : State) : Nat := 2 - sget 0 s.sv.used k / 8

/-- Start a repair: it takes a spare of its kind; none where none is left. Repairs of one island run one at a time, in the
order of this list. -/
def repairStart (w : Nat) (byApply : Bool) (s : State) : Option State :=
  let k := macroKey (repIsl w) (repMacro w)
  let left := if repCol w then spareCols k s else spareRows k s
  if left = 0 then none
  else
    let u := sget 0 s.sv.used k + (if repCol w then 8 else 1)
    some (setSv { s.sv with used := sput 0 s.sv.used k u,
                            repairs := s.sv.repairs ++ [{ isl := repIsl w, data := w, byApply := byApply }] } s)

/-- The first element that meets `f` taken out of a list. (DEDUCED: log entry 85.) -/
def takeFirst {α : Type} (f : α → Bool) : List α → Option α × List α
  | [] => (none, [])
  | x :: xs => if f x then (some x, xs) else let r := takeFirst f xs; (r.1, x :: r.2)

/-- SRAM_REPAIR_DONE: reads of the repaired location go to the spare; the repair joins the field repair list, which holds
1,024. A lane that a role has put to rest meanwhile goes there now (R477). -/
def repairDone (i : Nat) (s : State) : State :=
  match takeFirst (fun r : Repair => r.isl == i) s.sv.repairs with
  | (none, _) => s
  | (some r, rest) =>
    let f := if s.sv.fixed.length < 1024 then s.sv.fixed ++ [r.data % 2 ^ 31 + 2 ^ 31] else s.sv.fixed
    setSv { s.sv with repairs := rest, fixed := f } s
      |> fs (loc .SV_REPAIR_CMD) F.SV_REPAIR_CMD_COUNT f.length
      |> doIf r.byApply (fs (loc .SV_REPAIR_CMD) F.SV_REPAIR_CMD_BUSY 0)
      |> doIf ((isl i s).entering && (seqWith i s).isNone) (restIsland i (isl i s).target)
      |> svLast (if repCol r.data then 4 else 3) 2 outDone (macroKey (repIsl r.data) (repMacro r.data))
      |> setFlag (loc .SV_EVENT) F.SV_EVENT_REPAIR_DONE

/-- A write of SV_REPAIR_CMD (R480); none while BUSY is 1. -/
def writeRepair (data : Nat) (s : State) : Option State :=
  let a := loc .SV_REPAIR_CMD
  if fb a F.SV_REPAIR_CMD_BUSY s then none
  else
    let s1 := fs a F.SV_REPAIR_CMD_INDEX (data % 1024) s
    let s2 := if bit data 31 then
        match repairStart (rd (loc .SV_REPAIR_DATA) s1) true s1 with
        | some t => fs a F.SV_REPAIR_CMD_BUSY 1 t |> fs a F.SV_REPAIR_CMD_FAIL 0
        | none => fs a F.SV_REPAIR_CMD_FAIL 1 s1
      else s1
    some (if bit data 30 then wr (loc .SV_REPAIR_DATA) (s2.sv.fixed.getD (data % 1024) 0) s2 else s2)

/-! ## Host memory port substitution (R479) -/

/-- Key of a monitor: KIND and INDEX. -/
def monKey (kind i : Nat) : Nat := kind * 2 ^ 17 + i % 2 ^ 17

/-- The port that holds no channel and is not worn: neither replaced nor at ACT (R468). -/
def hmpSpare (s : State) : Option Nat :=
  (List.range 4).find? (fun h => !s.sv.wornHmp.contains h && !s.sv.acted.contains (monKey 0 (0x40 + h)) &&
    (List.range 64).all (fun n => chanMap n s != h && chanPort n s != h))

/-- The cause by which a port substitution holds the channel that it moves. -/
def hmpMoving : Nat := 0xFE

/-- The next channel of the worn port, in ascending order: a general channel receives a POWER hold. When none is left, the
port's island goes to OFF. -/
def hmpNext (s : State) : State :=
  match s.sv.hmp, s.sv.hmpChan with
  | some (w, _), none =>
    match (List.range 64).find? (fun n => chanMap n s == w && !s.sv.hmpKept.contains n) with
    | some n =>
      let s1 := setSv { s.sv with hmpChan := some n } s
      if 48 ≤ n ∧ teState n s1 ≠ 0 then powerHoldOne hmpMoving n s1 else s1
    | none =>
      if s.sv.hmpKept ≠ [] ∨ (seqWith (0x40 + w) s).isSome = true ∨ (List.range 64).any (fun n => chanPort n s == w) = true
      then s
      else if (isl (0x40 + w) s).st = .off then hmpRetired (0x40 + w) s
      else startEntry (0x40 + w) [0x40 + w] .off none s
  | _, _ => s

/-- Start the substitution of port `w` by `sp`. -/
def hmpStart (w sp cause : Nat) (s : State) : State :=
  setSv { s.sv with hmp := some (w, sp), hmpChan := none, hmpKept := [] } s
    |> setFlag (loc .SV_EVENT) F.SV_EVENT_SUBST_START
    |> svLast 5 cause outRunning (0x40 + w)
    |> hmpNext

/-- What ends a channel's move: its hold ends, and the frames that waited for it are delivered. -/
def hmpRelease (n : Nat) (s : State) : State :=
  let s1 := setSv { s.sv with hmpChan := none } s
  if 48 ≤ n then powerUnhold hmpMoving s1
  else forEach ((s1.wq.sqs.filter (fun e => e.2.rx && cqChan e.2.cq == n)).map (·.1)) rxKick s1

/-- The moving channel is quiet: no request outstanding, and every entry it has started is finished. -/
def hmpQuiet (n : Nat) (s : State) : Bool :=
  (teOut n s).isEmpty &&
    (if 48 ≤ n then teQuiet n s
     else s.wq.execs.all (fun e => cqChan (getSq e.sq s).cq != n || (e.phase == .accepted && e.frame.isNone)))

/-- Put a channel's HP_CHMAP field. -/
def putChmap (n h : Nat) (s : State) : State :=
  fs (loc .HP_CHMAP 0 (n / 16)) ⟨2 * (n % 16) + 1, 2 * (n % 16)⟩ h s

/-- CHMAP_TAKE_EFFECT: a channel with no request outstanding moves to its mapped port (R317). The channel that a port
substitution moves is mapped to the spare port first, once it is quiet, unless software has mapped it elsewhere
meanwhile (R479). -/
def chmapEffect (n : Nat) (s : State) : State :=
  match s.sv.hmp with
  | some (_, sp) =>
    if s.sv.hmpChan = some n then
      if hmpQuiet n s then
        chmapTake n (if s.sv.hmp.map (·.1) = some (chanMap n s) then putChmap n sp s else s) |> hmpRelease n |> hmpNext
      else s
    else hmpNext (chmapTake n s)
  | none => chmapTake n s

/-- HMP_MOVE_TIMEOUT: a channel that is not quiet keeps its old port until the next monitor read. -/
def hmpTimeout (s : State) : State :=
  match s.sv.hmpChan with
  | some n => hmpRelease n (setSv { s.sv with hmpKept := s.sv.hmpKept ++ [n] } s) |> hmpNext
  | none => s

/-- A write of HP_CHMAP (R317): one that maps a channel back to a worn port undoes a move, and the substitution ends as
ABORTED (R479). -/
def writeChmap (w data : Nat) (s : State) : State :=
  let s1 := wr (loc .HP_CHMAP 0 w) data s
  match s.sv.hmp with
  | some (o, sp) =>
    if (List.range 16).any (fun j => chanMap (16 * w + j) s == sp && chanMap (16 * w + j) s1 == o) then
      let s2 := setSv { s1.sv with hmp := none, hmpKept := [] } s1
        |> svLast 5 0 outAborted (0x40 + o)
        |> setFlag (loc .SV_EVENT) F.SV_EVENT_SUBST_DONE
      match s2.sv.hmpChan with
      | some n => hmpRelease n s2
      | none => s2
    else s1
  | none => s1

/-! ## Engine substitution (R475, R221) -/

/-- Start an engine's substitution for a cause; its cluster has a spare. -/
def engineStart (o cause : Nat) (s : State) : State :=
  match substEngine (o / 17) (o % 17) none s with
  | some t =>
    setSv { t.sv with engActs := t.sv.engActs ++ [(o, cause)] } t
      |> setFlag (loc .SV_EVENT) F.SV_EVENT_SUBST_START |> svLast 2 cause outRunning o
  | none => s

/-! ## Actions (R470 to R474) -/

/-- The action may run on these islands now (R472). -/
def actsOn (cs : List Nat) (s : State) : Bool := cs.all (fun c => isRun c s)

/-- Try an action: none where it waits, for its island or for its spare's (R472): a wear action wakes none. -/
def tryAct (a : Act) (s : State) : Option State :=
  match a.kind with
  | 1 =>
    let fr := a.obj - 0x10
    if laneRole fr s ≠ 2 ∧ laneRole fr s ≠ 3 then some s
    else if (substOf fr s).isSome then some s
    else if actsOn [a.obj] s = false ∨ substBlocked fr s = true then none
    else match spareFor fr s with
      | some n => if actsOn [laneIsland n] s = false then none else some (substStart fr n a.cause none s
          |> setFlag (loc .SV_EVENT) F.SV_EVENT_SUBST_START |> svLast 1 a.cause outRunning a.obj)
      | none => some (noSpare 1 a.cause a.obj s)
  | 2 =>
    let cl := a.obj / 17
    if bit (fg (loc .RE_CL_STATUS cl) F.RE_CL_STATUS_ACTIVE s) (a.obj % 17) = false then some s
    else if actsOn [2] s = false ∨ substBusy cl s = true then none
    else if spareEng cl s = 0x1F then some (noSpare 2 a.cause a.obj s)
    else some (engineStart a.obj a.cause s)
  | 5 =>
    if s.sv.hmp.isSome then (if s.sv.hmp.map (·.1) = some (a.obj - 0x40) then some s else none)
    else match hmpSpare s with
      | none => some (noSpare 5 a.cause a.obj s)
      | some h => if actsOn [a.obj, 0x40 + h] s then some (hmpStart (a.obj - 0x40) h a.cause s) else none
  | k =>
    let w := (k - 3) * 2 ^ 30 + a.obj / 512 * 2 ^ 22 + a.obj % 512 * 2 ^ 13 + a.addr % 2 ^ 13
    if actsOn [a.obj / 512] s then
      match repairStart w false s with
      | some t => some t
      | none => some (noSpare k a.cause a.obj s)
    else none

/-- Run an action, or let it wait. -/
def runAct (a : Act) (s : State) : State :=
  match tryAct a s with
  | some t => t
  | none => if s.sv.acts.contains a then s else setSv { s.sv with acts := s.sv.acts ++ [a] } s

/-- Insert into a list that `le` orders. -/
def insertBy {α : Type} (le : α → α → Bool) (x : α) : List α → List α
  | [] => [x]
  | y :: ys => if le x y then x :: y :: ys else y :: insertBy le x ys

/-- A list in the order of `le`, equals in their given order. -/
def sortBy {α : Type} (le : α → α → Bool) (l : List α) : List α := l.foldr (insertBy le) []

/-- Try the waiting actions that `f` picks, lanes in ascending order (R474). -/
def retryActs (f : Act → Bool) (s : State) : State :=
  let now := sortBy (fun a b => decide (a.obj ≤ b.obj)) (s.sv.acts.filter f)
  forEach now runAct (setSv { s.sv with acts := s.sv.acts.filter (fun a => !f a) } s)

/-! ## Monitors (R470) -/

/-- Put a monitor's reading, and report WARN and ACT: once, until it has fallen below. Answers whether the reading triggers the
action of ACT: the first at or above it that is taken in RUN, as `run` says (R472). -/
def monSet (key act : Nat) (warn hit run : Bool) (v : Nat) (s : State) : Bool × State :=
  let new := hit && !s.sv.acted.contains act
  let fire := hit && run && !s.sv.started.contains act
  let s1 := setSv { s.sv with
      mon := sput 0 s.sv.mon key v
      warned := if warn then (if s.sv.warned.contains key then s.sv.warned else key :: s.sv.warned)
                else s.sv.warned.filter (· != key)
      acted := if hit then (if s.sv.acted.contains act then s.sv.acted else act :: s.sv.acted)
               else s.sv.acted.filter (· != act)
      started := if fire then act :: s.sv.started else if hit then s.sv.started else s.sv.started.filter (· != act) } s
    |> doIf (warn && !s.sv.warned.contains key) (setFlag (loc .SV_EVENT) F.SV_EVENT_WARN)
    |> doIf new (setFlag (loc .SV_EVENT) F.SV_EVENT_ACT)
  (fire, s1)

/-- The island is in RUN, not in IDLE. -/
def inRunNow (c : Nat) (s : State) : Bool := (isl c s).st == .run

/-- An automatic bit of SV_CFG. -/
def autoBit (f : Fld) (s : State) : Bool := fb (loc .SV_CFG) f s

/-- AUTO bit of a lane, by its role. (DEDUCED: log entry 84.) -/
def laneAuto (n : Nat) (s : State) : Bool :=
  (laneRole n s == 3 && autoBit F.SV_CFG_AUTO_SLOT s) || (laneRole n s == 2 && autoBit F.SV_CFG_AUTO_PLAIN s)

/-- WARN and ACT thresholds of ageing sensors. -/
def roWarn (s : State) : Nat := fg (loc .SV_RO_THR) F.SV_RO_THR_WARN s
def roAct (s : State) : Nat := fg (loc .SV_RO_THR) F.SV_RO_THR_ACT s

/-- An island's ageing sensor reads `v`. Monitors of an island that is not in RUN or IDLE are not read (R472). -/
def islandMonitor (e : Nat × Nat) (s : State) : State :=
  if islandCodes.contains e.1 = false ∨ isRun e.1 s = false then s
  else
    let k := monKey 0 e.1
    let r := monSet k k (decide (roWarn s ≤ e.2)) (decide (roAct s ≤ e.2)) (inRunNow e.1 s) (e.2 % 2 ^ 16) s
    if r.1 = false then r.2
    else if isLaneIsl e.1 = true ∧ laneAuto (e.1 - 0x10) r.2 = true then
      runAct { kind := 1, cause := 0, obj := e.1, addr := 0 } r.2
    else if isHmpIsl e.1 = true ∧ autoBit F.SV_CFG_AUTO_HMP r.2 = true then
      runAct { kind := 5, cause := 0, obj := e.1, addr := 0 } r.2
    else r.2

/-- An engine's sensor reads `v`, and it has corrected `rf` register-file errors in this clock hour (R475). -/
def engineMonitor (e : Nat × Nat × Nat) (s : State) : State :=
  if 408 ≤ e.1 ∨ isRun 2 s = false then s
  else
    let k := monKey 1 e.1
    let r := monSet k k (decide (roWarn s ≤ e.2.1)) (decide (roAct s ≤ e.2.1)) (inRunNow 2 s) (e.2.1 % 2 ^ 16) s
    let q := monSet k (k + 2 ^ 20) (decide (roWarn s ≤ e.2.1)) (decide (16 ≤ e.2.2)) (inRunNow 2 s) (e.2.1 % 2 ^ 16) r.2
    if (r.1 || q.1) = true ∧ autoBit F.SV_CFG_AUTO_ENG q.2 = true then
      runAct { kind := 2, cause := if r.1 then 0 else 2, obj := e.1, addr := 0 } q.2
    else q.2

/-- SRAM_THR; 0 counts as 1. -/
def sramThr (s : State) : Nat := max 1 (fg (loc .SV_SRAM_THR) F.SV_SRAM_THR_SRAM_THR s)

/-- The largest count that a macro shows in a reading. -/
def macroMost (m : Nat) (ms : List (Nat × Bool × Nat × Nat)) : Nat :=
  ms.foldl (fun a e => if e.1 % 2 ^ 17 = m then max a e.2.2.2 else a) 0

/-- Key under which a row or column of a macro has reached ACT. -/
def sramKey (e : Nat × Bool × Nat × Nat) : Nat := 2 ^ 21 + (2 * (e.1 % 2 ^ 17) + b2n e.2.1) * 2 ^ 13 + e.2.2.1 % 2 ^ 13

/-- Rows and columns that a reading does not list have corrected nothing this hour: they are below the threshold again, and
their macros read 0 (R470, R472). -/
def sramQuiet (ms : List (Nat × Bool × Nat × Nat)) (s : State) : State :=
  let keys := ms.map sramKey
  let gone (x : Nat) : Bool := decide (2 ^ 21 ≤ x) && isRun ((x - 2 ^ 21) / 2 ^ 23 % 256) s && !keys.contains x
  let still (k : Nat) : Bool := decide (k / 2 ^ 17 = 2) && isRun (k % 2 ^ 17 / 512) s
  setSv { s.sv with acted := s.sv.acted.filter (fun x => !gone x)
                    started := s.sv.started.filter (fun x => !gone x)
                    mon := s.sv.mon.filter (fun e => !still e.1) } s

/-- A macro's row or column (`col`) at `addr` has shown `n` corrected errors in this clock hour: macro as island and
number; `most` is the largest count of the macro. -/
def sramMonitor (most : Nat → Nat) (e : Nat × Bool × Nat × Nat) (s : State) : State :=
  let i := e.1 / 512 % 256
  let m := e.1 % 2 ^ 17
  if isRun i s = false then s
  else
    let n := e.2.2.2
    let r := monSet (monKey 2 m) (sramKey e) false (decide (sramThr s ≤ n)) (inRunNow i s) (min 255 (most m)) s
    if r.1 = true ∧ autoBit F.SV_CFG_AUTO_SRAM r.2 = true then
      runAct { kind := if e.2.1 then 4 else 3, cause := 2, obj := m, addr := e.2.2.1 % 2 ^ 13 } r.2
    else r.2

/-- WEAR_MONITOR_READ: what the monitors read, once per second, lanes in ascending order (R474). Waiting actions are
tried again, and a port substitution takes up the channels it left. (DEDUCED: log entry 84.) -/
def wearRead (is_ : List (Nat × Nat)) (es : List (Nat × Nat × Nat)) (ms : List (Nat × Bool × Nat × Nat)) (s : State) :
    State :=
  if coldHeld s ∨ (isl 0 s).st ≠ .run then s
  else
    retryActs (fun _ => true) s |> forEach (sortBy (fun a b => decide (a.1 ≤ b.1)) is_) islandMonitor
      |> forEach es engineMonitor |> sramQuiet ms |> forEach ms (sramMonitor (fun m => macroMost m ms))
      |> fun t => hmpNext (setSv { t.sv with hmpKept := [] } t)

/-- EYE_REFRESH of lane `n` (R470): eye height and width in the units of LN_EYE. (DEDUCED: log entry 84.) -/
def eyeRefresh (n h w : Nat) (s : State) : State :=
  if fb (loc .LN_STATUS n) F.LN_STATUS_CDR_LOCK s = false ∨ isRun (laneIsland n) s = false then s
  else
    let s1 := wr (loc .LN_EYE n) (h % 2 ^ 16 * 2 ^ 16 + w % 2 ^ 16) s
    let a := loc .SV_EYE_THR
    let low := decide (h % 2 ^ 16 < fg a F.SV_EYE_THR_EYE_H_MIN s) || decide (w % 2 ^ 16 < fg a F.SV_EYE_THR_EYE_W_MIN s)
    let c := if low then sget 0 s.sv.eyeLow n + 1 else 0
    let hit := decide (max 1 (fg (loc .SV_CFG) F.SV_CFG_EYE_HOLD s) ≤ c)
    let k := monKey 3 n
    let new := hit && !s.sv.acted.contains k
    let s2 := setSv { s1.sv with
        eyeLow := sput 0 s1.sv.eyeLow n (min c 65535)
        acted := if low then (if new then k :: s1.sv.acted else s1.sv.acted) else s1.sv.acted.filter (· != k) } s1
      |> doIf new (fun t => setFlag (loc .LN_EVENT n) F.LN_EVENT_EYE_LOW t |> bump (cLane n 7) |> setFlag (loc .SV_EVENT) F.SV_EVENT_ACT)
    if new = true ∧ laneAuto n s2 = true then runAct { kind := 1, cause := 1, obj := laneIsland n, addr := 0 } s2 else s2

/-! ## Other ends of actions -/

/-- ENGINE_SUBST_DONE: the engine is retired; its cluster takes a request that waited (R475). -/
def engineDone (cl : Nat) (s : State) : State :=
  let o := (s.dp.subst.find? (fun x => x.cluster == cl)).map (fun x => 17 * cl + x.engine)
  let s1 := substDone cl s
  if substBusy cl s1 then s1
  else
    let s2 := match o with
      | some e =>
        (match s1.sv.engActs.find? (fun x => x.1 == e) with
         | some x => setSv { s1.sv with engActs := s1.sv.engActs.filter (fun y => y.1 != e) } s1
             |> setFlag (loc .SV_EVENT) F.SV_EVENT_SUBST_DONE |> svLast 2 x.2 outDone e
         | none => s1)
      | none => s1
    retryActs (fun a => a.kind == 2 && a.obj / 17 == cl) s2

/-- ENGINE_FAULT (R221): the frames in the engine's contexts end with ENGINE_ERROR and the spare takes its place, as
an action of cause fault. (DEDUCED: log entry 42.) -/
def engineFaulted (cl e : Nat) (s : State) : State :=
  let had := substBusy cl s = false ∧ spareEng cl s ≠ 0x1F
  let s1 := engineFault cl e s
  if had then
    setSv { s1.sv with engActs := s1.sv.engActs ++ [(17 * cl + e, 3)] } s1
      |> setFlag (loc .SV_EVENT) F.SV_EVENT_SUBST_START |> svLast 2 3 outRunning (17 * cl + e)
  else svLast 2 3 outNoSpare (17 * cl + e) s1

/-- WAKE_STEP_DONE: when the wake reaches RUN, the actions that waited for it are tried (R472). -/
def wakeStep (c : Nat) (s : State) : State :=
  let s1 := wakeStepDone c s
  if (seqOf c s).isSome = true ∧ (seqOf c s1).isNone = true then retryActs (fun _ => true) s1 else s1

/-! ## SV registers -/

/-- SV_LMAPw as read. -/
def readLmap (w : Nat) (s : State) : Nat :=
  (List.range (if w = 3 then 3 else 5)).foldl (fun a j => a + physOf (5 * w + j) s % 32 * 2 ^ (6 * j)) 0

/-- A lane map that R480 refuses: one physical lane twice, or a retired lane. -/
def lmapBad (s : State) : Bool :=
  let ps := ((List.range 18).map (fun l => physOf l s)).filter (· != 0x1F)
  !distinct ps || ps.any (fun n => bit (fg (loc .SV_RETIRED) F.SV_RETIRED_RETIRED s) n)

/-- A write of SV_LMAP0 to SV_LMAP3, or of SV_RETIRED as word 4 (R480); none where it is refused. -/
def writeLmap (w data : Nat) (s : State) : Option State :=
  let s1 := if w = 4 then fs (loc .SV_RETIRED) F.SV_RETIRED_RETIRED (data % 2 ^ 18) s
    else forEach (List.range (if w = 3 then 3 else 5)) (fun j t => mapLane (5 * w + j) (bits data (6 * j + 4) (6 * j)) t) s
  if fb (loc .BT_STATUS) F.BT_STATUS_RELEASED s = true ∨ lmapBad s1 = true then none else some s1

/-- Byte address of SV_LMAPw, and of SV_RETIRED as word 4. -/
def lmapLoc (w : Nat) : Nat := if w = 4 then loc .SV_RETIRED else loc .SV_LMAP 0 w

/-- A write of SV_RO_THR; none with ACT ≤ WARN. -/
def writeRoThr (data : Nat) (s : State) : Option State :=
  if bits data 15 8 ≤ bits data 7 0 then none else some (plainWrite .SV_RO_THR (loc .SV_RO_THR) data s)

/-- SV_SPARES as read (R468). -/
def readSpares (s : State) : Nat :=
  ((List.range 18).filter (fun n => laneRole n s == 1)).length * 2 ^ 27 +
    ((List.range 24).filter (fun c => spareEng c s != 0x1F)).length * 2 ^ 22 +
    b2n (hmpSpare s).isSome * 2 ^ 21 + (4096 - s.sv.poolRet) / 16 * 2 ^ 12 + (128 - s.sv.learnRet)

/-- SV_MON as read: the selected monitor's last reading. -/
def readMon (s : State) : Nat :=
  let a := loc .SV_MON_SEL
  let kind := fg a F.SV_MON_SEL_KIND s
  let i := fg a F.SV_MON_SEL_INDEX s
  let k := monKey kind i
  let v := sget 0 s.sv.mon k
  let act := if kind = 2 then s.sv.acted.any (fun x => decide (2 ^ 21 ≤ x) && (x - 2 ^ 21) / 2 ^ 14 == i)
    else s.sv.acted.contains k || (kind == 1 && s.sv.acted.contains (k + 2 ^ 20))
  b2n act * 2 ^ 31 + b2n (s.sv.warned.contains k) * 2 ^ 30 +
    (if kind = 2 then spareRows i s * 2 ^ 12 + spareCols i s * 2 ^ 8 + v else v)

/-! ## Meanings -/

/-- ENGINE_SUBST_DONE. -/
def execEngineSubstDone (cl : Nat) (s : State) : Host.Outcome State Fault Refusal := done (engineDone (cl % 24) s)
/-- ENGINE_FAULT. -/
def execEngineFault (cl e : Nat) (s : State) : Host.Outcome State Fault Refusal := done (outOfReset (engineFaulted (cl % 24) (e % 17)) s)
/-- CHMAP_WRITE (R317). -/
def execChmapWrite (m : Master) (w : Nat) (data : W32) (s : State) : Host.Outcome State Fault Refusal :=
  done (ctlWrite m (loc .HP_CHMAP 0 (w % 4)) data.toNat (fun t => some (writeChmap (w % 4) data.toNat t)) s)
/-- CHMAP_TAKE_EFFECT (R317). -/
def execChmapTakeEffect (n : Nat) (s : State) : Host.Outcome State Fault Refusal := done (chmapEffect (n % 64) s)
/-- LANE_SUBST_STEP_DONE, of the substitution of physical lane `n`. -/
def execLaneSubstStepDone (n : Nat) (s : State) : Host.Outcome State Fault Refusal := done (substStep n s)
/-- EYE_REFRESH. -/
def execEyeRefresh (n h w : Nat) (s : State) : Host.Outcome State Fault Refusal := done (eyeRefresh (n % 18) h w s)
/-- WEAR_MONITOR_READ. -/
def execWearMonitorRead (is_ : List (Nat × Nat)) (es : List (Nat × Nat × Nat)) (ms : List (Nat × Bool × Nat × Nat))
    (s : State) : Host.Outcome State Fault Refusal := done (wearRead is_ es ms s)
/-- SRAM_REPAIR_DONE in island `i`. -/
def execSramRepairDone (i : Nat) (s : State) : Host.Outcome State Fault Refusal := done (repairDone i s)
/-- HMP_MOVE_TIMEOUT. -/
def execHmpMoveTimeout (s : State) : Host.Outcome State Fault Refusal := done (hmpTimeout s)
/-- LMAP_WRITE: SV_LMAPw, or SV_RETIRED as word 4. -/
def execLmapWrite (m : Master) (w : Nat) (data : W32) (s : State) : Host.Outcome State Fault Refusal :=
  done (ctlWrite m (lmapLoc (w % 5)) data.toNat (writeLmap (w % 5) data.toNat) s)
/-- REPAIR_APPLY: a write of SV_REPAIR_CMD. -/
def execRepairApply (m : Master) (data : W32) (s : State) : Host.Outcome State Fault Refusal :=
  done (ctlWrite m (loc .SV_REPAIR_CMD) data.toNat (writeRepair data.toNat) s)
/-- REPAIR_READ: a write of SV_REPAIR_CMD. -/
def execRepairRead (m : Master) (data : W32) (s : State) : Host.Outcome State Fault Refusal :=
  done (ctlWrite m (loc .SV_REPAIR_CMD) data.toNat (writeRepair data.toNat) s)

end Sys2Proof.Machine
end

