-- ==== Sys2Proof/Machine/Duo.lean ====
section
/-!
DEFINITION. The Duo pair (spec/19): heartbeats, the lease, failover triggers, fencing, takeover, the surrender of a former
active, and the way to a protected pair as far as the active makes it. What the block does with an arriving flit is in
DuoRx.lean.
-/

namespace Sys2Proof.Machine

/-! ## Registers -/

/-- UNIT (R483). -/
def duUnit (s : State) : Nat := fg (loc .DU_STATUS) F.DU_STATUS_UNIT s
/-- DMP_UP: a flit has arrived within 1 ms. -/
def dmpUp (s : State) : Bool := fb (loc .DU_STATUS) F.DU_STATUS_DMP_UP s
def duFlag (f : Fld) (s : State) : State := setFlag (loc .DU_EVENT) f s

/-- Move to a pair state (R485); entering and leaving PROTECTED are shown in DU_EVENT, and FENCED lowers READY (R491). -/
def setPairState (v : Nat) (s : State) : State :=
  let old := duPair s
  if old = v then s else
  { s with pins := { s.pins with fenced := v == 3 } }
    |> fs (loc .DU_STATUS) F.DU_STATUS_PAIR v
    |> doIf (v == 2) (duFlag F.DU_EVENT_PROTECTED)
    |> doIf (old == 2) (duFlag F.DU_EVENT_UNPROTECTED)
    |> doIf (v == 3) (duFlag F.DU_EVENT_FENCED)

/-- DU_JOURNAL as it reads. -/
def readJournal (s : State) : Nat := s.du.txSeq % 65536 * 65536 + s.du.acked % 65536

/-- DU_STATUS as it reads. -/
def readDuStatus (s : State) : Nat := putBits (rd (loc .DU_STATUS) s) F.DU_STATUS_REPLAY s.du.replay.length

/-! ## The lease (R491) -/

def leaseAddr (s : State) : Nat := rd64 (loc .DU_LEASE_ADDR) s / 64 * 64

/-- Channel of the lease accesses: that of the steward, whose accesses are physical too. -/
def leaseChan (s : State) : Nat := if s.pins.everReady then 47 else 63

/-- A lease access is outstanding. -/
def leaseBusy (s : State) : Bool := s.host.reqs.any (fun r => r.purpose == .leaseRead || r.purpose == .leaseWrite)

/-- Read the lease record. (DEDUCED: log entry 51.) -/
def leaseRead (s : State) : State :=
  if leaseBusy s then s
  else access { chan := leaseChan s, func := 0, iova := leaseAddr s, len := 64, purpose := .leaseRead, phys := true } s

/-- Write the lease record: COUNT, HOLDER and EPOCH, reserved bytes 0. (DEDUCED: log entry 51.) (DEDUCED: log entry
89.) -/
def leaseWrite (count epoch : Nat) (s : State) : State :=
  { s with du := { s.du with count := count % 2 ^ 64, holder := duUnit s, epoch := epoch % 2 ^ 64 } }
    |> access { chan := leaseChan s, func := 0, iova := leaseAddr s, len := 64, write := true, purpose := .leaseWrite, phys := true,
                data := bytesLE 8 count ++ bytesLE 8 (duUnit s) ++ bytesLE 8 epoch ++ bytesLE 40 0 }

/-- LEASE_RENEW: the active of a PROTECTED pair reads the record, to renew it; a FENCED one, to see whether it may leave that
state (R491). -/
def leaseRenew (s : State) : State :=
  if duRole s = 1 ∧ (duPair s = 2 ∨ duPair s = 3) ∧ s.du.phase ≠ .gaveUp ∧ s.du.phase ≠ .draining then leaseRead s else s

/-- LEASE_READ, of the STANDBY block (R491). (DEDUCED: log entry 89.) -/
def leaseReadStandby (s : State) : State := if duRole s = 2 ∧ duPair s = 2 then leaseRead s else s

/-- The lease record has been read. A FENCED block that returns to PROTECTED sends the records that waited. (DEDUCED: log
entry 89.) -/
def leaseArrived (b : Bytes) (s : State) : State :=
  let count := u b 0 8
  let holder := u b 8 1
  let epoch := u b 16 8
  let same := if count = s.du.count then s.du.same + 1 else 0
  let s1 := { s with du := { s.du with count := count, holder := holder, epoch := epoch, same := same } }
  if duRole s = 1 then
    if duPair s = 2 then
      if holder ≠ duUnit s then setPairState 3 s1 else leaseWrite (count + 1) epoch s1
    else if duPair s = 3 ∧ duStops s = false ∧ holder = duUnit s ∧ dmpUp s = true then
      leaseWrite (count + 1) epoch (passRecords (setPairState 2 s1))
    else s1
  else s1

/-- LEASE_FENCE_TIMEOUT: no renewal write response for 150 µs (R491). -/
def leaseFence (s : State) : State := if duRole s = 1 ∧ duPair s = 2 then setPairState 3 s else s

/-! ## Former active (R496) -/

/-- Take the STANDBY role: the queue contexts are discarded, and with them every frame on its way, the dump in progress and a
lease renewal that is not issued; links stay (R495, R496). -/
def surrender (s : State) : State :=
  let lost := s.dp.frames.length
  let s1 := { s with
    host := { s.host with reqs := s.host.reqs.filter (fun r => r.isOut || (r.phys && r.purpose != .leaseWrite)) },
    wq := { Wq.reset with nextExec := s.wq.nextExec, nextFence := s.wq.nextFence, nextOut := s.wq.nextOut },
    ev := { s.ev with sils := [], windows := [], rebinds := [] },
    adm := [], te := [],
    dp := { s.dp with
      frames := [], line := [], ctxs := [],
      rx := s.dp.rx.map (fun p => (p.1, { p.2 with cur := none, asm := none })),
      tx := s.dp.tx.map (fun p => (p.1, { p.2 with cur := none, opened := none, cutDue := false })) },
    sc := { s.sc with fifo := [], ports := s.sc.ports.map (fun p => (p.1, { p.2 with sels := [], past := [] })) },
    pc := { s.pc with dump := { s.pc.dump with
      phase := .idle, shadow := [], record := 0, outRecs := 0, status := 0, parkPark := false, parkFault := false,
      waiting := [], newCfg := none } },
    tab := { s.tab with acking := none },
    du := { s.du with
      phase := .none, cmd := none, replay := [], held := [], txSeq := 0, acked := 0, rxSeq := 0, gap := false,
      flips := [], todo := [], waits := [], mirror := [], same := 0 } }
  setPairState 0 s1
    |> fs (loc .DU_STATUS) F.DU_STATUS_ROLE 2
    |> fs (loc .DU_FLUSH) F.DU_FLUSH_LOST (min 255 (fg (loc .DU_FLUSH) F.DU_FLUSH_LOST s + lost))
    |> forEach [1, 2] (fun p => setAdmState p 0)
    |> forEach (List.range 16) (fun i t => setTeState (48 + i) 0 t)

/-! ## Takeover (R494, R495) -/

/-- A takeover is due, its trigger instant now (R492). (DEDUCED: log entry 90.) -/
def trigger (code : Nat) (ph : DuPhase) (s : State) : State :=
  { s with du := { s.du with phase := ph, trigger := code, triggerAt := s.tb.time } }

/-- Step 5: one scan of every queue and general channel, and the doorbells recorded (R486, R494, R495); a pair that was draining
goes on. `replay` says that a mirror is taken over: what the scans accept is executed again (R493). -/
def takeoverScans (replay : Bool) (s : State) : State :=
  let qs := (s.wq.sqs.filter (fun p => p.2.state == .active)).map (·.1)
  let ts := ((List.range 16).map (48 + ·)).filter (fun n => teState n s == 1 || teState n s == 2)
  let bells := s.pw.bells
  { s with du := { s.du with again := if replay then qs ++ ts.map (65536 + ·) else [] }, pw := { s.pw with bells := [] } }
    |> forEach (s.ev.sils.map (·.1)) silScanStart
    |> forEach (s.wq.cqs.map (·.1)) cqScanStart
    |> forEach [1, 2] (fun p t =>
        if admState p t = 3 then
          doIf replay (fun v => admFinalNext p (getPair p v).sqPos (setPair p { getPair p v with finalDone := false } v)) t
        else admScanStart p (admCqScanStart p t))
    |> forEach qs sqScanStart
    |> forEach ts teScanStart
    |> forEach bells (fun b t => ringQueue b.1 b.2 t)

/-- Steps 4 and 5: the block takes the ACTIVE role, the pair is UNPROTECTED, and the datapath resumes (R494, R495).
(DEDUCED: log entry 90.) -/
def becomeActive (s : State) : State :=
  let d := s.du
  let s1 := { s with
    du := { d with
      phase := .none, cmd := none, mirror := [], todo := [], rxSeq := 0, gap := false, same := 0, txSeq := 0,
      acked := 0, replay := [], held := [], flips := [], waits := [] },
    tab := { s.tab with holds := [] } }
  setPairState 0 s1
    |> fs (loc .DU_STATUS) F.DU_STATUS_ROLE 1
    |> fs (loc .DU_LAST_FAIL) F.DU_LAST_FAIL_TRIGGER d.trigger
    |> fs (loc .DU_LAST_FAIL) F.DU_LAST_FAIL_EPOCH d.epoch
    |> wr64 (loc .DU_LAST_FAIL_TS) (time64 d.triggerAt)
    |> bucketsRestart |> metersRestart
    |> privEdge 5 |> alert F.GL_ALERT_DUO |> duFlag F.DU_EVENT_TAKEOVER
    |> dumpPlan 0
    |> takeoverScans (duPair s == 2)
    |> finishOpt d.cmd St.ok 0

/-- Step 3: complete the admin commands of the former active (R494). -/
def takeoverFlush (s : State) : State :=
  let m := s.du.mirror
  { s with du := { s.du with phase := .flush, mirror := [] } }
    |> fs (loc .DU_FLUSH) F.DU_FLUSH_FLUSHED (min 255 (fg (loc .DU_FLUSH) F.DU_FLUSH_FLUSHED s + m.length))
    |> forEach m (fun a t =>
        let k := getPair a.1 t
        let c := { newCmd k.nextCmd a.2.pos (bytesLE 64 a.2.raw.toNat) with phase := CmdPhase.running }
        setPair a.1 { k with cmds := k.cmds ++ [c], nextCmd := k.nextCmd + 1, credit := k.credit + 1 } t
          |> finishCmd a.1 c.id St.flushed 0 0)
    |> forEach [1, 2] flushFinished

/-- No admin completion or release of step 3 is outstanding. -/
def flushed (s : State) : Bool :=
  [1, 2].all (fun p => (getPair p s).cmds.all (fun c => c.phase == .running || c.phase == .waiting))

/-- Go on with a takeover whose present step has nothing left to wait for. -/
def takeoverNext (s : State) : State :=
  let s1 := if s.du.phase = .flips ∧ s.du.todo = [] then takeoverFlush s else s
  if s1.du.phase = .flush ∧ flushed s1 = true then becomeActive s1 else s1

/-- TAKEOVER: step 1, the lease (R494). (DEDUCED: log entry 90.) -/
def takeover (s : State) : State :=
  if duRole s = 2 ∧ s.du.phase = .due then
    leaseWrite s.du.count (s.du.epoch + 1) { s with du := { s.du with phase := .takeLease } }
  else s

/-- A lease write has its response; one that failed at a takeover is made again, and a failed renewal renews nothing. -/
def leaseWritten (err : Bool) (s : State) : State :=
  if s.du.phase = .takeLease then
    if err then leaseWrite s.du.count s.du.epoch s else takeoverNext { s with du := { s.du with phase := .flips } }
  else s

/-! ## Triggers (R492, R493) -/

/-- COUNT was the same at each lease read of the last 200 µs: five reads 50 µs apart (R492). -/
def leaseStale (s : State) : Bool := decide (4 ≤ s.du.same)

/-- Heartbeat loss starts a takeover where the lease has not been renewed (R79, R492). -/
def heartbeatTrigger (s : State) : State :=
  if duRole s = 2 ∧ duPair s = 2 ∧ s.du.phase = .none ∧ leaseStale s = true then trigger 1 .due s else s

/-- HEARTBEAT_LOSS_TRIGGER: no flit for 1 ms, and COUNT unchanged (R492). -/
def heartbeatLoss (s : State) : State := if dmpUp s then s else heartbeatTrigger s

/-- A STANDBY block that is UNPROTECTED holds no mirror (R485): its queue contexts, table, scheduler, programs and dump ring go.
Mirrored registers keep their values. (DESIGN CHOICE: log entry 87.) -/
def dropMirror (s : State) : State :=
  { s with
    wq := { Wq.reset with nextExec := s.wq.nextExec, nextFence := s.wq.nextFence, nextOut := s.wq.nextOut },
    ev := { s.ev with sils := [], routes := [], windows := [], rebinds := [] },
    adm := [], te := [],
    tab := { s.tab with ways := [], pend := [], holds := [], meters := [] },
    sc := { s.sc with nodes := [], force := [] },
    dp := { s.dp with store := [], entry := [] },
    pc := { s.pc with dump := Dump.reset },
    du := { s.du with rxSeq := 0, gap := false, todo := [], mirror := [], same := 0 } }
    |> forEach [1, 2] (setAdmState · 0)
    |> forEach (List.range 16) (fun i t => setTeState (48 + i) 0 t)

/-- What silence on DMP for 1 ms means (DU_EVENT PARTNER_LOST, R497): the lease of a PROTECTED pair being renewed still; a
DUO_PROTECT in SYNCING ends. -/
def silenceEffects (s : State) : State :=
  let s1 := doIf (duPair s == 2 && !(duRole s == 2 && leaseStale s)) (duFlag F.DU_EVENT_PARTNER_LOST) s
  if duPair s1 = 1 then
    let c := s1.du.cmd
    setPairState 0 { s1 with du := { s1.du with
        phase := .none, cmd := none, replay := [], held := [], mirror := [], rxSeq := 0, gap := false } }
      |> doIf (duRole s == 2) dropMirror
      |> finishOpt c St.adminNotFound 0
  else s1

/-- DMP_SILENCE: DMP_UP falls. -/
def dmpSilence (s : State) : State := if duRole s = 0 then s else silenceEffects (fs (loc .DU_STATUS) F.DU_STATUS_DMP_UP 0 s)

/-- DMP_CREDIT_STARVATION: flits wait and no credit is held for 1 ms, which is heartbeat loss (R79). -/
def creditStarvation (s : State) : State :=
  if s.du.txq ≠ [] ∧ s.du.credits = 0 then heartbeatTrigger (silenceEffects s) else s

/-- DMP_HEARTBEAT_SEND: nothing has been sent for 1 µs (R79). -/
def heartbeatSend (s : State) : State := if s.du.txq = [] then sendFlit .heartbeat s else s

/-- The active stops selecting and issuing requests, and will answer FENCED (R492). -/
def giveUp (code : Nat) (s : State) : State := { s with du := { s.du with phase := .draining, trigger := code } }

/-- FATAL_FAULT: GL_ALERT FATAL, and in a PROTECTED pair the active's FATAL flit and its drain (R492), whether or not it has
fenced itself or is draining already. -/
def fatalFault (s : State) : State :=
  let s1 := alert F.GL_ALERT_FATAL s
  if duRole s = 1 ∧ (duPair s = 2 ∨ duPair s = 3) then
    let s2 := sendFlit .fatal s1
    if s.du.phase = .gaveUp then s2 else giveUp 3 s2
  else s1

/-- FENCE_WAIT_TIMEOUT: 25 µs have passed since the trigger (R493). -/
def fenceWaitTimeout (s : State) : State :=
  if duRole s = 2 ∧ s.du.phase = .waitFenced then { s with du := { s.du with phase := .due } } else s

/-- DUO_FAILOVER, command `k` of pair `p` (R313, R493). -/
def duoFailover (p k : Nat) (s : State) : State :=
  if duRole s ≠ 2 then finishCmd p k St.adminWrongRole 0 0 s
  else if duPair s = 1 ∨ s.du.phase ≠ .none then finishCmd p k St.adminBusy 0 0 s
  else if duPair s = 0 then becomeActive { (trigger 2 .none s) with du := { (trigger 2 .none s).du with cmd := some (p, k) } }
  else if dmpUp s = false then finishCmd p k St.adminBusy 0 0 s
  else
    let s1 := trigger 2 .waitFenced s
    sendFlit .takeover { s1 with du := { s1.du with cmd := some (p, k) } }

/-! ## Mirrored state (R486, R488, R497) -/

/-- Counter families that the active journals (R488). -/
def counterSent (i : Nat) : Bool :=
  decide (i < 0x3000) || (decide (0x32C0 ≤ i) && decide (i < 0x3380)) || (decide (0x33A0 ≤ i) && decide (i < 0x33C0))

/-- COUNTER_JOURNAL: the deltas since the last one (R488). -/
def counterJournal (s : State) : State :=
  if journaling s then
    let now := s.pc.val.filter (fun c => counterSent c.1)
    let ds := (now.map (fun c => (c.1, (c.2 + 2 ^ 48 - sget 0 s.du.told c.1) % 2 ^ 48))).filter (fun c => c.2 != 0)
    let s1 := { s with du := { s.du with told := now } }
    if ds = [] then s1 else journal (.counter ds) s1
  else s

/-- Position of a queue's oldest entry that is not released (R495). -/
def sqOldest (q : Nat) (s : State) : Nat :=
  match s.wq.execs.find? (fun e => e.sq == q) with
  | some e => e.pos
  | none => (getSq q s).pos

/-- State of a queue as a takeover finds it: a reset or a destroy whose COMMAND is not acknowledged has no effect (R494), so
that the queue is as it was. -/
def unaborted (st : QState) (err : Nat) : QState :=
  if st = .resetting ∨ st = .destroying then (if err = 0 then .active else .stopped) else st

/-- Positions as snapshot records, those of completion rings at the slot after the last one flipped: kinds 1 submission
queue, 2 completion queue, 3 Sillage queue, 4 admin pair, 5 general channel. -/
def snapPositions (s : State) : List JRec :=
  s.wq.sqs.map (fun q => .snap 1 q.1
    [(unaborted q.2.state q.2.err).code, b2n q.2.rx, q.2.base, q.2.logSize, q.2.func, q.2.handle, q.2.cq, q.2.hold, b2n q.2.snoop, q.2.parent,
     q.2.band, sqOldest q.1 s, q.2.err]) ++
  s.wq.cqs.map (fun c => .snap 2 c.1
    [(unaborted c.2.state c.2.err).code, c.2.base, c.2.logSize, c.2.func, c.2.handle, b2n c.2.rsv, b2n c.2.silValid, c.2.sillage,
     ringBack c.2.prod (c.2.outWrites + unissued (ofCq c.1) s) c.2.logSize, c.2.episodes, c.2.err]) ++
  s.ev.sils.map (fun q => .snap 3 q.1
    [if q.2.state = .active then 1 else 2, q.2.func, q.2.target, q.2.logSize, q.2.base,
     ringBack q.2.prod q.2.outRecs q.2.logSize, q.2.seq, q.2.lost, q.2.modTime, q.2.modCount]) ++
  s.adm.map (fun p => .snap 4 p.1
    [match p.2.cmds with | c :: _ => c.pos | [] => p.2.sqPos,
     ringBack p.2.cqProd (p.2.outWrites + unissued (ofAdm p.1) s) (admCqLog p.1 s), b2n p.2.silValid, p.2.sillage]) ++
  s.te.map (fun t => .snap 5 t.1
    [if t.2.phase = .none then (match t.2.cache with | d :: _ => d.1 | [] => tePos t.1 s) else t.2.pos, teState t.1 s])

/-- The other mirrored state: kinds 0 register word, 6 group, 7 member, 8 meter, 9 scheduler record, 10 calendar,
11 program store, 12 entry table, 13 dump configuration, 14 counter, 15 route, 16 pending calendar, 17 wake filter word; and
table entries, those that are pending among them, and admin entries. -/
def snapState (s : State) : List JRec :=
  (s.regs.filter (fun p => configPage (p.1 / 4096))).map (fun p => .snap 0 p.1 [p.2.toNat]) ++
  s.wq.groups.map (fun g => .snap 6 g.1 [b2n g.2.valid, g.2.base, g.2.logSize]) ++
  s.wq.members.map (fun m => .snap 7 m.1 [b2n m.2.1, m.2.2]) ++
  s.tab.meters.map (fun m => .snap 8 m.1 (m.2.cfg.map (·.toNat))) ++
  s.sc.nodes.map (fun n => .snap 9 n.1 (n.2.map (·.toNat))) ++
  s.sc.ports.filterMap (fun p => p.2.active.map (fun c =>
    .snap 10 p.1 (c.start :: c.cycle :: c.entries.flatMap (fun e => [e.1, e.2])))) ++
  s.sc.ports.filterMap (fun p => p.2.pendingCal.map (fun c =>
    .snap 16 p.1 (c.1.start :: c.1.cycle :: c.2.1 :: c.1.entries.flatMap (fun e => [e.1, e.2])))) ++
  s.dp.wake.map (fun w => .snap 17 w.1 [w.2]) ++
  s.dp.store.map (fun e => .snap 11 e.1 [e.2]) ++
  s.dp.entry.map (fun e => .snap 12 e.1 [e.2]) ++
  [.snap 13 0 [b2n s.pc.dump.enable, s.pc.dump.period, s.pc.dump.base, s.pc.dump.logSlots, s.pc.dump.sillage, s.pc.dump.func,
    b2n s.pc.dump.named, s.pc.dump.slot, s.pc.dump.seq]] ++
  (s.pc.val.filter (fun c => counterSent c.1)).map (fun c => .snap 14 c.1 [c.2]) ++
  s.ev.routes.map (fun r => .snap 15 r.1 [r.2]) ++
  s.tab.ways.filterMap (fun w => w.2.map (fun e => .table 0 (BitVec.ofNat 80 e.key) e.target e.meter e.action e.static)) ++
  s.tab.pend.map (fun w => .table 0 (BitVec.ofNat 80 w.2.key) w.2.target w.2.meter w.2.action w.2.static) ++
  s.adm.flatMap (fun p => (p.2.cmds.filter (fun c => c.phase != .releasing)).map (fun c => .accepted p.1 c.entry))

/-- DUO_PROTECT, command `k` of pair `p` (R313, R497). -/
def duoProtect (p k : Nat) (s : State) : State :=
  if duRole s ≠ 1 then finishCmd p k St.adminWrongRole 0 0 s
  else if leaseAddr s = 0 then finishCmd p k St.adminBadParameter 0 0 s
  else if dmpUp s = false then finishCmd p k St.adminNotFound 0 0 s
  else if s.du.partner ≠ (2, 0) ∨ duPair s ≠ 0 then finishCmd p k St.adminBusy 0 0 s
  else
    let s1 := setPairState 1 { s with du := { s.du with
      phase := .snapshot, cmd := some (p, k), txSeq := 0, acked := 0, replay := [], held := [], flips := [], waits := [],
      told := s.pc.val.filter (fun c => counterSent c.1) } }
    let s2 := forEach (snapState s1 ++ snapPositions s1) journal s1
    { s2 with du := { s2.du with snapSeq := s2.du.txSeq } }

/-- Writes that give a structure to software, and releases, that are issued and not answered (R497 step 2). -/
def ownFlips (s : State) : Bool :=
  s.host.reqs.any (fun r => match r.purpose with
    | .completion _ _ => !isFlip r || (match r.phase with | .out _ _ _ => true | _ => false)
    | .admCompl _ _ => !isFlip r || (match r.phase with | .out _ _ _ => true | _ => false)
    | .silRec _ _ _ _ => !isFlip r || (match r.phase with | .out _ _ _ => true | _ => false)
    | .dumpHdrWrite => !isFlip r || (match r.phase with | .out _ _ _ => true | _ => false)
    | .teRelease _ => (match r.phase with | .out _ _ _ => true | _ => false)
    | .release _ => true
    | .admRelease _ _ => true
    | _ => false)

/-- A flip held through the cutover takes the form of R489: its body without the byte that holds DEV_OWNS, or, for a
general descriptor, READY in place of the release. -/
def reformFlip (r : Req) (s : State) : State :=
  match r.purpose with
  | .teRelease n => dropReq r.id s |> sendReady (.teRelease n) (.te n (getTe n s).pos)
  | _ => if r.tail.isSome then s
         else setReq { r with len := r.len - 1, data := r.data.dropLast, tail := r.data.getLast? } s

/-- The CUTOVER flit follows the records that wait, and both blocks are PROTECTED (R497 steps 2 and 3). -/
def cutoverSend (s : State) : State :=
  if s.du.phase = .positions ∧ s.du.held = [] then
    let s1 := setPairState 2 (sendFlit .cutover { s with du := { s.du with phase := .none, cmd := none } })
    forEach (s1.host.reqs.filter isFlip) reformFlip s1 |> finishOpt s.du.cmd St.ok 0
  else s

/-- The cutover's own flips and releases are answered: the positions go, and the cutover ends (R497 step 2). -/
def cutoverEnd (s : State) : State :=
  if s.du.phase = .cutover ∧ ownFlips s = false then
    let s1 := forEach (snapPositions s) journal s
    cutoverSend { s1 with du := { s1.du with phase := .positions } }
  else s

/-- CUTOVER: the partner has acknowledged the whole snapshot (R497 step 2). -/
def cutover (s : State) : State :=
  if s.du.phase = .acked then cutoverEnd { s with du := { s.du with phase := .cutover } } else s

/-! ## Commands -/

/-- DMP_HEARTBEAT_SEND. -/
def execDmpHeartbeatSend (s : State) : Host.Outcome State Fault Refusal := done (outOfReset heartbeatSend s)
/-- COUNTER_JOURNAL. -/
def execCounterJournal (s : State) : Host.Outcome State Fault Refusal := done (counterJournal s)
/-- LEASE_RENEW. -/
def execLeaseRenew (s : State) : Host.Outcome State Fault Refusal := done (leaseRenew s)
/-- LEASE_FENCE_TIMEOUT. -/
def execLeaseFenceTimeout (s : State) : Host.Outcome State Fault Refusal := done (leaseFence s)
/-- LEASE_READ. -/
def execLeaseRead (s : State) : Host.Outcome State Fault Refusal := done (leaseReadStandby s)
/-- HEARTBEAT_LOSS_TRIGGER. -/
def execHeartbeatLossTrigger (s : State) : Host.Outcome State Fault Refusal := done (heartbeatLoss s)
/-- FATAL_FAULT. -/
def execFatalFault (s : State) : Host.Outcome State Fault Refusal := done (if coldHeld s then s else fatalFault s)
/-- FENCE_WAIT_TIMEOUT. -/
def execFenceWaitTimeout (s : State) : Host.Outcome State Fault Refusal := done (fenceWaitTimeout s)
/-- TAKEOVER. -/
def execTakeover (s : State) : Host.Outcome State Fault Refusal := done (takeover s)
/-- CUTOVER. -/
def execCutover (s : State) : Host.Outcome State Fault Refusal := done (cutover s)

end Sys2Proof.Machine
end

