-- ==== Sys2Proof/Machine/Admin.lean ====
section
/-!
DEFINITION. Admin commands (spec/10): their checks in the order of R289, their effects, and the start, drain and completion of
the commands of a pair. `admEffect` is what a command does to the state that a Duo standby mirrors (R488); `applyCmd` is the
whole of it at the block that runs the command.
-/

namespace Sys2Proof.Machine

/-! ## Fields of an entry -/

/-- Bits of a parameter: first byte, and a mask of the bits that the command names there. -/
abbrev Par := Nat × Nat

/-- PARAM bits of an opcode (R297 to R313): every other bit of bytes 8 to 55 is reserved. (DEDUCED: log entry 62.) -/
def parMask (op : Nat) : List Par :=
  let w64 := 2 ^ 64 - 1
  let w32 := 2 ^ 32 - 1
  match op with
  | 0x01 => [(8, 0x7FFF), (10, 0xFFF), (12, 0x1FF), (14, 3), (15, 0x1F), (16, w64), (24, 0x3FFF), (26, 0x3FF), (28, 0xFFF), (30, 7)]
  | 0x02 => [(8, 0x7FFF), (10, 0xFFF), (12, 0x1FF), (14, 3), (15, 0x1F), (16, w64), (24, 0x3FFF)]
  | 0x03 => [(8, 0x7FFF)]
  | 0x04 => [(8, 0x7FFF)]
  | 0x05 => [(8, 0x7FFF)]
  | 0x06 => [(8, 0x7FFF)]
  | 0x07 => [(8, 0x3FF), (10, 0xFFF), (12, 0x3F), (15, 0x1F), (16, w64)]
  | 0x08 => [(8, 0x3FF)]
  | 0x09 => [(8, 0x7FFF), (10, 0x3FF), (12, 3)]
  | 0x0A => [(8, 0x3FF), (10, 0x3F)]
  | 0x0B => [(8, 0xFFFF), (10, 1), (11, 0xF), (12, 0x3FFFF)]
  | 0x0C => [(8, 0x3FFFF), (14, 0xFF), (16, 2 ^ 256 - 1)]
  | 0x10 => [(8, 2 ^ 80 - 1), (18, 0xFFFF), (20, 0xFFFF), (22, 0x5F)]
  | 0x11 => [(8, 2 ^ 80 - 1), (18, 0xFFFF), (20, 0xFFFF), (22, 0x5F), (23, 0xF)]
  | 0x12 => [(8, 2 ^ 80 - 1)]
  | 0x13 => [(8, 3)]
  | 0x14 => [(8, 0xFFFF), (10, 1), (16, 0x03FFFFFF), (20, 0xFFFFFF), (24, 0xFFFFFF), (28, 0xFFFFFF), (32, 0xFFFFFF)]
  | 0x20 => [(8, 3), (9, 1), (10, 0xFFFF), (16, 2 ^ 256 - 1)]
  | 0x21 => [(8, 0x3F), (10, 1), (12, 0xFFFF), (16, w64), (40, w64)]
  | 0x30 => [(8, 0xF), (9, 3)]
  | 0x31 => [(8, 0x1F), (9, 0x1F), (10, 3)]
  | 0x32 => [(8, 0x1F), (9, 0x1F)]
  | 0x33 => [(16, w64), (24, w32)]
  | 0x34 => [(8, 3)]
  | 0x40 => [(8, 1), (12, w32), (16, w64), (24, 0xF), (26, 0x3FF), (28, 0xFFF)]
  | 0x42 => [(8, 0xFFF), (10, 1)]
  | 0x43 => [(8, 0x3F), (10, 1), (12, w32)]
  | 0x50 => [(8, 0xFF), (9, 7)]
  | _ => []

/-- The opcodes of R297. -/
def admOpcodes : List Nat :=
  [0x01, 0x02, 0x03, 0x04, 0x05, 0x06, 0x07, 0x08, 0x09, 0x0A, 0x0B, 0x0C, 0x0F, 0x10, 0x11, 0x12, 0x13, 0x14, 0x20, 0x21,
   0x30, 0x31, 0x32, 0x33, 0x34, 0x40, 0x41, 0x42, 0x43, 0x50, 0x60, 0x61]

/-- The bits of an entry that are not reserved: OPCODE, SERIAL, TAG, the parameters, DEV_OWNS. (DEDUCED: log entry
62.) -/
def entryMask (op : Nat) : Nat :=
  (parMask op).foldl (fun a p => a ||| p.2 * 2 ^ (8 * p.1)) (0xFF + 2 ^ 8 + 0xFFFFFFFF * 2 ^ 32 + 2 ^ 511)

/-- Every reserved bit of an entry is 0 (R289); the record of SHAPER_SET by its level (R347), and METER_SET's reserved
bits of record bytes 3, 7, 11 and 15 (R251). (DEDUCED: log entry 62.) -/
def admReserved (b : Bytes) : Bool :=
  let op := u b 0 1
  let v := Bytes.toNat b
  v == v &&& entryMask op && (op != 0x20 || recReserved (u b 8 1) ((b.drop 16).take 32))

def qnum (b : Bytes) : Nat := u b 8 2
/-- OP of a parkable command: START, PARK, RESUME, CANCEL (R302, R306, R307). -/
def parkOp (b : Bytes) : Nat :=
  match u b 0 1 with
  | 0x13 => u b 8 1 % 4
  | 0x30 => u b 9 1 % 4
  | 0x31 => u b 10 1 % 4
  | _ => 0

/-- The page whose access table is checked (R284, R297). -/
def admPage (b : Bytes) : Nat :=
  let op := u b 0 1
  (if op = 0x07 ∨ op = 0x08 ∨ op = 0x0A then loc .EV_CFG
   else if op < 0x10 then loc .WQ_CFG
   else if op < 0x14 then loc .ST_CFG
   else if op = 0x14 then loc .MT_CTRL (u b 8 2 / 16384)
   else if op = 0x20 then loc .SC_EVENT 0
   else if op = 0x21 then loc .SC_EVENT (u b 8 1 % 64 / 4)
   else if op = 0x30 then loc .OS_CFG (u b 8 1 % 16)
   else if op = 0x31 then loc .LN_CTRL (min 17 (u b 8 1))
   else if op = 0x32 then loc .RE_CL_STATUS (min 23 (u b 8 1))
   else if op = 0x33 then loc .RE_PS_CTRL
   else if op = 0x34 then loc .GL_PROFILE
   else if op < 0x50 then loc .PC_SEL
   else if op = 0x50 then loc .PW_CFG
   else loc .DU_STATUS) / 4096

/-- The pair's owner has WR on the page, and presence where PRES asks for it (R284, R90). -/
def admPermitted (p : Nat) (b : Bytes) (s : State) : Bool :=
  let r := match fg (loc .WQ_ADM_CFG (p - 1)) F.WQ_ADM_CFG_OWNER s with
    | 0 => rightsOf .cpa (admPage b) s
    | 1 => rightsOf .cpb (admPage b) s
    | 2 => rightsOf .stw (admPage b) s
    | _ => 0
  bit r 1 && (!bit r 2 || presence s)

/-! ## Checks 4 to 6 (R289) -/

def silExists (q : Nat) (s : State) : Bool := (getSil q s).state != .none && !heldBy 0x07 (fun c => qnum c.raw == q) s
def sqExists (q : Nat) (s : State) : Bool := (getSq q s).state != .none
def sqActive (q : Nat) (s : State) : Bool := (getSq q s).state == .active || (getSq q s).state == .stopped

/-- A submission queue in a state other than NONE is bound to the completion queue (R282). -/
def cqBound (c : Nat) (s : State) : Bool := s.wq.sqs.any (fun q => q.2.state != .none && q.2.cq == c)

/-- A create, destroy or reset of the queue runs (R292). -/
def sqObject (q : Nat) (s : State) : Bool :=
  [0x01, 0x03, 0x05].any (fun op => heldBy op (fun c => qnum c.raw == q) s)
def cqObject (q : Nat) (s : State) : Bool :=
  [0x02, 0x04, 0x06].any (fun op => heldBy op (fun c => qnum c.raw == q) s)

/-- A create that runs takes the handle (R292). -/
def handleObject (f h : Nat) (s : State) : Bool :=
  [0x01, 0x02].any (fun op => heldBy op (fun c => u c.raw 10 2 == f && u c.raw 12 2 == h) s)

def ringOk (lo log base : Nat) : Bool := decide (lo ≤ log) && decide (log ≤ 16) && base % 512 == 0

/-- Status of SQ_CREATE (R257, R298, R345). -/
def sqCreateCheck (b : Bytes) (s : State) : Nat :=
  let q := qnum b
  let f := u b 10 2
  let c := u b 24 2
  let rx := bit (u b 14 1) 0
  if ringOk 3 (u b 15 1) (u b 16 8) = false ∨ (getCq c s).state ≠ .active ∨ cqExists c s = false ∨ (getCq c s).func ≠ f then
    St.adminBadParameter
  else if sqExists q s || (handleQueue f (u b 12 2) s).isSome || (nodeValid (nodeCode 0 q) s && recFwd (nodeRec (nodeCode 0 q) s))
  then St.adminInUse
  else if rx = false ∧ nodeValid (nodeCode 1 (u b 28 2)) s = false then St.adminNotFound
  else if sqObject q s || handleObject f (u b 12 2) s then St.adminBusy
  else St.ok

/-- Status of CQ_CREATE (R298). -/
def cqCreateCheck (b : Bytes) (s : State) : Nat :=
  let q := qnum b
  let f := u b 10 2
  let sil := u b 24 2
  if 16384 ≤ q ∨ ringOk 4 (u b 15 1) (u b 16 8) = false ∨ 1024 ≤ sil then St.adminBadParameter
  else if cqExists q s || (handleQueue f (u b 12 2) s).isSome then St.adminInUse
  else if bit (u b 14 1) 1 = true ∧ silExists sil s = false then St.adminNotFound
  else if cqObject q s || handleObject f (u b 12 2) s then St.adminBusy
  else if bit (u b 14 1) 0 = true ∧ poolFree s < 64 then St.backlogExhausted
  else St.ok

/-- Status of LANE_SUBST (R307, R159). A START on a lane that a substitution holds is BUSY, whether or not a spare is left (R292,
R473). (DEDUCED: log entry 62.) -/
def laneSubstCheck (b : Bytes) (s : State) : Nat :=
  let fr := u b 8 1
  let sp := u b 9 1
  let loads (spare : Option Nat) : Bool := loadLane fr s || spare.any (fun n => loadLane n s)
  match parkOp b with
  | 0 =>
    if 18 ≤ fr ∨ (laneRole fr s ≠ 2 ∧ laneRole fr s ≠ 3) then St.adminBadParameter
    else if s.phy.substs.any (fun x => x.from_ == fr) then St.adminBusy
    else if (if sp = 0x1F then (spareFor fr s).isNone else !spareOk fr sp s) = true then St.adminNotFound
    else if substBlocked fr s || heldBy 0x31 (fun c => parkOp c.raw == 0 && u c.raw 8 1 == fr) s ||
      loads (if sp = 0x1F then spareFor fr s else some sp)
    then St.adminBusy
    else St.ok
  | op =>
    if loads ((substOf fr s).map (·.spare)) then St.adminBusy
    else if op = 1 then (if (substPark fr s).isNone then St.adminBusy else St.ok)
    else if op = 2 then (if (substResume fr s).isNone then St.adminBusy else St.ok)
    else (if (substCancel fr s).isNone then St.adminBusy else St.ok)

/-- Status of PAGE_SWITCH (R306, R154, R292). -/
def pageSwitchCheck (b : Bytes) (s : State) : Nat :=
  let g := u b 8 1
  if grpActive g s = false then St.adminNotFound
  else match parkOp b with
  | 0 =>
    if (switchStart g .follow s).isNone || heldBy 0x30 (fun c => parkOp c.raw == 0 && u c.raw 8 1 == g) s ||
        s.phy.substs.any (fun x => x.slotted && x.group == g) then St.adminBusy else St.ok
  | 1 => if (switchPark g s).isNone then St.adminBusy else St.ok
  | 2 => if (switchResume g s).isNone then St.adminBusy else St.ok
  | _ => if (switchCancel g s).isNone then St.adminBusy else St.ok

/-- Status of TBL_REHASH (R243, R302). -/
def rehashCheck (b : Bytes) (s : State) : Nat :=
  if parkOp b = 0 ∧ (rehashCommand s).isNone then St.adminBadParameter
  else if rehashBusy (parkOp b) s || (parkOp b == 0 && heldBy 0x13 (fun c => parkOp c.raw == 0) s) then St.adminBusy
  else St.ok

/-- Parameters of DUMP_CFG. -/
def dumpPars (b : Bytes) : Bool × Nat × Nat × Nat × Nat × Nat :=
  (bit (u b 8 1) 0, u b 12 4, u b 16 8, u b 24 1, u b 26 2, u b 28 2)

/-- A DUMP_CFG that R311 refuses. -/
def dumpBad (b : Bytes) : Bool :=
  u b 16 8 % 4096 != 0 || (bit (u b 8 1) 0 && (decide (u b 12 4 < 10) || decide (10000000 < u b 12 4)))

/-- Checks 4 to 6 of R289 for an entry; 0 where they pass. The power and Duo commands make their own. -/
def admCheck (b : Bytes) (s : State) : Nat :=
  let q := qnum b
  let bad (c : Bool) (k : Nat) : Nat := if c then St.adminBadParameter else k
  let busy (c : Bool) : Nat := if c then St.adminBusy else St.ok
  match u b 0 1 with
  | 0x01 => sqCreateCheck b s
  | 0x02 => cqCreateCheck b s
  | 0x03 => if sqExists q s then busy (sqObject q s || !sqActive q s) else St.adminNotFound
  | 0x05 => if sqExists q s then busy (sqObject q s || !sqActive q s) else St.adminNotFound
  | 0x04 => bad (decide (16384 ≤ q)) (if cqExists q s then busy (cqObject q s || cqBound q s) else St.adminNotFound)
  | 0x06 => bad (decide (16384 ≤ q)) (if cqExists q s then busy (cqObject q s || cqBound q s) else St.adminNotFound)
  | 0x07 => bad (!ringOk 4 (u b 15 1) (u b 16 8))
      (if silExists q s then St.adminInUse else busy (heldBy 0x07 (fun c => qnum c.raw == q) s))
  | 0x08 => if silExists q s then busy (s.wq.cqs.any (fun c => c.2.state != .none && c.2.silValid && c.2.sillage == q))
      else St.adminNotFound
  | 0x09 =>
    let own := bit (u b 12 1) 1
    bad (!own && decide (16384 ≤ q))
      (if (!own && !cqExists q s) || (bit (u b 12 1) 0 && !silExists (u b 10 2) s) then St.adminNotFound
       else busy (!own && cqObject q s))
  | 0x0A => if silExists q s then St.ok else St.adminNotFound
  | 0x0B => bad (decide (16384 ≤ q) || decide (8 < u b 11 1) || decide (262144 < u b 12 4 + 2 ^ u b 11 1)) St.ok
  | 0x0C => bad (u b 14 1 == 0 || decide (16 < u b 14 1) || decide (262144 < u b 8 4 + u b 14 1)) St.ok
  | 0x13 => rehashCheck b s
  | 0x14 => bad (meterBad ((b.drop 16).take 20)) St.ok
  | 0x20 =>
    let st := (shaperSet (u b 8 1) (u b 10 2) ((b.drop 16).take 32) (bit (u b 9 1) 0) s).1
    if st = St.ok then busy (u b 8 1 == 3 && loadPort (u b 10 2) s) else st
  | 0x21 => bad (bit (u b 10 1) 0 && (u b 12 2 == 0 || decide (256 < u b 12 2) || u b 16 8 % 8 != 0)) (busy (loadPort (u b 8 1) s))
  | 0x30 => pageSwitchCheck b s
  | 0x31 => laneSubstCheck b s
  | 0x32 => bad (decide (24 ≤ u b 8 1) || decide (17 ≤ u b 9 1))
      (busy ((substEngine (u b 8 1) (u b 9 1) none s).isNone || heldBy 0x32 (fun c => u c.raw 8 1 == u b 8 1) s))
  | 0x33 => bad (u b 16 8 % 4096 != 0) (busy (progRuns s))
  | 0x34 => bad (!profValid (storedProfile (u b 8 1) s) (u b 8 1))
      (busy (s.prof.next.isSome || heldBy 0x34 (fun _ => true) s ||
        (profMode (storedProfile (u b 8 1) s) 1 && !assured s && decide (1572864 < occupancy s.tab))))
  | 0x40 => bad (dumpBad b) St.ok
  | 0x43 => bad (u b 12 4 == 0 || decide (1000000 < u b 12 4)) (busy (loadPort (u b 8 1) s))
  | _ => St.ok

/-- Status of the first failing check of R289; 0 where all pass. -/
def startCheck (p : Nat) (b : Bytes) (s : State) : Nat :=
  if admOpcodes.contains (u b 0 1) = false then St.badOpcode
  else if admReserved b = false then St.reservedNonzero
  else if admPermitted p b s = false then St.adminNotPermitted
  else admCheck b s

/-! ## Effects on mirrored state (R488) -/

/-- A created submission queue (R257, R298, R345). -/
def createSq (b : Bytes) (s : State) : State :=
  let rx := bit (u b 14 1) 0
  let k : Sq := { Sq.none with
    state := .active, rx := rx, base := u b 16 8, logSize := u b 15 1, func := u b 10 2, handle := u b 12 2, cq := u b 24 2,
    hold := u b 26 2, snoop := bit (u b 14 1) 1, parent := u b 28 2, band := u b 30 1 }
  let s1 := setSq (qnum b) k { s with host := { s.host with bypassFixed := true } }
  if rx then s1 else makeLeaf (qnum b) (u b 28 2) (u b 30 1) s1

/-- A created completion queue. -/
def createCq (b : Bytes) (s : State) : State :=
  setCq (qnum b) { Cq.none with
    state := .active, base := u b 16 8, logSize := u b 15 1, func := u b 10 2, handle := u b 12 2,
    rsv := bit (u b 14 1) 0, silValid := bit (u b 14 1) 1, sillage := u b 24 2 }
    { s with host := { s.host with bypassFixed := true } }

/-- A created Sillage queue (R298). -/
def createSil (b : Bytes) (s : State) : State :=
  setSil (qnum b) { Sil.none with
    state := .active, func := u b 10 2, target := u b 12 1, logSize := u b 15 1, base := u b 16 8 }
    { s with host := { s.host with bypassFixed := true } }

/-- The scan and the arming read of a completion queue end: their answers give nothing to what comes after (R13). -/
def cancelCq (c : Nat) (s : State) : State := endReqs (ofCqRead c) s

/-- A destroyed submission queue (R280): its leaf goes with it, and frames that waited for its posts are dropped. -/
def destroySq (q : Nat) (s : State) : State :=
  let k := getSq q s
  forEach k.waiting (fun f t => bump (cWq 6) (dropEverywhere f (copyDropped f t))) (setSq q Sq.none (endReqs (ofScan q) s))
    |> doIf (!k.rx) (removeLeaf q)

/-- A reset submission queue (R280): position 0. -/
def resetSq (q : Nat) (s : State) : State :=
  setSq q { getSq q s with state := .active, pos := 0, err := 0, finalDone := false, refetch := false } s

/-- A destroyed completion queue (R282). -/
def destroyCq (c : Nat) (s : State) : State := setCq c Cq.none (cancelCq c s)

/-- A reset completion queue (R297): backlog discarded, PROD 0. -/
def resetCq (c : Nat) (s : State) : State :=
  setCq c { getCq c s with
    state := .active, prod := 0, credit := 0, backlog := [], reserved := 0, pool := 0, episode := false, armed := false,
    armPending := false, scan := false, rescan := false, found := 0, err := 0 } (cancelCq c s)

/-- A destroyed Sillage queue. -/
def destroySil (q : Nat) (s : State) : State :=
  setSil q Sil.none (endReqs (fun p => match p with
    | .silScan r _ => r == q
    | .silArm r _ => r == q
    | _ => ofSil q p) s)

/-- A new binding (R299): of a completion queue, or with ADMIN = 1 of the pair's own ring. (DEDUCED: log entry 60.) -/
def setBinding (p : Nat) (b : Bytes) (s : State) : State :=
  let v := bit (u b 12 1) 0
  if bit (u b 12 1) 1 then setPair p { getPair p s with silValid := v, sillage := u b 10 2 } s
  else setCq (qnum b) { getCq (qnum b) s with silValid := v, sillage := u b 10 2 } s

/-- A receive-queue group (R300). -/
def groupSet (b : Bytes) (s : State) : State :=
  let g : Group := { valid := bit (u b 10 1) 0, base := u b 12 4, logSize := u b 11 1 }
  { s with wq := { s.wq with groups := sput { valid := false, base := 0, logSize := 0 } s.wq.groups (qnum b) g } }

/-- Member pool entries (R300). -/
def poolSet (b : Bytes) (s : State) : State :=
  forEach (List.range (u b 14 1)) (fun i t =>
    let w := u b (16 + 2 * i) 2
    { t with wq := { t.wq with members := sput (false, 0) t.wq.members (u b 8 4 + i) (bit w 15, w % 2 ^ 15) } }) s

/-- The image of a PROG_UPDATE goes into the standby bank (R309 step 3). -/
def progStore (d : Bytes) (s : State) : State :=
  let bank := standbyBank s
  let s1 := forEach (List.range 4096) (fun i t => putStore bank i (u d (4 * i) 4) t) s
  forEach (List.range 128) (fun i t => putEntry bank i (u d (16384 + 4 * i) 4) t) s1

/-- What a command that passed its checks does to mirrored state: `b` its entry, `d` the data it has read, `p` and `k` its
pair and number at the block that runs it, 0 at a standby. -/
def admEffect (p k : Nat) (b d : Bytes) (s : State) : State :=
  match u b 0 1 with
  | 0x01 => createSq b s
  | 0x02 => createCq b s
  | 0x03 => destroySq (qnum b) s
  | 0x04 => destroyCq (qnum b) s
  | 0x05 => resetSq (qnum b) s
  | 0x06 => resetCq (qnum b) s
  | 0x07 => createSil b s
  | 0x08 => destroySil (qnum b) s
  | 0x09 => setBinding p b s
  | 0x0A => setSil (qnum b) { getSil (qnum b) s with target := u b 10 1 } s
  | 0x0B => groupSet b s
  | 0x0C => poolSet b s
  | 0x14 => meterWrite (u b 8 2) ((b.drop 16).take 20) (bit (u b 10 1) 0) s
  | 0x20 => writeRec (u b 8 1) (u b 10 2) ((b.drop 16).take 32) (bit (u b 9 1) 0) s
  | 0x21 =>
    if bit (u b 10 1) 0 then gateLoad (u b 8 1) (u b 40 8) ((gateEntries (u b 12 2) d).getD []) p k s
    else gateRemove (u b 8 1) s
  | 0x33 => bankSwitch (progStore d s)
  | 0x40 => dumpCfg (dumpPars b) { s with host := { s.host with bypassFixed := true } }
  | _ => s

/-- Commands whose effect is journalled, acked first (R488). (DEDUCED: log entry 87.) -/
def journalled (op : Nat) : Bool :=
  decide (op ≤ 0x0C) || op == 0x14 || op == 0x20 || op == 0x21 || op == 0x33 || op == 0x40

/-! ## Rebinding (R400, R401) -/

def dropRebind (p k : Nat) (s : State) : State :=
  { s with ev := { s.ev with rebinds := s.ev.rebinds.filter (fun r => !(r.pair == p && r.cmd == k)) } }

/-- Steps 3 and 4 of R400, or the end of R401: the REBIND report, the new binding or target, and then the reports that
waited. -/
def rebindApply (p k : Nat) (b : Bytes) (s : State) : State :=
  match s.ev.rebinds.find? (fun r => r.pair == p && r.cmd == k) with
  | none => s
  | some r =>
    let s1 := dropRebind p k s
    if r.silBind then
      let q := r.obj
      let old := (getSil q s1).target
      admEffect p k b [] s1 |> report q 0 0x10 0xFFFF (2 ^ 31 + old * 2 ^ 16 + r.newSil) 0 none |> moderate q false
    else
      let own := bit (u b 12 1) 1
      let o := if own then ((getPair p s1).silValid, (getPair p s1).sillage)
        else ((getCq (qnum b) s1).silValid, (getCq (qnum b) s1).sillage)
      let obj := if own then 2 ^ 15 + p else qnum b
      let s2 := reportTo o.1 o.2 0 0x10 obj (b2n r.newValid * 2 ^ 10 + r.newSil) 0 none s1 |> admEffect p k b []
      forEach r.later (fun x t =>
        if own then admRecord p x.1 x.2.1 x.2.2.2.1 t
        else cqRecord (qnum b) x.1 x.2.1 x.2.2.1 x.2.2.2.1 x.2.2.2.2 t) s2

/-! ## Completion of the abort sequence (R280, R281) -/

/-- The abort sequence of a queue has nothing left to do: the final scan has ended and every entry is released. -/
def abortDone (q : Nat) (s : State) : Bool :=
  let k := getSq q s
  (k.state == .resetting || k.state == .destroying) && k.finalDone && !s.wq.execs.any (fun e => e.sq == q)

/-- The access reads an entry in the final scan of queue `q`. -/
def ofFinal (q : Nat) (p : Purpose) : Bool :=
  match p with
  | .sqFinal r _ => r == q
  | _ => false

/-- A completion queue that stops ends the abort sequences of its submission queues without a write (R281), and their final
scans (R13). -/
def abortOnStop (q : Nat) (s : State) : State :=
  let k := getSq q s
  if (k.state = .resetting ∨ k.state = .destroying) ∧ (getCq k.cq s).state ≠ .active then
    dropExecs q (setSq q { k with finalDone := true } (endReqs (ofFinal q) s))
  else s

/-- Start the abort sequence of a queue; the frames of the entries it cancels are dropped. -/
def abortQueue (q : Nat) (st : QState) (cmd : Nat × Nat) (s : State) : State :=
  let s1 := abortStart q st cmd s
  forEach (s1.dp.frames.filter (fun f => f.dead && (match f.exec with
    | some x => s1.wq.execs.any (fun e => e.id == x && e.sq == q && e.abort)
    | none => false))) (fun f t => if f.tx then killTx f.id t else dropF f.id t) s1

/-! ## Start (R288, R289) -/

/-- The command's effect applies, and the command finishes or goes on. -/
def applyCmd (p k : Nat) (s : State) : State :=
  match getCmd p k s with
  | none => s
  | some c =>
    let b := c.raw
    let ok (t : State) : State := finishCmd p k St.ok 0 0 t
    match c.opcode with
    | 0x02 =>
      let t := admEffect p k b [] s
      cqScanStart (qnum b) (setCq (qnum b) { getCq (qnum b) t with cmd := some (p, k) } t)
    | 0x07 =>
      let t := admEffect p k b [] s
      silScanStart (qnum b) (setSil (qnum b) { getSil (qnum b) t with cmd := some (p, k) } t)
    | 0x06 => ok (cqScanStart (qnum b) (admEffect p k b [] s))
    | 0x09 => ok (rebindApply p k b s)
    | 0x0A => ok (rebindApply p k b s)
    | 0x21 => if bit (u b 10 1) 0 then admEffect p k b c.data s else ok (admEffect p k b [] s)
    | 0x33 =>
      let s1 := admEffect p k b c.data s
      { s1 with dp := { s1.dp with progCmd := some (p, k) } }
    | _ => ok (admEffect p k b c.data s)

/-- Apply an effect at once, or in a Duo pair that journals once the partner has acknowledged its COMMAND record (R488). -/
def commit (p k : Nat) (s : State) : State :=
  match getCmd p k s with
  | none => s
  | some c =>
    if journaling s && journalled c.opcode then journalWait (.command p c.entry c.data) (.cmd p k) s else applyCmd p k s

/-- A rebinding whose issued records all have their responses goes on (R400 step 2, R401). -/
def rebindCheck (s : State) : State :=
  forEach s.ev.rebinds (fun r t =>
    let n := if r.silBind then (getSil r.obj t).outRecs
      else if 2 ^ 16 ≤ r.obj then (getPair (r.obj - 2 ^ 16) t).outRecs else (getCq (r.obj - 1) t).outRecs
    if r.sent ∨ n ≠ 0 then t
    else
      let rs := t.ev.rebinds.map (fun x => if x.pair = r.pair ∧ x.cmd = r.cmd then { x with sent := true } else x)
      commit r.pair r.cmd { t with ev := { t.ev with rebinds := rs } }) s

/-- Finish the abort sequence of a queue (R280): the reset or destroy applies. -/
def abortCheck (q : Nat) (s : State) : State :=
  let s1 := abortOnStop q s
  if abortDone q s1 then
    let k := getSq q s1
    -- the command is taken once: `finalDone` falls as it is handed on
    commit k.cmd.1 k.cmd.2 (setSq q { k with finalDone := false } s1)
  else s1

/-- The data of a command is complete (R305, R309). -/
def cmdData (p k : Nat) (s : State) : State :=
  match getCmd p k s with
  | none => s
  | some c =>
    if c.phase ≠ .running then s
    else if c.opcode = 0x33 then
      if psCrc (standbyBank s) (progStore c.data s) = u c.raw 24 4 then commit p k s
      else finishCmd p k St.adminCheckFailed 0 0 (progStore c.data s)
    else
      match gateEntries (u c.raw 12 2) c.data with
      | none => finishCmd p k St.adminBadParameter 0 0 s
      | some es =>
        if 1000000000 < es.foldl (fun a e => a + e.1) 0 then finishCmd p k St.adminBadParameter 0 0 s else commit p k s

/-- A table change's entry (R301). -/
def tblEnt (b : Bytes) : Ent :=
  { key := u b 8 10, target := u b 18 2, meter := u b 20 2, action := u b 22 1 % 32, hit := false,
    static := bit (u b 22 1) 6, moving := false }

/-- RATE_WIN (R311, R430): both directions of the port. -/
def rateWin (b : Bytes) (s : State) : State :=
  let w := u b 12 4
  forEach [0, 1] (fun d t =>
    let i := 2 * u b 8 1 + d
    let r := getRate i t
    let cur := if r.newWindow = 0 then r.window else r.newWindow
    let r1 := if bit (u b 10 1) 0 ∨ w ≠ cur then { r with min := 0xFFFFFFFFFFFF, max := 0, windows := 0 } else r
    setRate i (if w ≠ cur then { r1 with newWindow := w } else r1) t) s

/-- CNT_PERM (R311, R428). -/
def cntPerm (b : Bytes) (s : State) : State :=
  let f := u b 8 2
  let l := s.pc.cntPerm.filter (· != f)
  { s with pc := { s.pc with cntPerm := if bit (u b 10 1) 0 then f :: l else l } }

/-- The effects of TBL_REHASH, PAGE_SWITCH and LANE_SUBST that are not START (R302, R306, R307). -/
def parkEffect (b : Bytes) (s : State) : State :=
  match u b 0 1, parkOp b with
  | 0x13, o => rehashOp o s
  | 0x30, 1 => (switchPark (u b 8 1) s).getD s
  | 0x30, 2 => (switchResume (u b 8 1) s).getD s
  | 0x30, _ => (switchCancel (u b 8 1) s).getD s
  | _, 1 => (substPark (u b 8 1) s).getD s
  | _, 2 => (substResume (u b 8 1) s).getD s
  | _, _ => (substCancel (u b 8 1) s).getD s

/-- START of a parkable command: the command goes on. -/
def parkStart (p k : Nat) (b : Bytes) (s : State) : State :=
  match u b 0 1 with
  | 0x13 => (rehashCommand s).getD s
  | 0x30 => switchAck (u b 8 1) ((switchStart (u b 8 1) (.command p k) s).getD s)
  | _ =>
    let fr := u b 8 1
    substStart fr (if u b 9 1 = 0x1F then (spareFor fr s).getD 0 else u b 9 1) 0 (some (p, k)) s

/-- Run a command whose checks have passed. -/
def runCmd (p k : Nat) (s : State) : State :=
  match getCmd p k s with
  | none => s
  | some c =>
    let b := c.raw
    let ok (t : State) : State := finishCmd p k St.ok 0 0 t
    let key0 := keyType (u b 8 10) == 0
    match c.opcode with
    | 0x03 => abortQueue (qnum b) .destroying (p, k) s
    | 0x04 => commit p k (cancelCq (qnum b) (setCq (qnum b) { getCq (qnum b) s with
        state := .destroying, scan := false, rescan := false, armed := false, armPending := false } s))
    | 0x05 => abortQueue (qnum b) .resetting (p, k) s
    | 0x09 =>
      let own := bit (u b 12 1) 1
      rebindCheck { s with ev := { s.ev with rebinds := s.ev.rebinds ++
        [{ silBind := false, obj := if own then admWho p else cqWho (qnum b), pair := p, cmd := k, newSil := u b 10 2,
           newValid := bit (u b 12 1) 0, sent := false, later := [] }] } }
    | 0x0A =>
      rebindCheck { s with ev := { s.ev with rebinds := s.ev.rebinds ++
        [{ silBind := true, obj := qnum b, pair := p, cmd := k, newSil := u b 10 1, newValid := true, sent := false,
           later := [] }] } }
    | 0x0F => (takeFence (some (p, k)) s).2
    | 0x10 => if key0 then finishCmd p k 0x92 0 0 s else queueChange (.insert p k (tblEnt b)) s
    | 0x11 => if key0 then finishCmd p k 0x92 0 0 s else queueChange (.update p k (tblEnt b) (u b 23 1)) s
    | 0x12 => if key0 then finishCmd p k 0x92 0 0 s else queueChange (.delete p k (u b 8 10)) s
    | 0x13 => if parkOp b = 0 then parkStart p k b s else ok (parkEffect b s)
    | 0x21 => if bit (u b 10 1) 0 then admRead p k (u b 16 8) (8 * u b 12 2) s else commit p k s
    | 0x30 => if parkOp b = 0 then parkStart p k b s else ok (parkEffect b s)
    | 0x31 => if parkOp b = 0 then parkStart p k b s else ok (parkEffect b s)
    | 0x32 => (substEngine (u b 8 1) (u b 9 1) (some (p, k)) s).getD s
    | 0x33 => progKick s
    | 0x34 => loadStart (storedProfile (u b 8 1) s) p k s
    | 0x41 => dumpNow p k s
    | 0x42 => ok (cntPerm b s)
    | 0x43 => ok (rateWin b s)
    | 0x50 => pwrReq p k (u b 8 1) (u b 9 1) s
    | 0x60 => duoFailover p k s
    | 0x61 => duoProtect p k s
    | _ => commit p k s

/-- Start command `k`: the first failing check completes it with no effect (R289); otherwise it runs. What finishes at its
start has its completion written. -/
def startCmd (p k : Nat) (s : State) : State :=
  match getCmd p k s with
  | none => s
  | some c =>
    let st := startCheck p c.raw s
    let s1 := setCmd p { c with phase := .running } s
    flushFinished p (if st = St.ok then runCmd p k s1 else finishCmd p k st 0 0 s1)

/-- The command that may start next (R288): the first that waits, unless an immediate command before it has not finished, or
SERIAL holds it until every earlier command has completed. -/
def nextStart (p : Nat) (s : State) : Option Cmd :=
  let cs := (getPair p s).cmds
  match cs.find? (fun c => c.phase == .waiting) with
  | none => none
  | some c =>
    let before := cs.filter (fun d => decide (d.id < c.id))
    if before.any (fun d => d.active && immediate d.opcode) || (c.serial && before.any Cmd.inFlight) then none else some c

/-- ADMIN_COMMAND_START. (DEDUCED: log entry 61.) -/
def admStart (p : Nat) (s : State) : State :=
  if admState p s = 1 ∨ admState p s = 2 then
    match nextStart p s with
    | some c => startCmd p c.id s
    | none => s
  else s

/-- A command row: the entry is accepted on an ACTIVE pair with room for it (R287), by a block whose role allows it, and
starts, unless the order of R288 has it wait. (DEDUCED: log entry 61.) -/
def admRow (op sub p : Nat) (e : AdmEntry) (s : State) : State :=
  let b := bytesLE 64 e.raw.toNat
  if admState p s = 1 ∧ u b 0 1 = op ∧ parkOp b = sub ∧ admRoom p s = true ∧ admStarts b s = true then
    let k := (getPair p s).nextCmd
    let t := admAccept p (e.pos % 2 ^ admSqLog p s) b s
    if (nextStart p t).any (fun c => c.id == k) then startCmd p k t else t
  else s

/-- ADMIN_LONG_COMPLETE: the completions of long commands whose operations have ended (R290). A whole-block power entry whose
completion will not be written goes on (R437). -/
def longComplete (p : Nat) (s : State) : State :=
  let ks := ((getPair p s).cmds.filter (fun c => c.phase == .finished)).map (·.id)
  forEach ks (fun k t => if (getCmd p k t).isNone then completionWritten p k t else t) (flushFinished p s)

/-! ## Enable and drain (R285, R296) -/

/-- Complete a command that has not started with ABORTED. -/
def admAbort (p k : Nat) (s : State) : State :=
  match getCmd p k s with
  | some c => setCmd p { c with phase := .running } s |> finishCmd p k St.aborted 0 0 |> flushFinished p
  | none => s

/-- Cancel a running parkable command; one that can no longer be cancelled finishes (R154, R245). -/
def admCancel (c : Cmd) (s : State) : State :=
  if c.active && parkOp c.raw == 0 then
    match c.opcode with
    | 0x13 => if rehashBusy 3 s then s else rehashOp 3 s
    | 0x30 => (switchCancel (u c.raw 8 1) s).getD s
    | 0x31 => (substCancel (u c.raw 8 1) s).getD s
    | _ => s
  else s

/-- Step 4 of a drain (R296), once every started command has finished and is released: the commands that have not started
complete with ABORTED, and the final scan starts. (DEDUCED: log entry 61.) -/
def admDrainMore (p : Nat) (s : State) : State :=
  let k := getPair p s
  if admState p s ≠ 3 ∨ k.finalFrom.isSome = true ∨ k.cmds.any (fun c => c.phase != .waiting) = true then s
  else
    let s1 := forEach (k.cmds.map (·.id)) (admAbort p) s
    if k.finalDone then s1 else admFinalNext p k.sqPos s1

/-- Start draining a pair (R296). -/
def admDrain (p : Nat) (s : State) : State :=
  if admState p s = 1 ∨ admState p s = 2 then
    let k := getPair p s
    let silent := admSilent p s
    let s1 := setAdmState p 3 s
      |> endReqs (fun q => match q with
        | .admEntry r _ => r == p
        | _ => false)
      |> setPair p { k with scanning := false, rescan := false, stopRoom := false, finalDone := silent }
    admDrainMore p (forEach k.cmds admCancel s1)
  else s

/-- The access reads a ring of pair `p`. -/
def ofPair (p : Nat) (q : Purpose) : Bool :=
  match q with
  | .admEntry r _ | .admFinal r _ | .admScan r _ | .admArm r _ => r == p
  | _ => false

/-- ADMIN_DRAIN_DONE: every command is done, and the pair goes to OFF (R296). What is still being read of its rings gives
nothing to what comes after (R13). -/
def admDrainDone (p : Nat) (s : State) : State :=
  let s1 := admDrainMore p (flushFinished p s)
  if admDrained p s1 then
    let k := getPair p s1
    setAdmState p 0 (setPair p { Pair.off with nextCmd := k.nextCmd } (endReqs (ofPair p) s1)) |> fs (loc .WQ_ADM_ERR (p - 1)) F.WQ_ADM_ERR_ERR 0
  else s1

/-- An owned entry that a drain's final scan finds is accepted and completes with ABORTED, once there is room (R296). -/
def admFinalFound (p pos : Nat) (b : Bytes) (s : State) : State :=
  let k := getPair p s
  let c := newCmd k.nextCmd pos b
  setPair p { k with cmds := k.cmds ++ [c], nextCmd := k.nextCmd + 1, sqPos := (pos + 1) % 2 ^ admSqLog p s } s
    |> journal (.accepted p c.entry)
    |> admAbort p c.id

/-- WQ_ADM_CFG outside ENABLE and STATE. -/
def admFields (v : Nat) : Nat := v &&& 0x0FFF0FFF

/-- A write of WQ_ADM_CFG of pair `p`; OWNER follows the once rule (R88, WQ_ADM_CFG). -/
def writeAdmCfg (p data : Nat) (s : State) : Option State :=
  let a := loc .WQ_ADM_CFG (p - 1)
  let old := rd a s
  let st := admState p s
  let en := bit data 31
  if (st ≠ 0 ∧ admFields old ≠ admFields data) ∨ (en = true ∧ (st = 3 ∨ admSqBase p s % 512 ≠ 0 ∨ admCqBase p s % 512 ≠ 0)) then none
  else
    let s1 := wr a (b2n en * 2 ^ 31 + st * 2 ^ 28 + admFields data) s
    if en = true ∧ st = 0 then
      some (setAdmState p 1 (setPair p { Pair.off with nextCmd := (getPair p s).nextCmd }
        { s1 with host := { s1.host with bypassFixed := true } }) |> admCqScanStart p)
    else if en = false then some (admDrain p s1)
    else some s1

/-- WQ_ADM_POS and WQ_ADM_ERR as they read. -/
def readAdmPos (p : Nat) (s : State) : Nat := (getPair p s).sqPos * 65536 + (getPair p s).cqProd
def readAdmErr (p : Nat) (s : State) : Nat :=
  ((getPair p s).cmds.filter Cmd.inFlight).length % 32 * 65536 + fg (loc .WQ_ADM_ERR (p - 1)) F.WQ_ADM_ERR_ERR s

/-- A write of WQ_ADM_DB (R286). -/
def writeAdmDb (p data : Nat) (s : State) : State :=
  let s1 := if bit data 0 then admScanStart p s else s
  if bit data 1 then
    let s2 := admCqScanStart p s1
    if admState p s2 = 1 then admArmRead p (setPair p { getPair p s2 with armPending := true } s2) else s2
  else s1

/-! ## Commands -/

/-- The pair that an operand names: 1 or 2. -/
def pairOf (p : Nat) : Nat := 1 + p % 2

/-- (DEDUCED: log entry 61.) -/
def admExec (op sub p : Nat) (e : AdmEntry) (s : State) : Host.Outcome State Fault Refusal := done (admRow op sub (pairOf p) e s)

/-- SQ_CREATE, on pair 1 or 2. -/
def execSqCreate (p : Nat) (e : AdmEntry) (s : State) : Host.Outcome State Fault Refusal := admExec 0x01 0 p e s
/-- CQ_CREATE, on pair 1 or 2. -/
def execCqCreate (p : Nat) (e : AdmEntry) (s : State) : Host.Outcome State Fault Refusal := admExec 0x02 0 p e s
/-- SQ_DESTROY, on pair 1 or 2. -/
def execSqDestroy (p : Nat) (e : AdmEntry) (s : State) : Host.Outcome State Fault Refusal := admExec 0x03 0 p e s
/-- CQ_DESTROY, on pair 1 or 2. -/
def execCqDestroy (p : Nat) (e : AdmEntry) (s : State) : Host.Outcome State Fault Refusal := admExec 0x04 0 p e s
/-- SQ_RESET, on pair 1 or 2. -/
def execSqReset (p : Nat) (e : AdmEntry) (s : State) : Host.Outcome State Fault Refusal := admExec 0x05 0 p e s
/-- CQ_RESET, on pair 1 or 2. -/
def execCqReset (p : Nat) (e : AdmEntry) (s : State) : Host.Outcome State Fault Refusal := admExec 0x06 0 p e s
/-- SIL_CREATE, on pair 1 or 2. -/
def execSilCreate (p : Nat) (e : AdmEntry) (s : State) : Host.Outcome State Fault Refusal := admExec 0x07 0 p e s
/-- SIL_DESTROY, on pair 1 or 2. -/
def execSilDestroy (p : Nat) (e : AdmEntry) (s : State) : Host.Outcome State Fault Refusal := admExec 0x08 0 p e s
/-- CQ_BIND, on pair 1 or 2. -/
def execCqBind (p : Nat) (e : AdmEntry) (s : State) : Host.Outcome State Fault Refusal := admExec 0x09 0 p e s
/-- SIL_BIND, on pair 1 or 2. -/
def execSilBind (p : Nat) (e : AdmEntry) (s : State) : Host.Outcome State Fault Refusal := admExec 0x0A 0 p e s
/-- GROUP_SET, on pair 1 or 2. -/
def execGroupSet (p : Nat) (e : AdmEntry) (s : State) : Host.Outcome State Fault Refusal := admExec 0x0B 0 p e s
/-- POOL_SET, on pair 1 or 2. -/
def execPoolSet (p : Nat) (e : AdmEntry) (s : State) : Host.Outcome State Fault Refusal := admExec 0x0C 0 p e s
/-- FENCE, on pair 1 or 2. -/
def execFence (p : Nat) (e : AdmEntry) (s : State) : Host.Outcome State Fault Refusal := admExec 0x0F 0 p e s
/-- TBL_INSERT, on pair 1 or 2. -/
def execTblInsert (p : Nat) (e : AdmEntry) (s : State) : Host.Outcome State Fault Refusal := admExec 0x10 0 p e s
/-- TBL_UPDATE, on pair 1 or 2. -/
def execTblUpdate (p : Nat) (e : AdmEntry) (s : State) : Host.Outcome State Fault Refusal := admExec 0x11 0 p e s
/-- TBL_DELETE, on pair 1 or 2. -/
def execTblDelete (p : Nat) (e : AdmEntry) (s : State) : Host.Outcome State Fault Refusal := admExec 0x12 0 p e s
/-- TBL_REHASH_START, on pair 1 or 2. -/
def execTblRehashStart (p : Nat) (e : AdmEntry) (s : State) : Host.Outcome State Fault Refusal := admExec 0x13 0 p e s
/-- TBL_REHASH_PARK, on pair 1 or 2. -/
def execTblRehashPark (p : Nat) (e : AdmEntry) (s : State) : Host.Outcome State Fault Refusal := admExec 0x13 1 p e s
/-- TBL_REHASH_RESUME, on pair 1 or 2. -/
def execTblRehashResume (p : Nat) (e : AdmEntry) (s : State) : Host.Outcome State Fault Refusal := admExec 0x13 2 p e s
/-- TBL_REHASH_CANCEL, on pair 1 or 2. -/
def execTblRehashCancel (p : Nat) (e : AdmEntry) (s : State) : Host.Outcome State Fault Refusal := admExec 0x13 3 p e s
/-- METER_SET, on pair 1 or 2. -/
def execMeterSet (p : Nat) (e : AdmEntry) (s : State) : Host.Outcome State Fault Refusal := admExec 0x14 0 p e s
/-- SHAPER_SET, on pair 1 or 2. -/
def execShaperSet (p : Nat) (e : AdmEntry) (s : State) : Host.Outcome State Fault Refusal := admExec 0x20 0 p e s
/-- GATE_SET, on pair 1 or 2. -/
def execGateSet (p : Nat) (e : AdmEntry) (s : State) : Host.Outcome State Fault Refusal := admExec 0x21 0 p e s
/-- PAGE_SWITCH_START, on pair 1 or 2. -/
def execPageSwitchStart (p : Nat) (e : AdmEntry) (s : State) : Host.Outcome State Fault Refusal := admExec 0x30 0 p e s
/-- PAGE_SWITCH_PARK, on pair 1 or 2. -/
def execPageSwitchPark (p : Nat) (e : AdmEntry) (s : State) : Host.Outcome State Fault Refusal := admExec 0x30 1 p e s
/-- PAGE_SWITCH_RESUME, on pair 1 or 2. -/
def execPageSwitchResume (p : Nat) (e : AdmEntry) (s : State) : Host.Outcome State Fault Refusal := admExec 0x30 2 p e s
/-- PAGE_SWITCH_CANCEL, on pair 1 or 2. -/
def execPageSwitchCancel (p : Nat) (e : AdmEntry) (s : State) : Host.Outcome State Fault Refusal := admExec 0x30 3 p e s
/-- LANE_SUBST_START, on pair 1 or 2. -/
def execLaneSubstStart (p : Nat) (e : AdmEntry) (s : State) : Host.Outcome State Fault Refusal := admExec 0x31 0 p e s
/-- LANE_SUBST_PARK, on pair 1 or 2. -/
def execLaneSubstPark (p : Nat) (e : AdmEntry) (s : State) : Host.Outcome State Fault Refusal := admExec 0x31 1 p e s
/-- LANE_SUBST_RESUME, on pair 1 or 2. -/
def execLaneSubstResume (p : Nat) (e : AdmEntry) (s : State) : Host.Outcome State Fault Refusal := admExec 0x31 2 p e s
/-- LANE_SUBST_CANCEL, on pair 1 or 2. -/
def execLaneSubstCancel (p : Nat) (e : AdmEntry) (s : State) : Host.Outcome State Fault Refusal := admExec 0x31 3 p e s
/-- ENGINE_SUBST, on pair 1 or 2. -/
def execEngineSubst (p : Nat) (e : AdmEntry) (s : State) : Host.Outcome State Fault Refusal := admExec 0x32 0 p e s
/-- PROG_UPDATE, on pair 1 or 2. -/
def execProgUpdate (p : Nat) (e : AdmEntry) (s : State) : Host.Outcome State Fault Refusal := admExec 0x33 0 p e s
/-- LOAD_PROFILE, on pair 1 or 2. -/
def execLoadProfile (p : Nat) (e : AdmEntry) (s : State) : Host.Outcome State Fault Refusal := admExec 0x34 0 p e s
/-- DUMP_CFG, on pair 1 or 2. -/
def execDumpCfg (p : Nat) (e : AdmEntry) (s : State) : Host.Outcome State Fault Refusal := admExec 0x40 0 p e s
/-- DUMP_NOW, on pair 1 or 2. -/
def execDumpNow (p : Nat) (e : AdmEntry) (s : State) : Host.Outcome State Fault Refusal := admExec 0x41 0 p e s
/-- CNT_PERM, on pair 1 or 2. -/
def execCntPerm (p : Nat) (e : AdmEntry) (s : State) : Host.Outcome State Fault Refusal := admExec 0x42 0 p e s
/-- RATE_WIN, on pair 1 or 2. -/
def execRateWin (p : Nat) (e : AdmEntry) (s : State) : Host.Outcome State Fault Refusal := admExec 0x43 0 p e s
/-- PWR_REQ, on pair 1 or 2. -/
def execPwrReq (p : Nat) (e : AdmEntry) (s : State) : Host.Outcome State Fault Refusal := admExec 0x50 0 p e s
/-- DUO_FAILOVER, on pair 1 or 2. -/
def execDuoFailover (p : Nat) (e : AdmEntry) (s : State) : Host.Outcome State Fault Refusal := admExec 0x60 0 p e s
/-- DUO_PROTECT, on pair 1 or 2. -/
def execDuoProtect (p : Nat) (e : AdmEntry) (s : State) : Host.Outcome State Fault Refusal := admExec 0x61 0 p e s

/-- ADMIN_COMMAND_START. -/
def execAdminCommandStart (p : Nat) (s : State) : Host.Outcome State Fault Refusal := done (admStart (pairOf p) s)
/-- ADMIN_LONG_COMPLETE. -/
def execAdminLongComplete (p : Nat) (s : State) : Host.Outcome State Fault Refusal := done (longComplete (pairOf p) s)
/-- ADMIN_PAIR_ENABLE: a write of WQ_ADM_CFG with ENABLE = 1. -/
def execAdminPairEnable (m : Master) (p : Nat) (data : W32) (s : State) : Host.Outcome State Fault Refusal :=
  let d := data.toNat % 2 ^ 31 + 2 ^ 31
  done (ctlWrite m (loc .WQ_ADM_CFG (p % 2)) d (writeAdmCfg (pairOf p) d) s)
/-- ADMIN_PAIR_DRAIN: a write of WQ_ADM_CFG with ENABLE = 0. -/
def execAdminPairDrain (m : Master) (p : Nat) (data : W32) (s : State) : Host.Outcome State Fault Refusal :=
  done (ctlWrite m (loc .WQ_ADM_CFG (p % 2)) (data.toNat % 2 ^ 31) (writeAdmCfg (pairOf p) (data.toNat % 2 ^ 31)) s)
/-- ADMIN_SQ_DOORBELL: a write of WQ_ADM_DB SQ. -/
def execAdminSqDoorbell (m : Master) (p : Nat) (s : State) : Host.Outcome State Fault Refusal :=
  done (ctlWrite m (loc .WQ_ADM_DB (p % 2)) 1 (fun t => some (writeAdmDb (pairOf p) 1 t)) s)
/-- ADMIN_CQ_DOORBELL: a write of WQ_ADM_DB CQ. -/
def execAdminCqDoorbell (m : Master) (p : Nat) (s : State) : Host.Outcome State Fault Refusal :=
  done (ctlWrite m (loc .WQ_ADM_DB (p % 2)) 2 (fun t => some (writeAdmDb (pairOf p) 2 t)) s)
/-- ABORT_SEQUENCE_DONE. -/
def execAbortSequenceDone (q : Nat) (s : State) : Host.Outcome State Fault Refusal := done (abortCheck (q % 32768) s)

end Sys2Proof.Machine
end

