-- ==== Sys2Proof/Machine/Crypto.lean ====
section
/-!
DEFINITION. The two algorithms that spec/17 takes from its references: SHA-384 (R449, R451, R463) as FIPS 180-4 defines it,
and the verification of an ECDSA P-384 signature (R449, R451) as FIPS 186-5 defines it. Their constants are PRESUMED: they
stand in those standards and not in the spec.
-/

namespace Sys2Proof.Machine

/-! ## SHA-384 -/

/-- A 64-bit word of the hash. -/
abbrev W64 := BitVec 64

/-- The number that a byte string spells, most significant byte first. -/
def beNat (b : Bytes) : Nat := b.foldl (fun a x => a * 256 + x.toNat) 0

/-- The `n` bytes of a number, most significant first. -/
def beBytes (n v : Nat) : Bytes := (bytesLE n v).reverse

/-- The primes below 410: the 80 that the round constants come from. -/
def shaPrimes : List Nat :=
  (List.range 410).filter (fun n => 2 ≤ n && (List.range 21).all (fun d => d < 2 || n < d * d || n % d != 0))

/-- The greatest `r` whose low `n` bits may be chosen and whose `k`-th power is at most `m`. -/
def rootBits (k m : Nat) : Nat → Nat → Nat
  | 0, r => r
  | n + 1, r => rootBits k m n (if (r + 2 ^ n) ^ k ≤ m then r + 2 ^ n else r)

/-- The first 64 bits of the fractional part of the `k`-th root of `p`, where that root is below 8. -/
def rootFraction (k p : Nat) : W64 := BitVec.ofNat 64 (rootBits k (p * 2 ^ (64 * k)) 67 0)

/-- The round constants: from the cube roots of the first 80 primes. (PRESUMED: log entry 12.) -/
def shaK : List W64 := shaPrimes.map (rootFraction 3)

/-- The initial hash value of SHA-384: from the square roots of the 9th to the 16th prime. (PRESUMED: log entry 12.) -/
def shaInit : List W64 := ((shaPrimes.drop 8).take 8).map (rootFraction 2)

/-- The 16 words of a 128-byte block. -/
def shaWords (b : Bytes) : List W64 := (List.range 16).map (fun i => BitVec.ofNat 64 (beNat ((b.drop (8 * i)).take 8)))

/-- The message schedule, newest word first: `n` more words. -/
def shaSchedule : Nat → List W64 → List W64
  | 0, w => w
  | n + 1, w =>
    let a := w.getD 14 0
    let b := w.getD 1 0
    let s0 := a.rotateRight 1 ^^^ a.rotateRight 8 ^^^ a >>> 7
    let s1 := b.rotateRight 19 ^^^ b.rotateRight 61 ^^^ b >>> 6
    shaSchedule n ((w.getD 15 0 + s0 + w.getD 6 0 + s1) :: w)

/-- One round on the eight working variables a to h. -/
def shaRound (v : List W64) (kw : W64 × W64) : List W64 :=
  let a := v.getD 0 0
  let b := v.getD 1 0
  let c := v.getD 2 0
  let e := v.getD 4 0
  let f := v.getD 5 0
  let g := v.getD 6 0
  let s1 := e.rotateRight 14 ^^^ e.rotateRight 18 ^^^ e.rotateRight 41
  let t1 := v.getD 7 0 + s1 + ((e &&& f) ^^^ (~~~e &&& g)) + kw.1 + kw.2
  let s0 := a.rotateRight 28 ^^^ a.rotateRight 34 ^^^ a.rotateRight 39
  let t2 := s0 + ((a &&& b) ^^^ (a &&& c) ^^^ (b &&& c))
  [t1 + t2, a, b, c, v.getD 3 0 + t1, e, f, g]

/-- Take one 128-byte block into the hash value. -/
def shaBlock (h : List W64) (b : Bytes) : List W64 :=
  let w := (shaSchedule 64 (shaWords b).reverse).reverse
  List.zipWith (· + ·) h ((List.zip shaK w).foldl shaRound h)

/-- Take the blocks of a padded message. -/
def shaBlocks : Nat → List W64 → Bytes → List W64
  | 0, h, _ => h
  | n + 1, h, b => shaBlocks n (shaBlock h (b.take 128)) (b.drop 128)

/-- SHA-384 of a byte string: 48 bytes. (PRESUMED: log entry 12.) -/
def sha384 (b : Bytes) : Bytes :=
  let m := b ++ [0x80] ++ List.replicate ((239 - b.length % 128) % 128) 0 ++ beBytes 16 (8 * b.length)
  ((shaBlocks (m.length / 128) shaInit m).take 6).flatMap (fun w => beBytes 8 w.toNat)

/-! ## ECDSA P-384 -/

/-- Field prime, group order, curve coefficient b (a is -3) and base point of P-384. -/
def p384 : Nat := 2 ^ 384 - 2 ^ 128 - 2 ^ 96 + 2 ^ 32 - 1
def p384Order : Nat :=
  0xffffffffffffffffffffffffffffffffffffffffffffffffc7634d81f4372ddf581a0db248b0a77aecec196accc52973
def p384B : Nat :=
  0xb3312fa7e23ee7e4988e056be3f82d19181d9c6efe8141120314088f5013875ac656398d8a2ed19d2a85c8edd3ec2aef
def p384Base : Nat × Nat :=
  (0xaa87ca22be8b05378eb1c71ef320ad746e1d3b628ba79b9859f741e082542a385502f25dbf55296c3a545e3872760ab7,
   0x3617de4a96262c6f5d9e98bf9292dc29f8f41dbd289a147ce9da3113b5f0b8c00a60b1ce1d7e819d7a431d7c90ea0e5f)

/-- `a` to the power of the low `n` bits of `e`, modulo `m`. -/
def powMod : Nat → Nat → Nat → Nat → Nat
  | 0, _, _, m => 1 % m
  | n + 1, a, e, m =>
    let r := powMod n (a * a % m) (e / 2) m
    if e % 2 = 1 then r * a % m else r

/-- Inverse modulo a prime of 384 bits. -/
def invMod (a m : Nat) : Nat := powMod 384 (a % m) (m - 2) m

/-- A point of the curve; none is the point at infinity. -/
abbrev Point := Option (Nat × Nat)

/-- Chord and tangent addition. -/
def addPt (a b : Point) : Point :=
  match a, b with
  | none, q => q
  | q, none => q
  | some (x, y), some (z, t) =>
    let sub (u v : Nat) : Nat := (u + p384 - v % p384) % p384
    if x = z ∧ (y + t) % p384 = 0 then none
    else
      let l := if x = z then (3 * x * x + (p384 - 3)) * invMod (2 * y) p384 % p384
        else sub t y * invMod (sub z x) p384 % p384
      let r := sub (sub (l * l % p384) x) z
      some (r, sub (l * sub x r % p384) y)

/-- The multiple of a point by the low `n` bits of `k`. -/
def mulPt : Nat → Nat → Point → Point
  | 0, _, _ => none
  | n + 1, k, a =>
    let r := mulPt n (k / 2) (addPt a a)
    if k % 2 = 1 then addPt a r else r

/-- A public key is a point of the curve. -/
def onCurve (q : Nat × Nat) : Bool :=
  decide (q.1 < p384) && decide (q.2 < p384) && q.2 * q.2 % p384 == (q.1 * q.1 * q.1 + (p384 - 3) * q.1 + p384B) % p384

/-- Signature (r, s) is valid for digest `e` under public key `q`. (PRESUMED: log entry 12.) -/
def ecdsaOk (q : Nat × Nat) (e r s : Nat) : Bool :=
  if onCurve q && decide (0 < r) && decide (r < p384Order) && decide (0 < s) && decide (s < p384Order) then
    let w := invMod s p384Order
    match addPt (mulPt 384 (e * w % p384Order) (some p384Base)) (mulPt 384 (r * w % p384Order) (some q)) with
    | some (x, _) => x % p384Order == r
    | none => false
  else false

end Sys2Proof.Machine
end

