-- ==== Sys2Proof/Machine/Boot.lean ====
section
/-!
DEFINITION. The steward's loads, its trial watchdog and restarts, the fuses and debug unlock (spec/17).
-/

namespace Sys2Proof.Machine

/-! ## Accesses of the steward (R446) -/

/-- The steward's channel (R316, R446). -/
def bootChan (s : State) : Nat := if s.pins.everReady then 47 else 63

/-- A host memory access of the ROM or of the boot control block. -/
def bootReq (p : Purpose) : Bool :=
  match p with
  | .bcbRead _ => true
  | .bcbWrite => true
  | .manifest _ => true
  | .chunk _ _ => true
  | _ => false

/-- A read of the load in progress: manifest or chunk. -/
def loadReq (p : Purpose) : Bool :=
  match p with
  | .manifest _ => true
  | .chunk _ _ => true
  | _ => false

/-- A steward access with snoop 1 and a physical address (R446). (DEDUCED: log entry 51.) -/
def bootAccess (addr len : Nat) (write : Bool) (data : Bytes) (p : Purpose) (s : State) : State :=
  access { chan := bootChan s, func := 0, iova := addr, len := len, write := write, data := data, purpose := p, phys := true } s

/-- Read `len` bytes at `addr` in requests that cross no 512-byte boundary. -/
def bootRead (addr len : Nat) (p : Nat → Purpose) (s : State) : State :=
  forEach (bursts (len / 512 + 2) addr 0 len) (fun b t => bootAccess b.1 b.2.2 false [] (p b.2.1) t) s

/-! ## State and boot control block -/

def bootState (s : State) : Nat := fg (loc .BT_STATUS) F.BT_STATUS_STATE s
def setBootState (v : Nat) (s : State) : State := fs (loc .BT_STATUS) F.BT_STATUS_STATE v s
def bootSlot (s : State) : Nat := fg (loc .BT_STATUS) F.BT_STATUS_SLOT s
def setReason (v : Nat) (s : State) : State := fs (loc .BT_STATUS) F.BT_STATUS_REASON v s

/-- Address of slot A or B. -/
def slotAddr (k : Nat) (s : State) : Nat := rd64 (if k = 0 then loc .BT_SLOT_A else loc .BT_SLOT_B) s

/-- A boot control block is valid (R455). (DEDUCED: log entry 79.) -/
def bcbValid (b : Bytes) : Bool := u b 0 4 == 0x42434253 && u b 60 4 == fcs (b.take 60)

/-- What a block that is not valid is read as: ACTIVE 0, no trial requested (R455). (DEDUCED: log entry 79.) -/
def bcbNone : Bytes := bytesLE 4 0x42434253 ++ List.replicate 60 0

/-- Replace byte `i` of a boot control block. (DEDUCED: log entry 79.) -/
def bcbPut (i v : Nat) (b : Bytes) : Bytes := putBytes b i (bytesLE 1 v)

/-- Write the boot control block `b` with its CRC recomputed (R456). -/
def bcbWrite (b : Bytes) (s : State) : State :=
  let b1 := putBytes b 60 (bytesLE 4 (fcs (b.take 60)))
  bootAccess s.boot.bcbAt 64 true b1 .bcbWrite { s with boot := { s.boot with bcb := b1 } }

/-- The write at a verdict, at CONFIRM and on entry to RECOVERY: LAST_STATE and LAST_REASON. -/
def bcbRecord (b : Bytes) (s : State) : State :=
  bcbWrite (bcbPut 6 (bootState s) (bcbPut 7 (fg (loc .BT_STATUS) F.BT_STATUS_REASON s) b)) s

/-! ## Loads (R450, R457) -/

/-- The address in BT_BCB_ADDR applies at a choice of slot: when the ROM reads the block, and at RECOV_GO. (DEDUCED: log entry
79.) -/
def latchBcb (s : State) : State := { s with boot := { s.boot with bcbAt := rd64 (loc .BT_BCB_ADDR) s } }

/-- Start a load of slot `k`, whose address applies from here on: BT_STATUS, the write of the boot control block, the reads of
the manifest. `taken` says that the load takes the trial that the boot control block requests. (DEDUCED: log entry 80.) -/
def startLoad (k : Nat) (trial taken : Bool) (s : State) : State :=
  let b := putBytes s.boot.bcb 8 (bytesLE 4 (u s.boot.bcb 8 4 + 1))
  { s with boot := { s.boot with
      phase := .manifest, man := List.replicate 1024 0, image := [], matched := [], trial := trial, forced := none,
      entered := false, readErr := false, slotAt := slotAddr k s } }
    |> setBootState 1
    |> fs (loc .BT_STATUS) F.BT_STATUS_SLOT k
    |> fs (loc .BT_STATUS) F.BT_STATUS_GATED 1
    |> fs (loc .BT_STATUS) F.BT_STATUS_TRIED (fg (loc .BT_STATUS) F.BT_STATUS_TRIED s ||| 2 ^ k)
    |> bcbWrite (if taken then bcbPut 5 (u b 5 1 / 2 * 2) b else b)
    |> bootRead (slotAddr k s) 1024 .manifest

/-- The ROM reads the boot control block (R458). -/
def bcbRead (s : State) : State :=
  let s1 := latchBcb s
  bootAccess s1.boot.bcbAt 64 false [] (.bcbRead 0) { s1 with boot := { s1.boot with phase := .bcb } }

/-- The boot control block has arrived: the slot is chosen (R457). A read that fails counts as a block that is not valid. -/
def bcbArrived (b : Bytes) (bad : Bool) (s : State) : State :=
  if s.boot.phase ≠ .bcb then s
  else
    let ok := !bad && bcbValid b
    let c := if ok then b else bcbNone
    let s1 := { s with boot := { s.boot with bcb := c, recov := false } }
    match s.boot.forced with
    | some k => startLoad k false false s1
    | none => if bit (u c 5 1) 0 then startLoad (b2n (bit (u c 5 1) 1)) true true s1 else startLoad (u c 4 1 % 2) false false s1

/-- STEWARD_ROM_START: step 4 of the cold reset sequence (R44). (DESIGN CHOICE: log entry 15.) -/
def romStart (s : State) : State :=
  if coldHeld s || s.pins.coldStep != 3 || !s.pins.refclk then s
  else
    { s with pins := { s.pins with coldStep := 4 } }
      |> putIslands (1 :: digitalIslands) .run
      |> setBootState 0
      |> bootStep 5
      |> bcbRead

/-! ## Checks (R449 to R451) -/

def manChunks (m : Bytes) : Nat := u m 7 1
def manLast (m : Bytes) : Nat := u m 28 4
def manKey (m : Bytes) : Nat := u m 6 1 % 4

/-- Length of chunk `k`. -/
def chunkLen (m : Bytes) (k : Nat) : Nat := if k + 1 = manChunks m then manLast m else 65536

/-- A range of bytes is 0. -/
def zeros (m : Bytes) (lo hi : Nat) : Bool := ((m.drop lo).take (hi - lo)).all (· == 0)

/-- Check 0x02: the manifest's layout. (DEDUCED: log entry 80.) -/
def manifestOk (m : Bytes) : Bool :=
  let entry := u m 24 4
  u m 0 4 == 0x53574D46 && u m 4 2 == 1 && decide (1 ≤ manChunks m) && decide (manChunks m ≤ 12) &&
    decide (1 ≤ manLast m) && decide (manLast m ≤ 65536) && decide (u m 34 1 ≤ 60) &&
    decide (0x10000000 ≤ entry) && decide (entry < 0x10000000 + chunkLen m 0) &&
    u m 6 1 / 4 == 0 && zeros m 35 64 && zeros m 161 192 && zeros m (192 + 48 * manChunks m) 928

/-- The first of checks 0x02 to 0x06 that fails, 0 where they pass. (DEDUCED: log entry 80.) -/
def manifestReason (m : Bytes) (s : State) : Nat :=
  let k := manKey m
  if manifestOk m = false then 0x02
  else if u m 32 2 ≠ 0x3216 then 0x03
  else if (programmed k s && keyDigest k s == sha384 ((m.drop 64).take 97)) = false then 0x04
  else if bit (revoked s) k then 0x05
  else if u m 8 8 < rollback s then 0x06
  else 0

/-- Check 0x07: the signature over bytes 0 to 927 (R449). -/
def signatureOk (m : Bytes) : Bool :=
  u m 64 1 == 4 &&
    ecdsaOk (beNat ((m.drop 65).take 48), beNat ((m.drop 113).take 48)) (beNat (sha384 (m.take 928)))
      (beNat ((m.drop 928).take 48)) (beNat ((m.drop 976).take 48))

/-- Reads of the load are outstanding or waiting. -/
def loadReading (s : State) : Bool := s.host.reqs.any (fun r => loadReq r.purpose)

/-- The manifest is complete: if its checks pass, every chunk is copied. -/
def manifestDone (s : State) : State :=
  let m := s.boot.man
  if s.boot.phase = .manifest ∧ loadReading s = false ∧ s.boot.readErr = false ∧ manifestReason m s = 0 then
    forEach (List.range (manChunks m)) (fun k t =>
      bootRead (s.boot.slotAt + 0x1000 + 65536 * k) (chunkLen m k) (.chunk k) t)
      { s with boot := { s.boot with phase := .chunks } }
  else s

/-- A read of the load that ends with R_ERR: the reads that are not issued are withdrawn. -/
def loadReadErr (s : State) : State := cancelReqs loadReq { s with boot := { s.boot with readErr := true } }

/-- Bytes of the manifest arrive. -/
def manifestArrived (off : Nat) (b : Bytes) (bad : Bool) (s : State) : State :=
  if s.boot.phase ≠ .manifest then s
  else if bad then loadReadErr s
  else manifestDone { s with boot := { s.boot with man := putBytes s.boot.man off b } }

/-- Bytes of a chunk arrive in image SRAM (R450). -/
def chunkArrived (k off : Nat) (b : Bytes) (bad : Bool) (s : State) : State :=
  if s.boot.phase ≠ .chunks then s
  else if bad then loadReadErr s
  else { s with boot := { s.boot with image := s.boot.image ++ [(65536 * k + off, b)] } }

/-- Chunk `k` is complete in SRAM and its hash equals its CHUNK_HASH. -/
def chunkOk (k : Nat) (s : State) : Bool :=
  let m := s.boot.man
  let n := (s.boot.image.filter (fun e => e.1 / 65536 == k)).foldl (fun a e => a + e.2.length) 0
  decide (k < manChunks m) && n == chunkLen m k &&
    sha384 (gather s.boot.image (65536 * k) (chunkLen m k)) == (m.drop (192 + 48 * k)).take 48

/-- CHUNK_HASH_MATCH: the chunk becomes executable; the ROM jumps to ENTRY once chunk 0 matches (R453). -/
def chunkMatch (k : Nat) (s : State) : State :=
  if s.boot.phase ≠ .chunks ∨ s.boot.matched.contains k = true ∨ chunkOk k s = false then s
  else
    let m := s.boot.man
    let s1 := { s with boot := { s.boot with matched := k :: s.boot.matched } }
    if k ≠ 0 then s1
    else
      { s1 with boot := { s1.boot with entered := true } }
        |> wr64 (loc .BT_IMG_VER) (u m 16 8)
        |> fs (loc .BT_KEYS) F.BT_KEYS_KEY (manKey m)
        |> fs (loc .BT_KEYS) F.BT_KEYS_IMG_SVN (u m 8 8)
        |> fs (loc .BT_TRIAL) F.BT_TRIAL_LIMIT (if u m 34 1 = 0 then 8 else u m 34 1)

/-! ## Verdict (R453, R458) -/

/-- The profile is applied, at RELEASE, at the time-out or at the verdict (R460). While WARM_RST_N is low the datapath stays
in reset, and its release applies the profile. (DEDUCED: log entry 14.) -/
def release (s : State) : State :=
  if s.pins.warmN then applyStrap (keepBank0 s) else fs (loc .BT_STATUS) F.BT_STATUS_RELEASED 1 (keepBank0 s)

/-- What the verdict finds: none while it is not reached, 0 for a pass, or the reason of the first failing check. -/
def verdict (s : State) : Option Nat :=
  let m := s.boot.man
  if loadReading s then none
  else if s.boot.readErr then some 0x01
  else match s.boot.phase with
    | .manifest => if manifestReason m s = 0 then none else some (manifestReason m s)
    | .chunks =>
      if signatureOk m = false then some 0x07
      else if (List.range (manChunks m)).all (fun k => s.boot.matched.contains k) then some 0
      else if (List.range (manChunks m)).all (fun k => s.boot.matched.contains k || chunkOk k s) then none
      else some 0x08
    | _ => none

/-- The datapath leaves reset when the verdict passes (R460); after a load in RECOVERY the program image in steward SRAM goes
into bank 0 and the profile is applied. -/
def leaveReset (s : State) : State :=
  if s.pins.verdict then s
  else
    let s1 := putIslands digitalIslands .run { s with pins := { s.pins with verdict := true, datapathUp := true } }
    if s.boot.relDue = false then s1
    else if fb (loc .BT_STATUS) F.BT_STATUS_RELEASED s1 = false then release s1
    else if s1.pins.warmN then applyStrap (loadBank0 s1) else s1

/-- The verdict passes. (DEDUCED: log entry 14.) -/
def verdictPass (s : State) : State :=
  let limit := fg (loc .BT_TRIAL) F.BT_TRIAL_LIMIT s
  { s with boot := { s.boot with
      phase := .idle, trialEnd := if s.boot.trial then s.tb.refill + limit * 1000000000 * nsU else 0 } }
    |> setBootState (if s.boot.trial then 2 else 3)
    |> fs (loc .BT_STATUS) F.BT_STATUS_GATED 0
    |> bootStep 6
    |> leaveReset
    |> fun t => bcbRecord t.boot.bcb t |> privEdge 2

/-- Entry to RECOVERY (R458, R461): the datapath is held in reset, and READY is 0. After a warm reset host writes stay
held until READY rises (R46). -/
def enterRecovery (s : State) : State :=
  let s1 := resetDatapath s
  let s2 := { s1 with
    pins := { s1.pins with verdict := false, datapathUp := false, profileApplied := false }
    ev := { s1.ev with warmHold := s.ev.warmHold }
    boot := { s1.boot with
      phase := .idle, trialEnd := 0, entered := false, restart := false
      relDue := s1.boot.relDue || fb (loc .BT_STATUS) F.BT_STATUS_RELEASED s1 } }
  let s3 := setBootState 4 s2 |> alert F.GL_ALERT_BOOT
  bcbRecord s3.boot.bcb s3

/-- A check fails with reason `r`: the other slot is tried once, as a normal boot, unless the load is one of RECOV_GO. -/
def verdictFail (r : Nat) (s : State) : State :=
  let other := 1 - bootSlot s
  let s1 := privEdge 2 (setReason r s)
  if bit (fg (loc .BT_STATUS) F.BT_STATUS_TRIED s1) other || s1.boot.recov then enterRecovery (setReason 0x0B s1)
  else
    bcbRecord s1.boot.bcb s1
      |> setFlag (loc .BT_EVENT) F.BT_EVENT_SLOT_FAIL
      |> startLoad other false false

/-- BOOT_VERDICT. -/
def bootVerdict (s : State) : State :=
  if bootState s ≠ 1 then s
  else match verdict s with
    | none => s
    | some 0 => verdictPass s
    | some r => verdictFail r s

/-! ## Restarts (R462) -/

/-- Admin pairs whose OWNER is the steward and that are not in OFF. -/
def stewardPairs (s : State) : List Nat :=
  [1, 2].filter (fun p => fg (loc .WQ_ADM_CFG (p - 1)) F.WQ_ADM_CFG_OWNER s == 2 && admState p s != 0)

/-- Semaphores that the steward holds are released (R462 step 3). -/
def releaseSems (s : State) : State :=
  forEach (List.range 64) (fun i t =>
    let a := loc .GL_SEM 0 i
    if fb a F.GL_SEM_HELD t = true ∧ fg a F.GL_SEM_MASTER t = 2 then wr a 0 t else t) s

/-- Step 2 of a restart: ENABLE falls, and the pair drains (R296). -/
def drainPair (p : Nat) (s : State) : State := admDrain p (fs (loc .WQ_ADM_CFG (p - 1)) F.WQ_ADM_CFG_ENABLE 0 s)

/-- Steps 2 to 5 of a restart, once the steward's accesses have their responses (step 1): its pairs drain, and when they are in
OFF the steward is reset. -/
def restartCheck (s0 : State) : State :=
  if s0.boot.restart = false ∨ s0.host.reqs.any (fun r => bootReq r.purpose) = true then s0
  else
  let s := forEach (stewardPairs s0) drainPair s0
  if (stewardPairs s).isEmpty then
    let n := fg (loc .BT_STATUS) F.BT_STATUS_RESTARTS s
    { s with boot := { s.boot with restart := false, entered := false, trialEnd := 0 } }
      |> releaseSems
      |> fs (loc .BT_STATUS) F.BT_STATUS_RESTARTS (min 255 (n + 1))
      |> setFlag (loc .BT_EVENT) F.BT_EVENT_RESTARTED
      |> setBootState 0
      |> fs (loc .BT_STATUS) F.BT_STATUS_TRIED 0
      |> fs (loc .BT_STATUS) F.BT_STATUS_GATED 1
      |> bcbRead
  else s

/-- Start a restart; `slot` is the slot its load is forced to. (DEDUCED: log entry 81.) -/
def restart (slot : Option Nat) (s : State) : State :=
  restartCheck { s with boot := { s.boot with restart := true, forced := slot } }

/-- TRIAL_WATCHDOG_EXPIRY (R458, R459): the trial's time is up, so that no CONFIRM is accepted any more. -/
def trialExpiry (s : State) : State :=
  if bootState s ≠ 2 ∨ s.boot.restart = true then s
  else
    let s1 := privEdge 1 (setReason 0x09 { s with boot := { s.boot with trialEnd := 0 } })
    if s1.boot.recov then enterRecovery s1 else restart (some (u s1.boot.bcb 4 1 % 2)) s1

/-! ## Memory protection (R447, R448) -/

/-- The regions of the steward's memory (R447). -/
inductive StwRegion where
  | rom | image | data | fuses | none
  deriving DecidableEq, Repr

/-- Region of an address; one in none of them has no rights. -/
def stwRegion (a : Nat) : StwRegion :=
  if a < 0x10000 then .rom
  else if 0x10000000 ≤ a ∧ a < 0x100C0000 then .image
  else if 0x100C0000 ≤ a ∧ a < 0x10100000 then .data
  else if 0x20000000 ≤ a ∧ a < 0x20002000 then .fuses
  else .none

/-- Rights of an access (R447): `acc` is 0 a fetch, 1 a read, 2 a write. The ROM's column holds until it jumps to the image. -/
def stwRights (a acc : Nat) (s : State) : Bool :=
  match stwRegion a, s.boot.entered with
  | .rom, false => acc < 2
  | .rom, true => false
  | .image, false => 1 ≤ acc
  | .image, true => acc < 2 && s.boot.matched.contains ((a - 0x10000000) / 65536)
  | .data, _ => 1 ≤ acc
  | .fuses, _ => acc == 1
  | .none, _ => false

/-- A fetch that stalls (R448): its chunk is still being hashed, since not all of it is copied, or its hash is about to match. -/
def stwStalls (a acc : Nat) (s : State) : Bool :=
  let k := (a - 0x10000000) / 65536
  let n := (s.boot.image.filter (fun e => e.1 / 65536 == k)).foldl (fun t e => t + e.2.length) 0
  acc == 0 && s.boot.entered && stwRegion a == .image && s.boot.phase == .chunks && decide (k < manChunks s.boot.man) &&
    (n != chunkLen s.boot.man k || chunkOk k s)

/-- MPU_VIOLATION (R448): an access outside the rights restarts the steward. In RECOVERY the ROM waits, and in reset nothing
runs. (DEDUCED: log entry 81.) -/
def mpuViolation (a acc : Nat) (s : State) : State :=
  if coldHeld s || decide (s.pins.coldStep < 4) || bootState s == 4 || s.boot.restart || stwRights a acc s || stwStalls a acc s then s
  else restart none (setReason 0x0A s)

/-! ## BT_CTRL (R459 to R462) -/

/-- A write of BT_CTRL: none where the present state refuses it; a trial whose time is up is not confirmed (R459), and a second
RELEASE since the cold reset is not accepted; one that comes after the time-out has nothing left to apply (R460). (DEDUCED: log
entry 81.) -/
def writeBtCtrl (data : Nat) (s : State) : Option State :=
  let st := bootState s
  let runs := st == 2 || st == 3
  let expired := decide (s.boot.trialEnd ≤ s.tb.refill)
  if (bit data 31 && (st != 2 || expired)) || (bit data 30 && (!runs || s.boot.relTaken)) ||
      (bit data 29 && !runs) || (bit data 28 && st != 4) then none
  else some (s
    |> doIf (bit data 31) (fun t =>
        let b := bcbPut 4 (u t.boot.bcb 4 1 / 2 * 2 + bootSlot t) t.boot.bcb
        { t with boot := { t.boot with trialEnd := 0 } }
          |> setBootState 3 |> setFlag (loc .BT_EVENT) F.BT_EVENT_CONFIRMED |> bcbRecord b)
    |> doIf (bit data 30) (fun t =>
        let u := { t with boot := { t.boot with relTaken := true } }
        if fb (loc .BT_STATUS) F.BT_STATUS_RELEASED u then u else release u)
    |> doIf (bit data 29 && !s.boot.restart) (restart none)
    |> doIf (bit data 28) (fun t =>
        latchBcb { t with boot := { t.boot with recov := true } }
          |> fs (loc .BT_STATUS) F.BT_STATUS_TRIED 0 |> startLoad (data % 2) true false))

/-- RELEASE_TIMEOUT: 240 ms after the rising edge of RST_N (R460). (DEDUCED: log entry 14.) -/
def releaseTimeout (s : State) : State :=
  if coldHeld s || fb (loc .BT_STATUS) F.BT_STATUS_RELEASED s then s
  else if s.pins.verdict then release s
  else { s with boot := { s.boot with relDue := true } }

/-- BT_TRIAL as it reads: REMAIN is the trial time left in ms, 0 outside TRIAL. -/
def readBtTrial (s : State) : Nat :=
  let left := if bootState s = 2 then (s.boot.trialEnd - s.tb.refill) / (1000000 * nsU) else 0
  left % 65536 * 65536 + fg (loc .BT_TRIAL) F.BT_TRIAL_LIMIT s

/-! ## Fuses and debug (R463 to R467) -/

/-- The 64-bit value is a thermometer code from bit 0. -/
def thermometer (v : Nat) : Bool := (List.range 65).any (fun c => v == 2 ^ c - 1)

/-- A program of fuse word `w` with `d` that R466 refuses. (DEDUCED: log entry 82.) -/
def fuseRefused (w d : Nat) (s : State) : Bool :=
  let v := fuseWord w s ||| d
  let r := if w = 0x32 then v + fuseWord 0x33 s * 2 ^ 32 else fuseWord 0x32 s + v * 2 ^ 32
  (w == 0x30 && !(List.range 4).any (fun k => programmed k s && !bit v k)) ||
    ((w == 0x32 || w == 0x33) &&
      (!thermometer r || decide (fg (loc .BT_KEYS) F.BT_KEYS_IMG_SVN s < onesFrom 64 r)))

/-- A write of BT_FUSE_CTRL (R465): a program is refused while one runs. (DEDUCED: log entry 82.) -/
def writeFuseCtrl (data : Nat) (s : State) : Option State :=
  let a := loc .BT_FUSE_CTRL
  let w := data % 2048
  let d := rd (loc .BT_FUSE_DATA) s
  if bit data 31 = false then some (fs a F.BT_FUSE_CTRL_WORD w s)
  else if fb a F.BT_FUSE_CTRL_BUSY s || fuseRefused w d s then none
  else
    some ({ s with boot := { s.boot with fusing := some (w, d) } }
      |> fs a F.BT_FUSE_CTRL_WORD w |> fs a F.BT_FUSE_CTRL_BUSY 1 |> fs a F.BT_FUSE_CTRL_REFUSED 0)

/-- What a refused program leaves: REFUSED (R466). -/
def fuseMiss (data : Nat) (s : State) : State :=
  let a := loc .BT_FUSE_CTRL
  if bit data 31 && !fb a F.BT_FUSE_CTRL_BUSY s && fuseRefused (data % 2048) (rd (loc .BT_FUSE_DATA) s) s then
    fs a F.BT_FUSE_CTRL_REFUSED 1 s
  else s

/-- BT_FUSE_RD as it reads. -/
def readFuse (s : State) : Nat := fuseWord (fg (loc .BT_FUSE_CTRL) F.BT_FUSE_CTRL_WORD s) s

/-- FUSE_PROG_DONE: `readback` is the word as it reads back from the array, which holds it from then on (R463, R465). (DEDUCED:
log entry 82.) -/
def fuseProgDone (readback : Nat) (s : State) : State :=
  match s.boot.fusing with
  | none => s
  | some (w, d) =>
    let a := loc .BT_FUSE_CTRL
    let rb := readback % 2 ^ 32
    let fail := rb != (fuseWord w s ||| d)
    let s1 := { s with boot := { s.boot with
      array := sput 0 s.boot.array w rb, fuse := sput 0 s.boot.fuse w rb, fusing := none } }
    let valid := (List.range 4).foldl (fun v n => v + b2n (profValid (storedProfile n s1) n) * 2 ^ n) 0
    showFuses s1
      |> fs (loc .GL_PROFILE) F.GL_PROFILE_VALID valid
      |> fs a F.BT_FUSE_CTRL_BUSY 0
      |> fs a F.BT_FUSE_CTRL_FAIL (b2n fail)
      |> doIf fail (alert F.GL_ALERT_FUSE)
      |> privEdge 3

/-- A write of BT_DEBUG (R467): UNLOCK is refused once DEBUG_DISABLE is blown. -/
def writeBtDebug (data : Nat) (s : State) : Option State :=
  if bit data 31 = false then some s
  else if fb (loc .BT_DEBUG) F.BT_DEBUG_DISABLED s then none
  else
    some ({ s with pins := { s.pins with tapBypass := s.pins.tapIr == 0 } }
      |> fs (loc .BT_DEBUG) F.BT_DEBUG_UNLOCKED 1 |> fs (loc .BT_STATUS) F.BT_STATUS_DEBUG_UNLOCKED 1)

/-! ## Commands -/

/-- STEWARD_ROM_START. -/
def execStewardRomStart (s : State) : Host.Outcome State Fault Refusal := done (romStart s)
/-- CHUNK_HASH_MATCH of chunk `k`. -/
def execChunkHashMatch (k : Nat) (s : State) : Host.Outcome State Fault Refusal := done (chunkMatch k s)
/-- BOOT_VERDICT. -/
def execBootVerdict (s : State) : Host.Outcome State Fault Refusal := done (bootVerdict s)
/-- CONFIRM: a write of BT_CTRL CONFIRM. -/
def execConfirm (m : Master) (s : State) : Host.Outcome State Fault Refusal :=
  done (ctlWrite m (loc .BT_CTRL) (2 ^ 31) (writeBtCtrl (2 ^ 31)) s)
/-- RELEASE: a write of BT_CTRL RELEASE. -/
def execRelease (m : Master) (s : State) : Host.Outcome State Fault Refusal :=
  done (ctlWrite m (loc .BT_CTRL) (2 ^ 30) (writeBtCtrl (2 ^ 30)) s)
/-- RELEASE_TIMEOUT. -/
def execReleaseTimeout (s : State) : Host.Outcome State Fault Refusal := done (releaseTimeout s)
/-- RESTART: a write of BT_CTRL RESTART. -/
def execRestart (m : Master) (s : State) : Host.Outcome State Fault Refusal :=
  done (ctlWrite m (loc .BT_CTRL) (2 ^ 29) (writeBtCtrl (2 ^ 29)) s)
/-- RECOV_GO: a write of BT_CTRL RECOV_GO naming slot `k`. (DEDUCED: log entry 81.) -/
def execRecovGo (m : Master) (k : Nat) (s : State) : Host.Outcome State Fault Refusal :=
  done (ctlWrite m (loc .BT_CTRL) (2 ^ 28 + k % 2) (writeBtCtrl (2 ^ 28 + k % 2)) s)
/-- TRIAL_WATCHDOG_EXPIRY. -/
def execTrialWatchdogExpiry (s : State) : Host.Outcome State Fault Refusal := done (trialExpiry s)
/-- MPU_VIOLATION by an access of kind `acc` to address `a`. -/
def execMpuViolation (s : State) (a : Nat := 0) (acc : Nat := 0) : Host.Outcome State Fault Refusal := done (mpuViolation a acc s)
/-- FUSE_PROG: a write of BT_FUSE_CTRL PROG with WORD. -/
def execFuseProg (m : Master) (word : Nat) (s : State) : Host.Outcome State Fault Refusal :=
  let d := 2 ^ 31 + word % 2048
  done (ctlWrite m (loc .BT_FUSE_CTRL) d (writeFuseCtrl d) s (fuseMiss d))
/-- FUSE_PROG_DONE: `readback` is what the word reads after programming. -/
def execFuseProgDone (readback : W32) (s : State) : Host.Outcome State Fault Refusal := done (fuseProgDone readback.toNat s)
/-- DEBUG_UNLOCK: a write of BT_DEBUG UNLOCK. -/
def execDebugUnlock (m : Master) (s : State) : Host.Outcome State Fault Refusal :=
  done (ctlWrite m (loc .BT_DEBUG) (2 ^ 31) (writeBtDebug (2 ^ 31)) s)
/-- ADMIN_DRAIN_DONE. A drain that a steward restart waits for lets it go on (R462). -/
def execAdminDrainDone (p : Nat) (s : State) : Host.Outcome State Fault Refusal :=
  done (restartCheck (admDrainDone (pairOf p) s))

end Sys2Proof.Machine
end

