-- ==== Sys2Proof/Machine/HostAnswers.lean ====
section
/-!
DEFINITION. What the answers of the host chip do: read beats, write responses, translation and page responses, and
invalidations (R62 to R74, R334 to R338). Each access is finished by the handler of its purpose: `readDone` and `writeDone`
where it succeeded, `accessFailed` where a read, a write or its translation failed.
-/

namespace Sys2Proof.Machine

/-! ## Room (R268, R272, R273) -/

/-- An entry that the abort sequence cancels reserves its place once there is room (R281). -/
def placeAborted (s : State) : State :=
  forEach (s.wq.execs.filter (fun e => e.abort && !e.placed)) (fun e t =>
    match getX e.id t with
    | none => t
    | some x =>
      let r := reservePlace (getSq x.sq t).cq t
      if r.1 then completeSq x.sq (setX { x with placed := true, fromPool := r.2.1 } r.2.2) else r.2.2) s

/-- Completion room or posts have appeared: waiting frames start their delivery, cancelled entries take places. -/
def roomCheck (s : State) : State :=
  forEach ((s.wq.sqs.filter (fun p => p.2.waiting != [])).map (·.1)) rxKick (placeAborted s)

/-! ## Stops (R280, R281, R295, R394) -/

/-- A completion queue stops: what it has not written is never written, and abort sequences on it end without a write.
(DEDUCED: log entry 59.) -/
def stopCq (c status : Nat) (s : State) : State :=
  if (getCq c s).state ≠ .active then s
  else
    let s1 := cqStop c status s
    let gone := neverWritten (fun e => (getSq e.sq s1).cq == c) s1
    let s2 := forEach (s1.wq.sqs.map (·.1)) (fun q t => if (getSq q t).cq = c then abortOnStop q t else t)
      (forEach gone endOut s1)
    let k := getCq c s2
    finishOpt k.cmd St.ok k.found (setCq c { k with cmd := none } s2)

/-- ENTRY_RETIRE (R469): the learn queue's entry `i`, or entry `i` of completion queue `q`'s backlog, shows an uncorrectable
error; what it held is lost, its output among the rest, and the completion queue stops (R280). -/
def entryRetire (learn : Bool) (q i : Nat) (s : State) : State :=
  if learn then
    let had := decide (i < s.tab.learnQ.length)
    let s1 := setTab { s.tab with learnQ := s.tab.learnQ.eraseIdx i } s |> doIf had (bump (cTable 2))
    svLast 7 3 (if s.sv.learnRet < 128 then outDone else outNoSpare) 0 (setSv { s1.sv with learnRet := s1.sv.learnRet + 1 } s1)
  else
    let k := getCq q s
    let s1 := match k.backlog[i]? with
      | some e =>
        let s2 := match getX e.1 s with
          | some x => endOut x.oid (setCq q { k with backlog := k.backlog.eraseIdx i, pool := k.pool - b2n x.fromPool } s)
          | none => setCq q { k with backlog := k.backlog.eraseIdx i } s
        stopCq q St.hostReadError (dropX e.1 s2)
      | none => s
    svLast 6 3 (if s.sv.poolRet < 4096 then outDone else outNoSpare) 0 (setSv { s1.sv with poolRet := s1.sv.poolRet + 1 } s1)

/-- A record of a Sillage queue is finished with: its output, and the counts that rebindings wait for. -/
def recEnded (q oid who : Nat) (s : State) : State :=
  let k := getSil q s
  rebindCheck (whoEnded who (setSil q { k with outRecs := k.outRecs - 1 } (endOut oid s)))

/-- The answer of a write whose work has ended. -/
def goneEnded (oid : Option Nat) (who : Nat) (s : State) : State :=
  rebindCheck (whoEnded who (match oid with
    | some o => endOut o s
    | none => s))

/-- A Sillage queue stops (R394): the records it has not issued are never written. -/
def stopSil (q : Nat) (s : State) : State :=
  if (getSil q s).state ≠ .active then s
  else
    let gone := s.host.reqs.filterMap (fun r => match r.purpose, r.phase with
      | .silRec _ _ _ _, .out _ _ _ => none
      | .silRec w oid _ who, _ => if w = q then some (oid, who) else none
      | _, _ => none)
    let s1 := forEach gone (fun g t => recEnded q g.1 g.2 t) (silStop q s)
    let k := getSil q s1
    finishOpt k.cmd St.ok k.credit (setSil q { k with cmd := none } s1)

/-- An admin pair stops (R295); one that drains goes on draining, silently. -/
def stopPair (p status : Nat) (s : State) : State :=
  let draining := admState p s == 3
  let s1 := admStop p status s
  if draining then setAdmState p 3 (setPair p { getPair p s1 with finalDone := true } s1) else s1

/-! ## Completion queues (R271, R275) -/

/-- A credit scan of a completion queue ends. -/
def cqScanEnd (c : Nat) (s : State) : State :=
  let k := getCq c s
  let s1 := setCq c { k with scan := false, rescan := false, cmd := none } s
  let s2 := if k.rescan then cqScanStart c s1 else s1
  roomCheck (finishOpt k.cmd St.ok k.found s2)

/-- A slot read by the credit scan (R271): an owned one gives credit and ends an episode; the backlog is written. -/
def cqSlot (c pos : Nat) (b : Bytes) (agree : Bool) (s : State) : State :=
  let k := getCq c s
  if k.state ≠ .active ∨ k.scan = false then s
  else if owned b (32 * (pos % 2)) 32 agree = false then cqScanEnd c s
  else
    let s1 := drainCq c (setCq c { k with credit := k.credit + 1, found := k.found + 1, episode := false } s)
    if creditMax k.logSize ≤ (getCq c s1).credit then cqScanEnd c s1 else cqScanRead c s1

/-- Entries of a ring of `2 ^ log` written since its producer was at `pos + 1`. -/
def sinceArm (prod pos log : Nat) : Nat := (prod + 2 ^ log - (pos + 1) % 2 ^ log) % 2 ^ log

/-- The arming read of a completion queue (R275): a completion that software has not returned, or one written since, gives
the record at once. -/
def cqArmed (c pos : Nat) (b : Bytes) (agree : Bool) (s : State) : State :=
  let k := getCq c s
  let flying := if duFlips s then k.outWrites else 0
  if k.state ≠ .active then s
  else if owned b (32 * (pos % 2)) 32 agree = false ∨ unissued (ofCq c) s + flying < sinceArm k.prod pos k.logSize then
    completionRecord c flying s
  else setCq c { k with armed := true } s

/-! ## Submission queues (R267, R281) -/

/-- An entry read by the scan of a submission queue. -/
def sqEntryRead (q : Nat) (b : Bytes) (agree : Bool) (s : State) : State :=
  let k := getSq q s
  if k.state ≠ .active ∨ k.scanning = false then s
  else if scanHeld k s then setSq q { k with scanning := false, rescan := true } s
  else if agree = false then sqScanEnd q (setSq q { k with refetch := true } s)
  else if owned b 0 64 true = false then sqScanEnd q s
  else
    let t := (acceptEntry q b s).2
    if (acceptEntry q b s).1 then sqScanNext q (if k.rx then rxKick q t else t)
    else setSq q { getSq q t with scanning := false, stopRoom := true } t

/-- The final scan of an abort sequence ends (R281). -/
def sqFinalEnd (q : Nat) (s : State) : State := setSq q { getSq q s with finalDone := true } s

/-- An entry read by the final scan: an owned one completes with ABORTED. (DEDUCED: log entry 58.) -/
def sqFinalRead (q pos : Nat) (b : Bytes) (agree : Bool) (s : State) : State :=
  let k := getSq q s
  if (k.state ≠ .resetting ∧ k.state ≠ .destroying) ∨ k.finalDone = true then s
  else if owned b 0 64 agree = false then sqFinalEnd q s
  else
    let r := reservePlace k.cq s
    let e := { newExec q pos b [] r.1 r.2.1 none r.2.2 with abort := true }
    let s1 := failExec e.id St.aborted (addExec e r.2.2)
    let next := (pos + 1) % 2 ^ k.logSize
    if next = k.pos then sqFinalEnd q s1 else finalScanNext q next s1

/-! ## Transmit entries (R265, R278, R371) -/

/-- The frame of an execution has started on its MAC. -/
def frameStarted (e : Exec) (s : State) : Bool :=
  match e.frame with
  | some f => onMac f s
  | none => false

/-- A transmit entry ends in an error before its frame has started. -/
def failTx (x status : Nat) (s : State) : State :=
  match getX x s with
  | none => s
  | some e =>
    let s1 := cancelExec x s
    failExec x status (match e.frame with | some f => killTx f s1 | none => s1)

/-- A data read of an entry whose frame has started returns an error (R372): the frame on the line is cut; a preempted one
that waits for its continuation ends there. -/
def cutStarted (x status : Nat) (s0 : State) : State :=
  let s := cancelExec x s0
  match (getX x s).bind (fun e => e.frame) with
  | none => s
  | some i =>
    match getF i s with
    | none => s
    | some f =>
      match (getTx f.port s).cur with
      | some c =>
        if c.frame = i then underrun f.port status s else loseOpened f.port status s
      | none => loseOpened f.port status s

/-- A translation of a transmit entry answers FAULT (R278, R371): the entry parks, and its selection is withdrawn. One
access waits for the page. -/
def parkTx (x : Nat) (r : Req) (s : State) : State :=
  match getX x s with
  | none => s
  | some e =>
    let mine (q : Req) : Bool := q.id != r.id && (match q.purpose, q.phase with
      | _, .out _ _ _ => false
      | .sqTable y _, _ => y == x
      | .txData y _, _ => y == x
      | _, _ => false)
    let s1 := { s with host := { s.host with reqs := s.host.reqs.filter (fun q => !mine q) } }
    let s2 := match e.frame.bind (fun f => getF f s1) with
      | some f => withdrawSel f.port f.id s1
      | none => s1
    setX { e with frame := none, phase := .accepted, parked := true, issued := 0, out := 0, pieces := [], tbl := [] } s2

/-- Bytes of a transmit entry's data arrive; the rest of a frame that has been cut is discarded. -/
def txDataRead (x off : Nat) (b : Bytes) (s : State) : State :=
  match getX x s with
  | none => s
  | some e =>
    if e.cpl.isSome then completeSq e.sq (setX { e with out := e.out - 1 } s)
    else if e.phase ≠ .data then s
    else txArrived x (setX { e with pieces := e.pieces ++ [(off, b)], out := e.out - 1, moved := e.moved + b.length } s)

/-! ## Fragment tables (R261, R265) -/

/-- Status of a complete fragment table, 0 where it passes. -/
def tableStatus (rx : Bool) (b tbl : Bytes) : Nat :=
  let ps := parsePairs (u b 6 2) tbl
  if ps.all pairOk = false then St.badFragTable
  else if entryLength rx b (ps.map (fun p => (p.1, p.2.1))) = false then St.badLength
  else St.ok

/-- A receive post fails before any data is moved: its frame goes on to the queue's next post. -/
def failPost (x status : Nat) (s : State) : State :=
  match getX x s with
  | none => s
  | some e =>
    let s1 := setX { e with frame := none, parked := false } s
    let s2 := match e.frame with
      | some f =>
        let k := getSq e.sq s1
        match getF f s1 with
        | some g => setF { g with exec := none } (setSq e.sq { k with waiting := f :: k.waiting } s1)
        | none => s1
      | none => s1
    rxKick e.sq (failExec x status (cancelExec x s2))

/-- Bytes of a fragment table arrive; once it is complete it is checked, and data starts to move. -/
def tableRead (x off : Nat) (b : Bytes) (s : State) : State :=
  match getX x s with
  | none => s
  | some e =>
    if e.cpl.isSome then completeSq e.sq (setX { e with out := e.out - 1 } s)
    else if e.phase ≠ .table then s
    else
      let e1 := { e with tbl := putBytes e.tbl off b, out := e.out - 1 }
      let s1 := setX e1 s
      if e1.out ≠ 0 then s1
      else
        let rx := (getSq e.sq s).rx
        let st := tableStatus rx e.raw e1.tbl
        let fr := (parsePairs (u e.raw 6 2) e1.tbl).map (fun p => (p.1, p.2.1))
        if st ≠ St.ok then (if rx then failPost x st s1 else failTx x st s1)
        else if rx then
          if e.frame.isNone then rxKick e.sq (setX { e1 with phase := .accepted } s1)
          else rxAdvance x (setX { e1 with frags := fr, phase := .data } s1)
        else txReads x (setX { e1 with frags := fr } s1)

/-! ## Receive data (R265, R278) -/

/-- A data write of a receive post has been answered. -/
def rxWritten (x : Nat) (s : State) : State :=
  match getX x s with
  | none => s
  | some e =>
    let s1 := setX { e with out := e.out - 1, moved := e.moved + 1 } s
    if e.cpl.isSome then completeSq e.sq s1 else rxFinish x s1

/-- A data write of a receive post fails: no more is written, and the post completes with the status. -/
def rxError (x status : Nat) (s : State) : State :=
  match getX x s with
  | none => s
  | some e =>
    let s1 := cancelExec x (setX { e with err := if e.err = 0 then status else e.err, parked := false } s)
    if e.cpl.isSome then completeSq e.sq s1 else rxFinish x s1

/-! ## Completions and releases (R265, R290) -/

/-- The release write of an entry (R265 step 5). (DEDUCED: log entry 59.) -/
def releaseWrite (x : Nat) (s : State) : State :=
  match getX x s with
  | none => s
  | some e =>
    let k := getSq e.sq s
    access { chan := cqChan k.cq, func := k.func, iova := k.base + 64 * e.pos + 63, len := 1, write := true, data := [0],
             purpose := .release x } (setX { e with phase := .releasing } s)

/-- A completion is visible: the entry is released, by the partner in a protected Duo pair (`flip`, R489, R490). -/
def completionDone (c x : Nat) (flip : Bool) (s : State) : State :=
  let k := getCq c s
  let s1 := setCq c { k with outWrites := k.outWrites - 1 } s
  let s2 := match getX x s1 with
    | some e =>
      let s3 := endOut e.oid s1
      if (getCq c s3).state ≠ .active then s3 else if flip then dropX x s3 else releaseWrite x s3
    | none => s1
  let s4 := if flip && (getCq c s2).armed then completionRecord c (getCq c s2).outWrites s2 else s2
  roomCheck (cqArmRead c s4)

/-- The release write of an admin entry. -/
def admReleaseWrite (p k : Nat) (s : State) : State :=
  match getCmd p k s with
  | none => s
  | some c =>
    access { chan := admChan p, func := admFunc p s, iova := admSqBase p s + 64 * c.pos + 63, len := 1, write := true,
             data := [0], purpose := .admRelease p k } (setCmd p { c with phase := .releasing } s)

/-- The next step of a drain: its final scan starts, or goes on if there is room for what it may find (R296). -/
def admFinalMore (p : Nat) (s : State) : State :=
  let s := admDrainMore p s
  let k := getPair p s
  if admState p s ≠ 3 ∨ k.finalDone = true ∨ k.stopRoom = false ∨ admRoom p s = false then s
  else admFinalNext p k.sqPos (setPair p { k with stopRoom := false } s)

/-- An admin completion is visible (R290). -/
def admCplDone (p k : Nat) (flip : Bool) (s : State) : State :=
  let pr := getPair p s
  let s1 := setPair p { pr with outWrites := pr.outWrites - 1 } s
  let s2 := match getCmd p k s1 with
    | some c => (let t := completionWritten p k (endOut c.oid s1); if flip then dropCmd p k t else admReleaseWrite p k t)
    | none => s1
  let s3 := if flip && (getPair p s2).armed then
      admCplRecord p (getPair p s2).outWrites s2 else s2
  admFinalMore p (admArmRead p s3)

/-! ## Admin rings (R286, R287, R296) -/

/-- A credit scan of an admin completion ring ends. -/
def admCqEnd (p : Nat) (s : State) : State :=
  let k := getPair p s
  let s1 := setPair p { k with cqScan := false, cqRescan := false } s
  admFinalMore p (if k.cqRescan then admCqScanStart p s1 else s1)

/-- A slot read by it. -/
def admSlot (p pos : Nat) (b : Bytes) (agree : Bool) (s : State) : State :=
  let k := getPair p s
  if (admState p s ≠ 1 ∧ admState p s ≠ 3) ∨ k.cqScan = false then s
  else if owned b (32 * (pos % 2)) 32 agree = false then admCqEnd p s
  else
    let s1 := setPair p { k with credit := k.credit + 1 } s
    if creditMax (admCqLog p s) ≤ k.credit + 1 then admCqEnd p s1 else admCqScanRead p s1

/-- The arming read of an admin completion ring. -/
def admArmed (p pos : Nat) (b : Bytes) (agree : Bool) (s : State) : State :=
  let k := getPair p s
  let flying := if duFlips s then k.outWrites else 0
  if admState p s ≠ 1 then s
  else if owned b (32 * (pos % 2)) 32 agree = false ∨ unissued (ofAdm p) s + flying < sinceArm k.cqProd pos (admCqLog p s) then
    admCplRecord p flying s
  else setPair p { k with armed := true } s

/-- An admin entry read by the scan (R287). -/
def admEntryRead (p pos : Nat) (b : Bytes) (agree : Bool) (s : State) : State :=
  if admState p s ≠ 1 ∨ (getPair p s).scanning = false then s
  else if packetsHeld s then setPair p { getPair p s with scanning := false, rescan := true } s
  else if owned b 0 64 agree && admStarts b s then admScanNext p (admAccept p pos b s) else admScanEnd p s

/-- An admin entry read by the final scan of a drain. -/
def admFinalRead (p pos : Nat) (b : Bytes) (agree : Bool) (s : State) : State :=
  let k := getPair p s
  if admState p s ≠ 3 ∨ k.finalDone = true then s
  else if owned b 0 64 agree = false then setPair p { k with finalDone := true } s
  else if admRoom p s = false then setPair p { k with stopRoom := true } s
  else
    let s1 := admFinalFound p pos b s
    if admRoom p s1 then admFinalNext p (getPair p s1).sqPos s1 else setPair p { getPair p s1 with stopRoom := true } s1

/-- Data of a command arrives (R293). -/
def admDataRead (p k off : Nat) (b : Bytes) (s : State) : State :=
  match getCmd p k s with
  | none => s
  | some c =>
    if c.phase ≠ .running then s
    else
      let s1 := setCmd p { c with data := putBytes c.data off b } s
      let more := s1.host.reqs.any (fun r => match r.purpose with
        | .admData q j _ => q == p && j == k
        | _ => false)
      if more then s1 else cmdData p k s1

/-- Data of a command cannot be read: it has no effect (R293). -/
def admDataFail (p k status : Nat) (s : State) : State :=
  cancelReqs (fun q => match q with
    | .admData r j _ => r == p && j == k
    | _ => false) s
    |> finishCmd p k status 0 0

/-! ## Sillage queues (R392 to R395) -/

/-- A credit scan of a Sillage queue ends. -/
def silScanEnd (q : Nat) (s : State) : State :=
  let k := getSil q s
  let s1 := setSil q { k with scan := false, rescan := false, cmd := none } s
  finishOpt k.cmd St.ok k.credit (if k.rescan then silScanStart q s1 else s1)

/-- A slot read by it: credit may let the OVERFLOW record go (R393). -/
def silSlot (q pos : Nat) (b : Bytes) (agree : Bool) (s : State) : State :=
  let k := getSil q s
  if k.state ≠ .active ∨ k.scan = false then s
  else if owned b (16 * (pos % 4)) 16 agree = false then silScanEnd q s
  else
    let s1 := overflowRecord q (setSil q { k with credit := k.credit + 1 } s)
    if creditMax k.logSize ≤ (getSil q s1).credit then silScanEnd q s1 else silScanRead q s1

/-- The arming read of a Sillage queue (R395): a record not returned, or one written since, makes a message due at once. -/
def silArmed (q pos : Nat) (b : Bytes) (agree : Bool) (s : State) : State :=
  let k := getSil q s
  if k.state ≠ .active then s
  else if owned b (16 * (pos % 4)) 16 agree = false ∨ k.outRecs < sinceArm k.prod pos k.logSize then messageDue q 0 false s
  else setSil q { k with armed := true } s

/-- A record has its write response (R395, R396, R400). -/
def recDone (q oid kind who : Nat) (s : State) : State := silArmRead q (recordWritten q kind (recEnded q oid who s))

/-! ## Duo standby: flips and releases (R489) -/

/-- The ring whose releases are ordered: the submission ring of what a READY names. -/
def rdyRing : RdyRef → Nat × Nat
  | .cpl _ _ q _ => (0, q)
  | .adm p _ _ => (1, p)
  | .sil q _ => (2, q)
  | .te n _ => (3, n)
  | .dump _ => (4, 0)

/-- Issue the releases that come next in READY order of their rings. -/
def duReleases : List Ready → List (Nat × Nat) → State → State
  | [], _, s => s
  | r :: rs, held, s =>
    let k := rdyRing r.ref
    if r.st = 1 ∧ held.contains k = false then
      let a := match r.ref with
        | .cpl _ _ q pos => (let v := getSq q s; (cqChan v.cq, v.func, v.base + 64 * pos + 63))
        | .adm p _ pos => (admChan p, admFunc p s, admSqBase p s + 64 * pos + 63)
        | _ => (0, 0, 0)
      let todo := s.du.todo.map (fun x => if x.id = r.id then { x with st := 2 } else x)
      access { chan := a.1, func := a.2.1, iova := a.2.2, len := 1, write := true, data := [0], purpose := .duoRelease r.id }
          { s with du := { s.du with todo := todo } }
        |> duReleases rs held
    else duReleases rs (if r.st = 2 then held else k :: held) s

/-- A flip of the standby has its response: the active hears of it, and the release follows where there is one and the
write has not failed (R65). -/
def duFlipped (id : Nat) (err : Bool) (s : State) : State :=
  match s.du.todo.find? (fun r => r.id == id) with
  | none => s
  | some r =>
    let rel := match r.ref with
      | .cpl _ _ _ _ => true
      | .adm _ _ _ => true
      | _ => false
    let todo := if rel && !err then s.du.todo.map (fun x => if x.id = id then { x with st := 1 } else x)
      else s.du.todo.filter (fun x => x.id != id)
    let s1 := sendFlit (.flipped id err) { s with du := { s.du with todo := todo } }
    duReleases s1.du.todo [] s1

/-- A release of the standby has its response; the active hears of one that failed (R65). -/
def duReleased (id : Nat) (err : Bool) (s : State) : State :=
  let s1 := { s with du := { s.du with todo := s.du.todo.filter (fun x => x.id != id) } }
  match s.du.todo.find? (fun x => x.id == id) with
  | some x => if err then sendFlit (.releaseFailed x.ref) s1 else s1
  | none => s1

/-! ## Dispatch on purpose -/

/-- Data of a read: `b` the bytes, `agree` false where the two reads of double-read mode differ (R70). -/
def readDone (p : Purpose) (b : Bytes) (agree : Bool) (s : State) : State :=
  match p with
  | .sqEntry q _ => sqEntryRead q b agree s
  | .sqFinal q pos => sqFinalRead q pos b agree s
  | .sqTable x off => tableRead x off b s
  | .txData x off => txDataRead x off b s
  | .cqScan c pos => cqSlot c pos b agree s
  | .cqArm c pos => cqArmed c pos b agree s
  | .admEntry p pos => admEntryRead p pos b agree s
  | .admFinal p pos => admFinalRead p pos b agree s
  | .admScan p pos => admSlot p pos b agree s
  | .admArm p pos => admArmed p pos b agree s
  | .admData p k off => admDataRead p k off b s
  | .silScan q pos => silSlot q pos b agree s
  | .silArm q pos => silArmed q pos b agree s
  | .teDesc n pos => teDescRead n pos b agree s
  | .teFinal n pos => teFinalRead n pos b agree s
  | .teList n dst off => teListRead n dst off b s
  | .teRead n off => teDataRead n off b s
  | .dumpHdrRead => dumpHeaderArrived (owned b 0 64 agree) false s
  | .bcbRead _ => bcbArrived b false s
  | .manifest off => manifestArrived off b false s
  | .chunk k off => chunkArrived k off b false s
  | .leaseRead => leaseArrived b s
  | _ => s

/-- A write, or the flip that stands for it in a protected Duo pair, has its response. -/
def writeDone (p : Purpose) (flip : Bool) (s : State) : State :=
  match p with
  | .rxData x _ => rxWritten x s
  | .completion c x => completionDone c x flip s
  | .release x => dropX x s
  | .admCompl p k => admCplDone p k flip s
  | .admRelease p k => admFinalMore p (dropCmd p k s)
  | .silRec q oid kind who => recDone q oid kind who s
  | .teWrite n _ => tePump n s
  | .teStatus n => teReleaseWrite n s
  | .teRelease n => teReleased n s
  | .dumpRec _ => dumpRecDone false s
  | .dumpHdrWrite => dumpHdrDone false s
  | .leaseWrite => leaseWritten false s
  | .duoFlip id => duFlipped id false s
  | .duoRelease id => duReleased id false s
  | .gone oid who => goneEnded oid who s
  | _ => s

/-- A read of a final scan fails (R281, R296, R333): the scan ends there, and the failure is reported for what it scanned (R65): a
QUEUE_ERROR record, the error register of the pair, or a TE_ERROR record. (DEDUCED: log entry 59.) -/
def finalFailed (p : Purpose) (status : Nat) (s : State) : State :=
  match p with
  | .sqFinal q _ => sqErrorRecord q status (sqFinalEnd q s)
  | .admFinal p _ =>
    setPair p { getPair p s with finalDone := true } s
      |> fs (loc .WQ_ADM_ERR (p - 1)) F.WQ_ADM_ERR_ERR status
      |> setFlag (loc .WQ_EVENT) F.WQ_EVENT_QUEUE_ERROR
  | .teFinal n pos => teFinalEnd n (teRecord n status 0x0C pos 0 true (teFlag n 1 s))
  | _ => s

/-- An access has failed with `status`: HOST_READ_ERROR, HOST_WRITE_ERROR, TRANSLATION_FAULT or ACCESS_DENIED (R65, R73). -/
def accessFailed (p : Purpose) (status : Nat) (s : State) : State :=
  match p with
  | .sqEntry q _ => sqStop q status s
  | .sqFinal _ _ => finalFailed p status s
  | .sqTable x _ =>
    match getX x s with
    | some e => if e.cpl.isSome then completeSq e.sq (setX { e with out := e.out - 1 } s)
      else if (getSq e.sq s).rx then failPost x status s else failTx x status (setX { e with parked := false } s)
    | none => s
  | .txData x _ =>
    match getX x s with
    | some e =>
      if e.cpl.isSome then completeSq e.sq (setX { e with out := e.out - 1 } s)
      else if frameStarted e s then cutStarted x status s else failTx x status (setX { e with parked := false } s)
    | none => s
  | .rxData x _ => rxError x status s
  | .completion c _ => stopCq c status s
  | .release x =>
    match getX x s with
    | some e => dropX x (sqStop e.sq status s)
    | none => s
  | .cqScan c _ => stopCq c status s
  | .cqArm c _ => stopCq c status s
  | .admEntry p _ => stopPair p status s
  | .admFinal _ _ => finalFailed p status s
  | .admScan p _ => stopPair p status s
  | .admArm p _ => stopPair p status s
  | .admCompl p _ => stopPair p status s
  | .admRelease p k => dropCmd p k (stopPair p status s)
  | .admData p k _ => admDataFail p k status s
  | .silScan q _ => stopSil q s
  | .silArm q _ => stopSil q s
  | .silRec q oid _ who => stopSil q (recEnded q oid who s)
  | .teDesc n pos => teStop n status pos s
  | .teFinal _ _ => finalFailed p status s
  | .teList n _ _ => teError n status (teSide p) s
  | .teRead n _ => teError n status (teSide p) s
  | .teWrite n _ => teError n status (teSide p) s
  | .teStatus n => teStop n status (getTe n s).pos s
  | .teRelease n => teStop n status (getTe n s).pos s
  | .dumpHdrRead => dumpHeaderArrived false true s
  | .dumpRec _ => if status = St.hostWriteError then dumpRecDone true s else dumpRecFail status s
  | .dumpHdrWrite => dumpHdrDone true s
  | .bcbRead _ => bcbArrived [] true s
  | .bcbWrite => setFlag (loc .BT_EVENT) F.BT_EVENT_BCB_ERR s
  | .manifest off => manifestArrived off [] true s
  | .chunk k off => chunkArrived k off [] true s
  | .leaseRead => s
  | .leaseWrite => leaseWritten true s
  | .duoFlip id => duFlipped id true s
  | .duoRelease id => duReleased id true s
  | .gone oid who => goneEnded oid who s

/-- What READY names for a structure whose body has been written. -/
def readyRef (r : Req) (s : State) : Option RdyRef :=
  match r.purpose with
  | .completion c x => (getX x s).map (fun e => .cpl c ((r.iova - (getCq c s).base) / 32) e.sq e.pos)
  | .admCompl p k => (getCmd p k s).map (fun c => .adm p ((r.iova - admCqBase p s) / 32) c.pos)
  | .silRec q _ _ _ => some (.sil q ((r.iova - (getSil q s).base) / 16))
  | .dumpHdrWrite => some (.dump s.pc.dump.slot)
  | _ => none

/-- In a protected Duo pair, READY goes out in place of a second part (R489), in the order of the queue's structures. -/
def sendReadies (s : State) : State :=
  if duFlips s = false then s
  else forReqs (s.host.reqs.filter isTail) (fun r t =>
    if pastHeld r t || (match r.phase with
        | .out _ _ _ => true
        | _ => false) then t
    else match readyRef r t with
      | some ref => sendReady r.purpose ref (dropReq r.id t)
      | none => dropReq r.id t) s

/-- What may follow any answer: READY of what is written, the next step of a takeover, the end of a cutover, a steward
restart, a rebinding. -/
def afterAnswer (s : State) : State := restartCheck (takeoverNext (cutoverEnd (rebindCheck (sendReadies s))))

/-! ## Read beats (R62 to R65, R69, R70) -/

/-- The access issued on a port with a tag. -/
def outReq (port tag : Nat) (w : Bool) (s : State) : Option Req :=
  s.host.reqs.find? (fun r => r.write == w && (match r.phase with
    | .out p t _ => p == port && t == tag
    | _ => false))

/-- Granules of a beat that its GV marks valid. -/
def beatBytes (data : BitVec 1024) (gv : Nat) : Bytes :=
  let b := bytesLE 128 data.toNat
  (if bit gv 0 then b.take 64 else []) ++ (if bit gv 1 then b.drop 64 else [])

/-- The work of a read has ended. -/
def readOver : Purpose → Bool
  | .gone _ _ => true
  | _ => false

/-- A held channel issues no new read, the second of two reads included (R329); the scan is made again when it resumes. -/
def readHeld (p : Purpose) (s : State) : Bool :=
  match p with
  | .teDesc n _ => teHeld n s
  | _ => false
def scanGoesOn (p : Purpose) (s : State) : State :=
  match p with
  | .teDesc n _ => setTe n { getTe n s with scanning := false, rescan := true } s
  | _ => s

/-- Request `id` has completed: no invalidation waits for it any longer, though another request of the same access may follow
(R74). -/
def invalPassed (id : Nat) (s : State) : State :=
  { s with host := { s.host with invals := s.host.invals.map (fun i => { i with waits := i.waits.filter (· != id) }) } }

/-- A read has its last beat: an erroneous one fails, the first of two reads is followed by the second, and otherwise
the bytes are used. (DESIGN CHOICE: log entry 48.) -/
def readEnd (r : Req) (b : Bytes) (s : State) : State :=
  if r.bad then accessFailed r.purpose St.hostReadError (dropReq r.id s)
  else match r.dbl, r.first with
    | true, none =>
      if readOver r.purpose then dropReq r.id s
      else if readHeld r.purpose s then scanGoesOn r.purpose (dropReq r.id s)
      else setReq { r with phase := .fresh, first := some b, data := [], via := none } (invalPassed r.id s)
    | true, some a =>
      doIf (a != b) (fun t => bump (cWq 2) (setFlag (loc .WQ_EVENT) F.WQ_EVENT_DBL_MISMATCH t)) (dropReq r.id s)
        |> readDone r.purpose b (a == b)
    | false, _ => readDone r.purpose b true (dropReq r.id s)

/-- The island that takes the answer of an access: the steward's own, the queue contexts what they read of their rings, the core
the rest. (DESIGN CHOICE: log entry 48.) -/
def answerIsland (p : Purpose) : Nat :=
  match p with
  | .bcbRead _ | .bcbWrite | .manifest _ | .chunk _ _ => 1
  | .sqEntry _ _ | .sqFinal _ _ | .cqScan _ _ | .cqArm _ _ | .silScan _ _ | .silArm _ _ => 4
  | _ => 2

/-- HMP_READ_BEAT: the beat crosses into the island that takes it (R21). (DESIGN CHOICE: log entry 48.) -/
def readBeat (port tag : Nat) (data : BitVec 1024) (gv : Nat) (last err : Bool) (s : State) : State :=
  match outReq port tag false s with
  | none => s
  | some r =>
    crossing (islRun (answerIsland r.purpose) s) (.hmpReadBeat port tag data gv last err) (fun s =>
    let r1 := { r with data := r.data ++ beatBytes data gv, bad := r.bad || err }
    if last = false then setReq r1 s
    else
      let pa := match r.phase with
        | .out _ _ a => a
        | _ => 0
      afterAnswer (readEnd r1 ((r1.data.drop (pa % 64)).take r.len) s)) s

/-! ## Write responses (R65, R71, R489) -/

/-- The second part of a two-part write is not issued once its ring has stopped (R280, R295, R394). (DEDUCED: log
entry 50.) -/
def tailHeld (p : Purpose) (s : State) : Bool :=
  match p with
  | .completion c _ => (getCq c s).state != .active
  | .silRec q _ _ _ => (getSil q s).state != .active
  | .admCompl p _ => admSilent p s
  | _ => false

/-- HMP_WRITE_RESPONSE: it crosses into the island that takes it (R21). (DESIGN CHOICE: log entry 48.) -/
def writeResponse (port tag : Nat) (err : Bool) (s : State) : State :=
  match outReq port tag true s with
  | none => s
  | some r =>
    crossing (islRun (answerIsland r.purpose) s) (.hmpWriteResponse port tag err) (fun s =>
    let s1 := dropReq r.id s
    afterAnswer
      (if err then accessFailed r.purpose St.hostWriteError s1
       else match r.tail with
        | none => writeDone r.purpose false s1
        | some t =>
          if tailHeld r.purpose s1 then (match r.purpose with
            | .silRec q oid _ who => recEnded q oid who s1
            | _ => s1)
          else setReq { r with phase := .fresh, iova := r.iova + r.len, len := 1, data := [t], tail := none, via := none }
            (invalPassed r.id s))) s

/-! ## Translation (R72 to R74, R334 to R339) -/

/-- The accesses that wait for the translation of a page. -/
def xWaiters (x : XReq) (s : State) : List Req :=
  s.host.reqs.filter (fun r => r.func == x.func && pageNo r.iova == x.page && r.write == x.write &&
    (r.phase == .wait || r.phase == .again))

/-- The transmit execution that an access belongs to. -/
def txOf (p : Purpose) (s : State) : Option Nat :=
  match p with
  | .txData x _ => some x
  | .sqTable x _ => (getX x s).bind (fun e => if (getSq e.sq s).rx then none else some x)
  | _ => none

/-- The receive execution that an access belongs to. -/
def rxOf (p : Purpose) (s : State) : Option Nat :=
  match p with
  | .rxData x _ => some x
  | .sqTable x _ => (getX x s).bind (fun e => if (getSq e.sq s).rx then some x else none)
  | _ => none

/-- The access is one that the channel makes again when it resumes (R331). -/
def madeAgain (p : Purpose) : Bool := (teKind p).isSome

/-- A page's translation answers FAULT: the work that waits parks (R31, R73, R278, R336). -/
def faultOn (r : Req) (s : State) : State :=
  let again := r.phase == .again
  let s1 := requestPage r (setReq { r with phase := .fault } s)
  match txOf r.purpose s1 with
  | some x => if again then s1 else parkTx x r s1
  | none =>
    match rxOf r.purpose s1 with
    | some x => (match getX x s1 with
      | some e => setX { e with parked := true } s1
      | none => s1)
    | none =>
      match teOf r.purpose with
      | some n => teFault n r s1
      | none => (match r.purpose with
        | .dumpRec _ => dumpFaultOn s1
        | _ => s1)

/-- The page of a parked access is translated at last: the work goes on. -/
def faultOff (r : Req) (pa : Nat) (via : Option (Nat × Nat × Nat)) (s : State) : State :=
  let go := setReq { r with phase := .ready pa, via := via } s
  -- a ring read is not made while another hold is in force (R329, R331)
  let held := match r.purpose with
    | .teDesc n _ => teHoldBit n F.TE_STATE_HOLD_PAUSE s || teHoldBit n F.TE_STATE_HOLD_POWER s
    | _ => false
  match txOf r.purpose s with
  | some x => (match getX x s with
    | some e => setX { e with parked := false } (dropReq r.id s)
    | none => dropReq r.id s)
  | none =>
    match rxOf r.purpose s with
    | some x => (match getX x go with
      | some e => setX { e with parked := go.host.reqs.any (fun q => faulted q && rxOf q.purpose go == some x) } go
      | none => go)
    | none =>
      match teOf r.purpose with
      | some n =>
        teFaultOver n (if madeAgain r.purpose then dropReq r.id s
          else if held then scanGoesOn r.purpose (dropReq r.id s) else go)
      | none => (match r.purpose with
        | .dumpRec _ => dumpFaultOff go
        | _ => go)

/-- An access whose translation failed ends (R73, R278, R327, R328); a channel's FAULT hold ends with it. -/
def xlateFailed (r : Req) (status : Nat) (s : State) : State :=
  let s1 := accessFailed r.purpose status (dropReq r.id s)
  match teOf r.purpose with
  | some n => if faulted r then teFaultOver n s1 else s1
  | none => s1

/-- Record the last faulting page (TR_LAST_FAULT, TR_LAST_FUNC). -/
def lastFault (x : XReq) (denied : Bool) (s : State) : State :=
  wr64 (loc .TR_LAST_FAULT) (x.page * 4096) s |> wr (loc .TR_LAST_FUNC) (b2n denied * 2 ^ 31 + x.func)

/-- Set of an entry in the translation cache (R334). -/
def TlbEntry.set (e : TlbEntry) : Nat := Config.tlbSet e.func e.page e.size % 2048

/-- Put an entry first, as the most recently used; where its set of 8 ways is full, the least recently used way of the set
goes (R334). -/
def tlbPut (e : TlbEntry) (l : List TlbEntry) : List TlbEntry :=
  if l.length < 8 then e :: l
  else
    let mine := l.filter (fun f => f.set == e.set)
    if mine.length < 8 then e :: l
    else match mine.getLast? with
      | some old => e :: l.filter (· != old)
      | none => e :: l

/-- An OK response fills the cache (R334). (DEDUCED: log entry 52.) -/
def fillTlb (x : XReq) (pa size : Nat) (s : State) : State :=
  let e : TlbEntry := { func := x.func, page := x.page / 2 ^ size * 2 ^ size, size := size, pa := pa, write := x.write }
  let rest := s.host.tlb.filter (fun f => !(f.func == e.func && f.page == e.page && f.size == e.size && (e.write || !f.write)))
  let s1 := { s with host := { s.host with tlb := tlbPut e rest } }
  forReqs (xWaiters x s1) (fun r t =>
    if r.phase = .again then faultOff r (e.phys r.iova) (some (e.func, e.page, e.size)) t
    else setReq { r with phase := .ready (e.phys r.iova), via := some (e.func, e.page, e.size) } t) s1

/-- Two page ranges meet. -/
def overlap (p m q n : Nat) : Bool := decide (p < q + 2 ^ n) && decide (q < p + 2 ^ m)

/-- A use of a translation falls under an invalidation. -/
def Inval.covers (i : Inval) (func page size : Nat) : Bool :=
  (i.all || i.func == func) && (i.software || overlap i.page i.size page size)

/-- A response for a page of 2^`size` pages is for the range of an invalidation accepted while its request was
outstanding: it is discarded without use (R74). -/
def XReq.discarded (x : XReq) (size : Nat) : Bool :=
  x.invals.any (fun i => i.covers x.func (x.page / 2 ^ size * 2 ^ size) size)

/-- The state once a translation request has been answered: no invalidation waits for it any longer. -/
def xlateAnswered (tag : Nat) (s : State) : State :=
  { s with host := { s.host with
      xreqs := s.host.xreqs.filter (fun y => y.tag != tag)
      invals := s.host.invals.map (fun i => { i with tags := i.tags.filter (· != tag) }) } }

/-- TRANSLATION_RESPONSE: `pa` is the physical page, `size` the logarithm of the page size in 4 KiB, `status` 0 OK, 1
FAULT, 2 DENIED; the reserved value 3 counts as DENIED. (DEDUCED: log entry 52.) -/
def translationResponse (tag pa size status : Nat) (s : State) : State :=
  match s.host.xreqs.find? (fun x => x.tag == tag) with
  | none => s
  | some x =>
    let s1 := xlateAnswered tag s
    if x.discarded (if status = 0 then size else 0) then s1
    else afterAnswer
      (match status with
        | 0 => fillTlb x pa size s1
        | 1 => bump (cTr 2) (lastFault x false s1) |> forReqs (xWaiters x s1) faultOn
        | _ => setFlag (loc .TR_EVENT) F.TR_EVENT_DENIED (lastFault x true s1) |> bump (cTr 5)
            |> forReqs (xWaiters x s1) (fun r t => xlateFailed r St.accessDenied t))

/-- The accesses that wait for a page request. -/
def pWaiters (x : PReq) (s : State) : List Req :=
  s.host.reqs.filter (fun r => r.func == x.func && pageNo r.iova == x.page && r.write == x.write && r.phase == .fault)

/-- A page request fails, by its response or by time-out (R336, R337). -/
def pageFail (x : PReq) (s : State) : State :=
  forReqs (pWaiters x s) (fun r t => xlateFailed r St.translationFault t) s

/-- PAGE_RESPONSE. The response of a request that has timed out only frees its identifier. -/
def pageResponse (id : Nat) (ok : Bool) (s : State) : State :=
  match s.host.preqs.find? (fun x => x.id == id) with
  | none => s
  | some x =>
    let s1 := { s with host := { s.host with preqs := s.host.preqs.filter (fun y => y.id != id) } }
    if x.timedOut then s1
    else afterAnswer
      (if ok then forReqs (pWaiters x s1) (fun r t => setReq { r with phase := .again } t) s1
       else pageFail x (setFlag (loc .TR_EVENT) F.TR_EVENT_PRS_FAIL s1))

/-- PAGE_REQUEST_TIMEOUT. -/
def pageTimeout (id : Nat) (s : State) : State :=
  match s.host.preqs.find? (fun x => x.id == id) with
  | none => s
  | some x =>
    if x.timedOut ∨ x.timeout = 0 then s
    else
      let ps := s.host.preqs.map (fun y => if y.id = id then { y with timedOut := true } else y)
      afterAnswer (pageFail x (bump (cTr 6) (setFlag (loc .TR_EVENT) F.TR_EVENT_PRQ_TIMEOUT
        { s with host := { s.host with preqs := ps } })))

/-! ## Invalidations (R74, R338) -/

/-- The requests issued with a physical address from a range that is invalidated. -/
def usesRange (i : Inval) (r : Req) : Bool :=
  match r.via with
  | some (f, p, n) => i.covers f p n
  | none => false

/-- The block holds the access's translation although it is not issued (R371): a data read of a transmit entry whose first
data read has been issued. -/
def keepsPage (r : Req) (s : State) : Bool :=
  match r.purpose, r.phase with
  | .txData x _, .ready _ =>
    (getX x s).any (fun e => e.pieces != []) || s.host.reqs.any (fun q => q.isOut && (match q.purpose with
      | .txData y _ => y == x
      | _ => false))
  | _, _ => false

/-- Accept an invalidation: cache entries go, translation requests under way are answered without use, requests that neither
are issued nor hold their page (R371) translate again, and the others are waited for. (DEDUCED: log entry 53.) -/
def invalidate (i : Inval) (s : State) : State :=
  let out (r : Req) : Bool := r.isOut || keepsPage r s
  let waits := (s.host.reqs.filter (fun r => out r && usesRange i r)).map (·.id)
  let mayMeet (x : XReq) : Bool := i.covers x.func (x.page / 2 ^ 31 * 2 ^ 31) 31
  { s with host := { s.host with
      tlb := s.host.tlb.filter (fun e => !i.covers e.func e.page e.size)
      xreqs := s.host.xreqs.map (fun x => if mayMeet x then { x with invals := i :: x.invals } else x)
      reqs := s.host.reqs.map (fun r => if usesRange i r && !out r then { r with phase := .fresh, via := none } else r)
      invals := s.host.invals ++ [{ i with waits := waits, tags := (s.host.xreqs.filter mayMeet).map (·.tag) }] } }
    |> bump (cTr 4)

/-- TRP_INVALIDATION of a function's range of 2^`size` pages from page `page`; ignored in reset (R42, R46). -/
def trpInvalidation (func page size : Nat) (s : State) : State :=
  if inReset s then s
  else invalidate { software := false, func := func, all := false, page := page / 2 ^ size * 2 ^ size, size := size,
                    waits := [], tags := [] } s

/-- Every request that an invalidation waits for has completed, and every translation response that was outstanding and may
be for its range has arrived (R74). (DEDUCED: log entry 53.) -/
def invalReady (i : Inval) (s : State) : Bool :=
  i.tags.isEmpty && i.waits.all (fun n => !s.host.reqs.any (fun r => r.id == n))

/-- TRP_INVALIDATION_DONE and TR_INV_DONE: the oldest accepted invalidation completes, if it is of the kind asked for.
(DEDUCED: log entry 53.) -/
def invalDone (software : Bool) (s : State) : State :=
  match s.host.invals with
  | i :: rest =>
    if i.software = software ∧ invalReady i s = true then
      let s1 := { s with host := { s.host with invals := rest } }
      if software then fs (loc .TR_INV) F.TR_INV_BUSY 0 s1 else { s1 with host := { s1.host with invDone := s1.host.invDone + 1 } }
    else s
  | [] => s

/-- A write of TR_INV (R338). -/
def writeTrInv (data : Nat) (s : State) : Option State :=
  let a := loc .TR_INV
  if fb a F.TR_INV_BUSY s then none
  else
    let s1 := fs a F.TR_INV_ALL (bits data 29 29) s |> fs a F.TR_INV_FUNC (data % 4096)
    if bit data 31 then
      some (invalidate { software := true, func := data % 4096, all := bit data 29, page := 0, size := 0, waits := [], tags := [] }
        (fs a F.TR_INV_BUSY 1 s1))
    else some s1

/-- A write of TR_CFG (R339): BYPASS is fixed once a queue, pair, channel or dump has existed. -/
def writeTrCfg (data : Nat) (s : State) : Option State :=
  let a := loc .TR_CFG
  if s.host.bypassFixed && bits data 31 31 != fg a F.TR_CFG_BYPASS s then none
  else some (fs a F.TR_CFG_BYPASS (bits data 31 31) s |> fs a F.TR_CFG_PRQ_TIMEOUT (data % 65536))

/-- TR_OCC as it reads. -/
def readTrOcc (s : State) : Nat := s.host.preqs.length % 2048 * 65536 + s.host.tlb.length % 32768

/-! ## Commands -/

/-- HMP_READ_BEAT on host memory port `port`: `gv` marks the valid halves of the 128 bytes. -/
def execHmpReadBeat (port tag : Nat) (data : BitVec 1024) (gv : Nat) (last err : Bool) (s : State) :
    Host.Outcome State Fault Refusal := done (readBeat port tag data gv last err s)
/-- HMP_WRITE_RESPONSE on host memory port `port`. -/
def execHmpWriteResponse (port tag : Nat) (err : Bool) (s : State) : Host.Outcome State Fault Refusal :=
  done (writeResponse port tag err s)
/-- TRANSLATION_RESPONSE. -/
def execTranslationResponse (tag pa size status : Nat) (s : State) : Host.Outcome State Fault Refusal :=
  done (translationResponse tag pa size status s)
/-- PAGE_RESPONSE. -/
def execPageResponse (id : Nat) (ok : Bool) (s : State) : Host.Outcome State Fault Refusal := done (pageResponse id ok s)
/-- PAGE_REQUEST_TIMEOUT. -/
def execPageRequestTimeout (id : Nat) (s : State) : Host.Outcome State Fault Refusal := done (pageTimeout id s)
/-- TRP_INVALIDATION. -/
def execTrpInvalidation (func page size : Nat) (s : State) : Host.Outcome State Fault Refusal :=
  done (trpInvalidation func page (size % 32) s)
/-- TRP_INVALIDATION_DONE. -/
def execTrpInvalidationDone (s : State) : Host.Outcome State Fault Refusal := done (invalDone false s)
/-- TR_INV_START: a write of TR_INV with START = 1. -/
def execTrInvStart (m : Master) (all : Bool) (func : Nat) (s : State) : Host.Outcome State Fault Refusal :=
  let d := 2 ^ 31 + b2n all * 2 ^ 29 + func % 4096
  done (ctlWrite m (loc .TR_INV) d (writeTrInv d) s)
/-- TR_INV_DONE. -/
def execTrInvDone (s : State) : Host.Outcome State Fault Refusal := done (invalDone true s)
/-- ENTRY_RETIRE. -/
def execEntryRetire (learn : Bool) (q i : Nat) (s : State) : Host.Outcome State Fault Refusal := done (outOfReset (entryRetire learn q i) s)

end Sys2Proof.Machine
end

