-- ==== Sys2Proof/Machine/Registers.lean ====
section
/-!
DEFINITION. What a write of each register does and what a read of it returns, register by register (spec/02 to spec/19), where
that is more than storing its writable bits; 64-bit registers (R96) and semaphores (R100, R101).
-/

namespace Sys2Proof.Machine

/-! ## GL and header registers -/

/-- A write of PAGE_ACCESS: CLEAR. -/
def writePageAccess (a data : Nat) (s : State) : State := if bit data 0 then wr a 0 s else s

/-- A write of PAGE_LOCK: a written 0 has no effect (R88). -/
def writePageLock (a data : Nat) (s : State) : State := if bit data 0 then wr a 1 s else s

/-- Writable bits of PAGE_ACL: ACL_DBG only after debug unlock (R89). -/
def aclMask (s : State) : Nat := if fb (loc .BT_DEBUG) F.BT_DEBUG_UNLOCKED s then 0x7000707 else 0x707

/-- A steward write of PAGE_ACL (R89). -/
def writePageAcl (a data : Nat) (s : State) : State :=
  let m := aclMask s
  let old := rd a s
  wr a ((old ^^^ (old &&& m)) ||| (data &&& m)) s

/-- Something exists that forbids a change of DBL_READ (R110). -/
def dblFixed (s : State) : Bool :=
  s.wq.sqs.any (fun p => p.2.state != .none) || s.wq.cqs.any (fun p => p.2.state != .none) ||
    s.ev.sils.any (fun p => p.2.state != .none) || admState 1 s != 0 || admState 2 s != 0 ||
    (List.range 16).any (fun i => fb (teLoc .TE_CFG (48 + i)) F.TE_CFG_ENABLE s) ||
    s.pc.dump.enable || s.pc.dump.phase != .idle

/-- A write of GL_HOSTCFG (R110). -/
def writeHostCfg (data : Nat) (s : State) : Option State :=
  if bit data 0 ≠ dblMode s ∧ dblFixed s = true then none else some (plainWrite .GL_HOSTCFG (loc .GL_HOSTCFG) data s)

/-- A write of semaphore `n` by a master (R100, R101). -/
def writeSem (m : Master) (n data : Nat) (s : State) : State :=
  let a := loc .GL_SEM 0 n
  let held := fb a F.GL_SEM_HELD s
  let token := data % 65536
  if bit data 30 then (if m = .stw then wr a 0 s else s)
  else if bit data 31 then
    if held = true ∧ fg a F.GL_SEM_MASTER s = m.code ∧ fg a F.GL_SEM_TOKEN s = token then wr a 0 s else s
  else if held = false ∧ token ≠ 0 then wr a (2 ^ 31 + m.code * 2 ^ 28 + token) s
  else s

/-! ## EV registers -/

/-- A write of EV_COMPLETE (R388): it ends a claim, and a source that is still active then reports again when the command
ends; a completion of an unclaimed source is stray. -/
def completeSource (data : Nat) (s : State) : State :=
  let n := codedSource (bit data 31) data
  if s.ev.claims.contains n then { s with ev := { s.ev with claims := s.ev.claims.filter (· != n) } }
  else setFlag (loc .EV_EVENT) F.EV_EVENT_STRAY_COMPL s |> bump (cEv 0)

/-- Sillage queue that EV_SIL_SEL selects. -/
def silSel (s : State) : Nat := fg (loc .EV_SIL_SEL) F.EV_SIL_SEL_SIL s

/-- A write of EV_SIL_MOD (R398): for the next message that becomes due. -/
def writeSilMod (data : Nat) (s : State) : Option State :=
  let k := getSil (silSel s) s
  if k.state = .none then none
  else some (setSil (silSel s) { k with modCount := bits data 31 24, modTime := data % 65536 } s)

/-- EV_SIL_MOD as read. -/
def readSilMod (s : State) : Nat :=
  let k := getSil (silSel s) s
  k.modCount * 2 ^ 24 + k.modTime

/-- Code of a Sillage queue's state. -/
def SilState.code : SilState → Nat
  | .none => 0
  | .active => 1
  | .stopped => 2

/-- A read of EV_SIL_STATE0: the snapshot that the next read of EV_SIL_STATE1 completes. -/
def readSilState (s : State) : Nat × State :=
  let k := getSil (silSel s) s
  (k.state.code * 2 ^ 30 + b2n k.armed * 2 ^ 29 + b2n k.moderating * 2 ^ 28 + b2n k.msgWait * 2 ^ 27 +
     k.logSize % 32 * 2 ^ 22 + k.target % 64 * 2 ^ 16 + k.prod % 65536,
   { s with ev := { s.ev with silSnap := k.lost % 65536 * 2 ^ 16 + k.credit % 128 } })

/-- Arm a Sillage queue (R395). -/
def silArm (q : Nat) (s : State) : State :=
  let s1 := silScanStart q s
  if (getSil q s1).state = .active then silArmRead q (setSil q { getSil q s1 with armPending := true } s1) else s1

/-- A write of EV_SIL_DB (R392, R395). -/
def writeSilDb (data : Nat) (s : State) : State :=
  if bit data 31 then silArm (data % 1024) s else if bit data 30 then silScanStart (data % 1024) s else s

/-- PAGE advances under AUTOINC after an access of EV_ROUTE_DATA. -/
def routeAdvance (s : State) : State :=
  let a := loc .EV_ROUTE_PTR
  if fb a F.EV_ROUTE_PTR_AUTOINC s then fs a F.EV_ROUTE_PTR_PAGE (fg a F.EV_ROUTE_PTR_PAGE s + 1) s else s

/-- A write of EV_ROUTE_DATA: the entry of an unlisted page ignores it. -/
def writeRoute (data : Nat) (s : State) : State :=
  let p := fg (loc .EV_ROUTE_PTR) F.EV_ROUTE_PTR_PAGE s
  let v := b2n (bit data 31) * 2 ^ 31 + data % 1024
  routeAdvance (if (pageOf p).isSome then { s with ev := { s.ev with routes := sput 0 s.ev.routes p v } } else s)

/-- A read of EV_ROUTE_DATA. -/
def readRoute (s : State) : Nat × State :=
  (sget 0 s.ev.routes (fg (loc .EV_ROUTE_PTR) F.EV_ROUTE_PTR_PAGE s), routeAdvance s)

/-- A write of EV_PICC_MAPn (R404): a data-path source, and a source that another entry maps, are refused. (DEDUCED:
log entry 24.) -/
def writePiccMap (n data : Nat) (s : State) : Option State :=
  let src := codedSource (bit data 30) data
  if bit data 31 = true ∧
      (isMgmt src = false ∨ (List.range 32).any (fun k => k != n && piccSource k s == some src) = true) then none
  else some (plainWrite .EV_PICC_MAP (loc .EV_PICC_MAP 0 n) data s)

/-! ## ST and WQ registers -/

/-- A write of ST_RH_CTRL (R243 to R247): none where more than one bit is set or the operation does not apply. -/
def writeRhCtrl (data : Nat) (s : State) : Option State :=
  match bits data 31 28 with
  | 0 => some s
  | 8 => if rehashBusy 0 s then none else rehashCommand s
  | 4 => if rehashBusy 1 s then none else some (rehashOp 1 s)
  | 2 => if rehashBusy 2 s then none else some (rehashOp 2 s)
  | 1 => if rehashBusy 3 s then none else some (rehashOp 3 s)
  | _ => none

/-- A write of ST_TIMING (R241): AGE_PERIOD 0 stops the ageing scan at its position, its steps not yet taken included. -/
def writeStTiming (data : Nat) (s : State) : State :=
  let s1 := plainWrite .ST_TIMING (loc .ST_TIMING) data s
  if agePeriod s1 = 0 then setTab { s1.tab with ageDue := 0 } s1 else s1

/-- ST_OCC as read. -/
def readOcc (s : State) : Nat :=
  s.tab.pend.length % 512 * 2 ^ 23 +
    (s.tab.ways.filter (fun p => match p.2 with | some e => !e.moving | none => false)).length % 2 ^ 22

/-- A write of WQ_CFG: PREFETCH outside 1 to 8 is refused. -/
def writeWqCfg (data : Nat) (s : State) : Option State :=
  if data % 16 < 1 ∨ 8 < data % 16 then none else some (plainWrite .WQ_CFG (loc .WQ_CFG) data s)

/-- A write of WQ_CTX_SEL. -/
def writeCtxSel (data : Nat) (s : State) : Option State :=
  if bit data 31 = true ∧ 16384 ≤ data % 2 ^ 15 then none else some (plainWrite .WQ_CTX_SEL (loc .WQ_CTX_SEL) data s)

/-- A read of WQ_CTXi: WQ_CTX0 takes the snapshot. -/
def readCtx (i : Nat) (s : State) : Nat × State :=
  if i = 0 then
    let a := loc .WQ_CTX_SEL
    let n := fg a F.WQ_CTX_SEL_NUM s
    let v := if fb a F.WQ_CTX_SEL_KIND s then cqView n s else sqView n s
    (v.getD 0 0, { s with wq := { s.wq with ctxSnap := v } })
  else (s.wq.ctxSnap.getD i 0, s)

/-! ## MP and SC registers -/

/-- A write of MP_TX_CFG: TX_MAX_LEN outside 64 to 16,352 is refused. TX_EN := 1 brings the link up for transmission
(R378, R380). -/
def writeTxCfg (p data : Nat) (s : State) : Option State :=
  let v := data % 2 ^ 14
  if v < 64 ∨ 16352 < v then none
  else
    let s1 := plainWrite .MP_TX_CFG (loc .MP_TX_CFG p) data s
    some (if txLinkUp p s = false ∧ txLinkUp p s1 = true then txLinkUpNow p s1 else s1)

/-- A write of SC_PCFGk (R367). -/
def writePcfg (p data : Nat) (s : State) : Option State :=
  let v := bits data 31 16
  if v < 64 ∨ 8192 < v then none else some (plainWrite .SC_PCFG (scLoc .SC_PCFG p) data s)

/-- MP_BUF_HDRM as read: 0 in shared-pool mode. -/
def readHdrm (p : Nat) (s : State) : Nat :=
  if sharedMode s then 0 else (List.range 8).foldl (fun a q => a + hdrmCells p q s) 0

/-! ## 64-bit registers (R96) -/

/-- Stage a low word. (DEDUCED: log entry 20.) -/
def stageLow (m : Master) (a data : Nat) (s : State) : State :=
  { s with ctl := { s.ctl with staged := sput none s.ctl.staged m.code (some (a, BitVec.ofNat 32 data)) } }

/-- The low word that a high-word write at `a + 4` writes: the staged one of this register, else the present one.
(DEDUCED: log entry 20.) -/
def stagedLow (m : Master) (a : Nat) (s : State) : Nat :=
  match sget none s.ctl.staged m.code with
  | some (b, w) => if b = a then w.toNat else rd a s
  | none => rd a s

/-- The staged word of this register has been used. (DEDUCED: log entry 20.) -/
def unstage (m : Master) (a : Nat) (s : State) : State :=
  match sget none s.ctl.staged m.code with
  | some (b, _) => if b = a then { s with ctl := { s.ctl with staged := sput none s.ctl.staged m.code none } } else s
  | none => s

/-- Whether a write of a word of a 64-bit register is refused in the present state (R342, DU_LEASE_ADDR). -/
def wideRefused (m : Master) (n : RegName) (ch : Nat) (s : State) : Bool :=
  match n with
  | .TE_RING_BASE => decide (48 ≤ ch) && (teForeign m ch s || teState ch s != 0)
  | .TE_FAULT_ADDR => decide (48 ≤ ch) && teForeign m ch s
  | .DU_LEASE_ADDR => duPair s != 0
  | _ => false

/-- A write of a word of 64-bit register `n`, whose low word is at `a`. -/
def writeWide (m : Master) (n : RegName) (ch a : Nat) (hi : Bool) (data : Nat) (s : State) : Option State :=
  if wideRefused m n ch s then none
  else if n = .TE_RING_BASE ∧ ch < 48 then some s
  else if hi = false then some (stageLow m a data s)
  else
    let k := n.row.rw
    let old := rd64 a s
    let v := stagedLow m a s + data * 2 ^ 32
    some (unstage m a (wr64 a ((old ^^^ (old &&& k)) ||| (v &&& k)) s))

/-! ## Writes -/

/-- Effect of a write of register `n`, element `i` of instance `k` of its page, at byte address `a`; none where the
register's present state refuses it. -/
def writeReg (m : Master) (n : RegName) (k i a data : Nat) (s : State) : Option State :=
  let ch := 4 * k + i
  match n with
  | .PAGE_ACCESS => some (writePageAccess a data s)
  | .PAGE_LOCK => some (writePageLock a data s)
  | .PAGE_ACL => some (writePageAcl a data s)
  | .GL_HOSTCFG => writeHostCfg data s
  | .GL_SEM => some (writeSem m i data s)
  | .LN_CTRL => writeLnCtrl k data s
  | .LN_TXEQ => writeTxeq k data s
  | .LN_CAL => some (writeCal k data s)
  | .LN_PRBS => some (writePrbs k data s)
  | .MP_PCS_CTRL => writePcsCtrl k data s
  | .OS_CFG => some (writeOsCfg k data s)
  | .OS_SW_CTRL => writeSwCtrl k data s
  | .OS_CM_DATA => writeCm k data s
  | .OS_CLIENT => writeClient k i data s
  | .MP_RX_LEN => writeRxLen k data s
  | .MP_PFC_THR => writeThr k i data s
  | .MP_PFC_HDRM => writeHdrm k i data s
  | .MP_WAKE_DATA => some (wakeWrite k data s)
  | .MP_WAKE_STATUS => some (writeWakeStatus k data s)
  | .MP_TX_CFG => writeTxCfg k data s
  | .MP_TX_FC_FORCE => some (writeForce k data s)
  | .MP_MM_CTRL => some (writeMmCtrl k data s)
  | .RE_CL_SUBST => writeSubst k data s
  | .RE_PS_CTRL => psCtrl data s
  | .RE_PS_DATA => psWrite data s
  | .RE_BUDGET => writeBudget data s
  | .ST_RH_CTRL => writeRhCtrl data s
  | .ST_TIMING => some (writeStTiming data s)
  | .MT_CTRL => mtCtrl k data s
  | .SC_NODE_SEL => some (nodeCapture data s)
  | .SC_PCFG => writePcfg ch data s
  | .TE_CFG => writeTeCfg m ch data s
  | .TE_RING => writeTeRing m ch (plainWrite .TE_RING a data) s
  | .TE_CTRL => writeTeCtrl m ch data s
  | .TE_STATE => if teForeign m ch s then none else some s
  | .TE_PROG_ELEM => if teForeign m ch s then none else some s
  | .TE_PROG_SRC => if teForeign m ch s then none else some s
  | .TE_PROG_DST => if teForeign m ch s then none else some s
  | .TE_FAULT => if teForeign m ch s then none else some s
  | .HP_CHMAP => some (writeChmap i data s)
  | .TR_CFG => writeTrCfg data s
  | .TR_INV => writeTrInv data s
  | .WQ_CFG => writeWqCfg data s
  | .WQ_CTX_SEL => writeCtxSel data s
  | .WQ_ADM_CFG => writeAdmCfg k data s
  | .WQ_ADM_DB => some (writeAdmDb k data s)
  | .EV_COMPLETE => some (completeSource data s)
  | .EV_SIL_MOD => writeSilMod data s
  | .EV_SIL_DB => some (writeSilDb data s)
  | .EV_ROUTE_DATA => some (writeRoute data s)
  | .EV_PICC_MAP => writePiccMap i data s
  | .EV_PICC_MASK => some (setPiccMask data s)
  | .TB_PHASE => writePhase data s
  | .TB_ADJ => writeAdj data s
  | .PC_SEL => some (writeSel data s)
  | .PC_DUMP_CTRL => writeDumpCtrl data s
  | .PC_RATE_SEL => some (writeRateSel data s)
  | .PW_CFG => writePwCfg data s
  | .BT_CTRL => writeBtCtrl data s
  | .BT_FUSE_CTRL => writeFuseCtrl data s
  | .BT_DEBUG => writeBtDebug data s
  | .SV_RO_THR => writeRoThr data s
  | .SV_LMAP => writeLmap i data s
  | .SV_RETIRED => writeLmap 4 data s
  | .SV_REPAIR_CMD => writeRepair data s
  | _ => some (plainWrite n a data s)

/-- A PCS register of a slotted client (R133). -/
def clientPcs (a : Nat) (s : State) : Bool :=
  let pg := a / 4096
  decide (0x40 ≤ pg) && decide (pg < 0x80) && pcsOffset (a % 4096) && isClient (pg - 0x40) s

/-- Effect of a write at a byte address of a listed page (R85, R93, R96): an offset that holds no register ignores it, and so
do the PCS registers of a slotted client (R133). -/
def writeEffect (m : Master) (a data : Nat) (s : State) : Option State :=
  let pg := a / 4096
  let off := a % 4096
  if clientPcs a s then some s
  else if 0xC00 ≤ off then some (clearAlias (a - 0x800) data 0 s)
  else if 0x800 ≤ off then some (setAlias (a - 0x400) data s)
  else match regAt pg off with
    | none => some s
    | some (n, i, hi) =>
      let k := pageInstance pg
      if n.row.wide then writeWide m n (4 * k + i) (if hi then a - 4 else a) hi data s
      else writeReg m n k i a data s

/-- What a write that its register refuses does all the same: the pointer of OS_CM_DATA advances, and a refused fuse program
sets REFUSED. -/
def writeMiss (a data : Nat) (s : State) : State :=
  match regAt (a / 4096) (a % 4096) with
  | some (.OS_CM_DATA, _, _) => cmAdvance (pageInstance (a / 4096)) s
  | some (.BT_FUSE_CTRL, _, _) => fuseMiss data s
  | _ => s

/-! ## Reads -/

/-- What a read of register `n` returns, and what it does. -/
def readReg (m : Master) (n : RegName) (k i a : Nat) (s : State) : Nat × State :=
  let ch := 4 * k + i
  match n with
  | .PAGE_PWR => (readPagePwr (a / 4096) s, s)
  | .MP_BUF_OCC => (portCells k s, s)
  | .MP_BUF_HDRM => (readHdrm k s, s)
  | .MP_WAKE_DATA => wakeRead k s
  | .OS_CM_DATA => readCm k s
  | .OS_CLIENT => (readClient k i s, s)
  | .OS_TRACE_RX => (readTraceRx k i s, s)
  | .RE_PS_DATA => psRead s
  | .RE_PS_CRC => (psCrc (standbyBank s) s, s)
  | .ST_OCC => (readOcc s, s)
  | .ST_SEED_CUR => (if m = .stw then rd a s else 0, s)
  | .ST_SEED_NEW => (if m = .stw then rd a s else 0, s)
  | .SC_GATE_STATE => (gateState ch s, s)
  | .TE_CFG => (readTeCfg ch s, s)
  | .TE_STATE => (readTeState ch s, s)
  | .TR_OCC => (readTrOcc s, s)
  | .WQ_POOL => (poolFree s, s)
  | .WQ_POOL_RSV => (poolReserved s, s)
  | .WQ_CTX => readCtx i s
  | .WQ_ADM_POS => (readAdmPos k s, s)
  | .WQ_ADM_ERR => (readAdmErr k s, s)
  | .EV_SIL_MOD => (readSilMod s, s)
  | .EV_SIL_STATE0 => readSilState s
  | .EV_SIL_STATE1 => (s.ev.silSnap, s)
  | .EV_ROUTE_DATA => readRoute s
  | .EV_PICC_LINE => (s.pins.fastIrq.toNat, s)
  | .TB_TIME => readTime i s
  | .PC_VAL_LO => readCounter m s
  | .PC_VAL_HI => (getShadow m s, s)
  | .PC_DUMP_STATE => (readDumpState s, s)
  | .PC_WRAP => (b2n (s.pc.wrap.contains (fg (loc .PC_SEL) F.PC_SEL_INDEX s)), s)
  | .PW_ISLAND => (readIsland s, s)
  | .BT_TRIAL => (readBtTrial s, s)
  | .BT_FUSE_RD => (readFuse s, s)
  | .SV_SPARES => (readSpares s, s)
  | .SV_MON => (readMon s, s)
  | .SV_LMAP => (readLmap i s, s)
  | .DU_STATUS => (readDuStatus s, s)
  | .DU_JOURNAL => (readJournal s, s)
  | _ => (if tePacketOnly n = true ∧ ch < 48 then 0 else rd a s, s)

/-- A word of a 64-bit register (R96): the low word's read copies the high word into the master's shadow, which a read of the
high word returns. -/
def readWide (m : Master) (a : Nat) (hi : Bool) (zero : Bool) (s : State) : Nat × State :=
  if hi then (getShadow m s, s)
  else if zero then (0, setShadow m 0 s)
  else (rd a s, setShadow m (rd (a + 4) s) s)

/-- What a read at a byte address of a listed page returns (R86, R93, R96). -/
def readEffect (m : Master) (a : Nat) (s : State) : Nat × State :=
  let pg := a / 4096
  let off := a % 4096
  if clientPcs a s then (0, s)
  else
    let b := if 0xC00 ≤ off then a - 0x800 else if 0x800 ≤ off then a - 0x400 else a
    match regAt pg (b % 4096) with
    | none => (0, s)
    | some (n, i, hi) =>
      let k := pageInstance pg
      if n.row.wide then readWide m b hi (tePacketOnly n && decide (4 * k + i < 48)) s
      else readReg m n k i b s

end Sys2Proof.Machine
end

