-- ==== Sys2Proof/Machine/Access.lean ====
section
/-!
DEFINITION. Control requests (R54 to R58, R82, R83, R98, R99): acceptance, dispatch, time-out and resumption, the windows of
the aperture, and the rows that are writes of registers.
-/

namespace Sys2Proof.Machine

/-! ## Windows (R58, R82, R83, R92, R254) -/

/-- Windows answer OFF until the block is up and while the datapath is held in reset (R98). -/
def windowsOff (s : State) : Bool := decide (s.pins.coldStep < 4) || !s.pins.datapathUp

/-- An access to a doorbell window (R58, R83): a write is a doorbell of the function that owns the window, whatever its data;
a read is refused. -/
def doorbellAccess (m : Master) (write : Bool) (a : Nat) (s : State) : State :=
  let f := (a - 0x1000000) / 4096 % 4096
  if write = false ∨ winRight F.GL_WINACL_DB_WR m s = false then refuseAddr m write a s
  else if windowsOff s then respond m .off true 0 s
  else respond m .ok true 0 (doorbellWake f ((a - 0x1000000) / 8 % 2 ^ 21) s)

/-- Writable bits of IX_LOC: SPACE, WAY, INDEX. -/
def ixLocMask : Nat := 0xC707FFFF

/-- Write of a word of an indirect window (R254); none while BUSY is 1. The byte of an entry image that holds ECC
stays 0. (DESIGN CHOICE: log entry 23.) -/
def ixWrite (k off data : Nat) (s : State) : Option State :=
  let w := getWin k s
  if 0x18 ≤ off then some s
  else if w.busy.isSome then none
  else if off < 0x10 then some (setWin k { w with entry := (putBytes w.entry off (bytesLE 4 data)).take 15 ++ [0] } s)
  else if off = 0x10 then some (setWin k { w with loc := data &&& ixLocMask } s)
  else if data % 4 = 3 then some (setWin k { w with result := 5 } s)
  else some (setWin k { w with busy := some (data % 4), moved := false } s)

/-- A word of an indirect window as read. -/
def ixRead (k off : Nat) (s : State) : Nat :=
  let w := getWin k s
  if off < 0x10 then u w.entry (off / 4 * 4) 4
  else if off = 0x10 then w.loc
  else if off = 0x18 then b2n w.busy.isSome * 2 ^ 31 + w.result
  else 0

/-- An access to the indirect windows (R92, R254): sixteen windows of 4 KiB, served by the table island. (DESIGN
CHOICE: log entry 23.) A window has no header: page ST's PAGE_AUTOWAKE governs its accesses. (DESIGN CHOICE: log entry 23.) -/
def ixAccess (m : Master) (write : Bool) (a data : Nat) (s : State) : State :=
  let k := (a - 0x2800000) / 4096
  let off := a % 4096
  if 16 ≤ k ∨ winRight (if write then F.GL_WINACL_IX_WR else F.GL_WINACL_IX_RD) m s = false then refuseAddr m write a s
  else match gate m 0xA0 0x80 s with
    | .off => respond m .off write 0 s
    | .stall => stallReq m { write := write, addr := a, data := BitVec.ofNat 32 data, stalled := true } 0xA0 0x80 s
    | .go =>
      if write then
        match ixWrite k off data s with
        | some t => respond m .ok true 0 t
        | none => refuseAddr m true a s
      else respond m .ok false (ixRead k off s) s

/-! ## Requests -/

/-- Refuse a misaligned access (CPA_RSTATUS ACCESS): to a listed page it is recorded there (R87), elsewhere in GL_BADADDR. -/
def refuseOdd (m : Master) (write : Bool) (a : Nat) (s : State) : State :=
  match region a with
  | .page pg off => refuseAlign m write pg off s
  | _ => refuseAddr m write a s

/-- Carry out a control request whose turn it is: checks, island handling, effect and response. -/
def runReqNow (m : Master) (r : CtlReq) (s : State) : State :=
  if resetHolds r.addr s then resetAccess m r.write r.addr s
  else if r.addr % 4 ≠ 0 then refuseOdd m r.write r.addr s
  else match region r.addr with
    | .page _ _ =>
      if r.write then ctlWrite m r.addr r.data.toNat (writeEffect m r.addr r.data.toNat) s (writeMiss r.addr r.data.toNat)
      else ctlRead m r.addr (readEffect m r.addr) s
    | .doorbell _ _ => doorbellAccess m r.write r.addr s
    | .counters _ _ => windowAccess m r.write r.addr s
    | .indirect _ => ixAccess m r.write r.addr r.data.toNat s
    | .reserved => refuseAddr m r.write r.addr s

/-- A control request takes its turn and is carried out (R54, R55). -/
def runReq (m : Master) (r : CtlReq) (s : State) : State := inTurn m r (runReqNow m r) s

/-- A request is refused when it is accepted: misaligned, in a reserved part of the aperture, or against the access table. -/
def refusedAtOnce (m : Master) (r : CtlReq) (s : State) : Bool :=
  resetHolds r.addr s || r.addr % 4 != 0 ||
    match region r.addr with
    | .page pg off => romOff pg off s || tableCheck m r.write pg off r.data.toNat s == some 1
    | .reserved => true
    | _ => false

/-- CONTROL_REQUEST_ACCEPT (R54, R55): a port that holds eight requests accepts none. Responses are delivered in
acceptance order, so a request that is refused at once is answered at once only when none is before it. (DESIGN
CHOICE: log entry 18.) -/
def acceptReq (m : Master) (r : CtlReq) (s : State) : State :=
  let q := ctlQueue m s
  if 8 ≤ q.length then s
  else if q = [] ∧ refusedAtOnce m r s = true then runReq m r s
  else setCtlQueue m (q ++ [r]) s

/-- Carry out the request at the head of a queue; one that must stall stays at the head. (DESIGN CHOICE: log entry
18.) -/
def runHead (m : Master) (r : CtlReq) (rest : List CtlReq) (s : State) : State :=
  let t := runReq m r (setCtlQueue m [] s)
  setCtlQueue m (ctlQueue m t ++ rest) t

/-- CONTROL_REQUEST_DISPATCH (R57): the oldest request enters the crossing. (DESIGN CHOICE: log entry 18.) -/
def dispatchReq (m : Master) (s : State) : State :=
  match ctlQueue m s with
  | r :: rest => if r.stalled then s else runHead m r rest s
  | [] => s

/-- Page whose access table and island handle a request, and its offset, for PAGE_ACCESS; none for a window. -/
def reqPage (r : CtlReq) : Option (Nat × Nat) :=
  match region r.addr with
  | .page pg off => some (pg, off)
  | _ => none

/-- CONTROL_REQUEST_TIMEOUT (R57, R87): the oldest request is withdrawn. -/
def timeoutReq (m : Master) (s : State) : State :=
  match ctlQueue m s with
  | r :: rest =>
    let s1 := setCtlQueue m rest s
    match reqPage r with
    | some (pg, off) => recordAccess m r.write pg off 6 s1 |> respond m .timeout r.write 0
    | none => respond m .timeout r.write 0 s1
  | [] => s

/-- STALLED_ACCESS_RESUME (R98, R99): the access completes once its island answers, waits while it wakes or leaves
IDLE, and completes with OFF once a wake has fallen back. (DESIGN CHOICE: log entry 21.) -/
def resumeReq (m : Master) (s : State) : State :=
  match ctlQueue m s with
  | r :: rest =>
    let i := isl (reqIsland r) s
    if r.stalled = false then s
    else if i.waking = true ∨ i.entering = true ∨ i.st = .idle ∨ clocked (reqIsland r) s = false then s
    else if i.st = .sleep then
      let s1 := setCtlQueue m rest s
      match reqPage r with
      | some (pg, off) => answerOff m r.write pg off s1
      | none => respond m .off r.write 0 s1
    else runHead m { r with stalled := false } rest s
  | [] => s

/-! ## Meanings of the control rows -/

/-- CONTROL_REQUEST_ACCEPT on the port of master `m`. -/
def execControlRequestAccept (m : Master) (write : Bool) (addr : BitVec 26) (data : W32) (s : State) :
    Host.Outcome State Fault Refusal :=
  done (acceptReq m { write := write, addr := addr.toNat, data := data, stalled := false } s)
/-- CONTROL_REQUEST_DISPATCH. -/
def execControlRequestDispatch (m : Master) (s : State) : Host.Outcome State Fault Refusal := done (dispatchReq m s)
/-- CONTROL_REQUEST_TIMEOUT. -/
def execControlRequestTimeout (m : Master) (s : State) : Host.Outcome State Fault Refusal := done (timeoutReq m s)
/-- STALLED_ACCESS_RESUME. -/
def execStalledAccessResume (m : Master) (s : State) : Host.Outcome State Fault Refusal := done (resumeReq m s)
/-- REGISTER_WRITE at byte address `addr` of the aperture. -/
def execRegisterWrite (m : Master) (addr : BitVec 26) (data : W32) (s : State) : Host.Outcome State Fault Refusal :=
  done (runReq m (wreq addr.toNat data.toNat) s)
/-- PAGE_ACCESS_CLEAR of page index `pg`. -/
def execPageAccessClear (m : Master) (pg : BitVec 8) (s : State) : Host.Outcome State Fault Refusal :=
  done (runReq m (wreq (hdrLoc .PAGE_ACCESS pg.toNat) 1) s)
/-- PAGE_LOCK of page index `pg`. -/
def execPageLock (m : Master) (pg : BitVec 8) (s : State) : Host.Outcome State Fault Refusal :=
  done (runReq m (wreq (hdrLoc .PAGE_LOCK pg.toNat) 1) s)
/-- PAGE_ACL_WRITE of page index `pg`. -/
def execPageAclWrite (m : Master) (pg : BitVec 8) (data : W32) (s : State) : Host.Outcome State Fault Refusal :=
  done (runReq m (wreq (hdrLoc .PAGE_ACL pg.toNat) data.toNat) s)
/-- GL_WINACL_WRITE. -/
def execGlWinaclWrite (m : Master) (data : W32) (s : State) : Host.Outcome State Fault Refusal :=
  done (runReq m (wreq (loc .GL_WINACL) data.toNat) s)
/-- HOSTCFG_WRITE. -/
def execHostcfgWrite (m : Master) (data : W32) (s : State) : Host.Outcome State Fault Refusal :=
  done (runReq m (wreq (loc .GL_HOSTCFG) data.toNat) s)
/-- FLAG_SET_ALIAS of flag word `word` of page `pg`. -/
def execFlagSetAlias (m : Master) (pg word : BitVec 8) (data : W32) (s : State) : Host.Outcome State Fault Refusal :=
  done (runReq m (wreq (pg.toNat * 4096 + 0x800 + 4 * word.toNat) data.toNat) s)
/-- FLAG_CLEAR_ALIAS of flag word `word` of page `pg`, in a cycle in which the hardware sets the bits `hw` (R94); they are
set whatever becomes of the access. -/
def execFlagClearAlias (m : Master) (pg word : BitVec 8) (data hw : W32) (s : State) : Host.Outcome State Fault Refusal :=
  let a := pg.toNat * 4096 + 0xC00 + 4 * word.toNat
  let set (t : State) : State := if inReset t || clientPcs a t then t else clearAlias (a - 0x800) 0 hw.toNat t
  done (
    if (pageOf pg.toNat).isNone then runReq m (wreq a data.toNat) s
    else ctlWrite m a data.toNat (fun t =>
      if clientPcs a t then some t else some (clearAlias (a - 0x800) data.toNat hw.toNat t)) (set s))
/-- REG64_LOW_READ at the byte address of a low word. -/
def execReg64LowRead (m : Master) (addr : BitVec 26) (s : State) : Host.Outcome State Fault Refusal :=
  done (runReq m (rreq addr.toNat) s)
/-- REG64_LOW_WRITE. -/
def execReg64LowWrite (m : Master) (addr : BitVec 26) (data : W32) (s : State) : Host.Outcome State Fault Refusal :=
  done (runReq m (wreq addr.toNat data.toNat) s)
/-- REG64_HIGH_WRITE at the byte address of a high word. -/
def execReg64HighWrite (m : Master) (addr : BitVec 26) (data : W32) (s : State) : Host.Outcome State Fault Refusal :=
  done (runReq m (wreq addr.toNat data.toNat) s)
/-- SEM_CLAIM of semaphore `n` with a token. -/
def execSemClaim (m : Master) (n : BitVec 6) (token : BitVec 16) (s : State) : Host.Outcome State Fault Refusal :=
  done (runReq m (wreq (loc .GL_SEM 0 n.toNat) token.toNat) s)
/-- SEM_RELEASE. -/
def execSemRelease (m : Master) (n : BitVec 6) (token : BitVec 16) (s : State) : Host.Outcome State Fault Refusal :=
  done (runReq m (wreq (loc .GL_SEM 0 n.toNat) (2 ^ 31 + token.toNat)) s)
/-- SEM_FORCE. -/
def execSemForce (m : Master) (n : BitVec 6) (s : State) : Host.Outcome State Fault Refusal :=
  done (runReq m (wreq (loc .GL_SEM 0 n.toNat) (2 ^ 30)) s)
/-- DOORBELL_VIA_CONTROL_PORT: a write to handle `h` of function `f`'s window. -/
def execDoorbellViaControlPort (m : Master) (f : BitVec 12) (h : BitVec 9) (s : State) : Host.Outcome State Fault Refusal :=
  done (runReq m (wreq (0x1000000 + f.toNat * 4096 + h.toNat * 8) 0) s)

/-! ## Other rows that are register writes -/

/-- EV_COMPLETE. -/
def execEvComplete (m : Master) (data : W32) (s : State) : Host.Outcome State Fault Refusal :=
  done (runReq m (wreq (loc .EV_COMPLETE) data.toNat) s)
/-- ROUTE_WRITE: the route of privileged source `i`, or for `i` above 7 the route table entry that EV_ROUTE_PTR selects. -/
def execRouteWrite (m : Master) (i : BitVec 4) (data : W32) (s : State) : Host.Outcome State Fault Refusal :=
  done (runReq m (wreq (if i.toNat < 8 then loc .EV_PRIV_ROUTE 0 i.toNat else loc .EV_ROUTE_DATA) data.toNat) s)
/-- PICC_MAP_WRITE of entry `n`. -/
def execPiccMapWrite (m : Master) (n : BitVec 5) (data : W32) (s : State) : Host.Outcome State Fault Refusal :=
  done (runReq m (wreq (loc .EV_PICC_MAP 0 n.toNat) data.toNat) s)
/-- SIL_ARM: a write of EV_SIL_DB with ARM. -/
def execSilArm (m : Master) (q : BitVec 10) (s : State) : Host.Outcome State Fault Refusal :=
  done (runReq m (wreq (loc .EV_SIL_DB) (2 ^ 31 + q.toNat)) s)
/-- SIL_SCAN: a write of EV_SIL_DB with SCAN. -/
def execSilScan (m : Master) (q : BitVec 10) (s : State) : Host.Outcome State Fault Refusal :=
  done (runReq m (wreq (loc .EV_SIL_DB) (2 ^ 30 + q.toNat)) s)
/-- RH_START: a write of ST_RH_CTRL. -/
def execRhStart (m : Master) (s : State) : Host.Outcome State Fault Refusal :=
  done (runReq m (wreq (loc .ST_RH_CTRL) (2 ^ 31)) s)
/-- RH_PARK. -/
def execRhPark (m : Master) (s : State) : Host.Outcome State Fault Refusal :=
  done (runReq m (wreq (loc .ST_RH_CTRL) (2 ^ 30)) s)
/-- RH_RESUME. -/
def execRhResume (m : Master) (s : State) : Host.Outcome State Fault Refusal :=
  done (runReq m (wreq (loc .ST_RH_CTRL) (2 ^ 29)) s)
/-- RH_CANCEL. -/
def execRhCancel (m : Master) (s : State) : Host.Outcome State Fault Refusal :=
  done (runReq m (wreq (loc .ST_RH_CTRL) (2 ^ 28)) s)
/-- MT_WRITE in meter instance `k`, with FILL. -/
def execMtWrite (m : Master) (k : BitVec 2) (fill : Bool) (s : State) : Host.Outcome State Fault Refusal :=
  done (runReq m (wreq (loc .MT_CTRL k.toNat) (2 ^ 31 + b2n fill * 2 ^ 29)) s)
/-- MT_READ in meter instance `k`. -/
def execMtRead (m : Master) (k : BitVec 2) (s : State) : Host.Outcome State Fault Refusal :=
  done (runReq m (wreq (loc .MT_CTRL k.toNat) (2 ^ 30)) s)

end Sys2Proof.Machine
end

