-- ==== Sys2Proof/Machine/Upkeep.lean ====
section
/-!
DEFINITION. Events that time, the host chip or the block's own units bring about beside commands and answers: scans and timers
of queues (spec/09), sources, windows and messages (spec/14), and the table's units (spec/08).
-/

namespace Sys2Proof.Machine

/-! ## Scans, timers and fences of queues -/

/-- SCAN_CONTINUE (R268): a scan that stopped for room goes on; `kind` 0 names a submission queue, 1 an admin pair, 2
a general channel. (DEDUCED: log entry 55.) -/
def scanContinue (kind id : Nat) (s : State) : State :=
  match kind with
  | 0 => if (getSq id s).stopRoom then sqScanStart id s else s
  | 1 => if (getPair (pairOf id) s).stopRoom then admScanStart (pairOf id) s else s
  | _ => teScanMore (genChan id) s

/-- CQ_POLL_TIMER (R271): CQ_POLL has elapsed; 0 polls never. -/
def cqPoll (c : Nat) (s : State) : State :=
  if (getCq c s).episode = true ∧ fg (loc .WQ_CFG) F.WQ_CFG_CQ_POLL s ≠ 0 then cqScanStart c s else s

/-- HOLD_BUDGET_EXPIRY of frame `f`, which waits for receive queue `q` (R273). -/
def holdExpiry (q f : Nat) (s : State) : State := if (getSq q s).waiting.contains f then holdDrop q f s else s

/-- FENCE_COMPLETE of fence `n` (R16, R37): nothing created before it is outstanding, and no earlier fence is
incomplete. What waited for it goes on. (DEDUCED: log entry 57.) -/
def fenceComplete (n : Nat) (s : State) : State :=
  match s.wq.fences.find? (fun g => g.id == n) with
  | none => s
  | some g =>
    if s.wq.outs.any (fun o => decide (o < g.upto)) || s.wq.fences.any (fun h => decide (h.id < n)) then s
    else
      let qs := (s.wq.execs.filter (fun e => e.fence == some n)).map (·.sq)
      let cs := (s.te.filter (fun p => p.2.fence == some n)).map (·.1)
      finishOpt g.cmd St.ok 0 { s with wq := { s.wq with fences := s.wq.fences.filter (fun h => h.id != n) } }
        |> forEach qs completeSq
        |> forEach cs teStatusWrite

/-! ## Sources, windows and messages -/

/-- PRIV_SOURCE_EDGE of source `i` (R387): the thermal trip also raises its alert cause (GL_ALERT THERMAL). -/
def privSource (i : Nat) (s : State) : State :=
  if coldHeld s then s else doIf (i == 6) (alert F.GL_ALERT_THERMAL) (privEdge i s)

/-- COALESCE_WINDOW_END of domain `d` (R403). An island that is down holds no outputs (R36): the SUMMARY is made once the
core island is in RUN. -/
def windowClose (d : Nat) (s : State) : State :=
  match s.ev.windows.find? (fun w => w.domain == d) with
  | some w => crossing (islRun 2 s) (.coalesceWindowEnd (BitVec.ofNat 16 d)) (closeWindow w) s
  | none => s

/-- SIL_POLL_TIMER of queue `q` (R392): SIL_POLL has elapsed. -/
def silPoll (q : Nat) (s : State) : State :=
  let k := getSil q s
  if k.credit = 0 ∨ k.lost ≠ 0 then silScanStart q s else s

/-- MODERATION_EXPIRY of queue `q` (R396): MOD_TIME has elapsed since its message became due. -/
def modExpiry (q : Nat) (s : State) : State := if (getSil q s).moderating then raiseMessage q s else s

/-- NFP_MESSAGE_ACCEPT (R75): the host chip accepts the oldest message; one of its queue that was due meanwhile is raised. -/
def nfpAccept (s : State) : State :=
  match s.ev.nfp with
  | [] => s
  | (_, q) :: rest =>
    let s1 := setSil q { getSil q s with msgWait := rest.any (fun m => m.2 == q) } { s with ev := { s.ev with nfp := rest } }
    if (getSil q s1).msgDue then raiseMessage q s1 else s1

/-- The pins TARGET_IDLE take their levels (R397). -/
def setIdle (v : BitVec 64) (s : State) : State := { s with pins := { s.pins with targetIdle := v } }

/-- TARGET_IDLE_RISE of target `t` (R397): the moderating queues of a target that is idle raise their messages. `levels` are the
levels of all pins after it: those that have fallen, `t` among them, are 0. (DESIGN CHOICE: log entry 70.) -/
def idleRise (t : Nat) (levels : BitVec 64) (s : State) : State :=
  setIdle (levels ||| BitVec.ofNat 64 (2 ^ t)) s
    |> forEach s.ev.sils (fun p u => moderate p.1 false u)
    |> setIdle levels

/-! ## Items that waited at a crossing (R21) -/

/-- A held item is offered to its crossing again. -/
def passItem (i : Instr) (s : State) : State :=
  match i with
  | .doorbell f a => doorbellFrom f a s
  | .hmpReadBeat port tag data gv last err => readBeat port tag data gv last err s
  | .hmpWriteResponse port tag err => writeResponse port tag err s
  | .rxCellTaken p b code => cellItem p b code s
  | .rxFrameEnd p code => endItem p code s
  | .mmFragmentReceive p smd frag b final bad code => fragmentItem p smd frag b code final bad s
  | .coalesceWindowEnd d => windowClose d.toNat s
  | _ => s

/-- Where an island has come to RUN, the items held at its crossings pass, in the order in which they came (R19, R21). -/
def passHeld (s : State) : State := forEach s.pw.held passItem { s with pw := { s.pw with held := [] } }

/-! ## Meanings -/

/-- IDLE_EXIT. -/
def execIdleExit (c : Nat) (s : State) : Host.Outcome State Fault Refusal := done (passHeld (idleExit c s))
/-- WAKE_STEP_DONE. -/
def execWakeStepDone (c : Nat) (s : State) : Host.Outcome State Fault Refusal := done (passHeld (wakeStep c s))
/-- REFCLK_RETURN. -/
def execRefclkReturn (s : State) : Host.Outcome State Fault Refusal := done (passHeld (setRefclk true s))

/-- SCAN_CONTINUE. -/
def execScanContinue (kind id : Nat) (s : State) : Host.Outcome State Fault Refusal := done (scanContinue kind id s)
/-- CREDIT_SCAN of completion queue `c`. -/
def execCreditScan (c : Nat) (s : State) : Host.Outcome State Fault Refusal := done (cqScanStart c s)
/-- CQ_POLL_TIMER of completion queue `c`. -/
def execCqPollTimer (c : Nat) (s : State) : Host.Outcome State Fault Refusal := done (cqPoll c s)
/-- HOLD_BUDGET_EXPIRY. -/
def execHoldBudgetExpiry (q f : Nat) (s : State) : Host.Outcome State Fault Refusal := done (holdExpiry q f s)
/-- FENCE_COMPLETE. -/
def execFenceComplete (n : Nat) (s : State) : Host.Outcome State Fault Refusal := done (fenceComplete n s)
/-- PRIV_SOURCE_EDGE. -/
def execPrivSourceEdge (i : BitVec 3) (s : State) : Host.Outcome State Fault Refusal := done (privSource i.toNat s)
/-- COALESCE_WINDOW_END. -/
def execCoalesceWindowEnd (d : BitVec 16) (s : State) : Host.Outcome State Fault Refusal := done (windowClose d.toNat s)
/-- SIL_CREDIT_SCAN of Sillage queue `q`. -/
def execSilCreditScan (q : BitVec 10) (s : State) : Host.Outcome State Fault Refusal := done (silScanStart q.toNat s)
/-- SIL_POLL_TIMER. -/
def execSilPollTimer (q : BitVec 10) (s : State) : Host.Outcome State Fault Refusal := done (silPoll q.toNat s)
/-- MODERATION_EXPIRY. -/
def execModerationExpiry (q : BitVec 10) (s : State) : Host.Outcome State Fault Refusal := done (modExpiry q.toNat s)
/-- NFP_MESSAGE_ACCEPT. -/
def execNfpMessageAccept (s : State) : Host.Outcome State Fault Refusal := done (nfpAccept s)
/-- TARGET_IDLE_RISE. -/
def execTargetIdleRise (t : BitVec 6) (levels : BitVec 64) (s : State) : Host.Outcome State Fault Refusal :=
  done (idleRise t.toNat levels s)
/-- LEARN_ARBITRATE. -/
def execLearnArbitrate (s : State) (corr : Nat := 0) (fatal : List Nat := []) : Host.Outcome State Fault Refusal :=
  done (tableOp (s.tab.learnQ != []) corr fatal learnArbitrate s)
/-- TABLE_CHANGE_APPLY. -/
def execTableChangeApply (s : State) (corr : Nat := 0) (fatal : List Nat := []) : Host.Outcome State Fault Refusal :=
  done (tableOp (unitFree s) corr fatal changeUnit s)
/-- HOLD_DOWN_EXPIRY of the record of a key. -/
def execHoldDownExpiry (key : BitVec 80) (s : State) : Host.Outcome State Fault Refusal := done (holdExpire key.toNat s)
/-- AGE_STEP. -/
def execAgeStep (s : State) (corr : Nat := 0) (fatal : List Nat := []) : Host.Outcome State Fault Refusal :=
  done (tableOp (!inReset s && agePeriod s != 0) corr fatal ageStep s)
/-- REHASH_STEP. -/
def execRehashStep (s : State) (corr : Nat := 0) (fatal : List Nat := []) : Host.Outcome State Fault Refusal :=
  done (tableOp (stepReady s) corr fatal rehashStep s)
/-- REHASH_FINISH. -/
def execRehashFinish (s : State) (corr : Nat := 0) (fatal : List Nat := []) : Host.Outcome State Fault Refusal :=
  done (tableOp s.tab.finishing corr fatal rehashFinish s)
/-- READ_KEY in window `k`, where that command is in progress. -/
def execReadKey (k : BitVec 4) (s : State) (corr : Nat := 0) (fatal : List Nat := []) : Host.Outcome State Fault Refusal :=
  done (tableOp ((getWin k.toNat s).busy == some 0) corr fatal (readKey k.toNat) s)
/-- READ_LOC in window `k`. -/
def execReadLoc (k : BitVec 4) (s : State) (corr : Nat := 0) (fatal : List Nat := []) : Host.Outcome State Fault Refusal :=
  done (tableOp ((getWin k.toNat s).busy == some 1) corr fatal (readLoc k.toNat) s)
/-- READ_NEXT in window `k`. -/
def execReadNext (k : BitVec 4) (s : State) (corr : Nat := 0) (fatal : List Nat := []) : Host.Outcome State Fault Refusal :=
  done (tableOp ((getWin k.toNat s).busy == some 2) corr fatal (readNext k.toNat) s)

end Sys2Proof.Machine
end

