-- ==== Sys2Proof/Machine/DuoRx.lean ====
section
/-!
DEFINITION. What a Duo block does with an arriving flit and a returned credit (R79, R80, R487 to R497): the standby's mirror, its
flips, resends, acknowledgements and what waits for them.
-/

namespace Sys2Proof.Machine

/-! ## Flips of the standby (R489) -/

/-- Channel, function and address of the byte that holds DEV_OWNS of what a READY names. -/
def flipAt (ref : RdyRef) (s : State) : Nat × Nat × Nat :=
  match ref with
  | .cpl c slot _ _ => (cqChan c, (getCq c s).func, (getCq c s).base + 32 * slot + 31)
  | .adm p slot _ => (admChan p, admFunc p s, admCqBase p s + 32 * slot + 31)
  | .sil q slot => (silChan q, (getSil q s).func, (getSil q s).base + 16 * slot + 15)
  | .te n pos => (n, teFunc n s, teBase n s + 32 * pos + 31)
  | .dump slot => (dumpChan, s.pc.dump.func, s.pc.dump.base + slot * 0x21000 + 0x20000 + 63)

/-- The mirrored positions after a flip: the slot after it, and the entry after the one it releases (R495). -/
def mirrorReady (ref : RdyRef) (s : State) : State :=
  match ref with
  | .cpl c slot q pos =>
    let k := getCq c s
    let v := getSq q s
    setSq q { v with pos := (pos + 1) % 2 ^ v.logSize } (setCq c { k with prod := (slot + 1) % 2 ^ k.logSize } s)
  | .adm p slot pos =>
    setPair p { getPair p s with
        cqProd := (slot + 1) % 2 ^ admCqLog p s, credit := (getPair p s).credit - 1, sqPos := (pos + 1) % 2 ^ admSqLog p s }
      { s with du := { s.du with mirror := s.du.mirror.filter (fun m => !(m.1 == p && m.2.pos == pos)) } }
  | .sil q slot =>
    let k := getSil q s
    setSil q { k with prod := (slot + 1) % 2 ^ k.logSize, seq := (k.seq + 1) % 128 } s
  | .te n pos => setTePos n ((pos + 1) % 2 ^ teLog n s) s
  | .dump slot =>
    let d := s.pc.dump
    setDump { d with slot := (slot + 1) % 2 ^ d.logSlots, seq := d.seq + 1 } s

/-- READY: write the byte that holds DEV_OWNS as 0. -/
def readyIn (id : Nat) (ref : RdyRef) (s : State) : State :=
  let a := flipAt ref s
  mirrorReady ref { s with du := { s.du with todo := s.du.todo ++ [{ id := id, ref := ref, st := 0 }] } }
    |> access { chan := a.1, func := a.2.1, iova := a.2.2, len := 1, write := true, data := [0], purpose := .duoFlip id }

/-! ## Records (R488) -/

/-- A register write that only sets the active's own work going, which the standby does not repeat (R486). (DEDUCED:
log entry 88.) -/
def ownWork (n : RegName) : Bool :=
  n == .EV_COMPLETE || n == .EV_SIL_DB || n == .WQ_ADM_DB || n == .PC_DUMP_CTRL || n == .TR_INV || n == .ST_RH_CTRL

/-- Write the writable bits of a word as they are. -/
def mirrorWord (n : RegName) (a : Nat) (hi : Bool) (v : Nat) (s : State) : State :=
  let m0 := n.row.rw ||| n.row.once ||| n.row.sticky
  let m := if hi then m0 / 2 ^ 32 else m0 % 2 ^ 32
  let old := rd a s
  wr a ((old ^^^ (old &&& m)) ||| (v &&& m)) s

/-- A general channel of the mirror is enabled or disabled. -/
def mirrorTeCfg (ch a v : Nat) (s : State) : State :=
  let on := fb (teLoc .TE_CFG ch) F.TE_CFG_ENABLE s
  let s1 := mirrorWord .TE_CFG a false v s
  if ch < 48 then s1
  else if bit v 31 = true ∧ on = false then setTePos ch 0 (setTeState ch 1 s1)
  else if bit v 31 = false ∧ on = true then teOff ch s1
  else s1

/-- An admin pair of the mirror is enabled, or drains: it keeps its positions, which a takeover needs (R494), until the
active, which enables a pair in OFF only, enables it again. -/
def mirrorAdmCfg (p v : Nat) (s : State) : State :=
  let st := admState p s
  let s1 := wr (loc .WQ_ADM_CFG (p - 1)) (b2n (bit v 31) * 2 ^ 31 + st * 2 ^ 28 + admFields v) s
  if bit v 31 = true ∧ (st = 0 ∨ st = 3) then setAdmState p 1 (setPair p Pair.off s1)
  else if bit v 31 = false ∧ st ≠ 0 then setAdmState p 3 s1
  else s1

/-- CONFIG: the same write to the own page. -/
def configIn (a v : Nat) (s : State) : State :=
  let pg := a / 4096
  match regAt pg (a % 4096) with
  | none => (writeEffect .stw a v s).getD s
  | some (n, i, hi) =>
    let k := pageInstance pg
    if n.row.wide then mirrorWord n a hi v s
    else if ownWork n then s
    else match n with
      | .TE_CFG => mirrorTeCfg (4 * k + i) a v s
      | .TE_CTRL => fs a F.TE_CTRL_PAUSE (b2n (bit v 30)) s
      | .WQ_ADM_CFG => mirrorAdmCfg k v s
      | _ => (writeEffect .stw a v s).getD s

/-- TABLE: the change by content, under the own seeds, through the own change unit (R229, R249). -/
def tableIn (op : Nat) (e : Ent) (s : State) : State := changeUnit (queueChange (.mirror op e) s)

/-- State of a queue from its code. -/
def QState.ofCode : Nat → QState
  | 1 => .active
  | 2 => .resetting
  | 3 => .stopped
  | 4 => .destroying
  | _ => .none

/-- Registers of mirrored pages that belong to each block alone: seeds and rehashes (R488). -/
def ownReg (n : RegName) : Bool := n == .ST_SEED_CUR || n == .ST_RH_STATE || n == .ST_MOVE_SEQ

/-- Pairs of a flat list. -/
def pairsOf : List Nat → List (Nat × Nat)
  | a :: b :: r => (a, b) :: pairsOf r
  | _ => []

/-- A position record of the snapshot (R497), kinds 1 to 5. -/
def snapPos (kind key : Nat) (v : List Nat) (s : State) : State :=
  let g (i : Nat) : Nat := v.getD i 0
  match kind with
  | 1 => setSq key { Sq.none with
      state := QState.ofCode (g 0), rx := g 1 == 1, base := g 2, logSize := g 3, func := g 4, handle := g 5, cq := g 6,
      hold := g 7, snoop := g 8 == 1, parent := g 9, band := g 10, pos := g 11, err := g 12 } s
  | 2 => setCq key { Cq.none with
      state := QState.ofCode (g 0), base := g 1, logSize := g 2, func := g 3, handle := g 4, rsv := g 5 == 1,
      silValid := g 6 == 1, sillage := g 7, prod := g 8, episodes := g 9, err := g 10 } s
  | 3 => setSil key { Sil.none with
      state := if g 0 = 1 then .active else .stopped, func := g 1, target := g 2, logSize := g 3, base := g 4, prod := g 5,
      seq := g 6, lost := g 7, modTime := g 8, modCount := g 9 } s
  | 4 => setPair key { getPair key s with sqPos := g 0, cqProd := g 1, silValid := g 2 == 1, sillage := g 3 } s
  | _ =>
    let held := fb (teLoc .TE_CTRL key) F.TE_CTRL_PAUSE s
    let st := if g 1 = 0 then 0 else if g 1 = 5 then 5 else if held then 4 else 1
    setTePos key (g 0) (setTeState key st (setHoldBit key F.TE_STATE_HOLD_PAUSE (held && st == 4) s))

/-- A snapshot record (R497). -/
def snapIn (kind key : Nat) (v : List Nat) (s : State) : State :=
  let g (i : Nat) : Nat := v.getD i 0
  match kind with
  | 0 =>
    match regAt (key / 4096) (key % 4096) with
    | some (n, _, hi) =>
      if key % 4096 < 0x80 ∨ ownReg n = true then s
      else if n = .WQ_ADM_CFG then wr key (g 0) s
      else mirrorWord n key hi (g 0) s
    | none => s
  | 6 => { s with wq := { s.wq with groups := sput ⟨false, 0, 0⟩ s.wq.groups key ⟨g 0 == 1, g 1, g 2⟩ } }
  | 7 => { s with wq := { s.wq with members := sput (false, 0) s.wq.members key (g 0 == 1, g 1) } }
  | 8 => setMeter key { Meter.none with cfg := v.map (BitVec.ofNat 8), last := s.tb.cycle } s
  | 9 => setForce key (v.map (BitVec.ofNat 8)) { s with sc := { s.sc with nodes := sput [] s.sc.nodes key (v.map (BitVec.ofNat 8)) } }
  | 10 => showCalendar key (setSp key { getSp key s with
      active := some { entries := pairsOf (v.drop 2), start := g 0, cycle := g 1 } } s)
  | 11 => { s with dp := { s.dp with store := sput 0 s.dp.store key (g 0) } }
  | 12 => { s with dp := { s.dp with entry := sput 0 s.dp.entry key (g 0) } }
  | 16 => setSp key { getSp key s with
      pendingCal := some ({ entries := pairsOf (v.drop 3), start := g 0, cycle := g 1 }, g 2, 0, 0) } s
  | 17 => { s with dp := { s.dp with wake := sput 0 s.dp.wake key (g 0) } }
  | 13 => setDump { Dump.reset with
      enable := g 0 == 1, period := g 1, base := g 2, logSlots := g 3, sillage := g 4, func := g 5, named := g 6 == 1,
      slot := g 7, seq := g 8 } s
  | 14 => { s with pc := { s.pc with val := sput 0 s.pc.val key (g 0 % 2 ^ 48) } }
  | 15 => { s with ev := { s.ev with routes := sput 0 s.ev.routes key (g 0) } }
  | _ => snapPos kind key v s

/-- Apply a journal record (R488). -/
def applyRec (r : JRec) (s : State) : State :=
  match r with
  | .ready id ref => readyIn id ref s
  | .config a v => configIn a v.toNat s
  | .command p e d =>
    let b := bytesLE 64 e.raw.toNat
    if u b 0 1 = 0x09 then setBinding p b s else admEffect 0 0 b d s
  | .accepted p e => { s with du := { s.du with mirror := s.du.mirror ++ [(p, e)] } }
  | .table op key t m a st =>
    tableIn op { key := key.toNat, target := t, meter := m, action := a, hit := op == 3, static := st, moving := false } s
  | .counter ds => forEach ds (fun d t => bumpBy d.1 d.2 t) s
  | .snap kind key v => snapIn kind key v s

/-- A snapshot begins: the standby's mirror is empty and its mirrored registers are at reset (R485, R497). -/
def mirrorStart (s : State) : State :=
  let s1 := { s with pc := { s.pc with val := s.pc.val.filter (fun c => !counterSent c.1) } }
  forEach (s.regs.filter (fun p => configPage (p.1 / 4096) && decide (0x80 ≤ p.1 % 4096))) (fun p t =>
      match regAt (p.1 / 4096) (p.1 % 4096) with
      | some (n, _, hi) => if ownReg n then t else mirrorWord n p.1 hi (resetWord p.1).toNat t
      | none => t) (dropMirror s1)
    |> setPairState 1

/-! ## Flits -/

/-- A journal record arrives (R487): the next in sequence is applied; a gap asks for a resend and discards what
follows. -/
def journalIn (n : Nat) (r : JRec) (s : State) : State :=
  if duRole s ≠ 2 ∨ duPair s = 0 then s
  else
    let next := (s.du.rxSeq + 1) % 2 ^ 32
    if n = next then applyRec r { s with du := { s.du with rxSeq := n, gap := false } }
    else if 2 ^ 31 ≤ (n + 2 ^ 32 - next) % 2 ^ 32 ∨ s.du.gap = true then s
    else sendFlit (.resend next) { s with du := { s.du with gap := true, gapFlits := 0 } }

/-- A flit has arrived while a gap is open: a request or a resent record may have been lost too, so that every 16 flits the
request is made again (R487). (DESIGN CHOICE: log entry 87.) -/
def gapFlit (s : State) : State :=
  if duRole s ≠ 2 ∨ s.du.gap = false then s
  else if s.du.gapFlits < 15 then { s with du := { s.du with gapFlits := s.du.gapFlits + 1 } }
  else sendFlit (.resend ((s.du.rxSeq + 1) % 2 ^ 32)) { s with du := { s.du with gapFlits := 0 } }

/-- Resend the unacknowledged records from a sequence number (R487). -/
def resendFrom (n : Nat) (s : State) : State :=
  forEach (s.du.replay.dropWhile (fun r => r.1 != n)) (fun r t => sendFlit (.journal r.1 r.2) t) s

/-- The standby reports a flip's response (R490), or that it failed (R65). -/
def flippedIn (id : Nat) (err : Bool) (s : State) : State :=
  match s.du.flips.find? (fun f => f.1 == id) with
  | none => s
  | some f =>
    let s1 := { s with du := { s.du with flips := s.du.flips.filter (fun g => g.1 != id) } }
    afterAnswer (if err then accessFailed f.2 St.hostWriteError s1 else writeDone f.2 true s1)

/-- The standby reports that a release has failed: its ring stops, as for a release of the block's own (R65). -/
def releaseFailed (ref : RdyRef) (s : State) : State :=
  match ref with
  | .cpl _ _ q _ => afterAnswer (sqStop q St.hostWriteError s)
  | .adm p _ _ => afterAnswer (stopPair p St.hostWriteError s)
  | _ => s

/-- What a flit carries. -/
def flitBody (b : FlitBody) (s : State) : State :=
  match b with
  | .heartbeat => s
  | .journal n r => journalIn n r s
  | .resend n => if duRole s = 1 then resendFrom n s else s
  | .flipped id err => if duRole s = 1 then flippedIn id err s else s
  | .releaseFailed ref => if duRole s = 1 then releaseFailed ref s else s
  | .takeover =>
    if duRole s ≠ 1 ∨ (duPair s ≠ 2 ∧ duPair s ≠ 3) ∨ s.du.phase = .draining then s
    else if s.du.phase = .gaveUp then sendFlit .fenced s
    else giveUp 2 s
  | .fenced => if duRole s = 2 ∧ s.du.phase = .waitFenced then { s with du := { s.du with phase := .due } } else s
  | .fatal => if duRole s = 2 ∧ duPair s = 2 ∧ s.du.phase = .none then trigger 3 .waitFenced s else s
  | .cutover => if duRole s = 2 ∧ duPair s = 1 then setPairState 2 s else s

/-- An ACTIVE block sees its partner ACTIVE (R496): a former active that survived, and a block that left reset within the
last 1 ms, take the STANDBY role. -/
def partnerActive (role : Nat) (s : State) : State :=
  if duRole s = 1 ∧ role = 1 ∧ (duPair s = 2 ∨ duPair s = 3 ∨ s.tb.refill < s.du.leftReset + 1000000 * nsU) then surrender s else s

/-- A STANDBY block follows what the active shows: SYNCING begins a snapshot, and UNPROTECTED ends the mirror (R485,
R497). -/
def followPair (role pair : Nat) (s : State) : State :=
  if duRole s = 2 ∧ role = 1 ∧ s.du.phase = .none then
    if pair = 1 ∧ duPair s = 0 then mirrorStart s
    else if pair = 0 ∧ duPair s ≠ 0 then setPairState 0 (dropMirror s)
    else s
  else s

/-- Return a credit, with the sequence number applied last (R79, R487). -/
def returnCredit (s : State) : State := { s with du := { s.du with creditsOut := s.du.creditsOut ++ [s.du.rxSeq] } }

/-- The flit's TABLE record is applied at once: the table is read (R225). -/
def readsTable (b : FlitBody) (s : State) : Bool :=
  match b with
  | .journal n (.table _ _ _ _ _ _) =>
    duRole s == 2 && duPair s != 0 && n == (s.du.rxSeq + 1) % 2 ^ 32 && unitFree s && s.tab.stuck.isNone
  | _ => false

/-- DMP_FLIT_RECEIVE (R80): `bad` marks an uncorrectable ECC error. (DEDUCED: log entry 86.) -/
def flitIn (f : Flit) (bad : Bool) (s : State) (corr : Nat := 0) (fatal : List Nat := []) : State :=
  if duRole s = 0 ∨ inReset s = true then s
  else if bad then returnCredit (bump (cBlk 3) s)
  else
    { s with du := { s.du with partner := (f.role, f.pair) } }
      |> fs (loc .DU_STATUS) F.DU_STATUS_DMP_UP 1
      |> partnerActive f.role
      |> followPair f.role f.pair
      |> (fun t => if readsTable f.body t then eccRead corr fatal t else t)
      |> flitBody f.body
      |> gapFlit
      |> returnCredit

/-! ## Credits and acknowledgements -/

/-- The record of a sequence number is acknowledged: neither kept nor held. -/
def seqAcked (n : Nat) (s : State) : Bool := !s.du.replay.any (fun r => r.1 == n) && !s.du.held.any (fun r => r.1 == n)

/-- What waited for an acknowledgement goes on (R231, R488). -/
def runWait (w : DuWait) (s : State) : State :=
  match w with
  | .cmd p k => applyCmd p k s
  | .table =>
    match s.tab.acking with
    | some (c, _) => runChange c (setTab { s.tab with acking := none } s)
    | none => s

/-- Run every wait whose record is acknowledged, or is no longer needed; a table change reads the table (R225). -/
def waitsCheck (s : State) (corr : Nat := 0) (fatal : List Nat := []) : State :=
  let ready := s.du.waits.filter (fun w => seqAcked w.1 s)
  forEach ready (fun w t => runWait w.2 (if w.2 == .table then eccRead corr fatal t else t))
    { s with du := { s.du with waits := s.du.waits.filter (fun w => !seqAcked w.1 s) } }

/-- The records up to `n` are acknowledged, if `n` is one that is kept. -/
def dropAcked (n : Nat) (s : State) : State :=
  if s.du.replay.any (fun r => r.1 == n) then
    { s with du := { s.du with acked := n, replay := (s.du.replay.dropWhile (fun r => r.1 != n)).drop 1 } }
  else s

/-- The whole snapshot is acknowledged (R497 step 2). -/
def snapshotAcked (s : State) : State :=
  if s.du.phase = .snapshot ∧ seqAcked s.du.snapSeq s = true then { s with du := { s.du with phase := .acked } } else s

/-- DMP_CREDIT (R79, R487): a credit comes back, with the partner's acknowledgement. -/
def creditIn (ack : Nat) (s : State) (corr : Nat := 0) (fatal : List Nat := []) : State :=
  if duRole s = 0 ∨ inReset s = true then s
  else
    let s1 := { s with du := { s.du with credits := min 16 (s.du.credits + 1) } }
    drainTxq s1.du.txq { s1 with du := { s1.du with txq := [] } } |> dropAcked ack |> passRecords |> cutoverSend |> snapshotAcked
      |> (waitsCheck · corr fatal)

/-! ## Meanings -/

/-- DMP_FLIT_RECEIVE. -/
def execDmpFlitReceive (f : Flit) (eccBad : Bool) (s : State) (corr : Nat := 0) (fatal : List Nat := []) :
    Host.Outcome State Fault Refusal := done (flitIn f eccBad s corr fatal)
/-- DMP_CREDIT. -/
def execDmpCredit (ack : W32) (s : State) (corr : Nat := 0) (fatal : List Nat := []) : Host.Outcome State Fault Refusal :=
  done (creditIn ack.toNat s corr fatal)
/-- DMP_CREDIT_STARVATION. What a dropped journal was to acknowledge goes on. -/
def execDmpCreditStarvation (s : State) : Host.Outcome State Fault Refusal := done (waitsCheck (creditStarvation s))
/-- DMP_SILENCE. -/
def execDmpSilence (s : State) : Host.Outcome State Fault Refusal := done (waitsCheck (dmpSilence s))

end Sys2Proof.Machine
end

