-- ==== Sys2Proof/Machine/Dispatch.lean ====
section
/-!
DEFINITION. One arm per command, each a direct call of its meaning.
-/

namespace Sys2Proof.Machine

def exec (instr : Instr) (s : State) : Host.Outcome State Fault Refusal :=
  match instr with
  | .supplyWarning => Sys2Proof.Machine.execSupplyWarning s
  | .supplyCollapse => Sys2Proof.Machine.execSupplyCollapse s
  | .supplyRecover => Sys2Proof.Machine.execSupplyRecover s
  | .coldResetAssert => Sys2Proof.Machine.execColdResetAssert s
  | .coldResetRelease prof duo => Sys2Proof.Machine.execColdResetRelease prof duo s
  | .fuseShadowLoad words => Sys2Proof.Machine.execFuseShadowLoad words s
  | .stewardRomStart => Sys2Proof.Machine.execStewardRomStart s
  | .warmResetAssert => Sys2Proof.Machine.execWarmResetAssert s
  | .warmResetRelease => Sys2Proof.Machine.execWarmResetRelease s
  | .profileApply => Sys2Proof.Machine.execProfileApply s
  | .presenceDebounced level => Sys2Proof.Machine.execPresenceDebounced level s
  | .wakeInWake => Sys2Proof.Machine.execWakeInWake s
  | .controlRequestAccept m write addr data => Sys2Proof.Machine.execControlRequestAccept m write addr data s
  | .controlRequestDispatch m => Sys2Proof.Machine.execControlRequestDispatch m s
  | .controlRequestTimeout m => Sys2Proof.Machine.execControlRequestTimeout m s
  | .stalledAccessResume m => Sys2Proof.Machine.execStalledAccessResume m s
  | .registerWrite m addr data => Sys2Proof.Machine.execRegisterWrite m addr data s
  | .pageAccessClear m pg => Sys2Proof.Machine.execPageAccessClear m pg s
  | .pageLock m pg => Sys2Proof.Machine.execPageLock m pg s
  | .pageAclWrite m pg data => Sys2Proof.Machine.execPageAclWrite m pg data s
  | .glWinaclWrite m data => Sys2Proof.Machine.execGlWinaclWrite m data s
  | .hostcfgWrite m data => Sys2Proof.Machine.execHostcfgWrite m data s
  | .flagSetAlias m pg word data => Sys2Proof.Machine.execFlagSetAlias m pg word data s
  | .flagClearAlias m pg word data hw => Sys2Proof.Machine.execFlagClearAlias m pg word data hw s
  | .reg64LowRead m addr => Sys2Proof.Machine.execReg64LowRead m addr s
  | .reg64LowWrite m addr data => Sys2Proof.Machine.execReg64LowWrite m addr data s
  | .reg64HighWrite m addr data => Sys2Proof.Machine.execReg64HighWrite m addr data s
  | .semClaim m n token => Sys2Proof.Machine.execSemClaim m n token s
  | .semRelease m n token => Sys2Proof.Machine.execSemRelease m n token s
  | .semForce m n => Sys2Proof.Machine.execSemForce m n s
  | .doorbell f addr => Sys2Proof.Machine.execDoorbell f addr s
  | .doorbellViaControlPort m f h => Sys2Proof.Machine.execDoorbellViaControlPort m f h s
  | .hmpReadBeat port tag data gv last err => Sys2Proof.Machine.execHmpReadBeat port tag data gv last err s
  | .hmpWriteResponse port tag err => Sys2Proof.Machine.execHmpWriteResponse port tag err s
  | .translationResponse tag pa size status => Sys2Proof.Machine.execTranslationResponse tag pa size status s
  | .pageResponse id ok => Sys2Proof.Machine.execPageResponse id ok s
  | .pageRequestTimeout id => Sys2Proof.Machine.execPageRequestTimeout id s
  | .trpInvalidation func page size => Sys2Proof.Machine.execTrpInvalidation func page size s
  | .trpInvalidationDone => Sys2Proof.Machine.execTrpInvalidationDone s
  | .trInvStart m all func => Sys2Proof.Machine.execTrInvStart m all func s
  | .trInvDone => Sys2Proof.Machine.execTrInvDone s
  | .nfpMessageAccept => Sys2Proof.Machine.execNfpMessageAccept s
  | .targetIdleRise t levels => Sys2Proof.Machine.execTargetIdleRise t levels s
  | .ppsInEdge => Sys2Proof.Machine.execPpsInEdge s
  | .ppsOutPulse => Sys2Proof.Machine.execPpsOutPulse s
  | .refPhaseSample v => Sys2Proof.Machine.execRefPhaseSample v s
  | .refLoss => Sys2Proof.Machine.execRefLoss s
  | .ppsMissing => Sys2Proof.Machine.execPpsMissing s
  | .dmpFlitReceive f eccBad corr fatal => Sys2Proof.Machine.execDmpFlitReceive f eccBad s corr fatal
  | .dmpCredit ack corr fatal => Sys2Proof.Machine.execDmpCredit ack s corr fatal
  | .dmpHeartbeatSend => Sys2Proof.Machine.execDmpHeartbeatSend s
  | .dmpCreditStarvation => Sys2Proof.Machine.execDmpCreditStarvation s
  | .tapInstruction code => Sys2Proof.Machine.execTapInstruction code s
  | .loadProfile p e => Sys2Proof.Machine.execLoadProfile p e s
  | .loadProfileDone => Sys2Proof.Machine.execLoadProfileDone s
  | .portEnable p => Sys2Proof.Machine.execPortEnable p s
  | .anAgreed p => Sys2Proof.Machine.execAnAgreed p s
  | .anNoCommon p fec => Sys2Proof.Machine.execAnNoCommon p fec s
  | .trainDone p eqs pre => Sys2Proof.Machine.execTrainDone p eqs pre s
  | .trainTimeout p mask => Sys2Proof.Machine.execTrainTimeout p mask s
  | .alignLock p skewPs => Sys2Proof.Machine.execAlignLock p skewPs s
  | .alignTimeout p => Sys2Proof.Machine.execAlignTimeout p s
  | .linkLoss p lane what => Sys2Proof.Machine.execLinkLoss p lane what s
  | .retryHoldExpiry p => Sys2Proof.Machine.execRetryHoldExpiry p s
  | .portDisable p => Sys2Proof.Machine.execPortDisable p s
  | .faultDeclare p remote => Sys2Proof.Machine.execFaultDeclare p remote s
  | .faultClear p => Sys2Proof.Machine.execFaultClear p s
  | .fecDegWindowEnd p corr uncorr syms => Sys2Proof.Machine.execFecDegWindowEnd p corr uncorr syms s
  | .bypassAlignLock n => Sys2Proof.Machine.execBypassAlignLock n s
  | .bypassAlignLoss n => Sys2Proof.Machine.execBypassAlignLoss n s
  | .highBer n => Sys2Proof.Machine.execHighBer n s
  | .recalTimer n => Sys2Proof.Machine.execRecalTimer n s
  | .recalThermal n temp => Sys2Proof.Machine.execRecalThermal n temp s
  | .calReq m n data => Sys2Proof.Machine.execCalReq m n data s
  | .recalDone n temp => Sys2Proof.Machine.execRecalDone n temp s
  | .laneTestWrite m n data => Sys2Proof.Machine.execLaneTestWrite m n data s
  | .eyeRefresh n h w => Sys2Proof.Machine.execEyeRefresh n h w s
  | .laneSubstStart p e => Sys2Proof.Machine.execLaneSubstStart p e s
  | .laneSubstPark p e => Sys2Proof.Machine.execLaneSubstPark p e s
  | .laneSubstResume p e => Sys2Proof.Machine.execLaneSubstResume p e s
  | .laneSubstCancel p e => Sys2Proof.Machine.execLaneSubstCancel p e s
  | .laneSubstStepDone n => Sys2Proof.Machine.execLaneSubstStepDone n s
  | .overheadReceive n hdr pos skewPs b => Sys2Proof.Machine.execOverheadReceive n hdr pos skewPs b s
  | .losDeclare n what => Sys2Proof.Machine.execLosDeclare n what s
  | .losClear n => Sys2Proof.Machine.execLosClear n s
  | .mapCycleReceived g => Sys2Proof.Machine.execMapCycleReceived g s
  | .switchTxFrame0 g ackSent => Sys2Proof.Machine.execSwitchTxFrame0 g ackSent s
  | .switchTimeout g => Sys2Proof.Machine.execSwitchTimeout g s
  | .pageSwitchStart p e => Sys2Proof.Machine.execPageSwitchStart p e s
  | .pageSwitchPark p e => Sys2Proof.Machine.execPageSwitchPark p e s
  | .pageSwitchResume p e => Sys2Proof.Machine.execPageSwitchResume p e s
  | .pageSwitchCancel p e => Sys2Proof.Machine.execPageSwitchCancel p e s
  | .cmDataWrite m g data => Sys2Proof.Machine.execCmDataWrite m g data s
  | .cmCopy m g data => Sys2Proof.Machine.execCmCopy m g data s
  | .osClientWrite m g c data => Sys2Proof.Machine.execOsClientWrite m g c data s
  | .rxCellTaken p b code => Sys2Proof.Machine.execRxCellTaken p b s code
  | .rxFrameEnd p code => Sys2Proof.Machine.execRxFrameEnd p code s
  | .pauseTimerExpiry p i => Sys2Proof.Machine.execPauseTimerExpiry p i s
  | .mmFragmentReceive p smd frag b final bad code => Sys2Proof.Machine.execMmFragmentReceive p smd frag b final bad s code
  | .frameDispatch p tx ecc => Sys2Proof.Machine.execFrameDispatch p tx ecc s
  | .nop i => Sys2Proof.Machine.execNop i s
  | .endFrame i => Sys2Proof.Machine.execEnd i s
  | .sync i => Sys2Proof.Machine.execSync i s
  | .cnt i => Sys2Proof.Machine.execCnt i s
  | .alu i => Sys2Proof.Machine.execAlu i s
  | .alui i => Sys2Proof.Machine.execAlui i s
  | .movw i => Sys2Proof.Machine.execMovw i s
  | .ext i => Sys2Proof.Machine.execExt i s
  | .ins i => Sys2Proof.Machine.execIns i s
  | .ld i => Sys2Proof.Machine.execLd i s
  | .st i => Sys2Proof.Machine.execSt i s
  | .br i => Sys2Proof.Machine.execBr i s
  | .brh i => Sys2Proof.Machine.execBrh i s
  | .bb i => Sys2Proof.Machine.execBb i s
  | .jmp i => Sys2Proof.Machine.execJmp i s
  | .call i => Sys2Proof.Machine.execCall i s
  | .ret i => Sys2Proof.Machine.execRet i s
  | .jmpr i => Sys2Proof.Machine.execJmpr i s
  | .lkp i => Sys2Proof.Machine.execLkp i s
  | .mtr i => Sys2Proof.Machine.execMtr i s
  | .hasha i => Sys2Proof.Machine.execHasha i s
  | .hashf i => Sys2Proof.Machine.execHashf i s
  | .csumIp4h i => Sys2Proof.Machine.execCsumIp4h i s
  | .csumIp4g i => Sys2Proof.Machine.execCsumIp4g i s
  | .csumL4 i => Sys2Proof.Machine.execCsumL4 i s
  | .lookupResult i r corr fatal => Sys2Proof.Machine.execLookupResult i r corr fatal s
  | .meterCharge i r => Sys2Proof.Machine.execMeterCharge i r s
  | .hashResult i r => Sys2Proof.Machine.execHashResult i r s
  | .contextTimeout i => Sys2Proof.Machine.execContextTimeout i s
  | .verdictTakeEffect p tx => Sys2Proof.Machine.execVerdictTakeEffect p tx s
  | .engineRateUpdate => Sys2Proof.Machine.execEngineRateUpdate s
  | .psDataWrite m data => Sys2Proof.Machine.execPsDataWrite m data s
  | .psSwitch m data => Sys2Proof.Machine.execPsSwitch m data s
  | .psDrained => Sys2Proof.Machine.execPsDrained s
  | .progUpdate p e => Sys2Proof.Machine.execProgUpdate p e s
  | .engineSubstRequest m cl data => Sys2Proof.Machine.execEngineSubstRequest m cl data s
  | .engineSubst p e => Sys2Proof.Machine.execEngineSubst p e s
  | .engineSubstDone cl => Sys2Proof.Machine.execEngineSubstDone cl s
  | .engineFault cl e => Sys2Proof.Machine.execEngineFault cl e s
  | .learnArbitrate corr fatal => Sys2Proof.Machine.execLearnArbitrate s corr fatal
  | .tableChangeApply corr fatal => Sys2Proof.Machine.execTableChangeApply s corr fatal
  | .holdDownExpiry key => Sys2Proof.Machine.execHoldDownExpiry key s
  | .ageStep corr fatal => Sys2Proof.Machine.execAgeStep s corr fatal
  | .rehashStep corr fatal => Sys2Proof.Machine.execRehashStep s corr fatal
  | .rehashFinish corr fatal => Sys2Proof.Machine.execRehashFinish s corr fatal
  | .rhStart m => Sys2Proof.Machine.execRhStart m s
  | .rhPark m => Sys2Proof.Machine.execRhPark m s
  | .rhResume m => Sys2Proof.Machine.execRhResume m s
  | .rhCancel m => Sys2Proof.Machine.execRhCancel m s
  | .tblRehashStart p e => Sys2Proof.Machine.execTblRehashStart p e s
  | .tblRehashPark p e => Sys2Proof.Machine.execTblRehashPark p e s
  | .tblRehashResume p e => Sys2Proof.Machine.execTblRehashResume p e s
  | .tblRehashCancel p e => Sys2Proof.Machine.execTblRehashCancel p e s
  | .tblInsert p e => Sys2Proof.Machine.execTblInsert p e s
  | .tblUpdate p e => Sys2Proof.Machine.execTblUpdate p e s
  | .tblDelete p e => Sys2Proof.Machine.execTblDelete p e s
  | .readKey k corr fatal => Sys2Proof.Machine.execReadKey k s corr fatal
  | .readLoc k corr fatal => Sys2Proof.Machine.execReadLoc k s corr fatal
  | .readNext k corr fatal => Sys2Proof.Machine.execReadNext k s corr fatal
  | .meterSet p e => Sys2Proof.Machine.execMeterSet p e s
  | .mtWrite m k fill => Sys2Proof.Machine.execMtWrite m k fill s
  | .mtRead m k => Sys2Proof.Machine.execMtRead m k s
  | .scanContinue kind id => Sys2Proof.Machine.execScanContinue kind id s
  | .creditScan c => Sys2Proof.Machine.execCreditScan c s
  | .cqPollTimer c => Sys2Proof.Machine.execCqPollTimer c s
  | .holdBudgetExpiry q f => Sys2Proof.Machine.execHoldBudgetExpiry q f s
  | .fenceComplete n => Sys2Proof.Machine.execFenceComplete n s
  | .abortSequenceDone q => Sys2Proof.Machine.execAbortSequenceDone q s
  | .sqCreate p e => Sys2Proof.Machine.execSqCreate p e s
  | .cqCreate p e => Sys2Proof.Machine.execCqCreate p e s
  | .sqDestroy p e => Sys2Proof.Machine.execSqDestroy p e s
  | .cqDestroy p e => Sys2Proof.Machine.execCqDestroy p e s
  | .sqReset p e => Sys2Proof.Machine.execSqReset p e s
  | .cqReset p e => Sys2Proof.Machine.execCqReset p e s
  | .silCreate p e => Sys2Proof.Machine.execSilCreate p e s
  | .silDestroy p e => Sys2Proof.Machine.execSilDestroy p e s
  | .cqBind p e => Sys2Proof.Machine.execCqBind p e s
  | .silBind p e => Sys2Proof.Machine.execSilBind p e s
  | .groupSet p e => Sys2Proof.Machine.execGroupSet p e s
  | .poolSet p e => Sys2Proof.Machine.execPoolSet p e s
  | .fence p e => Sys2Proof.Machine.execFence p e s
  | .shaperSet p e => Sys2Proof.Machine.execShaperSet p e s
  | .gateSet p e => Sys2Proof.Machine.execGateSet p e s
  | .dumpCfg p e => Sys2Proof.Machine.execDumpCfg p e s
  | .dumpNow p e => Sys2Proof.Machine.execDumpNow p e s
  | .cntPerm p e => Sys2Proof.Machine.execCntPerm p e s
  | .rateWin p e => Sys2Proof.Machine.execRateWin p e s
  | .pwrReq p e => Sys2Proof.Machine.execPwrReq p e s
  | .duoFailover p e => Sys2Proof.Machine.execDuoFailover p e s
  | .duoProtect p e => Sys2Proof.Machine.execDuoProtect p e s
  | .adminSqDoorbell m p => Sys2Proof.Machine.execAdminSqDoorbell m p s
  | .adminCqDoorbell m p => Sys2Proof.Machine.execAdminCqDoorbell m p s
  | .adminCommandStart p => Sys2Proof.Machine.execAdminCommandStart p s
  | .adminLongComplete p => Sys2Proof.Machine.execAdminLongComplete p s
  | .adminPairEnable m p data => Sys2Proof.Machine.execAdminPairEnable m p data s
  | .adminPairDrain m p data => Sys2Proof.Machine.execAdminPairDrain m p data s
  | .adminDrainDone p => Sys2Proof.Machine.execAdminDrainDone p s
  | .teDoorbell m n data => Sys2Proof.Machine.execTeDoorbell m n data s
  | .tePause m n => Sys2Proof.Machine.execTePause m n s
  | .teUnpause m n => Sys2Proof.Machine.execTeUnpause m n s
  | .teCancel m n pause => Sys2Proof.Machine.execTeCancel m n pause s
  | .teEnable m n data => Sys2Proof.Machine.execTeEnable m n data s
  | .teDisable m n data => Sys2Proof.Machine.execTeDisable m n data s
  | .teDrainEnd n => Sys2Proof.Machine.execTeDrainEnd n s
  | .chmapWrite m w data => Sys2Proof.Machine.execChmapWrite m w data s
  | .chmapTakeEffect n => Sys2Proof.Machine.execChmapTakeEffect n s
  | .schedulerSelection p => Sys2Proof.Machine.execSchedulerSelection p s
  | .bucketRefill level n => Sys2Proof.Machine.execBucketRefill level n s
  | .gateActivate p => Sys2Proof.Machine.execGateActivate p s
  | .nodeCapture m data => Sys2Proof.Machine.execNodeCapture m data s
  | .macFrameStart p => Sys2Proof.Machine.execMacFrameStart p s
  | .txUnderrun p => Sys2Proof.Machine.execTxUnderrun p s
  | .txFrameEnd p => Sys2Proof.Machine.execTxFrameEnd p s
  | .mpacketPreempt p d => Sys2Proof.Machine.execMpacketPreempt p d s
  | .flowControlFrameSend p => Sys2Proof.Machine.execFlowControlFrameSend p s
  | .fcRefresh p => Sys2Proof.Machine.execFcRefresh p s
  | .mmEnable p => Sys2Proof.Machine.execMmEnable p s
  | .mmRespondReceived p => Sys2Proof.Machine.execMmRespondReceived p s
  | .mmVerifyTimeout p => Sys2Proof.Machine.execMmVerifyTimeout p s
  | .evComplete m data => Sys2Proof.Machine.execEvComplete m data s
  | .privSourceEdge i => Sys2Proof.Machine.execPrivSourceEdge i s
  | .routeWrite m i data => Sys2Proof.Machine.execRouteWrite m i data s
  | .piccMapWrite m n data => Sys2Proof.Machine.execPiccMapWrite m n data s
  | .coalesceWindowEnd d => Sys2Proof.Machine.execCoalesceWindowEnd d s
  | .silArm m q => Sys2Proof.Machine.execSilArm m q s
  | .silScan m q => Sys2Proof.Machine.execSilScan m q s
  | .silCreditScan q => Sys2Proof.Machine.execSilCreditScan q s
  | .silPollTimer q => Sys2Proof.Machine.execSilPollTimer q s
  | .moderationExpiry q => Sys2Proof.Machine.execModerationExpiry q s
  | .tbFreqWrite m data => Sys2Proof.Machine.execTbFreqWrite m data s
  | .tbPhaseWrite m data => Sys2Proof.Machine.execTbPhaseWrite m data s
  | .slewDone => Sys2Proof.Machine.execSlewDone s
  | .tbTimeRead m => Sys2Proof.Machine.execTbTimeRead m s
  | .levelIntervalEnd => Sys2Proof.Machine.execLevelIntervalEnd s
  | .pcSelWrite m data => Sys2Proof.Machine.execPcSelWrite m data s
  | .counterRead m => Sys2Proof.Machine.execCounterRead m s
  | .counterWindowRead m f off => Sys2Proof.Machine.execCounterWindowRead m f off s
  | .dumpHeaderRead => Sys2Proof.Machine.execDumpHeaderRead s
  | .dumpLatch => Sys2Proof.Machine.execDumpLatch s
  | .dumpPark m => Sys2Proof.Machine.execDumpPark m s
  | .dumpResume m => Sys2Proof.Machine.execDumpResume m s
  | .dumpCancel m => Sys2Proof.Machine.execDumpCancel m s
  | .rateWindowEnd p tx => Sys2Proof.Machine.execRateWindowEnd p tx s
  | .rateSnapshot m data => Sys2Proof.Machine.execRateSnapshot m data s
  | .idleEntry c => Sys2Proof.Machine.execIdleEntry c s
  | .idleExit c => Sys2Proof.Machine.execIdleExit c s
  | .powerEntryPhaseDone c => Sys2Proof.Machine.execPowerEntryPhaseDone c s
  | .powerDrainEnd c => Sys2Proof.Machine.execPowerDrainEnd c s
  | .powerDrainTimeout c => Sys2Proof.Machine.execPowerDrainTimeout c s
  | .wakeTimer => Sys2Proof.Machine.execWakeTimer s
  | .wakeStepDone c => Sys2Proof.Machine.execWakeStepDone c s
  | .wakeStepTimeout c => Sys2Proof.Machine.execWakeStepTimeout c s
  | .chunkHashMatch k => Sys2Proof.Machine.execChunkHashMatch k s
  | .bootVerdict => Sys2Proof.Machine.execBootVerdict s
  | .confirm m => Sys2Proof.Machine.execConfirm m s
  | .release m => Sys2Proof.Machine.execRelease m s
  | .releaseTimeout => Sys2Proof.Machine.execReleaseTimeout s
  | .restart m => Sys2Proof.Machine.execRestart m s
  | .recovGo m k => Sys2Proof.Machine.execRecovGo m k s
  | .trialWatchdogExpiry => Sys2Proof.Machine.execTrialWatchdogExpiry s
  | .mpuViolation a acc => Sys2Proof.Machine.execMpuViolation s a acc
  | .fuseProg m word => Sys2Proof.Machine.execFuseProg m word s
  | .fuseProgDone readback => Sys2Proof.Machine.execFuseProgDone readback s
  | .debugUnlock m => Sys2Proof.Machine.execDebugUnlock m s
  | .wearMonitorRead is_ es ms => Sys2Proof.Machine.execWearMonitorRead is_ es ms s
  | .sramRepairDone i => Sys2Proof.Machine.execSramRepairDone i s
  | .entryRetire learn q i => Sys2Proof.Machine.execEntryRetire learn q i s
  | .hmpMoveTimeout => Sys2Proof.Machine.execHmpMoveTimeout s
  | .lmapWrite m w data => Sys2Proof.Machine.execLmapWrite m w data s
  | .repairApply m data => Sys2Proof.Machine.execRepairApply m data s
  | .repairRead m data => Sys2Proof.Machine.execRepairRead m data s
  | .counterJournal => Sys2Proof.Machine.execCounterJournal s
  | .leaseRenew => Sys2Proof.Machine.execLeaseRenew s
  | .leaseFenceTimeout => Sys2Proof.Machine.execLeaseFenceTimeout s
  | .leaseRead => Sys2Proof.Machine.execLeaseRead s
  | .heartbeatLossTrigger => Sys2Proof.Machine.execHeartbeatLossTrigger s
  | .fatalFault => Sys2Proof.Machine.execFatalFault s
  | .fenceWaitTimeout => Sys2Proof.Machine.execFenceWaitTimeout s
  | .takeover => Sys2Proof.Machine.execTakeover s
  | .cutover => Sys2Proof.Machine.execCutover s
  | .tbTodClkEdge b => Sys2Proof.Machine.execTbTodClkEdge b s
  | .ppsOutFall => Sys2Proof.Machine.execPpsOutFall s
  | .refclkLoss => Sys2Proof.Machine.execRefclkLoss s
  | .refclkReturn => Sys2Proof.Machine.execRefclkReturn s
  | .tapReset => Sys2Proof.Machine.execTapReset s
  | .dmpSilence => Sys2Proof.Machine.execDmpSilence s

end Sys2Proof.Machine
end

