-- ==== Sys2Proof/Machine/Step.lean ====
section
/-!
DEFINITION. One step: the command at the front of the queue, or, with no command waiting, one tick of the 1.6 GHz clock.
-/

namespace Sys2Proof.Machine

/-- A step takes the oldest command and carries it out with the rest of the queue waiting. On an empty queue the clock
ticks once: block time and the refill clock advance, and nothing else happens by itself. (DESIGN CHOICE: log entry 3.)
(DESIGN CHOICE: log entry 91.) -/
def step (s : State) : Host.Outcome State Fault Refusal :=
  match s.pending with
  | [] => .next (tick s)
  | c :: rest => exec c { s with pending := rest }

/-- The state with the command that a word spells in front of its queue; no word spells one. (DEDUCED: log entry 2.)
-/
def State.withFetchWord (s : State) (nbits w : Nat) : State :=
  match decodeTableWord nbits w with
  | some c => { s with pending := c :: s.pending }
  | none => s

end Sys2Proof.Machine
end

