-- ==== Sys2Proof/Safety.lean ====
section
/-!
DEFINITION. What a safe run keeps and what a command leaves, in the terms the statements use.
-/

namespace Sys2Proof.Machine

/-- READY, ALERT_N and FAST_IRQ show what the registers and the state of the block ask for (R43, R53, R405). -/
def PinsFollow (s : State) : Prop :=
  s.pins.ready = readyNow s ∧ s.pins.alertN = alertNow s ∧ s.pins.fastIrq = fastNow s

/-- The register file is in canonical form: addresses strictly rising, and no entry at its reset value. -/
abbrev Regs.wf (s : State) : Bool := rwf s.regs

/-- Registers that the end of a command may write: the flags of the event unit, of the counter unit and of the Duo unit, the
pending Piccolo bits, the last wrapped counter and the Duo status. -/
def settleRegs : List Nat :=
  [loc .EV_EVENT, loc .EV_PICC_PEND, loc .PC_EVENT, loc .PC_WRAP_LAST, loc .DU_STATUS, loc .DU_EVENT]

/-- `t` differs from `s` at most where the end of a command writes: reports and their records, accesses to host memory, what
queues and rings count of their writes, counters, the deficits of empty nodes, the Duo unit and the pins. -/
structure SettlesTo (s t : State) : Prop where
  regs : ∀ a, a ∉ settleRegs → rd a t = rd a s
  ctl : t.ctl = s.ctl
  tb : t.tb = s.tb
  adm : ∀ p, getPair p t = { getPair p s with
    armed := (getPair p t).armed, outWrites := (getPair p t).outWrites, outRecs := (getPair p t).outRecs }
  te : t.te = s.te
  prof : t.prof = s.prof
  phy : t.phy = s.phy
  os : t.os = s.os
  dp : t.dp = s.dp
  tab : t.tab = s.tab
  sc : t.sc = { s.sc with deficit := t.sc.deficit }
  isl : t.isl = s.isl
  pw : t.pw = s.pw
  boot : t.boot = s.boot
  sv : t.sv = s.sv
  free : t.free = s.free
  pending : t.pending = s.pending
  pins : t.pins = { s.pins with
    ready := t.pins.ready, everReady := t.pins.everReady, alertN := t.pins.alertN, fastIrq := t.pins.fastIrq
    fenced := t.pins.fenced }
  host : t.host = { s.host with
    nextId := t.host.nextId, reqs := t.host.reqs, arb := t.host.arb, tlb := t.host.tlb, xreqs := t.host.xreqs
    preqs := t.host.preqs }
  ev : t.ev = { s.ev with
    claims := t.ev.claims, windows := t.ev.windows, sils := t.ev.sils, rebinds := t.ev.rebinds, warmHold := t.ev.warmHold }
  pc : t.pc = { s.pc with val := t.pc.val, wrap := t.pc.wrap, held := t.pc.held }
  wq : t.wq = { s.wq with outs := t.wq.outs, nextOut := t.wq.nextOut, cqs := t.wq.cqs }
  cqs : ∀ c, getCq c t = { getCq c s with
    armed := (getCq c t).armed, outWrites := (getCq c t).outWrites, outRecs := (getCq c t).outRecs }
  du : t.du = { s.du with
    phase := t.du.phase, credits := t.du.credits, txq := t.du.txq, sent := t.du.sent, lastTx := t.du.lastTx }

/-- `t` is the block of `s` after everything in it has taken its reset value (R41, R42): every register but the random seeds
and the straps, and all other state but the fuse array, the levels of input pins, the commands waiting, the numbers of
requests and of free values, and the record of what the block has put out. -/
structure Cleared (s t : State) : Prop where
  regs : ∀ a, a ∉ [loc .ST_SEED_CUR 0 0, loc .ST_SEED_CUR 0 1, loc .GL_STRAP] → rd a t = (resetWord a).toNat
  rest : t = { State.reset with
    regs := t.regs, free := t.free, pending := s.pending
    pins := { Pins.reset with
      rstN := t.pins.rstN, warmN := s.pins.warmN, refclk := s.pins.refclk, collapsed := t.pins.collapsed
      targetIdle := s.pins.targetIdle, coldProfile := t.pins.coldProfile }
    ctl := { Ctl.reset with rsp := t.ctl.rsp }
    dp := { Dp.reset with out := s.dp.out }
    host := { HostSt.reset with nextId := s.host.nextId }
    boot := { Boot.reset with array := s.boot.array }
    du := { Du.reset with sent := s.du.sent, creditsOut := s.du.creditsOut } }

/-- Everything but the registers of a list is as it was. -/
def OnlyRegs (as : List Nat) (s t : State) : Prop :=
  t = { s with regs := t.regs } ∧ ∀ a, a ∉ as → rd a t = rd a s

/-- A write of `d` by master `m` to the page register at `a` finds no earlier request of its port waiting, passes the access
table, finds its island running and is not locked (R54, R86 to R98). -/
abbrev WriteOpen (m : Master) (a d : Nat) (s : State) : Prop :=
  ctlQueue m s = [] ∧ resetHolds a s = false ∧ romOff (a / 4096) (a % 4096) s = false ∧
    tableCheck m true (a / 4096) (a % 4096) d s = none ∧ gate m (a / 4096) (a % 4096) s = .go ∧
    locked (a / 4096) (a % 4096) d s = false

/-- A read by master `m` of the page register at `a` finds no earlier request of its port waiting, passes the access
table and finds its island running. -/
abbrev ReadOpen (m : Master) (a : Nat) (s : State) : Prop :=
  ctlQueue m s = [] ∧ resetHolds a s = false ∧ romOff (a / 4096) (a % 4096) s = false ∧
    tableCheck m false (a / 4096) (a % 4096) 0 s = none ∧ gate m (a / 4096) (a % 4096) s = .go

/-- The state after a write that has taken effect, leaving `t`: the write is journalled, the response is OK (R54, R95, R488),
and the state settles. -/
def written (m : Master) (a d : Nat) (t : State) : State := settle (respond m .ok true 0 (journalConfig a d t))

/-- The state after a write that is refused for `reason` with no effect on the register (R56, R87). -/
def refusedWrite (m : Master) (a reason : Nat) (s : State) : State :=
  settle (refusePage m true (a / 4096) (a % 4096) reason s)

/-- Command `c` is a write of `d` at `a` by `m` that, where it is open, takes effect and leaves `t`. -/
def Writes (c : Instr) (m : Master) (a d : Nat) (s t : State) : Prop :=
  WriteOpen m a d s → exec c s = .next (written m a d t)

/-- The state after a read that returns `v`. -/
def readBack (m : Master) (v : Nat) (t : State) : State := settle (respond m .ok false v t)

/-- The fetch of the next instruction of a context meets no error (R217). -/
abbrev CleanFetch (c : Ctx) : Prop := (c.issued, false) ∉ c.ecc ∧ (c.issued, true) ∉ c.ecc

/-- Context `i` is `c`, the word at its pc is of row `o` and reads without error, and the budget lets it issue (R197, R211). -/
abbrev MayIssue (o : Op) (i : Nat) (c : Ctx) (s : State) : Prop :=
  getCtx i s = some c ∧ opOf (fetch c s) = some o ∧ CleanFetch c ∧ c.issued < issueCap s

/-- A context past an instruction: one issue cycle is spent, and the pc has advanced modulo 4,096 (R197). -/
def past (c : Ctx) : Ctx := { c with issued := c.issued + 1, pc := (c.pc + 1) % 4096 }

/-- A register of a context, as bits. -/
def gReg (c : Ctx) (r : Nat) : BitVec 64 := c.g.getD r 0

/-- A context with a register changed. -/
def withReg (c : Ctx) (r : Nat) (v : BitVec 64) : Ctx := { c with g := c.g.set r v }

/-! ## Admin commands -/

/-- The 64 bytes of an admin entry. -/
def entryBytes (e : AdmEntry) : Bytes := bytesLE 64 e.raw.toNat

/-- Number that the next command of the pair of operand `p` takes. -/
def cmdNo (p : Nat) (s : State) : Nat := (getPair (pairOf p) s).nextCmd

/-- The state once the pair has accepted the entry (R287). -/
def takenCmd (p : Nat) (e : AdmEntry) (s : State) : State :=
  admAccept (pairOf p) (e.pos % 2 ^ admSqLog (pairOf p) s) (entryBytes e) s

/-- The state in which the accepted command runs. -/
def runningCmd (p : Nat) (e : AdmEntry) (s : State) : State :=
  setCmd (pairOf p)
    { newCmd (cmdNo p s) (e.pos % 2 ^ admSqLog (pairOf p) s) (entryBytes e) with phase := .running } (takenCmd p e s)

/-- An entry of opcode `op` and operation `sub` may be accepted and started: the pair is ACTIVE and has room, no command
of the pair has the number the new one takes, the block's role allows the entry, and no earlier command holds it (R287,
R288, R486). -/
structure Accepts (op sub p : Nat) (e : AdmEntry) (s : State) : Prop where
  active : admState (pairOf p) s = 1
  opcode : u (entryBytes e) 0 1 = op
  sub : parkOp (entryBytes e) = sub
  room : admRoom (pairOf p) s = true
  fresh : ∀ c, c ∈ (getPair (pairOf p) s).cmds → c.id ≠ cmdNo p s
  role : admStarts (entryBytes e) s = true
  turn : (nextStart (pairOf p) (takenCmd p e s)).any (fun c => c.id == cmdNo p s) = true

/-- Command `c` is accepted, its checks answer `st`, and the state that follows is `t` (R288, R289). -/
def Starts (c : Instr) (op sub p : Nat) (e : AdmEntry) (st : Nat) (s t : State) : Prop :=
  Accepts op sub p e s → startCheck (pairOf p) (entryBytes e) (takenCmd p e s) = st →
    exec c s = .next (settle (flushFinished (pairOf p) t))

/-- Command `c` is accepted, passes its checks, and leaves `t`. -/
def Runs (c : Instr) (op sub p : Nat) (e : AdmEntry) (s t : State) : Prop := Starts c op sub p e St.ok s t

/-- The command of `s` finishes with OK in `t`. -/
def okCmd (p : Nat) (s t : State) : State := finishCmd (pairOf p) (cmdNo p s) St.ok 0 0 t

/-- Every admin command: its opcode, the operation where it is parkable, and its constructor (R297). -/
def admRows : List (Nat × Nat × (Nat → AdmEntry → Instr)) :=
  [(0x01, 0, .sqCreate), (0x02, 0, .cqCreate), (0x03, 0, .sqDestroy), (0x04, 0, .cqDestroy), (0x05, 0, .sqReset),
   (0x06, 0, .cqReset), (0x07, 0, .silCreate), (0x08, 0, .silDestroy), (0x09, 0, .cqBind), (0x0A, 0, .silBind),
   (0x0B, 0, .groupSet), (0x0C, 0, .poolSet), (0x0F, 0, .fence), (0x10, 0, .tblInsert), (0x11, 0, .tblUpdate),
   (0x12, 0, .tblDelete), (0x13, 0, .tblRehashStart), (0x13, 1, .tblRehashPark), (0x13, 2, .tblRehashResume),
   (0x13, 3, .tblRehashCancel), (0x14, 0, .meterSet), (0x20, 0, .shaperSet), (0x21, 0, .gateSet),
   (0x30, 0, .pageSwitchStart), (0x30, 1, .pageSwitchPark), (0x30, 2, .pageSwitchResume), (0x30, 3, .pageSwitchCancel),
   (0x31, 0, .laneSubstStart), (0x31, 1, .laneSubstPark), (0x31, 2, .laneSubstResume), (0x31, 3, .laneSubstCancel),
   (0x32, 0, .engineSubst), (0x33, 0, .progUpdate), (0x34, 0, .loadProfile), (0x40, 0, .dumpCfg), (0x41, 0, .dumpNow),
   (0x42, 0, .cntPerm), (0x43, 0, .rateWin), (0x50, 0, .pwrReq), (0x60, 0, .duoFailover), (0x61, 0, .duoProtect)]

end Sys2Proof.Machine
end

