-- ==== Sys2Proof/Certificates/Slice0/Obligations.lean ====
section
/-!
DEFINITION. The statements for the provers: what each command does where it takes effect, what every step keeps, and where
commands are refused. `settle` is what the end of every command does (`Obligations.SettleFrame`); a statement that a command
answers `settle e` says everything the command does, `e` being its own effect.
-/

open Sys2Proof Sys2Proof.Machine

/-! ## The step -/

/-- A step takes the command at the front of the queue and carries it out with the queue's rest. -/
def Obligations.StepRunsFrontCommand : Prop :=
  ∀ (c : Instr) (q : List Instr) (s : State), s.pending = c :: q → step s = exec c { s with pending := q }

/-- With no command waiting a step is one tick of the clock (the model's choice, log entry 3): it changes block time and nothing
else, and not even that in cold reset or with the core in OFF. Otherwise, with no slew in progress, the refill clock advances by
one tick, and block time by as much; the tick is 0.625 ns, or 6.4 ns while the core is in SLEEP or DEEP, where TB_FREQ is 0 (R406,
R409, R411). A slew adds its part of a tick to both and is less by it (R408). -/
def Obligations.StepTicksWhenIdle : Prop :=
  (∀ s : State, s.pending = [] → ∃ t, step s = .next t ∧ t = { s with tb := t.tb } ∧
    (timeRuns s = false → t.tb = s.tb) ∧
    (timeRuns s = true → s.tb.slew = 0 →
      t.tb.refill * tickDen + t.tb.rem = s.tb.refill * tickDen + s.tb.rem + tickNum s ∧
      t.tb.time = (s.tb.time + (t.tb.refill - s.tb.refill)) % timeMod ∧ t.tb.slew = 0)) ∧
  (∀ (part : Int) (s : State), s.pending = [] → timeRuns s = true →
    part = min (slewPart s : Int) s.tb.slew.natAbs * s.tb.slew.sign → 0 ≤ (tickNum s : Int) + part →
    ∃ t, step s = .next t ∧ t.tb.slew = s.tb.slew - part ∧
      (t.tb.refill * tickDen + t.tb.rem : Int) = s.tb.refill * tickDen + s.tb.rem + tickNum s + part) ∧
  (∀ s : State, rd (loc .TB_FREQ) s = 0 → coreAsleep s = false → 8 * tickNum s = 5 * 2 ^ 48 * tickDen) ∧
  (∀ s : State, rd (loc .TB_FREQ) s = 0 → coreAsleep s = true → 5 * tickNum s = 32 * 2 ^ 48 * tickDen)

/-- The end of a command changes reports and their records, accesses to host memory, counters, the Duo unit and the pins, and
six registers; nothing else. What the end of a command is, is the model's choice (log entry 6). -/
def Obligations.SettleFrame : Prop := ∀ s : State, SettlesTo s (settle s)

/-- After the end of a command the pins follow the state. At reset READY is 0, ALERT_N 1 and FAST_IRQ 0, and they follow the
state. That State.reset is the block with RST_N low is log entry 1. -/
def Obligations.PinsAfterSettleAndReset : Prop :=
  (∀ s : State, PinsFollow (settle s)) ∧
  (PinsFollow State.reset ∧ State.reset.pins.ready = false ∧ State.reset.pins.alertN = true ∧
    State.reset.pins.fastIrq = 0 ∧ State.reset.pending = [])

/-- READY, ALERT_N and FAST_IRQ follow the state (R43, R53, R405), and every step keeps it so. -/
def Obligations.StepKeepsPins : Prop := ∀ s t : State, PinsFollow s → step s = .next t → PinsFollow t

/-- Every step completes, and every command answers a next state in every state: no command is refused and none faults.
That no command faults is log entry 93. -/
def Obligations.EveryStepCompletes : Prop :=
  (∀ s : State, ∃ t, step s = .next t) ∧
  (∀ (c : Instr) (s : State), ∃ t, exec c s = .next t)

/-! ## Supplies, resets and board signals (R39 to R51, R81, R107, R463) -/

/-- SUPPLY_COLLAPSE and COLD_RESET_ASSERT put every register but the random seeds and the straps at its reset value, and all other
state but the fuse array, what comes from outside and what has been put out (R41, R42). What a cold reset keeps is log entry 13. -/
def Obligations.ColdResetClears : Prop :=
  (∀ s : State, s.pins.collapsed = false → ∃ t, exec .supplyCollapse s = .next t ∧ t.pins.collapsed = true ∧
    t.pins.rstN = s.pins.rstN ∧ Cleared s t) ∧
  (∀ s : State, s.pins.rstN = true → ∃ t, exec .coldResetAssert s = .next t ∧ t.pins.rstN = false ∧
    t.pins.collapsed = s.pins.collapsed ∧ Cleared s t)

/-- SUPPLY_WARNING raises the power-fail warning source and its alert cause. COLD_RESET_RELEASE latches the straps and brings
AON to RUN; DUO_ROLE 0b11 gives the SINGLE role with the STRAP alert (R49). SUPPLY_RECOVER with RST_N high begins a cold reset
with the straps latched before (the model's choice, log entry 13). FUSE_SHADOW_LOAD sets in the fuse array the bits that its
operand names, and the shadow shows the array. WARM_RESET_ASSERT empties queues, rings, channels, frames and the table, and
keeps the boot state and block time (the model's choice, log entry 17). WARM_RESET_RELEASE, once a verdict has passed, reloads
bank 0 and applies the cold reset's profile; without one the pin alone rises. PROFILE_APPLY applies the profile once a verdict
has passed and the release is due, and does nothing before (the model's choice, log entry 14). -/
def Obligations.ResetsAndProfile : Prop :=
  (∀ s : State, coldHeld s = false →
    exec .supplyWarning s = .next (settle (alert F.GL_ALERT_PWR_WARN (privEdge 7 s)))) ∧
  (∀ (prof duo : Nat) (s : State), s.pins.rstN = false → s.pins.collapsed = false → prof < 4 → duo < 3 →
    exec (.coldResetRelease prof duo) s = .next (settle (showRole
      (fs (loc .GL_STRAP) F.GL_STRAP_DUO_ROLE duo (fs (loc .GL_STRAP) F.GL_STRAP_PROFILE_SEL prof
        (setIsl 0 { isl 0 s with st := .run, target := .run, entering := false, waking := false }
          { s with pins := { s.pins with rstN := true, coldStep := 1, coldProfile := prof }
                   du := { s.du with leftReset := s.tb.refill } })))))) ∧
  (∀ (prof : Nat) (s : State), s.pins.rstN = false → s.pins.collapsed = false → prof < 4 →
    ∃ t, exec (.coldResetRelease prof 3) s = .next t ∧ fg (loc .GL_STRAP) F.GL_STRAP_DUO_ROLE t = 3 ∧
      fg (loc .GL_STRAP) F.GL_STRAP_PROFILE_SEL t = prof ∧ fb (loc .GL_ALERT) F.GL_ALERT_STRAP t = true ∧ duRole t = 0 ∧
      (isl 0 t).st = .run) ∧
  (∀ s : State, s.pins.collapsed = true → s.pins.rstN = true →
    exec .supplyRecover s = .next (settle (coldBegin s.pins.coldProfile (fg (loc .GL_STRAP) F.GL_STRAP_DUO_ROLE s)
      { s with pins := { s.pins with collapsed := false } }))) ∧
  (∀ (words : List (Nat × Nat)) (s : State), s.pins.coldStep = 1 → ∃ t, exec (.fuseShadowLoad words) s = .next t ∧
    t.boot.array = words.foldl (fun m e => blow m (e.1 % 2048) (e.2 % 2 ^ 32)) s.boot.array ∧ t.boot.fuse = t.boot.array ∧
    t.dp = s.dp ∧ t.wq.sqs = s.wq.sqs ∧ t.tab = s.tab) ∧
  (∀ s : State, s.pins.warmN = true → coldHeld s = false →
    ∃ e, exec .warmResetAssert s = .next (settle e) ∧ e.pins.warmN = false ∧ e.pins.profileApplied = false ∧
      e.wq.sqs = [] ∧ e.wq.cqs = [] ∧ e.adm = [] ∧ e.te = [] ∧ e.dp.frames = [] ∧ e.tab.ways = [] ∧ e.tab.learnQ = [] ∧
      e.tab.holds = [] ∧ e.boot = s.boot ∧ e.tb = s.tb) ∧
  (∀ s : State, s.pins.warmN = false → coldHeld s = false → s.pins.verdict = true →
    exec .warmResetRelease s = .next (settle (applyStrap (loadBank0 (putIslands digitalIslands .run
      { s with pins := { s.pins with warmN := true }, du := { s.du with leftReset := s.tb.refill } }))))) ∧
  (∀ s : State, s.pins.warmN = false → s.pins.verdict = false →
    exec .warmResetRelease s =
      .next (settle { s with pins := { s.pins with warmN := true }, du := { s.du with leftReset := s.tb.refill } })) ∧
  (∀ s : State, inReset s = false → s.pins.verdict = true → s.pins.profileApplied = false → releaseDue s = true →
    exec .profileApply s = .next (settle (applyStrap (keepBank0 s)))) ∧
  (∀ s : State, s.pins.verdict = false ∨ releaseDue s = false → exec .profileApply s = .next (settle s))

/-- REFCLK_LOSS takes the lanes' clocks; REFCLK_RETURN brings REFCLK back, and what waited at a crossing passes (R21, R39).
PRESENCE_DEBOUNCED sets the presence level, and its rise raises the presence source (R51). TAP_INSTRUCTION selects BYPASS for code
0 and, until the debug unlock, for every code from 4 on, and IDCODE puts its value at the port; TAP_RESET takes these back (R81).
What a lane loses without REFCLK, and what TAP_RESET selects, are the model's choices (log entries 14 and 83). -/
def Obligations.BoardSignals : Prop :=
  (∀ s : State, s.pins.refclk = true → inReset s = false →
    exec .refclkLoss s = .next (settle (lanesUnclocked { s with pins := { s.pins with refclk := false } }))) ∧
  (∀ s : State, exec .refclkReturn s = .next (settle (passHeld { s with pins := { s.pins with refclk := true } }))) ∧
  (∀ s : State, coldHeld s = false → presence s = false →
    exec (.presenceDebounced true) s =
      .next (settle (privEdge 0 (fs (loc .GL_STRAP) F.GL_STRAP_PRESENCE 1 s)))) ∧
  (∀ s : State, coldHeld s = false →
    exec (.presenceDebounced false) s = .next (settle (fs (loc .GL_STRAP) F.GL_STRAP_PRESENCE 0 s))) ∧
  (∀ (code : Nat) (s : State), exec (.tapInstruction code) s = .next (settle { s with
    pins := { s.pins with
      tapIr := code
      tapBypass := decide (code = 0) || (decide (4 ≤ code) && !fb (loc .BT_DEBUG) F.BT_DEBUG_UNLOCKED s)
      tapId := if code = 1 then some (idcode s) else none } })) ∧
  (∀ s : State, exec .tapReset s = .next (settle { s with
    pins := { s.pins with tapIr := 0, tapBypass := true, tapId := none } }))

/-- While RST_N is low, and while WARM_RST_N is low for every address outside the GL and BT pages, a read of a page header
answers its reset value and every other access answers OFF with no effect; doorbells, invalidations and what arrives on DMP
are ignored (R42, R46). That such an access is recorded while only WARM_RST_N is low is log entry 17. -/
def Obligations.PortsInReset : Prop :=
  (∀ (a : Nat) (s : State), coldHeld s = true → resetHolds a s = true) ∧
  (∀ (a : Nat) (s : State), s.pins.warmN = false → 0x2000 ≤ a → resetHolds a s = true) ∧
  (∀ (m : Master) (a : BitVec 26) (d : W32) (s : State), coldHeld s = true → ctlQueue m s = [] →
    exec (.registerWrite m a d) s = .next (settle (respond m .off true 0 s))) ∧
  (∀ (m : Master) (a : BitVec 26) (d : W32) (pg off : Nat) (s : State), coldHeld s = false → s.pins.warmN = false →
    ctlQueue m s = [] → 0x2000 ≤ a.toNat → region a.toNat = .page pg off →
    exec (.registerWrite m a d) s = .next (settle (answerOff m true pg off s))) ∧
  (∀ (m : Master) (a : BitVec 26) (d : W32) (pg off : Nat) (s : State), resetHolds a.toNat s = true → ctlQueue m s = [] →
    a.toNat % 4 = 0 → region a.toNat = .page pg off → off < 0x80 →
    exec (.controlRequestAccept m false a d) s =
      .next (settle (respond m .ok false (resetWord (pg * 4096 + off)).toNat s))) ∧
  (∀ (m : Master) (a : BitVec 26) (d : W32) (pg off : Nat) (s : State), coldHeld s = true → ctlQueue m s = [] →
    region a.toNat = .page pg off → 0x80 ≤ off →
    exec (.controlRequestAccept m false a d) s = .next (settle (respond m .off false 0 s))) ∧
  (∀ (f a : Nat) (s : State), inReset s = true → exec (.doorbell f a) s = .next (settle s)) ∧
  (∀ (f page size : Nat) (s : State), inReset s = true → exec (.trpInvalidation f page size) s = .next (settle s)) ∧
  (∀ (f : Flit) (bad : Bool) (s : State), inReset s = true → exec (.dmpFlitReceive f bad) s = .next (settle s)) ∧
  (∀ (ack : W32) (s : State), inReset s = true → exec (.dmpCredit ack) s = .next (settle s)) ∧
  (∀ (m : Master) (a : BitVec 26) (d : W32) (pg off : Nat) (s : State), coldHeld s = false → s.pins.warmN = false →
    ctlQueue m s = [] → 0x2000 ≤ a.toNat → region a.toNat = .page pg off → 0x80 ≤ off →
    exec (.controlRequestAccept m false a d) s = .next (settle (answerOff m false pg off s)))

/-! ## Block time, counters and dumps (R77, R387, R406 to R430) -/

/-- The pulse-per-second input captures block time, the output pulse raises its source and drives the pin where PPS_OUT_EN is
set, and falls; a bit of the time of day is shifted in; the reference's phase, its loss and a missing pulse are shown (R77,
R387, R410). A slew that has absorbed its amount ends with ADJ_DONE; before that SLEW_DONE does nothing (R408, R409). Block
time in commands is the model's choice, log entries 3 and 73. A PPS_IN edge with TOD_ARM set loads the staged time of day,
clears TOD_ARM and sets TOD_LOADED (R410). TB_FREQ is stored whole (R407). A write of TB_PHASE in MODE 0 moves block time by
its amount and sets ADJ_DONE: R408 gives a step to the next tick, and the model moves block time at the command (its choice,
log entry 3). With MODE 1 it starts a slew of the amount (R408). A read of TB_TIME0 takes a snapshot of block time (R412). -/
def Obligations.BlockTime : Prop :=
  (∀ s : State, inReset s = false → fb (loc .TB_CFG) F.TB_CFG_TOD_ARM s = false →
    exec .ppsInEdge s =
      .next (settle (setFlag (loc .TB_EVENT) F.TB_EVENT_PPS_IN (putTime .TB_PPS_CAP (time96 s.tb.time) s)))) ∧
  (∀ s : State, inReset s = false → exec .ppsOutPulse s = .next (settle (privEdge 4
    { s with pins := { s.pins with ppsOut := s.pins.ppsOut || fb (loc .TB_CFG) F.TB_CFG_PPS_OUT_EN s } }))) ∧
  (∀ s : State, exec .ppsOutFall s = .next (settle { s with pins := { s.pins with ppsOut := false } })) ∧
  (∀ (b : Bool) (s : State), inReset s = false → exec (.tbTodClkEdge b) s = .next (settle (putTime .TB_TOD_STAGE
    ((2 * s.tb.tod + b2n b) % 2 ^ 96) { s with tb := { s.tb with tod := (2 * s.tb.tod + b2n b) % 2 ^ 96 } }))) ∧
  (∀ (v : Nat) (s : State), fg (loc .TB_CFG) F.TB_CFG_REF_SEL s ∈ [1, 2] →
    exec (.refPhaseSample v) s = .next (settle (wr (loc .TB_REF_PHASE) v s))) ∧
  (∀ s : State, fg (loc .TB_CFG) F.TB_CFG_REF_SEL s ≠ 0 →
    exec .refLoss s = .next (settle (setFlag (loc .TB_EVENT) F.TB_EVENT_REF_LOSS s))) ∧
  (∀ s : State, fb (loc .TB_CFG) F.TB_CFG_TOD_ARM s = true →
    exec .ppsMissing s = .next (settle (setFlag (loc .TB_EVENT) F.TB_EVENT_PPS_MISSING s))) ∧
  (∀ s : State, fb (loc .TB_ADJ) F.TB_ADJ_BUSY s = true → s.tb.slew = 0 →
    exec .slewDone s = .next (settle (setFlag (loc .TB_EVENT) F.TB_EVENT_ADJ_DONE (fs (loc .TB_ADJ) F.TB_ADJ_BUSY 0 s)))) ∧
  (∀ s : State, s.tb.slew ≠ 0 → exec .slewDone s = .next (settle s)) ∧
  (∀ s : State, inReset s = false → fb (loc .TB_CFG) F.TB_CFG_TOD_ARM s = true →
    ∃ t, exec .ppsInEdge s = .next t ∧ t.tb = { s.tb with time := fromTime96 s.tb.tod } ∧
      fb (loc .TB_CFG) F.TB_CFG_TOD_ARM t = false ∧ fb (loc .TB_EVENT) F.TB_EVENT_TOD_LOADED t = true ∧
      fb (loc .TB_EVENT) F.TB_EVENT_PPS_IN t = true) ∧
  (∀ (m : Master) (d : W32) (s : State),
    Writes (.tbFreqWrite m d) m (loc .TB_FREQ) d.toNat s (wr (loc .TB_FREQ) d.toNat s)) ∧
  (∀ (m : Master) (d : W32) (s : State), fb (loc .TB_ADJ) F.TB_ADJ_BUSY s = false → fg (loc .TB_ADJ) F.TB_ADJ_MODE s = 0 →
    d ≠ 0 →
    Writes (.tbPhaseWrite m d) m (loc .TB_PHASE) d.toNat s (dumpStep (setFlag (loc .TB_EVENT) F.TB_EVENT_ADJ_DONE
      { s with tb := { s.tb with time := moveTime s.tb.time (d.toInt * 2 ^ 40) } }))) ∧
  (∀ (m : Master) (d : W32) (s : State), fb (loc .TB_ADJ) F.TB_ADJ_BUSY s = false → fg (loc .TB_ADJ) F.TB_ADJ_MODE s = 1 →
    d ≠ 0 →
    Writes (.tbPhaseWrite m d) m (loc .TB_PHASE) d.toNat s
      (fs (loc .TB_ADJ) F.TB_ADJ_BUSY 1 { s with tb := { s.tb with slew := d.toInt * 2 ^ 40 * tickDen } })) ∧
  (∀ (m : Master) (s : State), ReadOpen m (loc .TB_TIME) s →
    exec (.tbTimeRead m) s = .next (readBack m (time96 s.tb.time / 2 ^ 16 % 2 ^ 32)
      { s with tb := { s.tb with snap := time96 s.tb.time } }))

/-- LEVEL_INTERVAL_END adds 1 to each level-mode counter whose condition held in the interval. A write of PC_SEL selects a counter; where
it changes the counter's LEVEL, the counter and its WRAP bit become 0 and no other counter changes (R414). A read of PC_VAL_LO and of
an even word of a function's window returns the low half of a counter, or of block time, and leaves the high half in the master's
shadow; an odd word returns the shadow; without READ of CNT_PERM a window read returns 0 and is noted (R419, R428). A byte-rate
window that ends passes its sum to LAST, MIN and MAX, and a write of PC_RATE_SEL copies the state selected (R429, R430). -/
def Obligations.CountersAndRates : Prop :=
  (∀ s : State, exec .levelIntervalEnd s = .next (settle (forEach
    (s.pc.level.filter (fun i => s.pc.held.contains i || levelHolds i s)) (fun i t => bumpBy i 1 t)
    { s with pc := { s.pc with held := s.pc.level.filter (fun i => levelHolds i s) } }))) ∧
  (∀ (m : Master) (d : W32) (s : State), isEL (d.toNat % 2 ^ 14) = false →
    Writes (.pcSelWrite m d) m (loc .PC_SEL) d.toNat s (wr (loc .PC_SEL) (d.toNat % 2 ^ 14) s)) ∧
  (∀ (m : Master) (d : W32) (s : State), isEL (d.toNat % 2 ^ 14) = true → s.pc.level.contains (d.toNat % 2 ^ 14) = bit d.toNat 31 →
    Writes (.pcSelWrite m d) m (loc .PC_SEL) d.toNat s
      (wr (loc .PC_SEL) (b2n (bit d.toNat 31) * 2 ^ 31 + d.toNat % 2 ^ 14) s)) ∧
  (∀ (m : Master) (d : W32) (i : Nat) (s : State), i = d.toNat % 2 ^ 14 → isEL i = true → s.pc.level.contains i ≠ bit d.toNat 31 →
    WriteOpen m (loc .PC_SEL) d.toNat s →
    ∃ e, exec (.pcSelWrite m d) s = .next (written m (loc .PC_SEL) d.toNat e) ∧ sget 0 e.pc.val i = 0 ∧ i ∉ e.pc.wrap ∧
      e.pc.level.contains i = bit d.toNat 31 ∧
      (∀ j, j ≠ i → sget 0 e.pc.val j = sget 0 s.pc.val j ∧ (j ∈ e.pc.level ↔ j ∈ s.pc.level)) ∧
      rd (loc .PC_SEL) e = b2n (bit d.toNat 31) * 2 ^ 31 + i) ∧
  (∀ (m : Master) (s : State), ReadOpen m (loc .PC_VAL_LO) s →
    exec (.counterRead m) s = .next (readBack m (counterWord (fg (loc .PC_SEL) F.PC_SEL_INDEX s) s % 2 ^ 32)
      (setShadow m (counterWord (fg (loc .PC_SEL) F.PC_SEL_INDEX s) s / 2 ^ 32) s))) ∧
  (∀ (m : Master) (f w : Nat) (s : State), f < 4096 → w < 256 → ctlQueue m s = [] → inReset s = false →
    winRight F.GL_WINACL_CW_RD m s = true → gate m 5 0x80 s = .go → s.pc.cntPerm.contains f = true →
    exec (.counterWindowRead m f (8 * w)) s = .next (readBack m (windowWord f w s % 2 ^ 32)
      (setShadow m (windowWord f w s / 2 ^ 32) s)) ∧
    exec (.counterWindowRead m f (8 * w + 4)) s = .next (readBack m (getShadow m s) s)) ∧
  (∀ (m : Master) (f w : Nat) (s : State), f < 4096 → w < 512 → ctlQueue m s = [] → inReset s = false →
    winRight F.GL_WINACL_CW_RD m s = true → gate m 5 0x80 s = .go → s.pc.cntPerm.contains f = false →
    exec (.counterWindowRead m f (4 * w)) s = .next (readBack m 0 (setFlag (loc .PC_EVENT) F.PC_EVENT_WIN_DENY
      (wr (loc .PC_WIN_DENY) (4 * w * 2 ^ 12 + f) (bumpBy 0x33C2 1 s))))) ∧
  (∀ (p : Nat) (tx : Bool) (s : State), p < 64 → inReset s = false → (getRate (2 * p + b2n tx) s).newWindow = 0 →
    exec (.rateWindowEnd p tx) s = .next (settle (setRate (2 * p + b2n tx)
      { getRate (2 * p + b2n tx) s with
        last := (getRate (2 * p + b2n tx) s).sum % 2 ^ 48
        min := min (getRate (2 * p + b2n tx) s).min (getRate (2 * p + b2n tx) s).sum
        max := max (getRate (2 * p + b2n tx) s).max (getRate (2 * p + b2n tx) s).sum
        windows := min 4095 ((getRate (2 * p + b2n tx) s).windows + 1)
        sum := 0 } s))) ∧
  (∀ (m : Master) (d : W32) (s : State),
    Writes (.rateSnapshot m d) m (loc .PC_RATE_SEL) d.toNat s (writeRateSel d.toNat s))

/-- With a ring named, no dump in progress, the core in RUN and the role not STANDBY, DUMP_HEADER_READ issues the read of the header of
the next slot (R421, R422). DUMP_LATCH copies every counter with its WRAP bit, and the first record is written (R424). PARK holds a
dump that writes, RESUME lets one held by PARK go on, and CANCEL ends one that writes with ABORTED (R426). -/
def Obligations.CounterDumps : Prop :=
  (∀ s : State, s.pc.dump.enable = true → s.pc.dump.phase = .idle → (isl 2 s).st = .run → duRole s ≠ 2 →
    exec .dumpHeaderRead s = .next (settle (ownRead 44 s.pc.dump.func
      (s.pc.dump.base + s.pc.dump.slot * 0x21000 + 0x20000) .dumpHdrRead
      (setDump { s.pc.dump with phase := .header, kind := 0, latchT := s.pc.dump.nextT, stepped := false } s)))) ∧
  (∀ s : State, s.pc.dump.phase = .latchPending →
    exec .dumpLatch s = .next (settle (dumpWrite (dumpTake s.pc.dump.latchT false s)))) ∧
  (∀ s : State, s.pc.dump.phase = .latchPending → ∃ t, exec .dumpLatch s = .next t ∧
    ∀ i, sget 0 t.pc.dump.shadow i = sget 0 s.pc.val i + b2n (s.pc.wrap.contains i) * 2 ^ 48) ∧
  (∀ (m : Master) (s : State), s.pc.dump.phase = .writing → s.pc.dump.parkPark = false → s.pc.dump.status = 0 →
    Writes (.dumpPark m) m (loc .PC_DUMP_CTRL) (2 ^ 31) s (setDump { s.pc.dump with parkPark := true } s)) ∧
  (∀ (m : Master) (s : State), s.pc.dump.phase = .parked → s.pc.dump.parkPark = true →
    Writes (.dumpResume m) m (loc .PC_DUMP_CTRL) (2 ^ 30) s (dumpNext (setDump { s.pc.dump with parkPark := false } s))) ∧
  (∀ (m : Master) (s : State), s.pc.dump.phase = .writing → s.pc.dump.status = 0 → s.pc.dump.parkFault = false →
    Writes (.dumpCancel m) m (loc .PC_DUMP_CTRL) (2 ^ 29) s (dumpNext (setDump { s.pc.dump with status := St.aborted } s)))

/-! ## Power (R431 to R444) -/

/-- IDLE_ENTRY takes an island that may idle, is in RUN with nothing to do and is not held there by PWR_HELD to IDLE, and
leaves one that is held or has something to do; IDLE_EXIT takes it back to RUN, where doorbells recorded for the queue
contexts are rung and what waited at a crossing passes (R434). In block SLEEP and DEEP, where no block sequence runs, the wake
timer, if it is set and enabled, and WAKE_IN, if enabled, start a wake of the islands that the block state put down, with that
source; in OFF WAKE_IN starts the cold sequence (R439 to R441). A phase of an entry that ends starts the next, and the last
ends the entry; phase 6 waits until the outputs are visible, and a repair in an island that goes down is waited for (R36,
R437, R477). A wake that falls back runs phases 6 and 7 and then stands again in the state it left, with WAKE_FAIL. A drain
that ends starts the next phase, in a block entry after the PWR_REQ has completed; one that times out undoes the entry with
its cause (R437). A wake step that ends starts the next, and the last ends the wake; step 3 waits for REFCLK; a reported step
that times out is repeated once, and then the wake falls back (R442, R443). The order of the phases is log entry 76. -/
def Obligations.PowerStates : Prop :=
  (∀ (c : Nat) (s : State), idlesIsl c = true → (isl c s).st = .run → (isl c s).entering = false → (isl c s).waking = false →
    fb (loc .PW_CFG) F.PW_CFG_PWR_HELD s = false → quiet c s = true →
    exec (.idleEntry c) s = .next (settle (setIsl c { isl c s with st := .idle } s))) ∧
  (∀ (c : Nat) (s : State), fb (loc .PW_CFG) F.PW_CFG_PWR_HELD s = true ∨ quiet c s = false →
    exec (.idleEntry c) s = .next (settle s)) ∧
  (∀ (c : Nat) (s : State), (isl c s).st = .idle → c ≠ 4 →
    exec (.idleExit c) s = .next (settle (passHeld (setIsl c { isl c s with st := .run } s)))) ∧
  (∀ s : State, (isl 4 s).st = .idle →
    exec (.idleExit 4) s = .next (settle (passHeld (ringBells (setIsl 4 { isl 4 s with st := .run } s))))) ∧
  (∀ s : State, fb (loc .PW_CFG) F.PW_CFG_TIMER_WAKE s = true → rd (loc .PW_WAKE_TIMER) s ≠ 0 → blockState s ∈ [2, 3] →
    seqOf wholeBlock s = none →
    ∃ q t, exec .wakeTimer s = .next t ∧ seqOf wholeBlock t = some q ∧ q.wake = true ∧ q.sources = 2 ^ 4 ∧ q.source = 5 ∧
      ∀ c, c ∈ s.pw.blockDown → c ∈ q.members) ∧
  (∀ s : State, coldHeld s = false → blockState s ∈ [2, 3] → fb (loc .PW_CFG) F.PW_CFG_WAKE_IN_EN s = true →
    seqOf wholeBlock s = none →
    ∃ q t, exec .wakeInWake s = .next t ∧ seqOf wholeBlock t = some q ∧ q.wake = true ∧ q.sources = 2 ^ 0 ∧ q.source = 1 ∧
      ∀ c, c ∈ s.pw.blockDown → c ∈ q.members) ∧
  (∀ s : State, coldHeld s = false → blockState s = 4 → s.pins.coldStep = 0 → seqOf wholeBlock s = none →
    ∃ q t, exec .wakeInWake s = .next t ∧ seqOf wholeBlock t = some q ∧ q.wake = true ∧ q.state = .off ∧ t.pins.coldStep = 1) ∧
  (∀ (c : Nat) (q : PSeq) (s : State), seqOf c s = some q → q.fallback = false → q.wake = false → q.step ≠ 2 → q.step ≠ 3 →
    repairing q s = false → (nextStep q.step (entryPhases q.code q.state) ≠ some 6 ∨ outputsVisible q s = true) →
    exec (.powerEntryPhaseDone c) s = .next (settle (match nextStep q.step (entryPhases q.code q.state) with
      | some n => startPhase q n s
      | none => entryEnd q s))) ∧
  (∀ (c : Nat) (q : PSeq) (s : State), seqOf c s = some q → q.fallback = false → q.wake = false →
    (repairing q s = true ∨ (nextStep q.step (entryPhases q.code q.state) = some 6 ∧ outputsVisible q s = false)) →
    exec (.powerEntryPhaseDone c) s = .next (settle s)) ∧
  (∀ (c : Nat) (q : PSeq) (s : State), seqOf c s = some q → q.fallback = true → q.step = 6 →
    exec (.powerEntryPhaseDone c) s = .next (settle (setSeq { q with step := 7 } s))) ∧
  (∀ (c : Nat) (q : PSeq) (s : State), seqOf c s = some q → q.fallback = true → q.step ≠ 6 →
    ∃ e, exec (.powerEntryPhaseDone c) s = .next (settle (finishOpt q.cmd St.adminWakeFailed 0 e)) ∧ seqOf c e = none ∧
      fb (loc .PW_EVENT) F.PW_EVENT_WAKE_FAIL e = true ∧ fb (loc .GL_ALERT) F.GL_ALERT_WAKE_FAIL e = true ∧
      (∀ i, (isl i e).st = (isl i s).st) ∧ ∀ i, i ∈ q.members → (isl i e).waking = false) ∧
  (∀ (c : Nat) (q : PSeq) (s : State), seqOf c s = some q → c ≠ wholeBlock → q.wake = false → q.step = 2 →
    drainedSeq q s = true → repairing q s = false →
    exec (.powerDrainEnd c) s = .next (settle (match nextStep 2 (entryPhases q.code q.state) with
      | some n => startPhase q n s
      | none => entryEnd q s))) ∧
  (∀ (q : PSeq) (s : State), seqOf wholeBlock s = some q → q.wake = false → q.step = 2 → drainedSeq q s = true →
    repairing q s = false → q.cmd = none →
    exec (.powerDrainEnd wholeBlock) s = .next (settle (phaseNext { q with step := 3 } (startPhase q 3 s)))) ∧
  (∀ (p k : Nat) (q : PSeq) (t s : State), seqOf wholeBlock s = some q → q.wake = false → q.step = 2 → drainedSeq q s = true →
    repairing q s = false → q.cmd = some (p, k) → t = finishCmd p k St.ok 0 0 (startPhase q 3 s) →
    exec (.powerDrainEnd wholeBlock) s = .next (settle (if (getCmd p k t).isNone then completionWritten p k t else t))) ∧
  (∀ (c : Nat) (q : PSeq) (s : State), seqOf c s = some q → c ≠ wholeBlock → q.wake = false → q.step = 2 →
    exec (.powerDrainTimeout c) s = .next (settle (finishOpt q.cmd St.adminBusy 0 (powerUnhold c
      (setFlag (loc .PW_EVENT) F.PW_EVENT_REFUSED (fs (loc .PW_STATE) F.PW_STATE_REFUSE_CAUSE 1 (endSeq c s))))))) ∧
  (∀ (q : PSeq) (s : State), seqOf wholeBlock s = some q → q.wake = false → q.step = 2 →
    exec (.powerDrainTimeout wholeBlock) s = .next (settle (finishOpt q.cmd St.adminBusy 0 (unprepare
      (setFlag (loc .PW_EVENT) F.PW_EVENT_REFUSED (fs (loc .PW_STATE) F.PW_STATE_REFUSE_CAUSE
        (if holdsCells s then 2 else 1) (endSeq wholeBlock s))))))) ∧
  (∀ (c n : Nat) (q : PSeq) (s : State), seqOf c s = some q → q.wake = true → q.fallback = false →
    (q.state ≠ .off ∨ c ≠ wholeBlock) →
    (q.step ≠ 3 ∨ s.pins.refclk = true) → nextStep q.step (wakeSteps c q.state) = some n → q.code = c →
    exec (.wakeStepDone c) s = .next (settle (passHeld (setSeq { q with step := n, repeating := false } s)))) ∧
  (∀ (c : Nat) (q : PSeq) (s : State), seqOf c s = some q → q.wake = true → q.fallback = false → q.step = 3 →
    s.pins.refclk = false → exec (.wakeStepDone c) s = .next (settle (passHeld s))) ∧
  (∀ (c : Nat) (q : PSeq) (s : State), seqOf c s = some q → q.wake = true → q.fallback = false →
    (q.state ≠ .off ∨ c ≠ wholeBlock) →
    (q.step ≠ 3 ∨ s.pins.refclk = true) → nextStep q.step (wakeSteps c q.state) = none → (seqOf c (wakeEnd q s)).isNone = true →
    exec (.wakeStepDone c) s = .next (settle (passHeld (retryActs (fun _ => true) (wakeEnd q s))))) ∧
  (∀ (c : Nat) (q : PSeq) (s : State), seqOf c s = some q → q.wake = true → q.fallback = false →
    (q.state ≠ .off ∨ c ≠ wholeBlock) → stepReports q.step = true → q.repeating = false →
    exec (.wakeStepTimeout c) s = .next (settle (setFlag (loc .PW_EVENT) F.PW_EVENT_WAKE_RETRY
      (setSeq { q with retried := true, repeating := true, failStep := q.step } s)))) ∧
  (∀ (c : Nat) (q : PSeq) (s : State), seqOf c s = some q → q.wake = true → q.fallback = false →
    (q.state ≠ .off ∨ c ≠ wholeBlock) → stepReports q.step = true → q.repeating = true →
    exec (.wakeStepTimeout c) s =
      .next (settle (setSeq { q with fallback := true, step := 6, failStep := q.step } s)))

/-! ## Spares and live change (R116, R127 to R132, R317, R468 to R480) -/

/-- HP_CHMAP_WRITE stores its word; while a port move runs, a write that gives a moved channel back to the worn port ends the
move with OUTCOME ABORTED and SUBST_DONE. CHMAP_TAKE_EFFECT shows the new port of a channel with no request outstanding, and
leaves a channel with one as it is; at the move's time-out the channel keeps its port and the next one is tried (R317, R479).
LMAP_WRITE changes the logical lane map, or SV_RETIRED, before RELEASE where no two lanes share a physical lane and none is
retired. REPAIR_APPLY starts a repair where a spare is left and sets FAIL where none is; REPAIR_READ shows an entry of the
repair list; the end of a repair appends it and sets REPAIR_DONE, also in an island whose entry waited for it (R476, R477). A
step of a lane substitution that is done takes its effect and begins the next; the last leaves the old lane RETIRED and the
spare with its role (R129). The end of an engine substitution waits for the old engine's contexts, then clears BUSY with
SUBST_DONE; an engine fault in a cluster with a spare substitutes it, and without one it goes on with NO_SPARE (R221, R471). A
reading of an eye within its thresholds clears its count; a reading of an island's sensor in RUN is stored, from WARN on it
sets WARN once, and below the thresholds it reports nothing (R470). An entry of the learn queue that is retired is lost, and
one of a completion queue's backlog stops the queue, each while spare entries remain (R469). -/
def Obligations.SparesMapsAndMonitors : Prop :=
  (∀ (m : Master) (w : Nat) (d : W32) (s : State), w < 4 →
    (∀ o sp, s.sv.hmp = some (o, sp) → ∀ j, j < 16 → chanMap (16 * w + j) s = sp → bits d.toNat (2 * j + 1) (2 * j) ≠ o) →
    Writes (.chmapWrite m w d) m (loc .HP_CHMAP 0 w) d.toNat s (wr (loc .HP_CHMAP 0 w) d.toNat s)) ∧
  (∀ (m : Master) (w j o sp : Nat) (d : W32) (s : State), w < 4 → s.sv.hmp = some (o, sp) → j < 16 →
    chanMap (16 * w + j) s = sp → bits d.toNat (2 * j + 1) (2 * j) = o → WriteOpen m (loc .HP_CHMAP 0 w) d.toNat s →
    ∃ e, exec (.chmapWrite m w d) s = .next (written m (loc .HP_CHMAP 0 w) d.toNat e) ∧ rd (loc .HP_CHMAP 0 w) e = d.toNat ∧
      e.sv.hmp = none ∧ e.sv.hmpChan = none ∧ fb (loc .SV_EVENT) F.SV_EVENT_SUBST_DONE e = true ∧
      fg (loc .SV_LAST) F.SV_LAST_OUTCOME e = 3) ∧
  (∀ (n : Nat) (s : State), n < 64 → s.sv.hmp = none → teOut n s = [] →
    exec (.chmapTakeEffect n) s = .next (settle (fs (teLoc .TE_STATE n) F.TE_STATE_PORT (chanMap n s) s))) ∧
  (∀ (n : Nat) (s : State), n < 64 → s.sv.hmp = none → teOut n s ≠ [] →
    exec (.chmapTakeEffect n) s = .next (settle s)) ∧
  (∀ (n o sp : Nat) (s : State), n < 64 → s.sv.hmp = some (o, sp) → s.sv.hmpChan = some n → hmpQuiet n s = true →
    chanMap n s = o →
    exec (.chmapTakeEffect n) s = .next (settle (hmpNext (hmpRelease n (chmapTake n (putChmap n sp s)))))) ∧
  (∀ (n : Nat) (s : State), s.sv.hmpChan = some n →
    exec .hmpMoveTimeout s = .next (settle (hmpNext (hmpRelease n (setSv { s.sv with hmpKept := s.sv.hmpKept ++ [n] } s))))) ∧
  (∀ (m : Master) (d : W32) (s : State), fb (loc .BT_STATUS) F.BT_STATUS_RELEASED s = false →
    lmapBad (fs (loc .SV_RETIRED) F.SV_RETIRED_RETIRED (d.toNat % 2 ^ 18) s) = false →
    Writes (.lmapWrite m 4 d) m (loc .SV_RETIRED) d.toNat s
      (fs (loc .SV_RETIRED) F.SV_RETIRED_RETIRED (d.toNat % 2 ^ 18) s)) ∧
  (∀ (m : Master) (w : Nat) (d : W32) (t s : State), w < 4 → fb (loc .BT_STATUS) F.BT_STATUS_RELEASED s = false →
    t = forEach (List.range (if w = 3 then 3 else 5)) (fun j t => mapLane (5 * w + j) (bits d.toNat (6 * j + 4) (6 * j)) t) s →
    lmapBad t = false →
    Writes (.lmapWrite m w d) m (loc .SV_LMAP 0 w) d.toNat s t) ∧
  (∀ (m : Master) (d : W32) (t s : State), fb (loc .SV_REPAIR_CMD) F.SV_REPAIR_CMD_BUSY s = false →
    bit d.toNat 31 = true → bit d.toNat 30 = false →
    repairStart (rd (loc .SV_REPAIR_DATA) (fs (loc .SV_REPAIR_CMD) F.SV_REPAIR_CMD_INDEX (d.toNat % 1024) s)) true
      (fs (loc .SV_REPAIR_CMD) F.SV_REPAIR_CMD_INDEX (d.toNat % 1024) s) = some t →
    Writes (.repairApply m d) m (loc .SV_REPAIR_CMD) d.toNat s
      (fs (loc .SV_REPAIR_CMD) F.SV_REPAIR_CMD_FAIL 0 (fs (loc .SV_REPAIR_CMD) F.SV_REPAIR_CMD_BUSY 1 t))) ∧
  (∀ (m : Master) (d : W32) (s : State), fb (loc .SV_REPAIR_CMD) F.SV_REPAIR_CMD_BUSY s = false →
    bit d.toNat 31 = true → bit d.toNat 30 = false →
    repairStart (rd (loc .SV_REPAIR_DATA) (fs (loc .SV_REPAIR_CMD) F.SV_REPAIR_CMD_INDEX (d.toNat % 1024) s)) true
      (fs (loc .SV_REPAIR_CMD) F.SV_REPAIR_CMD_INDEX (d.toNat % 1024) s) = none →
    Writes (.repairApply m d) m (loc .SV_REPAIR_CMD) d.toNat s
      (fs (loc .SV_REPAIR_CMD) F.SV_REPAIR_CMD_FAIL 1 (fs (loc .SV_REPAIR_CMD) F.SV_REPAIR_CMD_INDEX (d.toNat % 1024) s))) ∧
  (∀ (m : Master) (d : W32) (s : State), fb (loc .SV_REPAIR_CMD) F.SV_REPAIR_CMD_BUSY s = false →
    bit d.toNat 31 = false → bit d.toNat 30 = true →
    Writes (.repairRead m d) m (loc .SV_REPAIR_CMD) d.toNat s
      (wr (loc .SV_REPAIR_DATA) (s.sv.fixed.getD (d.toNat % 1024) 0)
        (fs (loc .SV_REPAIR_CMD) F.SV_REPAIR_CMD_INDEX (d.toNat % 1024) s))) ∧
  (∀ (i : Nat) (r : Repair) (rest : List Repair) (s : State), takeFirst (fun x : Repair => x.isl == i) s.sv.repairs = (some r, rest) →
    s.sv.fixed.length < 1024 →
    ∃ e, exec (.sramRepairDone i) s = .next (settle e) ∧ e.sv.repairs = rest ∧
      e.sv.fixed = s.sv.fixed ++ [r.data % 2 ^ 31 + 2 ^ 31] ∧
      fg (loc .SV_REPAIR_CMD) F.SV_REPAIR_CMD_COUNT e = s.sv.fixed.length + 1 ∧
      fb (loc .SV_EVENT) F.SV_EVENT_REPAIR_DONE e = true ∧
      (r.byApply = true → fb (loc .SV_REPAIR_CMD) F.SV_REPAIR_CMD_BUSY e = false) ∧
      fg (loc .SV_LAST) F.SV_LAST_KIND e = (if repCol r.data then 4 else 3) ∧ fg (loc .SV_LAST) F.SV_LAST_OUTCOME e = 0) ∧
  (∀ (n : Nat) (x : Subst) (s : State), substOf n s = some x → x.power = false → x.begun = true → substWaits x s = false →
    (x.step = 0 → s.pins.refclk = true) → (x.slotted = true → x.step = 3 → substSwitched x s = (true, true)) → x.step < 4 →
    (substEffect x s).1.parked = false →
    exec (.laneSubstStepDone n) s = .next (settle (substBegin { (substEffect x s).1 with step := x.step + 1, begun := false }
      (setSubst { (substEffect x s).1 with step := x.step + 1, begun := false } (substEffect x s).2)))) ∧
  (∀ (n : Nat) (x : Subst) (s : State), substOf n s = some x → x.power = false → x.begun = true → x.step = 4 →
    n < 18 → x.spare < 18 → x.spare ≠ n →
    ∃ e, exec (.laneSubstStepDone n) s = .next (settle e) ∧ laneRole n e = 4 ∧
      laneRole x.spare e = (if x.slotted then 3 else 2) ∧ fb (loc .LN_EVENT x.spare) F.LN_EVENT_SUBST_DONE e = true ∧
      bit (fg (loc .SV_RETIRED) F.SV_RETIRED_RETIRED e) n = true) ∧
  (∀ (cl : Nat) (x : EngSub) (s : State), cl < 24 → s.dp.subst.find? (fun y => y.cluster == cl) = some x →
    (∃ c, c ∈ s.dp.ctxs ∧ ctxCluster c.id = cl ∧ ctxEngine c.id = x.engine) → substBusy cl s = true →
    exec (.engineSubstDone cl) s = .next (settle s)) ∧
  (∀ (cl : Nat) (x : EngSub) (s : State), cl < 24 → s.dp.subst.find? (fun y => y.cluster == cl) = some x →
    (∀ c, c ∈ s.dp.ctxs → ctxCluster c.id = cl → ctxEngine c.id ≠ x.engine) → s.sv.acts = [] →
    ∃ e, exec (.engineSubstDone cl) s = .next (settle e) ∧ substBusy cl e = false ∧
      fb (loc .RE_CL_EVENT cl) F.RE_CL_EVENT_SUBST_DONE e = true ∧ e.dp.subst = s.dp.subst.filter (fun y => y.cluster != cl)) ∧
  (∀ (cl e : Nat) (s : State), cl < 24 → e < 17 → inReset s = false → substBusy cl s = false → spareEng cl s ≠ 0x1F →
    exec (.engineFault cl e) s = .next (settle (svLast 2 3 outRunning (17 * cl + e)
      (setFlag (loc .SV_EVENT) F.SV_EVENT_SUBST_START
        (setSv { (engineFault cl e s).sv with engActs := (engineFault cl e s).sv.engActs ++ [(17 * cl + e, 3)] }
          (engineFault cl e s)))))) ∧
  (∀ (cl e : Nat) (s : State), cl < 24 → e < 17 → inReset s = false → substBusy cl s = true ∨ spareEng cl s = 0x1F →
    exec (.engineFault cl e) s = .next (settle (svLast 2 3 outNoSpare (17 * cl + e) (engineFault cl e s)))) ∧
  (∀ (n h w : Nat) (s : State), n < 18 → h < 65536 → w < 65536 → fb (loc .LN_STATUS n) F.LN_STATUS_CDR_LOCK s = true →
    isRun (laneIsland n) s = true → fg (loc .SV_EYE_THR) F.SV_EYE_THR_EYE_H_MIN s ≤ h →
    fg (loc .SV_EYE_THR) F.SV_EYE_THR_EYE_W_MIN s ≤ w →
    ∃ t, exec (.eyeRefresh n h w) s = .next t ∧ rd (loc .LN_EYE n) t = h * 65536 + w ∧ sget 0 t.sv.eyeLow n = 0 ∧
      monKey 3 n ∉ t.sv.acted) ∧
  (∀ (c v : Nat) (s : State), coldHeld s = false → (isl 0 s).st = .run → s.sv.acts = [] → s.sv.hmp = none →
    islandCodes.contains c = true → isRun c s = true → v < fg (loc .SV_RO_THR) F.SV_RO_THR_WARN s →
    v < fg (loc .SV_RO_THR) F.SV_RO_THR_ACT s →
    ∃ t, exec (.wearMonitorRead [(c, v)] [] []) s = .next t ∧ sget 0 t.sv.mon (monKey 0 c) = v % 2 ^ 16 ∧
      monKey 0 c ∉ t.sv.warned ∧ monKey 0 c ∉ t.sv.acted ∧ t.sv.acts = []) ∧
  (∀ (c v : Nat) (s : State), coldHeld s = false → (isl 0 s).st = .run → s.sv.acts = [] → s.sv.hmp = none →
    islandCodes.contains c = true → isRun c s = true → fg (loc .SV_RO_THR) F.SV_RO_THR_WARN s ≤ v →
    v < fg (loc .SV_RO_THR) F.SV_RO_THR_ACT s →
    ∃ e, exec (.wearMonitorRead [(c, v)] [] []) s = .next (settle e) ∧ sget 0 e.sv.mon (monKey 0 c) = v % 2 ^ 16 ∧
      monKey 0 c ∈ e.sv.warned ∧ monKey 0 c ∉ e.sv.acted ∧
      (monKey 0 c ∉ s.sv.warned → fb (loc .SV_EVENT) F.SV_EVENT_WARN e = true) ∧
      (monKey 0 c ∈ s.sv.warned → rd (loc .SV_EVENT) e = rd (loc .SV_EVENT) s)) ∧
  (∀ (q i : Nat) (s : State), inReset s = false → i < s.tab.learnQ.length → s.sv.learnRet < 128 →
    ∃ t, exec (.entryRetire true q i) s = .next t ∧ t.tab = { s.tab with learnQ := s.tab.learnQ.eraseIdx i } ∧
      t.sv = { s.sv with learnRet := s.sv.learnRet + 1 }) ∧
  (∀ (q i : Nat) (s : State), inReset s = false → (getCq q s).state = .active → i < (getCq q s).backlog.length →
    s.sv.poolRet < 4096 →
    ∃ e, exec (.entryRetire false q i) s = .next (settle e) ∧ (getCq q e).state = .stopped ∧
      (getCq q e).err = St.hostReadError ∧ fb (loc .WQ_EVENT) F.WQ_EVENT_QUEUE_ERROR e = true ∧
      e.sv.poolRet = s.sv.poolRet + 1)

/-! ## Lanes, links and slots (R117 to R160) -/

/-- The link state machine of an enabled plain port (R123), its states numbered 0 DISABLED, 1 AN, 2 TRAIN, 3 ALIGN, 4 UP, 5 RETRY. With the
port's islands up and nothing holding it, PORT_ENABLE begins bring-up, and RETRY_HOLD_EXPIRY begins it again; bring-up enters AN, TRAIN
or ALIGN by LINK_MODE, and TRAIN in bypass format where LINK_MODE is 0 (R122). Agreement enters TRAIN; no common ability shows in
AN_RESULT with one event per episode; the end of training writes each lane's result and enters ALIGN; its time-out sets TRAIN_FAIL on
each lane named and enters RETRY. Lock on every lane with a skew to 180 ns enters UP, with more it sets SKEW_FAIL and enters RETRY, as
10 ms without lock do; the loss of a lane in UP enters RETRY; PORT_DISABLE enters DISABLED. That negotiation's and training's outcomes
are operands is log entry 25, the rounding of SKEW log entry 28. -/
def Obligations.LinkStateMachine : Prop :=
  (∀ (p : Nat) (s : State), p < 64 → isPlain p s = true → pcsState p s = 0 → portHold p s = false →
    substHolds p s = false → s.pins.refclk = true → islUp (portIsland p) s = true →
    (portPhys p s).all (fun n => islUp (laneIsland n) s) = true →
    exec (.portEnable p) s = .next (settle (bringUp p (fs (loc .MP_PCS_STATE p) F.MP_PCS_STATE_RETRIES 0 s)))) ∧
  (∀ (p : Nat) (s : State), p < 64 → fg (loc .MP_PCS_CTRL p) F.MP_PCS_CTRL_LINK_MODE s < 3 →
    pcsState p (bringUp p s) = if portBypass s.prof.cur p = true ∧ fg (loc .MP_PCS_CTRL p) F.MP_PCS_CTRL_LINK_MODE s = 0 then 2
      else fg (loc .MP_PCS_CTRL p) F.MP_PCS_CTRL_LINK_MODE s + 1) ∧
  (∀ (p : Nat) (s : State), p < 64 → isPlain p s = true → pcsState p s = 1 → s.pins.refclk = true →
    exec (.anAgreed p) s = .next (settle (enterTrain p (fs (loc .MP_PCS_STATE p) F.MP_PCS_STATE_AN_RESULT 2 s)))) ∧
  (∀ (p : Nat) (fec : Bool) (s : State), p < 64 → isPlain p s = true → pcsState p s = 1 →
    exec (.anNoCommon p fec) s = .next (settle (doIf (fg (loc .MP_PCS_STATE p) F.MP_PCS_STATE_AN_RESULT s == 1)
      (setFlag (loc .MP_PCS_EVENT p) F.MP_PCS_EVENT_AN_NO_COMMON)
      (fs (loc .MP_PCS_STATE p) F.MP_PCS_STATE_AN_RESULT (if fec then 4 else 3) s)))) ∧
  (∀ (p : Nat) (es : List Nat) (bs : List Bool) (s : State), p < 64 → isPlain p s = true → pcsState p s = 2 →
    s.pins.refclk = true → es.length = (portPhys p s).length → bs.length = (portPhys p s).length →
    exec (.trainDone p es bs) s = .next (settle (enterAlign p (forEach (List.range (portPhys p s).length)
      (fun i => laneTrained ((portPhys p s).getD i 0) (es.getD i 0) (bs.getD i false)) s)))) ∧
  (∀ (p mask : Nat) (s : State), p < 64 → isPlain p s = true → pcsState p s = 2 →
    (∃ i, i < (portPhys p s).length ∧ bit mask i = true) →
    exec (.trainTimeout p mask) s = .next (settle (toRetry p (forEach ((List.range (portPhys p s).length).filter (bit mask))
      (fun i t => bump (cLane ((portPhys p s).getD i 0) 5)
        (setFlag (loc .LN_EVENT ((portPhys p s).getD i 0)) F.LN_EVENT_TRAIN_FAIL t)) s)))) ∧
  (∀ (p skew : Nat) (t s : State), p < 64 → isPlain p s = true → pcsState p s = 3 → s.pins.refclk = true →
    t = forEach (portPhys p s) (fun n u => setLn F.LN_STATUS_CDR_LOCK 1 n (setLn F.LN_STATUS_SIG_DET 1 n
      (setLn F.LN_STATUS_AM_LOCK 1 n (setLn F.LN_STATUS_BLOCK_LOCK 1 n u))))
        (fs (loc .MP_PCS_STATE p) F.MP_PCS_STATE_SKEW (min 255 (skew / 1000)) s) →
    exec (.alignLock p skew) s = .next (settle (if skew ≤ 180000
      then forEach (portPhys p s) recalStart (linkCheck p (setRxFault p 0 (setPcs p 4 t)))
      else toRetry p (setFlag (loc .MP_PCS_EVENT p) F.MP_PCS_EVENT_SKEW_FAIL t)))) ∧
  (∀ (p : Nat) (s : State), p < 64 → isPlain p s = true → pcsState p s = 3 →
    exec (.alignTimeout p) s = .next (settle (toRetry p s))) ∧
  (∀ (p i what : Nat) (s : State), p < 64 → isPlain p s = true → pcsState p s = 4 → i < (portPhys p s).length →
    what % 32 ≠ 0 →
    exec (.linkLoss p i what) s = .next (settle (toRetry p (laneLost ((portPhys p s).getD i 0) what s)))) ∧
  (∀ (p : Nat) (s : State), p < 64 → pcsState p (toRetry p s) = 5 ∧
    fg (loc .MP_PCS_STATE p) F.MP_PCS_STATE_RETRIES (toRetry p s) =
      min 255 (fg (loc .MP_PCS_STATE p) F.MP_PCS_STATE_RETRIES s + 1)) ∧
  (∀ (p : Nat) (s : State), p < 64 → isPlain p s = true → pcsState p s = 5 →
    s.pins.refclk = true →
    exec (.retryHoldExpiry p) s = .next (settle (bringUp p s))) ∧
  (∀ (p : Nat) (s : State), p < 64 → isPlain p s = true → pcsState p s ≠ 0 →
    exec (.portDisable p) s = .next (settle (linkCheck p (setRxFault p 1
      (fs (loc .MP_PCS_STATE p) F.MP_PCS_STATE_FEC_ON 0 (setPcs p 0 s))))))

/-- A plain port in UP shows the fault declared, and none once it clears; a slotted client shows it at its reconciliation sublayer (R125).
The end of a port's FEC window counts its codewords and its lanes' symbols, and enters FEC-degraded at 64 x SET, leaves it at 64 x CLR
(R126); a slotted lane counts its symbols (R418). In bypass format a lane's alignment lock comes and goes, and high BER sends its
port in UP to RETRY (R120, R123). Recalibration is requested by its timer, by 10 degrees of change and by CAL_REQ, merges into one
that waits or runs, and ends with CAL_DONE (R128). A TEST = 1 write takes a lane in role OFF or SPARE to TEST (R131). -/
def Obligations.LaneAndLinkEvents : Prop :=
  (∀ (p : Nat) (remote : Bool) (s : State), p < 64 → isPlain p s = true → pcsState p s = 4 →
    exec (.faultDeclare p remote) s = .next (settle (linkCheck p (setRxFault p (if remote then 2 else 1) s)))) ∧
  (∀ (p : Nat) (s : State), p < 64 → isPlain p s = true → pcsState p s = 4 →
    exec (.faultClear p) s = .next (settle (linkCheck p (setRxFault p 0 s)))) ∧
  (∀ (p : Nat) (remote : Bool) (s : State), p < 64 → isPlain p s = false → isClient p s = true →
    exec (.faultDeclare p remote) s =
      .next (settle (linkCheck p (setLink p { getLink p s with rs := if remote then 2 else 1 } s))) ∧
    exec (.faultClear p) s = .next (settle (linkCheck p (setLink p { getLink p s with rs := 0 } s)))) ∧
  (∀ (p corr uncorr : Nat) (xs : List (Nat × Nat)) (t s : State), p < 64 → isPlain p s = true →
    fb (loc .MP_PCS_STATE p) F.MP_PCS_STATE_FEC_ON s = true → xs.length = (portPhys p s).length →
    t = forEach (List.range (portPhys p s).length) (fun i u => bumpBy (cLane ((portPhys p s).getD i 0) 1) (xs.getD i (0, 0)).2
      (bumpBy (cLane ((portPhys p s).getD i 0) 0) (xs.getD i (0, 0)).1 u))
        (bumpBy (cPort p 40) uncorr (bumpBy (cPort p 39) corr s)) →
    exec (.fecDegWindowEnd p corr uncorr xs) s = .next (settle (
      if fb (loc .MP_PCS_CTRL p) F.MP_PCS_CTRL_FEC_DEG_EN s = false then t
      else if (getLink p s).fecDeg = false ∧
          64 * fg (loc .MP_FEC_DEG p) F.MP_FEC_DEG_SET s ≤ (xs.map (fun x => x.1 + x.2)).sum then
        setFlag (loc .MP_PCS_EVENT p) F.MP_PCS_EVENT_FEC_DEG_SET (setLink p { getLink p s with fecDeg := true } t)
      else if (getLink p s).fecDeg = true ∧
          (xs.map (fun x => x.1 + x.2)).sum ≤ 64 * fg (loc .MP_FEC_DEG p) F.MP_FEC_DEG_CLR s then
        setFlag (loc .MP_PCS_EVENT p) F.MP_PCS_EVENT_FEC_DEG_CLR (setLink p { getLink p s with fecDeg := false } t)
      else t))) ∧
  (∀ (n corr uncorr x y : Nat) (s : State), n < 18 → laneRole n s = 3 → laneBypass n s = false →
    fb (loc .LN_STATUS n) F.LN_STATUS_AM_LOCK s = true →
    exec (.fecDegWindowEnd (64 + n) corr uncorr [(x, y)]) s =
      .next (settle (bumpBy (cLane n 1) y (bumpBy (cLane n 0) x s)))) ∧
  (∀ (n : Nat) (s : State), n < 18 → laneBypass n s = true →
    exec (.bypassAlignLock n) s = .next (settle (fs (loc .LN_STATUS n) F.LN_STATUS_AM_LOCK 1 s))) ∧
  (∀ (n : Nat) (s : State), n < 18 → laneBypass n s = true → lanePlain n s = false →
    fb (loc .LN_STATUS n) F.LN_STATUS_AM_LOCK s = true →
    exec (.bypassAlignLoss n) s = .next (settle (fs (loc .LN_STATUS n) F.LN_STATUS_AM_LOCK 0 s))) ∧
  (∀ (n p : Nat) (s : State), n < 18 → laneBypass n s = true → lanePlain n s = true → lanePort (laneLogical n s) s = some p →
    fb (loc .LN_STATUS n) F.LN_STATUS_AM_LOCK s = true → pcsState p s = 4 →
    exec (.bypassAlignLoss n) s = .next (settle (toRetry p (fs (loc .LN_STATUS n) F.LN_STATUS_AM_LOCK 0 s)))) ∧
  (∀ (n p : Nat) (s : State), n < 18 → laneBypass n s = true → lanePlain n s = true → lanePort (laneLogical n s) s = some p →
    pcsState p s = 4 →
    exec (.highBer n) s = .next (settle (toRetry p s))) ∧
  (∀ (n : Nat) (s : State), n < 18 → inReset s = false → calAuto n s = true →
    fb (loc .LN_CAL n) F.LN_CAL_CAL_PENDING s = false → fb (loc .LN_CAL n) F.LN_CAL_CAL_RUN s = false →
    exec (.recalTimer n) s = .next (settle (recalStart n (fs (loc .LN_CAL n) F.LN_CAL_CAL_PENDING 1 s)))) ∧
  (∀ (n : Nat) (s : State), n < 18 →
    fb (loc .LN_CAL n) F.LN_CAL_CAL_PENDING s = true ∨ fb (loc .LN_CAL n) F.LN_CAL_CAL_RUN s = true →
    exec (.recalTimer n) s = .next (settle s)) ∧
  (∀ (n temp : Nat) (s : State), n < 18 → inReset s = false → calAuto n s = true →
    fb (loc .LN_CAL n) F.LN_CAL_CAL_PENDING s = false → fb (loc .LN_CAL n) F.LN_CAL_CAL_RUN s = false →
    exec (.recalThermal n temp) s = .next (settle (
      if 10 ≤ (signed8 temp - signed8 (fg (loc .LN_CAL n) F.LN_CAL_CAL_TEMP s)).natAbs
      then recalStart n (fs (loc .LN_CAL n) F.LN_CAL_CAL_PENDING 1 s) else s))) ∧
  (∀ (m : Master) (n : Nat) (d : W32) (s : State), n < 18 → bit d.toNat 31 = true →
    fb (loc .LN_CAL n) F.LN_CAL_CAL_PENDING s = false → fb (loc .LN_CAL n) F.LN_CAL_CAL_RUN s = false →
    Writes (.calReq m n d) m (loc .LN_CAL n) d.toNat s (recalStart n (fs (loc .LN_CAL n) F.LN_CAL_CAL_PENDING 1 s))) ∧
  (∀ (n temp : Nat) (s : State), n < 18 → temp < 256 → fb (loc .LN_CAL n) F.LN_CAL_CAL_RUN s = true →
    ∃ t, exec (.recalDone n temp) s = .next t ∧ fb (loc .LN_CAL n) F.LN_CAL_CAL_RUN t = false ∧
      fg (loc .LN_CAL n) F.LN_CAL_CAL_TEMP t = temp ∧
      fg (loc .LN_CAL n) F.LN_CAL_CAL_COUNT t = (fg (loc .LN_CAL n) F.LN_CAL_CAL_COUNT s + 1) % 256 ∧
      fb (loc .LN_EVENT n) F.LN_EVENT_CAL_DONE t = true) ∧
  (∀ (m : Master) (n : Nat) (d : W32) (s : State), n < 18 → bit d.toNat 1 = true → laneRole n s ∈ [0, 1] →
    Writes (.laneTestWrite m n d) m (loc .LN_CTRL n) d.toNat s (laneStored n (setRole n 5 (setLane n
      { getLane n s with prior := laneRole n s } (wr (loc .LN_CTRL n) (d.toNat &&& 0xFFFE) s)))))

/-- An overhead block of a member: the good one expected next is taken, a bad one counted, one away from the expected position is left
alone, and out of frame the search goes on; a spare lane aligns for FOLLOW (R144, R146). LOS starts and ends (R147). At the end of a map
cycle, with no FOLLOW and no switch, each usable member's map is compared: two matching cycles clear the mismatch, two differing ones
declare it (R149). A switch being armed requests at the next transmit frame 0; an acknowledged one commits there, where the peer has
acknowledged; a time-out ends it with the status of its state (R154). A free entry of a standby page is written, OS_SW_CTRL COPY
copies the page in use to the other, and a client not in use is given its port (R153, R160). -/
def Obligations.SlotGroups : Prop :=
  (∀ (n g k hdr pos skew : Nat) (b : List Byte) (s : State), n < 18 → laneMember n s = some (g, k) →
    exec (.overheadReceive n hdr pos skew b) s = .next (settle (memberBlock g k hdr pos skew b s))) ∧
  (∀ (n hdr pos skew : Nat) (b : List Byte) (s : State), n < 18 → laneMember n s = none → laneRole n s = 1 →
    exec (.overheadReceive n hdr pos skew b) s = .next (settle (spareBlock n hdr pos skew b s))) ∧
  (∀ (g k hdr pos skew : Nat) (b : List Byte) (s : State), inFrame g k (setSkew g k skew s) = true →
    pos % 40961 = (getMem g k s).pos → overSeed hdr b = true → (overOf b).fnum = ((getMem g k s).fnum + 1) % 32 →
    memberBlock g k hdr pos skew b s = goodOverhead g k (overOf b) (discardCount g k (setSkew g k skew s))) ∧
  (∀ (g k hdr pos skew : Nat) (b : List Byte) (s : State), inFrame g k (setSkew g k skew s) = true →
    pos % 40961 = (getMem g k s).pos → (overSeed hdr b = false ∨ (overOf b).fnum ≠ ((getMem g k s).fnum + 1) % 32) →
    memberBlock g k hdr pos skew b s = memUpdate g k (badOverhead g k (overType hdr b && !overCrc b)
      (discardCount g k (setSkew g k skew s)))) ∧
  (∀ (g k hdr pos skew : Nat) (b : List Byte) (s : State), inFrame g k (setSkew g k skew s) = true →
    pos % 40961 ≠ (getMem g k s).pos →
    memberBlock g k hdr pos skew b s = memUpdate g k (setSkew g k skew s)) ∧
  (∀ (n g k what : Nat) (s : State), n < 18 → laneMember n s = some (g, k) →
    fb (loc .OS_MEMBER g k) F.OS_MEMBER_LOS s = false → what &&& 0xB ≠ 0 →
    exec (.losDeclare n what) s = .next (settle (doIf (inFrame g k s && (getMem g k s).fnum == 31) (rxPageUpdate g)
      (memUpdate g k (hunt g k
        (setDefect g k F.OS_MEMBER_LOS F.OS_EVENT_LOS 9 true (laneLost n (what &&& 0xB) s))))))) ∧
  (∀ (n g k : Nat) (s : State), n < 18 → laneMember n s = some (g, k) →
    fb (loc .OS_MEMBER g k) F.OS_MEMBER_LOS s = true →
    exec (.losClear n) s = .next (settle (memUpdate g k (setDefect g k F.OS_MEMBER_LOS F.OS_EVENT_LOS 9 false
      (setLn F.LN_STATUS_AM_LOCK 1 n (setLn F.LN_STATUS_CDR_LOCK 1 n (setLn F.LN_STATUS_SIG_DET 1 n s))))))) ∧
  (∀ (g : Nat) (s : State), g < 16 → fb (loc .OS_CFG g) F.OS_CFG_FOLLOW s = false → swState g s = 0 →
    exec (.mapCycleReceived g) s = .next (settle (forEach (clientPorts g s) linkCheck
      (forEach (usable g s) (fun k t => setMem g k { getMem g k t with mapDone := false } t)
        (forEach (usable g s) (mapCompare g) s))))) ∧
  (∀ (g k : Nat) (s : State), (getMem g k s).mapDone = true → (getMem g k s).mapReq = false →
    (getMem g k s).map = ownMap g k (getMem g k s).mapPage s → 1 ≤ (getMem g k s).mapGood →
    mapCompare g k s = fs (loc .OS_MEMBER g k) F.OS_MEMBER_MAP_MM 0 (setMem g k
      { getMem g k s with mapGood := (getMem g k s).mapGood + 1, mapBad := 0, mmClients := [] } s)) ∧
  (∀ (g k : Nat) (s : State), (getMem g k s).mapDone = true → (getMem g k s).mapReq = false →
    (getMem g k s).map ≠ ownMap g k (getMem g k s).mapPage s → 1 ≤ (getMem g k s).mapBad →
    fb (loc .OS_MEMBER g k) F.OS_MEMBER_MAP_MM (mapCompare g k s) = true ∧
    (getMem g k (mapCompare g k s)).mmClients = ((getMem g k s).map.zip (ownMap g k (getMem g k s).mapPage s)).flatMap
      (fun x => if x.1 = x.2 then [] else [x.1, x.2]) ∧
    (fb (loc .OS_MEMBER g k) F.OS_MEMBER_MAP_MM s = false →
      fb (loc .OS_EVENT g) F.OS_EVENT_MAP_MISMATCH (mapCompare g k s) = true)) ∧
  (∀ (g : Nat) (b : Bool) (s : State), g < 16 → (getGrp g s).clear = false → swState g s = 1 →
    exec (.switchTxFrame0 g b) s = .next (settle (
      let t := switchAck g (setSw g 2 (setGrp g { getGrp g s with swReq := true } s))
      setGrp g { getGrp g t with adv := swTarget g t } t))) ∧
  (∀ (g : Nat) (s : State), g < 16 → (getGrp g s).clear = false → swState g s = 3 → peerAck g s = true →
    rxPage g s ≠ swTarget g s → swTarget g s < 2 →
    ∃ t, exec (.switchTxFrame0 g true) s = .next t ∧ swState g t = 4 ∧ txPage g t = swTarget g s) ∧
  (∀ (g : Nat) (s : State), g < 16 → swState g s ∈ [2, 3, 4] →
    exec (.switchTimeout g) s = .next (settle (switchEnd g (if swState g s = 2 then (if peerReq g s then 0x49 else 0x48)
      else if swState g s = 3 then 0x4A else 0x4B) s))) ∧
  (∀ (m : Master) (g : Nat) (d : W32) (s : State), g < 16 → (cmPtr g s).1 ≠ txPage g s → (cmPtr g s).1 ≠ rxPage g s →
    swState g s = 0 → (grpSlots g s).contains (cmPtr g s).2 = true →
    Writes (.cmDataWrite m g d) m (loc .OS_CM_DATA g) d.toNat s
      (cmAdvance g (cmPut (cmPtr g s).1 (cmPtr g s).2 (d.toNat % 64) s))) ∧
  (∀ (m : Master) (g : Nat) (d : W32) (s : State), g < 16 → bit d.toNat 31 = true → txPage g s = rxPage g s →
    swState g s = 0 →
    Writes (.cmCopy m g d) m (loc .OS_SW_CTRL g) d.toNat s
      (Machine.cmCopy g (txPage g s) (wr (loc .OS_SW_CTRL g) (d.toNat % 256) s))) ∧
  (∀ (m : Master) (g c : Nat) (d : W32) (s : State), g < 16 → c < 63 → fb (loc .OS_CLIENT g c) F.OS_CLIENT_VALID s = false →
    bit d.toNat 31 = true → clientSlots g c (txPage g s) s = 0 → clientSlots g c (rxPage g s) s = 0 → swState g s = 0 →
    isClient (bits d.toNat 29 24) s = true → portGroup s.prof.cur (bits d.toNat 29 24) = g →
    Writes (.osClientWrite m g c d) m (loc .OS_CLIENT g c) d.toNat s
      (linkCheck (bits d.toNat 29 24) (linkCheck (fg (loc .OS_CLIENT g c) F.OS_CLIENT_PORT s)
        (wr (loc .OS_CLIENT g c) (2 ^ 31 + bits d.toNat 29 24 * 2 ^ 24) s))))

/-! ## The receive MAC (R161 to R186) -/

/-- With a port that receives and the core and buffer in RUN, the first cell of a frame opens it and later cells join it, each
with its error block (R161, R163). At its end a frame of a port with RX_EN = 0, one of a sleeping port, and a runt are
discarded and counted (R184, R186), a sleeping port's frame with a good FCS being tried as a wake frame; a control frame
without failure acts, and is not delivered where the MAC consumes it (R167); any other frame counts each check it fails, and
completes with the first of code error, length, FCS, or as good (R163, R165). How discards are counted is log entry 30. A
PAUSE frame on a port of FC_MODE 1 sets the port's pause timer, a PFC frame on one of FC_MODE 2 the timer of each priority
that its enable vector and PFC_RX_EN name; a frame of the other kind, and one of another opcode, is counted and does nothing
else. A timer that expires is 0 (R175, R176). -/
def Obligations.ReceivedFramesAndPauses : Prop :=
  (∀ (p : Nat) (b : List Byte) (code : Bool) (s : State), p < 64 → rxPasses p s = true → receives p s = true → b ≠ [] →
    b.length ≤ 256 → (getRx p s).cur = none →
    exec (.rxCellTaken p b code) s = .next (settle (noteCode s.dp.nextFrame code (rxBytes s.dp.nextFrame b
      (setRx p { getRx p (rxOpen p false s).2 with cur := some s.dp.nextFrame } (rxOpen p false s).2))))) ∧
  (∀ (p f : Nat) (b : List Byte) (code : Bool) (s : State), p < 64 → rxPasses p s = true → receives p s = true → b ≠ [] →
    b.length ≤ 256 → (getRx p s).cur = some f →
    exec (.rxCellTaken p b code) s = .next (settle (noteCode f code (rxBytes f b s)))) ∧
  (∀ (p f : Nat) (c : Bool) (g : Frame) (t s : State), p < 64 → rxPasses p s = true → (getRx p s).cur = some f →
    t = setRx p { getRx p s with cur := none } s → getF f t = some g → g.port = p →
    (g.discard = 1 → exec (.rxFrameEnd p c) s = .next (settle (forgetRx g.id (bump (cPort p 38)
      (doIf (64 ≤ g.len) (rateAdd p false g.len) t))))) ∧
    (g.discard = 2 → exec (.rxFrameEnd p c) s = .next (settle (doIf (decide (64 ≤ g.len) && !badFcs g) (wakeFrame p g.data)
      (forgetRx g.id (bump (cPort p 37) (doIf (64 ≤ g.len) (rateAdd p false g.len) t)))))) ∧
    (g.discard = 0 → g.len < 64 → exec (.rxFrameEnd p c) s = .next (settle (
      if g.space = 0 then forgetRx f (bump (cPort p 2) t) else dropEverywhere f (bump (cPort p 2) t))))) ∧
  (∀ (p f : Nat) (c : Bool) (g : Frame) (t s : State), p < 64 → rxPasses p s = true → (getRx p s).cur = some f →
    getF f (setRx p { getRx p s with cur := none } s) = some g → g.port = p → 64 ≤ g.len → g.discard = 0 →
    t = rateAdd p false g.len (setRx p { getRx p s with cur := none } s) →
    ((c || g.code) = false → g.data.length = g.len → fcs (g.data.take (g.len - 4)) = Bytes.toNat (g.data.drop (g.len - 4)) →
      g.consumed = false →
      exec (.rxFrameEnd p c) s = .next (settle (rxComplete f (setF { g with fail := 0, ended := true }
        (doIf g.ctrl (controlAct p g.data) (bumpBy (cPort p 1) g.len (bump (cPort p 0) t))))))) ∧
    ((c || g.code) = false → g.data.length = g.len → fcs (g.data.take (g.len - 4)) = Bytes.toNat (g.data.drop (g.len - 4)) →
      g.consumed = true →
      exec (.rxFrameEnd p c) s = .next (settle (forgetRx f (controlAct p g.data (bumpBy (cPort p 1) g.len (bump (cPort p 0) t)))))) ∧
    (g.consumed = false → (c || g.code || decide (g.data.length < g.len) ||
        fcs (g.data.take (g.data.length - 4)) != Bytes.toNat (g.data.drop (g.data.length - 4))) = true →
      exec (.rxFrameEnd p c) s = .next (settle (rxComplete f (setF { g with
        len := g.data.length, ended := true
        fail := if c || g.code then stRxCode else if g.data.length < g.len then stRxLong else stRxFcs }
        (doIf (decide (g.data.length < g.len) || fcs (g.data.take (g.data.length - 4)) !=
            Bytes.toNat (g.data.drop (g.data.length - 4))) (bump (cPort p 4))
          (doIf (decide (g.data.length < g.len)) (bump (cPort p 3)) (doIf (c || g.code) (bump (cPort p 5)) t)))))))) ∧
  (∀ (p : Nat) (b : List Byte) (s : State), be16 b 14 = 1 → fcMode p s = 1 →
    Bytes.toNat (b.take 6).reverse = 0x0180C2000001 →
    controlAct p b s = occur (cPort p 7) (setPauseAll p (be16 b 16) s)) ∧
  (∀ (p : Nat) (b : List Byte) (s : State), be16 b 14 = 0x0101 → fcMode p s = 2 →
    Bytes.toNat (b.take 6).reverse = 0x0180C2000001 →
    controlAct p b s = forEach ((List.range 8).filter (bit (be16 b 16 &&& fg (loc .MP_RX_CFG p) F.MP_RX_CFG_PFC_RX_EN s)))
      (fun i t => occur (cPort p (8 + i)) (setPausePrio p i (be16 b (18 + 2 * i)) t)) s) ∧
  (∀ (p op : Nat) (b : List Byte) (s : State), be16 b 14 = op → (op, fcMode p s) ∈ [(1, 0), (1, 2), (0x0101, 0), (0x0101, 1)] →
    controlAct p b s = setFlag (loc .MP_RX_EVENT p) F.MP_RX_EVENT_CTRL_WRONG_KIND (bump (cPort p 16) s)) ∧
  (∀ (p : Nat) (b : List Byte) (s : State), be16 b 14 ≠ 1 → be16 b 14 ≠ 0x0101 → controlAct p b s = bump (cPort p 17) s) ∧
  (∀ (p : Nat) (s : State), p < 64 → ∃ t, exec (.pauseTimerExpiry p 8) s = .next t ∧ (getRx p t).pauseAll = 0 ∧
    fb (loc .MP_RX_PAUSE_STATE p) F.MP_RX_PAUSE_STATE_PAUSE_ALL t = false) ∧
  (∀ (p i : Nat) (s : State), p < 64 → i < 8 → ∃ t, exec (.pauseTimerExpiry p i) s = .next t ∧
    sget 0 (getRx p t).pause i = 0 ∧ bit (fg (loc .MP_RX_PAUSE_STATE p) F.MP_RX_PAUSE_STATE_PAUSED t) i = false ∧
    ∀ q, q ≠ p → getRx q t = getRx q s)

/-- mPackets of a port that receives: with MM_RX_EN = 0 they are counted; a verify is to be answered; a start ends an open
reassembly as an error and opens one with its bytes; a continuation in sequence joins it, and one out of sequence ends it as
an error; one with no reassembly open is counted. The last fragment ends the frame, and a fragment with a bad mCRC ends the
reassembly as an error (R178, R179). While the link is up for transmission and no frame is on the line, a PFC frame due in
FC_MODE 2 is sent and XOFF_SENT shows what it asks for, and a PAUSE frame due in FC_MODE 1 is sent; a refresh sends one again
while its cause holds, at once or, in a frame, after it (R377, R378). Verification: enabled with VERIFY_DIS it succeeds at
once, else its first verify mPacket is sent; a respond ends it with VERIFY_OK, a time-out sends another or, at the limit, ends
it with VERIFY_FAIL (R381). -/
def Obligations.MergeFlowControlAndVerification : Prop :=
  (∀ (p smd frag : Nat) (b : List Byte) (code l bad : Bool) (s : State), p < 64 → rxPasses p s = true → receives p s = true →
    fb (loc .MP_RX_CFG p) F.MP_RX_CFG_MM_RX_EN s = false →
    exec (.mmFragmentReceive p smd frag b l bad code) s = .next (settle (bump (cPort p 36) s))) ∧
  (∀ (p frag : Nat) (b : List Byte) (code l bad : Bool) (s : State), p < 64 → rxPasses p s = true → receives p s = true →
    fb (loc .MP_RX_CFG p) F.MP_RX_CFG_MM_RX_EN s = true →
    exec (.mmFragmentReceive p 8 frag b l bad code) s =
      .next (settle (flushMm p (setTx p { getTx p s with respondDue := true } s)))) ∧
  (∀ (p smd frag : Nat) (b : List Byte) (code l bad : Bool) (s : State), p < 64 → smd < 4 → rxPasses p s = true →
    receives p s = true → fb (loc .MP_RX_CFG p) F.MP_RX_CFG_MM_RX_EN s = true →
    exec (.mmFragmentReceive p smd frag b l bad code) s = .next (settle (
      let o := rxOpen p true (asmError p (bump (cPort p 34) s))
      asmTake p o.1 b code l bad (setRx p { getRx p o.2 with asm := some (o.1, smd, 0) } o.2)))) ∧
  (∀ (p smd frag : Nat) (b : List Byte) (code l bad : Bool) (s : State), p < 64 → 4 ≤ smd → smd < 8 → rxPasses p s = true →
    receives p s = true → fb (loc .MP_RX_CFG p) F.MP_RX_CFG_MM_RX_EN s = true → (getRx p s).asm = none →
    exec (.mmFragmentReceive p smd frag b l bad code) s =
      .next (settle (bump (cPort p 36) (bump (cPort p 34) s)))) ∧
  (∀ (p f n c smd frag : Nat) (b : List Byte) (code l bad : Bool) (s : State), p < 64 → 4 ≤ smd → smd < 8 →
    rxPasses p s = true → receives p s = true → fb (loc .MP_RX_CFG p) F.MP_RX_CFG_MM_RX_EN s = true →
    (getRx p s).asm = some (f, n, c) →
    exec (.mmFragmentReceive p smd frag b l bad code) s = .next (settle (
      if smd - 4 = n ∧ frag % 4 = c then
        asmTake p f b code l bad (setRx p { getRx p s with asm := some (f, n, (c + 1) % 4) } (bump (cPort p 34) s))
      else asmError p (bump (cPort p 34) s)))) ∧
  (∀ (p f : Nat) (b : List Byte) (l bad : Bool) (t s : State), t = feed f (b.length + 1) b s →
    (∃ g, getF f t = some g ∧ g.code = false) →
    asmTake p f b false l bad s = if l then rxEnd f false (setRx p { getRx p t with asm := none } t)
      else if bad then asmError p t else t) ∧
  (∀ (p : Nat) (s : State), p < 64 → (getTx p s).fcDue = true → (getTx p s).cur = none → fcMay p s = true →
    fcMode p s = 2 →
    ∃ t, exec (.flowControlFrameSend p) s = .next t ∧ (getTx p t).fcDue = false ∧
      fg (loc .MP_TX_STATE p) F.MP_TX_STATE_XOFF_SENT t = xoffOrForced p s % 256 ∧
      (t.dp.out.getLast?.map (fun o => (o.port, o.kind))) = some (p, .pfcFrame)) ∧
  (∀ (p : Nat) (s : State), p < 64 → (getTx p s).fcDue = true → (getTx p s).cur = none → fcMay p s = true →
    fcMode p s = 1 →
    ∃ t, exec (.flowControlFrameSend p) s = .next t ∧ (getTx p t).fcDue = false ∧
      fb (loc .MP_TX_STATE p) F.MP_TX_STATE_PAUSE_SENT t =
        (pauseWanted p s && fg (loc .MP_TX_FC p) F.MP_TX_FC_QUANTA s != 0) ∧
      (t.dp.out.getLast?.map (fun o => (o.port, o.kind))) = some (p, .pauseFrame)) ∧
  (∀ (p : Nat) (s : State), p < 64 → fcMay p s = true → fg (loc .MP_TX_FC p) F.MP_TX_FC_REFRESH s ≠ 0 →
    (fcMode p s = 2 ∧ xoffOrForced p s ≠ 0) ∨ (fcMode p s = 1 ∧ pauseWanted p s = true) →
    exec (.fcRefresh p) s = .next (settle (
      if (getTx p s).cur.isNone then sendFc p s else setTx p { getTx p s with fcDue := true } s))) ∧
  (∀ (p : Nat) (s : State), p < 64 → fb (loc .MP_MM_CTRL p) F.MP_MM_CTRL_MM_TX_EN s = true → linkUp p s = true →
    mmState p s = 0 → fb (loc .MP_MM_CTRL p) F.MP_MM_CTRL_VERIFY_DIS s = true →
    exec (.mmEnable p) s = .next (settle (setMm p 2 1 s))) ∧
  (∀ (p : Nat) (s : State), p < 64 → fb (loc .MP_MM_CTRL p) F.MP_MM_CTRL_MM_TX_EN s = true → linkUp p s = true →
    mmState p s = 0 → fb (loc .MP_MM_CTRL p) F.MP_MM_CTRL_VERIFY_DIS s = false → (getTx p s).cur = none → duRole s ≠ 2 →
    ∃ t, exec (.mmEnable p) s = .next t ∧ mmState p t = 1 ∧ fg (loc .MP_MM_STATUS p) F.MP_MM_STATUS_ATTEMPTS t = 1 ∧
      t.dp.out = s.dp.out ++ [{ port := p, kind := .verify, bytes := [] }] ++
        (if (getTx p s).respondDue then [{ port := p, kind := .respond, bytes := [] }] else [])) ∧
  (∀ (p : Nat) (s : State), p < 64 → mmState p s = 1 →
    exec (.mmRespondReceived p) s =
      .next (settle (setFlag (loc .MP_TX_EVENT p) F.MP_TX_EVENT_MM_VERIFY_OK (setMm p 2 1 s)))) ∧
  (∀ (p : Nat) (s : State), p < 64 → mmState p s = 1 → max 1 (fg (loc .MP_MM_CTRL p) F.MP_MM_CTRL_VERIFY_LIMIT s) ≤
      fg (loc .MP_MM_STATUS p) F.MP_MM_STATUS_ATTEMPTS s →
    exec (.mmVerifyTimeout p) s =
      .next (settle (setFlag (loc .MP_TX_EVENT p) F.MP_TX_EVENT_MM_VERIFY_FAIL (setMm p 3 0 s)))) ∧
  (∀ (p : Nat) (s : State), p < 64 → mmState p s = 1 → fg (loc .MP_MM_STATUS p) F.MP_MM_STATUS_ATTEMPTS s <
      max 1 (fg (loc .MP_MM_CTRL p) F.MP_MM_CTRL_VERIFY_LIMIT s) →
    exec (.mmVerifyTimeout p) s = .next (settle (sendVerify p
      (fs (loc .MP_MM_STATUS p) F.MP_MM_STATUS_ATTEMPTS (fg (loc .MP_MM_STATUS p) F.MP_MM_STATUS_ATTEMPTS s + 1) s))))

/-! ## The transmit MAC (R365 to R384) -/

/-- With its port's island in RUN and no frame on the line, MAC_FRAME_START starts the next selected frame where it may start, with the
timestamp of its delimiter, refuses it at the first failed check, or, with nothing selected, resumes the frame preempted (R365, R369,
R374, R381). The end of a frame puts its last bytes out, counts it and completes it; an underrun cuts it (R372, R384). An mPacket
ends at a valid point that an express frame or the window's end needs (R382); that the command stands at that instant is log entry 36. -/
def Obligations.TransmittedFrames : Prop :=
  (∀ (p : Nat) (x : Sel) (f : Frame) (s : State), p < 64 → (getTx p s).cur = none →
    ((getTx p s).opened = none ∨ txLinkUp p s = true) → duStops s = false → islRun (portIsland p) s = true →
    nextSel p s = some x → x.ready = true → getF x.frame s = some f → refusal f s = 0 →
    startable (entryOf f s) f s = true →
    gateFit p x.cls (lenL (entryOf f s) f) s.tb.time (preemptable p x.cls s) s = true →
    ∃ t c, exec (.macFrameStart p) s = .next t ∧ (getTx p t).cur = some c ∧ c.frame = f.id ∧ c.sent = 0 ∧
      c.ts = txStamp p s ∧ fb (loc .MP_TX_STATE p) F.MP_TX_STATE_IN_FRAME t = true) ∧
  (∀ (p : Nat) (x : Sel) (f : Frame) (s : State), p < 64 → (getTx p s).cur = none →
    ((getTx p s).opened = none ∨ txLinkUp p s = true) → duStops s = false → islRun (portIsland p) s = true →
    nextSel p s = some x → x.ready = true → getF x.frame s = some f → refusal f s ≠ 0 →
    exec (.macFrameStart p) s = .next (settle (endTx f (refusal f s) none
      (returnCharge f.port f.id (countRefused f (refusal f s) s))))) ∧
  (∀ (p : Nat) (c : TxCur) (s : State), p < 64 → (getTx p s).cur = none → (getTx p s).opened = some c → txLinkUp p s = true →
    islRun (portIsland p) s = true → nextSel p s = none → continuable p c s = true →
    exec (.macFrameStart p) s = .next (settle (showTx p (setTx p
      { getTx p s with cur := some { c with began := s.tb.refill }, opened := none } s)))) ∧
  (∀ (p : Nat) (c : TxCur) (f : Frame) (b : List Byte) (s : State), p < 64 → (getTx p s).cur = some c → getF c.frame s = some f →
    f.ended = true → b = sentBytes (entryOf f s) f c.ts →
    exec (.txFrameEnd p) s = .next (settle (endTx f St.ok (some c.ts) (idleTx p
      (doIf (tsMode (entryOf f s) == 2) (bump (cPort p 59)) (countAbove p (b.length - c.sent)
        (rateAdd p true b.length (bumpBy (cPort p 42) b.length (bump (cPort p 41) (lineOut p
          (if c.pre = false then .frame else if c.frags = 0 then .preemptable c.smd else .last c.smd ((c.frags - 1) % 4))
          (b.drop c.sent) s)))))))))) ∧
  (∀ (p : Nat) (c : TxCur) (f : Frame) (s : State), p < 64 → (getTx p s).cur = some c → getF c.frame s = some f →
    f.ended = false →
    exec (.txUnderrun p) s = .next (settle (cutTx p stTxUnderrun
      (bump (cPort p 43) (setFlag (loc .MP_TX_EVENT p) F.MP_TX_EVENT_UNDERRUN s))))) ∧
  (∀ (p d : Nat) (c : TxCur) (f : Frame) (s : State), p < 64 → (getTx p s).cur = some c → getF c.frame s = some f →
    c.pre = true → d ≤ (presentBytes (entryOf f s) f c.ts).length →
    preemptAt p d (if f.fwd && !f.ended then (presentBytes (entryOf f s) f c.ts).length + 4 else sentLen (entryOf f s) f)
      c f s = true →
    ∃ t, exec (.mpacketPreempt p d) s = .next t ∧ (getTx p t).cur = none ∧
      (getTx p t).opened = some { c with sent := d, frags := c.frags + 1 } ∧
      fb (loc .MP_TX_STATE p) F.MP_TX_STATE_OPEN t = true) ∧
  (∀ (p d n : Nat) (c : TxCur) (f : Frame) (s : State), preemptAt p d n c f s = true → validPoint p d c n s = true)

/-! ## Reed engines: instructions (R197 to R206) -/

/-- The arithmetic of ALU and ALUI, modulo 2^64; shifts use the low six bits of the second operand. The words of the table
that name these rows are read as R197 lays them out. MOVW, EXT and INS bit by bit: MOVW writes 16 bits at 16·k and keeps or
clears the others, EXT moves a field to bit 0, INS writes a field and keeps the others; a field that passes bit 63 is a RANGE
fault. -/
def Obligations.ReedArithmeticAndFields : Prop :=
  (∀ (i : Nat) (c : Ctx) (s : State), MayIssue .alu i c s → c.waits (bits (fetch c s) 25 22) = false →
    c.waits (bits (fetch c s) 21 18) = false → c.waits (bits (fetch c s) 17 14) = false →
    exec (.alu i) s = .next (settle (setCtx (withReg (past c) (bits (fetch c s) 25 22)
      (let x := gReg c (bits (fetch c s) 21 18)
       let y := gReg c (bits (fetch c s) 17 14)
       match bits (fetch c s) 3 0 with
       | 0 => x + y
       | 1 => x - y
       | 2 => x &&& y
       | 3 => x ||| y
       | 4 => x ^^^ y
       | 5 => x <<< (y.toNat % 64)
       | _ => x >>> (y.toNat % 64))) s))) ∧
  (∀ (i : Nat) (c : Ctx) (s : State), MayIssue .alui i c s → c.waits (bits (fetch c s) 25 22) = false →
    c.waits (bits (fetch c s) 21 18) = false →
    exec (.alui i) s = .next (settle (setCtx (withReg (past c) (bits (fetch c s) 25 22)
      (let x := gReg c (bits (fetch c s) 21 18)
       let n := bits (fetch c s) 14 0
       match bits (fetch c s) 17 15 with
       | 0 => x + BitVec.ofNat 64 n
       | 1 => x - BitVec.ofNat 64 n
       | 2 => x &&& BitVec.ofNat 64 n
       | 3 => x ||| BitVec.ofNat 64 n
       | 4 => x ^^^ BitVec.ofNat 64 n
       | 5 => x <<< (n % 64)
       | _ => x >>> (n % 64))) s))) ∧
  (∀ (i : Nat) (c : Ctx) (s : State), MayIssue .movw i c s → c.waits (bits (fetch c s) 25 22) = false →
    ∃ v, exec (.movw i) s = .next (settle (setCtx (withReg (past c) (bits (fetch c s) 25 22) v) s)) ∧
      ∀ j, j < 64 → v.getLsbD j = (if j / 16 = bits (fetch c s) 17 16 then bit (fetch c s) (j % 16)
        else bit (fetch c s) 18 && (gReg c (bits (fetch c s) 25 22)).getLsbD j)) ∧
  (∀ (i : Nat) (c : Ctx) (s : State), MayIssue .ext i c s → c.waits (bits (fetch c s) 25 22) = false →
    c.waits (bits (fetch c s) 21 18) = false → bits (fetch c s) 17 12 + bits (fetch c s) 11 6 ≤ 63 →
    ∃ v, exec (.ext i) s = .next (settle (setCtx (withReg (past c) (bits (fetch c s) 25 22) v) s)) ∧
      ∀ j, j < 64 → v.getLsbD j = (decide (j ≤ bits (fetch c s) 11 6) &&
        (gReg c (bits (fetch c s) 21 18)).getLsbD (j + bits (fetch c s) 17 12))) ∧
  (∀ (i : Nat) (c : Ctx) (s : State), MayIssue .ins i c s → c.waits (bits (fetch c s) 25 22) = false →
    c.waits (bits (fetch c s) 21 18) = false → bits (fetch c s) 17 12 + bits (fetch c s) 11 6 ≤ 63 →
    ∃ v, exec (.ins i) s = .next (settle (setCtx (withReg (past c) (bits (fetch c s) 25 22) v) s)) ∧
      ∀ j, j < 64 → v.getLsbD j =
        (if bits (fetch c s) 17 12 ≤ j ∧ j ≤ bits (fetch c s) 17 12 + bits (fetch c s) 11 6 then
          (gReg c (bits (fetch c s) 21 18)).getLsbD (j - bits (fetch c s) 17 12)
        else (gReg c (bits (fetch c s) 25 22)).getLsbD j)) ∧
  (∀ (i : Nat) (c : Ctx) (s : State), 63 < bits (fetch c s) 17 12 + bits (fetch c s) 11 6 →
    (MayIssue .ext i c s →
      exec (.ext i) s = .next (settle (ctxFault Kind.range { c with issued := c.issued + 1 } s))) ∧
    (MayIssue .ins i c s →
      exec (.ins i) s = .next (settle (ctxFault Kind.range { c with issued := c.issued + 1 } s))))

/-- NOP, SYNC, CNT and the branches: where the pc goes, what the return stack holds, and where CALL and RET fault (R198). END
takes its verdict and ends the program, with the frame's learn requests released where it has ended; a verdict that the frame
may not have, or HEAD and HLEN beyond the window, is a fault; it waits for pending operations (R202, R207). The faults any row
meets: a word that encodes no instruction, an uncorrectable one (shown for NOP), which disables the cluster, the budget (shown
for NOP), and a time-out (R197, R211, R215, R217). -/
def Obligations.ReedBranchesAndEnds : Prop :=
  (∀ (i : Nat) (c : Ctx) (s : State), MayIssue .nop i c s → exec (.nop i) s = .next (settle (setCtx (past c) s))) ∧
  (∀ (i : Nat) (c : Ctx) (s : State), MayIssue .sync i c s → c.pend = [] → bit (fetch c s) 0 = false →
    exec (.sync i) s = .next (settle (setCtx (past c) s))) ∧
  (∀ (i : Nat) (c : Ctx) (s : State), MayIssue .sync i c s → c.pend ≠ [] → bit (fetch c s) 1 = true →
    exec (.sync i) s = .next (settle s)) ∧
  (∀ (i : Nat) (c : Ctx) (s : State), MayIssue .cnt i c s →
    exec (.cnt i) s = .next (settle (setCtx (past c) (bump (0x32C0 + bits (fetch c s) 5 0) s)))) ∧
  (∀ (i : Nat) (c : Ctx) (s : State), MayIssue .br i c s → c.waits (bits (fetch c s) 25 22) = false →
    c.waits (bits (fetch c s) 21 18) = false →
    exec (.br i) s = .next (settle (setCtx { past c with
      pc := if (let x := gReg c (bits (fetch c s) 25 22)
          let y := gReg c (bits (fetch c s) 21 18)
          match bits (fetch c s) 17 15 with
          | 0 => x == y
          | 1 => x != y
          | 2 => x.ult y
          | 3 => y.ule x
          | 4 => x.slt y
          | _ => y.sle x) then bits (fetch c s) 11 0 else (c.pc + 1) % 4096 } s))) ∧
  (∀ (i : Nat) (c : Ctx) (s : State), MayIssue .brh i c s → c.waits (bits (fetch c s) 25 23) = false →
    exec (.brh i) s = .next (settle (setCtx { past c with
      pc := if ((gReg c (bits (fetch c s) 25 23)).toNat % 65536 = bits (fetch c s) 15 0) ↔ (bit (fetch c s) 22 = false)
        then ((c.pc + 1) % 4096 + bits (fetch c s) 21 16) % 4096 else (c.pc + 1) % 4096 } s))) ∧
  (∀ (i : Nat) (c : Ctx) (s : State), MayIssue .bb i c s → c.waits (bits (fetch c s) 25 22) = false →
    exec (.bb i) s = .next (settle (setCtx { past c with
      pc := if (gReg c (bits (fetch c s) 25 22)).getLsbD (bits (fetch c s) 20 15) = bit (fetch c s) 21
        then bits (fetch c s) 11 0 else (c.pc + 1) % 4096 } s))) ∧
  (∀ (i : Nat) (c : Ctx) (s : State), MayIssue .jmp i c s →
    exec (.jmp i) s = .next (settle (setCtx { past c with pc := bits (fetch c s) 11 0 } s))) ∧
  (∀ (i : Nat) (c : Ctx) (s : State), MayIssue .call i c s → c.ret.length < 4 →
    exec (.call i) s = .next (settle (setCtx
      { past c with ret := (c.pc + 1) % 4096 :: c.ret, pc := bits (fetch c s) 11 0 } s))) ∧
  (∀ (i a : Nat) (r : List Nat) (c : Ctx) (s : State), MayIssue .ret i c s → c.ret = a :: r →
    exec (.ret i) s = .next (settle (setCtx { past c with ret := r, pc := a } s))) ∧
  (∀ (i : Nat) (c : Ctx) (s : State), MayIssue .jmpr i c s → c.waits (bits (fetch c s) 21 18) = false →
    exec (.jmpr i) s = .next (settle (setCtx
      { past c with pc := (gReg c (bits (fetch c s) 21 18)).toNat % 4096 } s))) ∧
  (∀ (i : Nat) (c : Ctx) (s : State),
    (MayIssue .call i c s → 4 ≤ c.ret.length →
      exec (.call i) s = .next (settle (ctxFault Kind.stack { c with issued := c.issued + 1 } s))) ∧
    (MayIssue .ret i c s → c.ret = [] →
      exec (.ret i) s = .next (settle (ctxFault Kind.stack { c with issued := c.issued + 1 } s)))) ∧
  (∀ (i : Nat) (k : VKind) (c : Ctx) (f : Frame) (s : State), MayIssue .end_ i c s → c.pend = [] →
    getF c.frame s = some f →
    verdictOf (bits (fetch c s) 25 23) ((gReg c (bits (fetch c s) 17 14)).toNat % 2 ^ 32) (resolvePend f) = some k →
    headBad (resolvePend f) = false →
    ∃ t, exec (.endFrame i) s = .next (settle (releaseLearns (resolvePend f).id t)) ∧
      (if k = .drop then bump (cClus (ctxCluster c.id) 7) else id) (setF { resolvePend f with
        verdict := some { kind := k, mirror := if bit (fetch c s) 22 then some (bits (fetch c s) 13 10) else none,
                          mark := bit (fetch c s) 21 }
        ctx := none
        endAt := ctxEngine c.id * 4096 + c.pc % 4096 } (freeCtx { c with issued := c.issued + 1 } s)) = t) ∧
  (∀ (i : Nat) (c : Ctx) (f : Frame) (s : State), MayIssue .end_ i c s → c.pend = [] → getF c.frame s = some f →
    verdictOf (bits (fetch c s) 25 23) ((gReg c (bits (fetch c s) 17 14)).toNat % 2 ^ 32) (resolvePend f) = none →
    exec (.endFrame i) s = .next (settle (ctxFault Kind.badVerdict { c with issued := c.issued + 1 } s))) ∧
  (∀ (i : Nat) (k : VKind) (c : Ctx) (f : Frame) (s : State), MayIssue .end_ i c s → c.pend = [] → getF c.frame s = some f →
    verdictOf (bits (fetch c s) 25 23) ((gReg c (bits (fetch c s) 17 14)).toNat % 2 ^ 32) (resolvePend f) = some k →
    headBad (resolvePend f) = true →
    exec (.endFrame i) s = .next (settle (ctxFault Kind.badVerdict { c with issued := c.issued + 1 } s))) ∧
  (∀ (i : Nat) (c : Ctx) (s : State), MayIssue .end_ i c s → c.pend ≠ [] → exec (.endFrame i) s = .next (settle s)) ∧
  (∀ (t : Nat) (f : Frame), f.tx = false →
    verdictOf 0 t f = some .drop ∧ verdictOf 1 t f = some (.deliver (t % 65536)) ∧
    verdictOf 2 t f = some (.forward (t % 32768)) ∧ verdictOf 3 t f = none) ∧
  (∀ (t : Nat) (f : Frame), f.tx = true → verdictOf 2 t f = none ∧ verdictOf 3 t f = some .send) ∧
  (∀ (i : Nat) (c : Ctx) (s : State), getCtx i s = some c → opOf (fetch c s) = none → CleanFetch c → c.issued < issueCap s →
    ∀ r, r ∈ [Instr.nop, .endFrame, .sync, .cnt, .alu, .alui, .movw, .ext, .ins, .ld, .st, .br, .brh, .bb, .jmp, .call,
      .ret, .jmpr, .lkp, .mtr, .hasha, .hashf, .csumIp4h, .csumIp4g, .csumL4] →
    exec (r i) s = .next (settle (ctxFault Kind.badOpcode { c with issued := c.issued + 1 } s))) ∧
  (∀ (i : Nat) (c : Ctx) (s : State), getCtx i s = some c → (c.issued, true) ∈ c.ecc → c.issued < issueCap s →
    ∃ e, exec (.nop i) s = .next (settle e) ∧
      fb (loc .RE_CL_STATUS (ctxCluster c.id)) F.RE_CL_STATUS_DISABLED e = true ∧
      fb (loc .RE_CL_EVENT (ctxCluster c.id)) F.RE_CL_EVENT_PS_ECC_FATAL e = true) ∧
  (∀ (i : Nat) (c : Ctx) (s : State), getCtx i s = some c → opOf (fetch c s) = some .nop → issueCap s ≤ c.issued →
    exec (.nop i) s = .next (settle (ctxFault Kind.overrun c s))) ∧
  (∀ (i : Nat) (c : Ctx) (s : State), getCtx i s = some c →
    exec (.contextTimeout i) s = .next (settle (ctxFault Kind.timeout c s)))

/-- LD and ST at OFS, or at OFS plus g[rs] with BASE, in the window, big-endian, and in the metadata, little-endian: a load
takes bytes that have arrived and fields that are not pending, and waits for others; a store changes no other window byte, and
is a META_RO fault below metadata byte 16; beyond the space both are RANGE faults (R193 to R195, R198). HASHA adds bytes of a
register, or of the window, to the accumulator (R204). With fewer than four operations pending and their registers free, LKP,
MTR and HASHF start an operation and go on, LKP with the charge and the learn request that M and L ask for; bad operands are
faults, and a fifth operation waits (R200 to R204). A register whose result is pending stalls its reader (shown for ALU).
LOOKUP_RESULT writes the result word, 0 where no entry is found; METER_CHARGE writes the colour and action, HASH_RESULT the
Toeplitz hash, the CRC-32C, or the digest. -/
def Obligations.ReedMemoryAndOperations : Prop :=
  (∀ (i a n : Nat) (c : Ctx) (f : Frame) (s : State), MayIssue .ld i c s → getF c.frame s = some f →
    c.waits (bits (fetch c s) 25 22) = false → (bit (fetch c s) 15 = true → c.waits (bits (fetch c s) 21 18) = false) →
    a = bits (fetch c s) 8 0 + (if bit (fetch c s) 15 then (gReg c (bits (fetch c s) 21 18)).toNat % 65536 else 0) →
    n = 2 ^ bits (fetch c s) 17 16 →
    (bit (fetch c s) 14 = false → a + n ≤ 256 → (∀ k, a ≤ k → k < a + n → notArrived f k = false) →
      exec (.ld i) s = .next (settle (setCtx (withReg (past c) (bits (fetch c s) 25 22)
        (BitVec.ofNat 64 (Bytes.toNat (winBytes f a n).reverse))) s))) ∧
    (bit (fetch c s) 14 = false → a + n ≤ 256 → (∃ k, a ≤ k ∧ k < a + n ∧ notArrived f k = true) →
      exec (.ld i) s = .next (settle s)) ∧
    (bit (fetch c s) 14 = true → a + n ≤ 64 → mdPending f a n = false →
      exec (.ld i) s = .next (settle (setCtx (withReg (past c) (bits (fetch c s) 25 22)
        (BitVec.ofNat 64 (u (metaBytes f) a n))) s))) ∧
    (bit (fetch c s) 14 = true → a + n ≤ 64 → mdPending f a n = true → exec (.ld i) s = .next (settle s)) ∧
    ((if bit (fetch c s) 14 then 64 else 256) < a + n →
      exec (.ld i) s = .next (settle (ctxFault Kind.range { c with issued := c.issued + 1 } s)))) ∧
  (∀ (i a n : Nat) (c : Ctx) (f : Frame) (s : State), MayIssue .st i c s → getF c.frame s = some f →
    c.waits (bits (fetch c s) 25 22) = false → (bit (fetch c s) 15 = true → c.waits (bits (fetch c s) 21 18) = false) →
    a = bits (fetch c s) 8 0 + (if bit (fetch c s) 15 then (gReg c (bits (fetch c s) 21 18)).toNat % 65536 else 0) →
    n = 2 ^ bits (fetch c s) 17 16 →
    (bit (fetch c s) 14 = false → a + n ≤ 256 →
      exec (.st i) s = .next (settle (setCtx (past c)
        (setF (storeWin a (bytesBE n (gReg c (bits (fetch c s) 25 22)).toNat) f) s)))) ∧
    (bit (fetch c s) 14 = true → 16 ≤ a → a + n ≤ 64 →
      exec (.st i) s = .next (settle (setCtx (past c)
        (setF (storeMeta a (bytesLE n (gReg c (bits (fetch c s) 25 22)).toNat) f) s)))) ∧
    (bit (fetch c s) 14 = true → a < 16 →
      exec (.st i) s = .next (settle (ctxFault Kind.metaRo { c with issued := c.issued + 1 } s))) ∧
    ((if bit (fetch c s) 14 then 64 else 256) < a + n →
      exec (.st i) s = .next (settle (ctxFault Kind.range { c with issued := c.issued + 1 } s)))) ∧
  (∀ (f : Frame) (a n v k : Nat), k < 256 → a + n ≤ 256 →
    winByte (storeWin a (bytesBE n v) f) k =
      (if a ≤ k ∧ k < a + n then BitVec.ofNat 8 (v / 256 ^ (a + n - 1 - k)) else winByte f k)) ∧
  (∀ (i : Nat) (c : Ctx) (s : State), MayIssue .hasha i c s → bit (fetch c s) 16 = true → bit (fetch c s) 21 = false →
    bits (fetch c s) 20 17 < 8 → c.waits (bits (fetch c s) 25 22) = false →
    c.acc.length + (bits (fetch c s) 20 17 + 1) ≤ 64 →
    exec (.hasha i) s = .next (settle (setCtx { past c with
      acc := c.acc ++ bytesBE (bits (fetch c s) 20 17 + 1) (gReg c (bits (fetch c s) 25 22)).toNat } s))) ∧
  (∀ (i a : Nat) (c : Ctx) (f : Frame) (s : State), MayIssue .hasha i c s → bit (fetch c s) 16 = false →
    (bit (fetch c s) 21 = true → c.waits (bits (fetch c s) 25 22) = false) → getF c.frame s = some f →
    a = bits (fetch c s) 8 0 + (if bit (fetch c s) 21 then (gReg c (bits (fetch c s) 25 22)).toNat % 65536 else 0) →
    a + (bits (fetch c s) 20 17 + 1) ≤ 256 → (∀ k, a ≤ k → k ≤ a + bits (fetch c s) 20 17 → notArrived f k = false) →
    c.acc.length + (bits (fetch c s) 20 17 + 1) ≤ 64 →
    exec (.hasha i) s = .next (settle (setCtx { past c with
      acc := c.acc ++ winBytes f a (bits (fetch c s) 20 17 + 1) } s))) ∧
  (∀ (i : Nat) (c : Ctx) (f : Frame) (s : State), MayIssue .lkp i c s → getF c.frame s = some f → c.pend.length < 4 →
    bits (fetch c s) 21 18 % 2 = 0 → (bit (fetch c s) 13 && bit (fetch c s) 12) = false → (bit (fetch c s) 13 && f.tx) = false →
    c.waits (bits (fetch c s) 25 22) = false → c.waits (bits (fetch c s) 21 18) = false →
    c.waits (bits (fetch c s) 21 18 + 1) = false →
    ((bit (fetch c s) 13 || bit (fetch c s) 12) = true → c.waits (bits (fetch c s) 17 14) = false) →
    (bit (fetch c s) 12 = true → bits (gReg c (bits (fetch c s) 17 14)).toNat 15 14 ≠ 3) →
    exec (.lkp i) s = .next (settle (setCtx { past c with pend := c.pend ++ [.lkp (bits (fetch c s) 25 22)
      ((gReg c (bits (fetch c s) 21 18)).toNat + (gReg c (bits (fetch c s) 21 18 + 1)).toNat % 65536 * 2 ^ 64)
      (if bit (fetch c s) 12 then some ((gReg c (bits (fetch c s) 17 14)).toNat % 2 ^ 14,
        bits (gReg c (bits (fetch c s) 17 14)).toNat 15 14) else none)
      (if bit (fetch c s) 13 then some ((gReg c (bits (fetch c s) 17 14)).toNat % 2 ^ 32) else none)] } s))) ∧
  (∀ (i : Nat) (c : Ctx) (s : State), MayIssue .lkp i c s →
    (bits (fetch c s) 21 18 % 2 = 1 ∨ (bit (fetch c s) 13 = true ∧ bit (fetch c s) 12 = true)) →
    exec (.lkp i) s = .next (settle (ctxFault Kind.badOperand { c with issued := c.issued + 1 } s))) ∧
  (∀ (i : Nat) (c : Ctx) (s : State), MayIssue .mtr i c s → c.waits (bits (fetch c s) 25 22) = false →
    c.waits (bits (fetch c s) 21 18) = false → c.waits (bits (fetch c s) 17 14) = false →
    bits (gReg c (bits (fetch c s) 17 14)).toNat 15 14 ≠ 3 →
    exec (.mtr i) s = .next (settle (if 4 ≤ c.pend.length then s else setCtx { past c with pend := c.pend ++ [.mtr
      (bits (fetch c s) 25 22)
      ((gReg c (bits (fetch c s) 21 18)).toNat % 65536) ((gReg c (bits (fetch c s) 17 14)).toNat % 2 ^ 14)
      (bits (gReg c (bits (fetch c s) 17 14)).toNat 15 14)] } s))) ∧
  (∀ (i : Nat) (c : Ctx) (s : State), MayIssue .hashf i c s → c.pend.length < 4 → c.waits (bits (fetch c s) 25 22) = false →
    (bits (fetch c s) 21 20 = 2 → c.waits (bits (fetch c s) 25 22 + 1) = false ∧ bits (fetch c s) 25 22 % 2 = 0) →
    bits (fetch c s) 21 20 < 3 → c.acc.length ≤ (if bits (fetch c s) 21 20 = 0 then 36 else 64) →
    exec (.hashf i) s = .next (settle (setCtx { past c with
      acc := [], pend := c.pend ++ [.hashf (bits (fetch c s) 25 22) (bits (fetch c s) 21 20) c.acc] } s))) ∧
  (∀ (i : Nat) (c : Ctx) (s : State), MayIssue .alu i c s → c.waits (bits (fetch c s) 21 18) = true →
    exec (.alu i) s = .next (settle s)) ∧
  (∀ (i r key corr : Nat) (fatal : List Nat) (ch : Option (Nat × Nat)) (c c1 : Ctx) (s : State), islRun 5 s = true →
    getCtx i s = some c → takePend c r = some (.lkp r key ch none, c1) →
    exec (.lookupResult i r corr fatal) s = .next (settle (setCtx (withReg c1 r
      (BitVec.ofNat 64 (lookup key ch (eccRead corr fatal s)).1)) (lookup key ch (eccRead corr fatal s)).2))) ∧
  (∀ (i r key t corr : Nat) (fatal : List Nat) (ch : Option (Nat × Nat)) (c c1 : Ctx) (f : Frame) (s e : State), islRun 5 s = true →
    getCtx i s = some c → takePend c r = some (.lkp r key ch (some t), c1) →
    e = setCtx (withReg c1 r (BitVec.ofNat 64 (lookup key ch (eccRead corr fatal s)).1)) (lookup key ch (eccRead corr fatal s)).2 →
    getF c.frame e = some f →
    exec (.lookupResult i r corr fatal) s =
      .next (settle (setF { f with learns := f.learns ++ [{ key := key, target := t, port := f.port }] } e))) ∧
  (∀ (key : Nat) (ch : Option (Nat × Nat)) (s : State), findKey key s = none → lookup key ch s = (0, bump (cTable 0) s)) ∧
  (∀ (key : Nat) (w : Nat) (e : Ent) (s : State), findKey key s = some (.inl w) → entAt (.inl w) s = some e →
    lookup key none s = (2 ^ 63 + b2n (decide (ovBase ≤ w)) * 2 ^ 62 + e.action % 32 * 2 ^ 48 + e.meter % 65536 * 2 ^ 32 +
      e.target % 65536, setHit (.inl w) (bump (cTable 1) (bump (cTable 0) s)))) ∧
  (∀ (i r idx n col : Nat) (c c1 : Ctx) (s : State), getCtx i s = some c → takePend c r = some (.mtr r idx n col, c1) →
    exec (.meterCharge i r) s = .next (settle (setCtx (withReg c1 r
      (BitVec.ofNat 64 ((chargeMeter idx n col s).1 + meterAction idx (chargeMeter idx n col s).1 s * 256)))
      (chargeMeter idx n col s).2))) ∧
  (∀ (i r fn : Nat) (b : List Byte) (c c1 : Ctx) (s : State), getCtx i s = some c → takePend c r = some (.hashf r fn b, c1) →
    fn < 2 →
    exec (.hashResult i r) s = .next (settle (setCtx (withReg c1 r (BitVec.ofNat 64
      (if fn = 0 then toeplitz (hashKey40 s) b else crc32c b))) s))) ∧
  (∀ (i r : Nat) (b : List Byte) (c c1 : Ctx) (s : State), getCtx i s = some c → takePend c r = some (.hashf r 2 b, c1) →
    exec (.hashResult i r) s = .next (settle (setCtx (withReg (withReg c1 r (BitVec.ofNat 64
      (crc32c b * 2 ^ 32 + crc poly32C (rd (loc .RE_DIGEST_SEED) s) b))) (r + 1) (BitVec.ofNat 64 b.length)) s)))

/-- The checksum instructions, once the bytes they read have arrived (R205, R206): CSUM_IP4H answers 0 for a header whose sum is right, 1 for
another and 2 where there is none; CSUM_IP4G stores the complement of the sum taken with the field as zero, and no other byte, and is a
fault where there is no header; CSUM_L4 registers a slot. -/
def Obligations.ReedChecksums : Prop :=
  (∀ (i n : Nat) (c : Ctx) (f : Frame) (s : State), MayIssue .csumIp4h i c s → getF c.frame s = some f →
    ip4Waits f ((gReg c (bits (fetch c s) 19 16)).toNat % 512) = false →
    c.waits (bits (fetch c s) 23 20) = false → c.waits (bits (fetch c s) 19 16) = false →
    ip4Header f ((gReg c (bits (fetch c s) 19 16)).toNat % 512) = some n →
    exec (.csumIp4h i) s = .next (settle (setCtx (withReg (past c) (bits (fetch c s) 23 20)
      (if fold16 (sum16 (winBytes f ((gReg c (bits (fetch c s) 19 16)).toNat % 512) n)) = 65535 then 0 else 1)) s))) ∧
  (∀ (i : Nat) (c : Ctx) (f : Frame) (s : State), MayIssue .csumIp4h i c s → getF c.frame s = some f →
    ip4Waits f ((gReg c (bits (fetch c s) 19 16)).toNat % 512) = false →
    c.waits (bits (fetch c s) 23 20) = false → c.waits (bits (fetch c s) 19 16) = false →
    ip4Header f ((gReg c (bits (fetch c s) 19 16)).toNat % 512) = none →
    exec (.csumIp4h i) s = .next (settle (setCtx (withReg (past c) (bits (fetch c s) 23 20) 2) s))) ∧
  (∀ (i n : Nat) (c : Ctx) (f : Frame) (s : State), MayIssue .csumIp4g i c s → getF c.frame s = some f →
    ip4Waits f ((gReg c (bits (fetch c s) 19 16)).toNat % 512) = false →
    c.waits (bits (fetch c s) 19 16) = false → ip4Header f ((gReg c (bits (fetch c s) 19 16)).toNat % 512) = some n →
    ∃ h, exec (.csumIp4g i) s = .next (settle (setCtx (past c) (setF h s))) ∧ h.id = f.id ∧
      winBytes h ((gReg c (bits (fetch c s) 19 16)).toNat % 512 + 10) 2 = bytesBE 2 (65535 - fold16 (sum16 (putBytes
        (winBytes f ((gReg c (bits (fetch c s) 19 16)).toNat % 512) n) 10 [0, 0]))) ∧
      ∀ k, k ≠ (gReg c (bits (fetch c s) 19 16)).toNat % 512 + 10 → k ≠ (gReg c (bits (fetch c s) 19 16)).toNat % 512 + 11 →
        winByte h k = winByte f k) ∧
  (∀ (i : Nat) (c : Ctx) (f : Frame) (s : State), MayIssue .csumIp4g i c s → getF c.frame s = some f →
    ip4Waits f ((gReg c (bits (fetch c s) 19 16)).toNat % 512) = false → c.waits (bits (fetch c s) 19 16) = false →
    ip4Header f ((gReg c (bits (fetch c s) 19 16)).toNat % 512) = none →
    exec (.csumIp4g i) s = .next (settle (ctxFault Kind.badOperand { c with issued := c.issued + 1 } s))) ∧
  (∀ (i : Nat) (c : Ctx) (f : Frame) (s : State), MayIssue .csumL4 i c s → getF c.frame s = some f →
    c.waits (bits (fetch c s) 19 16) = false → c.waits (bits (fetch c s) 15 12) = false → bit (fetch c s) 11 = true →
    exec (.csumL4 i) s = .next (settle (setCtx (past c) (setF { f with prog := { f.prog with
      slot1 := some { udp := bit (fetch c s) 10, ip := (gReg c (bits (fetch c s) 19 16)).toNat % 2 ^ 14,
                      l4 := (gReg c (bits (fetch c s) 15 12)).toNat % 2 ^ 14 } } } s)))) ∧
  (∀ (i : Nat) (c : Ctx) (f : Frame) (s : State), MayIssue .csumL4 i c s → getF c.frame s = some f →
    c.waits (bits (fetch c s) 19 16) = false → c.waits (bits (fetch c s) 15 12) = false → bit (fetch c s) 11 = false →
    exec (.csumL4 i) s = .next (settle (setCtx (past c) (setF { f with prog := { f.prog with
      slot0 := some { udp := bit (fetch c s) 10, ip := (gReg c (bits (fetch c s) 19 16)).toNat % 2 ^ 14,
                      l4 := (gReg c (bits (fetch c s) 15 12)).toNat % 2 ^ 14 } } } s))))

/-- The words of the instruction table are read as R197 lays them out, with every operand; another opcode, a reserved bit and
a reserved FN or CC encode no instruction. -/
def Obligations.ReedEncodings : Prop :=
  (∀ a b c d, a < 16 → b < 16 → c < 16 → d < 7 →
    opOf (0x04 * 2 ^ 26 + a * 2 ^ 22 + b * 2 ^ 18 + c * 2 ^ 14 + d) = some .alu ∧
    bits (0x04 * 2 ^ 26 + a * 2 ^ 22 + b * 2 ^ 18 + c * 2 ^ 14 + d) 25 22 = a ∧
    bits (0x04 * 2 ^ 26 + a * 2 ^ 22 + b * 2 ^ 18 + c * 2 ^ 14 + d) 21 18 = b ∧
    bits (0x04 * 2 ^ 26 + a * 2 ^ 22 + b * 2 ^ 18 + c * 2 ^ 14 + d) 17 14 = c ∧
    bits (0x04 * 2 ^ 26 + a * 2 ^ 22 + b * 2 ^ 18 + c * 2 ^ 14 + d) 3 0 = d) ∧
  (∀ a b c d, a < 16 → b < 16 → c < 7 → d < 2 ^ 15 →
    opOf (0x05 * 2 ^ 26 + a * 2 ^ 22 + b * 2 ^ 18 + c * 2 ^ 15 + d) = some .alui) ∧
  (∀ a b c d, a < 16 → b < 2 → c < 4 → d < 2 ^ 16 →
    opOf (0x06 * 2 ^ 26 + a * 2 ^ 22 + b * 2 ^ 18 + c * 2 ^ 16 + d) = some .movw) ∧
  (∀ a b c d, a < 16 → b < 16 → c < 64 → d < 64 →
    opOf (0x07 * 2 ^ 26 + a * 2 ^ 22 + b * 2 ^ 18 + c * 2 ^ 12 + d * 2 ^ 6) = some .ext ∧
    opOf (0x08 * 2 ^ 26 + a * 2 ^ 22 + b * 2 ^ 18 + c * 2 ^ 12 + d * 2 ^ 6) = some .ins) ∧
  (∀ a b c d, a < 16 → b < 16 → c < 16 → d < 512 →
    opOf (0x10 * 2 ^ 26 + a * 2 ^ 22 + b * 2 ^ 18 + c * 2 ^ 14 + d) = some .ld ∧
    opOf (0x11 * 2 ^ 26 + a * 2 ^ 22 + b * 2 ^ 18 + c * 2 ^ 14 + d) = some .st) ∧
  (∀ a b c d, a < 16 → b < 16 → c < 6 → d < 4096 →
    opOf (0x18 * 2 ^ 26 + a * 2 ^ 22 + b * 2 ^ 18 + c * 2 ^ 15 + d) = some .br) ∧
  (∀ d, d < 2 ^ 26 → opOf (0x19 * 2 ^ 26 + d) = some .brh) ∧
  (∀ a d, a < 2 ^ 11 → d < 4096 → opOf (0x1A * 2 ^ 26 + a * 2 ^ 15 + d) = some .bb) ∧
  (∀ b d, b < 16 → d < 4096 →
    opOf (0x1B * 2 ^ 26 + 0 * 2 ^ 24 + b * 2 ^ 18 + d) = some .jmp ∧
    opOf (0x1B * 2 ^ 26 + 1 * 2 ^ 24 + b * 2 ^ 18 + d) = some .call ∧
    opOf (0x1B * 2 ^ 26 + 2 * 2 ^ 24 + b * 2 ^ 18 + d) = some .ret ∧
    opOf (0x1B * 2 ^ 26 + 3 * 2 ^ 24 + b * 2 ^ 18 + d) = some .jmpr) ∧
  (∀ a, a < 2 ^ 14 → opOf (0x20 * 2 ^ 26 + a * 2 ^ 12) = some .lkp) ∧
  (∀ a, a < 2 ^ 12 → opOf (0x21 * 2 ^ 26 + a * 2 ^ 14) = some .mtr) ∧
  (∀ a d, a < 2 ^ 10 → d < 512 → opOf (0x22 * 2 ^ 26 + a * 2 ^ 16 + d) = some .hasha) ∧
  (∀ a, a < 2 ^ 6 → opOf (0x23 * 2 ^ 26 + a * 2 ^ 20) = some .hashf) ∧
  (∀ a, a < 2 ^ 14 →
    opOf (0x24 * 2 ^ 26 + 0 * 2 ^ 24 + a * 2 ^ 10) = some .csumIp4h ∧
    opOf (0x24 * 2 ^ 26 + 1 * 2 ^ 24 + a * 2 ^ 10) = some .csumIp4g ∧
    opOf (0x24 * 2 ^ 26 + 2 * 2 ^ 24 + a * 2 ^ 10) = some .csumL4 ∧
    opOf (0x24 * 2 ^ 26 + 3 * 2 ^ 24 + a * 2 ^ 10) = none) ∧
  (∀ a d, a < 32 → d < 256 → opOf (0x01 * 2 ^ 26 + a * 2 ^ 21 + d * 2 ^ 10) = some .end_) ∧
  (∀ d, d < 4 → opOf (0x02 * 2 ^ 26 + d) = some .sync) ∧
  (∀ d, d < 64 → opOf (0x03 * 2 ^ 26 + d) = some .cnt) ∧
  opOf 0 = some .nop ∧
  (∀ w, 1 ≤ w → w < 2 ^ 26 → opOf w = none) ∧
  (∀ w, w < 2 ^ 32 → bits w 31 26 ∉ [0x00, 0x01, 0x02, 0x03, 0x04, 0x05, 0x06, 0x07, 0x08, 0x10, 0x11, 0x18, 0x19, 0x1A,
    0x1B, 0x20, 0x21, 0x22, 0x23, 0x24] → opOf w = none)

/-- What the instructions that touch registers, the accumulator and pending operations leave alone: other contexts, every
frame but the context's own, the table, queues, rings, links and host memory, and every register but those of a recorded
fault, of a cluster's errors and of a wrapped counter. -/
def Obligations.ReedFrame : Prop :=
  ∀ r, r ∈ [Instr.nop, .sync, .cnt, .alu, .alui, .movw, .ext, .ins, .ld, .br, .brh, .bb, .jmp, .call, .ret, .jmpr, .lkp,
      .mtr, .hasha, .hashf, .csumIp4h] →
    ∀ (i : Nat) (s t : State), exec (r i) s = .next t → ∃ e, t = settle e ∧
      (∀ a, a ∉ [loc .RE_FAULT_LAST (i / 34), loc .RE_CL_EVENT (i / 34), loc .RE_CL_STATUS (i / 34), loc .PC_EVENT,
        loc .PC_WRAP_LAST] →
        rd a e = rd a s) ∧
      (∀ j, j ≠ i → getCtx j e = getCtx j s) ∧
      (∀ f, (∀ c, getCtx i s = some c → c.frame ≠ f) → getF f e = getF f s) ∧
      e.tab = s.tab ∧ e.wq = s.wq ∧ e.adm = s.adm ∧ e.te = s.te ∧ e.sc = s.sc ∧ e.host = s.host ∧ e.ev = s.ev ∧
      e.phy = s.phy ∧ e.os = s.os ∧ e.pins = s.pins ∧ e.ctl = s.ctl ∧ e.du = s.du ∧ e.boot = s.boot ∧ e.sv = s.sv ∧
      e.isl = s.isl ∧ e.tb = s.tb

/-! ## Reed engines: frames and programs (R189 to R192, R207 to R221) -/

/-- With the core in RUN, FRAME_DISPATCH gives the oldest undispatched frame of a port and direction, if none waits before it, to a free
context of the cluster with the most free contexts, or makes it wait with CTX_WAIT (R189 to R191, R213). VERDICT_TAKE_EFFECT
acts on the frame at the head of its line, which leaves the line: a received frame is dropped, delivered or forwarded, with its mirror
copy once it has ended, and a fault of its edits replaces its verdict; a transmitted one is sent or refused, dropped, or looped back,
once the data that this needs is there; a frame with no verdict waits (R192, R207, R208, R210). When the verdict of a frame that has
not ended drops it is log entry 40. -/
def Obligations.DispatchAndVerdicts : Prop :=
  (∀ (p cl i : Nat) (tx : Bool) (ecc : List (Nat × Bool)) (f : Frame) (s : State), p < 64 →
    ((lineOf p tx s).filterMap (fun x => getF x s)).find? (fun x => !x.dispatched) = some f → dispatchable f = true →
    islRun 2 s = true → (∀ w, firstWaiter s = some w → w = f.id) → pickCluster s = some cl → pickCtx cl s = some i →
    exec (.frameDispatch p tx ecc) s = .next (settle (place f cl i ecc s))) ∧
  (∀ (p : Nat) (tx : Bool) (ecc : List (Nat × Bool)) (f : Frame) (s : State), p < 64 →
    ((lineOf p tx s).filterMap (fun x => getF x s)).find? (fun x => !x.dispatched) = some f → dispatchable f = true →
    islRun 2 s = true → ((∃ w, firstWaiter s = some w ∧ w ≠ f.id) ∨ pickCluster s = none) → f.waited = false →
    ∃ e, exec (.frameDispatch p tx ecc) s = .next (settle e) ∧ e.dp.waiters = s.dp.waiters ++ [f.id] ∧
      fb (loc .RE_EVENT) F.RE_EVENT_CTX_WAIT e = true ∧ getF f.id e = some { f with waited := true }) ∧
  (∀ (cl : Nat) (s : State), pickCluster s = some cl → cl < 24 ∧ 0 < freeCount cl s ∧
    ∀ k, k < 24 → freeCount k s ≤ freeCount cl s) ∧
  (∀ (p i : Nat) (tx : Bool) (g : Frame) (l : List Nat) (s : State), p < 64 → lineOf p tx s = i :: l → getF i s = some g →
    g.verdict = none → exec (.verdictTakeEffect p tx) s = .next (settle s)) ∧
  (∀ (p i : Nat) (v : Verdict) (g : Frame) (l : List Nat) (t w s : State), p < 64 → lineOf p false s = i :: l →
    getF i s = some g → g.verdict = some v → g.dead = false → t = setF { g with effective := true } (drainLearns p (setLine p false l s)) →
    (g.ended = true → lateFault g ≠ 0 → exec (.verdictTakeEffect p false) s =
      .next (settle (rxFault g (kindStatus (lateFault g)) (noteLate g (lateFault g) t)))) ∧
    ((g.ended = true → lateFault g = 0) → w = (if g.ended then (v.mirror.map (fun m => mirrorCopy g m t)).getD t else t) →
      exec (.verdictTakeEffect p false) s = .next (settle (match v.kind with
        | .drop => if g.ended || (v.mirror.isNone && bodySettled g) then dropF g.id w else w
        | .deliver q => if g.store && !g.ended then w else deliverTo q g.id w
        | .forward n => (forwardTo n g.id w).2
        | .send => w
        | .fault st => rxFault { g with effective := true } st w)))) ∧
  (∀ (p i : Nat) (v : Verdict) (g : Frame) (l : List Nat) (s : State), p < 64 → lineOf p true s = i :: l → getF i s = some g →
    g.verdict = some v → g.dead = false → g.ended = false → (v.mirror.isSome = true ∨ ∃ q, v.kind = .deliver q) →
    exec (.verdictTakeEffect p true) s = .next (settle s)) ∧
  (∀ (p i : Nat) (v : Verdict) (g : Frame) (l : List Nat) (t s : State), p < 64 → lineOf p true s = i :: l →
    getF i s = some g → g.verdict = some v → g.dead = false →
    (g.ended = true ∨ (v.mirror = none ∧ ∀ q, v.kind ≠ .deliver q)) →
    t = (v.mirror.map (fun m => mirrorCopy g m (setF { g with effective := true } (setLine p true l s)))).getD
      (setF { g with effective := true } (setLine p true l s)) →
    (v.kind = .drop → exec (.verdictTakeEffect p true) s =
      .next (settle (endTx g St.txProgramDrop none (returnCharge g.port g.id t)))) ∧
    (∀ q, v.kind = .deliver q → exec (.verdictTakeEffect p true) s = .next (settle (loopback g q (returnCharge g.port g.id t)))) ∧
    (∀ w x, v.kind = .send → w = adjustCharge g.port g.id (chargeNow g.port g.id (emitLen g) t) t →
      selOf g.port g.id w = some x →
      exec (.verdictTakeEffect p true) s = .next (settle (if refusal g w = 0 then setSel g.port { x with ready := true } w
        else endTx g (refusal g w) none (returnCharge g.port g.id (countRefused g (refusal g w) w))))))

/-- With the store drained and no PROG_UPDATE at work, a write of a word of the standby bank, or of its entry table, is stored, and a switch
makes the standby bank active and enables every cluster; PS_DRAINED, once no context runs in the old bank, sets DRAINED and SWITCH_DONE
and completes a PROG_UPDATE that waits for it (R217 to R219). ENGINE_SUBST_REQUEST stores the engine and, with START, substitutes the
cluster's spare for it (R220). The rates of a millisecond are the means over its frames (R214); those of one without frames are free
values, the spec stating none (log entry 10). -/
def Obligations.ProgramStoreAndEngines : Prop :=
  (∀ (m : Master) (d : W32) (s : State), drained s = true → progRuns s = false → fb (loc .RE_PS_ADDR) F.RE_PS_ADDR_SPACE s = false →
    Writes (.psDataWrite m d) m (loc .RE_PS_DATA) d.toNat s
      (psAdvance (putStore (1 - fg (loc .RE_PS_CTRL) F.RE_PS_CTRL_ACTIVE s) (fg (loc .RE_PS_ADDR) F.RE_PS_ADDR_INDEX s)
        d.toNat s))) ∧
  (∀ (m : Master) (d : W32) (s : State), drained s = true → progRuns s = false → fb (loc .RE_PS_ADDR) F.RE_PS_ADDR_SPACE s = true →
    fg (loc .RE_PS_ADDR) F.RE_PS_ADDR_INDEX s < 128 →
    Writes (.psDataWrite m d) m (loc .RE_PS_DATA) d.toNat s
      (psAdvance (putEntry (1 - fg (loc .RE_PS_CTRL) F.RE_PS_CTRL_ACTIVE s) (fg (loc .RE_PS_ADDR) F.RE_PS_ADDR_INDEX s)
        d.toNat s))) ∧
  (∀ (m : Master) (d : W32) (s : State), drained s = true → progRuns s = false → bit d.toNat 31 = true →
    WriteOpen m (loc .RE_PS_CTRL) d.toNat s → ∃ e, exec (.psSwitch m d) s = .next (written m (loc .RE_PS_CTRL) d.toNat e) ∧
      activeBank e = standbyBank s ∧ drained e = false ∧ ∀ c, c < 24 → fb (loc .RE_CL_STATUS c) F.RE_CL_STATUS_DISABLED e = false) ∧
  (∀ (m : Master) (d : W32) (s : State), bit d.toNat 31 = false →
    Writes (.psSwitch m d) m (loc .RE_PS_CTRL) d.toNat s s) ∧
  (∀ (e s : State), drained s = false → (∀ c, c ∈ s.dp.ctxs → c.bank ≠ standbyBank s) →
    e = setFlag (loc .RE_EVENT) F.RE_EVENT_SWITCH_DONE (fs (loc .RE_PS_CTRL) F.RE_PS_CTRL_DRAINED 1 s) →
    exec .psDrained s = .next (settle (progKick (finishOpt s.dp.progCmd St.ok 0
      { e with dp := { e.dp with progCmd := none } })))) ∧
  (∀ s : State, (∃ c, c ∈ s.dp.ctxs ∧ c.bank = standbyBank s) → exec .psDrained s = .next (settle s)) ∧
  (∀ (m : Master) (cl : Nat) (d : W32) (s : State), cl < 24 → bit d.toNat 31 = false →
    Writes (.engineSubstRequest m cl d) m (loc .RE_CL_SUBST cl) d.toNat s
      (fs (loc .RE_CL_SUBST cl) F.RE_CL_SUBST_ENGINE (d.toNat % 32) s)) ∧
  (∀ (m : Master) (cl : Nat) (d : W32) (t s : State), cl < 24 → bit d.toNat 31 = true →
    substEngine cl (d.toNat % 32) none (fs (loc .RE_CL_SUBST cl) F.RE_CL_SUBST_ENGINE (d.toNat % 32) s) = some t →
    Writes (.engineSubstRequest m cl d) m (loc .RE_CL_SUBST cl) d.toNat s t) ∧
  (∀ s : State, s.dp.msFrames ≠ 0 → s.dp.msIssue ≠ 0 → s.dp.msElapsed ≠ 0 → ∃ t, exec .engineRateUpdate s = .next t ∧
    fg (loc .RE_RATE) F.RE_RATE_MEAN_ISSUE t = min (s.dp.msIssue * 16 / s.dp.msFrames) 65535 ∧
    fg (loc .RE_ELAPSED) F.RE_ELAPSED_MEAN_ELAPSED t = min (s.dp.msElapsed * 16 / s.dp.msFrames) 65535 ∧
    fg (loc .RE_RATE) F.RE_RATE_SUSTAIN t =
      (let e := (List.range 24).foldl (fun a c => a + (dispatching c s).length) 0
       min (min (e * 1600 * s.dp.msFrames / s.dp.msIssue) (2 * e * 1600 * s.dp.msFrames / s.dp.msElapsed)) 65535) ∧
    t.dp = { s.dp with msFrames := 0, msIssue := 0, msElapsed := 0 }) ∧
  (∀ s : State, s.dp.msFrames = 0 → ∃ t, exec .engineRateUpdate s = .next t ∧
    fg (loc .RE_RATE) F.RE_RATE_MEAN_ISSUE t = min (Config.idleRate 0) 65535 ∧
    fg (loc .RE_RATE) F.RE_RATE_SUSTAIN t = min (Config.idleRate 2) 65535 ∧
    fg (loc .RE_ELAPSED) F.RE_ELAPSED_MEAN_ELAPSED t = min (Config.idleRate 1) 65535 ∧
    t.dp = { s.dp with msFrames := 0, msIssue := 0, msElapsed := 0 })

/-! ## The scheduler (R344 to R363) -/

/-- A selection of a port that may select first refuses the heads that no window can hold, then gives the head of the leaf it picks to the
port with its charge; a port that may not select does nothing (R349, R364). A refill adds the rates, clips both buckets to their
bursts and applies a record that waits (R356, R357); a calendar whose instant has come is in force and its GATE_SET completes (R361); a
write of SC_NODE_SEL with CAPTURE copies the node's record and committed level. -/
def Obligations.SchedulerSteps : Prop :=
  (∀ (p : Nat) (r s : State), p < 64 → portSelectable p s = true →
    r = refuseHeads p (s.wq.execs.length + s.dp.frames.length) s →
    exec (.schedulerSelection p) s = .next (settle (match pickSvc p r with
      | some (path, t) => commitSel p path t
      | none => r))) ∧
  (∀ (p : Nat) (s : State), p < 64 → portSelectable p s = false → exec (.schedulerSelection p) s = .next (settle s)) ∧
  (∀ (p c : Nat) (r : List Nat) (i : TxItem) (s : State), leafHead (nodeNum c) s = some i →
    ∃ x, (getSp p (commitSel p (c :: r) s)).sels = (getSp p s).sels ++ [x] ∧ x.item = i ∧ x.leaf = nodeNum c ∧
      x.path = c :: r ++ [nodeCode 3 p] ∧ x.charge = chargeOf p (itemLen i s) s) ∧
  (∀ (level n : Nat) (s : State), level < 4 → n < 2 ^ 20 → nodeRec (nodeCode level n) s ≠ [] →
    ∃ t, exec (.bucketRefill level n) s = .next t ∧ t.sc.nodes = s.sc.nodes ∧ t.sc.fifo = s.sc.fifo ∧
      sget 0 t.sc.next (nodeCode level n) = 0 ∧
      (cenOf (nodeCode level n) t = true →
        levelC (nodeCode level n) t ≤ 64 * (recCbs (inForce (nodeCode level n) t) : Int)) ∧
      (penOf (nodeCode level n) t = true →
        levelP (nodeCode level n) t ≤ 64 * (recPbs (inForce (nodeCode level n) t) : Int))) ∧
  (∀ (level n : Nat) (s : State), level < 4 → n < 2 ^ 20 → nodeRec (nodeCode level n) s ≠ [] →
    sget 0 s.sc.next (nodeCode level n) = 0 → cenOf (nodeCode level n) s = true →
    ∃ t, exec (.bucketRefill level n) s = .next t ∧
      levelC (nodeCode level n) t = min (levelC (nodeCode level n) s + (recCir (inForce (nodeCode level n) s) : Int))
        (64 * (recCbs (inForce (nodeCode level n) s) : Int))) ∧
  (∀ (level n : Nat) (s : State), level < 4 → n < 2 ^ 20 → nodeRec (nodeCode level n) s ≠ [] →
    sget 0 s.sc.next (nodeCode level n) = 0 → penOf (nodeCode level n) s = true →
    ∃ t, exec (.bucketRefill level n) s = .next t ∧
      levelP (nodeCode level n) t = min (levelP (nodeCode level n) s + (recPir (inForce (nodeCode level n) s) : Int))
        (64 * (recPbs (inForce (nodeCode level n) s) : Int))) ∧
  (∀ (p a pr k : Nat) (c : Calendar) (s : State), p < 64 → (getSp p s).pendingCal = some (c, a, pr, k) →
    exec (.gateActivate p) s = .next (settle (finishCmd pr k St.ok (time64 (a * nsU)) 0 (scEvent p 3
      (putActive p (a * nsU) (some c) s)))) ∧
    (getSp p (putActive p (a * nsU) (some c) s)).active = some c ∧
    (getSp p (putActive p (a * nsU) (some c) s)).pendingCal = none) ∧
  (∀ (m : Master) (d : W32) (s : State), bit d.toNat 31 = false →
    Writes (.nodeCapture m d) m (loc .SC_NODE_SEL) d.toNat s (plainWrite .SC_NODE_SEL (loc .SC_NODE_SEL) d.toNat s)) ∧
  (∀ (m : Master) (d : W32) (w : Nat) (s : State), bit d.toNat 31 = true → w < 8 → WriteOpen m (loc .SC_NODE_SEL) d.toNat s →
    ∃ t, exec (.nodeCapture m d) s = .next (written m (loc .SC_NODE_SEL) d.toNat t) ∧
      rd (loc .SC_NODE_REC 0 w) t = u (nodeRec (nodeCode (bits d.toNat 29 28) (bits d.toNat 14 0)) s) (4 * w) 4 ∧
      rd (loc .SC_NODE_LVL_C) t = (if cenOf (nodeCode (bits d.toNat 29 28) (bits d.toNat 14 0)) s
        then levelWord (levelC (nodeCode (bits d.toNat 29 28) (bits d.toNat 14 0)) s) else 0))

/-- Round robin chooses one of the children it is given, whose deficit with its quanta covers the charge of its head; every
other child keeps its deficit or gains quanta (R351). Charging a node lowers the level of each bucket in force by 64 times the
charge, and touches no other node's buckets; a charge given back leaves the levels as a charge of 0 does (R353). -/
def Obligations.RoundRobinAndCharges : Prop :=
  (∀ (key pass : Nat) (cost : Nat → Int) (cs : List Nat) (c : Nat) (s t : State),
    dwrr key pass cost cs s = some (c, t) → pass < 2 → c ∈ cs ∧ t = { s with sc := t.sc } ∧
      (∀ d, d ≠ c → deficitOf d pass s ≤ deficitOf d pass t) ∧ (∀ d, deficitOf d (1 - pass) t = deficitOf d (1 - pass) s) ∧
      ((deficitOf c pass s : Int) ≤ deficitOf c pass t + cost c)) ∧
  (∀ (n : Int) (c : Nat) (s : State),
    (cenOf c s = true → levelC c (chargeNode n c s) = levelC c s - 64 * n) ∧
    (penOf c s = true → levelP c (chargeNode n c s) = levelP c s - 64 * n) ∧
    (cenOf c s = false → levelC c (chargeNode n c s) = levelC c s) ∧
    (penOf c s = false → levelP c (chargeNode n c s) = levelP c s) ∧
    (∀ d, d ≠ c → levelC d (chargeNode n c s) = levelC d s ∧ levelP d (chargeNode n c s) = levelP d s) ∧
    chargeNode (-n) c (chargeNode n c s) = chargeNode 0 c s)

/-! ## The transfer engine (R314 to R333) -/

/-- The commands of a general channel (R320, R331 to R333): a doorbell starts a scan or is remembered; PAUSE drains an idle or
running channel, the end of the drain parks it with HELD; unpausing an idle one resumes it; CANCEL ends the descriptor of a
parked channel with ABORTED and is refused in another state; ENABLE opens the channel at position 0; ENABLE = 0 closes a
stopped one, starts the closing of an idle one, and is refused while one runs or drains. Log entries 64 and 65 name the
readings. What a descriptor's first checks answer, in the order of R322, and how an element is converted: its low bytes, then
the sign or zeros (R322, R323). -/
def Obligations.TransferEngine : Prop :=
  (∀ (m : Master) (n : Nat) (d : W32) (s : State), n < 16 → teForeign m (48 + n) s = false → teState (48 + n) s ≠ 0 →
    bit d.toNat 29 = false → bit d.toNat 30 = fb (teLoc .TE_CTRL (48 + n)) F.TE_CTRL_PAUSE s →
    Writes (.teDoorbell m n d) m (teLoc .TE_CTRL (48 + n)) (d.toNat % 2 ^ 31 + 2 ^ 31) s
      (teScanStart (48 + n) (fs (teLoc .TE_CTRL (48 + n)) F.TE_CTRL_PAUSE (b2n (bit d.toNat 30)) s))) ∧
  (∀ (m : Master) (n : Nat) (s : State), n < 16 → teForeign m (48 + n) s = false → teState (48 + n) s ∈ [1, 2] →
    fb (teLoc .TE_CTRL (48 + n)) F.TE_CTRL_PAUSE s = false →
    WriteOpen m (teLoc .TE_CTRL (48 + n)) (2 ^ 30) s →
    ∃ e, exec (.tePause m n) s = .next (written m (teLoc .TE_CTRL (48 + n)) (2 ^ 30) e) ∧ teState (48 + n) e = 3 ∧
      teHoldBit (48 + n) F.TE_STATE_HOLD_PAUSE e = true) ∧
  (∀ (n : Nat) (s : State), n < 16 → teState (48 + n) s = 3 → teDrained (48 + n) s = true → teHeld (48 + n) s = true →
    teHoldBit (48 + n) F.TE_STATE_HOLD_FAULT s = false →
    ∃ t, exec (.teDrainEnd n) s = .next t ∧ teState (48 + n) t = 4 ∧
      bit (rd (loc .TE_EVENT ((48 + n) / 4)) t) (8 * ((48 + n) % 4) + 3) = true) ∧
  (∀ (m : Master) (n : Nat) (s : State), n < 16 → teForeign m (48 + n) s = false → teState (48 + n) s = 4 →
    fb (teLoc .TE_CTRL (48 + n)) F.TE_CTRL_PAUSE s = true → teHoldBit (48 + n) F.TE_STATE_HOLD_FAULT s = false →
    teHoldBit (48 + n) F.TE_STATE_HOLD_POWER s = false → (getTe (48 + n) s).phase = .none → (getTe (48 + n) s).cache = [] →
    (getTe (48 + n) s).closing = false → (getTe (48 + n) s).rescan = false → (getTe (48 + n) s).stopRoom = false →
    WriteOpen m (teLoc .TE_CTRL (48 + n)) 0 s →
    ∃ e, exec (.teUnpause m n) s = .next (written m (teLoc .TE_CTRL (48 + n)) 0 e) ∧ teState (48 + n) e = 1 ∧
      teHeld (48 + n) e = false) ∧
  (∀ (m : Master) (n : Nat) (pause : Bool) (s : State), n < 16 → teForeign m (48 + n) s = false → teState (48 + n) s = 4 →
    ((getTe (48 + n) s).phase = .data ∨ (getTe (48 + n) s).phase = .lists) →
    fb (teLoc .TE_CTRL (48 + n)) F.TE_CTRL_PAUSE s = pause →
    WriteOpen m (teLoc .TE_CTRL (48 + n)) (2 ^ 29 + b2n pause * 2 ^ 30) s →
    ∃ e, exec (.teCancel m n pause) s = .next (written m (teLoc .TE_CTRL (48 + n)) (2 ^ 29 + b2n pause * 2 ^ 30) e) ∧
      (getTe (48 + n) e).phase = .status ∧ (getTe (48 + n) e).status = St.aborted) ∧
  (∀ (m : Master) (n : Nat) (d : W32) (s : State), n < 16 → teForeign m (48 + n) s = false → teState (48 + n) s = 0 →
    fb (teLoc .TE_CFG (48 + n)) F.TE_CFG_ENABLE s = false → 3 ≤ teLog (48 + n) s → teLog (48 + n) s ≤ 16 →
    fb (teLoc .TE_CTRL (48 + n)) F.TE_CTRL_PAUSE s = false → (getTe (48 + n) s).power = [] →
    WriteOpen m (teLoc .TE_CFG (48 + n)) (d.toNat % 2 ^ 31 + 2 ^ 31) s →
    ∃ e, exec (.teEnable m n d) s = .next (written m (teLoc .TE_CFG (48 + n)) (d.toNat % 2 ^ 31 + 2 ^ 31) e) ∧
      teState (48 + n) e = 1 ∧ tePos (48 + n) e = 0 ∧ fb (teLoc .TE_CFG (48 + n)) F.TE_CFG_ENABLE e = true) ∧
  (∀ (m : Master) (n : Nat) (d : W32) (s : State), n < 16 → teForeign m (48 + n) s = false → teState (48 + n) s = 5 →
    WriteOpen m (teLoc .TE_CFG (48 + n)) (d.toNat % 2 ^ 31) s →
    ∃ e, exec (.teDisable m n d) s = .next (written m (teLoc .TE_CFG (48 + n)) (d.toNat % 2 ^ 31) e) ∧
      teState (48 + n) e = 0 ∧ tePos (48 + n) e = 0 ∧ fb (teLoc .TE_CFG (48 + n)) F.TE_CFG_ENABLE e = false ∧
      getTe (48 + n) e = { Te.off with rescan := (getTe (48 + n) s).rescan, power := (getTe (48 + n) s).power }) ∧
  (∀ (m : Master) (n : Nat) (d : W32) (s : State), n < 16 → teForeign m (48 + n) s = false → teState (48 + n) s = 1 →
    fb (teLoc .TE_CFG (48 + n)) F.TE_CFG_ENABLE s = true → (getTe (48 + n) s).phase = .none →
    (getTe (48 + n) s).finalDone = false → WriteOpen m (teLoc .TE_CFG (48 + n)) (d.toNat % 2 ^ 31) s →
    ∃ e, exec (.teDisable m n d) s = .next (written m (teLoc .TE_CFG (48 + n)) (d.toNat % 2 ^ 31) e) ∧
      fb (teLoc .TE_CFG (48 + n)) F.TE_CFG_ENABLE e = false ∧ (getTe (48 + n) e).closing = true) ∧
  (∀ (m : Master) (n : Nat) (d : W32) (s : State), n < 16 → teForeign m (48 + n) s = false → teState (48 + n) s ∈ [2, 3] →
    fb (teLoc .TE_CFG (48 + n)) F.TE_CFG_ENABLE s = true → WriteOpen m (teLoc .TE_CFG (48 + n)) (d.toNat % 2 ^ 31) s →
    exec (.teDisable m n d) s = .next (refusedWrite m (teLoc .TE_CFG (48 + n)) 7 s)) ∧
  (∀ (m : Master) (n : Nat) (pause : Bool) (s : State), n < 16 → teState (48 + n) s ≠ 4 →
    WriteOpen m (teLoc .TE_CTRL (48 + n)) (2 ^ 29 + b2n pause * 2 ^ 30) s →
    exec (.teCancel m n pause) s = .next (refusedWrite m (teLoc .TE_CTRL (48 + n)) 7 s)) ∧
  (∀ d : List Byte, 1 < u d 0 1 → descCheck d = St.badOpcode) ∧
  (∀ d : List Byte, u d 0 1 ≤ 1 → (descReserved d = false ∨ bits (u d 2 1) 2 0 = 7 ∨ bits (u d 2 1) 6 4 = 7) →
    descCheck d = St.reservedNonzero) ∧
  (∀ d : List Byte, u d 0 1 = 0 → descReserved d = true → bits (u d 2 1) 2 0 < 7 → bits (u d 2 1) 6 4 < 7 → dNelem d ≠ 0 →
    descCheck d = St.badLength) ∧
  (∀ (sew dew i : Nat) (sx : Bool) (b : List Byte), i < dew →
    (convertEl sew dew sx b).getD i 0 =
      (if i < sew then b.getD i 0 else if sx && bit (b.getD (sew - 1) 0).toNat 7 then 0xFF else 0)) ∧
  (∀ (sew dew : Nat) (sx : Bool) (b : List Byte), (convertEl sew dew sx b).length = dew)

/-! ## Host memory and translation (R60 to R74, R334 to R339) -/

/-- With the island that takes its answer in RUN, a read beat that is not the last adds its valid granules; the last one ends the access
that was issued with its tag: with an error HOST_READ_ERROR is reported; in single-read mode, and at the second read of an entry, the
data is used, two reads that differ counting a mismatch; after the first read the entry is read again. A write response answers its
write, or lets the DEV_OWNS byte be written, which an error forbids (R62 to R65, R69 to R71). With the island not in RUN the answer
waits at the crossing (R21). -/
def Obligations.HostMemoryAnswers : Prop :=
  (∀ (port tag gv : Nat) (data : BitVec 1024) (last err : Bool) (r : Req) (s : State), outReq port tag false s = some r →
    islRun (answerIsland r.purpose) s = false →
    exec (.hmpReadBeat port tag data gv last err) s = .next (settle (holdItem (.hmpReadBeat port tag data gv last err) s))) ∧
  (∀ (port tag gv : Nat) (data : BitVec 1024) (err : Bool) (r : Req) (s : State), outReq port tag false s = some r →
    islRun (answerIsland r.purpose) s = true →
    exec (.hmpReadBeat port tag data gv false err) s =
      .next (settle (setReq { r with data := r.data ++ beatBytes data gv, bad := r.bad || err } s))) ∧
  (∀ (port tag gv pa : Nat) (b : List Byte) (data : BitVec 1024) (err : Bool) (r : Req) (s : State),
    outReq port tag false s = some r → islRun (answerIsland r.purpose) s = true → r.phase = .out port tag pa →
    b = ((r.data ++ beatBytes data gv).drop (pa % 64)).take r.len →
    ((r.bad || err) = true → exec (.hmpReadBeat port tag data gv true err) s = .next (settle (afterAnswer
      (accessFailed r.purpose St.hostReadError (dropReq r.id s))))) ∧
    ((r.bad || err) = false → r.dbl = false → exec (.hmpReadBeat port tag data gv true err) s =
      .next (settle (afterAnswer (readDone r.purpose b true (dropReq r.id s))))) ∧
    ((r.bad || err) = false → r.dbl = true → r.first = none → readOver r.purpose = false → readHeld r.purpose s = false →
      exec (.hmpReadBeat port tag data gv true err) s = .next (settle (afterAnswer (setReq { r with
        phase := .fresh, first := some b, data := [], bad := false, via := none } (invalPassed r.id s))))) ∧
    (∀ c, (r.bad || err) = false → r.dbl = true → r.first = some c →
      exec (.hmpReadBeat port tag data gv true err) s = .next (settle (afterAnswer (readDone r.purpose b (c == b)
        (doIf (c != b) (fun t => bump (cWq 2) (setFlag (loc .WQ_EVENT) F.WQ_EVENT_DBL_MISMATCH t)) (dropReq r.id s))))))) ∧
  (∀ (port tag : Nat) (r : Req) (s : State), outReq port tag true s = some r → r.tail = none →
    islRun (answerIsland r.purpose) s = true →
    exec (.hmpWriteResponse port tag false) s =
      .next (settle (afterAnswer (writeDone r.purpose false (dropReq r.id s))))) ∧
  (∀ (port tag : Nat) (v : Byte) (r : Req) (s : State), outReq port tag true s = some r → r.tail = some v →
    islRun (answerIsland r.purpose) s = true → tailHeld r.purpose (dropReq r.id s) = false →
    exec (.hmpWriteResponse port tag false) s = .next (settle (afterAnswer (setReq { r with
      phase := .fresh, iova := r.iova + r.len, len := 1, data := [v], tail := none, via := none } (invalPassed r.id s))))) ∧
  (∀ (port tag : Nat) (r : Req) (s : State), outReq port tag true s = some r → islRun (answerIsland r.purpose) s = true →
    exec (.hmpWriteResponse port tag true) s = .next (settle (afterAnswer
      (accessFailed r.purpose St.hostWriteError (dropReq r.id s)))))

/-- Answers to translation and page requests, which are operands (log entry 48): an OK fills the cache, at most 8 entries a
set, and lets the accesses that wait go on; a FAULT holds them for a page request; a DENIED ends them with ACCESS_DENIED and
sets DENIED; an answer whose range has been invalidated is not used (R72 to R74, R334, R336). A page response lets its
accesses translate again or fails them; one after its time-out is ignored; a page request that times out fails its accesses
(R336, R337). Outside reset, none of what remains in the translation cache falls under an invalidation that has been accepted,
and translations under way in its range are not used; one with START of TR_INV removes the entries of its function, or all,
and sets BUSY. The first accepted, once the accesses and answers it waits for are there, completes: a TRP one with a pulse,
one of TR_INV with BUSY 0 (R74, R338). -/
def Obligations.TranslationsAndInvalidations : Prop :=
  (∀ (tag pa size st : Nat) (x : XReq) (s : State), s.host.xreqs.find? (fun y => y.tag == tag) = some x →
    x.discarded (if st = 0 then size else 0) = true →
    exec (.translationResponse tag pa size st) s = .next (settle (xlateAnswered tag s))) ∧
  (∀ (tag pa size : Nat) (x : XReq) (s : State), s.host.xreqs.find? (fun y => y.tag == tag) = some x →
    x.discarded size = false →
    exec (.translationResponse tag pa size 0) s = .next (settle (afterAnswer (fillTlb x pa size (xlateAnswered tag s))))) ∧
  (∀ (pa size : Nat) (x : XReq) (s : State), xWaiters x s = [] →
    (fillTlb x pa size s).host.tlb.head? =
      some { func := x.func, page := x.page / 2 ^ size * 2 ^ size, size := size, pa := pa, write := x.write } ∧
    ((∀ n, (s.host.tlb.filter (fun y => y.set == n)).length ≤ 8) →
      ∀ n, ((fillTlb x pa size s).host.tlb.filter (fun y => y.set == n)).length ≤ 8)) ∧
  (∀ (tag pa size : Nat) (x : XReq) (s : State), s.host.xreqs.find? (fun y => y.tag == tag) = some x →
    x.discarded 0 = false →
    exec (.translationResponse tag pa size 1) s = .next (settle (afterAnswer (forReqs (xWaiters x (xlateAnswered tag s)) faultOn
      (bump (cTr 2) (lastFault x false (xlateAnswered tag s))))))) ∧
  (∀ (tag pa size : Nat) (x : XReq) (s : State), s.host.xreqs.find? (fun y => y.tag == tag) = some x →
    x.discarded 0 = false →
    exec (.translationResponse tag pa size 2) s = .next (settle (afterAnswer (forReqs (xWaiters x (xlateAnswered tag s))
      (fun r t => xlateFailed r St.accessDenied t) (bump (cTr 5)
        (setFlag (loc .TR_EVENT) F.TR_EVENT_DENIED (wr (loc .TR_LAST_FUNC) (2 ^ 31 + x.func)
          (wr64 (loc .TR_LAST_FAULT) (x.page * 4096) (xlateAnswered tag s))))))))) ∧
  (∀ (id : Nat) (ok : Bool) (x : PReq) (s : State), s.host.preqs.find? (fun y => y.id == id) = some x → x.timedOut = true →
    exec (.pageResponse id ok) s = .next (settle { s with
      host := { s.host with preqs := s.host.preqs.filter (fun y => y.id != id) } })) ∧
  (∀ (id : Nat) (x : PReq) (t s : State), s.host.preqs.find? (fun y => y.id == id) = some x → x.timedOut = false →
    t = { s with host := { s.host with preqs := s.host.preqs.filter (fun y => y.id != id) } } →
    exec (.pageResponse id true) s = .next (settle (afterAnswer (forReqs (pWaiters x t)
      (fun r u => setReq { r with phase := .again } u) t))) ∧
    exec (.pageResponse id false) s = .next (settle (afterAnswer (pageFail x
      (setFlag (loc .TR_EVENT) F.TR_EVENT_PRS_FAIL t))))) ∧
  (∀ (id : Nat) (x : PReq) (s : State), s.host.preqs.find? (fun y => y.id == id) = some x → x.timedOut = false →
    x.timeout ≠ 0 →
    exec (.pageRequestTimeout id) s = .next (settle (afterAnswer (pageFail x (bump (cTr 6)
      (setFlag (loc .TR_EVENT) F.TR_EVENT_PRQ_TIMEOUT { s with host := { s.host with
          preqs := s.host.preqs.map (fun y => if y.id = id then { y with timedOut := true } else y) } })))))) ∧
  (∀ (f page size : Nat) (s : State), inReset s = false → size < 32 →
    ∃ e, exec (.trpInvalidation f page size) s = .next (settle e) ∧
      (∀ x, x ∈ e.host.tlb → x ∈ s.host.tlb ∧ ¬ (x.func = f ∧ overlap (page / 2 ^ size * 2 ^ size) size x.page x.size = true)) ∧
      (∀ x n, x ∈ e.host.xreqs → x.func = f → n < 32 →
        overlap (page / 2 ^ size * 2 ^ size) size (x.page / 2 ^ n * 2 ^ n) n = true → x.discarded n = true) ∧
      e.host.invals.length = s.host.invals.length + 1) ∧
  (∀ (i : Inval) (l : List Inval) (s : State), s.host.invals = i :: l → i.software = false → invalReady i s = true →
    exec .trpInvalidationDone s =
      .next (settle { s with host := { s.host with invals := l, invDone := s.host.invDone + 1 } })) ∧
  (∀ (m : Master) (all : Bool) (f : Nat) (s : State), f < 4096 → fb (loc .TR_INV) F.TR_INV_BUSY s = false →
    WriteOpen m (loc .TR_INV) (2 ^ 31 + b2n all * 2 ^ 29 + f) s →
    ∃ e, exec (.trInvStart m all f) s = .next (written m (loc .TR_INV) (2 ^ 31 + b2n all * 2 ^ 29 + f) e) ∧
      fb (loc .TR_INV) F.TR_INV_BUSY e = true ∧
      e.host.tlb = s.host.tlb.filter (fun x => !(all || f == x.func)) ∧
      (∀ x n, x ∈ e.host.xreqs → (all = true ∨ x.func = f) → x.discarded n = true)) ∧
  (∀ (i : Inval) (l : List Inval) (s : State), s.host.invals = i :: l → i.software = true → invalReady i s = true →
    exec .trInvDone s =
      .next (settle (fs (loc .TR_INV) F.TR_INV_BUSY 0 { s with host := { s.host with invals := l } })))

/-! ## Control accesses (R54 to R58, R82 to R102, R111) -/

/-- A control port queues requests in order, at most eight, carries out the oldest (shown for a read and a write of TB_FREQ), and
withdraws one that waits too long. An access that stalled completes once its island, clocked, runs, or with OFF where its wake has
fallen back to SLEEP (R54 to R57, R98, R99; a stalled access is a request that waits at the head of its port: log entry 21). -/
def Obligations.ControlQueues : Prop :=
  (∀ (m : Master) (w : Bool) (a : BitVec 26) (d : W32) (s : State), (ctlQueue m s).length < 8 → ctlQueue m s ≠ [] →
    exec (.controlRequestAccept m w a d) s = .next (settle (setCtlQueue m
      (ctlQueue m s ++ [{ write := w, addr := a.toNat, data := d, stalled := false }]) s))) ∧
  (∀ (m : Master) (w : Bool) (a : BitVec 26) (d : W32) (s : State), 8 ≤ (ctlQueue m s).length →
    exec (.controlRequestAccept m w a d) s = .next (settle s)) ∧
  (∀ (m : Master) (d : W32) (l : List CtlReq) (s : State),
    ctlQueue m s = { write := false, addr := loc .TB_FREQ, data := d, stalled := false } :: l →
    ReadOpen m (loc .TB_FREQ) (setCtlQueue m [] s) →
    exec (.controlRequestDispatch m) s =
      .next (settle (respond m .ok false (rd (loc .TB_FREQ) s) (setCtlQueue m l s)))) ∧
  (∀ (m : Master) (d : W32) (l : List CtlReq) (s : State),
    ctlQueue m s = { write := true, addr := loc .TB_FREQ, data := d, stalled := false } :: l →
    WriteOpen m (loc .TB_FREQ) d.toNat (setCtlQueue m [] s) →
    exec (.controlRequestDispatch m) s = .next (settle (setCtlQueue m l (respond m .ok true 0 (journalConfig (loc .TB_FREQ)
      d.toNat (plainWrite .TB_FREQ (loc .TB_FREQ) d.toNat (setCtlQueue m [] s))))))) ∧
  (∀ (m : Master) (r : CtlReq) (l : List CtlReq) (pg off : Nat) (s : State), ctlQueue m s = r :: l →
    reqPage r = some (pg, off) →
    exec (.controlRequestTimeout m) s = .next (settle (respond m .timeout r.write 0
      (recordAccess m r.write pg off 6 (setCtlQueue m l s))))) ∧
  (∀ (m : Master) (r : CtlReq) (l : List CtlReq) (s : State), ctlQueue m s = r :: l → r.stalled = true →
    (isl (reqIsland r) s).waking = false → (isl (reqIsland r) s).entering = false → (isl (reqIsland r) s).st = .run →
    clocked (reqIsland r) s = true →
    exec (.stalledAccessResume m) s = .next (settle (runHead m { r with stalled := false } l s))) ∧
  (∀ (m : Master) (r : CtlReq) (l : List CtlReq) (pg off : Nat) (s : State), ctlQueue m s = r :: l → r.stalled = true →
    (isl (reqIsland r) s).waking = false → (isl (reqIsland r) s).entering = false → (isl (reqIsland r) s).st = .sleep →
    clocked (reqIsland r) s = true → reqPage r = some (pg, off) →
    exec (.stalledAccessResume m) s = .next (settle (respond m .off r.write 0
      (recordAccess m r.write pg off 5 (setCtlQueue m l s)))))

/-- A register write that the rights, presence, the read-only range or the state of its page refuses changes no register but
the page's PAGE_ACCESS, which records the reason, the master, that it was a write, the offset, and counts; its response is
ACCESS (R56, R87). A write of PAGE_ACCESS with CLEAR sets it to 0; a write of PAGE_LOCK sets LOCK; in a locked page a write
that would change a once field is refused with reason LOCKED, in another page no write is (R87, R88). The steward writes the
rights of PAGE_ACL, those of the debug port only after the debug unlock; another master's write is refused with reason ACL
(R89). The steward writes GL_WINACL, another master's write is refused with reason ACL (R111). GL_HOSTCFG is written, but its
DBL_READ bit cannot change while a queue, pair, channel or dump fixes it: then the write is refused with reason STATE (R110).
-/
def Obligations.RefusalsAndPageHeaders : Prop :=
  (∀ (m : Master) (a : BitVec 26) (d : W32) (reason : Nat) (s : State), a.toNat % 4 = 0 → a.toNat < 0x100000 →
    (pageOf (a.toNat / 4096)).isSome = true → ctlQueue m s = [] → resetHolds a.toNat s = false →
    romOff (a.toNat / 4096) (a.toNat % 4096) s = false →
    tableCheck m true (a.toNat / 4096) (a.toNat % 4096) d.toNat s = some reason →
    ∃ e, exec (.registerWrite m a d) s = .next (settle e) ∧
      e.ctl = { s.ctl with rsp := s.ctl.rsp ++ [{ master := m, status := .access, rdata := 0 }] } ∧
      (∀ b, b ≠ hdrLoc .PAGE_ACCESS (a.toNat / 4096) → rd b e = rd b s) ∧
      fg (hdrLoc .PAGE_ACCESS (a.toNat / 4096)) F.PAGE_ACCESS_REASON e = reason ∧
      fg (hdrLoc .PAGE_ACCESS (a.toNat / 4096)) F.PAGE_ACCESS_MASTER e = m.code ∧
      fb (hdrLoc .PAGE_ACCESS (a.toNat / 4096)) F.PAGE_ACCESS_WRITE e = true ∧
      fg (hdrLoc .PAGE_ACCESS (a.toNat / 4096)) F.PAGE_ACCESS_OFFSET e = a.toNat % 4096 / 4 ∧
      fg (hdrLoc .PAGE_ACCESS (a.toNat / 4096)) F.PAGE_ACCESS_COUNT e =
        min 255 (fg (hdrLoc .PAGE_ACCESS (a.toNat / 4096)) F.PAGE_ACCESS_COUNT s + 1) ∧
      e = { s with regs := e.regs, ctl := e.ctl }) ∧
  (∀ (m : Master) (pg : BitVec 8) (s : State), (pageOf pg.toNat).isSome = true →
    Writes (.pageAccessClear m pg) m (hdrLoc .PAGE_ACCESS pg.toNat) 1 s (wr (hdrLoc .PAGE_ACCESS pg.toNat) 0 s)) ∧
  (∀ (m : Master) (pg : BitVec 8) (s : State), (pageOf pg.toNat).isSome = true →
    Writes (.pageLock m pg) m (hdrLoc .PAGE_LOCK pg.toNat) 1 s (wr (hdrLoc .PAGE_LOCK pg.toNat) 1 s)) ∧
  (∀ (m : Master) (a : BitVec 26) (d : W32) (s : State), a.toNat % 4 = 0 → a.toNat < 0x100000 →
    (pageOf (a.toNat / 4096)).isSome = true → ctlQueue m s = [] → resetHolds a.toNat s = false →
    romOff (a.toNat / 4096) (a.toNat % 4096) s = false →
    tableCheck m true (a.toNat / 4096) (a.toNat % 4096) d.toNat s = none →
    gate m (a.toNat / 4096) (a.toNat % 4096) s = .go → locked (a.toNat / 4096) (a.toNat % 4096) d.toNat s = true →
    exec (.registerWrite m a d) s = .next (refusedWrite m a.toNat 3 s)) ∧
  (∀ (pg off d i : Nat) (n : RegName) (s : State), fb (hdrLoc .PAGE_LOCK pg) F.PAGE_LOCK_LOCK s = true →
    regAt pg off = some (n, i, false) → n ≠ .PAGE_LOCK →
    (locked pg off d s = true ↔ ∃ j, bit n.row.once j = true ∧ bit (rd (pg * 4096 + off) s) j ≠ bit d j)) ∧
  (∀ (pg off d : Nat) (s : State), fb (hdrLoc .PAGE_LOCK pg) F.PAGE_LOCK_LOCK s = false → locked pg off d s = false) ∧
  (∀ (pg : BitVec 8) (d : W32) (s : State), (pageOf pg.toNat).isSome = true →
    WriteOpen .stw (hdrLoc .PAGE_ACL pg.toNat) d.toNat s →
    ∃ e, exec (.pageAclWrite .stw pg d) s = .next (written .stw (hdrLoc .PAGE_ACL pg.toNat) d.toNat e) ∧
      rd (hdrLoc .PAGE_ACL pg.toNat) e &&& 0x707 = d.toNat &&& 0x707 ∧
      fg (hdrLoc .PAGE_ACL pg.toNat) F.PAGE_ACL_ACL_DBG e =
        (if fb (loc .BT_DEBUG) F.BT_DEBUG_UNLOCKED s then bits d.toNat 26 24
         else fg (hdrLoc .PAGE_ACL pg.toNat) F.PAGE_ACL_ACL_DBG s) ∧
      (∀ b, b ≠ hdrLoc .PAGE_ACL pg.toNat → rd b e = rd b s) ∧ e = { s with regs := e.regs }) ∧
  (∀ (m : Master) (pg : BitVec 8) (d : W32) (s : State), (pageOf pg.toNat).isSome = true →
    ctlQueue m s = [] → resetHolds (hdrLoc .PAGE_ACL pg.toNat) s = false → m ≠ .stw →
    exec (.pageAclWrite m pg d) s = .next (refusedWrite m (hdrLoc .PAGE_ACL pg.toNat) 1 s)) ∧
  (∀ (d : W32) (s : State),
    Writes (.glWinaclWrite .stw d) .stw (loc .GL_WINACL) d.toNat s (plainWrite .GL_WINACL (loc .GL_WINACL) d.toNat s)) ∧
  (∀ (m : Master) (d : W32) (s : State), ctlQueue m s = [] → coldHeld s = false → romOff 0 (loc .GL_WINACL % 4096) s = false →
    m ≠ .stw → exec (.glWinaclWrite m d) s = .next (refusedWrite m (loc .GL_WINACL) 1 s)) ∧
  (∀ (m : Master) (d : W32) (s : State), dblFixed s = false ∨ bit d.toNat 0 = dblMode s →
    Writes (.hostcfgWrite m d) m (loc .GL_HOSTCFG) d.toNat s (plainWrite .GL_HOSTCFG (loc .GL_HOSTCFG) d.toNat s)) ∧
  (∀ (m : Master) (d : W32) (s : State), dblFixed s = true → bit d.toNat 0 ≠ dblMode s → WriteOpen m (loc .GL_HOSTCFG) d.toNat s →
    exec (.hostcfgWrite m d) s = .next (refusedWrite m (loc .GL_HOSTCFG) 7 s))

/-- A write of a register that has no behaviour of its own stores its writable bits and no others, and changes no other
register (R8, R95). -/
def Obligations.PlainRegisters : Prop :=
  ∀ (m : Master) (a : BitVec 26) (d : W32) (n : RegName) (i : Nat) (s : State), a.toNat % 4 = 0 → a.toNat < 0x100000 →
    (pageOf (a.toNat / 4096)).isSome = true → a.toNat % 4096 < 0x800 → clientPcs a.toNat s = false →
    regAt (a.toNat / 4096) (a.toNat % 4096) = some (n, i, false) →
    n.row.wide = false → n ∉ [RegName.PAGE_ACCESS, .PAGE_LOCK, .PAGE_ACL, .GL_HOSTCFG, .GL_SEM, .LN_CTRL, .LN_TXEQ, .LN_CAL, .LN_PRBS,
      .MP_PCS_CTRL, .OS_CFG, .ST_TIMING, .EV_PICC_MASK, .OS_SW_CTRL, .OS_CM_DATA, .OS_CLIENT, .MP_RX_LEN, .MP_PFC_THR, .MP_PFC_HDRM, .MP_WAKE_DATA,
      .MP_WAKE_STATUS, .MP_TX_CFG, .MP_TX_FC_FORCE, .MP_MM_CTRL, .RE_CL_SUBST, .RE_PS_CTRL, .RE_PS_DATA, .RE_BUDGET,
      .ST_RH_CTRL, .MT_CTRL, .SC_NODE_SEL, .SC_PCFG, .TE_CFG, .TE_RING, .TE_CTRL, .TE_STATE, .TE_PROG_ELEM,
      .TE_PROG_SRC, .TE_PROG_DST, .TE_FAULT, .HP_CHMAP, .TR_CFG, .TR_INV, .WQ_CFG, .WQ_CTX_SEL, .WQ_ADM_CFG,
      .WQ_ADM_DB, .EV_COMPLETE, .EV_SIL_MOD, .EV_SIL_DB, .EV_ROUTE_DATA, .EV_PICC_MAP, .TB_PHASE, .TB_ADJ, .PC_SEL,
      .PC_DUMP_CTRL, .PC_RATE_SEL, .PW_CFG, .BT_CTRL, .BT_FUSE_CTRL, .BT_DEBUG, .SV_RO_THR, .SV_LMAP, .SV_RETIRED,
      .SV_REPAIR_CMD] →
    WriteOpen m a.toNat d.toNat s →
    ∃ e, exec (.registerWrite m a d) s = .next (written m a.toNat d.toNat e) ∧ e = { s with regs := e.regs } ∧
      (∀ b, b ≠ a.toNat → rd b e = rd b s) ∧
      rd a.toNat e = (rd a.toNat s ^^^ (rd a.toNat s &&& (n.row.rw ||| n.row.once))) |||
        (d.toNat &&& (n.row.rw ||| n.row.once))

/-- R111: only the steward writes GL_WINACL; another master's write completes with ACCESS, reason ACL. Each field holds one
bit per master, CPA bit 0 to the debug port bit 3. -/
def Obligations.WindowRights : Prop :=
  (∀ (m : Master) (d : W32) (s : State), ctlQueue m s = [] → coldHeld s = false → romOff 0 (loc .GL_WINACL % 4096) s = false →
    m ≠ .stw → exec (.glWinaclWrite m d) s = .next (refusedWrite m (loc .GL_WINACL) 1 s)) ∧
  (∀ (d : W32) (s : State), WriteOpen .stw (loc .GL_WINACL) d.toNat s →
    exec (.glWinaclWrite .stw d) s =
      .next (written .stw (loc .GL_WINACL) d.toNat (plainWrite .GL_WINACL (loc .GL_WINACL) d.toNat s))) ∧
  (∀ (f : Fld) (s : State),
    winRight f .cpa s = bit (fg (loc .GL_WINACL) f s) 0 ∧ winRight f .cpb s = bit (fg (loc .GL_WINACL) f s) 1 ∧
    winRight f .stw s = bit (fg (loc .GL_WINACL) f s) 2 ∧ winRight f .dbg s = bit (fg (loc .GL_WINACL) f s) 3)

/-- R132: a write of LN_TXEQ whose coefficients total more than 32 has no effect and completes with ACCESS, reason STATE; one
within the total is stored. -/
def Obligations.CoefficientTotal : Prop :=
  (∀ (m : Master) (n : Nat) (a : BitVec 26) (d : W32) (s : State), n < 18 → a.toNat = loc .LN_TXEQ n → 32 < eqSum d.toNat →
    WriteOpen m (loc .LN_TXEQ n) d.toNat s →
    exec (.registerWrite m a d) s = .next (refusedWrite m (loc .LN_TXEQ n) 7 s)) ∧
  (∀ (m : Master) (n : Nat) (a : BitVec 26) (d : W32) (s : State), n < 18 → a.toNat = loc .LN_TXEQ n → eqSum d.toNat ≤ 32 →
    WriteOpen m (loc .LN_TXEQ n) d.toNat s →
    ∃ e, exec (.registerWrite m a d) s = .next (written m (loc .LN_TXEQ n) d.toNat e) ∧
      rd (loc .LN_TXEQ n) e = d.toNat % 2 ^ 30)

/-- R250: ST_SEED_CUR and ST_SEED_NEW read 0 to every master other than the steward. -/
def Obligations.SeedsHidden : Prop :=
  ∀ (m : Master) (a : Nat) (s : State), m ≠ .stw →
    a ∈ [loc .ST_SEED_CUR 0 0, loc .ST_SEED_CUR 0 1, loc .ST_SEED_NEW 0 0, loc .ST_SEED_NEW 0 1] → ReadOpen m a s →
    runReq m (rreq a) s = respond m .ok false 0 s

/-- R464: the rollback count is the number of consecutive 1 bits in ROLLBACK, counted from bit 0. -/
def Obligations.RollbackCount : Prop :=
  ∀ s : State, (∀ i, i < rollback s → bit (rollbackFuse s) i = true) ∧ rollback s ≤ 64 ∧
    (rollback s < 64 → bit (rollbackFuse s) (rollback s) = false)

/-- Semaphores: a claim of a free one and no other, a release by its holder with its token and no other, a forced release by
the steward and no other (R100, R101). -/
def Obligations.Semaphores : Prop :=
  (∀ (m : Master) (n : BitVec 6) (k : BitVec 16) (s : State), fb (loc .GL_SEM 0 n.toNat) F.GL_SEM_HELD s = false → k ≠ 0 →
    Writes (.semClaim m n k) m (loc .GL_SEM 0 n.toNat) k.toNat s
      (wr (loc .GL_SEM 0 n.toNat) (2 ^ 31 + m.code * 2 ^ 28 + k.toNat) s)) ∧
  (∀ (m : Master) (n : BitVec 6) (k : BitVec 16) (s : State), fb (loc .GL_SEM 0 n.toNat) F.GL_SEM_HELD s = true →
    Writes (.semClaim m n k) m (loc .GL_SEM 0 n.toNat) k.toNat s s) ∧
  (∀ (m : Master) (n : BitVec 6) (k : BitVec 16) (s : State), fb (loc .GL_SEM 0 n.toNat) F.GL_SEM_HELD s = true →
    fg (loc .GL_SEM 0 n.toNat) F.GL_SEM_MASTER s = m.code → fg (loc .GL_SEM 0 n.toNat) F.GL_SEM_TOKEN s = k.toNat →
    Writes (.semRelease m n k) m (loc .GL_SEM 0 n.toNat) (2 ^ 31 + k.toNat) s (wr (loc .GL_SEM 0 n.toNat) 0 s)) ∧
  (∀ (m : Master) (n : BitVec 6) (k : BitVec 16) (s : State), (fg (loc .GL_SEM 0 n.toNat) F.GL_SEM_MASTER s ≠ m.code ∨
      fg (loc .GL_SEM 0 n.toNat) F.GL_SEM_TOKEN s ≠ k.toNat) →
    Writes (.semRelease m n k) m (loc .GL_SEM 0 n.toNat) (2 ^ 31 + k.toNat) s s) ∧
  (∀ (n : BitVec 6) (s : State),
    Writes (.semForce .stw n) .stw (loc .GL_SEM 0 n.toNat) (2 ^ 30) s (wr (loc .GL_SEM 0 n.toNat) 0 s)) ∧
  (∀ (m : Master) (n : BitVec 6) (s : State), m ≠ .stw →
    Writes (.semForce m n) m (loc .GL_SEM 0 n.toNat) (2 ^ 30) s s)

/-- R102: a cold reset releases every semaphore; a warm reset releases those held by CPA, CPB and the debug port, and keeps
those held by the steward. -/
def Obligations.SemaphoresAtReset : Prop :=
  (∀ (n : Nat) (s : State), n < 64 → s.pins.rstN = true →
    ∃ t, exec .coldResetAssert s = .next t ∧ fb (loc .GL_SEM 0 n) F.GL_SEM_HELD t = false) ∧
  (∀ (n : Nat) (s : State), n < 64 → s.pins.warmN = true → coldHeld s = false →
    ∃ t, exec .warmResetAssert s = .next t ∧
      (fg (loc .GL_SEM 0 n) F.GL_SEM_MASTER s ≠ Master.stw.code → fb (loc .GL_SEM 0 n) F.GL_SEM_HELD t = false) ∧
      (fg (loc .GL_SEM 0 n) F.GL_SEM_MASTER s = Master.stw.code → rd (loc .GL_SEM 0 n) t = rd (loc .GL_SEM 0 n) s))

/-- Flag aliases: a set alias sets the bits written that are not sticky, a clear alias clears the bits written but for those
the hardware sets in the same cycle (R93, R94); the 64-bit registers: a low word is staged, a high word writes both, a low
read shadows the high word (R96), shown for SC_PFC_BANDS. The staging of a low word is log entry 20. -/
def Obligations.AliasesAndWideRegisters : Prop :=
  (∀ (m : Master) (pg w : BitVec 8) (d : W32) (s : State), (pageOf pg.toNat).isSome = true →
    clientPcs (pg.toNat * 4096 + 0x800 + 4 * w.toNat) s = false →
    Writes (.flagSetAlias m pg w d) m (pg.toNat * 4096 + 0x800 + 4 * w.toNat) d.toNat s
      (setAlias (pg.toNat * 4096 + 0x400 + 4 * w.toNat) d.toNat s)) ∧
  (∀ (m : Master) (pg w : BitVec 8) (d hw : W32) (s : State), (pageOf pg.toNat).isSome = true →
    clientPcs (pg.toNat * 4096 + 0xC00 + 4 * w.toNat) s = false →
    Writes (.flagClearAlias m pg w d hw) m (pg.toNat * 4096 + 0xC00 + 4 * w.toNat) d.toNat s
      (clearAlias (pg.toNat * 4096 + 0x400 + 4 * w.toNat) d.toNat hw.toNat s)) ∧
  (∀ (a v hw i k : Nat) (n : RegName) (s : State), regAt (a / 4096) (a % 4096) = some (n, k, false) → n ≠ .PC_WRAP → i < 32 →
    bit (rd a (clearAlias a v hw s)) i = ((bit (rd a s) i && !(bit v i && bit (n.row.rw ||| n.row.sticky) i)) ||
      (bit hw i && bit n.row.sticky i))) ∧
  (∀ (a v i k : Nat) (n : RegName) (s : State), regAt (a / 4096) (a % 4096) = some (n, k, false) → i < 32 →
    bit (rd a (setAlias a v s)) i = (bit (rd a s) i || (bit v i && bit n.row.rw i))) ∧
  (∀ (m : Master) (a : BitVec 26) (s : State), a.toNat = loc .SC_PFC_BANDS 0 → ReadOpen m a.toNat s →
    exec (.reg64LowRead m a) s = .next (readBack m (rd a.toNat s) (setShadow m (rd (a.toNat + 4) s) s))) ∧
  (∀ (m : Master) (a : BitVec 26) (d : W32) (s : State), a.toNat = loc .SC_PFC_BANDS 0 →
    Writes (.reg64LowWrite m a d) m a.toNat d.toNat s (stageLow m a.toNat d.toNat s)) ∧
  (∀ (m : Master) (a : BitVec 26) (lo hi : W32) (s : State), a.toNat = loc .SC_PFC_BANDS 0 + 4 →
    sget none s.ctl.staged m.code = some (loc .SC_PFC_BANDS 0, lo) → WriteOpen m a.toNat hi.toNat s →
    ∃ e, exec (.reg64HighWrite m a hi) s = .next (written m a.toNat hi.toNat e) ∧
      rd (loc .SC_PFC_BANDS 0) e = lo.toNat ∧ rd (loc .SC_PFC_BANDS 0 + 4) e = hi.toNat ∧
      sget none e.ctl.staged m.code = none)

/-! ## Scans of queues, fences and doorbells (R16, R58, R60, R267 to R273) -/

/-- SCAN_CONTINUE: a scan of a submission queue that stopped for room issues the read of the entry at the queue's position,
one of an admin pair starts again, one of a general channel goes on or starts a scan requested meanwhile; a queue or pair with
no scan stopped is left as it is. CREDIT_SCAN of an active completion queue with credit to win reads the slot after the
credited ones; asked for while one runs it is started after that one; the poll timer asks for one during a backlog episode
only (R271, R273). A frame whose hold budget ends while it waits leaves the queue, one that does not wait is left as it is.
FENCE_COMPLETE ends a fence, and what waits for it, once no output before it is outstanding and no earlier fence is, and does
nothing before (R16, R37). That an event that cannot occur changes nothing of its own is log entry 4. With the queue contexts
in RUN and no block entry in progress, a doorbell of the function's own window counts; one whose handle names an active
submission queue starts or requests its scan, one that names an active completion queue its credit scan and arming; one with
an unknown handle, or from another function's window, is dropped: the drop is counted, DB_VIOLATION set and, where the source
has a route, a record reported with the function as its fault domain (R60). With the queue contexts not in RUN, or in a
STANDBY, a doorbell that wakes nothing is counted and recorded. A write of a doorbell window by a control port with the right
is a doorbell of the window's function; without the right its response is ACCESS and no queue changes (R58). -/
def Obligations.QueueScansAndDoorbells : Prop :=
  (∀ (q : Nat) (s : State), (getSq q s).stopRoom = true → (getSq q s).state = .active → (getSq q s).scanning = false →
    (getSq q s).refetch = false → scanHeld (getSq q s) s = false → cached q s < prefetch s →
    exec (.scanContinue 0 q) s = .next (settle (ownRead (cqChan (getSq q s).cq) (getSq q s).func
      ((getSq q s).base + 64 * (getSq q s).pos) (.sqEntry q (getSq q s).pos)
      (setSq q { getSq q s with scanning := true, stopRoom := false, refetch := false } s)))) ∧
  (∀ (q : Nat) (s : State), (getSq q s).stopRoom = false → exec (.scanContinue 0 q) s = .next (settle s)) ∧
  (∀ (p : Nat) (s : State), (getPair (pairOf p) s).stopRoom = true →
    exec (.scanContinue 1 p) s = .next (settle (admScanStart (pairOf p) s))) ∧
  (∀ (p : Nat) (s : State), (getPair (pairOf p) s).stopRoom = false → exec (.scanContinue 1 p) s = .next (settle s)) ∧
  (∀ (n : Nat) (s : State), n < 16 → (getTe (48 + n) s).scanning = false → (getTe (48 + n) s).closing = false →
    (getTe (48 + n) s).rescan = false → (getTe (48 + n) s).stopRoom = true →
    exec (.scanContinue 2 n) s = .next (settle (teScanNext (48 + n) s))) ∧
  (∀ (n : Nat) (s : State), n < 16 → (getTe (48 + n) s).scanning = false → (getTe (48 + n) s).closing = false →
    (getTe (48 + n) s).rescan = true →
    exec (.scanContinue 2 n) s =
      .next (settle (teScanStart (48 + n) (setTe (48 + n) { getTe (48 + n) s with rescan := false } s)))) ∧
  (∀ (c : Nat) (s : State), (getCq c s).state = .active → (getCq c s).scan = false →
    (getCq c s).credit < creditMax (getCq c s).logSize →
    exec (.creditScan c) s = .next (settle (ownRead (cqChan c) (getCq c s).func
      ((getCq c s).base + 32 * (((getCq c s).prod + (getCq c s).credit) % 2 ^ (getCq c s).logSize))
      (.cqScan c (((getCq c s).prod + (getCq c s).credit) % 2 ^ (getCq c s).logSize))
      (setCq c { getCq c s with scan := true, found := 0 } s)))) ∧
  (∀ (c : Nat) (s : State), (getCq c s).state = .active → (getCq c s).scan = true →
    exec (.creditScan c) s = .next (settle (setCq c { getCq c s with rescan := true } s))) ∧
  (∀ (c : Nat) (s : State), (getCq c s).episode = true → fg (loc .WQ_CFG) F.WQ_CFG_CQ_POLL s ≠ 0 →
    exec (.cqPollTimer c) s = .next (settle (cqScanStart c s))) ∧
  (∀ (c : Nat) (s : State), ((getCq c s).episode = false ∨ fg (loc .WQ_CFG) F.WQ_CFG_CQ_POLL s = 0) →
    exec (.cqPollTimer c) s = .next (settle s)) ∧
  (∀ (q f : Nat) (s : State), f ∈ (getSq q s).waiting → exec (.holdBudgetExpiry q f) s = .next (settle (holdDrop q f s))) ∧
  (∀ (q f : Nat) (s : State), f ∉ (getSq q s).waiting → exec (.holdBudgetExpiry q f) s = .next (settle s)) ∧
  (∀ (n : Nat) (g : Fence) (s : State), s.wq.fences.find? (fun h => h.id == n) = some g →
    ((∃ o, o ∈ s.wq.outs ∧ o < g.upto) ∨ (∃ h, h ∈ s.wq.fences ∧ h.id < n)) →
    exec (.fenceComplete n) s = .next (settle s)) ∧
  (∀ (n : Nat) (g : Fence) (s : State), s.wq.fences.find? (fun h => h.id == n) = some g → (∀ o, o ∈ s.wq.outs → g.upto ≤ o) →
    (∀ h, h ∈ s.wq.fences → n ≤ h.id) →
    exec (.fenceComplete n) s = .next (settle
      (forEach ((s.te.filter (fun p => p.2.fence == some n)).map (·.1)) teStatusWrite
        (forEach ((s.wq.execs.filter (fun e => e.fence == some n)).map (·.sq)) completeSq
          (finishOpt g.cmd St.ok 0 { s with wq := { s.wq with fences := s.wq.fences.filter (fun h => h.id != n) } }))))) ∧
  (∀ (f h q : Nat) (s : State), f < 4096 → h < 512 → inReset s = false → islRun 4 s = true → blockEntering s = false →
    duRole s ≠ 2 → handleQueue f h s = some (.inl q) → (getSq q s).state = .active →
    exec (.doorbell f (f * 512 + h)) s = .next (settle (sqScanStart q (bump (cWq 0) s)))) ∧
  (∀ (f h c : Nat) (s : State), f < 4096 → h < 512 → inReset s = false → islRun 4 s = true → blockEntering s = false →
    duRole s ≠ 2 → handleQueue f h s = some (.inr c) → (getCq c s).state = .active →
    exec (.doorbell f (f * 512 + h)) s = .next (settle (cqDoorbell c (bump (cWq 0) s)))) ∧
  (∀ (f h : Nat) (s : State), f < 4096 → h < 512 → inReset s = false → islRun 4 s = true → blockEntering s = false →
    duRole s ≠ 2 → handleQueue f h s = none →
    exec (.doorbell f (f * 512 + h)) s =
      .next (settle (doorbellDrop f (f * 512 + h) St.badHandle (bump (cWq 0) s)))) ∧
  (∀ (f w h : Nat) (s : State), f < 4096 → w < 4096 → h < 512 → w ≠ f → inReset s = false → islRun 4 s = true →
    exec (.doorbell f (w * 512 + h)) s =
      .next (settle (doorbellDrop f (w * 512 + h) St.accessDenied (bump (cWq 0) s)))) ∧
  (∀ (f a st : Nat) (t s : State), t = setFlag (loc .WQ_EVENT) F.WQ_EVENT_DB_VIOLATION (bump (cWq 1) s) →
    doorbellDrop f a st s = if bit (sget 0 s.ev.routes 0xD0) 31
      then report (sget 0 s.ev.routes 0xD0 % 1024) st 0x07 f (a * 8) 0 (some f) t else t) ∧
  (∀ (f h : Nat) (s : State), f < 4096 → h < 512 → inReset s = false → islRun 4 s = false ∨ duRole s = 2 →
    fb (loc .PW_CFG) F.PW_CFG_DB_WAKE s = false → s.pw.bells.contains (f, h) = false →
    exec (.doorbell f (f * 512 + h)) s =
      .next (settle { bump (cWq 0) s with pw := { s.pw with bells := s.pw.bells ++ [(f, h)] } })) ∧
  (∀ (m : Master) (f : BitVec 12) (h : BitVec 9) (s : State), ctlQueue m s = [] → inReset s = false →
    winRight F.GL_WINACL_DB_WR m s = true → windowsOff s = false →
    exec (.doorbellViaControlPort m f h) s =
      .next (settle (respond m .ok true 0 (doorbellWake f.toNat (f.toNat * 512 + h.toNat) s)))) ∧
  (∀ (f a : Nat) (s : State), f < 4096 → a < 2 ^ 21 → inReset s = false →
    exec (.doorbell f a) s = .next (settle (doorbellWake f a s))) ∧
  (∀ (m : Master) (f : BitVec 12) (h : BitVec 9) (s : State), ctlQueue m s = [] → inReset s = false →
    winRight F.GL_WINACL_DB_WR m s = false →
    ∃ e, exec (.doorbellViaControlPort m f h) s = .next (settle e) ∧ e.wq = s.wq ∧
      e.ctl.rsp = s.ctl.rsp ++ [{ master := m, status := .access, rdata := 0 }])

/-! ## Sources, windows and messages (R75, R386 to R404) -/

/-- An edge of a privileged source sets its EV_PRIV bit, or is merged and counted where the bit is 1; a thermal trip also sets
GL_ALERT THERMAL (R387). A completion ends its source's claim, or is stray, counted, and sets STRAY_COMPL (R388); routes go to
EV_PRIV_ROUTE or, by EV_ROUTE_PTR, to the page named; EV_PICC_MAP takes a management source that no other entry maps and
refuses another (R404). The end of a coalescing window writes the SUMMARY record with the number suppressed (R403), once the
core runs (R21). The end of MOD_TIME raises the message of a moderating queue; a queue has one message raised and not
accepted: a message raised beside it is due and goes out at the acceptance (R398). A rise of TARGET_IDLE[t] lets every
moderating queue be raised as if t were idle, and the line levels of the operand stand after it (R397). What cannot occur in a
state changes nothing (the model's choice, log entry 4). Sillage queues: a credit scan reads the slot after the credited ones;
the poll timer scans a queue without credit or with lost reports, and no other; SCAN and ARM start a scan (R392). ARM, once
every record issued has its response, reads the slot before the first one not issued (R395; log entry 54). -/
def Obligations.SourcesMessagesAndSillageScans : Prop :=
  (∀ (i : BitVec 3) (s : State), coldHeld s = false → i.toNat ≠ 6 → bit (rd (loc .EV_PRIV) s) i.toNat = false →
    exec (.privSourceEdge i) s = .next (settle (setFlags (loc .EV_PRIV) (2 ^ i.toNat) s))) ∧
  (∀ (i : BitVec 3) (s : State), coldHeld s = false → i.toNat ≠ 6 → bit (rd (loc .EV_PRIV) s) i.toNat = true →
    exec (.privSourceEdge i) s = .next (settle (bump (cEv 3) s))) ∧
  (∀ s : State, coldHeld s = false →
    exec (.privSourceEdge 6) s = .next (settle (privEdge 6 (alert F.GL_ALERT_THERMAL s)))) ∧
  (∀ (m : Master) (d : W32) (s : State), codedSource (bit d.toNat 31) d.toNat ∈ s.ev.claims →
    Writes (.evComplete m d) m (loc .EV_COMPLETE) d.toNat s { s with ev := { s.ev with
      claims := s.ev.claims.filter (· != codedSource (bit d.toNat 31) d.toNat) } }) ∧
  (∀ (m : Master) (d : W32) (s : State), codedSource (bit d.toNat 31) d.toNat ∉ s.ev.claims →
    Writes (.evComplete m d) m (loc .EV_COMPLETE) d.toNat s
      (bump (cEv 0) (setFlag (loc .EV_EVENT) F.EV_EVENT_STRAY_COMPL s))) ∧
  (∀ (m : Master) (i : BitVec 4) (d : W32) (s : State), i.toNat < 8 →
    Writes (.routeWrite m i d) m (loc .EV_PRIV_ROUTE 0 i.toNat) d.toNat s
      (plainWrite .EV_PRIV_ROUTE (loc .EV_PRIV_ROUTE 0 i.toNat) d.toNat s)) ∧
  (∀ (m : Master) (i : BitVec 4) (d : W32) (s : State), 8 ≤ i.toNat →
    Writes (.routeWrite m i d) m (loc .EV_ROUTE_DATA) d.toNat s (writeRoute d.toNat s)) ∧
  (∀ (d : Nat) (s : State), (pageOf (fg (loc .EV_ROUTE_PTR) F.EV_ROUTE_PTR_PAGE s)).isSome = true →
    (writeRoute d s).ev.routes = sput 0 s.ev.routes (fg (loc .EV_ROUTE_PTR) F.EV_ROUTE_PTR_PAGE s)
      (b2n (bit d 31) * 2 ^ 31 + d % 1024)) ∧
  (∀ (m : Master) (n : BitVec 5) (d : W32) (s : State), bit d.toNat 31 = false →
    Writes (.piccMapWrite m n d) m (loc .EV_PICC_MAP 0 n.toNat) d.toNat s
      (plainWrite .EV_PICC_MAP (loc .EV_PICC_MAP 0 n.toNat) d.toNat s)) ∧
  (∀ (m : Master) (n : BitVec 5) (d : W32) (s : State), bit d.toNat 31 = true →
    isMgmt (codedSource (bit d.toNat 30) d.toNat) = true →
    (∀ k, k < 32 → k ≠ n.toNat → piccSource k s ≠ some (codedSource (bit d.toNat 30) d.toNat)) →
    Writes (.piccMapWrite m n d) m (loc .EV_PICC_MAP 0 n.toNat) d.toNat s
      (plainWrite .EV_PICC_MAP (loc .EV_PICC_MAP 0 n.toNat) d.toNat s)) ∧
  (∀ (m : Master) (n : BitVec 5) (d : W32) (s : State), bit d.toNat 31 = true →
    (isMgmt (codedSource (bit d.toNat 30) d.toNat) = false ∨
      ∃ k, k < 32 ∧ k ≠ n.toNat ∧ piccSource k s = some (codedSource (bit d.toNat 30) d.toNat)) → WriteOpen m (loc .EV_PICC_MAP 0 n.toNat) d.toNat s →
    exec (.piccMapWrite m n d) s = .next (refusedWrite m (loc .EV_PICC_MAP 0 n.toNat) 7 s)) ∧
  (∀ (d : BitVec 16) (w : Window) (s : State), s.ev.windows.find? (fun v => v.domain == d.toNat) = some w →
    islRun 2 s = false → exec (.coalesceWindowEnd d) s = .next (settle (holdItem (.coalesceWindowEnd d) s))) ∧
  (∀ (d : BitVec 16) (s : State), s.ev.windows.find? (fun v => v.domain == d.toNat) = none →
    exec (.coalesceWindowEnd d) s = .next (settle s)) ∧
  (∀ (d : BitVec 16) (w : Window) (s : State), s.ev.windows.find? (fun v => v.domain == d.toNat) = some w →
    islRun 2 s = true → exec (.coalesceWindowEnd d) s = .next (settle (emit w.sil w.status 0x11 w.domain w.count 0 w.stop
      { s with ev := { s.ev with windows := s.ev.windows.filter (fun v => v.domain != w.domain) } }))) ∧
  (∀ (q : BitVec 10) (s : State), (getSil q.toNat s).moderating = true →
    exec (.moderationExpiry q) s = .next (settle (raiseMessage q.toNat s))) ∧
  (∀ (q : BitVec 10) (s : State), (getSil q.toNat s).moderating = false →
    exec (.moderationExpiry q) s = .next (settle s)) ∧
  (∀ (q : Nat) (s : State), (getSil q s).msgWait = true →
    raiseMessage q s = setSil q { getSil q s with msgDue := true } s) ∧
  (∀ (q : Nat) (s : State), (getSil q s).msgWait = false → (raiseMessage q s).ev.nfp = s.ev.nfp ++ [((getSil q s).target, q)] ∧
    (getSil q (raiseMessage q s)).moderating = false ∧ (getSil q (raiseMessage q s)).msgWait = true) ∧
  (∀ (tg q : Nat) (l : List (Nat × Nat)) (s : State), s.ev.nfp = (tg, q) :: l → (getSil q s).msgDue = true →
    exec .nfpMessageAccept s = .next (settle (raiseMessage q (setSil q { getSil q s with
      msgWait := l.any (fun m => m.2 == q) } { s with ev := { s.ev with nfp := l } })))) ∧
  (∀ (tg q : Nat) (l : List (Nat × Nat)) (s : State), s.ev.nfp = (tg, q) :: l → (getSil q s).msgDue = false →
    exec .nfpMessageAccept s = .next (settle (setSil q { getSil q s with msgWait := l.any (fun m => m.2 == q) }
      { s with ev := { s.ev with nfp := l } }))) ∧
  (∀ (i : BitVec 6) (v : BitVec 64) (s : State),
    exec (.targetIdleRise i v) s = .next (settle (setIdle v (forEach s.ev.sils (fun p u => moderate p.1 false u)
      (setIdle (v ||| BitVec.ofNat 64 (2 ^ i.toNat)) s))))) ∧
  (∀ (q : BitVec 10) (s : State), (getSil q.toNat s).state = .active → (getSil q.toNat s).scan = false →
    (getSil q.toNat s).credit < creditMax (getSil q.toNat s).logSize →
    exec (.silCreditScan q) s = .next (settle (ownRead (silChan q.toNat) (getSil q.toNat s).func
      ((getSil q.toNat s).base + 16 * (((getSil q.toNat s).prod + (getSil q.toNat s).credit) % 2 ^ (getSil q.toNat s).logSize))
      (.silScan q.toNat (((getSil q.toNat s).prod + (getSil q.toNat s).credit) % 2 ^ (getSil q.toNat s).logSize))
      (setSil q.toNat { getSil q.toNat s with scan := true } s)))) ∧
  (∀ (q : BitVec 10) (s : State), ((getSil q.toNat s).credit = 0 ∨ (getSil q.toNat s).lost ≠ 0) →
    exec (.silPollTimer q) s = .next (settle (silScanStart q.toNat s))) ∧
  (∀ (q : BitVec 10) (s : State), (getSil q.toNat s).credit ≠ 0 → (getSil q.toNat s).lost = 0 →
    exec (.silPollTimer q) s = .next (settle s)) ∧
  (∀ (m : Master) (q : BitVec 10) (s : State),
    Writes (.silScan m q) m (loc .EV_SIL_DB) (2 ^ 30 + q.toNat) s (silScanStart q.toNat s)) ∧
  (∀ (m : Master) (q : BitVec 10) (s : State), (getSil q.toNat (silScanStart q.toNat s)).state = .active →
    Writes (.silArm m q) m (loc .EV_SIL_DB) (2 ^ 31 + q.toNat) s
      (silArmRead q.toNat (setSil q.toNat { getSil q.toNat (silScanStart q.toNat s) with armPending := true }
        (silScanStart q.toNat s)))) ∧
  (∀ (q : Nat) (s : State), (getSil q s).state = .active → (getSil q s).armPending = true →
    (getSil q s).outRecs = unissued (ofSil q) s →
    silArmRead q s = ownRead (silChan q) (getSil q s).func
      ((getSil q s).base + 16 * ringBack (getSil q s).prod (unissued (ofSil q) s + 1) (getSil q s).logSize)
      (.silArm q (ringBack (getSil q s).prod (unissued (ofSil q) s + 1) (getSil q s).logSize))
      (setSil q { getSil q s with armPending := false } s)) ∧
  (∀ (q : Nat) (s : State), (getSil q s).armPending = true → unissued (ofSil q) s < (getSil q s).outRecs → silArmRead q s = s)

/-! ## The steering table (R222 to R256) -/

/-- Where an insertion answers OK or PENDING, the key is found afterwards; a deleted key is not found, and no other entry of
the ways is lost (R227, R232, R236). -/
def Obligations.InsertionsAndDeletionsAreFound : Prop :=
  (∀ (e : Ent) (s : State), ((insertNew e s).status = St.ok ∨ (insertNew e s).status = 0x71) →
    (findKey e.key (insertNew e s).st).isSome = true) ∧
  (∀ (k : Nat) (s : State), findKey k (deleteKey k s) = none) ∧
  (∀ (k w : Nat) (e : Ent) (s : State), getWay w s.tab = some e → e.key ≠ k → getWay w (deleteKey k s).tab = some e) ∧
  (∀ (p k key : Nat) (s : State), (findKey key s).isSome = true →
    applyChange (.delete p k key) s = (false, changeDone p k St.ok 0 (deleteKey key s))) ∧
  (∀ (p k : Nat) (e : Ent) (w : Sum Nat Nat) (s : State), findKey e.key s = some w →
    applyChange (.insert p k e) s = (false, changeDone p k 0x90 (foundCode w) s))

/-- A relocation walk moves entries and neither loses nor makes one, and leaves the way it answers empty (R233, R234). -/
def Obligations.RelocationKeepsEntries : Prop :=
  ∀ (seeds : Nat × Nat) (b : Nat) (t : Tab),
    (∀ e : Ent, (∃ w, getWay w (relocate seeds b t).tab = some e) ↔ ∃ w, getWay w t = some e) ∧
    (∀ w, (relocate seeds b t).way = some w → getWay w (relocate seeds b t).tab = none) ∧
    (relocate seeds b t).tab.pend = t.pend

/-- The learn arbiter, once the request of its key before has been applied, drops a request when learning is off, one of a bad
key or target, one that agrees with the table, one against a static entry and one against a live hold-down record, and offers
the others to the change unit, which takes one at a time (R237 to R239); software, learn and ageing changes take turns in the
change unit (R229); an insertion that waits for a pending way is tried again unless software has parked the rehash (R249);
with a partner a change waits for the standby's acknowledgement (R231); a hold-down record ends (R238). An ageing step clears
HIT of a location's entries, empties those whose HIT was clear and that are not static, and leaves every other way (R241);
where the change unit is not free the step is due (R229); AGE_PERIOD 0 stops the scan, and a STANDBY ages nothing itself
(R488). Every table operation reads with the ECC findings of its operands: corrected words are counted and set ECC_CORR, an
uncorrectable one empties its way and sets ECC_FATAL (R225; log entry 47). -/
def Obligations.LearningChangesAndAgeing : Prop :=
  (∀ (l : Learn) (ls : List Learn) (s : State), s.tab.learnQ = l :: ls → islRun 5 s = true →
    (learnsUnderWay s).any (fun m => m.key == l.key) = false → fb (loc .ST_LEARN_CFG) F.ST_LEARN_CFG_LEARN_EN s = false →
    exec (.learnArbitrate 0 []) s = .next (settle (bump (cTable 3) { s with tab := { s.tab with learnQ := ls } }))) ∧
  (∀ (l : Learn) (ls : List Learn) (s : State), s.tab.learnQ = l :: ls → islRun 5 s = true →
    (learnsUnderWay s).any (fun m => m.key == l.key) = false →
    fb (loc .ST_LEARN_CFG) F.ST_LEARN_CFG_LEARN_EN s = true → (keyType l.key % 2 = 0 ∨ 65536 ≤ l.target) →
    exec (.learnArbitrate 0 []) s = .next (settle (bump (cTable 4) { s with tab := { s.tab with learnQ := ls } }))) ∧
  (∀ (l : Learn) (ls : List Learn) (s : State), s.tab.learnQ = l :: ls → islRun 5 s = true → learnsUnderWay s = [] →
    s.tab.stuck = none → fb (loc .ST_LEARN_CFG) F.ST_LEARN_CFG_LEARN_EN s = true → keyType l.key % 2 = 1 →
    l.target < 65536 → findKey l.key s = none →
    exec (.learnArbitrate 0 []) s = .next (settle { s with tab := { s.tab with learnQ := ls, offered := [l] } })) ∧
  (∀ (l : Learn) (ls : List Learn) (p : Sum Nat Nat) (e : Ent) (s : State), s.tab.learnQ = l :: ls → islRun 5 s = true →
    (learnsUnderWay s).any (fun m => m.key == l.key) = false →
    fb (loc .ST_LEARN_CFG) F.ST_LEARN_CFG_LEARN_EN s = true → keyType l.key % 2 = 1 → l.target < 65536 →
    findKey l.key s = some p → entAt p s = some e →
    exec (.learnArbitrate 0 []) s = .next (settle (
      if e.target = l.target then { s with tab := { s.tab with learnQ := ls } }
      else if e.static = true then bump (cTable 6) { s with tab := { s.tab with learnQ := ls } }
      else if held l.key s = true then learnConflict l { s with tab := { s.tab with learnQ := ls } }
      else if learnsUnderWay s = [] ∧ s.tab.stuck = none then { s with tab := { s.tab with learnQ := ls, offered := [l] } }
      else s))) ∧
  (∀ (l : Learn) (ls : List Learn) (s : State), s.tab.learnQ = l :: ls → islRun 5 s = true →
    (learnsUnderWay s).any (fun m => m.key == l.key) = true → exec (.learnArbitrate 0 []) s = .next (settle s)) ∧
  (∀ (c : Change) (s : State), unitFree s = true → islRun 5 s = true → s.tab.stuck = some c →
    (rhState s = 2 → s.tab.softParked = true → exec (.tableChangeApply 0 []) s = .next (settle s)) ∧
    (rhState s ≠ 2 → exec (.tableChangeApply 0 []) s = .next (settle (runChange c (retryAll s))))) ∧
  (∀ (c : Change) (s t : State), unitFree s = true → islRun 5 s = true → s.tab.stuck = none →
    nextChange s = some (c, t) → journaling t = true → changeRecords c t ≠ [] →
    ∃ u, exec (.tableChangeApply 0 []) s = .next (settle u) ∧ u.tab = { t.tab with acking := some (c, u.du.txSeq) } ∧
      u.du.waits.getLast? = some (u.du.txSeq, .table)) ∧
  (∀ (c : Change) (s t : State), unitFree s = true → islRun 5 s = true → s.tab.stuck = none →
    nextChange s = some (c, t) → journaling t = false →
    exec (.tableChangeApply 0 []) s = .next (settle (runChange c t))) ∧
  (∀ (corr : Nat) (fatal : List Nat) (s : State), s.tab.acking.isSome = true →
    exec (.tableChangeApply corr fatal) s = .next (settle s)) ∧
  (∀ (c : Change) (cs : List Change) (l : Learn) (ls : List Learn) (s : State), s.tab.changes = c :: cs →
    s.tab.offered = l :: ls → s.tab.ageDue ≠ 0 → agePeriod s ≠ 0 →
    (s.tab.turn = 0 → nextChange s = some (c, { s with tab := { s.tab with changes := cs, turn := 1 } })) ∧
    (s.tab.turn = 1 → nextChange s = some (.learn l, { s with tab := { s.tab with offered := ls, turn := 2 } })) ∧
    (s.tab.turn = 2 → nextChange s = some (.age s.tab.agePos, { s with tab := { s.tab with
      ageDue := s.tab.ageDue - 1, agePos := (s.tab.agePos + 1) % 528384, turn := 0 } }))) ∧
  (∀ (k : BitVec 80) (s : State), exec (.holdDownExpiry k) s = .next (settle
    { s with tab := { s.tab with holds := s.tab.holds.eraseP (fun h => h.1 == k.toNat) } })) ∧
  (∀ s : State, inReset s = false → islRun 5 s = true → agePeriod s ≠ 0 → duRole s ≠ 2 → unitFree s = true →
    s.tab.stuck = none → s.tab.changes = [] → s.tab.offered = [] → s.tab.ageDue = 0 → journaling s = false →
    exec (.ageStep 0 []) s = .next (settle (runChange (.age s.tab.agePos)
      { s with tab := { s.tab with agePos := (s.tab.agePos + 1) % 528384, turn := 0 } }))) ∧
  (∀ s : State, inReset s = false → islRun 5 s = true → agePeriod s ≠ 0 → duRole s ≠ 2 →
    unitFree s = false ∨ s.tab.stuck.isSome = true →
    exec (.ageStep 0 []) s = .next (settle { s with tab := { s.tab with ageDue := s.tab.ageDue + 1 } })) ∧
  (∀ (corr : Nat) (fatal : List Nat) (s : State), agePeriod s = 0 →
    exec (.ageStep corr fatal) s = .next (settle s)) ∧
  (∀ s : State, duRole s = 2 → exec (.ageStep 0 []) s = .next (settle s)) ∧
  (∀ (l w : Nat) (e : Ent) (s : State), w ∈ locWays l → getWay w s.tab = some e →
    getWay w (ageLoc l s).tab =
      (if e.moving then some e
       else if e.hit then some { e with hit := false }
       else if e.static then some e
       else none)) ∧
  (∀ (l w : Nat) (s : State), w ∉ locWays l → getWay w (ageLoc l s).tab = getWay w s.tab) ∧
  (∀ (corr : Nat) (fatal : List Nat) (s : State), islRun 5 s = true →
    (s.tab.learnQ ≠ [] → exec (.learnArbitrate corr fatal) s = .next (settle (learnArbitrate (eccRead corr fatal s)))) ∧
    (unitFree s = true → exec (.tableChangeApply corr fatal) s = .next (settle (changeUnit (eccRead corr fatal s)))) ∧
    (inReset s = false → agePeriod s ≠ 0 → exec (.ageStep corr fatal) s = .next (settle (ageStep (eccRead corr fatal s)))) ∧
    (stepReady s = true → exec (.rehashStep corr fatal) s = .next (settle (rehashStep (eccRead corr fatal s)))) ∧
    (s.tab.finishing = true → exec (.rehashFinish corr fatal) s = .next (settle (rehashFinish (eccRead corr fatal s)))) ∧
    (∀ k : BitVec 4, ((getWin k.toNat s).busy = some 0 →
        exec (.readKey k corr fatal) s = .next (settle (readKey k.toNat (eccRead corr fatal s)))) ∧
      ((getWin k.toNat s).busy = some 1 →
        exec (.readLoc k corr fatal) s = .next (settle (readLoc k.toNat (eccRead corr fatal s)))) ∧
      ((getWin k.toNat s).busy = some 2 →
        exec (.readNext k corr fatal) s = .next (settle (readNext k.toNat (eccRead corr fatal s)))))) ∧
  (∀ (corr : Nat) (s : State), corr ≠ 0 →
    eccRead corr [] s = setFlag (loc .ST_EVENT) F.ST_EVENT_ECC_CORR (bumpBy (cTable 13) corr s)) ∧
  (∀ (w : Nat) (e : Ent) (s : State), w < pendBase → getWay w s.tab = some e →
    eccRead 0 [w] s = setFlag (loc .ST_EVENT) F.ST_EVENT_ECC_FATAL (bumpBy (cTable 14) 1
      { s with tab := setWay w none s.tab }))

/-- The rehash: START takes the written seeds where they are new; while one runs or is parked START is refused. PARK, RESUME and CANCEL
of a rehash that is not finishing; a step that re-places its location and advances CURSOR, or parks with STUCK where
the pending list is full; the finish makes the new seeds current and advances GEN, or keeps the old seeds after a cancel (R243 to R247).
Shown where no TBL_REHASH command is in flight and no insertion waits. -/
def Obligations.Rehash : Prop :=
  (∀ (m : Master) (s : State), rhState s = 0 → fb (loc .ST_CFG) F.ST_CFG_SEED_RANDOM s = false →
    rd (loc .ST_SEED_NEW 0 0) s ≠ rd (loc .ST_SEED_NEW 0 1) s →
    (rd (loc .ST_SEED_NEW 0 0) s, rd (loc .ST_SEED_NEW 0 1) s) ≠ curSeeds s →
    Writes (.rhStart m) m (loc .ST_RH_CTRL) (2 ^ 31) s
      (rehashStart (rd (loc .ST_SEED_NEW 0 0) s, rd (loc .ST_SEED_NEW 0 1) s) s)) ∧
  (∀ (m : Master) (s : State), rhState s ≠ 0 → WriteOpen m (loc .ST_RH_CTRL) (2 ^ 31) s →
    exec (.rhStart m) s = .next (refusedWrite m (loc .ST_RH_CTRL) 7 s)) ∧
  (∀ (seeds : Nat × Nat) (s : State), rhState (rehashStart seeds s) = 1 ∧ rhCursor (rehashStart seeds s) = 0 ∧
    rhReverse (rehashStart seeds s) = false ∧ tgtSeeds (rehashStart seeds s) = seeds) ∧
  (∀ (m : Master) (s : State), rhState s = 1 → s.tab.finishing = false →
    Writes (.rhPark m) m (loc .ST_RH_CTRL) (2 ^ 30) s
      (fs (loc .ST_RH_STATE) F.ST_RH_STATE_STATE 2 { s with tab := { s.tab with softParked := true } })) ∧
  (∀ (m : Master) (s : State), rhState s = 2 → WriteOpen m (loc .ST_RH_CTRL) (2 ^ 29) s →
    ∃ e, exec (.rhResume m) s = .next (written m (loc .ST_RH_CTRL) (2 ^ 29) e) ∧ rhState e = 1 ∧
      fb (loc .ST_RH_STATE) F.ST_RH_STATE_STUCK e = false ∧ rhCursor e = rhCursor s ∧ rhReverse e = rhReverse s) ∧
  (∀ (m : Master) (s : State), rhState s ≠ 0 → s.tab.finishing = false → rhReverse s = false →
    WriteOpen m (loc .ST_RH_CTRL) (2 ^ 28) s →
    ∃ e, exec (.rhCancel m) s = .next (written m (loc .ST_RH_CTRL) (2 ^ 28) e) ∧ rhState e = 1 ∧ rhReverse e = true ∧
      rhCursor e = 0 ∧ tgtSeeds e = curSeeds s) ∧
  (∀ s t : State, stepReady s = true → islRun 5 s = true → rhCursor s < 528383 →
    replaceWays (locWays (rhCursor s)) s = (true, t) →
    exec (.rehashStep 0 []) s = .next (settle (fs (loc .ST_RH_STATE) F.ST_RH_STATE_CURSOR (rhCursor s + 1)
      (bump (cTable 16) { t with tab := { t.tab with stepDue := false } })))) ∧
  (∀ s t : State, stepReady s = true → islRun 5 s = true → replaceWays (locWays (rhCursor s)) s = (false, t) →
    ∃ u, exec (.rehashStep 0 []) s = .next u ∧ rhState u = 2 ∧ fb (loc .ST_RH_STATE) F.ST_RH_STATE_STUCK u = true ∧
      fb (loc .ST_EVENT) F.ST_EVENT_REHASH_STUCK u = true) ∧
  (∀ (n : Nat × Nat) (s : State), s.tab.finishing = true → islRun 5 s = true → rhReverse s = false →
    s.tab.newSeeds = some n →
    s.tab.stuck = none → n.1 < 2 ^ 32 → n.2 < 2 ^ 32 → (∀ p c, c ∈ (getPair p s).cmds → c.opcode ≠ 0x13) →
    ∃ e, exec (.rehashFinish 0 []) s = .next (settle e) ∧ curSeeds e = n ∧ rhState e = 0 ∧ gen e = (gen s + 1) % 256 ∧
      e.tab.newSeeds = none ∧ fb (loc .ST_EVENT) F.ST_EVENT_REHASH_DONE e = true) ∧
  (∀ s : State, s.tab.finishing = true → islRun 5 s = true → rhReverse s = true → s.tab.stuck = none →
    (∀ p c, c ∈ (getPair p s).cmds → c.opcode ≠ 0x13) →
    ∃ e, exec (.rehashFinish 0 []) s = .next (settle e) ∧ curSeeds e = curSeeds s ∧ rhState e = 0 ∧ gen e = gen s)

/-- The commands of an indirect window (R254, R255): READ_KEY answers the entry and its place, or MISS; READ_LOC the entry at
a way or a pending index, EMPTY for an empty way, or MOVED where the entry moved or the location was emptied by a move;
READ_NEXT the next entry of the ways, or of the pending list, END after the last; a location that does not exist answers BAD.
Meters: a packet is coloured by the levels it finds, which fall by what it takes; a record is applied, with full buckets under
FILL, and shown with its levels (R251 to R253). -/
def Obligations.IndirectWindowsAndMeters : Prop :=
  (∀ (k : BitVec 4) (p : Sum Nat Nat) (e : Ent) (s : State), (getWin k.toNat s).busy = some 0 → islRun 5 s = true →
    findKey (u (getWin k.toNat s).entry 0 10) s = some p → entAt p s = some e →
    exec (.readKey k 0 []) s = .next (settle (setWin k.toNat
      { getWin k.toNat s with entry := e.bytes, loc := foundCode p, result := 0, busy := none } s))) ∧
  (∀ (k : BitVec 4) (s : State), (getWin k.toNat s).busy = some 0 → islRun 5 s = true →
    findKey (u (getWin k.toNat s).entry 0 10) s = none →
    exec (.readKey k 0 []) s = .next (settle (setWin k.toNat { getWin k.toNat s with result := 1, busy := none } s))) ∧
  (∀ (k : BitVec 4) (w : Nat) (e : Ent) (s : State), (getWin k.toNat s).busy = some 1 → islRun 5 s = true →
    w < 2129920 → (getWin k.toNat s).loc = wayCode w → getWay w s.tab = some e →
    exec (.readLoc k 0 []) s = .next (settle (setWin k.toNat { getWin k.toNat s with
      entry := e.bytes, result := if e.moving || (getWin k.toNat s).moved then 2 else 0, busy := none } s))) ∧
  (∀ (k : BitVec 4) (i : Nat) (e : Ent) (s : State), (getWin k.toNat s).busy = some 1 → islRun 5 s = true →
    i < 256 → (getWin k.toNat s).loc = pendCode i → pendAt i s.tab = some e →
    exec (.readLoc k 0 []) s = .next (settle (setWin k.toNat { getWin k.toNat s with
      entry := e.bytes, result := if e.moving || (getWin k.toNat s).moved then 2 else 0, busy := none } s))) ∧
  (∀ (k : BitVec 4) (w : Nat) (s : State), (getWin k.toNat s).busy = some 1 → islRun 5 s = true →
    w < 2129920 → (getWin k.toNat s).loc = wayCode w → getWay w s.tab = none →
    exec (.readLoc k 0 []) s = .next (settle (setWin k.toNat
      { getWin k.toNat s with entry := List.replicate 16 0, result := if (getWin k.toNat s).moved then 2 else 3,
                              busy := none } s))) ∧
  (∀ (k : BitVec 4) (w n : Nat) (e : Ent) (s : State), (getWin k.toNat s).busy = some 2 → islRun 5 s = true →
    w < 2129920 → (getWin k.toNat s).loc = wayCode w → s.tab.ways.find? (fun p => decide (w < p.1)) = some (n, some e) →
    exec (.readNext k 0 []) s = .next (settle (setWin k.toNat
      { getWin k.toNat s with entry := e.bytes, loc := wayCode n, result := 0, busy := none } s))) ∧
  (∀ (k : BitVec 4) (i j : Nat) (e : Ent) (s : State), (getWin k.toNat s).busy = some 2 → islRun 5 s = true →
    i < 256 → (getWin k.toNat s).loc = pendCode i → i < j → j < 256 → pendAt j s.tab = some e →
    (∀ m, i < m → m < j → pendAt m s.tab = none) →
    exec (.readNext k 0 []) s = .next (settle (setWin k.toNat
      { getWin k.toNat s with entry := e.bytes, loc := pendCode j, result := 0, busy := none } s))) ∧
  (∀ (k : BitVec 4) (i : Nat) (s : State), (getWin k.toNat s).busy = some 2 → islRun 5 s = true →
    i < 256 → (getWin k.toNat s).loc = pendCode i → (∀ m, i < m → m < 256 → pendAt m s.tab = none) →
    exec (.readNext k 0 []) s = .next (settle (setWin k.toNat { getWin k.toNat s with result := 4, busy := none } s))) ∧
  (∀ (k : BitVec 4) (s : State), islRun 5 s = true → locPlace (getWin k.toNat s).loc = none →
    ((getWin k.toNat s).busy = some 1 → exec (.readLoc k 0 []) s =
      .next (settle (setWin k.toNat { getWin k.toNat s with result := 5, busy := none } s))) ∧
    ((getWin k.toNat s).busy = some 2 → exec (.readNext k 0 []) s =
      .next (settle (setWin k.toNat { getWin k.toNat s with result := 5, busy := none } s)))) ∧
  (∀ (b : Nat) (m : Meter), bit (u m.cfg 3 1) 0 = true → bit (u m.cfg 3 1) 1 = false →
    m.colour b 0 = (if b * 65536 ≤ m.lvlC then (0, { m with lvlC := m.lvlC - b * 65536 })
      else if b * 65536 ≤ m.lvlX then (1, { m with lvlX := m.lvlX - b * 65536 }) else (2, m))) ∧
  (∀ (b i : Nat) (m : Meter), bit (u m.cfg 3 1) 0 = false → i ≠ 2 →
    m.colour b i = (if m.lvlX < b * 65536 then (2, m)
      else if (i = 1 ∧ bit (u m.cfg 3 1) 1 = true) ∨ m.lvlC < b * 65536 then (1, { m with lvlX := m.lvlX - b * 65536 })
      else (0, { m with lvlX := m.lvlX - b * 65536, lvlC := m.lvlC - b * 65536 }))) ∧
  (∀ (m : Master) (k : BitVec 2) (fill : Bool) (cfg : Bytes) (n : Nat) (s : State),
    cfg = (List.range 5).flatMap (fun w => bytesLE 4 (rd (loc .MT_REC k.toNat w) s)) → meterBad cfg = false →
    n = 16384 * k.toNat + fg (loc .MT_PTR k.toNat) F.MT_PTR_INDEX s →
    WriteOpen m (loc .MT_CTRL k.toNat) (2 ^ 31 + b2n fill * 2 ^ 29) s →
    ∃ e, exec (.mtWrite m k fill) s = .next (written m (loc .MT_CTRL k.toNat) (2 ^ 31 + b2n fill * 2 ^ 29) e) ∧
      (getMeter n e).cfg = cfg ∧ (fill = true → (getMeter n e).lvlC = u cfg 8 3 * 65536 ∧
        (getMeter n e).lvlX = u cfg 12 3 * 65536) ∧
      (∀ j, j ≠ n → getMeter j e = getMeter j s)) ∧
  (∀ (m : Master) (k : BitVec 2) (fill : Bool) (s : State),
    meterBad ((List.range 5).flatMap (fun w => bytesLE 4 (rd (loc .MT_REC k.toNat w) s))) = true →
    WriteOpen m (loc .MT_CTRL k.toNat) (2 ^ 31 + b2n fill * 2 ^ 29) s →
    exec (.mtWrite m k fill) s = .next (refusedWrite m (loc .MT_CTRL k.toNat) 7 s)) ∧
  (∀ (m : Master) (k : BitVec 2) (w : Nat) (s : State), w < 7 → WriteOpen m (loc .MT_CTRL k.toNat) (2 ^ 30) s →
    ∃ e, exec (.mtRead m k) s = .next (written m (loc .MT_CTRL k.toNat) (2 ^ 30) e) ∧ e.tab = s.tab ∧
      rd (loc .MT_REC k.toNat w) e =
        u (meterView (16384 * k.toNat + fg (loc .MT_PTR k.toNat) F.MT_PTR_INDEX s) s) (4 * w) 4)

/-! ## Admin commands (R283 to R313) -/

/-- Every admin command that fails a check finishes with that check's status and with no other effect, and starts none of its
work (R289). An admin row accepts and starts the entry it carries (log entry 61). -/
def Obligations.FailedChecksHaveNoEffect : Prop :=
  ∀ (r : Nat × Nat × (Nat → AdmEntry → Instr)) (p : Nat) (e : AdmEntry) (st : Nat) (s : State), r ∈ admRows → st ≠ St.ok →
    Starts (r.2.2 p e) r.1 r.2.1 p e st s (finishCmd (pairOf p) (cmdNo p s) st 0 0 (runningCmd p e s))

/-- Queue commands that pass their checks (R298 to R300, R400): SQ_CREATE, CQ_DESTROY, CQ_RESET, SIL_DESTROY, GROUP_SET and
POOL_SET, in a block that does not journal, change their object and complete OK; CQ_CREATE and SIL_CREATE start the credit
scan with which they complete; SQ_DESTROY and SQ_RESET start the abort sequence (R280); FENCE takes its place among the
outputs; CQ_BIND and SIL_BIND wait for the records sent before. What these commands make of their queues: a created submission
or completion queue is ACTIVE, empty, at position 0 and as its entry says, and no other queue of its kind changes; a destroyed
completion queue is gone; a reset queue is ACTIVE at position 0 with its ring (R257, R282, R298); POOL_SET writes the members,
GROUP_SET the group, and CNT_PERM the permission of its function (R299, R309). -/
def Obligations.QueueCommandsAndTheirQueues : Prop :=
  (∀ (p : Nat) (e : AdmEntry) (s : State), journaling s = false →
    Runs (.sqCreate p e) 0x01 0 p e s (okCmd p s (createSq (entryBytes e) (runningCmd p e s))) ∧
    Runs (.cqDestroy p e) 0x04 0 p e s (okCmd p s (destroyCq (qnum (entryBytes e)) (runningCmd p e s))) ∧
    Runs (.cqReset p e) 0x06 0 p e s (okCmd p s (cqScanStart (qnum (entryBytes e))
      (resetCq (qnum (entryBytes e)) (runningCmd p e s)))) ∧
    Runs (.silDestroy p e) 0x08 0 p e s (okCmd p s (destroySil (qnum (entryBytes e)) (runningCmd p e s))) ∧
    Runs (.groupSet p e) 0x0B 0 p e s (okCmd p s (groupSet (entryBytes e) (runningCmd p e s))) ∧
    Runs (.poolSet p e) 0x0C 0 p e s (okCmd p s (poolSet (entryBytes e) (runningCmd p e s)))) ∧
  (∀ (p q : Nat) (e : AdmEntry) (s t : State), journaling s = false → q = qnum (entryBytes e) →
    t = createCq (entryBytes e) (runningCmd p e s) →
    Runs (.cqCreate p e) 0x02 0 p e s (cqScanStart q (setCq q { getCq q t with cmd := some (pairOf p, cmdNo p s) } t))) ∧
  (∀ (p q : Nat) (e : AdmEntry) (s t : State), journaling s = false → q = qnum (entryBytes e) →
    t = createSil (entryBytes e) (runningCmd p e s) →
    Runs (.silCreate p e) 0x07 0 p e s (silScanStart q (setSil q { getSil q t with cmd := some (pairOf p, cmdNo p s) } t))) ∧
  (∀ (p : Nat) (e : AdmEntry) (s : State),
    Runs (.sqDestroy p e) 0x03 0 p e s
      (abortQueue (qnum (entryBytes e)) .destroying (pairOf p, cmdNo p s) (runningCmd p e s)) ∧
    Runs (.sqReset p e) 0x05 0 p e s
      (abortQueue (qnum (entryBytes e)) .resetting (pairOf p, cmdNo p s) (runningCmd p e s)) ∧
    Runs (.fence p e) 0x0F 0 p e s (takeFence (some (pairOf p, cmdNo p s)) (runningCmd p e s)).2) ∧
  (∀ (p : Nat) (e : AdmEntry) (r : Rebind) (s t : State), t = runningCmd p e s →
    r = { silBind := false, obj := if bit (u (entryBytes e) 12 1) 1 then admWho (pairOf p) else cqWho (qnum (entryBytes e)),
          pair := pairOf p, cmd := cmdNo p s, newSil := u (entryBytes e) 10 2, newValid := bit (u (entryBytes e) 12 1) 0,
          sent := false, later := [] } →
    Runs (.cqBind p e) 0x09 0 p e s (rebindCheck { t with ev := { t.ev with rebinds := t.ev.rebinds ++ [r] } })) ∧
  (∀ (p : Nat) (e : AdmEntry) (r : Rebind) (s t : State), t = runningCmd p e s →
    r = { silBind := true, obj := qnum (entryBytes e), pair := pairOf p, cmd := cmdNo p s, newSil := u (entryBytes e) 10 1,
          newValid := true, sent := false, later := [] } →
    Runs (.silBind p e) 0x0A 0 p e s (rebindCheck { t with ev := { t.ev with rebinds := t.ev.rebinds ++ [r] } })) ∧
  (∀ (b : Bytes) (s : State),
    getSq (qnum b) (createSq b s) = { Sq.none with
      state := .active, rx := bit (u b 14 1) 0, base := u b 16 8, logSize := u b 15 1, func := u b 10 2, handle := u b 12 2, cq := u b 24 2,
      hold := u b 26 2, snoop := bit (u b 14 1) 1, parent := u b 28 2, band := u b 30 1 } ∧
    (∀ q, q ≠ qnum b → getSq q (createSq b s) = getSq q s)) ∧
  (∀ (b : Bytes) (s : State), getCq (qnum b) (createCq b s) = { Cq.none with
      state := .active, base := u b 16 8, logSize := u b 15 1, func := u b 10 2, handle := u b 12 2,
      rsv := bit (u b 14 1) 0, silValid := bit (u b 14 1) 1, sillage := u b 24 2 } ∧
    (∀ c, c ≠ qnum b → getCq c (createCq b s) = getCq c s)) ∧
  (∀ (c : Nat) (s : State), getCq c (destroyCq c s) = Cq.none ∧ (∀ d, d ≠ c → getCq d (destroyCq c s) = getCq d s)) ∧
  (∀ (c : Nat) (s : State), (getCq c (resetCq c s)).state = .active ∧ (getCq c (resetCq c s)).prod = 0 ∧
    (getCq c (resetCq c s)).backlog = [] ∧ (getCq c (resetCq c s)).base = (getCq c s).base ∧
    (getCq c (resetCq c s)).logSize = (getCq c s).logSize) ∧
  (∀ (q : Nat) (s : State), (getSq q (resetSq q s)).state = .active ∧ (getSq q (resetSq q s)).pos = 0 ∧
    (getSq q (resetSq q s)).base = (getSq q s).base ∧ (getSq q (resetSq q s)).cq = (getSq q s).cq) ∧
  (∀ (b : Bytes) (i : Nat) (s : State), i < u b 14 1 →
    sget (false, 0) (poolSet b s).wq.members (u b 8 4 + i) =
      (bit (u b (16 + 2 * i) 2) 15, u b (16 + 2 * i) 2 % 2 ^ 15)) ∧
  (∀ (b : Bytes) (s : State),
    sget { valid := false, base := 0, logSize := 0 } (groupSet b s).wq.groups (qnum b) =
      { valid := bit (u b 10 1) 0, base := u b 12 4, logSize := u b 11 1 }) ∧
  (∀ (b : Bytes) (g : Nat) (s : State), (g ∈ (cntPerm b s).pc.cntPerm ↔
    (g = u b 8 2 ∧ bit (u b 10 1) 0 = true) ∨ (g ≠ u b 8 2 ∧ g ∈ s.pc.cntPerm)))

/-- Table, meter, shaper and calendar commands that pass their checks (R301 to R305): TBL_INSERT, TBL_UPDATE and TBL_DELETE
wait for the change unit, or complete with TABLE_BAD_KEY where the key type is 0; TBL_REHASH START starts the rehash that
rehashCommand gives, and PARK, RESUME and CANCEL act on it and complete OK; METER_SET and SHAPER_SET write their record and
complete OK, in a block that does not journal; GATE_SET with a calendar begins to read its entries, and without one removes
the calendar and completes OK. Page switch, substitution, engine, program, profile, counter, power and Duo commands that pass
their checks (R306 to R313): START of PAGE_SWITCH starts the switch and offers it, of LANE_SUBST the substitution with the
spare named, or the one spareFor finds; PARK, RESUME and CANCEL act and complete OK; ENGINE_SUBST, PROG_UPDATE, LOAD_PROFILE,
DUMP_NOW, PWR_REQ, DUO_FAILOVER and DUO_PROTECT start their operation; CNT_PERM, RATE_WIN and, in a block that does not
journal, DUMP_CFG complete OK. LOAD_PROFILE_DONE completes the load once every group that is not re-formed has its slots, and
otherwise starts the page switches that are still needed; with no load it changes nothing (the model's choice, log entries 4
and 63). -/
def Obligations.TableShaperAndBlockCommands : Prop :=
  (∀ (p : Nat) (e : AdmEntry) (s : State), keyType (u (entryBytes e) 8 10) ≠ 0 →
    Runs (.tblInsert p e) 0x10 0 p e s
      (queueChange (.insert (pairOf p) (cmdNo p s) (tblEnt (entryBytes e))) (runningCmd p e s)) ∧
    Runs (.tblUpdate p e) 0x11 0 p e s
      (queueChange (.update (pairOf p) (cmdNo p s) (tblEnt (entryBytes e)) (u (entryBytes e) 23 1)) (runningCmd p e s)) ∧
    Runs (.tblDelete p e) 0x12 0 p e s
      (queueChange (.delete (pairOf p) (cmdNo p s) (u (entryBytes e) 8 10)) (runningCmd p e s))) ∧
  (∀ (p : Nat) (e : AdmEntry) (s : State), keyType (u (entryBytes e) 8 10) = 0 →
    Runs (.tblInsert p e) 0x10 0 p e s (finishCmd (pairOf p) (cmdNo p s) 0x92 0 0 (runningCmd p e s)) ∧
    Runs (.tblUpdate p e) 0x11 0 p e s (finishCmd (pairOf p) (cmdNo p s) 0x92 0 0 (runningCmd p e s)) ∧
    Runs (.tblDelete p e) 0x12 0 p e s (finishCmd (pairOf p) (cmdNo p s) 0x92 0 0 (runningCmd p e s))) ∧
  (∀ (p : Nat) (e : AdmEntry) (s t : State), rehashCommand (runningCmd p e s) = some t →
    Runs (.tblRehashStart p e) 0x13 0 p e s t) ∧
  (∀ (p : Nat) (e : AdmEntry) (s : State),
    Runs (.tblRehashPark p e) 0x13 1 p e s (okCmd p s (rehashOp 1 (runningCmd p e s))) ∧
    Runs (.tblRehashResume p e) 0x13 2 p e s (okCmd p s (rehashOp 2 (runningCmd p e s))) ∧
    Runs (.tblRehashCancel p e) 0x13 3 p e s (okCmd p s (rehashOp 3 (runningCmd p e s)))) ∧
  (∀ (p : Nat) (e : AdmEntry) (s : State), journaling s = false →
    Runs (.meterSet p e) 0x14 0 p e s (okCmd p s (meterWrite (u (entryBytes e) 8 2) (((entryBytes e).drop 16).take 20)
      (bit (u (entryBytes e) 10 1) 0) (runningCmd p e s))) ∧
    Runs (.shaperSet p e) 0x20 0 p e s (okCmd p s (writeRec (u (entryBytes e) 8 1) (u (entryBytes e) 10 2)
      (((entryBytes e).drop 16).take 32) (bit (u (entryBytes e) 9 1) 0) (runningCmd p e s)))) ∧
  (∀ (p : Nat) (e : AdmEntry) (s : State), bit (u (entryBytes e) 10 1) 0 = true →
    Runs (.gateSet p e) 0x21 0 p e s
      (admRead (pairOf p) (cmdNo p s) (u (entryBytes e) 16 8) (8 * u (entryBytes e) 12 2) (runningCmd p e s))) ∧
  (∀ (p : Nat) (e : AdmEntry) (s : State), bit (u (entryBytes e) 10 1) 0 = false → journaling s = false →
    Runs (.gateSet p e) 0x21 0 p e s (okCmd p s (gateRemove (u (entryBytes e) 8 1) (runningCmd p e s)))) ∧
  (∀ (p : Nat) (e : AdmEntry) (s t : State), switchStart (u (entryBytes e) 8 1) (.command (pairOf p) (cmdNo p s)) (runningCmd p e s) = some t →
    Runs (.pageSwitchStart p e) 0x30 0 p e s (switchAck (u (entryBytes e) 8 1) t)) ∧
  (∀ (p : Nat) (e : AdmEntry) (s t : State), switchPark (u (entryBytes e) 8 1) (runningCmd p e s) = some t →
    Runs (.pageSwitchPark p e) 0x30 1 p e s (okCmd p s t)) ∧
  (∀ (p : Nat) (e : AdmEntry) (s t : State), switchResume (u (entryBytes e) 8 1) (runningCmd p e s) = some t →
    Runs (.pageSwitchResume p e) 0x30 2 p e s (okCmd p s t)) ∧
  (∀ (p : Nat) (e : AdmEntry) (s t : State), switchCancel (u (entryBytes e) 8 1) (runningCmd p e s) = some t →
    Runs (.pageSwitchCancel p e) 0x30 3 p e s (okCmd p s t)) ∧
  (∀ (p : Nat) (e : AdmEntry) (s : State), u (entryBytes e) 9 1 ≠ 0x1F →
    Runs (.laneSubstStart p e) 0x31 0 p e s (substStart (u (entryBytes e) 8 1) (u (entryBytes e) 9 1) 0
      (some (pairOf p, cmdNo p s)) (runningCmd p e s))) ∧
  (∀ (p n : Nat) (e : AdmEntry) (s : State), u (entryBytes e) 9 1 = 0x1F →
    spareFor (u (entryBytes e) 8 1) (runningCmd p e s) = some n →
    Runs (.laneSubstStart p e) 0x31 0 p e s (substStart (u (entryBytes e) 8 1) n 0
      (some (pairOf p, cmdNo p s)) (runningCmd p e s))) ∧
  (∀ (p : Nat) (e : AdmEntry) (s t : State), substPark (u (entryBytes e) 8 1) (runningCmd p e s) = some t →
    Runs (.laneSubstPark p e) 0x31 1 p e s (okCmd p s t)) ∧
  (∀ (p : Nat) (e : AdmEntry) (s t : State), substResume (u (entryBytes e) 8 1) (runningCmd p e s) = some t →
    Runs (.laneSubstResume p e) 0x31 2 p e s (okCmd p s t)) ∧
  (∀ (p : Nat) (e : AdmEntry) (s t : State), substCancel (u (entryBytes e) 8 1) (runningCmd p e s) = some t →
    Runs (.laneSubstCancel p e) 0x31 3 p e s (okCmd p s t)) ∧
  (∀ (p : Nat) (e : AdmEntry) (s t : State),
    substEngine (u (entryBytes e) 8 1) (u (entryBytes e) 9 1) (some (pairOf p, cmdNo p s)) (runningCmd p e s) = some t →
    Runs (.engineSubst p e) 0x32 0 p e s t) ∧
  (∀ (p : Nat) (e : AdmEntry) (s : State),
    Runs (.progUpdate p e) 0x33 0 p e s (progKick (runningCmd p e s)) ∧
    Runs (.loadProfile p e) 0x34 0 p e s
      (loadStart (storedProfile (u (entryBytes e) 8 1) (runningCmd p e s)) (pairOf p) (cmdNo p s) (runningCmd p e s)) ∧
    Runs (.dumpNow p e) 0x41 0 p e s (dumpNow (pairOf p) (cmdNo p s) (runningCmd p e s)) ∧
    Runs (.cntPerm p e) 0x42 0 p e s (okCmd p s (cntPerm (entryBytes e) (runningCmd p e s))) ∧
    Runs (.rateWin p e) 0x43 0 p e s (okCmd p s (rateWin (entryBytes e) (runningCmd p e s))) ∧
    Runs (.pwrReq p e) 0x50 0 p e s
      (pwrReq (pairOf p) (cmdNo p s) (u (entryBytes e) 8 1) (u (entryBytes e) 9 1) (runningCmd p e s)) ∧
    Runs (.duoFailover p e) 0x60 0 p e s (duoFailover (pairOf p) (cmdNo p s) (runningCmd p e s)) ∧
    Runs (.duoProtect p e) 0x61 0 p e s (duoProtect (pairOf p) (cmdNo p s) (runningCmd p e s))) ∧
  (∀ (p : Nat) (e : AdmEntry) (s t : State), journaling s = false → t = runningCmd p e s →
    Runs (.dumpCfg p e) 0x40 0 p e s (okCmd p s (dumpCfg (dumpPars (entryBytes e))
      { t with host := { t.host with bypassFixed := true } }))) ∧
  (∀ s : State, s.prof.next = none → exec .loadProfileDone s = .next (settle s)) ∧
  (∀ (o : Bytes) (p k : Nat) (s : State), s.prof.next = some (o, p, k) →
    (∀ g, g < 16 → reforms o s.prof.cur g = false → groupSettled o s.prof.cur g s = true) →
    ∃ e, exec .loadProfileDone s = .next (settle (finishCmd p k St.ok 0 0 e)) ∧ e.prof = { s.prof with next := none } ∧
      fb (loc .GL_PROFILE) F.GL_PROFILE_LOADING e = false ∧ e = { s with
        regs := e.regs, prof := e.prof }) ∧
  (∀ (o : Bytes) (p k g : Nat) (s : State), s.prof.next = some (o, p, k) → g < 16 → reforms o s.prof.cur g = false →
    groupSettled o s.prof.cur g s = false →
    exec .loadProfileDone s = .next (settle (forEach ((List.range 16).filter (fun j => !reforms o s.prof.cur j))
      (loadSwitch o s.prof.cur) s)))

/-- The admin pairs: enabling one that is OFF opens its rings at position 0; other fields may not change unless it is OFF, and one that
drains cannot be enabled; clearing ENABLE drains it (R283, R296). Doorbells scan, and ARM waits for the writes of the pair; the next command
starts when those before it permit (R285 to R287); the completion of a finished command is written; a pair that has drained goes to OFF. An
abort sequence that has nothing left hands its command on; where the completion queue is not ACTIVE its
entries are dropped (R280, R281). What cannot occur in a state changes nothing (the model's choice, log entry 4). -/
def Obligations.AdminPairs : Prop :=
  (∀ (m : Master) (p : Nat) (d : W32) (s : State), p < 2 → admState (pairOf p) s = 0 → admSqBase (pairOf p) s % 512 = 0 →
    admCqBase (pairOf p) s % 512 = 0 → WriteOpen m (loc .WQ_ADM_CFG p) (d.toNat % 2 ^ 31 + 2 ^ 31) s →
    ∃ e, exec (.adminPairEnable m p d) s = .next (written m (loc .WQ_ADM_CFG p) (d.toNat % 2 ^ 31 + 2 ^ 31) e) ∧
      admState (pairOf p) e = 1 ∧ (getPair (pairOf p) e).sqPos = 0 ∧ (getPair (pairOf p) e).cqProd = 0 ∧
      (getPair (pairOf p) e).cmds = [] ∧ e.host.bypassFixed = true) ∧
  (∀ (m : Master) (p : Nat) (d : W32) (s : State), p < 2 → admState (pairOf p) s = 3 →
    WriteOpen m (loc .WQ_ADM_CFG p) (d.toNat % 2 ^ 31 + 2 ^ 31) s →
    exec (.adminPairEnable m p d) s = .next (refusedWrite m (loc .WQ_ADM_CFG p) 7 s)) ∧
  (∀ (m : Master) (p : Nat) (d : W32) (s : State), p < 2 → admState (pairOf p) s = 1 →
    admFields d.toNat = admFields (rd (loc .WQ_ADM_CFG p) s) → admSqBase (pairOf p) s % 512 = 0 →
    admCqBase (pairOf p) s % 512 = 0 →
    Writes (.adminPairEnable m p d) m (loc .WQ_ADM_CFG p) (d.toNat % 2 ^ 31 + 2 ^ 31) s
      (wr (loc .WQ_ADM_CFG p) (2 ^ 31 + 2 ^ 28 + admFields d.toNat) s)) ∧
  (∀ (m : Master) (p st : Nat) (d : W32) (s : State), p < 2 → admState (pairOf p) s = st → st ≠ 0 →
    admFields d.toNat ≠ admFields (rd (loc .WQ_ADM_CFG p) s) → WriteOpen m (loc .WQ_ADM_CFG p) (d.toNat % 2 ^ 31) s →
    exec (.adminPairDrain m p d) s = .next (refusedWrite m (loc .WQ_ADM_CFG p) 7 s)) ∧
  (∀ (m : Master) (p st : Nat) (d : W32) (s : State), p < 2 → admState (pairOf p) s = st → st = 1 ∨ st = 2 →
    admFields d.toNat = admFields (rd (loc .WQ_ADM_CFG p) s) →
    Writes (.adminPairDrain m p d) m (loc .WQ_ADM_CFG p) (d.toNat % 2 ^ 31) s (admDrain (pairOf p)
      (wr (loc .WQ_ADM_CFG p) (st * 2 ^ 28 + admFields d.toNat) s))) ∧
  (∀ (m : Master) (p : Nat) (s : State), p < 2 →
    Writes (.adminSqDoorbell m p) m (loc .WQ_ADM_DB p) 1 s (admScanStart (pairOf p) s)) ∧
  (∀ (m : Master) (p : Nat) (s : State), p < 2 → admState (pairOf p) (admCqScanStart (pairOf p) s) = 1 →
    Writes (.adminCqDoorbell m p) m (loc .WQ_ADM_DB p) 2 s (admArmRead (pairOf p)
      (setPair (pairOf p) { getPair (pairOf p) (admCqScanStart (pairOf p) s) with armPending := true }
        (admCqScanStart (pairOf p) s)))) ∧
  (∀ (p : Nat) (c : Cmd) (s : State), admState (pairOf p) s = 1 ∨ admState (pairOf p) s = 2 →
    nextStart (pairOf p) s = some c → exec (.adminCommandStart p) s = .next (settle (startCmd (pairOf p) c.id s))) ∧
  (∀ (p : Nat) (s : State), nextStart (pairOf p) s = none → exec (.adminCommandStart p) s = .next (settle s)) ∧
  (∀ (p : Nat) (c : Cmd) (s : State), nextStart (pairOf p) s = some c → c ∈ (getPair (pairOf p) s).cmds ∧ c.phase = .waiting ∧
    (∀ d, d ∈ (getPair (pairOf p) s).cmds → d.id < c.id → d.phase = .running → immediate d.opcode = false) ∧
    (c.serial = true → ∀ d, d ∈ (getPair (pairOf p) s).cmds → d.id < c.id → d.phase = .releasing)) ∧
  (∀ (p : Nat) (s : State), nextFinished (getPair (pairOf p) s).cmds = none →
    exec (.adminLongComplete p) s = .next (settle s)) ∧
  (∀ (p : Nat) (c : Cmd) (s : State), (getPair (pairOf p) s).cmds = [c] → c.phase = .finished → admSilent (pairOf p) s = false →
    exec (.adminLongComplete p) s = .next (settle (writeCmdCpl (pairOf p) c.id s))) ∧
  (∀ (p : Nat) (s : State), p < 2 → admState (pairOf p) s = 3 → (getPair (pairOf p) s).finalDone = true →
    (getPair (pairOf p) s).cmds = [] →
    ∃ t, exec (.adminDrainDone p) s = .next t ∧ admState (pairOf p) t = 0 ∧ (getPair (pairOf p) t).sqPos = 0 ∧
      (getPair (pairOf p) t).cmds = []) ∧
  (∀ (p : Nat) (c : Cmd) (s : State), admState (pairOf p) s = 3 → c ∈ (getPair (pairOf p) s).cmds → c.phase ≠ .waiting →
    nextFinished (getPair (pairOf p) s).cmds = none → s.boot.restart = false →
    exec (.adminDrainDone p) s = .next (settle s)) ∧
  (∀ (p : Nat) (s : State), admState (pairOf p) s ≠ 3 → nextFinished (getPair (pairOf p) s).cmds = none →
    s.boot.restart = false → exec (.adminDrainDone p) s = .next (settle s)) ∧
  (∀ (q : Nat) (s : State), q < 32768 → (getCq (getSq q s).cq s).state = .active → abortDone q s = true →
    exec (.abortSequenceDone q) s = .next (settle (commit (getSq q s).cmd.1 (getSq q s).cmd.2
      (setSq q { getSq q s with finalDone := false } s)))) ∧
  (∀ (q : Nat) (s : State), q < 32768 → (getCq (getSq q s).cq s).state = .active → abortDone q s = false →
    exec (.abortSequenceDone q) s = .next (settle s)) ∧
  (∀ (q : Nat) (s t : State), q < 32768 → (getSq q s).state = .resetting ∨ (getSq q s).state = .destroying →
    (getCq (getSq q s).cq s).state ≠ .active →
    t = dropExecs q (setSq q { getSq q s with finalDone := true } (endReqs (ofFinal q) s)) →
    (abortDone q t = true → exec (.abortSequenceDone q) s = .next (settle (commit (getSq q t).cmd.1 (getSq q t).cmd.2
      (setSq q { getSq q t with finalDone := false } t)))) ∧
    (abortDone q t = false → exec (.abortSequenceDone q) s = .next (settle t)))

/-! ## Boot of the steward, fuses and debug (R44, R445 to R467) -/

/-- The ROM starts at step 4 of the cold reset sequence, with REFCLK, and reads the boot control block; a load latches its slot's address,
marks the slot tried and gates the steward; a chunk whose hash matches becomes executable, and chunk 0 lets the image
run and shows its version; a verdict passes only where the signature is good and every chunk has matched, and a pass lets the datapath
leave reset (R44, R450, R453, R456 to R458). That STEWARD_ROM_START brings the islands to RUN is the model's choice (log entry 15), and what cannot
occur in a state changes nothing (log entry 4). -/
def Obligations.BootLoads : Prop :=
  (∀ s : State, coldHeld s = false → s.pins.coldStep = 3 → s.pins.refclk = true →
    exec .stewardRomStart s = .next (settle (bcbRead (bootStep 5 (setBootState 0 (putIslands (1 :: digitalIslands) .run
      { s with pins := { s.pins with coldStep := 4 } })))))) ∧
  (∀ s : State, (coldHeld s = true ∨ s.pins.coldStep ≠ 3 ∨ s.pins.refclk = false) → exec .stewardRomStart s = .next (settle s)) ∧
  (∀ (k : Nat) (trial taken : Bool) (s : State), k < 2 → bootState (startLoad k trial taken s) = 1 ∧
    bootSlot (startLoad k trial taken s) = k ∧ fb (loc .BT_STATUS) F.BT_STATUS_GATED (startLoad k trial taken s) = true ∧
    bit (fg (loc .BT_STATUS) F.BT_STATUS_TRIED (startLoad k trial taken s)) k = true ∧
    (startLoad k trial taken s).boot.phase = .manifest ∧ (startLoad k trial taken s).boot.matched = [] ∧
    (startLoad k trial taken s).boot.slotAt = slotAddr k s) ∧
  (∀ (k : Nat) (s : State), s.boot.phase = .chunks → k ∉ s.boot.matched → chunkOk k s = true → k ≠ 0 →
    exec (.chunkHashMatch k) s = .next (settle { s with boot := { s.boot with matched := k :: s.boot.matched } })) ∧
  (∀ s : State, s.boot.phase = .chunks → 0 ∉ s.boot.matched → chunkOk 0 s = true →
    ∃ e, exec (.chunkHashMatch 0) s = .next (settle e) ∧
      e.boot = { s.boot with
        matched := 0 :: s.boot.matched, entered := true } ∧
      rd64 (loc .BT_IMG_VER) e = u s.boot.man 16 8) ∧
  (∀ (k : Nat) (s : State), (chunkOk k s = false ∨ k ∈ s.boot.matched ∨ s.boot.phase ≠ .chunks) →
    exec (.chunkHashMatch k) s = .next (settle s)) ∧
  (∀ s : State, verdict s = some 0 → s.boot.phase = .chunks ∧ s.boot.readErr = false ∧ signatureOk s.boot.man = true ∧
    ∀ k, k < manChunks s.boot.man → k ∈ s.boot.matched) ∧
  (∀ s : State, bootState s = 1 → verdict s = some 0 → s.pins.verdict = false → s.boot.relDue = false →
    ∃ t, exec .bootVerdict s = .next t ∧ bootState t = (if s.boot.trial then 2 else 3) ∧
      fb (loc .BT_STATUS) F.BT_STATUS_GATED t = false ∧ t.pins.datapathUp = true ∧ t.pins.verdict = true) ∧
  (∀ (r : Nat) (s : State), bootState s = 1 → verdict s = some r → r ≠ 0 →
    exec .bootVerdict s = .next (settle (verdictFail r s))) ∧
  (∀ s : State, (bootState s ≠ 1 ∨ verdict s = none) → exec .bootVerdict s = .next (settle s))

/-- The failure of a load leads to the other slot where it has not been tried, and RECOVERY holds the datapath in reset; CONFIRM, RELEASE
(once, in TRIAL or CONFIRMED), RESTART and RECOV_GO by BT_CTRL, and where each is refused; the time-out of the release; a restart
with no pair and no access of the steward to end starts the ROM; the trial watchdog; an access that the memory protection of R447 does
not allow restarts the steward, and one that it allows does not (R447, R448, R458 to R462; log entries 79, 81). What cannot occur in a
state changes nothing (log entry 4). -/
def Obligations.BootControl : Prop :=
  (∀ (r : Nat) (s : State), bit (fg (loc .BT_STATUS) F.BT_STATUS_TRIED s) (1 - bootSlot s) = false → s.boot.recov = false →
    bootState (verdictFail r s) = 1 ∧ bootSlot (verdictFail r s) = 1 - bootSlot s ∧
    fb (loc .BT_EVENT) F.BT_EVENT_SLOT_FAIL (verdictFail r s) = true) ∧
  (∀ s : State, bootState (enterRecovery s) = 4 ∧ (enterRecovery s).pins.datapathUp = false ∧
    fb (loc .GL_ALERT) F.GL_ALERT_BOOT (enterRecovery s) = true) ∧
  (∀ (m : Master) (s : State), bootState s = 2 → s.tb.refill < s.boot.trialEnd → WriteOpen m (loc .BT_CTRL) (2 ^ 31) s →
    ∃ e, exec (.confirm m) s = .next (written m (loc .BT_CTRL) (2 ^ 31) e) ∧ bootState e = 3 ∧ e.boot.trialEnd = 0 ∧
      fb (loc .BT_EVENT) F.BT_EVENT_CONFIRMED e = true) ∧
  (∀ (m : Master) (s : State), (bootState s ≠ 2 ∨ s.boot.trialEnd ≤ s.tb.refill) → WriteOpen m (loc .BT_CTRL) (2 ^ 31) s →
    exec (.confirm m) s = .next (refusedWrite m (loc .BT_CTRL) 7 s)) ∧
  (∀ (m : Master) (s : State), (bootState s = 2 ∨ bootState s = 3) → s.boot.relTaken = false →
    (fb (loc .BT_STATUS) F.BT_STATUS_RELEASED s = false → Writes (.release m) m (loc .BT_CTRL) (2 ^ 30) s
      (release { s with boot := { s.boot with relTaken := true } })) ∧
    (fb (loc .BT_STATUS) F.BT_STATUS_RELEASED s = true → Writes (.release m) m (loc .BT_CTRL) (2 ^ 30) s
      { s with boot := { s.boot with relTaken := true } })) ∧
  (∀ (m : Master) (s : State), (s.boot.relTaken = true ∨ (bootState s ≠ 2 ∧ bootState s ≠ 3)) →
    WriteOpen m (loc .BT_CTRL) (2 ^ 30) s → exec (.release m) s = .next (refusedWrite m (loc .BT_CTRL) 7 s)) ∧
  (∀ s : State, fb (loc .BT_STATUS) F.BT_STATUS_RELEASED (release s) = true ∧
    (s.pins.warmN = true → (release s).pins.profileApplied = true)) ∧
  (∀ s : State, coldHeld s = false → fb (loc .BT_STATUS) F.BT_STATUS_RELEASED s = false → s.pins.verdict = true →
    exec .releaseTimeout s = .next (settle (release s))) ∧
  (∀ s : State, coldHeld s = false → fb (loc .BT_STATUS) F.BT_STATUS_RELEASED s = false → s.pins.verdict = false →
    exec .releaseTimeout s = .next (settle { s with boot := { s.boot with relDue := true } })) ∧
  (∀ s : State, fb (loc .BT_STATUS) F.BT_STATUS_RELEASED s = true → exec .releaseTimeout s = .next (settle s)) ∧
  (∀ (m : Master) (s : State), (bootState s = 2 ∨ bootState s = 3) → s.boot.restart = false →
    Writes (.restart m) m (loc .BT_CTRL) (2 ^ 29) s (restart none s)) ∧
  (∀ (m : Master) (s : State), (bootState s = 2 ∨ bootState s = 3) → s.boot.restart = true →
    Writes (.restart m) m (loc .BT_CTRL) (2 ^ 29) s s) ∧
  (∀ (m : Master) (s : State), bootState s ≠ 2 → bootState s ≠ 3 → WriteOpen m (loc .BT_CTRL) (2 ^ 29) s →
    exec (.restart m) s = .next (refusedWrite m (loc .BT_CTRL) 7 s)) ∧
  (∀ (slot : Option Nat) (s : State), stewardPairs s = [] → s.host.reqs = [] →
    bootState (restart slot s) = 0 ∧ (restart slot s).boot.phase = .bcb ∧ (restart slot s).boot.forced = slot ∧
    fg (loc .BT_STATUS) F.BT_STATUS_RESTARTS (restart slot s) = min 255 (fg (loc .BT_STATUS) F.BT_STATUS_RESTARTS s + 1) ∧
    fb (loc .BT_EVENT) F.BT_EVENT_RESTARTED (restart slot s) = true ∧
    (∀ n, n < 64 → fb (loc .GL_SEM 0 n) F.GL_SEM_HELD s = true → fg (loc .GL_SEM 0 n) F.GL_SEM_MASTER s = 2 →
      rd (loc .GL_SEM 0 n) (restart slot s) = 0)) ∧
  (∀ (m : Master) (k : Nat) (s : State), k < 2 → bootState s = 4 → WriteOpen m (loc .BT_CTRL) (2 ^ 28 + k) s →
    ∃ e, exec (.recovGo m k) s = .next (written m (loc .BT_CTRL) (2 ^ 28 + k) e) ∧ bootState e = 1 ∧ bootSlot e = k ∧
      e.boot.trial = true ∧ e.boot.recov = true) ∧
  (∀ (m : Master) (k : Nat) (s : State), k < 2 → bootState s ≠ 4 → WriteOpen m (loc .BT_CTRL) (2 ^ 28 + k) s →
    exec (.recovGo m k) s = .next (refusedWrite m (loc .BT_CTRL) 7 s)) ∧
  (∀ s : State, bootState s = 2 → s.boot.restart = false → s.boot.recov = true →
    exec .trialWatchdogExpiry s = .next (settle (enterRecovery (privEdge 1 (setReason 0x09
      { s with boot := { s.boot with trialEnd := 0 } }))))) ∧
  (∀ s : State, bootState s = 2 → s.boot.restart = false → s.boot.recov = false →
    exec .trialWatchdogExpiry s =
      .next (settle (restart (some (u s.boot.bcb 4 1 % 2)) (privEdge 1 (setReason 0x09
        { s with boot := { s.boot with trialEnd := 0 } }))))) ∧
  (∀ s : State, (bootState s ≠ 2 ∨ s.boot.restart = true) → exec .trialWatchdogExpiry s = .next (settle s)) ∧
  (∀ (a acc : Nat) (s : State), coldHeld s = false → 4 ≤ s.pins.coldStep → bootState s ≠ 4 → s.boot.restart = false →
    stwRights a acc s = false → stwStalls a acc s = false →
    exec (.mpuViolation a acc) s = .next (settle (restart none (setReason 0x0A s)))) ∧
  (∀ (a acc : Nat) (s : State), stwRights a acc s = true → exec (.mpuViolation a acc) s = .next (settle s)) ∧
  (∀ (a acc : Nat) (s : State), s.boot.entered = true →
    (stwRights a acc s = true ↔ (stwRegion a = .image ∧ acc < 2 ∧ (a - 0x10000000) / 65536 ∈ s.boot.matched) ∨
      (stwRegion a = .data ∧ 1 ≤ acc) ∨ (stwRegion a = .fuses ∧ acc = 1))) ∧
  (∀ (a acc : Nat) (s : State), s.boot.entered = false →
    (stwRights a acc s = true ↔ (stwRegion a = .rom ∧ acc < 2) ∨ (stwRegion a = .image ∧ 1 ≤ acc) ∨
      (stwRegion a = .data ∧ 1 ≤ acc) ∨ (stwRegion a = .fuses ∧ acc = 1)))

/-- Fuses and debug: a program runs on the word named, unless one runs or R466 refuses it; its end writes what the array then reads, the
operand (log entry 82), into the array and the shadow, and FAIL and GL_ALERT FUSE tell where that is not the OR; the debug unlock, refused where
a fuse disables debug (R465 to R467). -/
def Obligations.FusesAndDebug : Prop :=
  (∀ (m : Master) (w : Nat) (s : State), w < 2048 → fb (loc .BT_FUSE_CTRL) F.BT_FUSE_CTRL_BUSY s = false →
    fuseRefused w (rd (loc .BT_FUSE_DATA) s) s = false → WriteOpen m (loc .BT_FUSE_CTRL) (2 ^ 31 + w) s →
    ∃ e, exec (.fuseProg m w) s = .next (written m (loc .BT_FUSE_CTRL) (2 ^ 31 + w) e) ∧
      e.boot = { s.boot with fusing := some (w, rd (loc .BT_FUSE_DATA) s) } ∧
      fb (loc .BT_FUSE_CTRL) F.BT_FUSE_CTRL_BUSY e = true ∧ fg (loc .BT_FUSE_CTRL) F.BT_FUSE_CTRL_WORD e = w ∧
      fb (loc .BT_FUSE_CTRL) F.BT_FUSE_CTRL_REFUSED e = false) ∧
  (∀ (m : Master) (w : Nat) (s : State), w < 2048 → fb (loc .BT_FUSE_CTRL) F.BT_FUSE_CTRL_BUSY s = false →
    fuseRefused w (rd (loc .BT_FUSE_DATA) s) s = true → WriteOpen m (loc .BT_FUSE_CTRL) (2 ^ 31 + w) s →
    ∃ t, exec (.fuseProg m w) s = .next t ∧ t.boot = s.boot ∧ fb (loc .BT_FUSE_CTRL) F.BT_FUSE_CTRL_REFUSED t = true ∧
      fb (loc .BT_FUSE_CTRL) F.BT_FUSE_CTRL_BUSY t = false) ∧
  (∀ (d : Nat) (s : State), (∀ k, k < 4 → programmed k s = true → bit (fuseWord 0x30 s ||| d) k = true) →
    fuseRefused 0x30 d s = true) ∧
  (∀ (d : Nat) (s : State), thermometer ((fuseWord 0x32 s ||| d) + fuseWord 0x33 s * 2 ^ 32) = false →
    fuseRefused 0x32 d s = true) ∧
  (∀ (v : W32) (w d : Nat) (s : State), s.boot.fusing = some (w, d) →
    ∃ t, exec (.fuseProgDone v) s = .next t ∧ fuseWord w t = v.toNat ∧ sget 0 t.boot.array w = v.toNat ∧ t.boot.fusing = none ∧
      fb (loc .BT_FUSE_CTRL) F.BT_FUSE_CTRL_BUSY t = false ∧
      (fb (loc .BT_FUSE_CTRL) F.BT_FUSE_CTRL_FAIL t = true ↔ v.toNat ≠ (fuseWord w s ||| d)) ∧
      (v.toNat ≠ (fuseWord w s ||| d) → fb (loc .GL_ALERT) F.GL_ALERT_FUSE t = true)) ∧
  (∀ (v : W32) (s : State), s.boot.fusing = none → exec (.fuseProgDone v) s = .next (settle s)) ∧
  (∀ (m : Master) (s : State), fb (loc .BT_DEBUG) F.BT_DEBUG_DISABLED s = false → WriteOpen m (loc .BT_DEBUG) (2 ^ 31) s →
    ∃ e, exec (.debugUnlock m) s = .next (written m (loc .BT_DEBUG) (2 ^ 31) e) ∧
      fb (loc .BT_DEBUG) F.BT_DEBUG_UNLOCKED e = true ∧ fb (loc .BT_STATUS) F.BT_STATUS_DEBUG_UNLOCKED e = true ∧
      e = { s with
        regs := e.regs, pins := { s.pins with tapBypass := s.pins.tapIr == 0 } }) ∧
  (∀ (m : Master) (s : State), fb (loc .BT_DEBUG) F.BT_DEBUG_DISABLED s = true → WriteOpen m (loc .BT_DEBUG) (2 ^ 31) s →
    exec (.debugUnlock m) s = .next (refusedWrite m (loc .BT_DEBUG) 7 s))

/-! ## The Duo pair (R79, R80, R483 to R498) -/

/-- Flits and credits: a heartbeat spends a credit or waits for one; a flit is applied and its credit returned, or dropped and counted
where its ECC is bad; journal records apply in sequence, a gap asks for a resend, and again after every 16 flits while it stands (the
count is the model's choice, log entry 87); a credit lets a waiting flit go; the counters that changed are journalled (R79, R80, R487,
R488). What cannot occur in a state changes nothing (log entry 4). -/
def Obligations.DuoFlits : Prop :=
  (∀ s : State, inReset s = false → duRole s ≠ 0 → s.du.txq = [] → s.du.credits ≠ 0 →
    exec .dmpHeartbeatSend s = .next (settle { s with du := { s.du with
      credits := s.du.credits - 1
      sent := s.du.sent ++ [{ role := duRole s, pair := duPair s, body := .heartbeat }]
      lastTx := s.tb.time } })) ∧
  (∀ s : State, inReset s = false → duRole s ≠ 0 → s.du.txq = [] → s.du.credits = 0 →
    exec .dmpHeartbeatSend s = .next (settle { s with du := { s.du with
      txq := [{ role := duRole s, pair := duPair s, body := .heartbeat }] } })) ∧
  (∀ s : State, s.du.txq ≠ [] → exec .dmpHeartbeatSend s = .next (settle s)) ∧
  (∀ (f : Flit) (bad : Bool) (c : Nat) (l : List Nat) (s : State), (duRole s = 0 ∨ inReset s = true) →
    exec (.dmpFlitReceive f bad c l) s = .next (settle s)) ∧
  (∀ (f : Flit) (c : Nat) (l : List Nat) (s : State), duRole s ≠ 0 → inReset s = false →
    exec (.dmpFlitReceive f true c l) s = .next (settle (returnCredit (bump (cBlk 3) s)))) ∧
  (∀ (p : Nat) (s : State), duRole s = 1 → inReset s = false →
    exec (.dmpFlitReceive { role := 2, pair := p, body := .heartbeat } false) s =
      .next (settle (returnCredit (fs (loc .DU_STATUS) F.DU_STATUS_DMP_UP 1
        { s with du := { s.du with partner := (2, p) } })))) ∧
  (∀ (r : JRec) (s : State), duRole s = 2 → duPair s ≠ 0 →
    journalIn ((s.du.rxSeq + 1) % 2 ^ 32) r s = applyRec r { s with du := { s.du with
      rxSeq := (s.du.rxSeq + 1) % 2 ^ 32, gap := false } }) ∧
  (∀ (n : Nat) (r : JRec) (s : State), duRole s = 2 → duPair s ≠ 0 → s.du.rxSeq + 1 < n → n < 2 ^ 31 →
    journalIn n r s = (if s.du.gap = true then s
      else sendFlit (.resend (s.du.rxSeq + 1)) { s with du := { s.du with gap := true, gapFlits := 0 } })) ∧
  (∀ s : State, duRole s = 2 → s.du.gap = true →
    gapFlit s = (if s.du.gapFlits < 15 then { s with du := { s.du with gapFlits := s.du.gapFlits + 1 } }
      else sendFlit (.resend ((s.du.rxSeq + 1) % 2 ^ 32)) { s with du := { s.du with gapFlits := 0 } })) ∧
  (∀ (ack : W32) (s : State), duRole s ≠ 0 → inReset s = false → s.du.txq = [] → s.du.held = [] → s.du.waits = [] →
    s.du.phase ≠ .snapshot → s.du.phase ≠ .positions → (∀ r, r ∈ s.du.replay → r.1 ≠ ack.toNat) →
    exec (.dmpCredit ack) s = .next (settle { s with du := { s.du with credits := min 16 (s.du.credits + 1) } })) ∧
  (∀ (ack : W32) (f : Flit) (s : State), duRole s ≠ 0 → inReset s = false → s.du.txq = [f] → s.du.credits = 0 →
    s.du.held = [] → s.du.waits = [] → s.du.phase ≠ .snapshot → s.du.phase ≠ .positions → (∀ r, r ∈ s.du.replay → r.1 ≠ ack.toNat) →
    exec (.dmpCredit ack) s = .next (settle { s with du := { s.du with
      txq := [], sent := s.du.sent ++ [f], lastTx := s.tb.time } })) ∧
  (∀ s : State, journaling s = false → exec .counterJournal s = .next (settle s)) ∧
  (∀ s : State, journaling s = true → s.du.told = s.pc.val.filter (fun c => counterSent c.1) →
    (∀ c, c ∈ s.pc.val → c.2 < 2 ^ 48 ∧ sget 0 s.du.told c.1 = c.2) → exec .counterJournal s = .next (settle s)) ∧
  (∀ (now ds : List (Nat × Nat)) (s : State), journaling s = true → now = s.pc.val.filter (fun c => counterSent c.1) →
    ds = (now.map (fun c => (c.1, (c.2 + 2 ^ 48 - sget 0 s.du.told c.1) % 2 ^ 48))).filter (fun c => c.2 != 0) → ds ≠ [] →
    exec .counterJournal s = .next (settle (journal (.counter ds) { s with du := { s.du with told := now } })))

/-- Silence and the lease: silence lowers DMP_UP and ends a DUO_PROTECT, and a lack of credits counts as silence; the active
renews the lease, fences itself where another block holds it or no renewal is answered, and returns to PROTECTED once a read
names it and flits arrive; the standby watches the lease, and heartbeat loss and a fatal fault trigger a failover (R79, R491,
R492). What cannot occur in a state changes nothing (log entry 4). Takeover and cutover: the wait for FENCED ends; a takeover
that is due writes the lease with the next EPOCH; a block that surrenders is an UNPROTECTED STANDBY without queues, frames,
dump or a lease write to come; once the snapshot is acknowledged the pair is PROTECTED as soon as no write of the old form is
outstanding and no record is held (R493, R496, R497). Log entries 89 and 90 name the readings. -/
def Obligations.DuoLeaseAndTakeover : Prop :=
  (∀ s : State, duRole s ≠ 0 → duPair s ≠ 1 → s.du.waits = [] →
    ∃ e, exec .dmpSilence s = .next (settle e) ∧ dmpUp e = false ∧ duPair e = duPair s ∧
      (duPair s = 2 → duRole s = 1 → fb (loc .DU_EVENT) F.DU_EVENT_PARTNER_LOST e = true)) ∧
  (∀ s : State, duRole s ≠ 0 → duPair s = 1 → s.du.waits = [] → s.du.cmd = none →
    ∃ e, exec .dmpSilence s = .next (settle e) ∧ dmpUp e = false ∧ duPair e = 0 ∧ e.du.phase = .none) ∧
  (∀ s : State, duRole s = 0 → s.du.waits = [] → exec .dmpSilence s = .next (settle s)) ∧
  (∀ s : State, s.du.waits = [] → (s.du.txq = [] ∨ s.du.credits ≠ 0) →
    exec .dmpCreditStarvation s = .next (settle s)) ∧
  (∀ s : State, s.du.waits = [] → s.du.txq ≠ [] → s.du.credits = 0 → duRole s = 1 → duPair s = 2 →
    exec .dmpCreditStarvation s = .next (settle (duFlag F.DU_EVENT_PARTNER_LOST s))) ∧
  (∀ s : State, s.du.waits = [] → s.du.txq ≠ [] → s.du.credits = 0 → duRole s = 2 → duPair s = 2 → s.du.phase = .none →
    leaseStale s = true →
    exec .dmpCreditStarvation s = .next (settle { s with du := { s.du with
      phase := .due, trigger := 1, triggerAt := s.tb.time } })) ∧
  (∀ s : State, duRole s = 1 → duPair s = 2 ∨ duPair s = 3 → s.du.phase ≠ .draining → s.du.phase ≠ .gaveUp →
    leaseBusy s = false → exec .leaseRenew s = .next (settle (access
      { chan := leaseChan s, func := 0, iova := leaseAddr s, len := 64, purpose := .leaseRead, phys := true } s))) ∧
  (∀ s : State, duRole s = 2 → duPair s = 2 → leaseBusy s = false →
    exec .leaseRead s = .next (settle (access
      { chan := leaseChan s, func := 0, iova := leaseAddr s, len := 64, purpose := .leaseRead, phys := true } s))) ∧
  (∀ s : State, (duRole s ≠ 2 ∨ duPair s ≠ 2) → exec .leaseRead s = .next (settle s)) ∧
  (∀ s : State, (duRole s ≠ 1 ∨ (duPair s ≠ 2 ∧ duPair s ≠ 3)) → exec .leaseRenew s = .next (settle s)) ∧
  (∀ s : State, leaseBusy s = true → exec .leaseRead s = .next (settle s) ∧ exec .leaseRenew s = .next (settle s)) ∧
  (∀ (b : Bytes) (s : State), duRole s = 1 → duPair s = 2 → u b 8 1 ≠ duUnit s → duPair (leaseArrived b s) = 3) ∧
  (∀ (b : Bytes) (s : State), duRole s = 1 → duPair s = 2 → u b 8 1 = duUnit s →
    duPair (leaseArrived b s) = 2 ∧ (leaseArrived b s).du.count = (u b 0 8 + 1) % 2 ^ 64 ∧
    (leaseArrived b s).du.epoch = u b 16 8) ∧
  (∀ (b : Bytes) (s : State), duRole s = 1 → duPair s = 3 → s.du.held = [] →
    duPair (leaseArrived b s) = (if duStops s = false ∧ u b 8 1 = duUnit s ∧ dmpUp s = true then 2 else 3)) ∧
  (∀ s : State, duRole s = 1 → duPair s = 2 →
    ∃ e, exec .leaseFenceTimeout s = .next (settle e) ∧ duPair e = 3 ∧ e.pins.fenced = true ∧
      fb (loc .DU_EVENT) F.DU_EVENT_FENCED e = true ∧ fb (loc .DU_EVENT) F.DU_EVENT_UNPROTECTED e = true) ∧
  (∀ s : State, (duRole s ≠ 1 ∨ duPair s ≠ 2) → exec .leaseFenceTimeout s = .next (settle s)) ∧
  (∀ s : State, duRole s = 2 → duPair s = 2 → s.du.phase = .none → leaseStale s = true → dmpUp s = false →
    exec .heartbeatLossTrigger s = .next (settle { s with du := { s.du with
      phase := .due, trigger := 1, triggerAt := s.tb.time } })) ∧
  (∀ s : State, (leaseStale s = false ∨ dmpUp s = true) → exec .heartbeatLossTrigger s = .next (settle s)) ∧
  (∀ s : State, coldHeld s = false → (duRole s ≠ 1 ∨ (duPair s ≠ 2 ∧ duPair s ≠ 3)) →
    exec .fatalFault s = .next (settle (alert F.GL_ALERT_FATAL s))) ∧
  (∀ s : State, coldHeld s = false → duRole s = 1 → duPair s = 2 ∨ duPair s = 3 → s.du.phase ≠ .gaveUp →
    ∃ e, exec .fatalFault s = .next (settle e) ∧ e.du.phase = .draining ∧ e.du.trigger = 3 ∧
      fb (loc .GL_ALERT) F.GL_ALERT_FATAL e = true) ∧
  (∀ s : State, duRole s = 2 → s.du.phase = .waitFenced →
    exec .fenceWaitTimeout s = .next (settle { s with du := { s.du with phase := .due } })) ∧
  (∀ s : State, s.du.phase ≠ .waitFenced → exec .fenceWaitTimeout s = .next (settle s)) ∧
  (∀ s : State, duRole s = 2 → s.du.phase = .due →
    exec .takeover s = .next (settle (leaseWrite s.du.count (s.du.epoch + 1)
      { s with du := { s.du with phase := .takeLease } }))) ∧
  (∀ s : State, s.du.phase ≠ .due → exec .takeover s = .next (settle s)) ∧
  (∀ (c ep : Nat) (s : State), (leaseWrite c ep s).du = { s.du with
      count := c % 2 ^ 64, holder := duUnit s, epoch := ep % 2 ^ 64 } ∧ (leaseWrite c ep s).regs = s.regs) ∧
  (∀ s : State, duRole (surrender s) = 2 ∧ duPair (surrender s) = 0 ∧ (surrender s).wq.sqs = [] ∧ (surrender s).dp.frames = [] ∧
    (surrender s).phy = s.phy ∧ (surrender s).pc.dump.phase = .idle ∧
    (∀ r, r ∈ (surrender s).host.reqs → r.isOut = true ∨ (r.phys = true ∧ r.purpose ≠ .leaseWrite))) ∧
  (∀ s : State, s.du.phase = .acked → ownFlips s = true →
    exec .cutover s = .next (settle { s with du := { s.du with phase := .cutover } })) ∧
  (∀ s : State, s.du.phase = .acked → s.host.reqs = [] → s.du.cmd = none → duPair s = 1 → s.du.held = [] →
    s.du.replay.length + (snapPositions { s with du := { s.du with phase := .cutover } }).length ≤ 4096 →
    ∃ e, exec .cutover s = .next (settle e) ∧ duPair e = 2 ∧ e.du.phase = .none) ∧
  (∀ s : State, s.du.held ≠ [] → cutoverSend s = s) ∧
  (∀ s : State, s.du.phase ≠ .acked → exec .cutover s = .next (settle s))
end

