-- ==== Sys2Proof/Laws/Control.lean ====
section
/-!
SUPPORT. What a write and a read of a page register do where the page is open to them: the checks of spec/03 once, so that a
statement about a register cites its own effect alone.
-/

namespace Sys2Proof.Machine

/-- A write whose turn it is and that passes its checks has its register's effect, is journalled, and answers OK. -/
theorem ctlWrite_open {m : Master} {a d : Nat} {eff : State → Option State} {miss : State → State} {s t : State}
    (h : WriteOpen m a d s) (he : eff s = some t) :
    ctlWrite m a d eff s miss = respond m .ok true 0 (journalConfig a d t) := by
  obtain ⟨hq, hr, ho, hc, hg, hl⟩ := h
  simp [ctlWrite, inTurn, ctlWriteNow, runWrite, hq, hr, ho, hc, hg, hl, he, Nat.div_add_mod']

/-- A write that passes its checks and that the register refuses in the present state answers ACCESS, reason STATE. -/
theorem ctlWrite_refused {m : Master} {a d : Nat} {eff : State → Option State} {miss : State → State} {s : State}
    (h : WriteOpen m a d s) (he : eff s = none) :
    ctlWrite m a d eff s miss = refusePage m true (a / 4096) (a % 4096) 7 (miss s) := by
  obtain ⟨hq, hr, ho, hc, hg, hl⟩ := h
  simp [ctlWrite, inTurn, ctlWriteNow, runWrite, hq, hr, ho, hc, hg, hl, he]

/-- A read whose turn it is and that passes its checks returns the register's value. -/
theorem ctlRead_open {m : Master} {a : Nat} {eff : State → Nat × State} {s : State} (h : ReadOpen m a s) :
    ctlRead m a eff s = respond m .ok false (eff s).1 (eff s).2 := by
  obtain ⟨hq, hr, ho, hc, hg⟩ := h
  simp [ctlRead, inTurn, ctlReadNow, hq, hr, ho, hc, hg]

end Sys2Proof.Machine
end

