-- ==== Sys2Proof/Laws/State.lean ====
section
/-!
SUPPORT. What each update of the state leaves alone: one lemma per field and update, so that no proof unfolds a record
update.
-/

namespace Sys2Proof.Machine

@[simp] theorem wr_regs (a v : Nat) (s : State) : (wr a v s).regs = rput s.regs a (BitVec.ofNat 32 v) := rfl
@[simp] theorem wr_pins (a v : Nat) (s : State) : (wr a v s).pins = s.pins := rfl
@[simp] theorem wr_ctl (a v : Nat) (s : State) : (wr a v s).ctl = s.ctl := rfl
@[simp] theorem wr_host (a v : Nat) (s : State) : (wr a v s).host = s.host := rfl
@[simp] theorem wr_ev (a v : Nat) (s : State) : (wr a v s).ev = s.ev := rfl
@[simp] theorem wr_tb (a v : Nat) (s : State) : (wr a v s).tb = s.tb := rfl
@[simp] theorem wr_pc (a v : Nat) (s : State) : (wr a v s).pc = s.pc := rfl
@[simp] theorem wr_wq (a v : Nat) (s : State) : (wr a v s).wq = s.wq := rfl
@[simp] theorem wr_adm (a v : Nat) (s : State) : (wr a v s).adm = s.adm := rfl
@[simp] theorem wr_te (a v : Nat) (s : State) : (wr a v s).te = s.te := rfl
@[simp] theorem wr_prof (a v : Nat) (s : State) : (wr a v s).prof = s.prof := rfl
@[simp] theorem wr_phy (a v : Nat) (s : State) : (wr a v s).phy = s.phy := rfl
@[simp] theorem wr_os (a v : Nat) (s : State) : (wr a v s).os = s.os := rfl
@[simp] theorem wr_dp (a v : Nat) (s : State) : (wr a v s).dp = s.dp := rfl
@[simp] theorem wr_tab (a v : Nat) (s : State) : (wr a v s).tab = s.tab := rfl
@[simp] theorem wr_sc (a v : Nat) (s : State) : (wr a v s).sc = s.sc := rfl
@[simp] theorem wr_isl (a v : Nat) (s : State) : (wr a v s).isl = s.isl := rfl
@[simp] theorem wr_pw (a v : Nat) (s : State) : (wr a v s).pw = s.pw := rfl
@[simp] theorem wr_boot (a v : Nat) (s : State) : (wr a v s).boot = s.boot := rfl
@[simp] theorem wr_sv (a v : Nat) (s : State) : (wr a v s).sv = s.sv := rfl
@[simp] theorem wr_du (a v : Nat) (s : State) : (wr a v s).du = s.du := rfl
@[simp] theorem wr_free (a v : Nat) (s : State) : (wr a v s).free = s.free := rfl
@[simp] theorem wr_pending (a v : Nat) (s : State) : (wr a v s).pending = s.pending := rfl

@[simp] theorem setIsl_regs (c : Nat) (i : Island) (s : State) : (setIsl c i s).regs = s.regs := rfl
@[simp] theorem setIsl_pins (c : Nat) (i : Island) (s : State) : (setIsl c i s).pins = s.pins := rfl
@[simp] theorem setIsl_ctl (c : Nat) (i : Island) (s : State) : (setIsl c i s).ctl = s.ctl := rfl
@[simp] theorem setIsl_host (c : Nat) (i : Island) (s : State) : (setIsl c i s).host = s.host := rfl
@[simp] theorem setIsl_ev (c : Nat) (i : Island) (s : State) : (setIsl c i s).ev = s.ev := rfl
@[simp] theorem setIsl_tb (c : Nat) (i : Island) (s : State) : (setIsl c i s).tb = s.tb := rfl
@[simp] theorem setIsl_pc (c : Nat) (i : Island) (s : State) : (setIsl c i s).pc = s.pc := rfl
@[simp] theorem setIsl_wq (c : Nat) (i : Island) (s : State) : (setIsl c i s).wq = s.wq := rfl
@[simp] theorem setIsl_adm (c : Nat) (i : Island) (s : State) : (setIsl c i s).adm = s.adm := rfl
@[simp] theorem setIsl_te (c : Nat) (i : Island) (s : State) : (setIsl c i s).te = s.te := rfl
@[simp] theorem setIsl_prof (c : Nat) (i : Island) (s : State) : (setIsl c i s).prof = s.prof := rfl
@[simp] theorem setIsl_phy (c : Nat) (i : Island) (s : State) : (setIsl c i s).phy = s.phy := rfl
@[simp] theorem setIsl_os (c : Nat) (i : Island) (s : State) : (setIsl c i s).os = s.os := rfl
@[simp] theorem setIsl_dp (c : Nat) (i : Island) (s : State) : (setIsl c i s).dp = s.dp := rfl
@[simp] theorem setIsl_tab (c : Nat) (i : Island) (s : State) : (setIsl c i s).tab = s.tab := rfl
@[simp] theorem setIsl_sc (c : Nat) (i : Island) (s : State) : (setIsl c i s).sc = s.sc := rfl
@[simp] theorem setIsl_isl (c : Nat) (i : Island) (s : State) : (setIsl c i s).isl = sput Island.off s.isl c i := rfl
@[simp] theorem setIsl_pw (c : Nat) (i : Island) (s : State) : (setIsl c i s).pw = s.pw := rfl
@[simp] theorem setIsl_boot (c : Nat) (i : Island) (s : State) : (setIsl c i s).boot = s.boot := rfl
@[simp] theorem setIsl_sv (c : Nat) (i : Island) (s : State) : (setIsl c i s).sv = s.sv := rfl
@[simp] theorem setIsl_du (c : Nat) (i : Island) (s : State) : (setIsl c i s).du = s.du := rfl
@[simp] theorem setIsl_free (c : Nat) (i : Island) (s : State) : (setIsl c i s).free = s.free := rfl
@[simp] theorem setIsl_pending (c : Nat) (i : Island) (s : State) : (setIsl c i s).pending = s.pending := rfl

@[simp] theorem setSil_regs (q : Nat) (v : Sil) (s : State) : (setSil q v s).regs = s.regs := rfl
@[simp] theorem setSil_pins (q : Nat) (v : Sil) (s : State) : (setSil q v s).pins = s.pins := rfl
@[simp] theorem setSil_ctl (q : Nat) (v : Sil) (s : State) : (setSil q v s).ctl = s.ctl := rfl
@[simp] theorem setSil_host (q : Nat) (v : Sil) (s : State) : (setSil q v s).host = s.host := rfl
@[simp] theorem setSil_ev (q : Nat) (v : Sil) (s : State) : (setSil q v s).ev = { s.ev with sils := sput Sil.none s.ev.sils q v } := rfl
@[simp] theorem setSil_tb (q : Nat) (v : Sil) (s : State) : (setSil q v s).tb = s.tb := rfl
@[simp] theorem setSil_pc (q : Nat) (v : Sil) (s : State) : (setSil q v s).pc = s.pc := rfl
@[simp] theorem setSil_wq (q : Nat) (v : Sil) (s : State) : (setSil q v s).wq = s.wq := rfl
@[simp] theorem setSil_adm (q : Nat) (v : Sil) (s : State) : (setSil q v s).adm = s.adm := rfl
@[simp] theorem setSil_te (q : Nat) (v : Sil) (s : State) : (setSil q v s).te = s.te := rfl
@[simp] theorem setSil_prof (q : Nat) (v : Sil) (s : State) : (setSil q v s).prof = s.prof := rfl
@[simp] theorem setSil_phy (q : Nat) (v : Sil) (s : State) : (setSil q v s).phy = s.phy := rfl
@[simp] theorem setSil_os (q : Nat) (v : Sil) (s : State) : (setSil q v s).os = s.os := rfl
@[simp] theorem setSil_dp (q : Nat) (v : Sil) (s : State) : (setSil q v s).dp = s.dp := rfl
@[simp] theorem setSil_tab (q : Nat) (v : Sil) (s : State) : (setSil q v s).tab = s.tab := rfl
@[simp] theorem setSil_sc (q : Nat) (v : Sil) (s : State) : (setSil q v s).sc = s.sc := rfl
@[simp] theorem setSil_isl (q : Nat) (v : Sil) (s : State) : (setSil q v s).isl = s.isl := rfl
@[simp] theorem setSil_pw (q : Nat) (v : Sil) (s : State) : (setSil q v s).pw = s.pw := rfl
@[simp] theorem setSil_boot (q : Nat) (v : Sil) (s : State) : (setSil q v s).boot = s.boot := rfl
@[simp] theorem setSil_sv (q : Nat) (v : Sil) (s : State) : (setSil q v s).sv = s.sv := rfl
@[simp] theorem setSil_du (q : Nat) (v : Sil) (s : State) : (setSil q v s).du = s.du := rfl
@[simp] theorem setSil_free (q : Nat) (v : Sil) (s : State) : (setSil q v s).free = s.free := rfl
@[simp] theorem setSil_pending (q : Nat) (v : Sil) (s : State) : (setSil q v s).pending = s.pending := rfl

@[simp] theorem setSq_regs (q : Nat) (v : Sq) (s : State) : (setSq q v s).regs = s.regs := rfl
@[simp] theorem setSq_pins (q : Nat) (v : Sq) (s : State) : (setSq q v s).pins = s.pins := rfl
@[simp] theorem setSq_ctl (q : Nat) (v : Sq) (s : State) : (setSq q v s).ctl = s.ctl := rfl
@[simp] theorem setSq_host (q : Nat) (v : Sq) (s : State) : (setSq q v s).host = s.host := rfl
@[simp] theorem setSq_ev (q : Nat) (v : Sq) (s : State) : (setSq q v s).ev = s.ev := rfl
@[simp] theorem setSq_tb (q : Nat) (v : Sq) (s : State) : (setSq q v s).tb = s.tb := rfl
@[simp] theorem setSq_pc (q : Nat) (v : Sq) (s : State) : (setSq q v s).pc = s.pc := rfl
@[simp] theorem setSq_wq (q : Nat) (v : Sq) (s : State) : (setSq q v s).wq = { s.wq with sqs := sput Sq.none s.wq.sqs q v } := rfl
@[simp] theorem setSq_adm (q : Nat) (v : Sq) (s : State) : (setSq q v s).adm = s.adm := rfl
@[simp] theorem setSq_te (q : Nat) (v : Sq) (s : State) : (setSq q v s).te = s.te := rfl
@[simp] theorem setSq_prof (q : Nat) (v : Sq) (s : State) : (setSq q v s).prof = s.prof := rfl
@[simp] theorem setSq_phy (q : Nat) (v : Sq) (s : State) : (setSq q v s).phy = s.phy := rfl
@[simp] theorem setSq_os (q : Nat) (v : Sq) (s : State) : (setSq q v s).os = s.os := rfl
@[simp] theorem setSq_dp (q : Nat) (v : Sq) (s : State) : (setSq q v s).dp = s.dp := rfl
@[simp] theorem setSq_tab (q : Nat) (v : Sq) (s : State) : (setSq q v s).tab = s.tab := rfl
@[simp] theorem setSq_sc (q : Nat) (v : Sq) (s : State) : (setSq q v s).sc = s.sc := rfl
@[simp] theorem setSq_isl (q : Nat) (v : Sq) (s : State) : (setSq q v s).isl = s.isl := rfl
@[simp] theorem setSq_pw (q : Nat) (v : Sq) (s : State) : (setSq q v s).pw = s.pw := rfl
@[simp] theorem setSq_boot (q : Nat) (v : Sq) (s : State) : (setSq q v s).boot = s.boot := rfl
@[simp] theorem setSq_sv (q : Nat) (v : Sq) (s : State) : (setSq q v s).sv = s.sv := rfl
@[simp] theorem setSq_du (q : Nat) (v : Sq) (s : State) : (setSq q v s).du = s.du := rfl
@[simp] theorem setSq_free (q : Nat) (v : Sq) (s : State) : (setSq q v s).free = s.free := rfl
@[simp] theorem setSq_pending (q : Nat) (v : Sq) (s : State) : (setSq q v s).pending = s.pending := rfl

@[simp] theorem setCq_regs (q : Nat) (v : Cq) (s : State) : (setCq q v s).regs = s.regs := rfl
@[simp] theorem setCq_pins (q : Nat) (v : Cq) (s : State) : (setCq q v s).pins = s.pins := rfl
@[simp] theorem setCq_ctl (q : Nat) (v : Cq) (s : State) : (setCq q v s).ctl = s.ctl := rfl
@[simp] theorem setCq_host (q : Nat) (v : Cq) (s : State) : (setCq q v s).host = s.host := rfl
@[simp] theorem setCq_ev (q : Nat) (v : Cq) (s : State) : (setCq q v s).ev = s.ev := rfl
@[simp] theorem setCq_tb (q : Nat) (v : Cq) (s : State) : (setCq q v s).tb = s.tb := rfl
@[simp] theorem setCq_pc (q : Nat) (v : Cq) (s : State) : (setCq q v s).pc = s.pc := rfl
@[simp] theorem setCq_wq (q : Nat) (v : Cq) (s : State) : (setCq q v s).wq = { s.wq with cqs := sput Cq.none s.wq.cqs q v } := rfl
@[simp] theorem setCq_adm (q : Nat) (v : Cq) (s : State) : (setCq q v s).adm = s.adm := rfl
@[simp] theorem setCq_te (q : Nat) (v : Cq) (s : State) : (setCq q v s).te = s.te := rfl
@[simp] theorem setCq_prof (q : Nat) (v : Cq) (s : State) : (setCq q v s).prof = s.prof := rfl
@[simp] theorem setCq_phy (q : Nat) (v : Cq) (s : State) : (setCq q v s).phy = s.phy := rfl
@[simp] theorem setCq_os (q : Nat) (v : Cq) (s : State) : (setCq q v s).os = s.os := rfl
@[simp] theorem setCq_dp (q : Nat) (v : Cq) (s : State) : (setCq q v s).dp = s.dp := rfl
@[simp] theorem setCq_tab (q : Nat) (v : Cq) (s : State) : (setCq q v s).tab = s.tab := rfl
@[simp] theorem setCq_sc (q : Nat) (v : Cq) (s : State) : (setCq q v s).sc = s.sc := rfl
@[simp] theorem setCq_isl (q : Nat) (v : Cq) (s : State) : (setCq q v s).isl = s.isl := rfl
@[simp] theorem setCq_pw (q : Nat) (v : Cq) (s : State) : (setCq q v s).pw = s.pw := rfl
@[simp] theorem setCq_boot (q : Nat) (v : Cq) (s : State) : (setCq q v s).boot = s.boot := rfl
@[simp] theorem setCq_sv (q : Nat) (v : Cq) (s : State) : (setCq q v s).sv = s.sv := rfl
@[simp] theorem setCq_du (q : Nat) (v : Cq) (s : State) : (setCq q v s).du = s.du := rfl
@[simp] theorem setCq_free (q : Nat) (v : Cq) (s : State) : (setCq q v s).free = s.free := rfl
@[simp] theorem setCq_pending (q : Nat) (v : Cq) (s : State) : (setCq q v s).pending = s.pending := rfl

@[simp] theorem setX_regs (e : Exec) (s : State) : (setX e s).regs = s.regs := rfl
@[simp] theorem setX_pins (e : Exec) (s : State) : (setX e s).pins = s.pins := rfl
@[simp] theorem setX_ctl (e : Exec) (s : State) : (setX e s).ctl = s.ctl := rfl
@[simp] theorem setX_host (e : Exec) (s : State) : (setX e s).host = s.host := rfl
@[simp] theorem setX_ev (e : Exec) (s : State) : (setX e s).ev = s.ev := rfl
@[simp] theorem setX_tb (e : Exec) (s : State) : (setX e s).tb = s.tb := rfl
@[simp] theorem setX_pc (e : Exec) (s : State) : (setX e s).pc = s.pc := rfl
@[simp] theorem setX_adm (e : Exec) (s : State) : (setX e s).adm = s.adm := rfl
@[simp] theorem setX_te (e : Exec) (s : State) : (setX e s).te = s.te := rfl
@[simp] theorem setX_prof (e : Exec) (s : State) : (setX e s).prof = s.prof := rfl
@[simp] theorem setX_phy (e : Exec) (s : State) : (setX e s).phy = s.phy := rfl
@[simp] theorem setX_os (e : Exec) (s : State) : (setX e s).os = s.os := rfl
@[simp] theorem setX_dp (e : Exec) (s : State) : (setX e s).dp = s.dp := rfl
@[simp] theorem setX_tab (e : Exec) (s : State) : (setX e s).tab = s.tab := rfl
@[simp] theorem setX_sc (e : Exec) (s : State) : (setX e s).sc = s.sc := rfl
@[simp] theorem setX_isl (e : Exec) (s : State) : (setX e s).isl = s.isl := rfl
@[simp] theorem setX_pw (e : Exec) (s : State) : (setX e s).pw = s.pw := rfl
@[simp] theorem setX_boot (e : Exec) (s : State) : (setX e s).boot = s.boot := rfl
@[simp] theorem setX_sv (e : Exec) (s : State) : (setX e s).sv = s.sv := rfl
@[simp] theorem setX_du (e : Exec) (s : State) : (setX e s).du = s.du := rfl
@[simp] theorem setX_free (e : Exec) (s : State) : (setX e s).free = s.free := rfl
@[simp] theorem setX_pending (e : Exec) (s : State) : (setX e s).pending = s.pending := rfl

@[simp] theorem dropX_regs (x : Nat) (s : State) : (dropX x s).regs = s.regs := rfl
@[simp] theorem dropX_pins (x : Nat) (s : State) : (dropX x s).pins = s.pins := rfl
@[simp] theorem dropX_ctl (x : Nat) (s : State) : (dropX x s).ctl = s.ctl := rfl
@[simp] theorem dropX_host (x : Nat) (s : State) : (dropX x s).host = s.host := rfl
@[simp] theorem dropX_ev (x : Nat) (s : State) : (dropX x s).ev = s.ev := rfl
@[simp] theorem dropX_tb (x : Nat) (s : State) : (dropX x s).tb = s.tb := rfl
@[simp] theorem dropX_pc (x : Nat) (s : State) : (dropX x s).pc = s.pc := rfl
@[simp] theorem dropX_adm (x : Nat) (s : State) : (dropX x s).adm = s.adm := rfl
@[simp] theorem dropX_te (x : Nat) (s : State) : (dropX x s).te = s.te := rfl
@[simp] theorem dropX_prof (x : Nat) (s : State) : (dropX x s).prof = s.prof := rfl
@[simp] theorem dropX_phy (x : Nat) (s : State) : (dropX x s).phy = s.phy := rfl
@[simp] theorem dropX_os (x : Nat) (s : State) : (dropX x s).os = s.os := rfl
@[simp] theorem dropX_dp (x : Nat) (s : State) : (dropX x s).dp = s.dp := rfl
@[simp] theorem dropX_tab (x : Nat) (s : State) : (dropX x s).tab = s.tab := rfl
@[simp] theorem dropX_sc (x : Nat) (s : State) : (dropX x s).sc = s.sc := rfl
@[simp] theorem dropX_isl (x : Nat) (s : State) : (dropX x s).isl = s.isl := rfl
@[simp] theorem dropX_pw (x : Nat) (s : State) : (dropX x s).pw = s.pw := rfl
@[simp] theorem dropX_boot (x : Nat) (s : State) : (dropX x s).boot = s.boot := rfl
@[simp] theorem dropX_sv (x : Nat) (s : State) : (dropX x s).sv = s.sv := rfl
@[simp] theorem dropX_du (x : Nat) (s : State) : (dropX x s).du = s.du := rfl
@[simp] theorem dropX_free (x : Nat) (s : State) : (dropX x s).free = s.free := rfl
@[simp] theorem dropX_pending (x : Nat) (s : State) : (dropX x s).pending = s.pending := rfl

@[simp] theorem endOut_regs (o : Nat) (s : State) : (endOut o s).regs = s.regs := rfl
@[simp] theorem endOut_pins (o : Nat) (s : State) : (endOut o s).pins = s.pins := rfl
@[simp] theorem endOut_ctl (o : Nat) (s : State) : (endOut o s).ctl = s.ctl := rfl
@[simp] theorem endOut_host (o : Nat) (s : State) : (endOut o s).host = s.host := rfl
@[simp] theorem endOut_ev (o : Nat) (s : State) : (endOut o s).ev = s.ev := rfl
@[simp] theorem endOut_tb (o : Nat) (s : State) : (endOut o s).tb = s.tb := rfl
@[simp] theorem endOut_pc (o : Nat) (s : State) : (endOut o s).pc = s.pc := rfl
@[simp] theorem endOut_adm (o : Nat) (s : State) : (endOut o s).adm = s.adm := rfl
@[simp] theorem endOut_te (o : Nat) (s : State) : (endOut o s).te = s.te := rfl
@[simp] theorem endOut_prof (o : Nat) (s : State) : (endOut o s).prof = s.prof := rfl
@[simp] theorem endOut_phy (o : Nat) (s : State) : (endOut o s).phy = s.phy := rfl
@[simp] theorem endOut_os (o : Nat) (s : State) : (endOut o s).os = s.os := rfl
@[simp] theorem endOut_dp (o : Nat) (s : State) : (endOut o s).dp = s.dp := rfl
@[simp] theorem endOut_tab (o : Nat) (s : State) : (endOut o s).tab = s.tab := rfl
@[simp] theorem endOut_sc (o : Nat) (s : State) : (endOut o s).sc = s.sc := rfl
@[simp] theorem endOut_isl (o : Nat) (s : State) : (endOut o s).isl = s.isl := rfl
@[simp] theorem endOut_pw (o : Nat) (s : State) : (endOut o s).pw = s.pw := rfl
@[simp] theorem endOut_boot (o : Nat) (s : State) : (endOut o s).boot = s.boot := rfl
@[simp] theorem endOut_sv (o : Nat) (s : State) : (endOut o s).sv = s.sv := rfl
@[simp] theorem endOut_du (o : Nat) (s : State) : (endOut o s).du = s.du := rfl
@[simp] theorem endOut_free (o : Nat) (s : State) : (endOut o s).free = s.free := rfl
@[simp] theorem endOut_pending (o : Nat) (s : State) : (endOut o s).pending = s.pending := rfl

@[simp] theorem setPair_regs (p : Nat) (v : Pair) (s : State) : (setPair p v s).regs = s.regs := rfl
@[simp] theorem setPair_pins (p : Nat) (v : Pair) (s : State) : (setPair p v s).pins = s.pins := rfl
@[simp] theorem setPair_ctl (p : Nat) (v : Pair) (s : State) : (setPair p v s).ctl = s.ctl := rfl
@[simp] theorem setPair_host (p : Nat) (v : Pair) (s : State) : (setPair p v s).host = s.host := rfl
@[simp] theorem setPair_ev (p : Nat) (v : Pair) (s : State) : (setPair p v s).ev = s.ev := rfl
@[simp] theorem setPair_tb (p : Nat) (v : Pair) (s : State) : (setPair p v s).tb = s.tb := rfl
@[simp] theorem setPair_pc (p : Nat) (v : Pair) (s : State) : (setPair p v s).pc = s.pc := rfl
@[simp] theorem setPair_wq (p : Nat) (v : Pair) (s : State) : (setPair p v s).wq = s.wq := rfl
@[simp] theorem setPair_adm (p : Nat) (v : Pair) (s : State) : (setPair p v s).adm = sput Pair.off s.adm p v := rfl
@[simp] theorem setPair_te (p : Nat) (v : Pair) (s : State) : (setPair p v s).te = s.te := rfl
@[simp] theorem setPair_prof (p : Nat) (v : Pair) (s : State) : (setPair p v s).prof = s.prof := rfl
@[simp] theorem setPair_phy (p : Nat) (v : Pair) (s : State) : (setPair p v s).phy = s.phy := rfl
@[simp] theorem setPair_os (p : Nat) (v : Pair) (s : State) : (setPair p v s).os = s.os := rfl
@[simp] theorem setPair_dp (p : Nat) (v : Pair) (s : State) : (setPair p v s).dp = s.dp := rfl
@[simp] theorem setPair_tab (p : Nat) (v : Pair) (s : State) : (setPair p v s).tab = s.tab := rfl
@[simp] theorem setPair_sc (p : Nat) (v : Pair) (s : State) : (setPair p v s).sc = s.sc := rfl
@[simp] theorem setPair_isl (p : Nat) (v : Pair) (s : State) : (setPair p v s).isl = s.isl := rfl
@[simp] theorem setPair_pw (p : Nat) (v : Pair) (s : State) : (setPair p v s).pw = s.pw := rfl
@[simp] theorem setPair_boot (p : Nat) (v : Pair) (s : State) : (setPair p v s).boot = s.boot := rfl
@[simp] theorem setPair_sv (p : Nat) (v : Pair) (s : State) : (setPair p v s).sv = s.sv := rfl
@[simp] theorem setPair_du (p : Nat) (v : Pair) (s : State) : (setPair p v s).du = s.du := rfl
@[simp] theorem setPair_free (p : Nat) (v : Pair) (s : State) : (setPair p v s).free = s.free := rfl
@[simp] theorem setPair_pending (p : Nat) (v : Pair) (s : State) : (setPair p v s).pending = s.pending := rfl

@[simp] theorem setTe_regs (n : Nat) (v : Te) (s : State) : (setTe n v s).regs = s.regs := rfl
@[simp] theorem setTe_pins (n : Nat) (v : Te) (s : State) : (setTe n v s).pins = s.pins := rfl
@[simp] theorem setTe_ctl (n : Nat) (v : Te) (s : State) : (setTe n v s).ctl = s.ctl := rfl
@[simp] theorem setTe_host (n : Nat) (v : Te) (s : State) : (setTe n v s).host = s.host := rfl
@[simp] theorem setTe_ev (n : Nat) (v : Te) (s : State) : (setTe n v s).ev = s.ev := rfl
@[simp] theorem setTe_tb (n : Nat) (v : Te) (s : State) : (setTe n v s).tb = s.tb := rfl
@[simp] theorem setTe_pc (n : Nat) (v : Te) (s : State) : (setTe n v s).pc = s.pc := rfl
@[simp] theorem setTe_wq (n : Nat) (v : Te) (s : State) : (setTe n v s).wq = s.wq := rfl
@[simp] theorem setTe_adm (n : Nat) (v : Te) (s : State) : (setTe n v s).adm = s.adm := rfl
@[simp] theorem setTe_te (n : Nat) (v : Te) (s : State) : (setTe n v s).te = sput Te.off s.te n v := rfl
@[simp] theorem setTe_prof (n : Nat) (v : Te) (s : State) : (setTe n v s).prof = s.prof := rfl
@[simp] theorem setTe_phy (n : Nat) (v : Te) (s : State) : (setTe n v s).phy = s.phy := rfl
@[simp] theorem setTe_os (n : Nat) (v : Te) (s : State) : (setTe n v s).os = s.os := rfl
@[simp] theorem setTe_dp (n : Nat) (v : Te) (s : State) : (setTe n v s).dp = s.dp := rfl
@[simp] theorem setTe_tab (n : Nat) (v : Te) (s : State) : (setTe n v s).tab = s.tab := rfl
@[simp] theorem setTe_sc (n : Nat) (v : Te) (s : State) : (setTe n v s).sc = s.sc := rfl
@[simp] theorem setTe_isl (n : Nat) (v : Te) (s : State) : (setTe n v s).isl = s.isl := rfl
@[simp] theorem setTe_pw (n : Nat) (v : Te) (s : State) : (setTe n v s).pw = s.pw := rfl
@[simp] theorem setTe_boot (n : Nat) (v : Te) (s : State) : (setTe n v s).boot = s.boot := rfl
@[simp] theorem setTe_sv (n : Nat) (v : Te) (s : State) : (setTe n v s).sv = s.sv := rfl
@[simp] theorem setTe_du (n : Nat) (v : Te) (s : State) : (setTe n v s).du = s.du := rfl
@[simp] theorem setTe_free (n : Nat) (v : Te) (s : State) : (setTe n v s).free = s.free := rfl
@[simp] theorem setTe_pending (n : Nat) (v : Te) (s : State) : (setTe n v s).pending = s.pending := rfl

@[simp] theorem setReq_regs (r : Req) (s : State) : (setReq r s).regs = s.regs := rfl
@[simp] theorem setReq_pins (r : Req) (s : State) : (setReq r s).pins = s.pins := rfl
@[simp] theorem setReq_ctl (r : Req) (s : State) : (setReq r s).ctl = s.ctl := rfl
@[simp] theorem setReq_ev (r : Req) (s : State) : (setReq r s).ev = s.ev := rfl
@[simp] theorem setReq_tb (r : Req) (s : State) : (setReq r s).tb = s.tb := rfl
@[simp] theorem setReq_pc (r : Req) (s : State) : (setReq r s).pc = s.pc := rfl
@[simp] theorem setReq_wq (r : Req) (s : State) : (setReq r s).wq = s.wq := rfl
@[simp] theorem setReq_adm (r : Req) (s : State) : (setReq r s).adm = s.adm := rfl
@[simp] theorem setReq_te (r : Req) (s : State) : (setReq r s).te = s.te := rfl
@[simp] theorem setReq_prof (r : Req) (s : State) : (setReq r s).prof = s.prof := rfl
@[simp] theorem setReq_phy (r : Req) (s : State) : (setReq r s).phy = s.phy := rfl
@[simp] theorem setReq_os (r : Req) (s : State) : (setReq r s).os = s.os := rfl
@[simp] theorem setReq_dp (r : Req) (s : State) : (setReq r s).dp = s.dp := rfl
@[simp] theorem setReq_tab (r : Req) (s : State) : (setReq r s).tab = s.tab := rfl
@[simp] theorem setReq_sc (r : Req) (s : State) : (setReq r s).sc = s.sc := rfl
@[simp] theorem setReq_isl (r : Req) (s : State) : (setReq r s).isl = s.isl := rfl
@[simp] theorem setReq_pw (r : Req) (s : State) : (setReq r s).pw = s.pw := rfl
@[simp] theorem setReq_boot (r : Req) (s : State) : (setReq r s).boot = s.boot := rfl
@[simp] theorem setReq_sv (r : Req) (s : State) : (setReq r s).sv = s.sv := rfl
@[simp] theorem setReq_du (r : Req) (s : State) : (setReq r s).du = s.du := rfl
@[simp] theorem setReq_free (r : Req) (s : State) : (setReq r s).free = s.free := rfl
@[simp] theorem setReq_pending (r : Req) (s : State) : (setReq r s).pending = s.pending := rfl

@[simp] theorem dropReq_regs (i : Nat) (s : State) : (dropReq i s).regs = s.regs := rfl
@[simp] theorem dropReq_pins (i : Nat) (s : State) : (dropReq i s).pins = s.pins := rfl
@[simp] theorem dropReq_ctl (i : Nat) (s : State) : (dropReq i s).ctl = s.ctl := rfl
@[simp] theorem dropReq_ev (i : Nat) (s : State) : (dropReq i s).ev = s.ev := rfl
@[simp] theorem dropReq_tb (i : Nat) (s : State) : (dropReq i s).tb = s.tb := rfl
@[simp] theorem dropReq_pc (i : Nat) (s : State) : (dropReq i s).pc = s.pc := rfl
@[simp] theorem dropReq_wq (i : Nat) (s : State) : (dropReq i s).wq = s.wq := rfl
@[simp] theorem dropReq_adm (i : Nat) (s : State) : (dropReq i s).adm = s.adm := rfl
@[simp] theorem dropReq_te (i : Nat) (s : State) : (dropReq i s).te = s.te := rfl
@[simp] theorem dropReq_prof (i : Nat) (s : State) : (dropReq i s).prof = s.prof := rfl
@[simp] theorem dropReq_phy (i : Nat) (s : State) : (dropReq i s).phy = s.phy := rfl
@[simp] theorem dropReq_os (i : Nat) (s : State) : (dropReq i s).os = s.os := rfl
@[simp] theorem dropReq_dp (i : Nat) (s : State) : (dropReq i s).dp = s.dp := rfl
@[simp] theorem dropReq_tab (i : Nat) (s : State) : (dropReq i s).tab = s.tab := rfl
@[simp] theorem dropReq_sc (i : Nat) (s : State) : (dropReq i s).sc = s.sc := rfl
@[simp] theorem dropReq_isl (i : Nat) (s : State) : (dropReq i s).isl = s.isl := rfl
@[simp] theorem dropReq_pw (i : Nat) (s : State) : (dropReq i s).pw = s.pw := rfl
@[simp] theorem dropReq_boot (i : Nat) (s : State) : (dropReq i s).boot = s.boot := rfl
@[simp] theorem dropReq_sv (i : Nat) (s : State) : (dropReq i s).sv = s.sv := rfl
@[simp] theorem dropReq_du (i : Nat) (s : State) : (dropReq i s).du = s.du := rfl
@[simp] theorem dropReq_free (i : Nat) (s : State) : (dropReq i s).free = s.free := rfl
@[simp] theorem dropReq_pending (i : Nat) (s : State) : (dropReq i s).pending = s.pending := rfl

@[simp] theorem access_regs (a : Acc) (s : State) : (access a s).regs = s.regs := rfl
@[simp] theorem access_pins (a : Acc) (s : State) : (access a s).pins = s.pins := rfl
@[simp] theorem access_ctl (a : Acc) (s : State) : (access a s).ctl = s.ctl := rfl
@[simp] theorem access_ev (a : Acc) (s : State) : (access a s).ev = s.ev := rfl
@[simp] theorem access_tb (a : Acc) (s : State) : (access a s).tb = s.tb := rfl
@[simp] theorem access_pc (a : Acc) (s : State) : (access a s).pc = s.pc := rfl
@[simp] theorem access_wq (a : Acc) (s : State) : (access a s).wq = s.wq := rfl
@[simp] theorem access_adm (a : Acc) (s : State) : (access a s).adm = s.adm := rfl
@[simp] theorem access_te (a : Acc) (s : State) : (access a s).te = s.te := rfl
@[simp] theorem access_prof (a : Acc) (s : State) : (access a s).prof = s.prof := rfl
@[simp] theorem access_phy (a : Acc) (s : State) : (access a s).phy = s.phy := rfl
@[simp] theorem access_os (a : Acc) (s : State) : (access a s).os = s.os := rfl
@[simp] theorem access_dp (a : Acc) (s : State) : (access a s).dp = s.dp := rfl
@[simp] theorem access_tab (a : Acc) (s : State) : (access a s).tab = s.tab := rfl
@[simp] theorem access_sc (a : Acc) (s : State) : (access a s).sc = s.sc := rfl
@[simp] theorem access_isl (a : Acc) (s : State) : (access a s).isl = s.isl := rfl
@[simp] theorem access_pw (a : Acc) (s : State) : (access a s).pw = s.pw := rfl
@[simp] theorem access_boot (a : Acc) (s : State) : (access a s).boot = s.boot := rfl
@[simp] theorem access_sv (a : Acc) (s : State) : (access a s).sv = s.sv := rfl
@[simp] theorem access_du (a : Acc) (s : State) : (access a s).du = s.du := rfl
@[simp] theorem access_free (a : Acc) (s : State) : (access a s).free = s.free := rfl
@[simp] theorem access_pending (a : Acc) (s : State) : (access a s).pending = s.pending := rfl

@[simp] theorem setF_regs (f : Frame) (s : State) : (setF f s).regs = s.regs := rfl
@[simp] theorem setF_pins (f : Frame) (s : State) : (setF f s).pins = s.pins := rfl
@[simp] theorem setF_ctl (f : Frame) (s : State) : (setF f s).ctl = s.ctl := rfl
@[simp] theorem setF_host (f : Frame) (s : State) : (setF f s).host = s.host := rfl
@[simp] theorem setF_ev (f : Frame) (s : State) : (setF f s).ev = s.ev := rfl
@[simp] theorem setF_tb (f : Frame) (s : State) : (setF f s).tb = s.tb := rfl
@[simp] theorem setF_pc (f : Frame) (s : State) : (setF f s).pc = s.pc := rfl
@[simp] theorem setF_wq (f : Frame) (s : State) : (setF f s).wq = s.wq := rfl
@[simp] theorem setF_adm (f : Frame) (s : State) : (setF f s).adm = s.adm := rfl
@[simp] theorem setF_te (f : Frame) (s : State) : (setF f s).te = s.te := rfl
@[simp] theorem setF_prof (f : Frame) (s : State) : (setF f s).prof = s.prof := rfl
@[simp] theorem setF_phy (f : Frame) (s : State) : (setF f s).phy = s.phy := rfl
@[simp] theorem setF_os (f : Frame) (s : State) : (setF f s).os = s.os := rfl
@[simp] theorem setF_tab (f : Frame) (s : State) : (setF f s).tab = s.tab := rfl
@[simp] theorem setF_sc (f : Frame) (s : State) : (setF f s).sc = s.sc := rfl
@[simp] theorem setF_isl (f : Frame) (s : State) : (setF f s).isl = s.isl := rfl
@[simp] theorem setF_pw (f : Frame) (s : State) : (setF f s).pw = s.pw := rfl
@[simp] theorem setF_boot (f : Frame) (s : State) : (setF f s).boot = s.boot := rfl
@[simp] theorem setF_sv (f : Frame) (s : State) : (setF f s).sv = s.sv := rfl
@[simp] theorem setF_du (f : Frame) (s : State) : (setF f s).du = s.du := rfl
@[simp] theorem setF_free (f : Frame) (s : State) : (setF f s).free = s.free := rfl
@[simp] theorem setF_pending (f : Frame) (s : State) : (setF f s).pending = s.pending := rfl

@[simp] theorem setRx_regs (p : Nat) (v : RxPort) (s : State) : (setRx p v s).regs = s.regs := rfl
@[simp] theorem setRx_pins (p : Nat) (v : RxPort) (s : State) : (setRx p v s).pins = s.pins := rfl
@[simp] theorem setRx_ctl (p : Nat) (v : RxPort) (s : State) : (setRx p v s).ctl = s.ctl := rfl
@[simp] theorem setRx_host (p : Nat) (v : RxPort) (s : State) : (setRx p v s).host = s.host := rfl
@[simp] theorem setRx_ev (p : Nat) (v : RxPort) (s : State) : (setRx p v s).ev = s.ev := rfl
@[simp] theorem setRx_tb (p : Nat) (v : RxPort) (s : State) : (setRx p v s).tb = s.tb := rfl
@[simp] theorem setRx_pc (p : Nat) (v : RxPort) (s : State) : (setRx p v s).pc = s.pc := rfl
@[simp] theorem setRx_wq (p : Nat) (v : RxPort) (s : State) : (setRx p v s).wq = s.wq := rfl
@[simp] theorem setRx_adm (p : Nat) (v : RxPort) (s : State) : (setRx p v s).adm = s.adm := rfl
@[simp] theorem setRx_te (p : Nat) (v : RxPort) (s : State) : (setRx p v s).te = s.te := rfl
@[simp] theorem setRx_prof (p : Nat) (v : RxPort) (s : State) : (setRx p v s).prof = s.prof := rfl
@[simp] theorem setRx_phy (p : Nat) (v : RxPort) (s : State) : (setRx p v s).phy = s.phy := rfl
@[simp] theorem setRx_os (p : Nat) (v : RxPort) (s : State) : (setRx p v s).os = s.os := rfl
@[simp] theorem setRx_tab (p : Nat) (v : RxPort) (s : State) : (setRx p v s).tab = s.tab := rfl
@[simp] theorem setRx_sc (p : Nat) (v : RxPort) (s : State) : (setRx p v s).sc = s.sc := rfl
@[simp] theorem setRx_isl (p : Nat) (v : RxPort) (s : State) : (setRx p v s).isl = s.isl := rfl
@[simp] theorem setRx_pw (p : Nat) (v : RxPort) (s : State) : (setRx p v s).pw = s.pw := rfl
@[simp] theorem setRx_boot (p : Nat) (v : RxPort) (s : State) : (setRx p v s).boot = s.boot := rfl
@[simp] theorem setRx_sv (p : Nat) (v : RxPort) (s : State) : (setRx p v s).sv = s.sv := rfl
@[simp] theorem setRx_du (p : Nat) (v : RxPort) (s : State) : (setRx p v s).du = s.du := rfl
@[simp] theorem setRx_free (p : Nat) (v : RxPort) (s : State) : (setRx p v s).free = s.free := rfl
@[simp] theorem setRx_pending (p : Nat) (v : RxPort) (s : State) : (setRx p v s).pending = s.pending := rfl

@[simp] theorem setTx_regs (p : Nat) (v : TxPort) (s : State) : (setTx p v s).regs = s.regs := rfl
@[simp] theorem setTx_pins (p : Nat) (v : TxPort) (s : State) : (setTx p v s).pins = s.pins := rfl
@[simp] theorem setTx_ctl (p : Nat) (v : TxPort) (s : State) : (setTx p v s).ctl = s.ctl := rfl
@[simp] theorem setTx_host (p : Nat) (v : TxPort) (s : State) : (setTx p v s).host = s.host := rfl
@[simp] theorem setTx_ev (p : Nat) (v : TxPort) (s : State) : (setTx p v s).ev = s.ev := rfl
@[simp] theorem setTx_tb (p : Nat) (v : TxPort) (s : State) : (setTx p v s).tb = s.tb := rfl
@[simp] theorem setTx_pc (p : Nat) (v : TxPort) (s : State) : (setTx p v s).pc = s.pc := rfl
@[simp] theorem setTx_wq (p : Nat) (v : TxPort) (s : State) : (setTx p v s).wq = s.wq := rfl
@[simp] theorem setTx_adm (p : Nat) (v : TxPort) (s : State) : (setTx p v s).adm = s.adm := rfl
@[simp] theorem setTx_te (p : Nat) (v : TxPort) (s : State) : (setTx p v s).te = s.te := rfl
@[simp] theorem setTx_prof (p : Nat) (v : TxPort) (s : State) : (setTx p v s).prof = s.prof := rfl
@[simp] theorem setTx_phy (p : Nat) (v : TxPort) (s : State) : (setTx p v s).phy = s.phy := rfl
@[simp] theorem setTx_os (p : Nat) (v : TxPort) (s : State) : (setTx p v s).os = s.os := rfl
@[simp] theorem setTx_tab (p : Nat) (v : TxPort) (s : State) : (setTx p v s).tab = s.tab := rfl
@[simp] theorem setTx_sc (p : Nat) (v : TxPort) (s : State) : (setTx p v s).sc = s.sc := rfl
@[simp] theorem setTx_isl (p : Nat) (v : TxPort) (s : State) : (setTx p v s).isl = s.isl := rfl
@[simp] theorem setTx_pw (p : Nat) (v : TxPort) (s : State) : (setTx p v s).pw = s.pw := rfl
@[simp] theorem setTx_boot (p : Nat) (v : TxPort) (s : State) : (setTx p v s).boot = s.boot := rfl
@[simp] theorem setTx_sv (p : Nat) (v : TxPort) (s : State) : (setTx p v s).sv = s.sv := rfl
@[simp] theorem setTx_du (p : Nat) (v : TxPort) (s : State) : (setTx p v s).du = s.du := rfl
@[simp] theorem setTx_free (p : Nat) (v : TxPort) (s : State) : (setTx p v s).free = s.free := rfl
@[simp] theorem setTx_pending (p : Nat) (v : TxPort) (s : State) : (setTx p v s).pending = s.pending := rfl

@[simp] theorem setCtx_regs (c : Ctx) (s : State) : (setCtx c s).regs = s.regs := rfl
@[simp] theorem setCtx_pins (c : Ctx) (s : State) : (setCtx c s).pins = s.pins := rfl
@[simp] theorem setCtx_ctl (c : Ctx) (s : State) : (setCtx c s).ctl = s.ctl := rfl
@[simp] theorem setCtx_host (c : Ctx) (s : State) : (setCtx c s).host = s.host := rfl
@[simp] theorem setCtx_ev (c : Ctx) (s : State) : (setCtx c s).ev = s.ev := rfl
@[simp] theorem setCtx_tb (c : Ctx) (s : State) : (setCtx c s).tb = s.tb := rfl
@[simp] theorem setCtx_pc (c : Ctx) (s : State) : (setCtx c s).pc = s.pc := rfl
@[simp] theorem setCtx_wq (c : Ctx) (s : State) : (setCtx c s).wq = s.wq := rfl
@[simp] theorem setCtx_adm (c : Ctx) (s : State) : (setCtx c s).adm = s.adm := rfl
@[simp] theorem setCtx_te (c : Ctx) (s : State) : (setCtx c s).te = s.te := rfl
@[simp] theorem setCtx_prof (c : Ctx) (s : State) : (setCtx c s).prof = s.prof := rfl
@[simp] theorem setCtx_phy (c : Ctx) (s : State) : (setCtx c s).phy = s.phy := rfl
@[simp] theorem setCtx_os (c : Ctx) (s : State) : (setCtx c s).os = s.os := rfl
@[simp] theorem setCtx_tab (c : Ctx) (s : State) : (setCtx c s).tab = s.tab := rfl
@[simp] theorem setCtx_sc (c : Ctx) (s : State) : (setCtx c s).sc = s.sc := rfl
@[simp] theorem setCtx_isl (c : Ctx) (s : State) : (setCtx c s).isl = s.isl := rfl
@[simp] theorem setCtx_pw (c : Ctx) (s : State) : (setCtx c s).pw = s.pw := rfl
@[simp] theorem setCtx_boot (c : Ctx) (s : State) : (setCtx c s).boot = s.boot := rfl
@[simp] theorem setCtx_sv (c : Ctx) (s : State) : (setCtx c s).sv = s.sv := rfl
@[simp] theorem setCtx_du (c : Ctx) (s : State) : (setCtx c s).du = s.du := rfl
@[simp] theorem setCtx_free (c : Ctx) (s : State) : (setCtx c s).free = s.free := rfl
@[simp] theorem setCtx_pending (c : Ctx) (s : State) : (setCtx c s).pending = s.pending := rfl

@[simp] theorem setLane_regs (n : Nat) (l : Lane) (s : State) : (setLane n l s).regs = s.regs := rfl
@[simp] theorem setLane_pins (n : Nat) (l : Lane) (s : State) : (setLane n l s).pins = s.pins := rfl
@[simp] theorem setLane_ctl (n : Nat) (l : Lane) (s : State) : (setLane n l s).ctl = s.ctl := rfl
@[simp] theorem setLane_host (n : Nat) (l : Lane) (s : State) : (setLane n l s).host = s.host := rfl
@[simp] theorem setLane_ev (n : Nat) (l : Lane) (s : State) : (setLane n l s).ev = s.ev := rfl
@[simp] theorem setLane_tb (n : Nat) (l : Lane) (s : State) : (setLane n l s).tb = s.tb := rfl
@[simp] theorem setLane_pc (n : Nat) (l : Lane) (s : State) : (setLane n l s).pc = s.pc := rfl
@[simp] theorem setLane_wq (n : Nat) (l : Lane) (s : State) : (setLane n l s).wq = s.wq := rfl
@[simp] theorem setLane_adm (n : Nat) (l : Lane) (s : State) : (setLane n l s).adm = s.adm := rfl
@[simp] theorem setLane_te (n : Nat) (l : Lane) (s : State) : (setLane n l s).te = s.te := rfl
@[simp] theorem setLane_prof (n : Nat) (l : Lane) (s : State) : (setLane n l s).prof = s.prof := rfl
@[simp] theorem setLane_os (n : Nat) (l : Lane) (s : State) : (setLane n l s).os = s.os := rfl
@[simp] theorem setLane_dp (n : Nat) (l : Lane) (s : State) : (setLane n l s).dp = s.dp := rfl
@[simp] theorem setLane_tab (n : Nat) (l : Lane) (s : State) : (setLane n l s).tab = s.tab := rfl
@[simp] theorem setLane_sc (n : Nat) (l : Lane) (s : State) : (setLane n l s).sc = s.sc := rfl
@[simp] theorem setLane_isl (n : Nat) (l : Lane) (s : State) : (setLane n l s).isl = s.isl := rfl
@[simp] theorem setLane_pw (n : Nat) (l : Lane) (s : State) : (setLane n l s).pw = s.pw := rfl
@[simp] theorem setLane_boot (n : Nat) (l : Lane) (s : State) : (setLane n l s).boot = s.boot := rfl
@[simp] theorem setLane_sv (n : Nat) (l : Lane) (s : State) : (setLane n l s).sv = s.sv := rfl
@[simp] theorem setLane_du (n : Nat) (l : Lane) (s : State) : (setLane n l s).du = s.du := rfl
@[simp] theorem setLane_free (n : Nat) (l : Lane) (s : State) : (setLane n l s).free = s.free := rfl
@[simp] theorem setLane_pending (n : Nat) (l : Lane) (s : State) : (setLane n l s).pending = s.pending := rfl

@[simp] theorem setLink_regs (p : Nat) (l : Link) (s : State) : (setLink p l s).regs = s.regs := rfl
@[simp] theorem setLink_pins (p : Nat) (l : Link) (s : State) : (setLink p l s).pins = s.pins := rfl
@[simp] theorem setLink_ctl (p : Nat) (l : Link) (s : State) : (setLink p l s).ctl = s.ctl := rfl
@[simp] theorem setLink_host (p : Nat) (l : Link) (s : State) : (setLink p l s).host = s.host := rfl
@[simp] theorem setLink_ev (p : Nat) (l : Link) (s : State) : (setLink p l s).ev = s.ev := rfl
@[simp] theorem setLink_tb (p : Nat) (l : Link) (s : State) : (setLink p l s).tb = s.tb := rfl
@[simp] theorem setLink_pc (p : Nat) (l : Link) (s : State) : (setLink p l s).pc = s.pc := rfl
@[simp] theorem setLink_wq (p : Nat) (l : Link) (s : State) : (setLink p l s).wq = s.wq := rfl
@[simp] theorem setLink_adm (p : Nat) (l : Link) (s : State) : (setLink p l s).adm = s.adm := rfl
@[simp] theorem setLink_te (p : Nat) (l : Link) (s : State) : (setLink p l s).te = s.te := rfl
@[simp] theorem setLink_prof (p : Nat) (l : Link) (s : State) : (setLink p l s).prof = s.prof := rfl
@[simp] theorem setLink_os (p : Nat) (l : Link) (s : State) : (setLink p l s).os = s.os := rfl
@[simp] theorem setLink_dp (p : Nat) (l : Link) (s : State) : (setLink p l s).dp = s.dp := rfl
@[simp] theorem setLink_tab (p : Nat) (l : Link) (s : State) : (setLink p l s).tab = s.tab := rfl
@[simp] theorem setLink_sc (p : Nat) (l : Link) (s : State) : (setLink p l s).sc = s.sc := rfl
@[simp] theorem setLink_isl (p : Nat) (l : Link) (s : State) : (setLink p l s).isl = s.isl := rfl
@[simp] theorem setLink_pw (p : Nat) (l : Link) (s : State) : (setLink p l s).pw = s.pw := rfl
@[simp] theorem setLink_boot (p : Nat) (l : Link) (s : State) : (setLink p l s).boot = s.boot := rfl
@[simp] theorem setLink_sv (p : Nat) (l : Link) (s : State) : (setLink p l s).sv = s.sv := rfl
@[simp] theorem setLink_du (p : Nat) (l : Link) (s : State) : (setLink p l s).du = s.du := rfl
@[simp] theorem setLink_free (p : Nat) (l : Link) (s : State) : (setLink p l s).free = s.free := rfl
@[simp] theorem setLink_pending (p : Nat) (l : Link) (s : State) : (setLink p l s).pending = s.pending := rfl

@[simp] theorem setMem_regs (g k : Nat) (m : Member) (s : State) : (setMem g k m s).regs = s.regs := rfl
@[simp] theorem setMem_pins (g k : Nat) (m : Member) (s : State) : (setMem g k m s).pins = s.pins := rfl
@[simp] theorem setMem_ctl (g k : Nat) (m : Member) (s : State) : (setMem g k m s).ctl = s.ctl := rfl
@[simp] theorem setMem_host (g k : Nat) (m : Member) (s : State) : (setMem g k m s).host = s.host := rfl
@[simp] theorem setMem_ev (g k : Nat) (m : Member) (s : State) : (setMem g k m s).ev = s.ev := rfl
@[simp] theorem setMem_tb (g k : Nat) (m : Member) (s : State) : (setMem g k m s).tb = s.tb := rfl
@[simp] theorem setMem_pc (g k : Nat) (m : Member) (s : State) : (setMem g k m s).pc = s.pc := rfl
@[simp] theorem setMem_wq (g k : Nat) (m : Member) (s : State) : (setMem g k m s).wq = s.wq := rfl
@[simp] theorem setMem_adm (g k : Nat) (m : Member) (s : State) : (setMem g k m s).adm = s.adm := rfl
@[simp] theorem setMem_te (g k : Nat) (m : Member) (s : State) : (setMem g k m s).te = s.te := rfl
@[simp] theorem setMem_prof (g k : Nat) (m : Member) (s : State) : (setMem g k m s).prof = s.prof := rfl
@[simp] theorem setMem_phy (g k : Nat) (m : Member) (s : State) : (setMem g k m s).phy = s.phy := rfl
@[simp] theorem setMem_dp (g k : Nat) (m : Member) (s : State) : (setMem g k m s).dp = s.dp := rfl
@[simp] theorem setMem_tab (g k : Nat) (m : Member) (s : State) : (setMem g k m s).tab = s.tab := rfl
@[simp] theorem setMem_sc (g k : Nat) (m : Member) (s : State) : (setMem g k m s).sc = s.sc := rfl
@[simp] theorem setMem_isl (g k : Nat) (m : Member) (s : State) : (setMem g k m s).isl = s.isl := rfl
@[simp] theorem setMem_pw (g k : Nat) (m : Member) (s : State) : (setMem g k m s).pw = s.pw := rfl
@[simp] theorem setMem_boot (g k : Nat) (m : Member) (s : State) : (setMem g k m s).boot = s.boot := rfl
@[simp] theorem setMem_sv (g k : Nat) (m : Member) (s : State) : (setMem g k m s).sv = s.sv := rfl
@[simp] theorem setMem_du (g k : Nat) (m : Member) (s : State) : (setMem g k m s).du = s.du := rfl
@[simp] theorem setMem_free (g k : Nat) (m : Member) (s : State) : (setMem g k m s).free = s.free := rfl
@[simp] theorem setMem_pending (g k : Nat) (m : Member) (s : State) : (setMem g k m s).pending = s.pending := rfl

@[simp] theorem setGrp_regs (g : Nat) (v : Slots) (s : State) : (setGrp g v s).regs = s.regs := rfl
@[simp] theorem setGrp_pins (g : Nat) (v : Slots) (s : State) : (setGrp g v s).pins = s.pins := rfl
@[simp] theorem setGrp_ctl (g : Nat) (v : Slots) (s : State) : (setGrp g v s).ctl = s.ctl := rfl
@[simp] theorem setGrp_host (g : Nat) (v : Slots) (s : State) : (setGrp g v s).host = s.host := rfl
@[simp] theorem setGrp_ev (g : Nat) (v : Slots) (s : State) : (setGrp g v s).ev = s.ev := rfl
@[simp] theorem setGrp_tb (g : Nat) (v : Slots) (s : State) : (setGrp g v s).tb = s.tb := rfl
@[simp] theorem setGrp_pc (g : Nat) (v : Slots) (s : State) : (setGrp g v s).pc = s.pc := rfl
@[simp] theorem setGrp_wq (g : Nat) (v : Slots) (s : State) : (setGrp g v s).wq = s.wq := rfl
@[simp] theorem setGrp_adm (g : Nat) (v : Slots) (s : State) : (setGrp g v s).adm = s.adm := rfl
@[simp] theorem setGrp_te (g : Nat) (v : Slots) (s : State) : (setGrp g v s).te = s.te := rfl
@[simp] theorem setGrp_prof (g : Nat) (v : Slots) (s : State) : (setGrp g v s).prof = s.prof := rfl
@[simp] theorem setGrp_phy (g : Nat) (v : Slots) (s : State) : (setGrp g v s).phy = s.phy := rfl
@[simp] theorem setGrp_dp (g : Nat) (v : Slots) (s : State) : (setGrp g v s).dp = s.dp := rfl
@[simp] theorem setGrp_tab (g : Nat) (v : Slots) (s : State) : (setGrp g v s).tab = s.tab := rfl
@[simp] theorem setGrp_sc (g : Nat) (v : Slots) (s : State) : (setGrp g v s).sc = s.sc := rfl
@[simp] theorem setGrp_isl (g : Nat) (v : Slots) (s : State) : (setGrp g v s).isl = s.isl := rfl
@[simp] theorem setGrp_pw (g : Nat) (v : Slots) (s : State) : (setGrp g v s).pw = s.pw := rfl
@[simp] theorem setGrp_boot (g : Nat) (v : Slots) (s : State) : (setGrp g v s).boot = s.boot := rfl
@[simp] theorem setGrp_sv (g : Nat) (v : Slots) (s : State) : (setGrp g v s).sv = s.sv := rfl
@[simp] theorem setGrp_du (g : Nat) (v : Slots) (s : State) : (setGrp g v s).du = s.du := rfl
@[simp] theorem setGrp_free (g : Nat) (v : Slots) (s : State) : (setGrp g v s).free = s.free := rfl
@[simp] theorem setGrp_pending (g : Nat) (v : Slots) (s : State) : (setGrp g v s).pending = s.pending := rfl

@[simp] theorem setSp_regs (p : Nat) (v : ScPort) (s : State) : (setSp p v s).regs = s.regs := rfl
@[simp] theorem setSp_pins (p : Nat) (v : ScPort) (s : State) : (setSp p v s).pins = s.pins := rfl
@[simp] theorem setSp_ctl (p : Nat) (v : ScPort) (s : State) : (setSp p v s).ctl = s.ctl := rfl
@[simp] theorem setSp_host (p : Nat) (v : ScPort) (s : State) : (setSp p v s).host = s.host := rfl
@[simp] theorem setSp_ev (p : Nat) (v : ScPort) (s : State) : (setSp p v s).ev = s.ev := rfl
@[simp] theorem setSp_tb (p : Nat) (v : ScPort) (s : State) : (setSp p v s).tb = s.tb := rfl
@[simp] theorem setSp_pc (p : Nat) (v : ScPort) (s : State) : (setSp p v s).pc = s.pc := rfl
@[simp] theorem setSp_wq (p : Nat) (v : ScPort) (s : State) : (setSp p v s).wq = s.wq := rfl
@[simp] theorem setSp_adm (p : Nat) (v : ScPort) (s : State) : (setSp p v s).adm = s.adm := rfl
@[simp] theorem setSp_te (p : Nat) (v : ScPort) (s : State) : (setSp p v s).te = s.te := rfl
@[simp] theorem setSp_prof (p : Nat) (v : ScPort) (s : State) : (setSp p v s).prof = s.prof := rfl
@[simp] theorem setSp_phy (p : Nat) (v : ScPort) (s : State) : (setSp p v s).phy = s.phy := rfl
@[simp] theorem setSp_os (p : Nat) (v : ScPort) (s : State) : (setSp p v s).os = s.os := rfl
@[simp] theorem setSp_dp (p : Nat) (v : ScPort) (s : State) : (setSp p v s).dp = s.dp := rfl
@[simp] theorem setSp_tab (p : Nat) (v : ScPort) (s : State) : (setSp p v s).tab = s.tab := rfl
@[simp] theorem setSp_isl (p : Nat) (v : ScPort) (s : State) : (setSp p v s).isl = s.isl := rfl
@[simp] theorem setSp_pw (p : Nat) (v : ScPort) (s : State) : (setSp p v s).pw = s.pw := rfl
@[simp] theorem setSp_boot (p : Nat) (v : ScPort) (s : State) : (setSp p v s).boot = s.boot := rfl
@[simp] theorem setSp_sv (p : Nat) (v : ScPort) (s : State) : (setSp p v s).sv = s.sv := rfl
@[simp] theorem setSp_du (p : Nat) (v : ScPort) (s : State) : (setSp p v s).du = s.du := rfl
@[simp] theorem setSp_free (p : Nat) (v : ScPort) (s : State) : (setSp p v s).free = s.free := rfl
@[simp] theorem setSp_pending (p : Nat) (v : ScPort) (s : State) : (setSp p v s).pending = s.pending := rfl

@[simp] theorem setTab_regs (t : Tab) (s : State) : (setTab t s).regs = s.regs := rfl
@[simp] theorem setTab_pins (t : Tab) (s : State) : (setTab t s).pins = s.pins := rfl
@[simp] theorem setTab_ctl (t : Tab) (s : State) : (setTab t s).ctl = s.ctl := rfl
@[simp] theorem setTab_host (t : Tab) (s : State) : (setTab t s).host = s.host := rfl
@[simp] theorem setTab_ev (t : Tab) (s : State) : (setTab t s).ev = s.ev := rfl
@[simp] theorem setTab_tb (t : Tab) (s : State) : (setTab t s).tb = s.tb := rfl
@[simp] theorem setTab_pc (t : Tab) (s : State) : (setTab t s).pc = s.pc := rfl
@[simp] theorem setTab_wq (t : Tab) (s : State) : (setTab t s).wq = s.wq := rfl
@[simp] theorem setTab_adm (t : Tab) (s : State) : (setTab t s).adm = s.adm := rfl
@[simp] theorem setTab_te (t : Tab) (s : State) : (setTab t s).te = s.te := rfl
@[simp] theorem setTab_prof (t : Tab) (s : State) : (setTab t s).prof = s.prof := rfl
@[simp] theorem setTab_phy (t : Tab) (s : State) : (setTab t s).phy = s.phy := rfl
@[simp] theorem setTab_os (t : Tab) (s : State) : (setTab t s).os = s.os := rfl
@[simp] theorem setTab_dp (t : Tab) (s : State) : (setTab t s).dp = s.dp := rfl
@[simp] theorem setTab_tab (t : Tab) (s : State) : (setTab t s).tab = t := rfl
@[simp] theorem setTab_sc (t : Tab) (s : State) : (setTab t s).sc = s.sc := rfl
@[simp] theorem setTab_isl (t : Tab) (s : State) : (setTab t s).isl = s.isl := rfl
@[simp] theorem setTab_pw (t : Tab) (s : State) : (setTab t s).pw = s.pw := rfl
@[simp] theorem setTab_boot (t : Tab) (s : State) : (setTab t s).boot = s.boot := rfl
@[simp] theorem setTab_sv (t : Tab) (s : State) : (setTab t s).sv = s.sv := rfl
@[simp] theorem setTab_du (t : Tab) (s : State) : (setTab t s).du = s.du := rfl
@[simp] theorem setTab_free (t : Tab) (s : State) : (setTab t s).free = s.free := rfl
@[simp] theorem setTab_pending (t : Tab) (s : State) : (setTab t s).pending = s.pending := rfl

@[simp] theorem setSv_regs (v : Sv) (s : State) : (setSv v s).regs = s.regs := rfl
@[simp] theorem setSv_pins (v : Sv) (s : State) : (setSv v s).pins = s.pins := rfl
@[simp] theorem setSv_ctl (v : Sv) (s : State) : (setSv v s).ctl = s.ctl := rfl
@[simp] theorem setSv_host (v : Sv) (s : State) : (setSv v s).host = s.host := rfl
@[simp] theorem setSv_ev (v : Sv) (s : State) : (setSv v s).ev = s.ev := rfl
@[simp] theorem setSv_tb (v : Sv) (s : State) : (setSv v s).tb = s.tb := rfl
@[simp] theorem setSv_pc (v : Sv) (s : State) : (setSv v s).pc = s.pc := rfl
@[simp] theorem setSv_wq (v : Sv) (s : State) : (setSv v s).wq = s.wq := rfl
@[simp] theorem setSv_adm (v : Sv) (s : State) : (setSv v s).adm = s.adm := rfl
@[simp] theorem setSv_te (v : Sv) (s : State) : (setSv v s).te = s.te := rfl
@[simp] theorem setSv_prof (v : Sv) (s : State) : (setSv v s).prof = s.prof := rfl
@[simp] theorem setSv_phy (v : Sv) (s : State) : (setSv v s).phy = s.phy := rfl
@[simp] theorem setSv_os (v : Sv) (s : State) : (setSv v s).os = s.os := rfl
@[simp] theorem setSv_dp (v : Sv) (s : State) : (setSv v s).dp = s.dp := rfl
@[simp] theorem setSv_tab (v : Sv) (s : State) : (setSv v s).tab = s.tab := rfl
@[simp] theorem setSv_sc (v : Sv) (s : State) : (setSv v s).sc = s.sc := rfl
@[simp] theorem setSv_isl (v : Sv) (s : State) : (setSv v s).isl = s.isl := rfl
@[simp] theorem setSv_pw (v : Sv) (s : State) : (setSv v s).pw = s.pw := rfl
@[simp] theorem setSv_boot (v : Sv) (s : State) : (setSv v s).boot = s.boot := rfl
@[simp] theorem setSv_sv (v : Sv) (s : State) : (setSv v s).sv = v := rfl
@[simp] theorem setSv_du (v : Sv) (s : State) : (setSv v s).du = s.du := rfl
@[simp] theorem setSv_free (v : Sv) (s : State) : (setSv v s).free = s.free := rfl
@[simp] theorem setSv_pending (v : Sv) (s : State) : (setSv v s).pending = s.pending := rfl

@[simp] theorem setDump_regs (d : Dump) (s : State) : (setDump d s).regs = s.regs := rfl
@[simp] theorem setDump_pins (d : Dump) (s : State) : (setDump d s).pins = s.pins := rfl
@[simp] theorem setDump_ctl (d : Dump) (s : State) : (setDump d s).ctl = s.ctl := rfl
@[simp] theorem setDump_host (d : Dump) (s : State) : (setDump d s).host = s.host := rfl
@[simp] theorem setDump_ev (d : Dump) (s : State) : (setDump d s).ev = s.ev := rfl
@[simp] theorem setDump_tb (d : Dump) (s : State) : (setDump d s).tb = s.tb := rfl
@[simp] theorem setDump_wq (d : Dump) (s : State) : (setDump d s).wq = s.wq := rfl
@[simp] theorem setDump_adm (d : Dump) (s : State) : (setDump d s).adm = s.adm := rfl
@[simp] theorem setDump_te (d : Dump) (s : State) : (setDump d s).te = s.te := rfl
@[simp] theorem setDump_prof (d : Dump) (s : State) : (setDump d s).prof = s.prof := rfl
@[simp] theorem setDump_phy (d : Dump) (s : State) : (setDump d s).phy = s.phy := rfl
@[simp] theorem setDump_os (d : Dump) (s : State) : (setDump d s).os = s.os := rfl
@[simp] theorem setDump_dp (d : Dump) (s : State) : (setDump d s).dp = s.dp := rfl
@[simp] theorem setDump_tab (d : Dump) (s : State) : (setDump d s).tab = s.tab := rfl
@[simp] theorem setDump_sc (d : Dump) (s : State) : (setDump d s).sc = s.sc := rfl
@[simp] theorem setDump_isl (d : Dump) (s : State) : (setDump d s).isl = s.isl := rfl
@[simp] theorem setDump_pw (d : Dump) (s : State) : (setDump d s).pw = s.pw := rfl
@[simp] theorem setDump_boot (d : Dump) (s : State) : (setDump d s).boot = s.boot := rfl
@[simp] theorem setDump_sv (d : Dump) (s : State) : (setDump d s).sv = s.sv := rfl
@[simp] theorem setDump_du (d : Dump) (s : State) : (setDump d s).du = s.du := rfl
@[simp] theorem setDump_free (d : Dump) (s : State) : (setDump d s).free = s.free := rfl
@[simp] theorem setDump_pending (d : Dump) (s : State) : (setDump d s).pending = s.pending := rfl

@[simp] theorem setRate_regs (k : Nat) (r : Rate) (s : State) : (setRate k r s).regs = s.regs := rfl
@[simp] theorem setRate_pins (k : Nat) (r : Rate) (s : State) : (setRate k r s).pins = s.pins := rfl
@[simp] theorem setRate_ctl (k : Nat) (r : Rate) (s : State) : (setRate k r s).ctl = s.ctl := rfl
@[simp] theorem setRate_host (k : Nat) (r : Rate) (s : State) : (setRate k r s).host = s.host := rfl
@[simp] theorem setRate_ev (k : Nat) (r : Rate) (s : State) : (setRate k r s).ev = s.ev := rfl
@[simp] theorem setRate_tb (k : Nat) (r : Rate) (s : State) : (setRate k r s).tb = s.tb := rfl
@[simp] theorem setRate_wq (k : Nat) (r : Rate) (s : State) : (setRate k r s).wq = s.wq := rfl
@[simp] theorem setRate_adm (k : Nat) (r : Rate) (s : State) : (setRate k r s).adm = s.adm := rfl
@[simp] theorem setRate_te (k : Nat) (r : Rate) (s : State) : (setRate k r s).te = s.te := rfl
@[simp] theorem setRate_prof (k : Nat) (r : Rate) (s : State) : (setRate k r s).prof = s.prof := rfl
@[simp] theorem setRate_phy (k : Nat) (r : Rate) (s : State) : (setRate k r s).phy = s.phy := rfl
@[simp] theorem setRate_os (k : Nat) (r : Rate) (s : State) : (setRate k r s).os = s.os := rfl
@[simp] theorem setRate_dp (k : Nat) (r : Rate) (s : State) : (setRate k r s).dp = s.dp := rfl
@[simp] theorem setRate_tab (k : Nat) (r : Rate) (s : State) : (setRate k r s).tab = s.tab := rfl
@[simp] theorem setRate_sc (k : Nat) (r : Rate) (s : State) : (setRate k r s).sc = s.sc := rfl
@[simp] theorem setRate_isl (k : Nat) (r : Rate) (s : State) : (setRate k r s).isl = s.isl := rfl
@[simp] theorem setRate_pw (k : Nat) (r : Rate) (s : State) : (setRate k r s).pw = s.pw := rfl
@[simp] theorem setRate_boot (k : Nat) (r : Rate) (s : State) : (setRate k r s).boot = s.boot := rfl
@[simp] theorem setRate_sv (k : Nat) (r : Rate) (s : State) : (setRate k r s).sv = s.sv := rfl
@[simp] theorem setRate_du (k : Nat) (r : Rate) (s : State) : (setRate k r s).du = s.du := rfl
@[simp] theorem setRate_free (k : Nat) (r : Rate) (s : State) : (setRate k r s).free = s.free := rfl
@[simp] theorem setRate_pending (k : Nat) (r : Rate) (s : State) : (setRate k r s).pending = s.pending := rfl

@[simp] theorem setCtlQueue_regs (m : Master) (q : List CtlReq) (s : State) : (setCtlQueue m q s).regs = s.regs := rfl
@[simp] theorem setCtlQueue_pins (m : Master) (q : List CtlReq) (s : State) : (setCtlQueue m q s).pins = s.pins := rfl
@[simp] theorem setCtlQueue_host (m : Master) (q : List CtlReq) (s : State) : (setCtlQueue m q s).host = s.host := rfl
@[simp] theorem setCtlQueue_ev (m : Master) (q : List CtlReq) (s : State) : (setCtlQueue m q s).ev = s.ev := rfl
@[simp] theorem setCtlQueue_tb (m : Master) (q : List CtlReq) (s : State) : (setCtlQueue m q s).tb = s.tb := rfl
@[simp] theorem setCtlQueue_pc (m : Master) (q : List CtlReq) (s : State) : (setCtlQueue m q s).pc = s.pc := rfl
@[simp] theorem setCtlQueue_wq (m : Master) (q : List CtlReq) (s : State) : (setCtlQueue m q s).wq = s.wq := rfl
@[simp] theorem setCtlQueue_adm (m : Master) (q : List CtlReq) (s : State) : (setCtlQueue m q s).adm = s.adm := rfl
@[simp] theorem setCtlQueue_te (m : Master) (q : List CtlReq) (s : State) : (setCtlQueue m q s).te = s.te := rfl
@[simp] theorem setCtlQueue_prof (m : Master) (q : List CtlReq) (s : State) : (setCtlQueue m q s).prof = s.prof := rfl
@[simp] theorem setCtlQueue_phy (m : Master) (q : List CtlReq) (s : State) : (setCtlQueue m q s).phy = s.phy := rfl
@[simp] theorem setCtlQueue_os (m : Master) (q : List CtlReq) (s : State) : (setCtlQueue m q s).os = s.os := rfl
@[simp] theorem setCtlQueue_dp (m : Master) (q : List CtlReq) (s : State) : (setCtlQueue m q s).dp = s.dp := rfl
@[simp] theorem setCtlQueue_tab (m : Master) (q : List CtlReq) (s : State) : (setCtlQueue m q s).tab = s.tab := rfl
@[simp] theorem setCtlQueue_sc (m : Master) (q : List CtlReq) (s : State) : (setCtlQueue m q s).sc = s.sc := rfl
@[simp] theorem setCtlQueue_isl (m : Master) (q : List CtlReq) (s : State) : (setCtlQueue m q s).isl = s.isl := rfl
@[simp] theorem setCtlQueue_pw (m : Master) (q : List CtlReq) (s : State) : (setCtlQueue m q s).pw = s.pw := rfl
@[simp] theorem setCtlQueue_boot (m : Master) (q : List CtlReq) (s : State) : (setCtlQueue m q s).boot = s.boot := rfl
@[simp] theorem setCtlQueue_sv (m : Master) (q : List CtlReq) (s : State) : (setCtlQueue m q s).sv = s.sv := rfl
@[simp] theorem setCtlQueue_du (m : Master) (q : List CtlReq) (s : State) : (setCtlQueue m q s).du = s.du := rfl
@[simp] theorem setCtlQueue_free (m : Master) (q : List CtlReq) (s : State) : (setCtlQueue m q s).free = s.free := rfl
@[simp] theorem setCtlQueue_pending (m : Master) (q : List CtlReq) (s : State) : (setCtlQueue m q s).pending = s.pending := rfl

@[simp] theorem holdItem_regs (i : Instr) (s : State) : (holdItem i s).regs = s.regs := rfl
@[simp] theorem holdItem_pins (i : Instr) (s : State) : (holdItem i s).pins = s.pins := rfl
@[simp] theorem holdItem_ctl (i : Instr) (s : State) : (holdItem i s).ctl = s.ctl := rfl
@[simp] theorem holdItem_host (i : Instr) (s : State) : (holdItem i s).host = s.host := rfl
@[simp] theorem holdItem_ev (i : Instr) (s : State) : (holdItem i s).ev = s.ev := rfl
@[simp] theorem holdItem_tb (i : Instr) (s : State) : (holdItem i s).tb = s.tb := rfl
@[simp] theorem holdItem_pc (i : Instr) (s : State) : (holdItem i s).pc = s.pc := rfl
@[simp] theorem holdItem_wq (i : Instr) (s : State) : (holdItem i s).wq = s.wq := rfl
@[simp] theorem holdItem_adm (i : Instr) (s : State) : (holdItem i s).adm = s.adm := rfl
@[simp] theorem holdItem_te (i : Instr) (s : State) : (holdItem i s).te = s.te := rfl
@[simp] theorem holdItem_prof (i : Instr) (s : State) : (holdItem i s).prof = s.prof := rfl
@[simp] theorem holdItem_phy (i : Instr) (s : State) : (holdItem i s).phy = s.phy := rfl
@[simp] theorem holdItem_os (i : Instr) (s : State) : (holdItem i s).os = s.os := rfl
@[simp] theorem holdItem_dp (i : Instr) (s : State) : (holdItem i s).dp = s.dp := rfl
@[simp] theorem holdItem_tab (i : Instr) (s : State) : (holdItem i s).tab = s.tab := rfl
@[simp] theorem holdItem_sc (i : Instr) (s : State) : (holdItem i s).sc = s.sc := rfl
@[simp] theorem holdItem_isl (i : Instr) (s : State) : (holdItem i s).isl = s.isl := rfl
@[simp] theorem holdItem_pw (i : Instr) (s : State) : (holdItem i s).pw = { s.pw with held := s.pw.held ++ [i] } := rfl
@[simp] theorem holdItem_boot (i : Instr) (s : State) : (holdItem i s).boot = s.boot := rfl
@[simp] theorem holdItem_sv (i : Instr) (s : State) : (holdItem i s).sv = s.sv := rfl
@[simp] theorem holdItem_du (i : Instr) (s : State) : (holdItem i s).du = s.du := rfl
@[simp] theorem holdItem_free (i : Instr) (s : State) : (holdItem i s).free = s.free := rfl
@[simp] theorem holdItem_pending (i : Instr) (s : State) : (holdItem i s).pending = s.pending := rfl

@[simp] theorem setIdle_regs (v : BitVec 64) (s : State) : (setIdle v s).regs = s.regs := rfl
@[simp] theorem setIdle_pins (v : BitVec 64) (s : State) : (setIdle v s).pins = { s.pins with targetIdle := v } := rfl
@[simp] theorem setIdle_ctl (v : BitVec 64) (s : State) : (setIdle v s).ctl = s.ctl := rfl
@[simp] theorem setIdle_host (v : BitVec 64) (s : State) : (setIdle v s).host = s.host := rfl
@[simp] theorem setIdle_ev (v : BitVec 64) (s : State) : (setIdle v s).ev = s.ev := rfl
@[simp] theorem setIdle_tb (v : BitVec 64) (s : State) : (setIdle v s).tb = s.tb := rfl
@[simp] theorem setIdle_pc (v : BitVec 64) (s : State) : (setIdle v s).pc = s.pc := rfl
@[simp] theorem setIdle_wq (v : BitVec 64) (s : State) : (setIdle v s).wq = s.wq := rfl
@[simp] theorem setIdle_adm (v : BitVec 64) (s : State) : (setIdle v s).adm = s.adm := rfl
@[simp] theorem setIdle_te (v : BitVec 64) (s : State) : (setIdle v s).te = s.te := rfl
@[simp] theorem setIdle_prof (v : BitVec 64) (s : State) : (setIdle v s).prof = s.prof := rfl
@[simp] theorem setIdle_phy (v : BitVec 64) (s : State) : (setIdle v s).phy = s.phy := rfl
@[simp] theorem setIdle_os (v : BitVec 64) (s : State) : (setIdle v s).os = s.os := rfl
@[simp] theorem setIdle_dp (v : BitVec 64) (s : State) : (setIdle v s).dp = s.dp := rfl
@[simp] theorem setIdle_tab (v : BitVec 64) (s : State) : (setIdle v s).tab = s.tab := rfl
@[simp] theorem setIdle_sc (v : BitVec 64) (s : State) : (setIdle v s).sc = s.sc := rfl
@[simp] theorem setIdle_isl (v : BitVec 64) (s : State) : (setIdle v s).isl = s.isl := rfl
@[simp] theorem setIdle_pw (v : BitVec 64) (s : State) : (setIdle v s).pw = s.pw := rfl
@[simp] theorem setIdle_boot (v : BitVec 64) (s : State) : (setIdle v s).boot = s.boot := rfl
@[simp] theorem setIdle_sv (v : BitVec 64) (s : State) : (setIdle v s).sv = s.sv := rfl
@[simp] theorem setIdle_du (v : BitVec 64) (s : State) : (setIdle v s).du = s.du := rfl
@[simp] theorem setIdle_free (v : BitVec 64) (s : State) : (setIdle v s).free = s.free := rfl
@[simp] theorem setIdle_pending (v : BitVec 64) (s : State) : (setIdle v s).pending = s.pending := rfl

end Sys2Proof.Machine
end

