-- ==== Sys2Proof/Laws/Regs.lean ====
section
/-!
SUPPORT. Sparse arrays and the register file: a read after a write, and the canonical form.
-/

namespace Sys2Proof.Machine

/-! ## A read after a write -/

theorem sget_sremove_same {α : Type} (d : α) (k : Nat) : ∀ m : Smap α, sget d (sremove k m) k = d
  | [] => rfl
  | (i, v) :: m => by
    by_cases h : i = k
    · have := sget_sremove_same d k m
      simp_all [sremove]
    · have := sget_sremove_same d k m
      simp_all [sremove, sget]

theorem sget_sremove_other {α : Type} (d : α) (k j : Nat) (hj : j ≠ k) :
    ∀ m : Smap α, sget d (sremove k m) j = sget d m j
  | [] => rfl
  | (i, v) :: m => by
    have ih := sget_sremove_other d k j hj m
    by_cases h : i = k
    · subst h
      have h2 : ¬ i = j := fun e => hj e.symm
      simp_all [sremove, sget]
    · simp_all [sremove, sget]

theorem sget_sinsert_other {α : Type} (d : α) (k j : Nat) (v : α) (hj : j ≠ k) :
    ∀ m : Smap α, sget d (sinsert k v m) j = sget d m j
  | [] => by simp [sinsert, sget, Ne.symm hj]
  | (i, x) :: m => by
    have ih := sget_sinsert_other d k j v hj m
    unfold sinsert
    split <;> simp_all [sget, Ne.symm hj]

theorem sget_sinsert_same {α : Type} (d : α) (k : Nat) (v : α) :
    ∀ m : Smap α, (∀ e ∈ m, e.1 ≠ k) → sget d (sinsert k v m) k = v
  | [], _ => by simp [sinsert, sget]
  | (i, x) :: m, h => by
    have ih := sget_sinsert_same d k v m (fun e he => h e (List.mem_cons_of_mem _ he))
    have hi : i ≠ k := h (i, x) List.mem_cons_self
    unfold sinsert
    split <;> simp_all [sget]

theorem sremove_ne {α : Type} (k : Nat) (m : Smap α) : ∀ e ∈ sremove k m, e.1 ≠ k := by
  intro e he
  simp [sremove] at he
  exact he.2

/-- An element reads as it was written. -/
theorem sget_sput_same {α : Type} [DecidableEq α] (d : α) (m : Smap α) (k : Nat) (v : α) :
    sget d (sput d m k v) k = v := by
  unfold sput
  split
  · next h => rw [h]; exact sget_sremove_same d k m
  · exact sget_sinsert_same d k v _ (sremove_ne k m)

/-- A write leaves every other element alone, whatever its default. -/
theorem sget_sput_other {α : Type} [DecidableEq α] (d c : α) (m : Smap α) (k j : Nat) (v : α) (hj : j ≠ k) :
    sget c (sput d m k v) j = sget c m j := by
  unfold sput
  split
  · exact sget_sremove_other c k j hj m
  · rw [sget_sinsert_other c k j v hj, sget_sremove_other c k j hj]

/-- A register reads as it was written. -/
@[simp] theorem rd_wr_same (a v : Nat) (s : State) : rd a (wr a v s) = v % 2 ^ 32 := by
  simp [rd, wr, rget, rput, sget_sput_same]

/-- A register write leaves every other register alone. -/
theorem rd_wr_other (a b v : Nat) (s : State) (hb : b ≠ a) : rd b (wr a v s) = rd b s := by
  simp [rd, wr, rget, rput, sget_sput_other _ _ _ _ _ _ hb]

/-- Two states with one register file read alike. -/
theorem rd_congr (a : Nat) {s t : State} (h : t.regs = s.regs) : rd a t = rd a s := by simp [rd, h]

theorem rd_fs_other (a b : Nat) (f : Fld) (v : Nat) (s : State) (hb : b ≠ a) : rd b (fs a f v s) = rd b s :=
  rd_wr_other a b _ s hb

theorem rd_setFlag_other (a b : Nat) (f : Fld) (s : State) (hb : b ≠ a) : rd b (setFlag a f s) = rd b s :=
  rd_wr_other a b _ s hb

/-! ## Canonical form -/

theorem swf_mono {α : Type} [DecidableEq α] (d : Nat → α) :
    ∀ (m : Smap α) (lo lo' : Nat), swf d lo m = true → lo' ≤ lo → swf d lo' m = true
  | [], _, _, _, _ => rfl
  | (i, v) :: m, lo, lo', h, hl => by
    simp only [swf, Bool.and_eq_true, decide_eq_true_eq] at h ⊢
    exact ⟨⟨by omega, h.1.2⟩, h.2⟩

theorem sremove_wf {α : Type} [DecidableEq α] (d : Nat → α) (k : Nat) :
    ∀ (m : Smap α) (lo : Nat), swf d lo m = true → swf d lo (sremove k m) = true
  | [], _, _ => rfl
  | (i, v) :: m, lo, h => by
    simp only [swf, Bool.and_eq_true, decide_eq_true_eq] at h
    have ih := sremove_wf d k m (i + 1) h.2
    by_cases hi : i = k
    · have := swf_mono d (sremove k m) (i + 1) lo ih (by omega)
      simp_all [sremove]
    · simp_all [sremove, swf]

theorem sinsert_wf {α : Type} [DecidableEq α] (d : Nat → α) (k : Nat) (v : α) (hv : v ≠ d k) :
    ∀ (m : Smap α) (lo : Nat), swf d lo m = true → lo ≤ k → (∀ e ∈ m, e.1 ≠ k) → swf d lo (sinsert k v m) = true
  | [], lo, _, hl, _ => by simp [sinsert, swf, hv, hl]
  | (i, x) :: m, lo, h, hl, hn => by
    simp only [swf, Bool.and_eq_true, decide_eq_true_eq] at h
    have hi : i ≠ k := hn (i, x) List.mem_cons_self
    unfold sinsert
    split
    · next hk => simp [swf, hv, hl, h.1.2, h.2]; omega
    · have ih := sinsert_wf d k v hv m (i + 1) h.2 (by omega) (fun e he => hn e (List.mem_cons_of_mem _ he))
      simp [swf, h.1, ih]

/-- A write keeps the canonical form. -/
theorem sput_wf {α : Type} [DecidableEq α] (d : Nat → α) (m : Smap α) (k : Nat) (v : α) (h : swf d 0 m = true) :
    swf d 0 (sput (d k) m k v) = true := by
  unfold sput
  split
  · exact sremove_wf d k m 0 h
  · next hv => exact sinsert_wf d k v hv _ 0 (sremove_wf d k m 0 h) (Nat.zero_le k) (sremove_ne k m)

/-- A register write keeps the canonical form of the register file. -/
theorem wr_wf (a v : Nat) (s : State) (h : Regs.wf s = true) : Regs.wf (wr a v s) = true :=
  sput_wf resetWord s.regs a _ h

theorem fs_wf (a : Nat) (f : Fld) (v : Nat) (s : State) (h : Regs.wf s = true) : Regs.wf (fs a f v s) = true :=
  wr_wf a _ s h

theorem setFlags_wf (a m : Nat) (s : State) (h : Regs.wf s = true) : Regs.wf (setFlags a m s) = true :=
  wr_wf a _ s h

theorem reset_wf : Regs.wf State.reset = true := rfl

end Sys2Proof.Machine
end

