-- ==== Sys2Proof/Laws/Step.lean ====
section
/-!
SUPPORT. What a command and a step can do: a command ends in a settled state, and a step is a command or a tick.
-/

namespace Sys2Proof.Machine

/-- Every command completes, and the state it leaves is settled. -/
theorem exec_settles (c : Instr) (s : State) : ∃ e, exec c s = .next (settle e) := by
  cases c <;> exact ⟨_, rfl⟩

theorem step_empty (s : State) (h : s.pending = []) : step s = .next (tick s) := by
  simp [step, h]

theorem step_front (c : Instr) (q : List Instr) (s : State) (h : s.pending = c :: q) :
    step s = exec c { s with pending := q } := by
  simp [step, h]

/-- What a step can do: a tick on an empty queue, or the oldest command, which settles. -/
theorem step_cases (s t : State) (h : step s = .next t) :
    (s.pending = [] ∧ t = tick s) ∨
    ∃ c q e, s.pending = c :: q ∧ exec c { s with pending := q } = .next t ∧ t = settle e := by
  cases hp : s.pending with
  | nil =>
    rw [step_empty s hp] at h
    cases h
    exact .inl ⟨rfl, rfl⟩
  | cons c q =>
    rw [step_front c q s hp] at h
    obtain ⟨e, he⟩ := exec_settles c { s with pending := q }
    rw [h] at he
    cases he
    exact .inr ⟨c, q, e, rfl, h, rfl⟩

end Sys2Proof.Machine
end

