-- ==== Sys2Proof/WellFormed.lean ====
section
/-!
DEFINITION. Which commands are well formed: every number is one that its port, message or register field can carry.
-/

namespace Sys2Proof

/-- A command whose operands lie in their ranges. Operands of a fixed width (register data, aperture addresses) and lists
with no bound of their own need no check. -/
def Instr.wf : Instr → Bool
  | .supplyWarning => true
  | .supplyCollapse => true
  | .supplyRecover => true
  | .coldResetAssert => true
  | .coldResetRelease prof duo => decide (prof < 4) && decide (duo < 4)
  | .fuseShadowLoad words => words.all (fun e => decide (e.1 < 2048) && decide (e.2 < 2 ^ 32))
  | .stewardRomStart => true
  | .warmResetAssert => true
  | .warmResetRelease => true
  | .profileApply => true
  | .presenceDebounced _ => true
  | .wakeInWake => true
  | .controlRequestAccept _ _ _ _ => true
  | .controlRequestDispatch _ => true
  | .controlRequestTimeout _ => true
  | .stalledAccessResume _ => true
  | .registerWrite _ _ _ => true
  | .pageAccessClear _ _ => true
  | .pageLock _ _ => true
  | .pageAclWrite _ _ _ => true
  | .glWinaclWrite _ _ => true
  | .hostcfgWrite _ _ => true
  | .flagSetAlias _ _ _ _ => true
  | .flagClearAlias _ _ _ _ _ => true
  | .reg64LowRead _ _ => true
  | .reg64LowWrite _ _ _ => true
  | .reg64HighWrite _ _ _ => true
  | .semClaim _ _ _ => true
  | .semRelease _ _ _ => true
  | .semForce _ _ => true
  | .doorbell f addr => decide (f < 4096) && decide (addr < 2 ^ 21)
  | .doorbellViaControlPort _ _ _ => true
  | .hmpReadBeat port tag _ gv _ _ => decide (port < 4) && decide (tag < 1024) && decide (gv < 4)
  | .hmpWriteResponse port tag _ => decide (port < 4) && decide (tag < 1024)
  | .translationResponse tag pa size status => decide (tag < 256) && decide (pa < 2 ^ 52) && decide (size < 32) && decide (status < 4)
  | .pageResponse id _ => decide (id < 1024)
  | .pageRequestTimeout id => decide (id < 1024)
  | .trpInvalidation func page size => decide (func < 4096) && decide (page < 2 ^ 52) && decide (size < 32)
  | .trpInvalidationDone => true
  | .trInvStart _ _ func => decide (func < 4096)
  | .trInvDone => true
  | .nfpMessageAccept => true
  | .targetIdleRise _ _ => true
  | .ppsInEdge => true
  | .ppsOutPulse => true
  | .refPhaseSample v => decide (v < 2 ^ 32)
  | .refLoss => true
  | .ppsMissing => true
  | .dmpFlitReceive _ _ _ _ => true
  | .dmpCredit _ _ _ => true
  | .dmpHeartbeatSend => true
  | .dmpCreditStarvation => true
  | .tapInstruction _ => true
  | .loadProfile p _ => decide (p < 2)
  | .loadProfileDone => true
  | .portEnable p => decide (p < 64)
  | .anAgreed p => decide (p < 64)
  | .anNoCommon p _ => decide (p < 64)
  | .trainDone p eqs _ => decide (p < 82) && eqs.all (fun v => decide (v < 2 ^ 30))
  | .trainTimeout p mask => decide (p < 64) && decide (mask < 2 ^ 18)
  | .alignLock p _ => decide (p < 82)
  | .alignTimeout p => decide (p < 64)
  | .linkLoss p lane what => decide (p < 82) && decide (lane < 18) && decide (what < 32)
  | .retryHoldExpiry p => decide (p < 64)
  | .portDisable p => decide (p < 64)
  | .faultDeclare p _ => decide (p < 64)
  | .faultClear p => decide (p < 64)
  | .fecDegWindowEnd p corr uncorr _ => decide (p < 64) && decide (corr < 2 ^ 20 + 1) && decide (uncorr < 2 ^ 20 + 1)
  | .bypassAlignLock n => decide (n < 18)
  | .bypassAlignLoss n => decide (n < 18)
  | .highBer n => decide (n < 18)
  | .recalTimer n => decide (n < 18)
  | .recalThermal n temp => decide (n < 18) && decide (temp < 256)
  | .calReq _ n _ => decide (n < 18)
  | .recalDone n temp => decide (n < 18) && decide (temp < 256)
  | .laneTestWrite _ n _ => decide (n < 18)
  | .eyeRefresh n h w => decide (n < 18) && decide (h < 65536) && decide (w < 65536)
  | .laneSubstStart p _ => decide (p < 2)
  | .laneSubstPark p _ => decide (p < 2)
  | .laneSubstResume p _ => decide (p < 2)
  | .laneSubstCancel p _ => decide (p < 2)
  | .laneSubstStepDone n => decide (n < 18)
  | .overheadReceive n hdr pos _ b => decide (n < 18) && decide (hdr < 4) && decide (pos < 40961) && b.length == 8
  | .losDeclare n what => decide (n < 18) && decide (what < 16)
  | .losClear n => decide (n < 18)
  | .mapCycleReceived g => decide (g < 16)
  | .switchTxFrame0 g _ => decide (g < 16)
  | .switchTimeout g => decide (g < 16)
  | .pageSwitchStart p _ => decide (p < 2)
  | .pageSwitchPark p _ => decide (p < 2)
  | .pageSwitchResume p _ => decide (p < 2)
  | .pageSwitchCancel p _ => decide (p < 2)
  | .cmDataWrite _ g _ => decide (g < 16)
  | .cmCopy _ g _ => decide (g < 16)
  | .osClientWrite _ g c _ => decide (g < 16) && decide (c < 63)
  | .rxCellTaken p b _ => decide (p < 64) && !b.isEmpty && decide (b.length ≤ 256)
  | .rxFrameEnd p _ => decide (p < 64)
  | .pauseTimerExpiry p i => decide (p < 64) && decide (i < 9)
  | .mmFragmentReceive p smd frag _ _ _ _ => decide (p < 64) && decide (smd < 10) && decide (frag < 4)
  | .frameDispatch p _ ecc => decide (p < 64) && ecc.all (fun e => decide (e.1 < 1025))
  | .nop i => decide (i < 816)
  | .endFrame i => decide (i < 816)
  | .sync i => decide (i < 816)
  | .cnt i => decide (i < 816)
  | .alu i => decide (i < 816)
  | .alui i => decide (i < 816)
  | .movw i => decide (i < 816)
  | .ext i => decide (i < 816)
  | .ins i => decide (i < 816)
  | .ld i => decide (i < 816)
  | .st i => decide (i < 816)
  | .br i => decide (i < 816)
  | .brh i => decide (i < 816)
  | .bb i => decide (i < 816)
  | .jmp i => decide (i < 816)
  | .call i => decide (i < 816)
  | .ret i => decide (i < 816)
  | .jmpr i => decide (i < 816)
  | .lkp i => decide (i < 816)
  | .mtr i => decide (i < 816)
  | .hasha i => decide (i < 816)
  | .hashf i => decide (i < 816)
  | .csumIp4h i => decide (i < 816)
  | .csumIp4g i => decide (i < 816)
  | .csumL4 i => decide (i < 816)
  | .lookupResult i r _ _ => decide (i < 816) && decide (r < 32)
  | .meterCharge i r => decide (i < 816) && decide (r < 32)
  | .hashResult i r => decide (i < 816) && decide (r < 32)
  | .contextTimeout i => decide (i < 816)
  | .verdictTakeEffect p _ => decide (p < 64)
  | .engineRateUpdate => true
  | .psDataWrite _ _ => true
  | .psSwitch _ _ => true
  | .psDrained => true
  | .progUpdate p _ => decide (p < 2)
  | .engineSubstRequest _ cl _ => decide (cl < 24)
  | .engineSubst p _ => decide (p < 2)
  | .engineSubstDone cl => decide (cl < 24)
  | .engineFault cl e => decide (cl < 24) && decide (e < 17)
  | .learnArbitrate _ _ => true
  | .tableChangeApply _ _ => true
  | .holdDownExpiry _ => true
  | .ageStep _ _ => true
  | .rehashStep _ _ => true
  | .rehashFinish _ _ => true
  | .rhStart _ => true
  | .rhPark _ => true
  | .rhResume _ => true
  | .rhCancel _ => true
  | .tblRehashStart p _ => decide (p < 2)
  | .tblRehashPark p _ => decide (p < 2)
  | .tblRehashResume p _ => decide (p < 2)
  | .tblRehashCancel p _ => decide (p < 2)
  | .tblInsert p _ => decide (p < 2)
  | .tblUpdate p _ => decide (p < 2)
  | .tblDelete p _ => decide (p < 2)
  | .readKey _ _ _ => true
  | .readLoc _ _ _ => true
  | .readNext _ _ _ => true
  | .meterSet p _ => decide (p < 2)
  | .mtWrite _ _ _ => true
  | .mtRead _ _ => true
  | .scanContinue kind id => decide (kind < 3) && decide (id < 32768)
  | .creditScan c => decide (c < 16384)
  | .cqPollTimer c => decide (c < 16384)
  | .holdBudgetExpiry q _ => decide (q < 32768)
  | .fenceComplete _ => true
  | .abortSequenceDone q => decide (q < 32768)
  | .sqCreate p _ => decide (p < 2)
  | .cqCreate p _ => decide (p < 2)
  | .sqDestroy p _ => decide (p < 2)
  | .cqDestroy p _ => decide (p < 2)
  | .sqReset p _ => decide (p < 2)
  | .cqReset p _ => decide (p < 2)
  | .silCreate p _ => decide (p < 2)
  | .silDestroy p _ => decide (p < 2)
  | .cqBind p _ => decide (p < 2)
  | .silBind p _ => decide (p < 2)
  | .groupSet p _ => decide (p < 2)
  | .poolSet p _ => decide (p < 2)
  | .fence p _ => decide (p < 2)
  | .shaperSet p _ => decide (p < 2)
  | .gateSet p _ => decide (p < 2)
  | .dumpCfg p _ => decide (p < 2)
  | .dumpNow p _ => decide (p < 2)
  | .cntPerm p _ => decide (p < 2)
  | .rateWin p _ => decide (p < 2)
  | .pwrReq p _ => decide (p < 2)
  | .duoFailover p _ => decide (p < 2)
  | .duoProtect p _ => decide (p < 2)
  | .adminSqDoorbell _ p => decide (p < 2)
  | .adminCqDoorbell _ p => decide (p < 2)
  | .adminCommandStart p => decide (p < 2)
  | .adminLongComplete p => decide (p < 2)
  | .adminPairEnable _ p _ => decide (p < 2)
  | .adminPairDrain _ p _ => decide (p < 2)
  | .adminDrainDone p => decide (p < 2)
  | .teDoorbell _ n _ => decide (n < 16)
  | .tePause _ n => decide (n < 16)
  | .teUnpause _ n => decide (n < 16)
  | .teCancel _ n _ => decide (n < 16)
  | .teEnable _ n _ => decide (n < 16)
  | .teDisable _ n _ => decide (n < 16)
  | .teDrainEnd n => decide (n < 16)
  | .chmapWrite _ w _ => decide (w < 4)
  | .chmapTakeEffect n => decide (n < 64)
  | .schedulerSelection p => decide (p < 64)
  | .bucketRefill level n => decide (level < 4) && decide (n < 2 ^ 20)
  | .gateActivate p => decide (p < 64)
  | .nodeCapture _ _ => true
  | .macFrameStart p => decide (p < 64)
  | .txUnderrun p => decide (p < 64)
  | .txFrameEnd p => decide (p < 64)
  | .mpacketPreempt p _ => decide (p < 64)
  | .flowControlFrameSend p => decide (p < 64)
  | .fcRefresh p => decide (p < 64)
  | .mmEnable p => decide (p < 64)
  | .mmRespondReceived p => decide (p < 64)
  | .mmVerifyTimeout p => decide (p < 64)
  | .evComplete _ _ => true
  | .privSourceEdge _ => true
  | .routeWrite _ _ _ => true
  | .piccMapWrite _ _ _ => true
  | .coalesceWindowEnd _ => true
  | .silArm _ _ => true
  | .silScan _ _ => true
  | .silCreditScan _ => true
  | .silPollTimer _ => true
  | .moderationExpiry _ => true
  | .tbFreqWrite _ _ => true
  | .tbPhaseWrite _ _ => true
  | .slewDone => true
  | .tbTimeRead _ => true
  | .levelIntervalEnd => true
  | .pcSelWrite _ _ => true
  | .counterRead _ => true
  | .counterWindowRead _ f off => decide (f < 4096) && decide (off < 2048)
  | .dumpHeaderRead => true
  | .dumpLatch => true
  | .dumpPark _ => true
  | .dumpResume _ => true
  | .dumpCancel _ => true
  | .rateWindowEnd p _ => decide (p < 64)
  | .rateSnapshot _ _ => true
  | .idleEntry c => decide (c < 256)
  | .idleExit c => decide (c < 256)
  | .powerEntryPhaseDone c => decide (c < 256)
  | .powerDrainEnd c => decide (c < 256)
  | .powerDrainTimeout c => decide (c < 256)
  | .wakeTimer => true
  | .wakeStepDone c => decide (c < 256)
  | .wakeStepTimeout c => decide (c < 256)
  | .chunkHashMatch _ => true
  | .bootVerdict => true
  | .confirm _ => true
  | .release _ => true
  | .releaseTimeout => true
  | .restart _ => true
  | .recovGo _ k => decide (k < 2)
  | .trialWatchdogExpiry => true
  | .mpuViolation a acc => decide (a < 2 ^ 32) && decide (acc < 3)
  | .fuseProg _ word => decide (word < 2048)
  | .fuseProgDone _ => true
  | .debugUnlock _ => true
  | .wearMonitorRead _ _ _ => true
  | .sramRepairDone i => decide (i < 256)
  | .entryRetire _ q _ => decide (q < 16384)
  | .hmpMoveTimeout => true
  | .lmapWrite _ w _ => decide (w < 5)
  | .repairApply _ _ => true
  | .repairRead _ _ => true
  | .counterJournal => true
  | .leaseRenew => true
  | .leaseFenceTimeout => true
  | .leaseRead => true
  | .heartbeatLossTrigger => true
  | .fatalFault => true
  | .fenceWaitTimeout => true
  | .takeover => true
  | .cutover => true
  | .tbTodClkEdge _ => true
  | .ppsOutFall => true
  | .refclkLoss => true
  | .refclkReturn => true
  | .tapReset => true
  | .dmpSilence => true

end Sys2Proof
end

