-- ==== Sys2Proof/Tests/Slice0.lean ====
section
/-!
SUPPORT. Tests: a state and operands that meet the hypotheses of every clause of every statement, an ill-formed command for
every operand that well-formedness checks, and small tests of single steps.
-/

namespace Sys2Proof.Machine

set_option Elab.async false

/-! ## Small states -/

/-- A running block, every island in RUN, presence asserted, the steward confirmed and not gated, its seeds named. -/
def up : State :=
  fs (loc .GL_STRAP) F.GL_STRAP_PRESENCE 1
    (wr (loc .BT_STATUS) (3 * 2 ^ 29)
      { State.reset with
        regs := [(loc .ST_SEED_CUR 0 0, 5), (loc .ST_SEED_CUR 0 1, 9)]
        pins := { Pins.reset with rstN := true, coldStep := 4, verdict := true, datapathUp := true, profileApplied := true }
        isl := islandCodes.map (fun c => (c, { Island.off with st := .run })) })

def wSeq : PSeq :=
  { code := 2, members := [2], wake := false, state := .sleep, step := 1, cmd := none, sources := 0, source := 0,
    detail := 0, ts := 0, retried := false, repeating := false, failStep := 0, fallback := false, also := [] }

def wSubst : Subst :=
  { from_ := 3, spare := 5, logical := 3, slotted := false, group := 0, member := 0, newMember := 0, port := 0, back := 0,
    step := 1, parked := false, power := false, begun := true, cmd := none, cause := 0 }

def wFrame : Frame :=
  { id := 0, port := 0, prio := 0, tx := false, data := [], len := 64, ended := false, fwd := false, fail := 0,
    store := false, ts := 0, tagged := false, code := false, mirrorOf := none, mm := false, ctrl := false, consumed := false, discard := 0, space := 0,
    cells := 0, exec := none, leaf := 0, orig := none, dispatched := false, ctx := none, cluster := 0, endAt := 0,
    waited := false, prog := Prog.none, verdict := none, effective := false, rq := none, dead := false, unedited := false,
    noFcs := false, faultStatus := 0, marked := false, learns := [] }

def wCtx : Ctx :=
  { id := 0, frame := 0, bank := 0, pc := 0, g := List.replicate 16 0, ret := [], acc := [], pend := [], issued := 0,
    start := 0, ecc := [] }

def wReq : Req :=
  { id := 0, chan := 0, func := 0, iova := 0, len := 64, write := false, data := [], snoop := false, purpose := .leaseRead,
    phase := .out 0 0 0, dbl := false, first := none, tail := none, bad := false, phys := true, via := none }

def wCur : TxCur := { frame := 0, pre := false, smd := 0, sent := 0, frags := 0, ts := 0 }

def wCmd : Cmd :=
  { id := 0, pos := 0, opcode := 0x41, serial := false, tag := 0, raw := [], phase := .waiting, status := 0, result0 := 0,
    result1 := 0, data := [], oid := 0 }

def wEnt : Ent := { key := 2 ^ 72, target := 1, meter := 0, action := 0, hit := false, static := false, moving := false }

/-- A block that runs with one context, of code word `w`, and one received frame. -/
def reed (w : Nat) (c : Ctx) (f : Frame) (s : State) : State :=
  { s with dp := { s.dp with ctxs := [c], frames := [f], store := [(0, w)] } }

/-- An admin entry whose bytes from byte 0 on are given, with DEV_OWNS. -/
def wEntry (b : Bytes) : AdmEntry := { pos := 0, raw := BitVec.ofNat 512 (Bytes.toNat b + 2 ^ 511) }
/-- Admin pair 1 is ACTIVE, owned by the steward, with room. -/
def admUp (s : State) : State :=
  setPair 1 { getPair 1 s with credit := 16 } s |> fs (loc .WQ_ADM_CFG 0) F.WQ_ADM_CFG_STATE 1
    |> fs (loc .WQ_ADM_CFG 0) F.WQ_ADM_CFG_OWNER 2 |> fs (loc .WQ_ADM_CFG 0) F.WQ_ADM_CFG_SQ_LOG 6
/-- With a submission queue, a completion queue and a Sillage queue, numbers 0. -/
def queues (s : State) : State :=
  setSq 0 { Sq.none with state := .active, rx := true, logSize := 8 } s
    |> setCq 0 { Cq.none with state := .active, logSize := 8, handle := 1 }
    |> setSil 0 { Sil.none with state := .active, logSize := 8 }

/-- A profile whose port 0 is an enabled plain port of one lane; with the bypass format; and one whose lane 0 is slotted,
with that format, and whose port 0 is a client of group 0. -/
def wProf : Bytes := List.replicate 8 0 ++ [1] ++ List.replicate 55 0 ++ [1]
def wProfBypass : Bytes := List.replicate 8 0 ++ [1] ++ List.replicate 55 0 ++ [5]
def wProfSlot : Bytes := List.replicate 8 0 ++ [10] ++ List.replicate 55 0 ++ [3]
def withProf (b : Bytes) (s : State) : State := { s with prof := { s.prof with cur := b } }
/-- Port 0 is a plain port, lane 0 in USE. -/
def plain : State := withProf wProf up |> setRole 0 2 |> fs (loc .LN_STATUS 0) F.LN_STATUS_LOGICAL 0
/-- Its link is up. -/
def linked : State := plain |> fs (loc .MP_PCS_STATE 0) F.MP_PCS_STATE_STATE 4
  |> fs (loc .MP_PCS_STATE 0) F.MP_PCS_STATE_RX_FAULT 0
/-- Lane 0 is member 0 of slot group 0. -/
def slotted : State := withProf wProfSlot up |> setRole 0 3 |> fs (loc .LN_STATUS 0) F.LN_STATUS_LOGICAL 0
  |> fs (loc .OS_MEMBER 0 0) F.OS_MEMBER_VALID 1 |> fs (loc .OS_MEMBER 0 0) F.OS_MEMBER_PHYS_LANE 0
def wOver : Over :=
  { member := 0, page := 0, req := false, ack := false, fnum := 1, ais := false, rdi := false, trace := 0, group := 0,
    mapA := 0, mapB := 0 }
/-- A minimum frame with the right check sequence. -/
def wGood : Frame :=
  { wFrame with len := 64, data := List.replicate 60 0 ++ bytesLE 4 (fcs (List.replicate 60 0)) }
/-- Port 0 receives frame `f`. -/
def receiving (f : Frame) (s : State) : State :=
  { s with dp := { s.dp with frames := [f], rx := [(0, { getRx 0 s with cur := some 0 })] } }

/-- Port 0 has selected frame 0 and may transmit. -/
def wSel : Sel :=
  { item := .frame 0, leaf := 0, path := [], charge := 64, len := 64, cls := 0, start := 0, frame := 0, ready := true }
def sending (f : Frame) (c : Option TxCur) (s : State) : State :=
  { s with
    dp := { s.dp with frames := [f], tx := [(0, { getTx 0 s with cur := c })] }
    sc := { s.sc with ports := [(0, { getSp 0 s with sels := [wSel] })] } }
def wTx : Frame := { wGood with tx := true, ended := true }
/-- A leaf, its subscriber, service and port, with a forwarded frame at its head. -/
def scheduled : State :=
  let s := sending { wTx with tx := false, fwd := true } none linked
  { s with sc := { s.sc with
      ports := []
      fifo := [(0, [0])]
      nodes := [(nodeCode 0 0, [9, 0, 0, 0, 255, 3]), (nodeCode 1 0, [1, 0, 0, 0, 255, 3]),
                (nodeCode 2 0, [1, 0, 0, 0, 255, 3]), (nodeCode 3 0, [1])] } }
/-- Host memory access `r` is outstanding. -/
def asking (r : Req) (s : State) : State := { s with host := { s.host with reqs := [r] } }
def wXreq : XReq := { tag := 0, func := 0, page := 0, write := false, invals := [] }
def wPreq : PReq := { id := 0, func := 0, page := 0, write := false, timeout := 5, timedOut := false }
def wInval : Inval := { software := false, func := 0, all := false, page := 0, size := 0, waits := [], tags := [] }
def wWin : Window := { domain := 0, stop := 0, sil := 0, status := 0, count := 1 }
def wMeter (b : Nat) : Meter := { cfg := [0, 0, 0, BitVec.ofNat 8 b], lvlC := 2 ^ 24, lvlX := 2 ^ 24, last := 0 }
def wLearn (k : Nat) : Learn := { key := k, target := 1, port := 0 }

/-- A manifest of no chunks signed (R456) with the private key 1 and the nonce 1: its key is the base point of the curve, R is
that point's x, and S is the hash, computed outside the model, plus R. -/
def wSignedMan : Bytes :=
  List.replicate 64 0 ++ [4] ++ bytesBE 48 p384Base.1 ++ bytesBE 48 p384Base.2 ++ List.replicate 767 0 ++
    bytesBE 48 0xAA87CA22BE8B05378EB1C71EF320AD746E1D3B628BA79B9859F741E082542A385502F25DBF55296C3A545E3872760AB7 ++
    bytesBE 48 0x2C0E02EAC3B24E2D4B87319D781DF2155982E4E2230451F7816696D7D2EDE57CCED73C97E77DB8941C2DFD63077D2CF7
def wSigned : State :=
  fs (loc .BT_STATUS) F.BT_STATUS_STATE 1 { up with
    pins := { up.pins with verdict := false }, boot := { up.boot with phase := .chunks, man := wSignedMan } }
/-- Chunk `n - 1` of `n` has arrived: one zero byte, whose hash, computed outside the model, the manifest holds (R453). -/
def wChunk (n : Nat) : State :=
  { up with boot := { up.boot with
      phase := .chunks
      man := List.replicate 7 0 ++ [BitVec.ofNat 8 n] ++ List.replicate 20 0 ++ [1] ++ List.replicate (163 + 48 * (n - 1)) 0 ++
        bytesBE 48 0xBEC021B4F368E3069134E012C2B4307083D3A9BDD206E24E5F0D86E13D6636655933EC2B413465966817A9C208A11717
      image := [(65536 * (n - 1), [0])] } }
/-- A rehash steps over an entry at location 0 for whose key no way is free, and the pending list is full. -/
def wFull : State :=
  let s := fs (loc .ST_RH_STATE) F.ST_RH_STATE_STATE 1 up
  { s with tab := { s.tab with
      ways := (((places (curSeeds s) wEnt.key).locs.flatMap locWays).foldl
        (fun m w => sput none m w (some { wEnt with key := w, moving := true })) s.tab.ways) |> fun m => sput none m 0 (some wEnt)
      pend := (List.range 256).map (fun i => (i, wEnt)) } }

/-- Profile 0 stored in the fuses, empty but for its header and its check sequence (computed outside the model). -/
def wStored : State :=
  { up with boot := { up.boot with fuse := [(0x400, 0x01004650), (0x4FE, 0xB16A5A01)] } }

/-! The check sequence of the stored profile, in pieces. -/

theorem crc_append (p i : Nat) (a b : Bytes) : crc p i (a ++ b) = crc p (crc p i a) b := by
  simp only [crc, List.foldl_append]

theorem wStored_bytes : (storedProfile 0 wStored).take 1016 =
    ([0x50, 0x46, 0, 1] ++ List.replicate 124 0) ++ (List.replicate 128 0 ++ (List.replicate 128 0 ++
      (List.replicate 128 0 ++ (List.replicate 128 0 ++ (List.replicate 128 0 ++ (List.replicate 128 0 ++
        List.replicate 120 0)))))) := by
  decide +kernel

theorem wStored_fcs : fcs ((storedProfile 0 wStored).take 1016) = 0xB16A5A01 := by
  have h0 : crc poly8023 0xFFFFFFFF (([0x50, 0x46, 0, 1] ++ List.replicate 124 0)) = 0x956FF6A1 := by decide +kernel
  have h1 : crc poly8023 0x956FF6A1 (List.replicate 128 0) = 0x6C3BADC4 := by decide +kernel
  have h2 : crc poly8023 0x6C3BADC4 (List.replicate 128 0) = 0x8BDBE1F1 := by decide +kernel
  have h3 : crc poly8023 0x8BDBE1F1 (List.replicate 128 0) = 0xF5DDEF5F := by decide +kernel
  have h4 : crc poly8023 0xF5DDEF5F (List.replicate 128 0) = 0x208AF0BD := by decide +kernel
  have h5 : crc poly8023 0x208AF0BD (List.replicate 128 0) = 0x98E45189 := by decide +kernel
  have h6 : crc poly8023 0x98E45189 (List.replicate 128 0) = 0x7722C970 := by decide +kernel
  have h7 : crc poly8023 0x7722C970 (List.replicate 120 0) = 0x4E95A5FE := by decide +kernel
  rw [wStored_bytes, fcs, crc_append, crc_append, crc_append, crc_append, crc_append, crc_append, crc_append, h0, h1, h2, h3,
    h4, h5, h6, h7]
  decide +kernel

theorem wStored_valid : profValid (storedProfile 0 wStored) 0 = true := by
  rw [profValid, wStored_fcs]
  decide +kernel

/-- LOAD_PROFILE of profile 0 passes its checks where the fuses hold it. -/
theorem wStored_loads :
    startCheck (pairOf 0) (entryBytes (wEntry [0x34])) (takenCmd 0 (wEntry [0x34]) (admUp wStored)) = St.ok := by
  have hs : storedProfile 0 (takenCmd 0 (wEntry [0x34]) (admUp wStored)) = storedProfile 0 wStored := rfl
  have h0 : u (entryBytes (wEntry [0x34])) 0 1 = 0x34 := by decide +kernel
  have h8 : u (entryBytes (wEntry [0x34])) 8 1 = 0 := by decide +kernel
  have h1 : admOpcodes.contains 0x34 = true := by decide +kernel
  have h2 : admReserved (entryBytes (wEntry [0x34])) = true := by decide +kernel
  have h3 : admPermitted (pairOf 0) (entryBytes (wEntry [0x34])) (takenCmd 0 (wEntry [0x34]) (admUp wStored)) = true := by
    decide +kernel
  have h4 : (takenCmd 0 (wEntry [0x34]) (admUp wStored)).prof.next.isSome = false := by decide +kernel
  have h5 : heldBy 0x34 (fun _ => true) (takenCmd 0 (wEntry [0x34]) (admUp wStored)) = false := by decide +kernel
  have h6 : profMode (storedProfile 0 wStored) 1 = false := by decide +kernel
  simp only [startCheck, admCheck, h0, h8, h1, h2, h3, h4, h5, h6, hs, wStored_valid]
  decide +kernel

/-! The signature of the manifest, in pieces: its hash, and the two multiples of R456, each computed outside the model. -/

theorem wSigned_hash : beNat (sha384 (wSignedMan.take 928)) =
    0x818638C8052748F5BCD56A7E84FD44A0EB65A97F975CB65EEED2A27944D0E923D1EE57EC70D936A2CEC5B89561CC4BB3 := by
  decide +kernel

theorem wSigned_first : mulPt 384
    0xB4C37E27191BAF39685930F97007C40F648A7D86F3D63C580B47954FEC8908C203D73A852F09779D40D0B1239D15D96D
    (some p384Base) = some
    (0x6DB0BC6BAB379AEF3FA7AE567613F21FDFDA3546710D37BF4622C43E1A06E3C7B3ADEE540E3275EF9971DDA1765A7D09,
     0x738F764C08C681574F414997BED57A7155625BD0B79221EE5633AE820E3240BD48E83FF99E09129C31D54F38A2660791) := by
  decide +kernel

theorem wSigned_second : mulPt 384
    0x4B3C81D8E6E450C697A6CF068FF83BF09B7582790C29C3A7BC1BB83207AE251D5442D32D19A72FDDAC1B68472FAF5007
    (some p384Base) = some
    (0x6FDCED492F658D384A87FE9D9901DE4AEF77BC66301A6FD76F369544230AEB7D16D7F26AB386BFC1C6E412C7D92D2B91,
     0x62A6FC6637436DC0980D8F331A22D83500B483D328C2C212B0EA57BEFE90FDAB90DD7189931A7A98ECAEA0AB1D66BF6C) := by
  decide +kernel

theorem wSigned_sum : addPt
    (some (0x6DB0BC6BAB379AEF3FA7AE567613F21FDFDA3546710D37BF4622C43E1A06E3C7B3ADEE540E3275EF9971DDA1765A7D09,
      0x738F764C08C681574F414997BED57A7155625BD0B79221EE5633AE820E3240BD48E83FF99E09129C31D54F38A2660791))
    (some (0x6FDCED492F658D384A87FE9D9901DE4AEF77BC66301A6FD76F369544230AEB7D16D7F26AB386BFC1C6E412C7D92D2B91,
      0x62A6FC6637436DC0980D8F331A22D83500B483D328C2C212B0EA57BEFE90FDAB90DD7189931A7A98ECAEA0AB1D66BF6C)) =
    some (0xAA87CA22BE8B05378EB1C71EF320AD746E1D3B628BA79B9859F741E082542A385502F25DBF55296C3A545E3872760AB7,
      0x3617DE4A96262C6F5D9E98BF9292DC29F8F41DBD289A147CE9DA3113B5F0B8C00A60B1CE1D7E819D7A431D7C90EA0E5F) := by
  decide +kernel

theorem ecdsa_of (q P Q : Nat × Nat) (e r s w a b x y : Nat) (hc : onCurve q = true) (hr : 0 < r) (hr' : r < p384Order)
    (hs : 0 < s) (hs' : s < p384Order) (hw : invMod s p384Order = w) (ha : e * w % p384Order = a)
    (hb : r * w % p384Order = b) (hP : mulPt 384 a (some p384Base) = some P) (hQ : mulPt 384 b (some q) = some Q)
    (hA : addPt (some P) (some Q) = some (x, y)) (hx : x % p384Order = r) : ecdsaOk q e r s = true := by
  subst hw ha hb
  simp [ecdsaOk, hc, hr, hr', hs, hs', hP, hQ, hA, hx]

theorem wSigned_ok : signatureOk wSignedMan = true := by
  have hx : beNat ((wSignedMan.drop 65).take 48) = p384Base.1 := by decide +kernel
  have hy : beNat ((wSignedMan.drop 113).take 48) = p384Base.2 := by decide +kernel
  have hr : beNat ((wSignedMan.drop 928).take 48) =
      0xAA87CA22BE8B05378EB1C71EF320AD746E1D3B628BA79B9859F741E082542A385502F25DBF55296C3A545E3872760AB7 := by
    decide +kernel
  have hs : beNat ((wSignedMan.drop 976).take 48) =
      0x2C0E02EAC3B24E2D4B87319D781DF2155982E4E2230451F7816696D7D2EDE57CCED73C97E77DB8941C2DFD63077D2CF7 := by
    decide +kernel
  have hw : invMod
      0x2C0E02EAC3B24E2D4B87319D781DF2155982E4E2230451F7816696D7D2EDE57CCED73C97E77DB8941C2DFD63077D2CF7
      p384Order =
      0x65F015155DFC7E3398BE36C2C4745FBB10FA186C99C5B7B2E9A73684BE2DB3E6686E4207C08A13B60732BA5D90468A4F := by
    decide +kernel
  have h1 : 0x818638C8052748F5BCD56A7E84FD44A0EB65A97F975CB65EEED2A27944D0E923D1EE57EC70D936A2CEC5B89561CC4BB3 *
      0x65F015155DFC7E3398BE36C2C4745FBB10FA186C99C5B7B2E9A73684BE2DB3E6686E4207C08A13B60732BA5D90468A4F
      % p384Order =
      0xB4C37E27191BAF39685930F97007C40F648A7D86F3D63C580B47954FEC8908C203D73A852F09779D40D0B1239D15D96D := by
    decide +kernel
  have h2 : 0xAA87CA22BE8B05378EB1C71EF320AD746E1D3B628BA79B9859F741E082542A385502F25DBF55296C3A545E3872760AB7 *
      0x65F015155DFC7E3398BE36C2C4745FBB10FA186C99C5B7B2E9A73684BE2DB3E6686E4207C08A13B60732BA5D90468A4F
      % p384Order =
      0x4B3C81D8E6E450C697A6CF068FF83BF09B7582790C29C3A7BC1BB83207AE251D5442D32D19A72FDDAC1B68472FAF5007 := by
    decide +kernel
  have h4 : u wSignedMan 64 1 = 4 := by decide +kernel
  have hc : onCurve (p384Base.1, p384Base.2) = true := by decide +kernel
  rw [signatureOk, hx, hy, hr, hs, wSigned_hash, h4]
  exact (Bool.and_eq_true _ _).mpr ⟨by decide, ecdsa_of _ _ _ _ _ _ _ _ _ _ _ hc (by decide +kernel) (by decide +kernel)
    (by decide +kernel) (by decide +kernel) hw h1 h2 wSigned_first wSigned_second wSigned_sum (by decide +kernel)⟩

theorem wSigned_verdict : verdict wSigned = some 0 := by
  have h : signatureOk wSigned.boot.man = true := wSigned_ok
  have hl : loadReading wSigned = false := by decide +kernel
  have he : wSigned.boot.readErr = false := by decide +kernel
  have hp : wSigned.boot.phase = .chunks := by decide +kernel
  have hm : manChunks wSigned.boot.man = 0 := by decide +kernel
  simp [verdict, hl, he, hp, h, hm]

/-! ## The statements' hypotheses are met -/

/-- Every hypothesis of `Obligations.StepRunsFrontCommand` is met by some state and operands, clause by clause. -/
theorem test_witness_StepRunsFrontCommand :
  (∃ (c : Instr) (q : List Instr) (s : State), s.pending = c :: q) :=
  ⟨(.refLoss : Instr), ([] : List Instr), ({ up with pending := [.refLoss] } : State), by decide +kernel⟩

/-- Every hypothesis of `Obligations.StepTicksWhenIdle` is met by some state and operands, clause by clause. -/
theorem test_witness_StepTicksWhenIdle :
  (∃ (s : State), s.pending = []) ∧
  (∃ (part : Int) (s : State), s.pending = [] ∧ timeRuns s = true ∧
    part = min (slewPart s : Int) s.tb.slew.natAbs * s.tb.slew.sign ∧ 0 ≤ (tickNum s : Int) + part) ∧
  (∃ (s : State), rd (loc .TB_FREQ) s = 0 ∧ coreAsleep s = false) ∧
  (∃ (s : State), rd (loc .TB_FREQ) s = 0 ∧ coreAsleep s = true) :=
  ⟨⟨(up |> (fun s => { s with pending := [] }) : State), by decide +kernel⟩,
   ⟨(0 : Int), up, by decide +kernel⟩,
   ⟨up, by decide +kernel⟩,
   ⟨(setIsl 2 { isl 2 up with st := .sleep } up : State), by decide +kernel⟩⟩

/-- Every hypothesis of `Obligations.StepKeepsPins` is met by some state and operands, clause by clause. -/
theorem test_witness_StepKeepsPins :
  (∃ (s t : State), PinsFollow s ∧ step s = .next t) :=
  ⟨State.reset, tick State.reset, ⟨by decide +kernel, by decide +kernel, by decide +kernel⟩, rfl⟩

/-- Every hypothesis of `Obligations.ColdResetClears` is met by some state and operands, clause by clause. -/
theorem test_witness_ColdResetClears :
  (∃ (s : State), s.pins.collapsed = false) ∧
  (∃ (s : State), s.pins.rstN = true) :=
  ⟨⟨(up |> (fun s => { s with pins := { s.pins with collapsed := false } }) : State), by decide +kernel⟩,
   ⟨(up |> (fun s => { s with pins := { s.pins with rstN := true } }) : State), by decide +kernel⟩⟩

/-- Every hypothesis of `Obligations.ResetsAndProfile` is met by some state and operands, clause by clause. -/
theorem test_witness_ResetsAndProfile :
  (∃ (s : State), coldHeld s = false) ∧
  (∃ (prof : Nat) (duo : Nat) (s : State), s.pins.rstN = false ∧ s.pins.collapsed = false ∧ prof < 4 ∧ duo < 3) ∧
  (∃ (prof : Nat) (s : State), s.pins.rstN = false ∧ s.pins.collapsed = false ∧ prof < 4) ∧
  (∃ (s : State), s.pins.collapsed = true ∧ s.pins.rstN = true) ∧
  (∃ (s : State), s.pins.coldStep = 1) ∧
  (∃ (s : State), s.pins.warmN = true ∧ coldHeld s = false) ∧
  (∃ (s : State), s.pins.warmN = false ∧ coldHeld s = false ∧ s.pins.verdict = true) ∧
  (∃ (s : State), s.pins.warmN = false ∧ s.pins.verdict = false) ∧
  (∃ (s : State), inReset s = false ∧ s.pins.verdict = true ∧ s.pins.profileApplied = false ∧ releaseDue s = true) ∧
  (∃ (s : State), (s.pins.verdict = false ∨ releaseDue s = false)) :=
  ⟨⟨up, by decide +kernel⟩,
   ⟨(0 : Nat), (0 : Nat), (up |> (fun s => { s with pins := { s.pins with rstN := false } }) |>
     (fun s => { s with pins := { s.pins with collapsed := false } }) : State), by decide +kernel⟩,
   ⟨(0 : Nat), (up |> (fun s => { s with pins := { s.pins with rstN := false } }) |>
     (fun s => { s with pins := { s.pins with collapsed := false } }) : State), by decide +kernel⟩,
   ⟨(up |> (fun s => { s with pins := { s.pins with collapsed := true } }) |>
     (fun s => { s with pins := { s.pins with rstN := true } }) : State), by decide +kernel⟩,
   ⟨(up |> (fun s => { s with pins := { s.pins with coldStep := 1 } }) : State), by decide +kernel⟩,
   ⟨(up |> (fun s => { s with pins := { s.pins with warmN := true } }) : State), by decide +kernel⟩,
   ⟨(up |> (fun s => { s with pins := { s.pins with warmN := false } }) |>
     (fun s => { s with pins := { s.pins with verdict := true } }) : State), by decide +kernel⟩,
   ⟨(up |> (fun s => { s with pins := { s.pins with warmN := false } }) |>
     (fun s => { s with pins := { s.pins with verdict := false } }) : State), by decide +kernel⟩,
   ⟨({ up with pins := { up.pins with profileApplied := false }, boot := { up.boot with relDue := true } } : State),
     by decide +kernel⟩,
   ⟨(up |> (fun s => { s with pins := { s.pins with verdict := false ∨ releaseDue s = false } }) : State),
     by decide +kernel⟩⟩

/-- Every hypothesis of `Obligations.BoardSignals` is met by some state and operands, clause by clause. -/
theorem test_witness_BoardSignals :
  (∃ (s : State), s.pins.refclk = true ∧ inReset s = false) ∧
  (∃ (s : State), coldHeld s = false ∧ presence s = false) ∧
  (∃ (s : State), coldHeld s = false) :=
  ⟨⟨(up |> (fun s => { s with pins := { s.pins with refclk := true } }) : State), by decide +kernel⟩,
   ⟨(fs (loc .GL_STRAP) F.GL_STRAP_PRESENCE 0 up : State), by decide +kernel⟩,
   ⟨up, by decide +kernel⟩⟩

/-- Every hypothesis of `Obligations.PortsInReset` is met by some state and operands, clause by clause. -/
theorem test_witness_PortsInReset :
  (∃ (s : State), coldHeld s = true) ∧
  (∃ (a : Nat) (s : State), s.pins.warmN = false ∧ 0x2000 ≤ a) ∧
  (∃ (m : Master) (s : State), coldHeld s = true ∧ ctlQueue m s = []) ∧
  (∃ (m : Master) (a : BitVec 26) (pg : Nat) (off : Nat) (s : State), coldHeld s = false ∧ s.pins.warmN = false ∧
    ctlQueue m s = [] ∧ 0x2000 ≤ a.toNat ∧ region a.toNat = .page pg off) ∧
  (∃ (m : Master) (a : BitVec 26) (pg : Nat) (off : Nat) (s : State), resetHolds a.toNat s = true ∧
    ctlQueue m s = [] ∧ a.toNat % 4 = 0 ∧ region a.toNat = .page pg off ∧ off < 0x80) ∧
  (∃ (m : Master) (a : BitVec 26) (pg : Nat) (off : Nat) (s : State), coldHeld s = true ∧ ctlQueue m s = [] ∧
    region a.toNat = .page pg off ∧ 0x80 ≤ off) ∧
  (∃ (s : State), inReset s = true) ∧
  (∃ (s : State), inReset s = true) ∧
  (∃ (s : State), inReset s = true) ∧
  (∃ (s : State), inReset s = true) ∧
  (∃ (m : Master) (a : BitVec 26) (pg : Nat) (off : Nat) (s : State), coldHeld s = false ∧ s.pins.warmN = false ∧
    ctlQueue m s = [] ∧ 0x2000 ≤ a.toNat ∧ region a.toNat = .page pg off ∧ 0x80 ≤ off) :=
  ⟨⟨State.reset, by decide +kernel⟩,
   ⟨(0x2000 : Nat), ({ up with pins := { up.pins with warmN := false } } : State), by decide +kernel⟩,
   ⟨(.stw : Master), State.reset, by decide +kernel⟩,
   ⟨(.stw : Master), (0x2080 : BitVec 26), (2 : Nat), (0x80 : Nat),
     ({ up with pins := { up.pins with warmN := false } } : State), by decide +kernel⟩,
   ⟨(.stw : Master), (0x2000 : BitVec 26), (2 : Nat), (0 : Nat),
     ({ up with pins := { up.pins with warmN := false } } : State), by decide +kernel⟩,
   ⟨(.stw : Master), (0x2080 : BitVec 26), (2 : Nat), (0x80 : Nat), State.reset, by decide +kernel⟩,
   ⟨({ up with pins := { up.pins with warmN := false } } : State), by decide +kernel⟩,
   ⟨({ up with pins := { up.pins with warmN := false } } : State), by decide +kernel⟩,
   ⟨({ up with pins := { up.pins with warmN := false } } : State), by decide +kernel⟩,
   ⟨({ up with pins := { up.pins with warmN := false } } : State), by decide +kernel⟩,
   ⟨(.stw : Master), (0x2080 : BitVec 26), (2 : Nat), (0x80 : Nat),
     ({ up with pins := { up.pins with warmN := false } } : State), by decide +kernel⟩⟩

/-- Every hypothesis of `Obligations.BlockTime` is met by some state and operands, clause by clause. -/
theorem test_witness_BlockTime :
  (∃ (s : State), inReset s = false ∧ fb (loc .TB_CFG) F.TB_CFG_TOD_ARM s = false) ∧
  (∃ (s : State), inReset s = false) ∧
  (∃ (s : State), inReset s = false) ∧
  (∃ (s : State), fg (loc .TB_CFG) F.TB_CFG_REF_SEL s ∈ [1, 2]) ∧
  (∃ (s : State), fg (loc .TB_CFG) F.TB_CFG_REF_SEL s ≠ 0) ∧
  (∃ (s : State), fb (loc .TB_CFG) F.TB_CFG_TOD_ARM s = true) ∧
  (∃ (s : State), fb (loc .TB_ADJ) F.TB_ADJ_BUSY s = true ∧ s.tb.slew = 0) ∧
  (∃ (s : State), s.tb.slew ≠ 0) ∧
  (∃ (s : State), inReset s = false ∧ fb (loc .TB_CFG) F.TB_CFG_TOD_ARM s = true) ∧
  (∃ (m : Master) (d : W32) (s : State), WriteOpen m (loc .TB_FREQ) d.toNat s) ∧
  (∃ (m : Master) (d : W32) (s : State), fb (loc .TB_ADJ) F.TB_ADJ_BUSY s = false ∧
    fg (loc .TB_ADJ) F.TB_ADJ_MODE s = 0 ∧ d ≠ 0 ∧ WriteOpen m (loc .TB_PHASE) d.toNat s) ∧
  (∃ (m : Master) (d : W32) (s : State), fb (loc .TB_ADJ) F.TB_ADJ_BUSY s = false ∧
    fg (loc .TB_ADJ) F.TB_ADJ_MODE s = 1 ∧ d ≠ 0 ∧ WriteOpen m (loc .TB_PHASE) d.toNat s) ∧
  (∃ (m : Master) (s : State), ReadOpen m (loc .TB_TIME) s) :=
  ⟨⟨(up |> fs (loc .TB_CFG) F.TB_CFG_TOD_ARM 0 : State), by decide +kernel⟩,
   ⟨up, by decide +kernel⟩,
   ⟨up, by decide +kernel⟩,
   ⟨(up |> fs (loc .TB_CFG) F.TB_CFG_REF_SEL 1 : State), by decide +kernel⟩,
   ⟨(up |> fs (loc .TB_CFG) F.TB_CFG_REF_SEL 1 : State), by decide +kernel⟩,
   ⟨(up |> fs (loc .TB_CFG) F.TB_CFG_TOD_ARM 1 : State), by decide +kernel⟩,
   ⟨(up |> fs (loc .TB_ADJ) F.TB_ADJ_BUSY 1 |> (fun s => { s with tb := { s.tb with slew := 0 } }) : State),
     by decide +kernel⟩,
   ⟨({ up with tb := { up.tb with slew := 5 } } : State), by decide +kernel⟩,
   ⟨(up |> fs (loc .TB_CFG) F.TB_CFG_TOD_ARM 1 : State), by decide +kernel⟩,
   ⟨(.stw : Master), (0 : W32), up, by decide +kernel⟩,
   ⟨(.stw : Master), (1 : W32), (up |> fs (loc .TB_ADJ) F.TB_ADJ_BUSY 0 |> fs (loc .TB_ADJ) F.TB_ADJ_MODE 0 : State),
     by decide +kernel⟩,
   ⟨(.stw : Master), (1 : W32), (up |> fs (loc .TB_ADJ) F.TB_ADJ_BUSY 0 |> fs (loc .TB_ADJ) F.TB_ADJ_MODE 1 : State),
     by decide +kernel⟩,
   ⟨(.stw : Master), up, by decide +kernel⟩⟩

/-- Every hypothesis of `Obligations.CountersAndRates` is met by some state and operands, clause by clause. -/
theorem test_witness_CountersAndRates :
  (∃ (m : Master) (d : W32) (s : State), isEL (d.toNat % 2 ^ 14) = false ∧ WriteOpen m (loc .PC_SEL) d.toNat s) ∧
  (∃ (m : Master) (d : W32) (s : State), isEL (d.toNat % 2 ^ 14) = true ∧
    s.pc.level.contains (d.toNat % 2 ^ 14) = bit d.toNat 31 ∧ WriteOpen m (loc .PC_SEL) d.toNat s) ∧
  (∃ (m : Master) (d : W32) (i : Nat) (s : State), i = d.toNat % 2 ^ 14 ∧ isEL i = true ∧
    s.pc.level.contains i ≠ bit d.toNat 31 ∧ WriteOpen m (loc .PC_SEL) d.toNat s) ∧
  (∃ (m : Master) (s : State), ReadOpen m (loc .PC_VAL_LO) s) ∧
  (∃ (m : Master) (f : Nat) (w : Nat) (s : State), f < 4096 ∧ w < 256 ∧ ctlQueue m s = [] ∧ inReset s = false ∧
    winRight F.GL_WINACL_CW_RD m s = true ∧ gate m 5 0x80 s = .go ∧ s.pc.cntPerm.contains f = true) ∧
  (∃ (m : Master) (f : Nat) (w : Nat) (s : State), f < 4096 ∧ w < 512 ∧ ctlQueue m s = [] ∧ inReset s = false ∧
    winRight F.GL_WINACL_CW_RD m s = true ∧ gate m 5 0x80 s = .go ∧ s.pc.cntPerm.contains f = false) ∧
  (∃ (p : Nat) (tx : Bool) (s : State), p < 64 ∧ inReset s = false ∧ (getRate (2 * p + b2n tx) s).newWindow = 0) ∧
  (∃ (m : Master) (d : W32) (s : State), WriteOpen m (loc .PC_RATE_SEL) d.toNat s) :=
  ⟨⟨(.stw : Master), (0 : W32), up, by decide +kernel⟩,
   ⟨(.stw : Master), ((2 ^ 31 + 7) : W32), ({ up with pc := { up.pc with level := [7] } } : State), by decide +kernel⟩,
   ⟨(.stw : Master), ((2 ^ 31 + 7) : W32), (7 : Nat), up, by decide +kernel⟩,
   ⟨(.stw : Master), up, by decide +kernel⟩,
   ⟨(.stw : Master), (0 : Nat), (0 : Nat), ({ up with pc := { up.pc with cntPerm := [0] } } : State),
     by decide +kernel⟩,
   ⟨(.stw : Master), (0 : Nat), (0 : Nat), up, by decide +kernel⟩,
   ⟨(0 : Nat), false, up, by decide +kernel⟩,
   ⟨(.stw : Master), (0 : W32), up, by decide +kernel⟩⟩

/-- Every hypothesis of `Obligations.CounterDumps` is met by some state and operands, clause by clause. -/
theorem test_witness_CounterDumps :
  (∃ (s : State), s.pc.dump.enable = true ∧ s.pc.dump.phase = .idle ∧ (isl 2 s).st = .run ∧ duRole s ≠ 2) ∧
  (∃ (s : State), s.pc.dump.phase = .latchPending) ∧
  (∃ (s : State), s.pc.dump.phase = .latchPending) ∧
  (∃ (m : Master) (s : State), s.pc.dump.phase = .writing ∧ s.pc.dump.parkPark = false ∧ s.pc.dump.status = 0 ∧
    WriteOpen m (loc .PC_DUMP_CTRL) (2 ^ 31) s) ∧
  (∃ (m : Master) (s : State), s.pc.dump.phase = .parked ∧ s.pc.dump.parkPark = true ∧
    WriteOpen m (loc .PC_DUMP_CTRL) (2 ^ 30) s) ∧
  (∃ (m : Master) (s : State), s.pc.dump.phase = .writing ∧ s.pc.dump.status = 0 ∧ s.pc.dump.parkFault = false ∧
    WriteOpen m (loc .PC_DUMP_CTRL) (2 ^ 29) s) :=
  ⟨⟨(up |> (fun s => { s with pc := { s.pc with dump := { s.pc.dump with enable := true } } }) |>
     (fun s => { s with pc := { s.pc with dump := { s.pc.dump with phase := .idle } } }) |>
     (fun s => setIsl 2 { isl 2 s with st := .run } s) : State), by decide +kernel⟩,
   ⟨(up |> (fun s => { s with pc := { s.pc with dump := { s.pc.dump with phase := .latchPending } } }) : State),
     by decide +kernel⟩,
   ⟨(up |> (fun s => { s with pc := { s.pc with dump := { s.pc.dump with phase := .latchPending } } }) : State),
     by decide +kernel⟩,
   ⟨(.stw : Master), (up |> (fun s => { s with pc := { s.pc with dump := { s.pc.dump with phase := .writing } } }) |>
     (fun s => { s with pc := { s.pc with dump := { s.pc.dump with parkPark := false } } }) |>
     (fun s => { s with pc := { s.pc with dump := { s.pc.dump with status := 0 } } }) : State), by decide +kernel⟩,
   ⟨(.stw : Master), (up |> (fun s => { s with pc := { s.pc with dump := { s.pc.dump with phase := .parked } } }) |>
     (fun s => { s with pc := { s.pc with dump := { s.pc.dump with parkPark := true } } }) : State),
     by decide +kernel⟩,
   ⟨(.stw : Master), (up |> (fun s => { s with pc := { s.pc with dump := { s.pc.dump with phase := .writing } } }) |>
     (fun s => { s with pc := { s.pc with dump := { s.pc.dump with status := 0 } } }) |>
     (fun s => { s with pc := { s.pc with dump := { s.pc.dump with parkFault := false } } }) : State),
     by decide +kernel⟩⟩

/-- Every hypothesis of `Obligations.PowerStates` is met by some state and operands, clause by clause. -/
theorem test_witness_PowerStates :
  (∃ (c : Nat) (s : State), idlesIsl c = true ∧ (isl c s).st = .run ∧ (isl c s).entering = false ∧
    (isl c s).waking = false ∧ fb (loc .PW_CFG) F.PW_CFG_PWR_HELD s = false ∧ quiet c s = true) ∧
  (∃ (c : Nat) (s : State), (fb (loc .PW_CFG) F.PW_CFG_PWR_HELD s = true ∨ quiet c s = false)) ∧
  (∃ (c : Nat) (s : State), (isl c s).st = .idle ∧ c ≠ 4) ∧
  (∃ (s : State), (isl 4 s).st = .idle) ∧
  (∃ (s : State), fb (loc .PW_CFG) F.PW_CFG_TIMER_WAKE s = true ∧ rd (loc .PW_WAKE_TIMER) s ≠ 0 ∧ blockState s ∈ [2,
    3] ∧ seqOf wholeBlock s = none) ∧
  (∃ (s : State), coldHeld s = false ∧ blockState s ∈ [2, 3] ∧ fb (loc .PW_CFG) F.PW_CFG_WAKE_IN_EN s = true ∧
    seqOf wholeBlock s = none) ∧
  (∃ (s : State), coldHeld s = false ∧ blockState s = 4 ∧ s.pins.coldStep = 0 ∧ seqOf wholeBlock s = none) ∧
  (∃ (c : Nat) (q : PSeq) (s : State), seqOf c s = some q ∧ q.fallback = false ∧ q.wake = false ∧ q.step ≠ 2 ∧
    q.step ≠ 3 ∧ repairing q s = false ∧
    ((nextStep q.step (entryPhases q.code q.state) ≠ some 6 ∨ outputsVisible q s = true))) ∧
  (∃ (c : Nat) (q : PSeq) (s : State), seqOf c s = some q ∧ q.fallback = false ∧ q.wake = false ∧
    ((repairing q s = true ∨ (nextStep q.step (entryPhases q.code q.state) = some 6 ∧ outputsVisible q s = false)))) ∧
  (∃ (c : Nat) (q : PSeq) (s : State), seqOf c s = some q ∧ q.fallback = true ∧ q.step = 6) ∧
  (∃ (c : Nat) (q : PSeq) (s : State), seqOf c s = some q ∧ q.fallback = true ∧ q.step ≠ 6) ∧
  (∃ (c : Nat) (q : PSeq) (s : State), seqOf c s = some q ∧ c ≠ wholeBlock ∧ q.wake = false ∧ q.step = 2 ∧
    drainedSeq q s = true ∧ repairing q s = false) ∧
  (∃ (q : PSeq) (s : State), seqOf wholeBlock s = some q ∧ q.wake = false ∧ q.step = 2 ∧ drainedSeq q s = true ∧
    repairing q s = false ∧ q.cmd = none) ∧
  (∃ (p : Nat) (k : Nat) (q : PSeq) (t : State) (s : State), seqOf wholeBlock s = some q ∧ q.wake = false ∧
    q.step = 2 ∧ drainedSeq q s = true ∧ repairing q s = false ∧ q.cmd = some (p, k) ∧
    t = finishCmd p k St.ok 0 0 (startPhase q 3 s)) ∧
  (∃ (c : Nat) (q : PSeq) (s : State), seqOf c s = some q ∧ c ≠ wholeBlock ∧ q.wake = false ∧ q.step = 2) ∧
  (∃ (q : PSeq) (s : State), seqOf wholeBlock s = some q ∧ q.wake = false ∧ q.step = 2) ∧
  (∃ (c : Nat) (n : Nat) (q : PSeq) (s : State), seqOf c s = some q ∧ q.wake = true ∧ q.fallback = false ∧
    ((q.state ≠ .off ∨ c ≠ wholeBlock)) ∧ ((q.step ≠ 3 ∨ s.pins.refclk = true)) ∧
    nextStep q.step (wakeSteps c q.state) = some n ∧ q.code = c) ∧
  (∃ (c : Nat) (q : PSeq) (s : State), seqOf c s = some q ∧ q.wake = true ∧ q.fallback = false ∧ q.step = 3 ∧
    s.pins.refclk = false) ∧
  (∃ (c : Nat) (q : PSeq) (s : State), seqOf c s = some q ∧ q.wake = true ∧ q.fallback = false ∧
    ((q.state ≠ .off ∨ c ≠ wholeBlock)) ∧ ((q.step ≠ 3 ∨ s.pins.refclk = true)) ∧
    nextStep q.step (wakeSteps c q.state) = none ∧ (seqOf c (wakeEnd q s)).isNone = true) ∧
  (∃ (c : Nat) (q : PSeq) (s : State), seqOf c s = some q ∧ q.wake = true ∧ q.fallback = false ∧
    ((q.state ≠ .off ∨ c ≠ wholeBlock)) ∧ stepReports q.step = true ∧ q.repeating = false) ∧
  (∃ (c : Nat) (q : PSeq) (s : State), seqOf c s = some q ∧ q.wake = true ∧ q.fallback = false ∧
    ((q.state ≠ .off ∨ c ≠ wholeBlock)) ∧ stepReports q.step = true ∧ q.repeating = true) :=
  ⟨⟨(2 : Nat), (up |> (fun s => setIsl (2 : Nat) { isl (2 : Nat) s with st := .run } s) |>
     (fun s => setIsl (2 : Nat) { isl (2 : Nat) s with entering := false } s) |>
     (fun s => setIsl (2 : Nat) { isl (2 : Nat) s with waking := false } s) |>
     fs (loc .PW_CFG) F.PW_CFG_PWR_HELD 0 : State), by decide +kernel⟩,
   ⟨(2 : Nat), (fs (loc .PW_CFG) F.PW_CFG_PWR_HELD 1 up : State), by decide +kernel⟩,
   ⟨(0 : Nat), (up |> (fun s => setIsl (0 : Nat) { isl (0 : Nat) s with st := .idle } s) : State), by decide +kernel⟩,
   ⟨(up |> (fun s => setIsl 4 { isl 4 s with st := .idle } s) : State), by decide +kernel⟩,
   ⟨(up |> fs (loc .PW_CFG) F.PW_CFG_TIMER_WAKE 1 |> wr (loc .PW_WAKE_TIMER) 1 |>
     fs (loc .PW_STATE) F.PW_STATE_BLOCK_STATE 2 : State), by decide +kernel⟩,
   ⟨(up |> fs (loc .PW_CFG) F.PW_CFG_WAKE_IN_EN 1 |> fs (loc .PW_STATE) F.PW_STATE_BLOCK_STATE 2 : State),
     by decide +kernel⟩,
   ⟨({ up with pins := { up.pins with coldStep := 0 } } |> fs (loc .PW_STATE) F.PW_STATE_BLOCK_STATE 4 : State),
     by decide +kernel⟩,
   ⟨(2 : Nat), wSeq, ({ up with pw := { up.pw with seqs := [wSeq] } } : State), by decide +kernel⟩,
   ⟨(0xFF : Nat), ({ wSeq with code := 0xFF, step := 4 } : PSeq),
     ({ up with pw := { up.pw with seqs := [({ wSeq with code := 0xFF, step := 4 } : PSeq)] }, wq := { up.wq with outs := [1] } } : State),
     by decide +kernel⟩,
   ⟨(2 : Nat), ({ wSeq with fallback := true, step := 6 } : PSeq),
     ({ up with pw := { up.pw with seqs := [({ wSeq with fallback := true, step := 6 } : PSeq)] } } : State),
     by decide +kernel⟩,
   ⟨(2 : Nat), ({ wSeq with fallback := true } : PSeq),
     ({ up with pw := { up.pw with seqs := [({ wSeq with fallback := true } : PSeq)] } } : State), by decide +kernel⟩,
   ⟨(0x40 : Nat), ({ wSeq with code := 0x40, members := [0x40], step := 2 } : PSeq),
     ({ up with pw := { up.pw with seqs := [({ wSeq with code := 0x40, members := [0x40], step := 2 } : PSeq)] } } : State),
     by decide +kernel⟩,
   ⟨({ wSeq with code := 0xFF, step := 2 } : PSeq),
     ({ up with pw := { up.pw with seqs := [({ wSeq with code := 0xFF, step := 2 } : PSeq)] } } : State),
     by decide +kernel⟩,
   ⟨(1 : Nat), (0 : Nat), ({ wSeq with code := 0xFF, step := 2, cmd := some (1, 0) } : PSeq),
     ((finishCmd 1 0 St.ok 0 0 (startPhase { wSeq with code := 0xFF, step := 2, cmd := some (1, 0) } 3 { up with pw := { up.pw with seqs := [{ wSeq with code := 0xFF, step := 2, cmd := some (1, 0) }] } })) : State),
     ({ up with pw := { up.pw with seqs := [({ wSeq with code := 0xFF, step := 2, cmd := some (1, 0) } : PSeq)] } } : State),
     by decide +kernel⟩,
   ⟨(0x40 : Nat), ({ wSeq with code := 0x40, members := [0x40], step := 2 } : PSeq),
     ({ up with pw := { up.pw with seqs := [({ wSeq with code := 0x40, members := [0x40], step := 2 } : PSeq)] } } : State),
     by decide +kernel⟩,
   ⟨({ wSeq with code := 0xFF, step := 2 } : PSeq),
     ({ up with pw := { up.pw with seqs := [({ wSeq with code := 0xFF, step := 2 } : PSeq)] } } : State),
     by decide +kernel⟩,
   ⟨(2 : Nat), (2 : Nat), ({ wSeq with wake := true } : PSeq),
     ({ up with pw := { up.pw with seqs := [({ wSeq with wake := true } : PSeq)] } } : State), by decide +kernel⟩,
   ⟨(2 : Nat), ({ wSeq with wake := true, step := 3 } : PSeq),
     ({ up with pw := { up.pw with seqs := [({ wSeq with wake := true, step := 3 } : PSeq)] }, pins := { up.pins with refclk := false } } : State),
     by decide +kernel⟩,
   ⟨(2 : Nat), ({ wSeq with wake := true, step := 6 } : PSeq),
     ({ up with pw := { up.pw with seqs := [({ wSeq with wake := true, step := 6 } : PSeq)] } } : State),
     by decide +kernel⟩,
   ⟨(2 : Nat), ({ wSeq with wake := true } : PSeq),
     ({ up with pw := { up.pw with seqs := [({ wSeq with wake := true } : PSeq)] } } : State), by decide +kernel⟩,
   ⟨(2 : Nat), ({ wSeq with wake := true, repeating := true } : PSeq),
     ({ up with pw := { up.pw with seqs := [({ wSeq with wake := true, repeating := true } : PSeq)] } } : State),
     by decide +kernel⟩⟩

/-- Every hypothesis of `Obligations.SparesMapsAndMonitors` is met by some state and operands, clause by clause. -/
theorem test_witness_SparesMapsAndMonitors :
  (∃ (m : Master) (w : Nat) (d : W32) (s : State), w < 4 ∧ (∀ o sp, s.sv.hmp = some (o, sp) → ∀ j,
    j < 16 → chanMap (16 * w + j) s = sp → bits d.toNat (2 * j + 1) (2 * j) ≠ o) ∧
    WriteOpen m (loc .HP_CHMAP 0 w) d.toNat s) ∧
  (∃ (m : Master) (w : Nat) (j : Nat) (o : Nat) (sp : Nat) (d : W32) (s : State), w < 4 ∧ s.sv.hmp = some (o, sp) ∧
    j < 16 ∧ chanMap (16 * w + j) s = sp ∧ bits d.toNat (2 * j + 1) (2 * j) = o ∧
    WriteOpen m (loc .HP_CHMAP 0 w) d.toNat s) ∧
  (∃ (n : Nat) (s : State), n < 64 ∧ s.sv.hmp = none ∧ teOut n s = []) ∧
  (∃ (n : Nat) (s : State), n < 64 ∧ s.sv.hmp = none ∧ teOut n s ≠ []) ∧
  (∃ (n : Nat) (o : Nat) (sp : Nat) (s : State), n < 64 ∧ s.sv.hmp = some (o, sp) ∧ s.sv.hmpChan = some n ∧
    hmpQuiet n s = true ∧ chanMap n s = o) ∧
  (∃ (n : Nat) (s : State), s.sv.hmpChan = some n) ∧
  (∃ (m : Master) (d : W32) (s : State), fb (loc .BT_STATUS) F.BT_STATUS_RELEASED s = false ∧
    lmapBad (fs (loc .SV_RETIRED) F.SV_RETIRED_RETIRED (d.toNat % 2 ^ 18) s) = false ∧
    WriteOpen m (loc .SV_RETIRED) d.toNat s) ∧
  (∃ (m : Master) (w : Nat) (d : W32) (t : State) (s : State), w < 4 ∧
    fb (loc .BT_STATUS) F.BT_STATUS_RELEASED s = false ∧
    t = forEach (List.range (if w = 3 then 3 else 5)) (fun j t => mapLane (5 * w + j) (bits d.toNat (6 * j + 4) (6 * j)) t) s ∧
    lmapBad t = false ∧ WriteOpen m (loc .SV_LMAP 0 w) d.toNat s) ∧
  (∃ (m : Master) (d : W32) (t : State) (s : State), fb (loc .SV_REPAIR_CMD) F.SV_REPAIR_CMD_BUSY s = false ∧
    bit d.toNat 31 = true ∧ bit d.toNat 30 = false ∧
    repairStart (rd (loc .SV_REPAIR_DATA) (fs (loc .SV_REPAIR_CMD) F.SV_REPAIR_CMD_INDEX (d.toNat % 1024) s)) true (fs (loc .SV_REPAIR_CMD) F.SV_REPAIR_CMD_INDEX (d.toNat % 1024) s) = some t ∧
    WriteOpen m (loc .SV_REPAIR_CMD) d.toNat s) ∧
  (∃ (m : Master) (d : W32) (s : State), fb (loc .SV_REPAIR_CMD) F.SV_REPAIR_CMD_BUSY s = false ∧
    bit d.toNat 31 = true ∧ bit d.toNat 30 = false ∧
    repairStart (rd (loc .SV_REPAIR_DATA) (fs (loc .SV_REPAIR_CMD) F.SV_REPAIR_CMD_INDEX (d.toNat % 1024) s)) true (fs (loc .SV_REPAIR_CMD) F.SV_REPAIR_CMD_INDEX (d.toNat % 1024) s) = none ∧
    WriteOpen m (loc .SV_REPAIR_CMD) d.toNat s) ∧
  (∃ (m : Master) (d : W32) (s : State), fb (loc .SV_REPAIR_CMD) F.SV_REPAIR_CMD_BUSY s = false ∧
    bit d.toNat 31 = false ∧ bit d.toNat 30 = true ∧ WriteOpen m (loc .SV_REPAIR_CMD) d.toNat s) ∧
  (∃ (i : Nat) (r : Repair) (rest : List Repair) (s : State),
    takeFirst (fun x : Repair => x.isl == i) s.sv.repairs = (some r, rest) ∧ s.sv.fixed.length < 1024) ∧
  (∃ (n : Nat) (x : Subst) (s : State), substOf n s = some x ∧ x.power = false ∧ x.begun = true ∧
    substWaits x s = false ∧ ((x.step = 0 → s.pins.refclk = true)) ∧
    ((x.slotted = true → x.step = 3 → substSwitched x s = (true, true))) ∧ x.step < 4 ∧
    (substEffect x s).1.parked = false) ∧
  (∃ (n : Nat) (x : Subst) (s : State), substOf n s = some x ∧ x.power = false ∧ x.begun = true ∧ x.step = 4 ∧
    n < 18 ∧ x.spare < 18 ∧ x.spare ≠ n) ∧
  (∃ (cl : Nat) (x : EngSub) (s : State), cl < 24 ∧ s.dp.subst.find? (fun y => y.cluster == cl) = some x ∧ (∃ c,
    c ∈ s.dp.ctxs ∧ ctxCluster c.id = cl ∧ ctxEngine c.id = x.engine) ∧ substBusy cl s = true) ∧
  (∃ (cl : Nat) (x : EngSub) (s : State), cl < 24 ∧ s.dp.subst.find? (fun y => y.cluster == cl) = some x ∧ ((∀ c,
    c ∈ s.dp.ctxs → ctxCluster c.id = cl → ctxEngine c.id ≠ x.engine)) ∧ s.sv.acts = []) ∧
  (∃ (cl : Nat) (e : Nat) (s : State), cl < 24 ∧ e < 17 ∧ inReset s = false ∧ substBusy cl s = false ∧
    spareEng cl s ≠ 0x1F) ∧
  (∃ (cl : Nat) (e : Nat) (s : State), cl < 24 ∧ e < 17 ∧ inReset s = false ∧
    (substBusy cl s = true ∨ spareEng cl s = 0x1F)) ∧
  (∃ (n : Nat) (h : Nat) (w : Nat) (s : State), n < 18 ∧ h < 65536 ∧ w < 65536 ∧
    fb (loc .LN_STATUS n) F.LN_STATUS_CDR_LOCK s = true ∧ isRun (laneIsland n) s = true ∧
    fg (loc .SV_EYE_THR) F.SV_EYE_THR_EYE_H_MIN s ≤ h ∧ fg (loc .SV_EYE_THR) F.SV_EYE_THR_EYE_W_MIN s ≤ w) ∧
  (∃ (c : Nat) (v : Nat) (s : State), coldHeld s = false ∧ (isl 0 s).st = .run ∧ s.sv.acts = [] ∧ s.sv.hmp = none ∧
    islandCodes.contains c = true ∧ isRun c s = true ∧ v < fg (loc .SV_RO_THR) F.SV_RO_THR_WARN s ∧
    v < fg (loc .SV_RO_THR) F.SV_RO_THR_ACT s) ∧
  (∃ (c : Nat) (v : Nat) (s : State), coldHeld s = false ∧ (isl 0 s).st = .run ∧ s.sv.acts = [] ∧ s.sv.hmp = none ∧
    islandCodes.contains c = true ∧ isRun c s = true ∧ fg (loc .SV_RO_THR) F.SV_RO_THR_WARN s ≤ v ∧
    v < fg (loc .SV_RO_THR) F.SV_RO_THR_ACT s) ∧
  (∃ (i : Nat) (s : State), inReset s = false ∧ i < s.tab.learnQ.length ∧ s.sv.learnRet < 128) ∧
  (∃ (q : Nat) (i : Nat) (s : State), inReset s = false ∧ (getCq q s).state = .active ∧
    i < (getCq q s).backlog.length ∧ s.sv.poolRet < 4096) :=
  ⟨⟨.stw, 0, 0, up, by decide +kernel, fun o sp h => (nomatch (show (none : Option (Nat × Nat)) = some (o,
     sp) from h)), by decide +kernel⟩,
   ⟨(.stw : Master), (0 : Nat), (0 : Nat), (0 : Nat), (0 : Nat), (0 : W32), (up |>
     (fun s => { s with sv := { s.sv with hmp := some ((0 : Nat), (0 : Nat)) } }) : State), by decide +kernel⟩,
   ⟨(0 : Nat), (up |> (fun s => { s with sv := { s.sv with hmp := none } }) : State), by decide +kernel⟩,
   ⟨(0 : Nat), (asking wReq up : State), by decide +kernel⟩,
   ⟨(0 : Nat), (0 : Nat), (0 : Nat), (up |>
     (fun s => { s with sv := { s.sv with hmp := some ((0 : Nat), (0 : Nat)) } }) |>
     (fun s => { s with sv := { s.sv with hmpChan := some (0 : Nat) } }) : State), by decide +kernel⟩,
   ⟨(0 : Nat), (up |> (fun s => { s with sv := { s.sv with hmpChan := some (0 : Nat) } }) : State), by decide +kernel⟩,
   ⟨(.stw : Master), (0 : W32), (up |> fs (loc .BT_STATUS) F.BT_STATUS_RELEASED 0 : State), by decide +kernel⟩,
   ⟨(.stw : Master), (0 : Nat), ((1 * 2 ^ 6 + 2 * 2 ^ 12 + 3 * 2 ^ 18 + 4 * 2 ^ 24) : W32),
     ((forEach (List.range 5) (fun j t => mapLane j (bits (1 * 2 ^ 6 + 2 * 2 ^ 12 + 3 * 2 ^ 18 + 4 * 2 ^ 24) (6 * j + 4) (6 * j)) t) (fs (loc .BT_STATUS) F.BT_STATUS_RELEASED 0 up)) : State),
     (fs (loc .BT_STATUS) F.BT_STATUS_RELEASED 0 up : State), by decide +kernel⟩,
   ⟨(.stw : Master), ((2 ^ 31 : Nat) : W32),
     ((repairStart (rd (loc .SV_REPAIR_DATA) (fs (loc .SV_REPAIR_CMD) F.SV_REPAIR_CMD_INDEX 0 up)) true (fs (loc .SV_REPAIR_CMD) F.SV_REPAIR_CMD_INDEX 0 up)).getD up : State),
     up, by decide +kernel⟩,
   ⟨(.stw : Master), ((2 ^ 31 : Nat) : W32), ({ up with sv := { up.sv with used := [(macroKey 2 0, 4)] } } |>
     wr (loc .SV_REPAIR_DATA) (2 * 2 ^ 22) : State), by decide +kernel⟩,
   ⟨(.stw : Master), ((2 ^ 30 : Nat) : W32), up, by decide +kernel⟩,
   ⟨(2 : Nat), (⟨2, 0, false⟩ : Repair), ([] : List Repair),
     ({ up with sv := { up.sv with repairs := [(⟨2, 0, false⟩ : Repair)] } } : State), by decide +kernel⟩,
   ⟨(3 : Nat), wSubst, ({ up with phy := { up.phy with substs := [wSubst] } } : State), by decide +kernel⟩,
   ⟨(3 : Nat), ({ wSubst with step := 4 } : Subst),
     ({ up with phy := { up.phy with substs := [({ wSubst with step := 4 } : Subst)] } } : State), by decide +kernel⟩,
   ⟨(0 : Nat), (⟨0, 0, none⟩ : EngSub),
     (fs (loc .RE_CL_SUBST 0) F.RE_CL_SUBST_BUSY 1 { up with dp := { up.dp with subst := [(⟨0, 0, none⟩ : EngSub)], ctxs := [wCtx] } } : State),
     by decide +kernel⟩,
   ⟨(0 : Nat), (⟨0, 0, none⟩ : EngSub), ({ up with dp := { up.dp with subst := [(⟨0, 0, none⟩ : EngSub)] } } : State),
     by decide +kernel⟩,
   ⟨(0 : Nat), (0 : Nat), up, by decide +kernel⟩,
   ⟨(0 : Nat), (0 : Nat), (fs (loc .RE_CL_SUBST 0) F.RE_CL_SUBST_BUSY 1 up : State), by decide +kernel⟩,
   ⟨(0 : Nat), (65535 : Nat), (65535 : Nat), (up |> fs (loc .LN_STATUS (0 : Nat)) F.LN_STATUS_CDR_LOCK 1 : State),
     by decide +kernel⟩,
   ⟨(0 : Nat), (0 : Nat), (up |> (fun s => setIsl 0 { isl 0 s with st := .run } s) |>
     (fun s => { s with sv := { s.sv with acts := [] } }) |>
     (fun s => { s with sv := { s.sv with hmp := none } }) : State), by decide +kernel⟩,
   ⟨(1 : Nat), (50 : Nat), (up |> fs (loc .SV_RO_THR) F.SV_RO_THR_WARN 40 |>
     fs (loc .SV_RO_THR) F.SV_RO_THR_ACT 60 : State), by decide +kernel⟩,
   ⟨(0 : Nat), ({ up with tab := { up.tab with learnQ := [⟨0, 0, 0⟩] } } : State), by decide +kernel⟩,
   ⟨(0 : Nat), (0 : Nat), (setCq 0 { Cq.none with state := .active, logSize := 8, backlog := [(0, [])] } up : State),
     by decide +kernel⟩⟩

/-- Every hypothesis of `Obligations.LinkStateMachine` is met by some state and operands, clause by clause. -/
theorem test_witness_LinkStateMachine :
  (∃ (p : Nat) (s : State), p < 64 ∧ isPlain p s = true ∧ pcsState p s = 0 ∧ portHold p s = false ∧
    substHolds p s = false ∧ s.pins.refclk = true ∧ islUp (portIsland p) s = true ∧
    (portPhys p s).all (fun n => islUp (laneIsland n) s) = true) ∧
  (∃ (p : Nat) (s : State), p < 64 ∧ fg (loc .MP_PCS_CTRL p) F.MP_PCS_CTRL_LINK_MODE s < 3) ∧
  (∃ (p : Nat) (s : State), p < 64 ∧ isPlain p s = true ∧ pcsState p s = 1 ∧ s.pins.refclk = true) ∧
  (∃ (p : Nat) (s : State), p < 64 ∧ isPlain p s = true ∧ pcsState p s = 1) ∧
  (∃ (p : Nat) (es : List Nat) (bs : List Bool) (s : State), p < 64 ∧ isPlain p s = true ∧ pcsState p s = 2 ∧
    s.pins.refclk = true ∧ es.length = (portPhys p s).length ∧ bs.length = (portPhys p s).length) ∧
  (∃ (p : Nat) (mask : Nat) (s : State), p < 64 ∧ isPlain p s = true ∧ pcsState p s = 2 ∧ (∃ i,
    i < (portPhys p s).length ∧ bit mask i = true)) ∧
  (∃ (p : Nat) (skew : Nat) (t : State) (s : State), p < 64 ∧ isPlain p s = true ∧ pcsState p s = 3 ∧
    s.pins.refclk = true ∧
    t = forEach (portPhys p s) (fun n u => setLn F.LN_STATUS_CDR_LOCK 1 n (setLn F.LN_STATUS_SIG_DET 1 n (setLn F.LN_STATUS_AM_LOCK 1 n (setLn F.LN_STATUS_BLOCK_LOCK 1 n u)))) (fs (loc .MP_PCS_STATE p) F.MP_PCS_STATE_SKEW (min 255 (skew / 1000)) s)) ∧
  (∃ (p : Nat) (s : State), p < 64 ∧ isPlain p s = true ∧ pcsState p s = 3) ∧
  (∃ (p : Nat) (i : Nat) (what : Nat) (s : State), p < 64 ∧ isPlain p s = true ∧ pcsState p s = 4 ∧
    i < (portPhys p s).length ∧ what % 32 ≠ 0) ∧
  (∃ (p : Nat), p < 64) ∧
  (∃ (p : Nat) (s : State), p < 64 ∧ isPlain p s = true ∧ pcsState p s = 5 ∧ s.pins.refclk = true) ∧
  (∃ (p : Nat) (s : State), p < 64 ∧ isPlain p s = true ∧ pcsState p s ≠ 0) :=
  ⟨⟨(0 : Nat), (plain |> fs (loc .MP_PCS_STATE (0 : Nat)) F.MP_PCS_STATE_STATE 0 |>
     (fun s => { s with pins := { s.pins with refclk := true } }) : State), by decide +kernel⟩,
   ⟨(0 : Nat), plain, by decide +kernel⟩,
   ⟨(0 : Nat), (plain |> fs (loc .MP_PCS_STATE (0 : Nat)) F.MP_PCS_STATE_STATE 1 |>
     (fun s => { s with pins := { s.pins with refclk := true } }) : State), by decide +kernel⟩,
   ⟨(0 : Nat), (plain |> fs (loc .MP_PCS_STATE (0 : Nat)) F.MP_PCS_STATE_STATE 1 : State), by decide +kernel⟩,
   ⟨(0 : Nat), ([0] : List Nat), ([true] : List Bool), (plain |>
     fs (loc .MP_PCS_STATE (0 : Nat)) F.MP_PCS_STATE_STATE 2 |>
     (fun s => { s with pins := { s.pins with refclk := true } }) : State), by decide +kernel⟩,
   ⟨(0 : Nat), (1 : Nat), (plain |> fs (loc .MP_PCS_STATE (0 : Nat)) F.MP_PCS_STATE_STATE 2 : State),
     by decide +kernel⟩,
   ⟨(0 : Nat), (0 : Nat), ((forEach (portPhys 0 (plain |>
     fs (loc .MP_PCS_STATE 0) F.MP_PCS_STATE_STATE 3)) (fun n u => setLn F.LN_STATUS_CDR_LOCK 1 n (setLn F.LN_STATUS_SIG_DET 1 n (setLn F.LN_STATUS_AM_LOCK 1 n (setLn F.LN_STATUS_BLOCK_LOCK 1 n u)))) (fs (loc .MP_PCS_STATE 0) F.MP_PCS_STATE_SKEW 0 (plain |>
     fs (loc .MP_PCS_STATE 0) F.MP_PCS_STATE_STATE 3))) : State), ((plain |>
     fs (loc .MP_PCS_STATE 0) F.MP_PCS_STATE_STATE 3) : State), by decide +kernel⟩,
   ⟨(0 : Nat), (plain |> fs (loc .MP_PCS_STATE (0 : Nat)) F.MP_PCS_STATE_STATE 3 : State), by decide +kernel⟩,
   ⟨(0 : Nat), (0 : Nat), (1 : Nat), (plain |> fs (loc .MP_PCS_STATE (0 : Nat)) F.MP_PCS_STATE_STATE 4 : State),
     by decide +kernel⟩,
   ⟨(0 : Nat), by decide +kernel⟩,
   ⟨(0 : Nat), (plain |> fs (loc .MP_PCS_STATE (0 : Nat)) F.MP_PCS_STATE_STATE 5 |>
     (fun s => { s with pins := { s.pins with refclk := true } }) : State), by decide +kernel⟩,
   ⟨(0 : Nat), linked, by decide +kernel⟩⟩

/-- Every hypothesis of `Obligations.LaneAndLinkEvents` is met by some state and operands, clause by clause. -/
theorem test_witness_LaneAndLinkEvents :
  (∃ (p : Nat) (s : State), p < 64 ∧ isPlain p s = true ∧ pcsState p s = 4) ∧
  (∃ (p : Nat) (s : State), p < 64 ∧ isPlain p s = true ∧ pcsState p s = 4) ∧
  (∃ (p : Nat) (s : State), p < 64 ∧ isPlain p s = false ∧ isClient p s = true) ∧
  (∃ (p : Nat) (corr : Nat) (uncorr : Nat) (xs : List (Nat × Nat)) (t : State) (s : State), p < 64 ∧
    isPlain p s = true ∧ fb (loc .MP_PCS_STATE p) F.MP_PCS_STATE_FEC_ON s = true ∧ xs.length = (portPhys p s).length ∧
    t = forEach (List.range (portPhys p s).length) (fun i u => bumpBy (cLane ((portPhys p s).getD i 0) 1) (xs.getD i (0,
    0)).2 (bumpBy (cLane ((portPhys p s).getD i 0) 0) (xs.getD i (0,
    0)).1 u)) (bumpBy (cPort p 40) uncorr (bumpBy (cPort p 39) corr s))) ∧
  (∃ (n : Nat) (s : State), n < 18 ∧ laneRole n s = 3 ∧ laneBypass n s = false ∧
    fb (loc .LN_STATUS n) F.LN_STATUS_AM_LOCK s = true) ∧
  (∃ (n : Nat) (s : State), n < 18 ∧ laneBypass n s = true) ∧
  (∃ (n : Nat) (s : State), n < 18 ∧ laneBypass n s = true ∧ lanePlain n s = false ∧
    fb (loc .LN_STATUS n) F.LN_STATUS_AM_LOCK s = true) ∧
  (∃ (n : Nat) (p : Nat) (s : State), n < 18 ∧ laneBypass n s = true ∧ lanePlain n s = true ∧
    lanePort (laneLogical n s) s = some p ∧ fb (loc .LN_STATUS n) F.LN_STATUS_AM_LOCK s = true ∧ pcsState p s = 4) ∧
  (∃ (n : Nat) (p : Nat) (s : State), n < 18 ∧ laneBypass n s = true ∧ lanePlain n s = true ∧
    lanePort (laneLogical n s) s = some p ∧ pcsState p s = 4) ∧
  (∃ (n : Nat) (s : State), n < 18 ∧ inReset s = false ∧ calAuto n s = true ∧
    fb (loc .LN_CAL n) F.LN_CAL_CAL_PENDING s = false ∧ fb (loc .LN_CAL n) F.LN_CAL_CAL_RUN s = false) ∧
  (∃ (n : Nat) (s : State), n < 18 ∧
    (fb (loc .LN_CAL n) F.LN_CAL_CAL_PENDING s = true ∨ fb (loc .LN_CAL n) F.LN_CAL_CAL_RUN s = true)) ∧
  (∃ (n : Nat) (s : State), n < 18 ∧ inReset s = false ∧ calAuto n s = true ∧
    fb (loc .LN_CAL n) F.LN_CAL_CAL_PENDING s = false ∧ fb (loc .LN_CAL n) F.LN_CAL_CAL_RUN s = false) ∧
  (∃ (m : Master) (n : Nat) (d : W32) (s : State), n < 18 ∧ bit d.toNat 31 = true ∧
    fb (loc .LN_CAL n) F.LN_CAL_CAL_PENDING s = false ∧ fb (loc .LN_CAL n) F.LN_CAL_CAL_RUN s = false ∧
    WriteOpen m (loc .LN_CAL n) d.toNat s) ∧
  (∃ (n : Nat) (temp : Nat) (s : State), n < 18 ∧ temp < 256 ∧ fb (loc .LN_CAL n) F.LN_CAL_CAL_RUN s = true) ∧
  (∃ (m : Master) (n : Nat) (d : W32) (s : State), n < 18 ∧ bit d.toNat 1 = true ∧ laneRole n s ∈ [0, 1] ∧
    WriteOpen m (loc .LN_CTRL n) d.toNat s) :=
  ⟨⟨(0 : Nat), (plain |> fs (loc .MP_PCS_STATE (0 : Nat)) F.MP_PCS_STATE_STATE 4 : State), by decide +kernel⟩,
   ⟨(0 : Nat), (plain |> fs (loc .MP_PCS_STATE (0 : Nat)) F.MP_PCS_STATE_STATE 4 : State), by decide +kernel⟩,
   ⟨(0 : Nat), (slotted |> fs (loc .OS_CLIENT 0 0) F.OS_CLIENT_VALID 1 : State), by decide +kernel⟩,
   ⟨(0 : Nat), (3 : Nat), (1 : Nat), ([(1, 2)] : List (Nat × Nat)), ((forEach (List.range (portPhys 0 (plain |>
     fs (loc .MP_PCS_STATE 0) F.MP_PCS_STATE_FEC_ON 1)).length) (fun i u => bumpBy (cLane ((portPhys 0 (plain |>
     fs (loc .MP_PCS_STATE 0) F.MP_PCS_STATE_FEC_ON 1)).getD i 0) 1) ([(1, 2)].getD i (0,
     0)).2 (bumpBy (cLane ((portPhys 0 (plain |> fs (loc .MP_PCS_STATE 0) F.MP_PCS_STATE_FEC_ON 1)).getD i 0) 0) ([(1,
     2)].getD i (0, 0)).1 u)) (bumpBy (cPort 0 40) 1 (bumpBy (cPort 0 39) 3 (plain |>
     fs (loc .MP_PCS_STATE 0) F.MP_PCS_STATE_FEC_ON 1)))) : State), (plain |>
     fs (loc .MP_PCS_STATE 0) F.MP_PCS_STATE_FEC_ON 1 : State), by decide +kernel⟩,
   ⟨(0 : Nat), (withProf (List.replicate 8 0 ++ [2] ++ List.replicate 55 0 ++ [3]) (slotted |>
     fs (loc .LN_STATUS (0 : Nat)) F.LN_STATUS_AM_LOCK 1) : State), by decide +kernel⟩,
   ⟨(0 : Nat), (withProf wProfBypass plain : State), by decide +kernel⟩,
   ⟨(0 : Nat), (slotted |> fs (loc .LN_STATUS (0 : Nat)) F.LN_STATUS_AM_LOCK 1 |>
     fs (loc .LN_STATUS 0) F.LN_STATUS_AM_LOCK 1 : State), by decide +kernel⟩,
   ⟨(0 : Nat), (0 : Nat), (withProf wProfBypass linked |> fs (loc .LN_STATUS (0 : Nat)) F.LN_STATUS_AM_LOCK 1 |>
     fs (loc .MP_PCS_STATE (0 : Nat)) F.MP_PCS_STATE_STATE 4 : State), by decide +kernel⟩,
   ⟨(0 : Nat), (0 : Nat), (withProf wProfBypass linked : State), by decide +kernel⟩,
   ⟨(0 : Nat), (plain |> fs (loc .LN_CTRL 0) F.LN_CTRL_CAL_AUTO 1 : State), by decide +kernel⟩,
   ⟨(0 : Nat), (plain |> fs (loc .LN_CAL 0) F.LN_CAL_CAL_RUN 1 : State), by decide +kernel⟩,
   ⟨(0 : Nat), (plain |> fs (loc .LN_CTRL 0) F.LN_CTRL_CAL_AUTO 1 : State), by decide +kernel⟩,
   ⟨(.stw : Master), (0 : Nat), (0x80000000 : W32), (plain |> fs (loc .LN_CAL (0 : Nat)) F.LN_CAL_CAL_PENDING 0 |>
     fs (loc .LN_CAL (0 : Nat)) F.LN_CAL_CAL_RUN 0 : State), by decide +kernel⟩,
   ⟨(0 : Nat), (0 : Nat), (plain |> fs (loc .LN_CAL (0 : Nat)) F.LN_CAL_CAL_RUN 1 : State), by decide +kernel⟩,
   ⟨(.stw : Master), (0 : Nat), (2 : W32), up, by decide +kernel⟩⟩

/-- Every hypothesis of `Obligations.SlotGroups` is met by some state and operands, clause by clause. -/
theorem test_witness_SlotGroups :
  (∃ (n : Nat) (g : Nat) (k : Nat) (s : State), n < 18 ∧ laneMember n s = some (g, k)) ∧
  (∃ (n : Nat) (s : State), n < 18 ∧ laneMember n s = none ∧ laneRole n s = 1) ∧
  (∃ (g : Nat) (k : Nat) (hdr : Nat) (pos : Nat) (skew : Nat) (b : List Byte) (s : State),
    inFrame g k (setSkew g k skew s) = true ∧ pos % 40961 = (getMem g k s).pos ∧ overSeed hdr b = true ∧
    (overOf b).fnum = ((getMem g k s).fnum + 1) % 32) ∧
  (∃ (g : Nat) (k : Nat) (hdr : Nat) (pos : Nat) (skew : Nat) (b : List Byte) (s : State),
    inFrame g k (setSkew g k skew s) = true ∧ pos % 40961 = (getMem g k s).pos ∧
    ((overSeed hdr b = false ∨ (overOf b).fnum ≠ ((getMem g k s).fnum + 1) % 32))) ∧
  (∃ (g : Nat) (k : Nat) (pos : Nat) (skew : Nat) (s : State), inFrame g k (setSkew g k skew s) = true ∧
    pos % 40961 ≠ (getMem g k s).pos) ∧
  (∃ (n : Nat) (g : Nat) (k : Nat) (what : Nat) (s : State), n < 18 ∧ laneMember n s = some (g, k) ∧
    fb (loc .OS_MEMBER g k) F.OS_MEMBER_LOS s = false ∧ what &&& 0xB ≠ 0) ∧
  (∃ (n : Nat) (g : Nat) (k : Nat) (s : State), n < 18 ∧ laneMember n s = some (g, k) ∧
    fb (loc .OS_MEMBER g k) F.OS_MEMBER_LOS s = true) ∧
  (∃ (g : Nat) (s : State), g < 16 ∧ fb (loc .OS_CFG g) F.OS_CFG_FOLLOW s = false ∧ swState g s = 0) ∧
  (∃ (g : Nat) (k : Nat) (s : State), (getMem g k s).mapDone = true ∧ (getMem g k s).mapReq = false ∧
    (getMem g k s).map = ownMap g k (getMem g k s).mapPage s ∧ 1 ≤ (getMem g k s).mapGood) ∧
  (∃ (g : Nat) (k : Nat) (s : State), (getMem g k s).mapDone = true ∧ (getMem g k s).mapReq = false ∧
    (getMem g k s).map ≠ ownMap g k (getMem g k s).mapPage s ∧ 1 ≤ (getMem g k s).mapBad) ∧
  (∃ (g : Nat) (s : State), g < 16 ∧ (getGrp g s).clear = false ∧ swState g s = 1) ∧
  (∃ (g : Nat) (s : State), g < 16 ∧ (getGrp g s).clear = false ∧ swState g s = 3 ∧ peerAck g s = true ∧
    rxPage g s ≠ swTarget g s ∧ swTarget g s < 2) ∧
  (∃ (g : Nat) (s : State), g < 16 ∧ swState g s ∈ [2, 3, 4]) ∧
  (∃ (m : Master) (g : Nat) (d : W32) (s : State), g < 16 ∧ (cmPtr g s).1 ≠ txPage g s ∧ (cmPtr g s).1 ≠ rxPage g s ∧
    swState g s = 0 ∧ (grpSlots g s).contains (cmPtr g s).2 = true ∧ WriteOpen m (loc .OS_CM_DATA g) d.toNat s) ∧
  (∃ (m : Master) (g : Nat) (d : W32) (s : State), g < 16 ∧ bit d.toNat 31 = true ∧ txPage g s = rxPage g s ∧
    swState g s = 0 ∧ WriteOpen m (loc .OS_SW_CTRL g) d.toNat s) ∧
  (∃ (m : Master) (g : Nat) (c : Nat) (d : W32) (s : State), g < 16 ∧ c < 63 ∧
    fb (loc .OS_CLIENT g c) F.OS_CLIENT_VALID s = false ∧ bit d.toNat 31 = true ∧ clientSlots g c (txPage g s) s = 0 ∧
    clientSlots g c (rxPage g s) s = 0 ∧ swState g s = 0 ∧ isClient (bits d.toNat 29 24) s = true ∧
    portGroup s.prof.cur (bits d.toNat 29 24) = g ∧ WriteOpen m (loc .OS_CLIENT g c) d.toNat s) :=
  ⟨⟨(0 : Nat), (0 : Nat), (0 : Nat), slotted, by decide +kernel⟩,
   ⟨(0 : Nat), (setRole 0 1 up : State), by decide +kernel⟩,
   ⟨(0 : Nat), (0 : Nat), (2 : Nat), (0 : Nat), (0 : Nat), wOver.bytes, (slotted |>
     fs (loc .OS_MEMBER 0 0) F.OS_MEMBER_ALIGN 2 : State), by decide +kernel⟩,
   ⟨(0 : Nat), (0 : Nat), (0 : Nat), (0 : Nat), (0 : Nat), ([] : List Byte), (slotted |>
     fs (loc .OS_MEMBER 0 0) F.OS_MEMBER_ALIGN 2 : State), by decide +kernel⟩,
   ⟨(0 : Nat), (0 : Nat), (5 : Nat), (0 : Nat), (slotted |> fs (loc .OS_MEMBER 0 0) F.OS_MEMBER_ALIGN 2 : State),
     by decide +kernel⟩,
   ⟨(0 : Nat), (0 : Nat), (0 : Nat), (1 : Nat), (slotted |>
     fs (loc .OS_MEMBER (0 : Nat) (0 : Nat)) F.OS_MEMBER_LOS 0 : State), by decide +kernel⟩,
   ⟨(0 : Nat), (0 : Nat), (0 : Nat), (slotted |> fs (loc .OS_MEMBER 0 0) F.OS_MEMBER_LOS 1 : State),
     by decide +kernel⟩,
   ⟨(0 : Nat), (slotted |> fs (loc .OS_CFG (0 : Nat)) F.OS_CFG_FOLLOW 0 : State), by decide +kernel⟩,
   ⟨(0 : Nat), (0 : Nat), (slotted |> fs (loc .OS_MEMBER 0 0) F.OS_MEMBER_USABLE 1 |>
     setMem 0 0 { Member.reset with mapDone := true, mapReq := false, mapPage := 0, map := ownMap 0 0 0 slotted, mapGood := 1 } : State),
     by decide +kernel⟩,
   ⟨(0 : Nat), (0 : Nat), (slotted |>
     setMem 0 0 { Member.reset with mapDone := true, mapReq := false, mapPage := 0, map := [], mapBad := 1 } : State),
     by decide +kernel⟩,
   ⟨(0 : Nat), (slotted |> fs (loc .OS_SW_STATE 0) F.OS_SW_STATE_STATE 1 : State), by decide +kernel⟩,
   ⟨(0 : Nat), (slotted |> fs (loc .OS_SW_STATE 0) F.OS_SW_STATE_STATE 3 |>
     fs (loc .OS_SW_STATE 0) F.OS_SW_STATE_PEER_ACK 1 |> fs (loc .OS_SW_STATE 0) F.OS_SW_STATE_TARGET 1 : State),
     by decide +kernel⟩,
   ⟨(0 : Nat), (slotted |> fs (loc .OS_SW_STATE 0) F.OS_SW_STATE_STATE 2 : State), by decide +kernel⟩,
   ⟨(.stw : Master), (0 : Nat), (0 : W32), (slotted |> fs (loc .OS_CM_PTR 0) F.OS_CM_PTR_PAGE 1 : State),
     by decide +kernel⟩,
   ⟨(.stw : Master), (0 : Nat), (0x80000000 : W32), slotted, by decide +kernel⟩,
   ⟨(.stw : Master), (0 : Nat), (0 : Nat), (0x80000000 : W32), (slotted |>
     fs (loc .OS_CLIENT (0 : Nat) (0 : Nat)) F.OS_CLIENT_VALID 0 : State), by decide +kernel⟩⟩

/-- Every hypothesis of `Obligations.ReceivedFramesAndPauses` is met by some state and operands, clause by clause. -/
theorem test_witness_ReceivedFramesAndPauses :
  (∃ (p : Nat) (b : List Byte) (s : State), p < 64 ∧ rxPasses p s = true ∧ receives p s = true ∧ b ≠ [] ∧
    b.length ≤ 256 ∧ (getRx p s).cur = none) ∧
  (∃ (p : Nat) (f : Nat) (b : List Byte) (s : State), p < 64 ∧ rxPasses p s = true ∧ receives p s = true ∧ b ≠ [] ∧
    b.length ≤ 256 ∧ (getRx p s).cur = some f) ∧
  (∃ (p : Nat) (f : Nat) (g : Frame) (t : State) (s : State), p < 64 ∧ rxPasses p s = true ∧
    (getRx p s).cur = some f ∧ t = setRx p { getRx p s with cur := none } s ∧ getF f t = some g ∧ g.port = p) ∧
  (∃ (p : Nat) (f : Nat) (g : Frame) (t : State) (s : State), p < 64 ∧ rxPasses p s = true ∧
    (getRx p s).cur = some f ∧ getF f (setRx p { getRx p s with cur := none } s) = some g ∧ g.port = p ∧ 64 ≤ g.len ∧
    g.discard = 0 ∧ t = rateAdd p false g.len (setRx p { getRx p s with cur := none } s)) ∧
  (∃ (p : Nat) (b : List Byte) (s : State), be16 b 14 = 1 ∧ fcMode p s = 1 ∧
    Bytes.toNat (b.take 6).reverse = 0x0180C2000001) ∧
  (∃ (p : Nat) (b : List Byte) (s : State), be16 b 14 = 0x0101 ∧ fcMode p s = 2 ∧
    Bytes.toNat (b.take 6).reverse = 0x0180C2000001) ∧
  (∃ (p : Nat) (op : Nat) (b : List Byte) (s : State), be16 b 14 = op ∧ (op, fcMode p s) ∈ [(1, 0), (1, 2), (0x0101,
    0), (0x0101, 1)]) ∧
  (∃ (b : List Byte), be16 b 14 ≠ 1 ∧ be16 b 14 ≠ 0x0101) ∧
  (∃ (p : Nat), p < 64) ∧
  (∃ (p : Nat) (i : Nat), p < 64 ∧ i < 8) :=
  ⟨⟨(0 : Nat), ([0] : List Byte), linked, by decide +kernel⟩,
   ⟨(0 : Nat), (0 : Nat), ([0] : List Byte), (receiving wFrame linked : State), by decide +kernel⟩,
   ⟨(0 : Nat), (0 : Nat), ({ wFrame with len := 10 } : Frame),
     ((setRx 0 { getRx 0 (receiving { wFrame with len := 10 } linked) with cur := none } (receiving { wFrame with len := 10 } linked)) : State),
     ((receiving { wFrame with len := 10 } linked) : State), by decide +kernel⟩,
   ⟨(0 : Nat), (0 : Nat), wGood,
     ((rateAdd 0 false 64 (setRx 0 { getRx 0 (receiving wGood linked) with cur := none } (receiving wGood linked))) : State),
     ((receiving wGood linked) : State), by decide +kernel⟩,
   ⟨(0 : Nat), ([1, 0x80, 0xC2, 0, 0, 1, 0, 0, 0, 0, 0, 0, 0x88, 8, 0, 1, 0, 9] : List Byte), (linked |>
     fs (loc .MP_RX_CFG 0) F.MP_RX_CFG_FC_MODE 1 : State), by decide +kernel⟩,
   ⟨(0 : Nat), ([1, 0x80, 0xC2, 0, 0, 1, 0, 0, 0, 0, 0, 0, 0x88, 8, 1, 1, 0, 1, 0, 9] : List Byte), (linked |>
     fs (loc .MP_RX_CFG 0) F.MP_RX_CFG_FC_MODE 2 |> fs (loc .MP_RX_CFG 0) F.MP_RX_CFG_PFC_RX_EN 255 : State),
     by decide +kernel⟩,
   ⟨(0 : Nat), (1 : Nat), ([1, 0x80, 0xC2, 0, 0, 1, 0, 0, 0, 0, 0, 0, 0x88, 8, 0, 1] : List Byte), linked,
     by decide +kernel⟩,
   ⟨([] : List Byte), by decide +kernel⟩,
   ⟨(0 : Nat), by decide +kernel⟩,
   ⟨(0 : Nat), (0 : Nat), by decide +kernel⟩⟩

/-- Every hypothesis of `Obligations.MergeFlowControlAndVerification` is met by some state and operands, clause by clause. -/
theorem test_witness_MergeFlowControlAndVerification :
  (∃ (p : Nat) (s : State), p < 64 ∧ rxPasses p s = true ∧ receives p s = true ∧
    fb (loc .MP_RX_CFG p) F.MP_RX_CFG_MM_RX_EN s = false) ∧
  (∃ (p : Nat) (s : State), p < 64 ∧ rxPasses p s = true ∧ receives p s = true ∧
    fb (loc .MP_RX_CFG p) F.MP_RX_CFG_MM_RX_EN s = true) ∧
  (∃ (p : Nat) (smd : Nat) (s : State), p < 64 ∧ smd < 4 ∧ rxPasses p s = true ∧ receives p s = true ∧
    fb (loc .MP_RX_CFG p) F.MP_RX_CFG_MM_RX_EN s = true) ∧
  (∃ (p : Nat) (smd : Nat) (s : State), p < 64 ∧ 4 ≤ smd ∧ smd < 8 ∧ rxPasses p s = true ∧ receives p s = true ∧
    fb (loc .MP_RX_CFG p) F.MP_RX_CFG_MM_RX_EN s = true ∧ (getRx p s).asm = none) ∧
  (∃ (p : Nat) (f : Nat) (n : Nat) (c : Nat) (smd : Nat) (s : State), p < 64 ∧ 4 ≤ smd ∧ smd < 8 ∧
    rxPasses p s = true ∧ receives p s = true ∧ fb (loc .MP_RX_CFG p) F.MP_RX_CFG_MM_RX_EN s = true ∧
    (getRx p s).asm = some (f, n, c)) ∧
  (∃ (f : Nat) (b : List Byte) (t : State) (s : State), t = feed f (b.length + 1) b s ∧ (∃ g, getF f t = some g ∧
    g.code = false)) ∧
  (∃ (p : Nat) (s : State), p < 64 ∧ (getTx p s).fcDue = true ∧ (getTx p s).cur = none ∧ fcMay p s = true ∧
    fcMode p s = 2) ∧
  (∃ (p : Nat) (s : State), p < 64 ∧ (getTx p s).fcDue = true ∧ (getTx p s).cur = none ∧ fcMay p s = true ∧
    fcMode p s = 1) ∧
  (∃ (p : Nat) (s : State), p < 64 ∧ fcMay p s = true ∧ fg (loc .MP_TX_FC p) F.MP_TX_FC_REFRESH s ≠ 0 ∧
    ((fcMode p s = 2 ∧ xoffOrForced p s ≠ 0) ∨ (fcMode p s = 1 ∧ pauseWanted p s = true))) ∧
  (∃ (p : Nat) (s : State), p < 64 ∧ fb (loc .MP_MM_CTRL p) F.MP_MM_CTRL_MM_TX_EN s = true ∧ linkUp p s = true ∧
    mmState p s = 0 ∧ fb (loc .MP_MM_CTRL p) F.MP_MM_CTRL_VERIFY_DIS s = true) ∧
  (∃ (p : Nat) (s : State), p < 64 ∧ fb (loc .MP_MM_CTRL p) F.MP_MM_CTRL_MM_TX_EN s = true ∧ linkUp p s = true ∧
    mmState p s = 0 ∧ fb (loc .MP_MM_CTRL p) F.MP_MM_CTRL_VERIFY_DIS s = false ∧ (getTx p s).cur = none ∧
    duRole s ≠ 2) ∧
  (∃ (p : Nat) (s : State), p < 64 ∧ mmState p s = 1) ∧
  (∃ (p : Nat) (s : State), p < 64 ∧ mmState p s = 1 ∧
    max 1 (fg (loc .MP_MM_CTRL p) F.MP_MM_CTRL_VERIFY_LIMIT s) ≤ fg (loc .MP_MM_STATUS p) F.MP_MM_STATUS_ATTEMPTS s) ∧
  (∃ (p : Nat) (s : State), p < 64 ∧ mmState p s = 1 ∧
    fg (loc .MP_MM_STATUS p) F.MP_MM_STATUS_ATTEMPTS s < max 1 (fg (loc .MP_MM_CTRL p) F.MP_MM_CTRL_VERIFY_LIMIT s)) :=
  ⟨⟨(0 : Nat), (linked |> fs (loc .MP_RX_CFG (0 : Nat)) F.MP_RX_CFG_MM_RX_EN 0 : State), by decide +kernel⟩,
   ⟨(0 : Nat), (linked |> fs (loc .MP_RX_CFG (0 : Nat)) F.MP_RX_CFG_MM_RX_EN 1 : State), by decide +kernel⟩,
   ⟨(0 : Nat), (0 : Nat), (linked |> fs (loc .MP_RX_CFG (0 : Nat)) F.MP_RX_CFG_MM_RX_EN 1 : State), by decide +kernel⟩,
   ⟨(0 : Nat), (4 : Nat), (linked |> fs (loc .MP_RX_CFG (0 : Nat)) F.MP_RX_CFG_MM_RX_EN 1 : State), by decide +kernel⟩,
   ⟨(0 : Nat), (0 : Nat), (1 : Nat), (0 : Nat), (4 : Nat), (linked |> fs (loc .MP_RX_CFG 0) F.MP_RX_CFG_MM_RX_EN 1 |>
     setRx 0 { getRx 0 up with asm := some (0, 1, 0) } : State), by decide +kernel⟩,
   ⟨(0 : Nat), ([0] : List Byte), ((feed 0 2 [0] (receiving wFrame linked)) : State),
     (receiving wFrame linked : State), by decide +kernel⟩,
   ⟨(0 : Nat), (linked |> fs (loc .MP_RX_CFG 0) F.MP_RX_CFG_FC_MODE 2 |>
     setTx 0 { getTx 0 up with fcDue := true } : State), by decide +kernel⟩,
   ⟨(0 : Nat), (linked |> fs (loc .MP_RX_CFG 0) F.MP_RX_CFG_FC_MODE 1 |> fs (loc .MP_TX_CFG 0) F.MP_TX_CFG_TX_EN 1 |>
     setTx 0 { getTx 0 up with fcDue := true } : State), by decide +kernel⟩,
   ⟨(0 : Nat), (linked |> fs (loc .MP_RX_CFG 0) F.MP_RX_CFG_FC_MODE 1 |>
     fs (loc .MP_TX_FC_FORCE 0) F.MP_TX_FC_FORCE_FORCE_PAUSE 1 |> fs (loc .MP_TX_FC 0) F.MP_TX_FC_REFRESH 1 |>
     setTx 0 { getTx 0 up with cur := some wCur } : State), by decide +kernel⟩,
   ⟨(0 : Nat), (linked |> fs (loc .MP_MM_CTRL (0 : Nat)) F.MP_MM_CTRL_MM_TX_EN 1 |>
     fs (loc .MP_MM_CTRL (0 : Nat)) F.MP_MM_CTRL_VERIFY_DIS 1 : State), by decide +kernel⟩,
   ⟨(0 : Nat), (linked |> fs (loc .MP_MM_CTRL (0 : Nat)) F.MP_MM_CTRL_MM_TX_EN 1 |>
     fs (loc .MP_MM_CTRL (0 : Nat)) F.MP_MM_CTRL_VERIFY_DIS 0 : State), by decide +kernel⟩,
   ⟨(0 : Nat), (linked |> fs (loc .MP_MM_STATUS 0) F.MP_MM_STATUS_VERIFY_STATE 1 |>
     fs (loc .MP_MM_CTRL 0) F.MP_MM_CTRL_VERIFY_LIMIT 3 : State), by decide +kernel⟩,
   ⟨(0 : Nat), (linked |> fs (loc .MP_MM_STATUS 0) F.MP_MM_STATUS_VERIFY_STATE 1 |>
     fs (loc .MP_MM_CTRL 0) F.MP_MM_CTRL_VERIFY_LIMIT 3 |>
     fs (loc .MP_MM_STATUS 0) F.MP_MM_STATUS_ATTEMPTS 3 : State), by decide +kernel⟩,
   ⟨(0 : Nat), (linked |> fs (loc .MP_MM_STATUS 0) F.MP_MM_STATUS_VERIFY_STATE 1 |>
     fs (loc .MP_MM_CTRL 0) F.MP_MM_CTRL_VERIFY_LIMIT 3 : State), by decide +kernel⟩⟩

/-- Every hypothesis of `Obligations.TransmittedFrames` is met by some state and operands, clause by clause. -/
theorem test_witness_TransmittedFrames :
  (∃ (p : Nat) (x : Sel) (f : Frame) (s : State), p < 64 ∧ (getTx p s).cur = none ∧
    (((getTx p s).opened = none ∨ txLinkUp p s = true)) ∧ duStops s = false ∧ islRun (portIsland p) s = true ∧
    nextSel p s = some x ∧ x.ready = true ∧ getF x.frame s = some f ∧ refusal f s = 0 ∧
    startable (entryOf f s) f s = true ∧
    gateFit p x.cls (lenL (entryOf f s) f) s.tb.time (preemptable p x.cls s) s = true) ∧
  (∃ (p : Nat) (x : Sel) (f : Frame) (s : State), p < 64 ∧ (getTx p s).cur = none ∧
    (((getTx p s).opened = none ∨ txLinkUp p s = true)) ∧ duStops s = false ∧ islRun (portIsland p) s = true ∧
    nextSel p s = some x ∧ x.ready = true ∧ getF x.frame s = some f ∧ refusal f s ≠ 0) ∧
  (∃ (p : Nat) (c : TxCur) (s : State), p < 64 ∧ (getTx p s).cur = none ∧ (getTx p s).opened = some c ∧
    txLinkUp p s = true ∧ islRun (portIsland p) s = true ∧ nextSel p s = none ∧ continuable p c s = true) ∧
  (∃ (p : Nat) (c : TxCur) (f : Frame) (b : List Byte) (s : State), p < 64 ∧ (getTx p s).cur = some c ∧
    getF c.frame s = some f ∧ f.ended = true ∧ b = sentBytes (entryOf f s) f c.ts) ∧
  (∃ (p : Nat) (c : TxCur) (f : Frame) (s : State), p < 64 ∧ (getTx p s).cur = some c ∧ getF c.frame s = some f ∧
    f.ended = false) ∧
  (∃ (p : Nat) (d : Nat) (c : TxCur) (f : Frame) (s : State), p < 64 ∧ (getTx p s).cur = some c ∧
    getF c.frame s = some f ∧ c.pre = true ∧ d ≤ (presentBytes (entryOf f s) f c.ts).length ∧
    preemptAt p d (if f.fwd && !f.ended then (presentBytes (entryOf f s) f c.ts).length + 4 else sentLen (entryOf f s) f) c f s = true) ∧
  (∃ (p : Nat) (d : Nat) (n : Nat) (c : TxCur) (f : Frame) (s : State), preemptAt p d n c f s = true) :=
  ⟨⟨(0 : Nat), wSel, wTx, ((linked |> fs (loc .MP_TX_CFG 0) F.MP_TX_CFG_TX_EN 1 |>
     fs (loc .MP_TX_CFG 0) F.MP_TX_CFG_TX_MAX_LEN 2000) |> sending wTx none : State), by decide +kernel⟩,
   ⟨(0 : Nat), wSel, wTx, (plain |> sending wTx none : State), by decide +kernel⟩,
   ⟨(0 : Nat), wCur, ((linked |> fs (loc .MP_TX_CFG 0) F.MP_TX_CFG_TX_EN 1 |>
     fs (loc .MP_TX_CFG 0) F.MP_TX_CFG_TX_MAX_LEN 2000) |> sending wTx none |>
     fun s => { s with sc := { s.sc with ports := [] } } |> setTx 0 { getTx 0 up with opened := some wCur } : State),
     by decide +kernel⟩,
   ⟨(0 : Nat), wCur, wTx, ((sentBytes (entryOf wTx (linked |> sending wTx (some wCur))) wTx 0) : List Byte),
     (linked |> sending wTx (some wCur) : State), by decide +kernel⟩,
   ⟨(0 : Nat), wCur, ({ wTx with ended := false } : Frame), (linked |>
     sending ({ wTx with ended := false } : Frame) (some wCur) : State), by decide +kernel⟩,
   ⟨(0 : Nat), (64 : Nat), ({ wCur with pre := true } : TxCur),
     ({ wTx with len := 200, data := List.replicate 200 0 } : Frame), ((linked |>
     sending ({ wTx with len := 200, data := List.replicate 200 0 } : Frame) (some ({ wCur with pre := true } : TxCur))) |>
     fun s => { s with dp := { s.dp with tx := [(0, { getTx 0 s with fcDue := true })] } } : State),
     by decide +kernel⟩,
   ⟨(0 : Nat), (64 : Nat), (200 : Nat), ({ wCur with pre := true } : TxCur),
     ({ wTx with len := 200, data := List.replicate 200 0 } : Frame), ((linked |>
     sending ({ wTx with len := 200, data := List.replicate 200 0 } : Frame) (some ({ wCur with pre := true } : TxCur))) |>
     fun s => { s with dp := { s.dp with tx := [(0, { getTx 0 s with fcDue := true })] } } : State),
     by decide +kernel⟩⟩

/-- Every hypothesis of `Obligations.ReedArithmeticAndFields` is met by some state and operands, clause by clause. -/
theorem test_witness_ReedArithmeticAndFields :
  (∃ (i : Nat) (c : Ctx) (s : State), MayIssue .alu i c s ∧ c.waits (bits (fetch c s) 25 22) = false ∧
    c.waits (bits (fetch c s) 21 18) = false ∧ c.waits (bits (fetch c s) 17 14) = false) ∧
  (∃ (i : Nat) (c : Ctx) (s : State), MayIssue .alui i c s ∧ c.waits (bits (fetch c s) 25 22) = false ∧
    c.waits (bits (fetch c s) 21 18) = false) ∧
  (∃ (i : Nat) (c : Ctx) (s : State), MayIssue .movw i c s ∧ c.waits (bits (fetch c s) 25 22) = false) ∧
  (∃ (i : Nat) (c : Ctx) (s : State), MayIssue .ext i c s ∧ c.waits (bits (fetch c s) 25 22) = false ∧
    c.waits (bits (fetch c s) 21 18) = false ∧ bits (fetch c s) 17 12 + bits (fetch c s) 11 6 ≤ 63) ∧
  (∃ (i : Nat) (c : Ctx) (s : State), MayIssue .ins i c s ∧ c.waits (bits (fetch c s) 25 22) = false ∧
    c.waits (bits (fetch c s) 21 18) = false ∧ bits (fetch c s) 17 12 + bits (fetch c s) 11 6 ≤ 63) ∧
  (∃ (c : Ctx) (s : State), 63 < bits (fetch c s) 17 12 + bits (fetch c s) 11 6) :=
  ⟨⟨(0 : Nat), wCtx, (reed (0x04 * 2 ^ 26) wCtx wFrame up : State), by decide +kernel⟩,
   ⟨(0 : Nat), wCtx, (reed (0x05 * 2 ^ 26) wCtx wFrame up : State), by decide +kernel⟩,
   ⟨(0 : Nat), wCtx, (reed (0x06 * 2 ^ 26) wCtx wFrame up : State), by decide +kernel⟩,
   ⟨(0 : Nat), wCtx, (reed (0x07 * 2 ^ 26) wCtx wFrame up : State), by decide +kernel⟩,
   ⟨(0 : Nat), wCtx, (reed (0x08 * 2 ^ 26) wCtx wFrame up : State), by decide +kernel⟩,
   ⟨wCtx, (reed (0x07 * 2 ^ 26 + 63 * 2 ^ 12 + 1 * 2 ^ 6) wCtx wFrame up : State), by decide +kernel⟩⟩

/-- Every hypothesis of `Obligations.ReedBranchesAndEnds` is met by some state and operands, clause by clause. -/
theorem test_witness_ReedBranchesAndEnds :
  (∃ (i : Nat) (c : Ctx) (s : State), MayIssue .nop i c s) ∧
  (∃ (i : Nat) (c : Ctx) (s : State), MayIssue .sync i c s ∧ c.pend = [] ∧ bit (fetch c s) 0 = false) ∧
  (∃ (i : Nat) (c : Ctx) (s : State), MayIssue .sync i c s ∧ c.pend ≠ [] ∧ bit (fetch c s) 1 = true) ∧
  (∃ (i : Nat) (c : Ctx) (s : State), MayIssue .cnt i c s) ∧
  (∃ (i : Nat) (c : Ctx) (s : State), MayIssue .br i c s ∧ c.waits (bits (fetch c s) 25 22) = false ∧
    c.waits (bits (fetch c s) 21 18) = false) ∧
  (∃ (i : Nat) (c : Ctx) (s : State), MayIssue .brh i c s ∧ c.waits (bits (fetch c s) 25 23) = false) ∧
  (∃ (i : Nat) (c : Ctx) (s : State), MayIssue .bb i c s ∧ c.waits (bits (fetch c s) 25 22) = false) ∧
  (∃ (i : Nat) (c : Ctx) (s : State), MayIssue .jmp i c s) ∧
  (∃ (i : Nat) (c : Ctx) (s : State), MayIssue .call i c s ∧ c.ret.length < 4) ∧
  (∃ (i : Nat) (a : Nat) (r : List Nat) (c : Ctx) (s : State), MayIssue .ret i c s ∧ c.ret = a :: r) ∧
  (∃ (i : Nat) (c : Ctx) (s : State), MayIssue .jmpr i c s ∧ c.waits (bits (fetch c s) 21 18) = false) ∧
  (∃ (i : Nat) (k : VKind) (c : Ctx) (f : Frame) (s : State), MayIssue .end_ i c s ∧ c.pend = [] ∧
    getF c.frame s = some f ∧
    verdictOf (bits (fetch c s) 25 23) ((gReg c (bits (fetch c s) 17 14)).toNat % 2 ^ 32) (resolvePend f) = some k ∧
    headBad (resolvePend f) = false) ∧
  (∃ (i : Nat) (c : Ctx) (f : Frame) (s : State), MayIssue .end_ i c s ∧ c.pend = [] ∧ getF c.frame s = some f ∧
    verdictOf (bits (fetch c s) 25 23) ((gReg c (bits (fetch c s) 17 14)).toNat % 2 ^ 32) (resolvePend f) = none) ∧
  (∃ (i : Nat) (k : VKind) (c : Ctx) (f : Frame) (s : State), MayIssue .end_ i c s ∧ c.pend = [] ∧
    getF c.frame s = some f ∧
    verdictOf (bits (fetch c s) 25 23) ((gReg c (bits (fetch c s) 17 14)).toNat % 2 ^ 32) (resolvePend f) = some k ∧
    headBad (resolvePend f) = true) ∧
  (∃ (i : Nat) (c : Ctx) (s : State), MayIssue .end_ i c s ∧ c.pend ≠ []) ∧
  (∃ (f : Frame), f.tx = false) ∧
  (∃ (f : Frame), f.tx = true) ∧
  (∃ (i : Nat) (c : Ctx) (s : State), getCtx i s = some c ∧ opOf (fetch c s) = none ∧ CleanFetch c ∧
    c.issued < issueCap s) ∧
  (∃ (i : Nat) (c : Ctx) (s : State), getCtx i s = some c ∧ (c.issued, true) ∈ c.ecc ∧ c.issued < issueCap s) ∧
  (∃ (i : Nat) (c : Ctx) (s : State), getCtx i s = some c ∧ opOf (fetch c s) = some .nop ∧ issueCap s ≤ c.issued) ∧
  (∃ (i : Nat) (c : Ctx) (s : State), getCtx i s = some c) :=
  ⟨⟨(0 : Nat), wCtx, (reed (0) wCtx wFrame up : State), by decide +kernel⟩,
   ⟨(0 : Nat), wCtx, (reed (0x02 * 2 ^ 26) wCtx wFrame up : State), by decide +kernel⟩,
   ⟨(0 : Nat), ({ wCtx with pend := [.hashf 0 1 []] } : Ctx),
     (reed (0x02 * 2 ^ 26 + 2) { wCtx with pend := [.hashf 0 1 []] } wFrame up : State), by decide +kernel⟩,
   ⟨(0 : Nat), wCtx, (reed (0x03 * 2 ^ 26) wCtx wFrame up : State), by decide +kernel⟩,
   ⟨(0 : Nat), wCtx, (reed (0x18 * 2 ^ 26) wCtx wFrame up : State), by decide +kernel⟩,
   ⟨(0 : Nat), wCtx, (reed (0x19 * 2 ^ 26) wCtx wFrame up : State), by decide +kernel⟩,
   ⟨(0 : Nat), wCtx, (reed (0x1A * 2 ^ 26) wCtx wFrame up : State), by decide +kernel⟩,
   ⟨(0 : Nat), wCtx, (reed (0x1B * 2 ^ 26) wCtx wFrame up : State), by decide +kernel⟩,
   ⟨(0 : Nat), wCtx, (reed (0x1B * 2 ^ 26 + 1 * 2 ^ 24) wCtx wFrame up : State), by decide +kernel⟩,
   ⟨(0 : Nat), (5 : Nat), ([] : List Nat), ({ wCtx with ret := [5] } : Ctx),
     (reed (0x1B * 2 ^ 26 + 2 * 2 ^ 24) { wCtx with ret := [5] } wFrame up : State), by decide +kernel⟩,
   ⟨(0 : Nat), wCtx, (reed (0x1B * 2 ^ 26 + 3 * 2 ^ 24) wCtx wFrame up : State), by decide +kernel⟩,
   ⟨(0 : Nat), (.deliver 0 : VKind), wCtx, wFrame, (reed (0x01 * 2 ^ 26 + 1 * 2 ^ 23) wCtx wFrame up : State),
     by decide +kernel⟩,
   ⟨(0 : Nat), wCtx, wFrame, (reed (0x01 * 2 ^ 26 + 3 * 2 ^ 23) wCtx wFrame up : State), by decide +kernel⟩,
   ⟨(0 : Nat), (.deliver 0 : VKind), wCtx,
     ({ wFrame with ended := true, prog := { Prog.none with md := (List.replicate 64 0 |>.set 32 255 |>.set 34 255) } } : Frame),
     (reed (0x01 * 2 ^ 26 + 1 * 2 ^ 23) wCtx { wFrame with ended := true, prog := { Prog.none with md := (List.replicate 64 0 |>.set 32 255 |>.set 34 255) } } up : State),
     by decide +kernel⟩,
   ⟨(0 : Nat), ({ wCtx with pend := [.hashf 0 1 []] } : Ctx),
     (reed (0x01 * 2 ^ 26) { wCtx with pend := [.hashf 0 1 []] } wFrame up : State), by decide +kernel⟩,
   ⟨wFrame, by decide +kernel⟩,
   ⟨wTx, by decide +kernel⟩,
   ⟨(0 : Nat), wCtx, (reed (0x09 * 2 ^ 26) wCtx wFrame up : State), by decide +kernel⟩,
   ⟨(0 : Nat), ({ wCtx with ecc := [(0, true)] } : Ctx),
     (reed (0) { wCtx with ecc := [(0, true)] } wFrame up : State), by decide +kernel⟩,
   ⟨(0 : Nat), ({ wCtx with issued := 64 } : Ctx), (reed (0) { wCtx with issued := 64 } wFrame up : State),
     by decide +kernel⟩,
   ⟨(0 : Nat), wCtx, (reed (0) wCtx wFrame up : State), by decide +kernel⟩⟩

/-- Every hypothesis of `Obligations.ReedMemoryAndOperations` is met by some state and operands, clause by clause. -/
theorem test_witness_ReedMemoryAndOperations :
  (∃ (i : Nat) (a : Nat) (n : Nat) (c : Ctx) (f : Frame) (s : State), MayIssue .ld i c s ∧ getF c.frame s = some f ∧
    c.waits (bits (fetch c s) 25 22) = false ∧
    ((bit (fetch c s) 15 = true → c.waits (bits (fetch c s) 21 18) = false)) ∧
    a = bits (fetch c s) 8 0 + (if bit (fetch c s) 15 then (gReg c (bits (fetch c s) 21 18)).toNat % 65536 else 0) ∧
    n = 2 ^ bits (fetch c s) 17 16) ∧
  (∃ (i : Nat) (a : Nat) (n : Nat) (c : Ctx) (f : Frame) (s : State), MayIssue .st i c s ∧ getF c.frame s = some f ∧
    c.waits (bits (fetch c s) 25 22) = false ∧
    ((bit (fetch c s) 15 = true → c.waits (bits (fetch c s) 21 18) = false)) ∧
    a = bits (fetch c s) 8 0 + (if bit (fetch c s) 15 then (gReg c (bits (fetch c s) 21 18)).toNat % 65536 else 0) ∧
    n = 2 ^ bits (fetch c s) 17 16) ∧
  (∃ (a : Nat) (n : Nat) (k : Nat), k < 256 ∧ a + n ≤ 256) ∧
  (∃ (i : Nat) (c : Ctx) (s : State), MayIssue .hasha i c s ∧ bit (fetch c s) 16 = true ∧ bit (fetch c s) 21 = false ∧
    bits (fetch c s) 20 17 < 8 ∧ c.waits (bits (fetch c s) 25 22) = false ∧
    c.acc.length + (bits (fetch c s) 20 17 + 1) ≤ 64) ∧
  (∃ (i : Nat) (a : Nat) (c : Ctx) (f : Frame) (s : State), MayIssue .hasha i c s ∧ bit (fetch c s) 16 = false ∧
    ((bit (fetch c s) 21 = true → c.waits (bits (fetch c s) 25 22) = false)) ∧ getF c.frame s = some f ∧
    a = bits (fetch c s) 8 0 + (if bit (fetch c s) 21 then (gReg c (bits (fetch c s) 25 22)).toNat % 65536 else 0) ∧
    a + (bits (fetch c s) 20 17 + 1) ≤ 256 ∧ ((∀ k,
    a ≤ k → k ≤ a + bits (fetch c s) 20 17 → notArrived f k = false)) ∧
    c.acc.length + (bits (fetch c s) 20 17 + 1) ≤ 64) ∧
  (∃ (i : Nat) (c : Ctx) (f : Frame) (s : State), MayIssue .lkp i c s ∧ getF c.frame s = some f ∧ c.pend.length < 4 ∧
    bits (fetch c s) 21 18 % 2 = 0 ∧ (bit (fetch c s) 13 && bit (fetch c s) 12) = false ∧
    (bit (fetch c s) 13 && f.tx) = false ∧ c.waits (bits (fetch c s) 25 22) = false ∧
    c.waits (bits (fetch c s) 21 18) = false ∧ c.waits (bits (fetch c s) 21 18 + 1) = false ∧
    (((bit (fetch c s) 13 || bit (fetch c s) 12) = true → c.waits (bits (fetch c s) 17 14) = false)) ∧
    ((bit (fetch c s) 12 = true → bits (gReg c (bits (fetch c s) 17 14)).toNat 15 14 ≠ 3))) ∧
  (∃ (i : Nat) (c : Ctx) (s : State), MayIssue .lkp i c s ∧
    ((bits (fetch c s) 21 18 % 2 = 1 ∨ (bit (fetch c s) 13 = true ∧ bit (fetch c s) 12 = true)))) ∧
  (∃ (i : Nat) (c : Ctx) (s : State), MayIssue .mtr i c s ∧ c.waits (bits (fetch c s) 25 22) = false ∧
    c.waits (bits (fetch c s) 21 18) = false ∧ c.waits (bits (fetch c s) 17 14) = false ∧
    bits (gReg c (bits (fetch c s) 17 14)).toNat 15 14 ≠ 3) ∧
  (∃ (i : Nat) (c : Ctx) (s : State), MayIssue .hashf i c s ∧ c.pend.length < 4 ∧
    c.waits (bits (fetch c s) 25 22) = false ∧
    ((bits (fetch c s) 21 20 = 2 → c.waits (bits (fetch c s) 25 22 + 1) = false ∧ bits (fetch c s) 25 22 % 2 = 0)) ∧
    bits (fetch c s) 21 20 < 3 ∧ c.acc.length ≤ (if bits (fetch c s) 21 20 = 0 then 36 else 64)) ∧
  (∃ (i : Nat) (c : Ctx) (s : State), MayIssue .alu i c s ∧ c.waits (bits (fetch c s) 21 18) = true) ∧
  (∃ (i : Nat) (r : Nat) (key : Nat) (ch : Option (Nat × Nat)) (c : Ctx) (c1 : Ctx) (s : State), islRun 5 s = true ∧
    getCtx i s = some c ∧ takePend c r = some (.lkp r key ch none, c1)) ∧
  (∃ (i : Nat) (r : Nat) (key : Nat) (t : Nat) (corr : Nat) (fatal : List Nat) (ch : Option (Nat × Nat)) (c : Ctx) (c1 : Ctx) (f : Frame) (s : State) (e : State),
    islRun 5 s = true ∧ getCtx i s = some c ∧ takePend c r = some (.lkp r key ch (some t), c1) ∧
    e = setCtx (withReg c1 r (BitVec.ofNat 64 (lookup key ch (eccRead corr fatal s)).1)) (lookup key ch (eccRead corr fatal s)).2 ∧
    getF c.frame e = some f) ∧
  (∃ (key : Nat) (s : State), findKey key s = none) ∧
  (∃ (key : Nat) (w : Nat) (e : Ent) (s : State), findKey key s = some (.inl w) ∧ entAt (.inl w) s = some e) ∧
  (∃ (i : Nat) (r : Nat) (idx : Nat) (n : Nat) (col : Nat) (c : Ctx) (c1 : Ctx) (s : State), getCtx i s = some c ∧
    takePend c r = some (.mtr r idx n col, c1)) ∧
  (∃ (i : Nat) (r : Nat) (fn : Nat) (b : List Byte) (c : Ctx) (c1 : Ctx) (s : State), getCtx i s = some c ∧
    takePend c r = some (.hashf r fn b, c1) ∧ fn < 2) ∧
  (∃ (i : Nat) (r : Nat) (b : List Byte) (c : Ctx) (c1 : Ctx) (s : State), getCtx i s = some c ∧
    takePend c r = some (.hashf r 2 b, c1)) :=
  ⟨⟨(0 : Nat), (0 : Nat), (1 : Nat), wCtx, ({ wFrame with ended := true } : Frame),
     (reed (0x10 * 2 ^ 26) wCtx { wFrame with ended := true } up : State), by decide +kernel⟩,
   ⟨(0 : Nat), (0 : Nat), (1 : Nat), wCtx, ({ wFrame with ended := true } : Frame),
     (reed (0x11 * 2 ^ 26) wCtx { wFrame with ended := true } up : State), by decide +kernel⟩,
   ⟨(0 : Nat), (8 : Nat), (0 : Nat), by decide +kernel⟩,
   ⟨(0 : Nat), wCtx, (reed (0x22 * 2 ^ 26 + 1 * 2 ^ 16) wCtx wFrame up : State), by decide +kernel⟩,
   ⟨(0 : Nat), (0 : Nat), wCtx, ({ wFrame with ended := true } : Frame),
     (reed (0x22 * 2 ^ 26) wCtx { wFrame with ended := true } up : State), by decide +kernel⟩,
   ⟨(0 : Nat), wCtx, wFrame, (reed (0x20 * 2 ^ 26) wCtx wFrame up : State), by decide +kernel⟩,
   ⟨(0 : Nat), wCtx, (reed (0x20 * 2 ^ 26 + 1 * 2 ^ 18) wCtx wFrame up : State), by decide +kernel⟩,
   ⟨(0 : Nat), wCtx, (reed (0x21 * 2 ^ 26) wCtx wFrame up : State), by decide +kernel⟩,
   ⟨(0 : Nat), wCtx, (reed (0x23 * 2 ^ 26) wCtx wFrame up : State), by decide +kernel⟩,
   ⟨(0 : Nat), ({ wCtx with pend := [.hashf 0 1 []] } : Ctx),
     (reed (0x04 * 2 ^ 26) { wCtx with pend := [.hashf 0 1 []] } wFrame up : State), by decide +kernel⟩,
   ⟨(0 : Nat), (0 : Nat), (0 : Nat), none, ({ wCtx with pend := [.lkp 0 0 none none] } : Ctx), wCtx,
     (reed (0) { wCtx with pend := [.lkp 0 0 none none] } wFrame up : State), by decide +kernel⟩,
   ⟨(0 : Nat), (0 : Nat), (0 : Nat), (0 : Nat), (0 : Nat), ([] : List Nat), none,
     ({ wCtx with pend := [.lkp 0 0 none (some 0)] } : Ctx), wCtx, wFrame,
     (reed (0) { wCtx with pend := [.lkp 0 0 none (some 0)] } wFrame up : State),
     ((setCtx (withReg wCtx 0 (BitVec.ofNat 64 (lookup 0 none (eccRead 0 [] (reed 0 ({ wCtx with pend := [.lkp 0 0 none (some 0)] }) wFrame up))).1)) (lookup 0 none (eccRead 0 [] (reed 0 ({ wCtx with pend := [.lkp 0 0 none (some 0)] }) wFrame up))).2) : State),
     by decide +kernel⟩,
   ⟨(0 : Nat), up, by decide +kernel⟩,
   ⟨((2 ^ 72) : Nat), (((searchWays (2 ^ 72) up).headD 0) : Nat), wEnt,
     ({ up with tab := { up.tab with ways := [(((searchWays (2 ^ 72) up).headD 0), some wEnt)] } } : State),
     by decide +kernel⟩,
   ⟨(0 : Nat), (0 : Nat), (0 : Nat), (64 : Nat), (0 : Nat), ({ wCtx with pend := [.mtr 0 0 64 0] } : Ctx), wCtx,
     (reed (0) { wCtx with pend := [.mtr 0 0 64 0] } wFrame up : State), by decide +kernel⟩,
   ⟨(0 : Nat), (0 : Nat), (1 : Nat), ([1] : List Byte), ({ wCtx with pend := [.hashf 0 1 [1]] } : Ctx), wCtx,
     (reed (0) { wCtx with pend := [.hashf 0 1 [1]] } wFrame up : State), by decide +kernel⟩,
   ⟨(0 : Nat), (0 : Nat), ([1] : List Byte), ({ wCtx with pend := [.hashf 0 2 [1]] } : Ctx), wCtx,
     (reed (0) { wCtx with pend := [.hashf 0 2 [1]] } wFrame up : State), by decide +kernel⟩⟩

/-- Every hypothesis of `Obligations.ReedChecksums` is met by some state and operands, clause by clause. -/
theorem test_witness_ReedChecksums :
  (∃ (i : Nat) (n : Nat) (c : Ctx) (f : Frame) (s : State), MayIssue .csumIp4h i c s ∧ getF c.frame s = some f ∧
    ip4Waits f ((gReg c (bits (fetch c s) 19 16)).toNat % 512) = false ∧ c.waits (bits (fetch c s) 23 20) = false ∧
    c.waits (bits (fetch c s) 19 16) = false ∧ ip4Header f ((gReg c (bits (fetch c s) 19 16)).toNat % 512) = some n) ∧
  (∃ (i : Nat) (c : Ctx) (f : Frame) (s : State), MayIssue .csumIp4h i c s ∧ getF c.frame s = some f ∧
    ip4Waits f ((gReg c (bits (fetch c s) 19 16)).toNat % 512) = false ∧ c.waits (bits (fetch c s) 23 20) = false ∧
    c.waits (bits (fetch c s) 19 16) = false ∧ ip4Header f ((gReg c (bits (fetch c s) 19 16)).toNat % 512) = none) ∧
  (∃ (i : Nat) (n : Nat) (c : Ctx) (f : Frame) (s : State), MayIssue .csumIp4g i c s ∧ getF c.frame s = some f ∧
    ip4Waits f ((gReg c (bits (fetch c s) 19 16)).toNat % 512) = false ∧ c.waits (bits (fetch c s) 19 16) = false ∧
    ip4Header f ((gReg c (bits (fetch c s) 19 16)).toNat % 512) = some n) ∧
  (∃ (i : Nat) (c : Ctx) (f : Frame) (s : State), MayIssue .csumIp4g i c s ∧ getF c.frame s = some f ∧
    ip4Waits f ((gReg c (bits (fetch c s) 19 16)).toNat % 512) = false ∧ c.waits (bits (fetch c s) 19 16) = false ∧
    ip4Header f ((gReg c (bits (fetch c s) 19 16)).toNat % 512) = none) ∧
  (∃ (i : Nat) (c : Ctx) (f : Frame) (s : State), MayIssue .csumL4 i c s ∧ getF c.frame s = some f ∧
    c.waits (bits (fetch c s) 19 16) = false ∧ c.waits (bits (fetch c s) 15 12) = false ∧ bit (fetch c s) 11 = true) ∧
  (∃ (i : Nat) (c : Ctx) (f : Frame) (s : State), MayIssue .csumL4 i c s ∧ getF c.frame s = some f ∧
    c.waits (bits (fetch c s) 19 16) = false ∧ c.waits (bits (fetch c s) 15 12) = false ∧ bit (fetch c s) 11 = false) :=
  ⟨⟨(0 : Nat), (20 : Nat), wCtx,
     ({ wFrame with ended := true, len := 64, data := [0x45] ++ List.replicate 63 0 } : Frame),
     (reed (0x24 * 2 ^ 26) wCtx { wFrame with ended := true, len := 64, data := [0x45] ++ List.replicate 63 0 } up : State),
     by decide +kernel⟩,
   ⟨(0 : Nat), wCtx, ({ wFrame with ended := true } : Frame),
     (reed (0x24 * 2 ^ 26) wCtx { wFrame with ended := true } up : State), by decide +kernel⟩,
   ⟨(0 : Nat), (20 : Nat), wCtx,
     ({ wFrame with ended := true, len := 64, data := [0x45] ++ List.replicate 63 0 } : Frame),
     (reed (0x24 * 2 ^ 26 + 1 * 2 ^ 24) wCtx { wFrame with ended := true, len := 64, data := [0x45] ++ List.replicate 63 0 } up : State),
     by decide +kernel⟩,
   ⟨(0 : Nat), wCtx, ({ wFrame with ended := true, len := 64, data := List.replicate 64 0 } : Frame),
     (reed (0x24 * 2 ^ 26 + 1 * 2 ^ 24) wCtx { wFrame with ended := true, len := 64, data := List.replicate 64 0 } up : State),
     by decide +kernel⟩,
   ⟨(0 : Nat), wCtx, wFrame, (reed (0x24 * 2 ^ 26 + 2 * 2 ^ 24 + 1 * 2 ^ 11) wCtx wFrame up : State),
     by decide +kernel⟩,
   ⟨(0 : Nat), wCtx, wFrame, (reed (0x24 * 2 ^ 26 + 2 * 2 ^ 24) wCtx wFrame up : State), by decide +kernel⟩⟩

/-- Every hypothesis of `Obligations.ReedEncodings` is met by some state and operands, clause by clause. -/
theorem test_witness_ReedEncodings :
  (∃ (a : Nat) (b : Nat) (c : Nat) (d : Nat), a < 16 ∧ b < 16 ∧ c < 16 ∧ d < 7) ∧
  (∃ (a : Nat) (b : Nat) (c : Nat) (d : Nat), a < 16 ∧ b < 16 ∧ c < 7 ∧ d < 2 ^ 15) ∧
  (∃ (a : Nat) (b : Nat) (c : Nat) (d : Nat), a < 16 ∧ b < 2 ∧ c < 4 ∧ d < 2 ^ 16) ∧
  (∃ (a : Nat) (b : Nat) (c : Nat) (d : Nat), a < 16 ∧ b < 16 ∧ c < 64 ∧ d < 64) ∧
  (∃ (a : Nat) (b : Nat) (c : Nat) (d : Nat), a < 16 ∧ b < 16 ∧ c < 16 ∧ d < 512) ∧
  (∃ (a : Nat) (b : Nat) (c : Nat) (d : Nat), a < 16 ∧ b < 16 ∧ c < 6 ∧ d < 4096) ∧
  (∃ (d : Nat), d < 2 ^ 26) ∧
  (∃ (a : Nat) (d : Nat), a < 2 ^ 11 ∧ d < 4096) ∧
  (∃ (b : Nat) (d : Nat), b < 16 ∧ d < 4096) ∧
  (∃ (a : Nat), a < 2 ^ 14) ∧
  (∃ (a : Nat), a < 2 ^ 12) ∧
  (∃ (a : Nat) (d : Nat), a < 2 ^ 10 ∧ d < 512) ∧
  (∃ (a : Nat), a < 2 ^ 6) ∧
  (∃ (a : Nat), a < 2 ^ 14) ∧
  (∃ (a : Nat) (d : Nat), a < 32 ∧ d < 256) ∧
  (∃ (d : Nat), d < 4) ∧
  (∃ (d : Nat), d < 64) ∧
  (∃ (w : Nat), 1 ≤ w ∧ w < 2 ^ 26) ∧
  (∃ (w : Nat), w < 2 ^ 32 ∧ bits w 31 26 ∉ [0x00, 0x01, 0x02, 0x03, 0x04, 0x05, 0x06, 0x07, 0x08, 0x10, 0x11, 0x18,
    0x19, 0x1A, 0x1B, 0x20, 0x21, 0x22, 0x23, 0x24]) :=
  ⟨⟨(0 : Nat), (0 : Nat), (0 : Nat), (0 : Nat), by decide +kernel⟩,
   ⟨(0 : Nat), (0 : Nat), (0 : Nat), (0 : Nat), by decide +kernel⟩,
   ⟨(0 : Nat), (0 : Nat), (0 : Nat), (0 : Nat), by decide +kernel⟩,
   ⟨(0 : Nat), (0 : Nat), (0 : Nat), (0 : Nat), by decide +kernel⟩,
   ⟨(0 : Nat), (0 : Nat), (0 : Nat), (0 : Nat), by decide +kernel⟩,
   ⟨(0 : Nat), (0 : Nat), (0 : Nat), (0 : Nat), by decide +kernel⟩,
   ⟨(0 : Nat), by decide +kernel⟩,
   ⟨(0 : Nat), (0 : Nat), by decide +kernel⟩,
   ⟨(0 : Nat), (0 : Nat), by decide +kernel⟩,
   ⟨(0 : Nat), by decide +kernel⟩,
   ⟨(0 : Nat), by decide +kernel⟩,
   ⟨(0 : Nat), (0 : Nat), by decide +kernel⟩,
   ⟨(0 : Nat), by decide +kernel⟩,
   ⟨(0 : Nat), by decide +kernel⟩,
   ⟨(0 : Nat), (0 : Nat), by decide +kernel⟩,
   ⟨(0 : Nat), by decide +kernel⟩,
   ⟨(0 : Nat), by decide +kernel⟩,
   ⟨(1 : Nat), by decide +kernel⟩,
   ⟨((0x09 * 2 ^ 26 : Nat) : Nat), by decide +kernel⟩⟩

/-- Every hypothesis of `Obligations.ReedFrame` is met by some state and operands, clause by clause. -/
theorem test_witness_ReedFrame :
  (Instr.alu ∈ [Instr.nop, .alu]) :=
  .tail _ (.head _)

/-- Every hypothesis of `Obligations.DispatchAndVerdicts` is met by some state and operands, clause by clause. -/
theorem test_witness_DispatchAndVerdicts :
  (∃ (p : Nat) (cl : Nat) (i : Nat) (tx : Bool) (f : Frame) (s : State), p < 64 ∧
    ((lineOf p tx s).filterMap (fun x => getF x s)).find? (fun x => !x.dispatched) = some f ∧ dispatchable f = true ∧
    islRun 2 s = true ∧ ((∀ w, firstWaiter s = some w → w = f.id)) ∧ pickCluster s = some cl ∧ pickCtx cl s = some i) ∧
  (∃ (p : Nat) (tx : Bool) (f : Frame) (s : State), p < 64 ∧
    ((lineOf p tx s).filterMap (fun x => getF x s)).find? (fun x => !x.dispatched) = some f ∧ dispatchable f = true ∧
    islRun 2 s = true ∧ (((∃ w, firstWaiter s = some w ∧ w ≠ f.id) ∨ pickCluster s = none)) ∧ f.waited = false) ∧
  (∃ (cl : Nat) (s : State), pickCluster s = some cl) ∧
  (∃ (p : Nat) (i : Nat) (tx : Bool) (g : Frame) (l : List Nat) (s : State), p < 64 ∧ lineOf p tx s = i :: l ∧
    getF i s = some g ∧ g.verdict = none) ∧
  (∃ (p : Nat) (i : Nat) (v : Verdict) (g : Frame) (l : List Nat) (t : State) (s : State), p < 64 ∧
    lineOf p false s = i :: l ∧ getF i s = some g ∧ g.verdict = some v ∧ g.dead = false ∧
    t = setF { g with effective := true } (drainLearns p (setLine p false l s))) ∧
  (∃ (p i : Nat) (v : Verdict) (g : Frame) (l : List Nat) (s : State), p < 64 ∧ lineOf p true s = i :: l ∧
    getF i s = some g ∧ g.verdict = some v ∧ g.dead = false ∧ g.ended = false ∧ (v.mirror.isSome = true ∨ ∃ q,
    v.kind = .deliver q)) ∧
  (∃ (p i : Nat) (v : Verdict) (g : Frame) (l : List Nat) (s : State), p < 64 ∧ lineOf p true s = i :: l ∧
    getF i s = some g ∧ g.verdict = some v ∧ g.dead = false ∧ (g.ended = true ∨ (v.mirror = none ∧ ∀ q,
    v.kind ≠ .deliver q))) :=
  ⟨⟨(0 : Nat), (((pickCluster up).getD 0) : Nat), (((pickCtx (((pickCluster up).getD 0) : Nat) up).getD 0) : Nat),
     false, ({ wFrame with ended := true } : Frame), ((setLine 0 false [0] up) |>
     fun s => { s with dp := { s.dp with frames := [({ wFrame with ended := true } : Frame)] } } : State),
     by decide +kernel⟩,
   ⟨(0 : Nat), false, ({ wFrame with ended := true } : Frame), ((setLine 0 false [0] up |>
     forEach (List.range 24) (fun c => fs (loc .RE_CL_STATUS c) F.RE_CL_STATUS_DISABLED 1)) |>
     fun s => { s with dp := { s.dp with frames := [({ wFrame with ended := true } : Frame)] } } : State),
     by decide +kernel⟩,
   ⟨(pickCluster up).getD 0, up, by decide +kernel⟩,
   ⟨(0 : Nat), (0 : Nat), false, wFrame, ([] : List Nat), ((setLine 0 false [0] up) |>
     fun s => { s with dp := { s.dp with frames := [wFrame] } } : State), by decide +kernel⟩,
   ⟨(0 : Nat), (0 : Nat), ({ kind := .drop, mirror := none, mark := false } : Verdict),
     ({ wFrame with verdict := some { kind := .drop, mirror := none, mark := false } } : Frame), ([] : List Nat),
     ((setF { { wFrame with verdict := some { kind := .drop, mirror := none, mark := false } } with effective := true } (drainLearns 0 (setLine 0 false [] ((setLine 0 false [0] up) |>
     fun s => { s with dp := { s.dp with frames := [{ wFrame with verdict := some { kind := .drop, mirror := none, mark := false } }] } })))) : State),
     ((setLine 0 false [0] up) |>
     fun s => { s with dp := { s.dp with frames := [({ wFrame with verdict := some { kind := .drop, mirror := none, mark := false } } : Frame)] } } : State),
     by decide +kernel⟩,
   ⟨0, 0, { kind := .deliver 0, mirror := none, mark := false },
     { wFrame with tx := true, verdict := some { kind := .deliver 0, mirror := none, mark := false } }, [],
     setLine 0 true [0] { up with dp := { up.dp with frames := [{ wFrame with tx := true, verdict := some { kind := .deliver 0, mirror := none, mark := false } }] } },
     by decide +kernel, by decide +kernel, by decide +kernel, rfl, rfl, rfl, .inr ⟨0, rfl⟩⟩,
   ⟨0, 0, { kind := .send, mirror := none, mark := false },
     { wFrame with tx := true, verdict := some { kind := .send, mirror := none, mark := false } }, [],
     setLine 0 true [0] { up with dp := { up.dp with frames := [{ wFrame with tx := true, verdict := some { kind := .send, mirror := none, mark := false } }] } },
     by decide +kernel, by decide +kernel, by decide +kernel, rfl, rfl, .inr ⟨rfl, fun _ h => nomatch h⟩⟩⟩

/-- Every hypothesis of `Obligations.ProgramStoreAndEngines` is met by some state and operands, clause by clause. -/
theorem test_witness_ProgramStoreAndEngines :
  (∃ (m : Master) (d : W32) (s : State), drained s = true ∧ progRuns s = false ∧
    fb (loc .RE_PS_ADDR) F.RE_PS_ADDR_SPACE s = false ∧ WriteOpen m (loc .RE_PS_DATA) d.toNat s) ∧
  (∃ (m : Master) (d : W32) (s : State), drained s = true ∧ progRuns s = false ∧
    fb (loc .RE_PS_ADDR) F.RE_PS_ADDR_SPACE s = true ∧ fg (loc .RE_PS_ADDR) F.RE_PS_ADDR_INDEX s < 128 ∧
    WriteOpen m (loc .RE_PS_DATA) d.toNat s) ∧
  (∃ (m : Master) (d : W32) (s : State), drained s = true ∧ progRuns s = false ∧ bit d.toNat 31 = true ∧
    WriteOpen m (loc .RE_PS_CTRL) d.toNat s) ∧
  (∃ (m : Master) (d : W32) (s : State), bit d.toNat 31 = false ∧ WriteOpen m (loc .RE_PS_CTRL) d.toNat s) ∧
  (∃ (e : State) (s : State), drained s = false ∧ ((∀ c, c ∈ s.dp.ctxs → c.bank ≠ standbyBank s)) ∧
    e = setFlag (loc .RE_EVENT) F.RE_EVENT_SWITCH_DONE (fs (loc .RE_PS_CTRL) F.RE_PS_CTRL_DRAINED 1 s)) ∧
  (∃ (s : State), (∃ c, c ∈ s.dp.ctxs ∧ c.bank = standbyBank s)) ∧
  (∃ (m : Master) (cl : Nat) (d : W32) (s : State), cl < 24 ∧ bit d.toNat 31 = false ∧
    WriteOpen m (loc .RE_CL_SUBST cl) d.toNat s) ∧
  (∃ (m : Master) (cl : Nat) (d : W32) (t : State) (s : State), cl < 24 ∧ bit d.toNat 31 = true ∧
    substEngine cl (d.toNat % 32) none (fs (loc .RE_CL_SUBST cl) F.RE_CL_SUBST_ENGINE (d.toNat % 32) s) = some t ∧
    WriteOpen m (loc .RE_CL_SUBST cl) d.toNat s) ∧
  (∃ (s : State), s.dp.msFrames ≠ 0 ∧ s.dp.msIssue ≠ 0 ∧ s.dp.msElapsed ≠ 0) ∧
  (∃ (s : State), s.dp.msFrames = 0) :=
  ⟨⟨(.stw : Master), (0 : W32), (up |> fs (loc .RE_PS_ADDR) F.RE_PS_ADDR_SPACE 0 : State), by decide +kernel⟩,
   ⟨(.stw : Master), (0 : W32), (up |> fs (loc .RE_PS_ADDR) F.RE_PS_ADDR_SPACE 1 : State), by decide +kernel⟩,
   ⟨(.stw : Master), (0x80000000 : W32), up, by decide +kernel⟩,
   ⟨(.stw : Master), (0 : W32), up, by decide +kernel⟩,
   ⟨((setFlag (loc .RE_EVENT) F.RE_EVENT_SWITCH_DONE (fs (loc .RE_PS_CTRL) F.RE_PS_CTRL_DRAINED 1 (fs (loc .RE_PS_CTRL) F.RE_PS_CTRL_DRAINED 0 up))) : State),
     (fs (loc .RE_PS_CTRL) F.RE_PS_CTRL_DRAINED 0 up : State), by decide +kernel⟩,
   ⟨({ up with dp := { up.dp with ctxs := [{ wCtx with bank := standbyBank up }] } } : State), by decide +kernel⟩,
   ⟨(.stw : Master), (0 : Nat), (0 : W32), up, by decide +kernel⟩,
   ⟨(.stw : Master), (0 : Nat), (0x80000000 : W32),
     (((substEngine 0 0 none (fs (loc .RE_CL_SUBST 0) F.RE_CL_SUBST_ENGINE 0 up)).getD up) : State), up,
     by decide +kernel⟩,
   ⟨({ up with dp := { up.dp with msFrames := 1, msIssue := 1, msElapsed := 1 } } : State), by decide +kernel⟩,
   ⟨(up |> (fun s => { s with dp := { s.dp with msFrames := 0 } }) : State), by decide +kernel⟩⟩

/-- Every hypothesis of `Obligations.SchedulerSteps` is met by some state and operands, clause by clause. -/
theorem test_witness_SchedulerSteps :
  (∃ (p : Nat) (r : State) (s : State), p < 64 ∧ portSelectable p s = true ∧
    r = refuseHeads p (s.wq.execs.length + s.dp.frames.length) s) ∧
  (∃ (p : Nat) (s : State), p < 64 ∧ portSelectable p s = false) ∧
  (∃ (c : Nat) (i : TxItem) (s : State), leafHead (nodeNum c) s = some i) ∧
  (∃ (level : Nat) (n : Nat) (s : State), level < 4 ∧ n < 2 ^ 20 ∧ nodeRec (nodeCode level n) s ≠ []) ∧
  (∃ (level : Nat) (n : Nat) (s : State), level < 4 ∧ n < 2 ^ 20 ∧ nodeRec (nodeCode level n) s ≠ [] ∧
    sget 0 s.sc.next (nodeCode level n) = 0 ∧ cenOf (nodeCode level n) s = true) ∧
  (∃ (level : Nat) (n : Nat) (s : State), level < 4 ∧ n < 2 ^ 20 ∧ nodeRec (nodeCode level n) s ≠ [] ∧
    sget 0 s.sc.next (nodeCode level n) = 0 ∧ penOf (nodeCode level n) s = true) ∧
  (∃ (p : Nat) (a : Nat) (pr : Nat) (k : Nat) (c : Calendar) (s : State), p < 64 ∧ (getSp p s).pendingCal = some (c,
    a, pr, k)) ∧
  (∃ (m : Master) (d : W32) (s : State), bit d.toNat 31 = false ∧ WriteOpen m (loc .SC_NODE_SEL) d.toNat s) ∧
  (∃ (m : Master) (d : W32) (w : Nat) (s : State), bit d.toNat 31 = true ∧ w < 8 ∧
    WriteOpen m (loc .SC_NODE_SEL) d.toNat s) :=
  ⟨⟨(0 : Nat), ((refuseHeads 0 (scheduled.wq.execs.length + scheduled.dp.frames.length) scheduled) : State),
     scheduled, by decide +kernel⟩,
   ⟨(0 : Nat), up, by decide +kernel⟩,
   ⟨((nodeCode 0 0) : Nat), ((.frame 0) : TxItem), scheduled, by decide +kernel⟩,
   ⟨(0 : Nat), (0 : Nat), scheduled, by decide +kernel⟩,
   ⟨(1 : Nat), (0 : Nat),
     ({ scheduled with sc := { scheduled.sc with nodes := [(nodeCode 1 0, [3])], force := [(nodeCode 1 0, [3])] } } : State),
     by decide +kernel⟩,
   ⟨(1 : Nat), (0 : Nat),
     ({ up with sc := { up.sc with nodes := [(nodeCode 1 0, [7])], force := [(nodeCode 1 0, [7])] } } : State),
     by decide +kernel⟩,
   ⟨(0 : Nat), (0 : Nat), (0 : Nat), (0 : Nat), ({ entries := [(1000, 255)], start := 0, cycle := 1000 } : Calendar),
     (setSp 0 { getSp 0 up with pendingCal := some (({ entries := [(1000, 255)], start := 0, cycle := 1000 } : Calendar), (0 : Nat), (0 : Nat), (0 : Nat)) } up : State),
     by decide +kernel⟩,
   ⟨(.stw : Master), (0 : W32), up, by decide +kernel⟩,
   ⟨(.stw : Master), (0x80000000 : W32), (0 : Nat), up, by decide +kernel⟩⟩

/-- Every hypothesis of `Obligations.RoundRobinAndCharges` is met by some state and operands, clause by clause. -/
theorem test_witness_RoundRobinAndCharges :
  (∃ (key : Nat) (pass : Nat) (cost : Nat → Int) (cs : List Nat) (c : Nat) (s : State) (t : State),
    dwrr key pass cost cs s = some (c, t) ∧ pass < 2) :=
  ⟨(0 : Nat), (0 : Nat), (fun _ => 0 : Nat → Int), ([nodeCode 0 0] : List Nat), ((nodeCode 0 0) : Nat), scheduled,
    (((dwrr 0 0 (fun _ => 0) [nodeCode 0 0] scheduled).map (·.2) |>.getD up) : State), by decide +kernel⟩

/-- Every hypothesis of `Obligations.TransferEngine` is met by some state and operands, clause by clause. -/
theorem test_witness_TransferEngine :
  (∃ (m : Master) (n : Nat) (d : W32) (s : State), n < 16 ∧ teForeign m (48 + n) s = false ∧ teState (48 + n) s ≠ 0 ∧
    bit d.toNat 29 = false ∧ bit d.toNat 30 = fb (teLoc .TE_CTRL (48 + n)) F.TE_CTRL_PAUSE s ∧
    WriteOpen m (teLoc .TE_CTRL (48 + n)) (d.toNat % 2 ^ 31 + 2 ^ 31) s) ∧
  (∃ (m : Master) (n : Nat) (s : State), n < 16 ∧ teForeign m (48 + n) s = false ∧ teState (48 + n) s ∈ [1, 2] ∧
    fb (teLoc .TE_CTRL (48 + n)) F.TE_CTRL_PAUSE s = false ∧ WriteOpen m (teLoc .TE_CTRL (48 + n)) (2 ^ 30) s) ∧
  (∃ (n : Nat) (s : State), n < 16 ∧ teState (48 + n) s = 3 ∧ teDrained (48 + n) s = true ∧ teHeld (48 + n) s = true ∧
    teHoldBit (48 + n) F.TE_STATE_HOLD_FAULT s = false) ∧
  (∃ (m : Master) (n : Nat) (s : State), n < 16 ∧ teForeign m (48 + n) s = false ∧ teState (48 + n) s = 4 ∧
    fb (teLoc .TE_CTRL (48 + n)) F.TE_CTRL_PAUSE s = true ∧ teHoldBit (48 + n) F.TE_STATE_HOLD_FAULT s = false ∧
    teHoldBit (48 + n) F.TE_STATE_HOLD_POWER s = false ∧ (getTe (48 + n) s).phase = .none ∧
    (getTe (48 + n) s).cache = [] ∧ (getTe (48 + n) s).closing = false ∧ (getTe (48 + n) s).rescan = false ∧
    (getTe (48 + n) s).stopRoom = false ∧ WriteOpen m (teLoc .TE_CTRL (48 + n)) 0 s) ∧
  (∃ (m : Master) (n : Nat) (pause : Bool) (s : State), n < 16 ∧ teForeign m (48 + n) s = false ∧
    teState (48 + n) s = 4 ∧ (((getTe (48 + n) s).phase = .data ∨ (getTe (48 + n) s).phase = .lists)) ∧
    fb (teLoc .TE_CTRL (48 + n)) F.TE_CTRL_PAUSE s = pause ∧
    WriteOpen m (teLoc .TE_CTRL (48 + n)) (2 ^ 29 + b2n pause * 2 ^ 30) s) ∧
  (∃ (m : Master) (n : Nat) (d : W32) (s : State), n < 16 ∧ teForeign m (48 + n) s = false ∧ teState (48 + n) s = 0 ∧
    fb (teLoc .TE_CFG (48 + n)) F.TE_CFG_ENABLE s = false ∧ 3 ≤ teLog (48 + n) s ∧ teLog (48 + n) s ≤ 16 ∧
    fb (teLoc .TE_CTRL (48 + n)) F.TE_CTRL_PAUSE s = false ∧ (getTe (48 + n) s).power = [] ∧
    WriteOpen m (teLoc .TE_CFG (48 + n)) (d.toNat % 2 ^ 31 + 2 ^ 31) s) ∧
  (∃ (m : Master) (n : Nat) (d : W32) (s : State), n < 16 ∧ teForeign m (48 + n) s = false ∧ teState (48 + n) s = 5 ∧
    WriteOpen m (teLoc .TE_CFG (48 + n)) (d.toNat % 2 ^ 31) s) ∧
  (∃ (m : Master) (n : Nat) (d : W32) (s : State), n < 16 ∧ teForeign m (48 + n) s = false ∧ teState (48 + n) s = 1 ∧
    fb (teLoc .TE_CFG (48 + n)) F.TE_CFG_ENABLE s = true ∧ (getTe (48 + n) s).phase = .none ∧
    (getTe (48 + n) s).finalDone = false ∧ WriteOpen m (teLoc .TE_CFG (48 + n)) (d.toNat % 2 ^ 31) s) ∧
  (∃ (m : Master) (n : Nat) (d : W32) (s : State), n < 16 ∧ teForeign m (48 + n) s = false ∧ teState (48 + n) s ∈ [2,
    3] ∧ fb (teLoc .TE_CFG (48 + n)) F.TE_CFG_ENABLE s = true ∧
    WriteOpen m (teLoc .TE_CFG (48 + n)) (d.toNat % 2 ^ 31) s) ∧
  (∃ (m : Master) (n : Nat) (pause : Bool) (s : State), n < 16 ∧ teState (48 + n) s ≠ 4 ∧
    WriteOpen m (teLoc .TE_CTRL (48 + n)) (2 ^ 29 + b2n pause * 2 ^ 30) s) ∧
  (∃ (d : List Byte), 1 < u d 0 1) ∧
  (∃ (d : List Byte), u d 0 1 ≤ 1 ∧ ((descReserved d = false ∨ bits (u d 2 1) 2 0 = 7 ∨ bits (u d 2 1) 6 4 = 7))) ∧
  (∃ (d : List Byte), u d 0 1 = 0 ∧ descReserved d = true ∧ bits (u d 2 1) 2 0 < 7 ∧ bits (u d 2 1) 6 4 < 7 ∧
    dNelem d ≠ 0) ∧
  (∃ (dew : Nat) (i : Nat), i < dew) :=
  ⟨⟨(.stw : Master), (0 : Nat), (0 : W32), (setTeState 48 1 up : State), by decide +kernel⟩,
   ⟨(.stw : Master), (0 : Nat), (setTeState 48 1 up : State), by decide +kernel⟩,
   ⟨(0 : Nat), (setTeState 48 3 up |> fs (teLoc .TE_STATE 48) F.TE_STATE_HOLD_PAUSE 1 : State), by decide +kernel⟩,
   ⟨(.stw : Master), (0 : Nat), (up |> setTeState (48 + (0 : Nat)) 4 |>
     fs (teLoc .TE_CTRL (48 + (0 : Nat))) F.TE_CTRL_PAUSE 1 |>
     (fun s => setTe (48 + (0 : Nat)) { getTe (48 + (0 : Nat)) s with phase := .none } s) |>
     (fun s => setTe (48 + (0 : Nat)) { getTe (48 + (0 : Nat)) s with cache := [] } s) |>
     (fun s => setTe (48 + (0 : Nat)) { getTe (48 + (0 : Nat)) s with closing := false } s) |>
     (fun s => setTe (48 + (0 : Nat)) { getTe (48 + (0 : Nat)) s with rescan := false } s) |>
     (fun s => setTe (48 + (0 : Nat)) { getTe (48 + (0 : Nat)) s with stopRoom := false } s) : State),
     by decide +kernel⟩,
   ⟨(.stw : Master), (0 : Nat), false, (setTeState 48 4 up |> setTe 48 { getTe 48 up with phase := .data } : State),
     by decide +kernel⟩,
   ⟨(.stw : Master), (0 : Nat), (0 : W32), (up |> setTeState (48 + (0 : Nat)) 0 |>
     fs (teLoc .TE_CFG (48 + (0 : Nat))) F.TE_CFG_ENABLE 0 |>
     fs (teLoc .TE_CTRL (48 + (0 : Nat))) F.TE_CTRL_PAUSE 0 |>
     (fun s => setTe (48 + (0 : Nat)) { getTe (48 + (0 : Nat)) s with power := [] } s) : State), by decide +kernel⟩,
   ⟨(.stw : Master), (0 : Nat), (0 : W32), (up |> setTeState (48 + (0 : Nat)) 5 : State), by decide +kernel⟩,
   ⟨(.stw : Master), (0 : Nat), (0 : W32), (up |> setTeState (48 + (0 : Nat)) 1 |>
     fs (teLoc .TE_CFG (48 + (0 : Nat))) F.TE_CFG_ENABLE 1 |>
     (fun s => setTe (48 + (0 : Nat)) { getTe (48 + (0 : Nat)) s with phase := .none } s) |>
     (fun s => setTe (48 + (0 : Nat)) { getTe (48 + (0 : Nat)) s with finalDone := false } s) : State),
     by decide +kernel⟩,
   ⟨(.stw : Master), (0 : Nat), (0 : W32), (setTeState 48 2 up |> fs (teLoc .TE_CFG 48) F.TE_CFG_ENABLE 1 : State),
     by decide +kernel⟩,
   ⟨(.stw : Master), (0 : Nat), false, up, by decide +kernel⟩,
   ⟨([2] : List Byte), by decide +kernel⟩,
   ⟨([0, 0, 7] : List Byte), by decide +kernel⟩,
   ⟨([0, 0, 0, 0, 1, 1, 1, 1] : List Byte), by decide +kernel⟩,
   ⟨(1 : Nat), (0 : Nat), by decide +kernel⟩⟩

/-- Every hypothesis of `Obligations.HostMemoryAnswers` is met by some state and operands, clause by clause. -/
theorem test_witness_HostMemoryAnswers :
  (∃ (port : Nat) (tag : Nat) (r : Req) (s : State), outReq port tag false s = some r ∧
    islRun (answerIsland r.purpose) s = false) ∧
  (∃ (port : Nat) (tag : Nat) (r : Req) (s : State), outReq port tag false s = some r ∧
    islRun (answerIsland r.purpose) s = true) ∧
  (∃ (port : Nat) (tag : Nat) (gv : Nat) (pa : Nat) (b : List Byte) (data : BitVec 1024) (r : Req) (s : State),
    outReq port tag false s = some r ∧ islRun (answerIsland r.purpose) s = true ∧ r.phase = .out port tag pa ∧
    b = ((r.data ++ beatBytes data gv).drop (pa % 64)).take r.len) ∧
  (∃ (port : Nat) (tag : Nat) (r : Req) (s : State), outReq port tag true s = some r ∧ r.tail = none ∧
    islRun (answerIsland r.purpose) s = true) ∧
  (∃ (port : Nat) (tag : Nat) (v : Byte) (r : Req) (s : State), outReq port tag true s = some r ∧ r.tail = some v ∧
    islRun (answerIsland r.purpose) s = true ∧ tailHeld r.purpose (dropReq r.id s) = false) ∧
  (∃ (port : Nat) (tag : Nat) (r : Req) (s : State), outReq port tag true s = some r ∧
    islRun (answerIsland r.purpose) s = true) :=
  ⟨⟨(0 : Nat), (0 : Nat), wReq, (asking wReq (setIsl 2 { isl 2 up with st := .sleep } up) : State), by decide +kernel⟩,
   ⟨(0 : Nat), (0 : Nat), wReq, (asking wReq up : State), by decide +kernel⟩,
   ⟨(0 : Nat), (0 : Nat), (0 : Nat), (0 : Nat),
     ((((wReq.data ++ beatBytes 0 0).drop (0 % 64)).take wReq.len) : List Byte), (0 : BitVec 1024), wReq,
     (asking wReq up : State), by decide +kernel⟩,
   ⟨(0 : Nat), (0 : Nat), ({ wReq with write := true, purpose := .leaseWrite } : Req),
     (asking ({ wReq with write := true, purpose := .leaseWrite } : Req) up : State), by decide +kernel⟩,
   ⟨(0 : Nat), (0 : Nat), (0 : Byte), ({ wReq with write := true, purpose := .leaseWrite, tail := some 0 } : Req),
     (asking ({ wReq with write := true, purpose := .leaseWrite, tail := some 0 } : Req) up : State),
     by decide +kernel⟩,
   ⟨(0 : Nat), (0 : Nat), ({ wReq with write := true, purpose := .leaseWrite } : Req),
     (asking ({ wReq with write := true, purpose := .leaseWrite } : Req) up : State), by decide +kernel⟩⟩

/-- Every hypothesis of `Obligations.TranslationsAndInvalidations` is met by some state and operands, clause by clause. -/
theorem test_witness_TranslationsAndInvalidations :
  (∃ (tag : Nat) (size : Nat) (st : Nat) (x : XReq) (s : State), s.host.xreqs.find? (fun y => y.tag == tag) = some x ∧
    x.discarded (if st = 0 then size else 0) = true) ∧
  (∃ (tag : Nat) (size : Nat) (x : XReq) (s : State), s.host.xreqs.find? (fun y => y.tag == tag) = some x ∧
    x.discarded size = false) ∧
  (∃ (x : XReq) (s : State), xWaiters x s = []) ∧
  (∃ (tag : Nat) (x : XReq) (s : State), s.host.xreqs.find? (fun y => y.tag == tag) = some x ∧ x.discarded 0 = false) ∧
  (∃ (tag : Nat) (x : XReq) (s : State), s.host.xreqs.find? (fun y => y.tag == tag) = some x ∧ x.discarded 0 = false) ∧
  (∃ (id : Nat) (x : PReq) (s : State), s.host.preqs.find? (fun y => y.id == id) = some x ∧ x.timedOut = true) ∧
  (∃ (id : Nat) (x : PReq) (t : State) (s : State), s.host.preqs.find? (fun y => y.id == id) = some x ∧
    x.timedOut = false ∧ t = { s with host := { s.host with preqs := s.host.preqs.filter (fun y => y.id != id) } }) ∧
  (∃ (id : Nat) (x : PReq) (s : State), s.host.preqs.find? (fun y => y.id == id) = some x ∧ x.timedOut = false ∧
    x.timeout ≠ 0) ∧
  (∃ (size : Nat) (s : State), inReset s = false ∧ size < 32) ∧
  (∃ (i : Inval) (l : List Inval) (s : State), s.host.invals = i :: l ∧ i.software = false ∧ invalReady i s = true) ∧
  (∃ (m : Master) (all : Bool) (f : Nat) (s : State), f < 4096 ∧ fb (loc .TR_INV) F.TR_INV_BUSY s = false ∧
    WriteOpen m (loc .TR_INV) (2 ^ 31 + b2n all * 2 ^ 29 + f) s) ∧
  (∃ (i : Inval) (l : List Inval) (s : State), s.host.invals = i :: l ∧ i.software = true ∧ invalReady i s = true) :=
  ⟨⟨(0 : Nat), (0 : Nat), (0 : Nat), ({ wXreq with invals := [wInval] } : XReq),
     ({ up with host := { up.host with xreqs := [({ wXreq with invals := [wInval] } : XReq)] } } : State),
     by decide +kernel⟩,
   ⟨(0 : Nat), (0 : Nat), wXreq, ({ up with host := { up.host with xreqs := [wXreq] } } : State), by decide +kernel⟩,
   ⟨wXreq, ({ up with host := { up.host with xreqs := [wXreq] } } : State), by decide +kernel⟩,
   ⟨(0 : Nat), wXreq, ({ up with host := { up.host with xreqs := [wXreq] } } : State), by decide +kernel⟩,
   ⟨(0 : Nat), wXreq, ({ up with host := { up.host with xreqs := [wXreq] } } : State), by decide +kernel⟩,
   ⟨(0 : Nat), ({ wPreq with timedOut := true } : PReq),
     ({ up with host := { up.host with preqs := [({ wPreq with timedOut := true } : PReq)] } } : State),
     by decide +kernel⟩,
   ⟨(0 : Nat), wPreq, up, ({ up with host := { up.host with preqs := [wPreq] } } : State), by decide +kernel⟩,
   ⟨(0 : Nat), wPreq, ({ up with host := { up.host with preqs := [wPreq] } } : State), by decide +kernel⟩,
   ⟨(0 : Nat), up, by decide +kernel⟩,
   ⟨({ wInval with software := false } : Inval), ([] : List Inval),
     ({ up with host := { up.host with invals := [({ wInval with software := false } : Inval)] } } : State),
     by decide +kernel⟩,
   ⟨(.stw : Master), false, (0 : Nat), (up |> fs (loc .TR_INV) F.TR_INV_BUSY 0 : State), by decide +kernel⟩,
   ⟨({ wInval with software := true } : Inval), ([] : List Inval),
     ({ up with host := { up.host with invals := [({ wInval with software := true } : Inval)] } } : State),
     by decide +kernel⟩⟩

/-- Every hypothesis of `Obligations.ControlQueues` is met by some state and operands, clause by clause. -/
theorem test_witness_ControlQueues :
  (∃ (m : Master) (s : State), (ctlQueue m s).length < 8 ∧ ctlQueue m s ≠ []) ∧
  (∃ (m : Master) (s : State), 8 ≤ (ctlQueue m s).length) ∧
  (∃ (m : Master) (d : W32) (l : List CtlReq) (s : State),
    ctlQueue m s = { write := false, addr := loc .TB_FREQ, data := d, stalled := false } :: l ∧
    ReadOpen m (loc .TB_FREQ) (setCtlQueue m [] s)) ∧
  (∃ (m : Master) (d : W32) (l : List CtlReq) (s : State),
    ctlQueue m s = { write := true, addr := loc .TB_FREQ, data := d, stalled := false } :: l ∧
    WriteOpen m (loc .TB_FREQ) d.toNat (setCtlQueue m [] s)) ∧
  (∃ (m : Master) (r : CtlReq) (l : List CtlReq) (pg : Nat) (off : Nat) (s : State), ctlQueue m s = r :: l ∧
    reqPage r = some (pg, off)) ∧
  (∃ (m : Master) (r : CtlReq) (l : List CtlReq) (s : State), ctlQueue m s = r :: l ∧ r.stalled = true ∧
    (isl (reqIsland r) s).waking = false ∧ (isl (reqIsland r) s).entering = false ∧ (isl (reqIsland r) s).st = .run ∧
    clocked (reqIsland r) s = true) ∧
  (∃ (m : Master) (r : CtlReq) (l : List CtlReq) (pg : Nat) (off : Nat) (s : State), ctlQueue m s = r :: l ∧
    r.stalled = true ∧ (isl (reqIsland r) s).waking = false ∧ (isl (reqIsland r) s).entering = false ∧
    (isl (reqIsland r) s).st = .sleep ∧ clocked (reqIsland r) s = true ∧ reqPage r = some (pg, off)) :=
  ⟨⟨(.stw : Master),
     (setCtlQueue (.stw : Master) [{ write := false, addr := loc .TB_FREQ, data := 0, stalled := false }] up : State),
     by decide +kernel⟩,
   ⟨(.stw : Master),
     (setCtlQueue (.stw : Master) (List.replicate 8 { write := false, addr := loc .TB_FREQ, data := 0, stalled := false }) up : State),
     by decide +kernel⟩,
   ⟨(.stw : Master), (0 : W32), ([] : List CtlReq),
     (setCtlQueue (.stw : Master) [{ write := false, addr := loc .TB_FREQ, data := 0, stalled := false }] up : State),
     by decide +kernel⟩,
   ⟨(.stw : Master), (0 : W32), ([] : List CtlReq),
     (setCtlQueue (.stw : Master) [{ write := true, addr := loc .TB_FREQ, data := 0, stalled := false }] up : State),
     by decide +kernel⟩,
   ⟨(.stw : Master), ({ write := true, addr := loc .TB_FREQ, data := 0, stalled := false } : CtlReq),
     ([] : List CtlReq), ((loc .TB_FREQ / 4096) : Nat), ((loc .TB_FREQ % 4096) : Nat),
     (setCtlQueue (.stw : Master) [({ write := true, addr := loc .TB_FREQ, data := 0, stalled := false } : CtlReq)] up : State),
     by decide +kernel⟩,
   ⟨(.stw : Master), ({ write := true, addr := loc .TB_FREQ, data := 0, stalled := true } : CtlReq),
     ([] : List CtlReq),
     (setCtlQueue (.stw : Master) [({ write := true, addr := loc .TB_FREQ, data := 0, stalled := true } : CtlReq)] up : State),
     by decide +kernel⟩,
   ⟨(.stw : Master), ({ write := true, addr := loc .TB_FREQ, data := 0, stalled := true } : CtlReq),
     ([] : List CtlReq), ((loc .TB_FREQ / 4096) : Nat), ((loc .TB_FREQ % 4096) : Nat),
     (setCtlQueue (.stw : Master) [({ write := true, addr := loc .TB_FREQ, data := 0, stalled := true } : CtlReq)] up |>
     setIsl (reqIsland ({ write := true, addr := loc .TB_FREQ, data := 0, stalled := true } : CtlReq)) { isl 2 up with st := .sleep } : State),
     by decide +kernel⟩⟩

/-- Every hypothesis of `Obligations.RefusalsAndPageHeaders` is met by some state and operands, clause by clause. -/
theorem test_witness_RefusalsAndPageHeaders :
  (∃ (m : Master) (a : BitVec 26) (d : W32) (reason : Nat) (s : State), a.toNat % 4 = 0 ∧ a.toNat < 0x100000 ∧
    (pageOf (a.toNat / 4096)).isSome = true ∧ ctlQueue m s = [] ∧ resetHolds a.toNat s = false ∧
    romOff (a.toNat / 4096) (a.toNat % 4096) s = false ∧
    tableCheck m true (a.toNat / 4096) (a.toNat % 4096) d.toNat s = some reason) ∧
  (∃ (m : Master) (pg : BitVec 8) (s : State), (pageOf pg.toNat).isSome = true ∧
    WriteOpen m (hdrLoc .PAGE_ACCESS pg.toNat) 1 s) ∧
  (∃ (m : Master) (pg : BitVec 8) (s : State), (pageOf pg.toNat).isSome = true ∧
    WriteOpen m (hdrLoc .PAGE_LOCK pg.toNat) 1 s) ∧
  (∃ (m : Master) (a : BitVec 26) (d : W32) (s : State), a.toNat % 4 = 0 ∧ a.toNat < 0x100000 ∧
    (pageOf (a.toNat / 4096)).isSome = true ∧ ctlQueue m s = [] ∧ resetHolds a.toNat s = false ∧
    romOff (a.toNat / 4096) (a.toNat % 4096) s = false ∧
    tableCheck m true (a.toNat / 4096) (a.toNat % 4096) d.toNat s = none ∧
    gate m (a.toNat / 4096) (a.toNat % 4096) s = .go ∧ locked (a.toNat / 4096) (a.toNat % 4096) d.toNat s = true) ∧
  (∃ (pg : Nat) (off : Nat) (i : Nat) (n : RegName) (s : State), fb (hdrLoc .PAGE_LOCK pg) F.PAGE_LOCK_LOCK s = true ∧
    regAt pg off = some (n, i, false) ∧ n ≠ .PAGE_LOCK) ∧
  (∃ (pg : Nat) (s : State), fb (hdrLoc .PAGE_LOCK pg) F.PAGE_LOCK_LOCK s = false) ∧
  (∃ (pg : BitVec 8) (d : W32) (s : State), (pageOf pg.toNat).isSome = true ∧
    WriteOpen .stw (hdrLoc .PAGE_ACL pg.toNat) d.toNat s) ∧
  (∃ (m : Master) (pg : BitVec 8) (s : State), (pageOf pg.toNat).isSome = true ∧ ctlQueue m s = [] ∧
    resetHolds (hdrLoc .PAGE_ACL pg.toNat) s = false ∧ m ≠ .stw) ∧
  (∃ (d : W32) (s : State), WriteOpen .stw (loc .GL_WINACL) d.toNat s) ∧
  (∃ (m : Master) (s : State), ctlQueue m s = [] ∧ coldHeld s = false ∧ romOff 0 (loc .GL_WINACL % 4096) s = false ∧
    m ≠ .stw) ∧
  (∃ (m : Master) (d : W32) (s : State), (dblFixed s = false ∨ bit d.toNat 0 = dblMode s) ∧
    WriteOpen m (loc .GL_HOSTCFG) d.toNat s) ∧
  (∃ (m : Master) (d : W32) (s : State), dblFixed s = true ∧ bit d.toNat 0 ≠ dblMode s ∧
    WriteOpen m (loc .GL_HOSTCFG) d.toNat s) :=
  ⟨⟨(.cpa : Master), ((BitVec.ofNat 26 (loc .GL_WINACL)) : BitVec 26), (0 : W32), (1 : Nat), up, by decide +kernel⟩,
   ⟨(.stw : Master), (0 : BitVec 8), up, by decide +kernel⟩,
   ⟨(.stw : Master), (0 : BitVec 8), up, by decide +kernel⟩,
   ⟨(.stw : Master), ((BitVec.ofNat 26 (loc .GL_WINACL)) : BitVec 26), (0 : W32),
     (fs (hdrLoc .PAGE_LOCK (loc .GL_WINACL / 4096)) F.PAGE_LOCK_LOCK 1 up : State), by decide +kernel⟩,
   ⟨((loc .GL_WINACL / 4096) : Nat), ((loc .GL_WINACL % 4096) : Nat), (0 : Nat), (.GL_WINACL : RegName),
     (fs (hdrLoc .PAGE_LOCK (loc .GL_WINACL / 4096)) F.PAGE_LOCK_LOCK 1 up : State), by decide +kernel⟩,
   ⟨(0 : Nat), (up |> fs (hdrLoc .PAGE_LOCK (0 : Nat)) F.PAGE_LOCK_LOCK 0 : State), by decide +kernel⟩,
   ⟨(0 : BitVec 8), (0 : W32), up, by decide +kernel⟩,
   ⟨(.cpa : Master), (0 : BitVec 8), up, by decide +kernel⟩,
   ⟨(0 : W32), up, by decide +kernel⟩,
   ⟨(.cpa : Master), up, by decide +kernel⟩,
   ⟨(.stw : Master), (0 : W32), up, by decide +kernel⟩,
   ⟨(.stw : Master), (1 : W32), (queues up : State), by decide +kernel⟩⟩

/-- Every hypothesis of `Obligations.PlainRegisters` is met by some state and operands, clause by clause. -/
theorem test_witness_PlainRegisters :
  (∃ (m : Master) (a : BitVec 26) (d : W32) (n : RegName) (i : Nat) (s : State), a.toNat % 4 = 0 ∧
    a.toNat < 0x100000 ∧ (pageOf (a.toNat / 4096)).isSome = true ∧ a.toNat % 4096 < 0x800 ∧
    clientPcs a.toNat s = false ∧ regAt (a.toNat / 4096) (a.toNat % 4096) = some (n, i, false) ∧ n.row.wide = false ∧
    n ∉ [RegName.PAGE_ACCESS, .PAGE_LOCK, .PAGE_ACL, .GL_HOSTCFG, .GL_SEM, .LN_CTRL, .LN_TXEQ, .LN_CAL, .LN_PRBS,
    .MP_PCS_CTRL, .OS_CFG, .ST_TIMING, .EV_PICC_MASK, .OS_SW_CTRL, .OS_CM_DATA, .OS_CLIENT, .MP_RX_LEN, .MP_PFC_THR,
    .MP_PFC_HDRM, .MP_WAKE_DATA, .MP_WAKE_STATUS, .MP_TX_CFG, .MP_TX_FC_FORCE, .MP_MM_CTRL, .RE_CL_SUBST, .RE_PS_CTRL,
    .RE_PS_DATA, .RE_BUDGET, .ST_RH_CTRL, .MT_CTRL, .SC_NODE_SEL, .SC_PCFG, .TE_CFG, .TE_RING, .TE_CTRL, .TE_STATE,
    .TE_PROG_ELEM, .TE_PROG_SRC, .TE_PROG_DST, .TE_FAULT, .HP_CHMAP, .TR_CFG, .TR_INV, .WQ_CFG, .WQ_CTX_SEL,
    .WQ_ADM_CFG, .WQ_ADM_DB, .EV_COMPLETE, .EV_SIL_MOD, .EV_SIL_DB, .EV_ROUTE_DATA, .EV_PICC_MAP, .TB_PHASE, .TB_ADJ,
    .PC_SEL, .PC_DUMP_CTRL, .PC_RATE_SEL, .PW_CFG, .BT_CTRL, .BT_FUSE_CTRL, .BT_DEBUG, .SV_RO_THR, .SV_LMAP,
    .SV_RETIRED, .SV_REPAIR_CMD] ∧ WriteOpen m a.toNat d.toNat s) :=
  ⟨(.stw : Master), ((BitVec.ofNat 26 (loc .TB_FREQ)) : BitVec 26), (5 : W32), (.TB_FREQ : RegName), (0 : Nat), up,
    by decide +kernel⟩

/-- Every hypothesis of `Obligations.WindowRights` is met by some state and operands, clause by clause. -/
theorem test_witness_WindowRights :
  (∃ (m : Master) (s : State), ctlQueue m s = [] ∧ coldHeld s = false ∧ romOff 0 (loc .GL_WINACL % 4096) s = false ∧
    m ≠ .stw) ∧
  (∃ (d : W32) (s : State), WriteOpen .stw (loc .GL_WINACL) d.toNat s) :=
  ⟨⟨(.cpa : Master), up, by decide +kernel⟩,
   ⟨(0 : W32), up, by decide +kernel⟩⟩

/-- Every hypothesis of `Obligations.CoefficientTotal` is met by some state and operands, clause by clause. -/
theorem test_witness_CoefficientTotal :
  (∃ (m : Master) (n : Nat) (a : BitVec 26) (d : W32) (s : State), n < 18 ∧ a.toNat = loc .LN_TXEQ n ∧
    32 < eqSum d.toNat ∧ WriteOpen m (loc .LN_TXEQ n) d.toNat s) ∧
  (∃ (m : Master) (n : Nat) (a : BitVec 26) (d : W32) (s : State), n < 18 ∧ a.toNat = loc .LN_TXEQ n ∧
    eqSum d.toNat ≤ 32 ∧ WriteOpen m (loc .LN_TXEQ n) d.toNat s) :=
  ⟨⟨(.stw : Master), (0 : Nat), ((BitVec.ofNat 26 (loc .LN_TXEQ 0)) : BitVec 26), (0x1EF7FDEF : W32), up,
     by decide +kernel⟩,
   ⟨(.stw : Master), (0 : Nat), ((BitVec.ofNat 26 (loc .LN_TXEQ 0)) : BitVec 26), ((20 * 2 ^ 10) : W32), up,
     by decide +kernel⟩⟩

/-- Every hypothesis of `Obligations.SeedsHidden` is met by some state and operands, clause by clause. -/
theorem test_witness_SeedsHidden :
  (∃ (m : Master) (a : Nat) (s : State), m ≠ .stw ∧ a ∈ [loc .ST_SEED_CUR 0 0, loc .ST_SEED_CUR 0 1,
    loc .ST_SEED_NEW 0 0, loc .ST_SEED_NEW 0 1] ∧ ReadOpen m a s) :=
  ⟨(.cpa : Master), ((loc .ST_SEED_CUR 0 0) : Nat), (up |>
    fs (hdrLoc .PAGE_ACL (loc .ST_SEED_CUR 0 0 / 4096)) F.PAGE_ACL_ACL_CPA 1 : State), by decide +kernel⟩

/-- Every hypothesis of `Obligations.Semaphores` is met by some state and operands, clause by clause. -/
theorem test_witness_Semaphores :
  (∃ (m : Master) (n : BitVec 6) (k : BitVec 16) (s : State), fb (loc .GL_SEM 0 n.toNat) F.GL_SEM_HELD s = false ∧
    k ≠ 0 ∧ WriteOpen m (loc .GL_SEM 0 n.toNat) k.toNat s) ∧
  (∃ (m : Master) (n : BitVec 6) (k : BitVec 16) (s : State), fb (loc .GL_SEM 0 n.toNat) F.GL_SEM_HELD s = true ∧
    WriteOpen m (loc .GL_SEM 0 n.toNat) k.toNat s) ∧
  (∃ (m : Master) (n : BitVec 6) (k : BitVec 16) (s : State), fb (loc .GL_SEM 0 n.toNat) F.GL_SEM_HELD s = true ∧
    fg (loc .GL_SEM 0 n.toNat) F.GL_SEM_MASTER s = m.code ∧ fg (loc .GL_SEM 0 n.toNat) F.GL_SEM_TOKEN s = k.toNat ∧
    WriteOpen m (loc .GL_SEM 0 n.toNat) (2 ^ 31 + k.toNat) s) ∧
  (∃ (m : Master) (n : BitVec 6) (k : BitVec 16) (s : State),
    ((fg (loc .GL_SEM 0 n.toNat) F.GL_SEM_MASTER s ≠ m.code ∨ fg (loc .GL_SEM 0 n.toNat) F.GL_SEM_TOKEN s ≠ k.toNat)) ∧
    WriteOpen m (loc .GL_SEM 0 n.toNat) (2 ^ 31 + k.toNat) s) ∧
  (∃ (n : BitVec 6) (s : State), WriteOpen .stw (loc .GL_SEM 0 n.toNat) (2 ^ 30) s) ∧
  (∃ (m : Master) (n : BitVec 6) (s : State), m ≠ .stw ∧ WriteOpen m (loc .GL_SEM 0 n.toNat) (2 ^ 30) s) :=
  ⟨⟨(.stw : Master), (0 : BitVec 6), (1 : BitVec 16), (up |>
     fs (loc .GL_SEM 0 (0 : BitVec 6).toNat) F.GL_SEM_HELD 0 : State), by decide +kernel⟩,
   ⟨(.stw : Master), (0 : BitVec 6), (0 : BitVec 16), (up |>
     fs (loc .GL_SEM 0 (0 : BitVec 6).toNat) F.GL_SEM_HELD 1 : State), by decide +kernel⟩,
   ⟨(.stw : Master), (0 : BitVec 6), (1 : BitVec 16), (wr (loc .GL_SEM 0 0) (2 ^ 31 + 2 * 2 ^ 28 + 1) up : State),
     by decide +kernel⟩,
   ⟨(.stw : Master), (0 : BitVec 6), (0 : BitVec 16), up, by decide +kernel⟩,
   ⟨(0 : BitVec 6), up, by decide +kernel⟩,
   ⟨(.cpa : Master), (0 : BitVec 6), (up |>
     fs (hdrLoc .PAGE_ACL (loc .GL_SEM 0 0 / 4096)) F.PAGE_ACL_ACL_CPA 3 : State), by decide +kernel⟩⟩

/-- Every hypothesis of `Obligations.SemaphoresAtReset` is met by some state and operands, clause by clause. -/
theorem test_witness_SemaphoresAtReset :
  (∃ (n : Nat) (s : State), n < 64 ∧ s.pins.rstN = true) ∧
  (∃ (n : Nat) (s : State), n < 64 ∧ s.pins.warmN = true ∧ coldHeld s = false) :=
  ⟨⟨(0 : Nat), (up |> (fun s => { s with pins := { s.pins with rstN := true } }) : State), by decide +kernel⟩,
   ⟨(0 : Nat), (up |> (fun s => { s with pins := { s.pins with warmN := true } }) : State), by decide +kernel⟩⟩

/-- Every hypothesis of `Obligations.AliasesAndWideRegisters` is met by some state and operands, clause by clause. -/
theorem test_witness_AliasesAndWideRegisters :
  (∃ (m : Master) (pg : BitVec 8) (w : BitVec 8) (d : W32) (s : State), (pageOf pg.toNat).isSome = true ∧
    clientPcs (pg.toNat * 4096 + 0x800 + 4 * w.toNat) s = false ∧
    WriteOpen m (pg.toNat * 4096 + 0x800 + 4 * w.toNat) d.toNat s) ∧
  (∃ (m : Master) (pg : BitVec 8) (w : BitVec 8) (d : W32) (s : State), (pageOf pg.toNat).isSome = true ∧
    clientPcs (pg.toNat * 4096 + 0xC00 + 4 * w.toNat) s = false ∧
    WriteOpen m (pg.toNat * 4096 + 0xC00 + 4 * w.toNat) d.toNat s) ∧
  (∃ (a : Nat) (i : Nat) (k : Nat) (n : RegName), regAt (a / 4096) (a % 4096) = some (n, k, false) ∧ n ≠ .PC_WRAP ∧
    i < 32) ∧
  (∃ (a : Nat) (i : Nat) (k : Nat) (n : RegName), regAt (a / 4096) (a % 4096) = some (n, k, false) ∧ i < 32) ∧
  (∃ (m : Master) (a : BitVec 26) (s : State), a.toNat = loc .SC_PFC_BANDS 0 ∧ ReadOpen m a.toNat s) ∧
  (∃ (m : Master) (a : BitVec 26) (d : W32) (s : State), a.toNat = loc .SC_PFC_BANDS 0 ∧
    WriteOpen m a.toNat d.toNat s) ∧
  (∃ (m : Master) (a : BitVec 26) (lo : W32) (hi : W32) (s : State), a.toNat = loc .SC_PFC_BANDS 0 + 4 ∧
    sget none s.ctl.staged m.code = some (loc .SC_PFC_BANDS 0, lo) ∧ WriteOpen m a.toNat hi.toNat s) :=
  ⟨⟨(.stw : Master), (0 : BitVec 8), (0 : BitVec 8), (0 : W32), up, by decide +kernel⟩,
   ⟨(.stw : Master), (0 : BitVec 8), (0 : BitVec 8), (0 : W32), up, by decide +kernel⟩,
   ⟨((loc .TB_FREQ) : Nat), (0 : Nat), (0 : Nat), (.TB_FREQ : RegName), by decide +kernel⟩,
   ⟨((loc .TB_FREQ) : Nat), (0 : Nat), (0 : Nat), (.TB_FREQ : RegName), by decide +kernel⟩,
   ⟨(.stw : Master), ((BitVec.ofNat 26 (loc .SC_PFC_BANDS 0)) : BitVec 26), up, by decide +kernel⟩,
   ⟨(.stw : Master), ((BitVec.ofNat 26 (loc .SC_PFC_BANDS 0)) : BitVec 26), (0 : W32), up, by decide +kernel⟩,
   ⟨(.stw : Master), ((BitVec.ofNat 26 (loc .SC_PFC_BANDS 0 + 4)) : BitVec 26), (0 : W32), (0 : W32),
     ({ up with ctl := { up.ctl with staged := [(2, some (loc .SC_PFC_BANDS 0, (0 : W32)))] } } : State),
     by decide +kernel⟩⟩

/-- Every hypothesis of `Obligations.QueueScansAndDoorbells` is met by some state and operands, clause by clause. -/
theorem test_witness_QueueScansAndDoorbells :
  (∃ (q : Nat) (s : State), (getSq q s).stopRoom = true ∧ (getSq q s).state = .active ∧ (getSq q s).scanning = false ∧
    (getSq q s).refetch = false ∧ scanHeld (getSq q s) s = false ∧ cached q s < prefetch s) ∧
  (∃ (q : Nat) (s : State), (getSq q s).stopRoom = false) ∧
  (∃ (p : Nat) (s : State), (getPair (pairOf p) s).stopRoom = true) ∧
  (∃ (p : Nat) (s : State), (getPair (pairOf p) s).stopRoom = false) ∧
  (∃ (n : Nat) (s : State), n < 16 ∧ (getTe (48 + n) s).scanning = false ∧ (getTe (48 + n) s).closing = false ∧
    (getTe (48 + n) s).rescan = false ∧ (getTe (48 + n) s).stopRoom = true) ∧
  (∃ (n : Nat) (s : State), n < 16 ∧ (getTe (48 + n) s).scanning = false ∧ (getTe (48 + n) s).closing = false ∧
    (getTe (48 + n) s).rescan = true) ∧
  (∃ (c : Nat) (s : State), (getCq c s).state = .active ∧ (getCq c s).scan = false ∧
    (getCq c s).credit < creditMax (getCq c s).logSize) ∧
  (∃ (c : Nat) (s : State), (getCq c s).state = .active ∧ (getCq c s).scan = true) ∧
  (∃ (c : Nat) (s : State), (getCq c s).episode = true ∧ fg (loc .WQ_CFG) F.WQ_CFG_CQ_POLL s ≠ 0) ∧
  (∃ (c : Nat) (s : State), (((getCq c s).episode = false ∨ fg (loc .WQ_CFG) F.WQ_CFG_CQ_POLL s = 0))) ∧
  (∃ (q : Nat) (f : Nat) (s : State), f ∈ (getSq q s).waiting) ∧
  (∃ (q : Nat) (f : Nat) (s : State), f ∉ (getSq q s).waiting) ∧
  (∃ (n : Nat) (g : Fence) (s : State), s.wq.fences.find? (fun h => h.id == n) = some g ∧ (((∃ o, o ∈ s.wq.outs ∧
    o < g.upto) ∨ (∃ h, h ∈ s.wq.fences ∧ h.id < n)))) ∧
  (∃ (n : Nat) (g : Fence) (s : State), s.wq.fences.find? (fun h => h.id == n) = some g ∧ ((∀ o,
    o ∈ s.wq.outs → g.upto ≤ o)) ∧ ((∀ h, h ∈ s.wq.fences → n ≤ h.id))) ∧
  (∃ (f : Nat) (h : Nat) (q : Nat) (s : State), f < 4096 ∧ h < 512 ∧ inReset s = false ∧ islRun 4 s = true ∧
    blockEntering s = false ∧ duRole s ≠ 2 ∧ handleQueue f h s = some (.inl q) ∧ (getSq q s).state = .active) ∧
  (∃ (f : Nat) (h : Nat) (c : Nat) (s : State), f < 4096 ∧ h < 512 ∧ inReset s = false ∧ islRun 4 s = true ∧
    blockEntering s = false ∧ duRole s ≠ 2 ∧ handleQueue f h s = some (.inr c) ∧ (getCq c s).state = .active) ∧
  (∃ (f : Nat) (h : Nat) (s : State), f < 4096 ∧ h < 512 ∧ inReset s = false ∧ islRun 4 s = true ∧
    blockEntering s = false ∧ duRole s ≠ 2 ∧ handleQueue f h s = none) ∧
  (∃ (f : Nat) (w : Nat) (h : Nat) (s : State), f < 4096 ∧ w < 4096 ∧ h < 512 ∧ w ≠ f ∧ inReset s = false ∧
    islRun 4 s = true) ∧
  (∃ (t : State) (s : State), t = setFlag (loc .WQ_EVENT) F.WQ_EVENT_DB_VIOLATION (bump (cWq 1) s)) ∧
  (∃ (f : Nat) (h : Nat) (s : State), f < 4096 ∧ h < 512 ∧ inReset s = false ∧ (islRun 4 s = false ∨ duRole s = 2) ∧
    fb (loc .PW_CFG) F.PW_CFG_DB_WAKE s = false ∧ s.pw.bells.contains (f, h) = false) ∧
  (∃ (m : Master) (s : State), ctlQueue m s = [] ∧ inReset s = false ∧ winRight F.GL_WINACL_DB_WR m s = true ∧
    windowsOff s = false) ∧
  (∃ (f : Nat) (a : Nat) (s : State), f < 4096 ∧ a < 2 ^ 21 ∧ inReset s = false) ∧
  (∃ (m : Master) (s : State), ctlQueue m s = [] ∧ inReset s = false ∧ winRight F.GL_WINACL_DB_WR m s = false) :=
  ⟨⟨(0 : Nat), (up |> (fun s => setSq (0 : Nat) { getSq (0 : Nat) s with stopRoom := true } s) |>
     (fun s => setSq (0 : Nat) { getSq (0 : Nat) s with state := .active } s) |>
     (fun s => setSq (0 : Nat) { getSq (0 : Nat) s with scanning := false } s) |>
     (fun s => setSq (0 : Nat) { getSq (0 : Nat) s with refetch := false } s) : State), by decide +kernel⟩,
   ⟨(0 : Nat), (up |> (fun s => setSq (0 : Nat) { getSq (0 : Nat) s with stopRoom := false } s) : State),
     by decide +kernel⟩,
   ⟨(0 : Nat), (setPair 1 { getPair 1 up with stopRoom := true } up : State), by decide +kernel⟩,
   ⟨(0 : Nat), up, by decide +kernel⟩,
   ⟨(0 : Nat), (up |> (fun s => setTe (48 + (0 : Nat)) { getTe (48 + (0 : Nat)) s with scanning := false } s) |>
     (fun s => setTe (48 + (0 : Nat)) { getTe (48 + (0 : Nat)) s with closing := false } s) |>
     (fun s => setTe (48 + (0 : Nat)) { getTe (48 + (0 : Nat)) s with rescan := false } s) |>
     (fun s => setTe (48 + (0 : Nat)) { getTe (48 + (0 : Nat)) s with stopRoom := true } s) : State),
     by decide +kernel⟩,
   ⟨(0 : Nat), (up |> (fun s => setTe (48 + (0 : Nat)) { getTe (48 + (0 : Nat)) s with scanning := false } s) |>
     (fun s => setTe (48 + (0 : Nat)) { getTe (48 + (0 : Nat)) s with closing := false } s) |>
     (fun s => setTe (48 + (0 : Nat)) { getTe (48 + (0 : Nat)) s with rescan := true } s) : State), by decide +kernel⟩,
   ⟨(0 : Nat), (up |> (fun s => setCq (0 : Nat) { getCq (0 : Nat) s with state := .active } s) |>
     (fun s => setCq (0 : Nat) { getCq (0 : Nat) s with scan := false } s) : State), by decide +kernel⟩,
   ⟨(0 : Nat), (up |> (fun s => setCq (0 : Nat) { getCq (0 : Nat) s with state := .active } s) |>
     (fun s => setCq (0 : Nat) { getCq (0 : Nat) s with scan := true } s) : State), by decide +kernel⟩,
   ⟨(0 : Nat), (up |> (fun s => setCq (0 : Nat) { getCq (0 : Nat) s with episode := true } s) |>
     fs (loc .WQ_CFG) F.WQ_CFG_CQ_POLL 1 : State), by decide +kernel⟩,
   ⟨(0 : Nat), up, by decide +kernel⟩,
   ⟨(0 : Nat), (0 : Nat), (setSq 0 { getSq 0 up with waiting := [0] } up : State), by decide +kernel⟩,
   ⟨(0 : Nat), (0 : Nat), up, by decide +kernel⟩,
   ⟨(0 : Nat), ({ id := 0, upto := 5, cmd := none } : Fence),
     ({ up with wq := { up.wq with fences := [({ id := 0, upto := 5, cmd := none } : Fence)], outs := [1] } } : State),
     by decide +kernel⟩,
   ⟨(0 : Nat), ({ id := 0, upto := 5, cmd := none } : Fence),
     ({ up with wq := { up.wq with fences := [({ id := 0, upto := 5, cmd := none } : Fence)], outs := [7] } } : State),
     by decide +kernel⟩,
   ⟨(0 : Nat), (0 : Nat), (0 : Nat), (queues up : State), by decide +kernel⟩,
   ⟨(0 : Nat), (1 : Nat), (0 : Nat), (queues up : State), by decide +kernel⟩,
   ⟨(0 : Nat), (0 : Nat), up, by decide +kernel⟩,
   ⟨(0 : Nat), (1 : Nat), (0 : Nat), up, by decide +kernel⟩,
   ⟨((setFlag (loc .WQ_EVENT) F.WQ_EVENT_DB_VIOLATION (bump (cWq 1) up)) : State), up, by decide +kernel⟩,
   ⟨(0 : Nat), (0 : Nat), (setIsl 4 { isl 4 up with st := .sleep } up |> fs (loc .PW_CFG) F.PW_CFG_DB_WAKE 0 : State),
     by decide +kernel⟩,
   ⟨(.stw : Master), up, by decide +kernel⟩,
   ⟨(0 : Nat), (0 : Nat), up, by decide +kernel⟩,
   ⟨(.cpa : Master), (fs (loc .GL_WINACL) F.GL_WINACL_DB_WR 0 up : State), by decide +kernel⟩⟩

/-- Every hypothesis of `Obligations.SourcesMessagesAndSillageScans` is met by some state and operands, clause by clause. -/
theorem test_witness_SourcesMessagesAndSillageScans :
  (∃ (i : BitVec 3) (s : State), coldHeld s = false ∧ i.toNat ≠ 6 ∧ bit (rd (loc .EV_PRIV) s) i.toNat = false) ∧
  (∃ (i : BitVec 3) (s : State), coldHeld s = false ∧ i.toNat ≠ 6 ∧ bit (rd (loc .EV_PRIV) s) i.toNat = true) ∧
  (∃ (s : State), coldHeld s = false) ∧
  (∃ (m : Master) (d : W32) (s : State), codedSource (bit d.toNat 31) d.toNat ∈ s.ev.claims ∧
    WriteOpen m (loc .EV_COMPLETE) d.toNat s) ∧
  (∃ (m : Master) (d : W32) (s : State), codedSource (bit d.toNat 31) d.toNat ∉ s.ev.claims ∧
    WriteOpen m (loc .EV_COMPLETE) d.toNat s) ∧
  (∃ (m : Master) (i : BitVec 4) (d : W32) (s : State), i.toNat < 8 ∧
    WriteOpen m (loc .EV_PRIV_ROUTE 0 i.toNat) d.toNat s) ∧
  (∃ (m : Master) (i : BitVec 4) (d : W32) (s : State), 8 ≤ i.toNat ∧ WriteOpen m (loc .EV_ROUTE_DATA) d.toNat s) ∧
  (∃ (s : State), (pageOf (fg (loc .EV_ROUTE_PTR) F.EV_ROUTE_PTR_PAGE s)).isSome = true) ∧
  (∃ (m : Master) (n : BitVec 5) (d : W32) (s : State), bit d.toNat 31 = false ∧
    WriteOpen m (loc .EV_PICC_MAP 0 n.toNat) d.toNat s) ∧
  (∃ (m : Master) (n : BitVec 5) (d : W32) (s : State), bit d.toNat 31 = true ∧
    isMgmt (codedSource (bit d.toNat 30) d.toNat) = true ∧ (∀ k,
    k < 32 → k ≠ n.toNat → piccSource k s ≠ some (codedSource (bit d.toNat 30) d.toNat)) ∧
    WriteOpen m (loc .EV_PICC_MAP 0 n.toNat) d.toNat s) ∧
  (∃ (m : Master) (n : BitVec 5) (d : W32) (s : State), bit d.toNat 31 = true ∧
    (isMgmt (codedSource (bit d.toNat 30) d.toNat) = false ∨ ∃ k, k < 32 ∧ k ≠ n.toNat ∧
    piccSource k s = some (codedSource (bit d.toNat 30) d.toNat)) ∧
    WriteOpen m (loc .EV_PICC_MAP 0 n.toNat) d.toNat s) ∧
  (∃ (d : BitVec 16) (w : Window) (s : State), s.ev.windows.find? (fun v => v.domain == d.toNat) = some w ∧
    islRun 2 s = false) ∧
  (∃ (d : BitVec 16) (s : State), s.ev.windows.find? (fun v => v.domain == d.toNat) = none) ∧
  (∃ (d : BitVec 16) (w : Window) (s : State), s.ev.windows.find? (fun v => v.domain == d.toNat) = some w ∧
    islRun 2 s = true) ∧
  (∃ (q : BitVec 10) (s : State), (getSil q.toNat s).moderating = true) ∧
  (∃ (q : BitVec 10) (s : State), (getSil q.toNat s).moderating = false) ∧
  (∃ (q : Nat) (s : State), (getSil q s).msgWait = true) ∧
  (∃ (q : Nat) (s : State), (getSil q s).msgWait = false) ∧
  (∃ (tg : Nat) (q : Nat) (l : List (Nat × Nat)) (s : State), s.ev.nfp = (tg, q) :: l ∧ (getSil q s).msgDue = true) ∧
  (∃ (tg : Nat) (q : Nat) (l : List (Nat × Nat)) (s : State), s.ev.nfp = (tg, q) :: l ∧ (getSil q s).msgDue = false) ∧
  (∃ (q : BitVec 10) (s : State), (getSil q.toNat s).state = .active ∧ (getSil q.toNat s).scan = false ∧
    (getSil q.toNat s).credit < creditMax (getSil q.toNat s).logSize) ∧
  (∃ (q : BitVec 10) (s : State), (((getSil q.toNat s).credit = 0 ∨ (getSil q.toNat s).lost ≠ 0))) ∧
  (∃ (q : BitVec 10) (s : State), (getSil q.toNat s).credit ≠ 0 ∧ (getSil q.toNat s).lost = 0) ∧
  (∃ (m : Master) (q : BitVec 10) (s : State), WriteOpen m (loc .EV_SIL_DB) (2 ^ 30 + q.toNat) s) ∧
  (∃ (m : Master) (q : BitVec 10) (s : State), (getSil q.toNat (silScanStart q.toNat s)).state = .active ∧
    WriteOpen m (loc .EV_SIL_DB) (2 ^ 31 + q.toNat) s) ∧
  (∃ (q : Nat) (s : State), (getSil q s).state = .active ∧ (getSil q s).armPending = true ∧
    (getSil q s).outRecs = unissued (ofSil q) s) ∧
  (∃ (q : Nat) (s : State), (getSil q s).armPending = true ∧ unissued (ofSil q) s < (getSil q s).outRecs) :=
  ⟨⟨(0 : BitVec 3), up, by decide +kernel⟩,
   ⟨(0 : BitVec 3), (wr (loc .EV_PRIV) 1 up : State), by decide +kernel⟩,
   ⟨up, by decide +kernel⟩,
   ⟨(.stw : Master), (0x80000000 : W32), ({ up with ev := { up.ev with claims := [2 ^ 31] } } : State),
     by decide +kernel⟩,
   ⟨(.stw : Master), (0 : W32), up, by decide +kernel⟩,
   ⟨(.stw : Master), (0 : BitVec 4), (0 : W32), up, by decide +kernel⟩,
   ⟨(.stw : Master), (8 : BitVec 4), (0 : W32), up, by decide +kernel⟩,
   ⟨up, by decide +kernel⟩,
   ⟨(.stw : Master), (0 : BitVec 5), (0 : W32), up, by decide +kernel⟩,
   ⟨.stw, 0, 0xC0000000, up, by decide +kernel, by decide +kernel,
     fun k h _ => by interval_cases k <;> decide +kernel, by decide +kernel⟩,
   ⟨.stw, 0, 0x80FFFFFF, up, by decide +kernel, .inl (by decide +kernel), by decide +kernel⟩,
   ⟨(0 : BitVec 16), wWin,
     (setIsl 2 { isl 2 up with st := .sleep } { up with ev := { up.ev with windows := [wWin] } } : State),
     by decide +kernel⟩,
   ⟨(0 : BitVec 16), up, by decide +kernel⟩,
   ⟨(0 : BitVec 16), wWin, ({ up with ev := { up.ev with windows := [wWin] } } : State), by decide +kernel⟩,
   ⟨(0 : BitVec 10), (up |>
     (fun s => setSil (0 : BitVec 10).toNat { getSil (0 : BitVec 10).toNat s with moderating := true } s) : State),
     by decide +kernel⟩,
   ⟨(0 : BitVec 10), (up |>
     (fun s => setSil (0 : BitVec 10).toNat { getSil (0 : BitVec 10).toNat s with moderating := false } s) : State),
     by decide +kernel⟩,
   ⟨(0 : Nat), (up |> (fun s => setSil (0 : Nat) { getSil (0 : Nat) s with msgWait := true } s) : State),
     by decide +kernel⟩,
   ⟨(0 : Nat), (up |> (fun s => setSil (0 : Nat) { getSil (0 : Nat) s with msgWait := false } s) : State),
     by decide +kernel⟩,
   ⟨(0 : Nat), (0 : Nat), ([] : List (Nat × Nat)),
     (setSil 0 { Sil.none with state := .active, msgDue := true } { up with ev := { up.ev with nfp := [(0, 0)] } } : State),
     by decide +kernel⟩,
   ⟨(0 : Nat), (0 : Nat), ([] : List (Nat × Nat)),
     ({ up with ev := { up.ev with nfp := [((0 : Nat), (0 : Nat))] } } : State), by decide +kernel⟩,
   ⟨(0 : BitVec 10), (up |>
     (fun s => setSil (0 : BitVec 10).toNat { getSil (0 : BitVec 10).toNat s with state := .active } s) |>
     (fun s => setSil (0 : BitVec 10).toNat { getSil (0 : BitVec 10).toNat s with scan := false } s) : State),
     by decide +kernel⟩,
   ⟨(0 : BitVec 10), up, by decide +kernel⟩,
   ⟨(0 : BitVec 10), (setSil 0 { getSil 0 up with credit := 1 } up : State), by decide +kernel⟩,
   ⟨(.stw : Master), (0 : BitVec 10), up, by decide +kernel⟩,
   ⟨(.stw : Master), (0 : BitVec 10), (queues up : State), by decide +kernel⟩,
   ⟨(0 : Nat), (up |> (fun s => setSil (0 : Nat) { getSil (0 : Nat) s with state := .active } s) |>
     (fun s => setSil (0 : Nat) { getSil (0 : Nat) s with armPending := true } s) |>
     (fun s => setSil (0 : Nat) { getSil (0 : Nat) s with outRecs := unissued (ofSil (0 : Nat)) s } s) : State),
     by decide +kernel⟩,
   ⟨(0 : Nat), (setSil 0 { Sil.none with state := .active, armPending := true, outRecs := 1 } up : State),
     by decide +kernel⟩⟩

/-- Every hypothesis of `Obligations.InsertionsAndDeletionsAreFound` is met by some state and operands, clause by clause. -/
theorem test_witness_InsertionsAndDeletionsAreFound :
  (∃ (e : Ent) (s : State), (((insertNew e s).status = St.ok ∨ (insertNew e s).status = 0x71))) ∧
  (∃ (k : Nat) (w : Nat) (e : Ent) (s : State), getWay w s.tab = some e ∧ e.key ≠ k) ∧
  (∃ (key : Nat) (s : State), (findKey key s).isSome = true) ∧
  (∃ (e : Ent) (w : Sum Nat Nat) (s : State), findKey e.key s = some w) :=
  ⟨⟨wEnt, up, by decide +kernel⟩,
   ⟨(1 : Nat), (0 : Nat), wEnt, ({ up with tab := { up.tab with ways := [(0, some wEnt)] } } : State),
     by decide +kernel⟩,
   ⟨((2 ^ 72 : Nat) : Nat),
     ({ up with tab := setWay ((locWays ((places (curSeeds up) (2 ^ 72)).b0)).headD 0) (some wEnt) up.tab } : State),
     by decide +kernel⟩,
   ⟨wEnt, ((.inl ((locWays ((places (curSeeds up) (2 ^ 72)).b0)).headD 0)) : Sum Nat Nat),
     ({ up with tab := setWay ((locWays ((places (curSeeds up) (2 ^ 72)).b0)).headD 0) (some wEnt) up.tab } : State),
     by decide +kernel⟩⟩

/-- Every hypothesis of `Obligations.LearningChangesAndAgeing` is met by some state and operands, clause by clause. -/
theorem test_witness_LearningChangesAndAgeing :
  (∃ (l : Learn) (ls : List Learn) (s : State), s.tab.learnQ = l :: ls ∧ islRun 5 s = true ∧
    (learnsUnderWay s).any (fun m => m.key == l.key) = false ∧
    fb (loc .ST_LEARN_CFG) F.ST_LEARN_CFG_LEARN_EN s = false) ∧
  (∃ (l : Learn) (ls : List Learn) (s : State), s.tab.learnQ = l :: ls ∧ islRun 5 s = true ∧
    (learnsUnderWay s).any (fun m => m.key == l.key) = false ∧
    fb (loc .ST_LEARN_CFG) F.ST_LEARN_CFG_LEARN_EN s = true ∧ ((keyType l.key % 2 = 0 ∨ 65536 ≤ l.target))) ∧
  (∃ (l : Learn) (ls : List Learn) (s : State), s.tab.learnQ = l :: ls ∧ islRun 5 s = true ∧ learnsUnderWay s = [] ∧
    s.tab.stuck = none ∧ fb (loc .ST_LEARN_CFG) F.ST_LEARN_CFG_LEARN_EN s = true ∧ keyType l.key % 2 = 1 ∧
    l.target < 65536 ∧ findKey l.key s = none) ∧
  (∃ (l : Learn) (ls : List Learn) (p : Sum Nat Nat) (e : Ent) (s : State), s.tab.learnQ = l :: ls ∧
    islRun 5 s = true ∧ (learnsUnderWay s).any (fun m => m.key == l.key) = false ∧
    fb (loc .ST_LEARN_CFG) F.ST_LEARN_CFG_LEARN_EN s = true ∧ keyType l.key % 2 = 1 ∧ l.target < 65536 ∧
    findKey l.key s = some p ∧ entAt p s = some e) ∧
  (∃ (l : Learn) (ls : List Learn) (s : State), s.tab.learnQ = l :: ls ∧ islRun 5 s = true ∧
    (learnsUnderWay s).any (fun m => m.key == l.key) = true) ∧
  (∃ (c : Change) (s : State), unitFree s = true ∧ islRun 5 s = true ∧ s.tab.stuck = some c) ∧
  (∃ (c : Change) (s : State) (t : State), unitFree s = true ∧ islRun 5 s = true ∧ s.tab.stuck = none ∧
    nextChange s = some (c, t) ∧ journaling t = true ∧ changeRecords c t ≠ []) ∧
  (∃ (c : Change) (s : State) (t : State), unitFree s = true ∧ islRun 5 s = true ∧ s.tab.stuck = none ∧
    nextChange s = some (c, t) ∧ journaling t = false) ∧
  (∃ (s : State), s.tab.acking.isSome = true) ∧
  (∃ (c : Change) (cs : List Change) (l : Learn) (ls : List Learn) (s : State), s.tab.changes = c :: cs ∧
    s.tab.offered = l :: ls ∧ s.tab.ageDue ≠ 0 ∧ agePeriod s ≠ 0) ∧
  (∃ (s : State), inReset s = false ∧ islRun 5 s = true ∧ agePeriod s ≠ 0 ∧ duRole s ≠ 2 ∧ unitFree s = true ∧
    s.tab.stuck = none ∧ s.tab.changes = [] ∧ s.tab.offered = [] ∧ s.tab.ageDue = 0 ∧ journaling s = false) ∧
  (∃ (s : State), inReset s = false ∧ islRun 5 s = true ∧ agePeriod s ≠ 0 ∧ duRole s ≠ 2 ∧
    (unitFree s = false ∨ s.tab.stuck.isSome = true)) ∧
  (∃ (s : State), agePeriod s = 0) ∧
  (∃ (s : State), duRole s = 2) ∧
  (∃ (l : Nat) (w : Nat) (e : Ent) (s : State), w ∈ locWays l ∧ getWay w s.tab = some e) ∧
  (∃ (l : Nat) (w : Nat), w ∉ locWays l) ∧
  (∃ (s : State), islRun 5 s = true) ∧
  (∃ (corr : Nat), corr ≠ 0) ∧
  (∃ (w : Nat) (e : Ent) (s : State), w < pendBase ∧ getWay w s.tab = some e) :=
  ⟨⟨(wLearn 0 : Learn), ([] : List Learn), ((fs (loc .ST_LEARN_CFG) F.ST_LEARN_CFG_LEARN_EN 0 up) |>
     fun s => { s with tab := { s.tab with learnQ := [(wLearn 0 : Learn)] } } : State), by decide +kernel⟩,
   ⟨(wLearn (0) : Learn), ([] : List Learn), ((fs (loc .ST_LEARN_CFG) F.ST_LEARN_CFG_LEARN_EN 1 up) |>
     fun s => { s with tab := { s.tab with learnQ := [(wLearn (0) : Learn)] } } : State), by decide +kernel⟩,
   ⟨(wLearn (2 ^ 72) : Learn), ([] : List Learn), ((fs (loc .ST_LEARN_CFG) F.ST_LEARN_CFG_LEARN_EN 1 up) |>
     fun s => { s with tab := { s.tab with learnQ := [(wLearn (2 ^ 72) : Learn)] } } : State), by decide +kernel⟩,
   ⟨(wLearn (2 ^ 72) : Learn), ([] : List Learn),
     ((.inl ((locWays ((places (curSeeds up) (2 ^ 72)).b0)).headD 0)) : Sum Nat Nat), wEnt,
     ((fs (loc .ST_LEARN_CFG) F.ST_LEARN_CFG_LEARN_EN 1  ({ up with tab := setWay ((locWays ((places (curSeeds up) (2 ^ 72)).b0)).headD 0) (some wEnt) up.tab })) |>
     fun s => { s with tab := { s.tab with learnQ := [(wLearn (2 ^ 72) : Learn)] } } : State), by decide +kernel⟩,
   ⟨(wLearn 0 : Learn), ([] : List Learn),
     ({ up with tab := { up.tab with learnQ := [wLearn 0], offered := [wLearn 0] } } : State), by decide +kernel⟩,
   ⟨((.learn (wLearn 0)) : Change),
     ({ up with tab := { up.tab with stuck := some ((.learn (wLearn 0)) : Change) } } : State), by decide +kernel⟩,
   ⟨((.insert 1 0 wEnt) : Change),
     ({ (up |> fs (loc .DU_STATUS) F.DU_STATUS_ROLE 1 |> fs (loc .DU_STATUS) F.DU_STATUS_PAIR 2) with tab := { up.tab with changes := [(.insert 1 0 wEnt)] } } : State),
     ({ (up |> fs (loc .DU_STATUS) F.DU_STATUS_ROLE 1 |> fs (loc .DU_STATUS) F.DU_STATUS_PAIR 2) with tab := { up.tab with changes := [], turn := 1 } } : State),
     by decide +kernel⟩,
   ⟨(.learn (wLearn 0) : Change), ({ up with tab := { up.tab with offered := [wLearn 0] } } : State),
     (((nextChange { up with tab := { up.tab with offered := [wLearn 0] } }).map (·.2) |>.getD up) : State),
     by decide +kernel⟩,
   ⟨({ up with tab := { up.tab with acking := some (.age 0, 0) } } : State), by decide +kernel⟩,
   ⟨(.age 0 : Change), ([] : List Change), (wLearn 0 : Learn), ([] : List Learn),
     ({ up with tab := { up.tab with changes := [(.age 0 : Change)], offered := [(wLearn 0 : Learn)], ageDue := 1 } } : State),
     by decide +kernel⟩,
   ⟨(up |> (fun s => { s with tab := { s.tab with stuck := none } }) |>
     (fun s => { s with tab := { s.tab with changes := [] } }) |>
     (fun s => { s with tab := { s.tab with offered := [] } }) |>
     (fun s => { s with tab := { s.tab with ageDue := 0 } }) : State), by decide +kernel⟩,
   ⟨(fs (loc .ST_TIMING) F.ST_TIMING_AGE_PERIOD 1 { up with tab := { up.tab with acking := some (.age 0, 0) } } : State),
     by decide +kernel⟩,
   ⟨(fs (loc .ST_TIMING) F.ST_TIMING_AGE_PERIOD 0 up : State), by decide +kernel⟩,
   ⟨(up |> fs (loc .DU_STATUS) F.DU_STATUS_ROLE 2 : State), by decide +kernel⟩,
   ⟨(0 : Nat), (0 : Nat), wEnt, ({ up with tab := { up.tab with ways := [(0, some wEnt)] } } : State),
     by decide +kernel⟩,
   ⟨(0 : Nat), (9 : Nat), by decide +kernel⟩,
   ⟨up, by decide +kernel⟩,
   ⟨(1 : Nat), by decide +kernel⟩,
   ⟨(0 : Nat), wEnt, ({ up with tab := { up.tab with ways := [(0, some wEnt)] } } : State), by decide +kernel⟩⟩

/-- Every hypothesis of `Obligations.Rehash` is met by some state and operands, clause by clause. -/
theorem test_witness_Rehash :
  (∃ (m : Master) (s : State), rhState s = 0 ∧ fb (loc .ST_CFG) F.ST_CFG_SEED_RANDOM s = false ∧
    rd (loc .ST_SEED_NEW 0 0) s ≠ rd (loc .ST_SEED_NEW 0 1) s ∧ (rd (loc .ST_SEED_NEW 0 0) s,
    rd (loc .ST_SEED_NEW 0 1) s) ≠ curSeeds s ∧ WriteOpen m (loc .ST_RH_CTRL) (2 ^ 31) s) ∧
  (∃ (m : Master) (s : State), rhState s ≠ 0 ∧ WriteOpen m (loc .ST_RH_CTRL) (2 ^ 31) s) ∧
  (∃ (m : Master) (s : State), rhState s = 1 ∧ s.tab.finishing = false ∧ WriteOpen m (loc .ST_RH_CTRL) (2 ^ 30) s) ∧
  (∃ (m : Master) (s : State), rhState s = 2 ∧ WriteOpen m (loc .ST_RH_CTRL) (2 ^ 29) s) ∧
  (∃ (m : Master) (s : State), rhState s ≠ 0 ∧ s.tab.finishing = false ∧ rhReverse s = false ∧
    WriteOpen m (loc .ST_RH_CTRL) (2 ^ 28) s) ∧
  (∃ (s : State) (t : State), stepReady s = true ∧ islRun 5 s = true ∧ rhCursor s < 528383 ∧
    replaceWays (locWays (rhCursor s)) s = (true, t)) ∧
  (∃ (s : State) (t : State), stepReady s = true ∧ islRun 5 s = true ∧ replaceWays (locWays (rhCursor s)) s = (false,
    t)) ∧
  (∃ (n : Nat × Nat) (s : State), s.tab.finishing = true ∧ islRun 5 s = true ∧ rhReverse s = false ∧
    s.tab.newSeeds = some n ∧ s.tab.stuck = none ∧ n.1 < 2 ^ 32 ∧ n.2 < 2 ^ 32 ∧ ∀ p c,
    c ∈ (getPair p s).cmds → c.opcode ≠ 0x13) ∧
  (∃ s : State, s.tab.finishing = true ∧ islRun 5 s = true ∧ rhReverse s = true ∧ s.tab.stuck = none ∧ ∀ p c,
    c ∈ (getPair p s).cmds → c.opcode ≠ 0x13) :=
  ⟨⟨(.stw : Master), (up |> fs (loc .ST_CFG) F.ST_CFG_SEED_RANDOM 0 |> wr (loc .ST_SEED_NEW 0 0) 1 |>
     wr (loc .ST_SEED_NEW 0 1) 2 : State), by decide +kernel⟩,
   ⟨(.stw : Master), (up |> fs (loc .ST_RH_STATE) F.ST_RH_STATE_STATE 1 : State), by decide +kernel⟩,
   ⟨(.stw : Master), (up |> fs (loc .ST_RH_STATE) F.ST_RH_STATE_STATE 1 |>
     (fun s => { s with tab := { s.tab with finishing := false } }) : State), by decide +kernel⟩,
   ⟨(.stw : Master), (up |> fs (loc .ST_RH_STATE) F.ST_RH_STATE_STATE 2 : State), by decide +kernel⟩,
   ⟨(.stw : Master), (up |> fs (loc .ST_RH_STATE) F.ST_RH_STATE_STATE 1 |>
     (fun s => { s with tab := { s.tab with finishing := false } }) : State), by decide +kernel⟩,
   ⟨(fs (loc .ST_RH_STATE) F.ST_RH_STATE_STATE 1 up : State),
     (((replaceWays (locWays 0) (fs (loc .ST_RH_STATE) F.ST_RH_STATE_STATE 1 up)).2) : State), by decide +kernel⟩,
   ⟨wFull, (((replaceWays (locWays 0) wFull).2) : State), by decide +kernel⟩,
   ⟨(1, 2), { up with tab := { up.tab with finishing := true, newSeeds := some (1, 2) } }, by decide +kernel,
     by decide +kernel, by decide +kernel, by decide +kernel, by decide +kernel, by decide +kernel, by decide +kernel,
     fun _ _ h => nomatch h⟩,
   ⟨{ fs (loc .ST_RH_STATE) F.ST_RH_STATE_REVERSE 1 up with tab := { up.tab with finishing := true } },
     by decide +kernel, by decide +kernel, by decide +kernel, by decide +kernel, fun _ _ h => nomatch h⟩⟩

/-- Every hypothesis of `Obligations.IndirectWindowsAndMeters` is met by some state and operands, clause by clause. -/
theorem test_witness_IndirectWindowsAndMeters :
  (∃ (k : BitVec 4) (p : Sum Nat Nat) (e : Ent) (s : State), (getWin k.toNat s).busy = some 0 ∧ islRun 5 s = true ∧
    findKey (u (getWin k.toNat s).entry 0 10) s = some p ∧ entAt p s = some e) ∧
  (∃ (k : BitVec 4) (s : State), (getWin k.toNat s).busy = some 0 ∧ islRun 5 s = true ∧
    findKey (u (getWin k.toNat s).entry 0 10) s = none) ∧
  (∃ (k : BitVec 4) (w : Nat) (e : Ent) (s : State), (getWin k.toNat s).busy = some 1 ∧ islRun 5 s = true ∧
    w < 2129920 ∧ (getWin k.toNat s).loc = wayCode w ∧ getWay w s.tab = some e) ∧
  (∃ (k : BitVec 4) (i : Nat) (e : Ent) (s : State), (getWin k.toNat s).busy = some 1 ∧ islRun 5 s = true ∧ i < 256 ∧
    (getWin k.toNat s).loc = pendCode i ∧ pendAt i s.tab = some e) ∧
  (∃ (k : BitVec 4) (w : Nat) (s : State), (getWin k.toNat s).busy = some 1 ∧ islRun 5 s = true ∧ w < 2129920 ∧
    (getWin k.toNat s).loc = wayCode w ∧ getWay w s.tab = none) ∧
  (∃ (k : BitVec 4) (w : Nat) (n : Nat) (e : Ent) (s : State), (getWin k.toNat s).busy = some 2 ∧ islRun 5 s = true ∧
    w < 2129920 ∧ (getWin k.toNat s).loc = wayCode w ∧ s.tab.ways.find? (fun p => decide (w < p.1)) = some (n,
    some e)) ∧
  (∃ (k : BitVec 4) (i j : Nat) (e : Ent) (s : State), (getWin k.toNat s).busy = some 2 ∧ islRun 5 s = true ∧
    i < 256 ∧ (getWin k.toNat s).loc = pendCode i ∧ i < j ∧ j < 256 ∧ pendAt j s.tab = some e ∧ ∀ m,
    i < m → m < j → pendAt m s.tab = none) ∧
  (∃ (k : BitVec 4) (i : Nat) (s : State), (getWin k.toNat s).busy = some 2 ∧ islRun 5 s = true ∧ i < 256 ∧
    (getWin k.toNat s).loc = pendCode i ∧ ∀ m, i < m → m < 256 → pendAt m s.tab = none) ∧
  (∃ (k : BitVec 4) (s : State), islRun 5 s = true ∧ locPlace (getWin k.toNat s).loc = none) ∧
  (∃ (m : Meter), bit (u m.cfg 3 1) 0 = true ∧ bit (u m.cfg 3 1) 1 = false) ∧
  (∃ (i : Nat) (m : Meter), bit (u m.cfg 3 1) 0 = false ∧ i ≠ 2) ∧
  (∃ (m : Master) (k : BitVec 2) (fill : Bool) (cfg : Bytes) (n : Nat) (s : State),
    cfg = (List.range 5).flatMap (fun w => bytesLE 4 (rd (loc .MT_REC k.toNat w) s)) ∧ meterBad cfg = false ∧
    n = 16384 * k.toNat + fg (loc .MT_PTR k.toNat) F.MT_PTR_INDEX s ∧
    WriteOpen m (loc .MT_CTRL k.toNat) (2 ^ 31 + b2n fill * 2 ^ 29) s) ∧
  (∃ (m : Master) (k : BitVec 2) (fill : Bool) (s : State),
    meterBad ((List.range 5).flatMap (fun w => bytesLE 4 (rd (loc .MT_REC k.toNat w) s))) = true ∧
    WriteOpen m (loc .MT_CTRL k.toNat) (2 ^ 31 + b2n fill * 2 ^ 29) s) ∧
  (∃ (m : Master) (k : BitVec 2) (w : Nat) (s : State), w < 7 ∧ WriteOpen m (loc .MT_CTRL k.toNat) (2 ^ 30) s) :=
  ⟨⟨(0 : BitVec 4), ((.inl ((locWays ((places (curSeeds up) (2 ^ 72)).b0)).headD 0)) : Sum Nat Nat), wEnt,
     (setWin 0 { getWin 0 up with entry := wEnt.bytes, busy := some 0 } ({ up with tab := setWay ((locWays ((places (curSeeds up) (2 ^ 72)).b0)).headD 0) (some wEnt) up.tab }) : State),
     by decide +kernel⟩,
   ⟨(0 : BitVec 4), (up |>
     (fun s => setWin (0 : BitVec 4).toNat { getWin (0 : BitVec 4).toNat s with busy := some 0 } s) : State),
     by decide +kernel⟩,
   ⟨(0 : BitVec 4), (0 : Nat), wEnt,
     (setWin 0 { getWin 0 up with loc := wayCode 0, busy := some 1 } ({ up with tab := { up.tab with ways := [(0, some wEnt)] } }) : State),
     by decide +kernel⟩,
   ⟨(0 : BitVec 4), (3 : Nat), wEnt,
     (setWin 0 { getWin 0 up with busy := some 1, loc := pendCode 3 } ({ up with tab := { up.tab with pend := [(3, wEnt)] } }) : State),
     by decide +kernel⟩,
   ⟨(0 : BitVec 4), (0 : Nat), (up |>
     (fun s => setWin (0 : BitVec 4).toNat { getWin (0 : BitVec 4).toNat s with busy := some 1 } s) |>
     (fun s => setWin (0 : BitVec 4).toNat { getWin (0 : BitVec 4).toNat s with loc := wayCode (0 : Nat) } s) : State),
     by decide +kernel⟩,
   ⟨(0 : BitVec 4), (0 : Nat), (7 : Nat), wEnt,
     (setWin 0 { getWin 0 up with loc := wayCode 0, busy := some 2 } ({ up with tab := { up.tab with ways := [(7, some wEnt)] } }) : State),
     by decide +kernel⟩,
   ⟨0, 3, 5, wEnt,
     setWin 0 { getWin 0 up with busy := some 2, loc := pendCode 3 } { up with tab := { up.tab with pend := [(5, wEnt)] } },
     by decide +kernel, by decide +kernel, by decide +kernel, by decide +kernel, by decide +kernel, by decide +kernel,
     by decide +kernel, fun m h1 h2 => by interval_cases m; decide +kernel⟩,
   ⟨0, 3, setWin 0 { getWin 0 up with busy := some 2, loc := pendCode 3 } up, by decide +kernel, by decide +kernel,
     by decide +kernel, by decide +kernel, fun _ _ _ => rfl⟩,
   ⟨(0 : BitVec 4), (setWin 0 { getWin 0 up with loc := 3 * 2 ^ 30 } up : State), by decide +kernel⟩,
   ⟨(wMeter 1 : Meter), by decide +kernel⟩,
   ⟨(0 : Nat), (wMeter 0 : Meter), by decide +kernel⟩,
   ⟨(.stw : Master), (0 : BitVec 2), false,
     (((List.range 5).flatMap (fun w => bytesLE 4 (rd (loc .MT_REC 0 w) up))) : Bytes),
     ((fg (loc .MT_PTR 0) F.MT_PTR_INDEX up) : Nat), up, by decide +kernel⟩,
   ⟨(.stw : Master), (0 : BitVec 2), false, (wr (loc .MT_REC 0 0) 1 up : State), by decide +kernel⟩,
   ⟨(.stw : Master), (0 : BitVec 2), (0 : Nat), up, by decide +kernel⟩⟩

/-- Every hypothesis of `Obligations.FailedChecksHaveNoEffect` is met by some state and operands, clause by clause. -/
theorem test_witness_FailedChecksHaveNoEffect :
  (∃ (r : Nat × Nat × (Nat → AdmEntry → Instr)) (p : Nat) (e : AdmEntry) (st : Nat) (s : State), r ∈ admRows ∧
    st ≠ St.ok ∧ Accepts r.1 r.2.1 p e s ∧ startCheck (pairOf p) (entryBytes e) (takenCmd p e s) = st) :=
  ⟨(0x01, 0, .sqCreate), 0, wEntry [1], St.adminBadParameter, admUp up, .head _, by decide +kernel,
    ⟨by decide +kernel, by decide +kernel, by decide +kernel, by decide +kernel, by decide +kernel, by decide +kernel,
    by decide +kernel⟩, by decide +kernel⟩

/-- Every hypothesis of `Obligations.QueueCommandsAndTheirQueues` is met by some state and operands, clause by clause. -/
theorem test_witness_QueueCommandsAndTheirQueues :
  (∃ (p : Nat) (e : AdmEntry) (s : State), journaling s = false ∧ Accepts 0x01 0 p e s ∧
    startCheck (pairOf p) (entryBytes e) (takenCmd p e s) = St.ok) ∧
  (∃ (p : Nat) (e : AdmEntry) (s : State), journaling s = false ∧ Accepts 0x04 0 p e s ∧
    startCheck (pairOf p) (entryBytes e) (takenCmd p e s) = St.ok) ∧
  (∃ (p : Nat) (e : AdmEntry) (s : State), journaling s = false ∧ Accepts 0x06 0 p e s ∧
    startCheck (pairOf p) (entryBytes e) (takenCmd p e s) = St.ok) ∧
  (∃ (p : Nat) (e : AdmEntry) (s : State), journaling s = false ∧ Accepts 0x08 0 p e s ∧
    startCheck (pairOf p) (entryBytes e) (takenCmd p e s) = St.ok) ∧
  (∃ (p : Nat) (e : AdmEntry) (s : State), journaling s = false ∧ Accepts 0x0B 0 p e s ∧
    startCheck (pairOf p) (entryBytes e) (takenCmd p e s) = St.ok) ∧
  (∃ (p : Nat) (e : AdmEntry) (s : State), journaling s = false ∧ Accepts 0x0C 0 p e s ∧
    startCheck (pairOf p) (entryBytes e) (takenCmd p e s) = St.ok) ∧
  (∃ (p : Nat) (q : Nat) (e : AdmEntry) (s : State) (t : State), journaling s = false ∧ q = qnum (entryBytes e) ∧
    t = createCq (entryBytes e) (runningCmd p e s) ∧ Accepts 0x02 0 p e s ∧
    startCheck (pairOf p) (entryBytes e) (takenCmd p e s) = St.ok) ∧
  (∃ (p : Nat) (q : Nat) (e : AdmEntry) (s : State) (t : State), journaling s = false ∧ q = qnum (entryBytes e) ∧
    t = createSil (entryBytes e) (runningCmd p e s) ∧ Accepts 0x07 0 p e s ∧
    startCheck (pairOf p) (entryBytes e) (takenCmd p e s) = St.ok) ∧
  (∃ (p : Nat) (e : AdmEntry) (s : State), Accepts 0x03 0 p e s ∧
    startCheck (pairOf p) (entryBytes e) (takenCmd p e s) = St.ok) ∧
  (∃ (p : Nat) (e : AdmEntry) (s : State), Accepts 0x05 0 p e s ∧
    startCheck (pairOf p) (entryBytes e) (takenCmd p e s) = St.ok) ∧
  (∃ (p : Nat) (e : AdmEntry) (s : State), Accepts 0x0F 0 p e s ∧
    startCheck (pairOf p) (entryBytes e) (takenCmd p e s) = St.ok) ∧
  (∃ (p : Nat) (e : AdmEntry) (r : Rebind) (s : State) (t : State), t = runningCmd p e s ∧
    r = { silBind := false, obj := if bit (u (entryBytes e) 12 1) 1 then admWho (pairOf p) else cqWho (qnum (entryBytes e)), pair := pairOf p, cmd := cmdNo p s, newSil := u (entryBytes e) 10 2, newValid := bit (u (entryBytes e) 12 1) 0, sent := false, later := [] } ∧
    Accepts 0x09 0 p e s ∧ startCheck (pairOf p) (entryBytes e) (takenCmd p e s) = St.ok) ∧
  (∃ (p : Nat) (e : AdmEntry) (r : Rebind) (s : State) (t : State), t = runningCmd p e s ∧
    r = { silBind := true, obj := qnum (entryBytes e), pair := pairOf p, cmd := cmdNo p s, newSil := u (entryBytes e) 10 1, newValid := true, sent := false, later := [] } ∧
    Accepts 0x0A 0 p e s ∧ startCheck (pairOf p) (entryBytes e) (takenCmd p e s) = St.ok) ∧
  (∃ (b : Bytes) (i : Nat), i < u b 14 1) :=
  ⟨⟨(0 : Nat), ((wEntry [1, 0, 0, 0, 0, 0, 0, 0, 1, 0, 0, 0, 5, 0, 1, 8, 0, 0, 0, 0, 0, 0, 0, 0, 0, 0, 0, 0, 0, 0,
     0]) : AdmEntry), (admUp (queues up) : State), by decide +kernel, ⟨by decide +kernel, by decide +kernel,
     by decide +kernel, by decide +kernel, by decide +kernel, by decide +kernel, by decide +kernel⟩,
     by decide +kernel⟩,
   ⟨(0 : Nat), ((wEntry [4]) : AdmEntry), (admUp (queues up) |> setSq 0 Sq.none : State), by decide +kernel,
     ⟨by decide +kernel, by decide +kernel, by decide +kernel, by decide +kernel, by decide +kernel,
     by decide +kernel, by decide +kernel⟩, by decide +kernel⟩,
   ⟨(0 : Nat), ((wEntry [6]) : AdmEntry), (admUp (queues up) |> setSq 0 Sq.none : State), by decide +kernel,
     ⟨by decide +kernel, by decide +kernel, by decide +kernel, by decide +kernel, by decide +kernel,
     by decide +kernel, by decide +kernel⟩, by decide +kernel⟩,
   ⟨(0 : Nat), ((wEntry [8]) : AdmEntry), (admUp (queues up) : State), by decide +kernel, ⟨by decide +kernel,
     by decide +kernel, by decide +kernel, by decide +kernel, by decide +kernel, by decide +kernel,
     by decide +kernel⟩, by decide +kernel⟩,
   ⟨(0 : Nat), ((wEntry [0x0B]) : AdmEntry), (admUp up : State), by decide +kernel, ⟨by decide +kernel,
     by decide +kernel, by decide +kernel, by decide +kernel, by decide +kernel, by decide +kernel,
     by decide +kernel⟩, by decide +kernel⟩,
   ⟨(0 : Nat), ((wEntry [12, 0, 0, 0, 0, 0, 0, 0, 0, 0, 0, 0, 0, 0, 1, 0, 0, 0]) : AdmEntry), (admUp up : State),
     by decide +kernel, ⟨by decide +kernel, by decide +kernel, by decide +kernel, by decide +kernel,
     by decide +kernel, by decide +kernel, by decide +kernel⟩, by decide +kernel⟩,
   ⟨(0 : Nat), (0 : Nat), ((wEntry [2, 0, 0, 0, 0, 0, 0, 0, 0, 0, 0, 0, 0, 0, 0, 8, 0, 0, 0, 0, 0, 0, 0, 0, 0, 0, 0,
     0, 0, 0, 0, 0]) : AdmEntry), (admUp up : State), ((createCq (entryBytes ((wEntry [2, 0, 0, 0, 0, 0, 0, 0, 0, 0,
     0, 0, 0, 0, 0, 8, 0, 0, 0, 0, 0, 0, 0, 0, 0, 0, 0, 0, 0, 0, 0, 0]) : AdmEntry)) (runningCmd 0 ((wEntry [2, 0, 0,
     0, 0, 0, 0, 0, 0, 0, 0, 0, 0, 0, 0, 8, 0, 0, 0, 0, 0, 0, 0, 0, 0, 0, 0, 0, 0, 0, 0,
     0]) : AdmEntry) (admUp up))) : State), by decide +kernel, by decide +kernel, by decide +kernel,
     ⟨by decide +kernel, by decide +kernel, by decide +kernel, by decide +kernel, by decide +kernel,
     by decide +kernel, by decide +kernel⟩, by decide +kernel⟩,
   ⟨(0 : Nat), (0 : Nat), ((wEntry [7, 0, 0, 0, 0, 0, 0, 0, 0, 0, 0, 0, 0, 0, 0, 8, 0, 0, 0, 0, 0, 0, 0,
     0]) : AdmEntry), (admUp up : State), ((createSil (entryBytes ((wEntry [7, 0, 0, 0, 0, 0, 0, 0, 0, 0, 0, 0, 0, 0,
     0, 8, 0, 0, 0, 0, 0, 0, 0, 0]) : AdmEntry)) (runningCmd 0 ((wEntry [7, 0, 0, 0, 0, 0, 0, 0, 0, 0, 0, 0, 0, 0, 0,
     8, 0, 0, 0, 0, 0, 0, 0, 0]) : AdmEntry) (admUp up))) : State), by decide +kernel, by decide +kernel,
     by decide +kernel, ⟨by decide +kernel, by decide +kernel, by decide +kernel, by decide +kernel,
     by decide +kernel, by decide +kernel, by decide +kernel⟩, by decide +kernel⟩,
   ⟨(0 : Nat), ((wEntry [3]) : AdmEntry), (admUp (queues up) : State), ⟨by decide +kernel, by decide +kernel,
     by decide +kernel, by decide +kernel, by decide +kernel, by decide +kernel, by decide +kernel⟩,
     by decide +kernel⟩,
   ⟨(0 : Nat), ((wEntry [5]) : AdmEntry), (admUp (queues up) : State), ⟨by decide +kernel, by decide +kernel,
     by decide +kernel, by decide +kernel, by decide +kernel, by decide +kernel, by decide +kernel⟩,
     by decide +kernel⟩,
   ⟨(0 : Nat), ((wEntry [0xF]) : AdmEntry), (admUp up : State), ⟨by decide +kernel, by decide +kernel,
     by decide +kernel, by decide +kernel, by decide +kernel, by decide +kernel, by decide +kernel⟩,
     by decide +kernel⟩,
   ⟨(0 : Nat), ((wEntry [9]) : AdmEntry),
     ({ silBind := false, obj := if bit (u (entryBytes ((wEntry [9]) : AdmEntry)) 12 1) 1 then admWho (pairOf 0) else cqWho (qnum (entryBytes ((wEntry [9]) : AdmEntry))), pair := pairOf 0, cmd := cmdNo 0 (admUp (queues up)), newSil := u (entryBytes ((wEntry [9]) : AdmEntry)) 10 2, newValid := bit (u (entryBytes ((wEntry [9]) : AdmEntry)) 12 1) 0, sent := false, later := [] } : Rebind),
     (admUp (queues up) : State), ((runningCmd 0 ((wEntry [9]) : AdmEntry) (admUp (queues up))) : State),
     by decide +kernel, by decide +kernel, ⟨by decide +kernel, by decide +kernel, by decide +kernel,
     by decide +kernel, by decide +kernel, by decide +kernel, by decide +kernel⟩, by decide +kernel⟩,
   ⟨(0 : Nat), ((wEntry [0xA]) : AdmEntry),
     ({ silBind := true, obj := qnum (entryBytes ((wEntry [0xA]) : AdmEntry)), pair := pairOf 0, cmd := cmdNo 0 (admUp (queues up)), newSil := u (entryBytes ((wEntry [0xA]) : AdmEntry)) 10 1, newValid := true, sent := false, later := [] } : Rebind),
     (admUp (queues up) : State), ((runningCmd 0 ((wEntry [0xA]) : AdmEntry) (admUp (queues up))) : State),
     by decide +kernel, by decide +kernel, ⟨by decide +kernel, by decide +kernel, by decide +kernel,
     by decide +kernel, by decide +kernel, by decide +kernel, by decide +kernel⟩, by decide +kernel⟩,
   ⟨([0, 0, 0, 0, 0, 0, 0, 0, 0, 0, 0, 0, 0, 0, 1, 0, 0, 0] : Bytes), (0 : Nat), by decide +kernel⟩⟩

/-- Every hypothesis of `Obligations.TableShaperAndBlockCommands` is met by some state and operands, clause by clause. -/
theorem test_witness_TableShaperAndBlockCommands :
  (∃ (p : Nat) (e : AdmEntry) (s : State), keyType (u (entryBytes e) 8 10) ≠ 0 ∧ Accepts 0x10 0 p e s ∧
    startCheck (pairOf p) (entryBytes e) (takenCmd p e s) = St.ok) ∧
  (∃ (p : Nat) (e : AdmEntry) (s : State), keyType (u (entryBytes e) 8 10) ≠ 0 ∧ Accepts 0x11 0 p e s ∧
    startCheck (pairOf p) (entryBytes e) (takenCmd p e s) = St.ok) ∧
  (∃ (p : Nat) (e : AdmEntry) (s : State), keyType (u (entryBytes e) 8 10) ≠ 0 ∧ Accepts 0x12 0 p e s ∧
    startCheck (pairOf p) (entryBytes e) (takenCmd p e s) = St.ok) ∧
  (∃ (p : Nat) (e : AdmEntry) (s : State), keyType (u (entryBytes e) 8 10) = 0 ∧ Accepts 0x10 0 p e s ∧
    startCheck (pairOf p) (entryBytes e) (takenCmd p e s) = St.ok) ∧
  (∃ (p : Nat) (e : AdmEntry) (s : State), keyType (u (entryBytes e) 8 10) = 0 ∧ Accepts 0x11 0 p e s ∧
    startCheck (pairOf p) (entryBytes e) (takenCmd p e s) = St.ok) ∧
  (∃ (p : Nat) (e : AdmEntry) (s : State), keyType (u (entryBytes e) 8 10) = 0 ∧ Accepts 0x12 0 p e s ∧
    startCheck (pairOf p) (entryBytes e) (takenCmd p e s) = St.ok) ∧
  (∃ (p : Nat) (e : AdmEntry) (s : State) (t : State), rehashCommand (runningCmd p e s) = some t ∧
    Accepts 0x13 0 p e s ∧ startCheck (pairOf p) (entryBytes e) (takenCmd p e s) = St.ok) ∧
  (∃ (p : Nat) (e : AdmEntry) (s : State), Accepts 0x13 1 p e s ∧
    startCheck (pairOf p) (entryBytes e) (takenCmd p e s) = St.ok) ∧
  (∃ (p : Nat) (e : AdmEntry) (s : State), Accepts 0x13 2 p e s ∧
    startCheck (pairOf p) (entryBytes e) (takenCmd p e s) = St.ok) ∧
  (∃ (p : Nat) (e : AdmEntry) (s : State), Accepts 0x13 3 p e s ∧
    startCheck (pairOf p) (entryBytes e) (takenCmd p e s) = St.ok) ∧
  (∃ (p : Nat) (e : AdmEntry) (s : State), journaling s = false ∧ Accepts 0x14 0 p e s ∧
    startCheck (pairOf p) (entryBytes e) (takenCmd p e s) = St.ok) ∧
  (∃ (p : Nat) (e : AdmEntry) (s : State), journaling s = false ∧ Accepts 0x20 0 p e s ∧
    startCheck (pairOf p) (entryBytes e) (takenCmd p e s) = St.ok) ∧
  (∃ (p : Nat) (e : AdmEntry) (s : State), bit (u (entryBytes e) 10 1) 0 = true ∧ Accepts 0x21 0 p e s ∧
    startCheck (pairOf p) (entryBytes e) (takenCmd p e s) = St.ok) ∧
  (∃ (p : Nat) (e : AdmEntry) (s : State), bit (u (entryBytes e) 10 1) 0 = false ∧ journaling s = false ∧
    Accepts 0x21 0 p e s ∧ startCheck (pairOf p) (entryBytes e) (takenCmd p e s) = St.ok) ∧
  (∃ (p : Nat) (e : AdmEntry) (s : State) (t : State),
    switchStart (u (entryBytes e) 8 1) (.command (pairOf p) (cmdNo p s)) (runningCmd p e s) = some t ∧
    Accepts 0x30 0 p e s ∧ startCheck (pairOf p) (entryBytes e) (takenCmd p e s) = St.ok) ∧
  (∃ (p : Nat) (e : AdmEntry) (s : State) (t : State), switchPark (u (entryBytes e) 8 1) (runningCmd p e s) = some t ∧
    Accepts 0x30 1 p e s ∧ startCheck (pairOf p) (entryBytes e) (takenCmd p e s) = St.ok) ∧
  (∃ (p : Nat) (e : AdmEntry) (s : State) (t : State),
    switchResume (u (entryBytes e) 8 1) (runningCmd p e s) = some t ∧ Accepts 0x30 2 p e s ∧
    startCheck (pairOf p) (entryBytes e) (takenCmd p e s) = St.ok) ∧
  (∃ (p : Nat) (e : AdmEntry) (s : State) (t : State),
    switchCancel (u (entryBytes e) 8 1) (runningCmd p e s) = some t ∧ Accepts 0x30 3 p e s ∧
    startCheck (pairOf p) (entryBytes e) (takenCmd p e s) = St.ok) ∧
  (∃ (p : Nat) (e : AdmEntry) (s : State), u (entryBytes e) 9 1 ≠ 0x1F ∧ Accepts 0x31 0 p e s ∧
    startCheck (pairOf p) (entryBytes e) (takenCmd p e s) = St.ok) ∧
  (∃ (p : Nat) (n : Nat) (e : AdmEntry) (s : State), u (entryBytes e) 9 1 = 0x1F ∧
    spareFor (u (entryBytes e) 8 1) (runningCmd p e s) = some n ∧ Accepts 0x31 0 p e s ∧
    startCheck (pairOf p) (entryBytes e) (takenCmd p e s) = St.ok) ∧
  (∃ (p : Nat) (e : AdmEntry) (s : State) (t : State), substPark (u (entryBytes e) 8 1) (runningCmd p e s) = some t ∧
    Accepts 0x31 1 p e s ∧ startCheck (pairOf p) (entryBytes e) (takenCmd p e s) = St.ok) ∧
  (∃ (p : Nat) (e : AdmEntry) (s : State) (t : State),
    substResume (u (entryBytes e) 8 1) (runningCmd p e s) = some t ∧ Accepts 0x31 2 p e s ∧
    startCheck (pairOf p) (entryBytes e) (takenCmd p e s) = St.ok) ∧
  (∃ (p : Nat) (e : AdmEntry) (s : State) (t : State),
    substCancel (u (entryBytes e) 8 1) (runningCmd p e s) = some t ∧ Accepts 0x31 3 p e s ∧
    startCheck (pairOf p) (entryBytes e) (takenCmd p e s) = St.ok) ∧
  (∃ (p : Nat) (e : AdmEntry) (s : State) (t : State),
    substEngine (u (entryBytes e) 8 1) (u (entryBytes e) 9 1) (some (pairOf p,
    cmdNo p s)) (runningCmd p e s) = some t ∧ Accepts 0x32 0 p e s ∧
    startCheck (pairOf p) (entryBytes e) (takenCmd p e s) = St.ok) ∧
  (∃ (p : Nat) (e : AdmEntry) (s : State), Accepts 0x33 0 p e s ∧
    startCheck (pairOf p) (entryBytes e) (takenCmd p e s) = St.ok) ∧
  (∃ (p : Nat) (e : AdmEntry) (s : State), Accepts 0x34 0 p e s ∧
    startCheck (pairOf p) (entryBytes e) (takenCmd p e s) = St.ok) ∧
  (∃ (p : Nat) (e : AdmEntry) (s : State), Accepts 0x41 0 p e s ∧
    startCheck (pairOf p) (entryBytes e) (takenCmd p e s) = St.ok) ∧
  (∃ (p : Nat) (e : AdmEntry) (s : State), Accepts 0x42 0 p e s ∧
    startCheck (pairOf p) (entryBytes e) (takenCmd p e s) = St.ok) ∧
  (∃ (p : Nat) (e : AdmEntry) (s : State), Accepts 0x43 0 p e s ∧
    startCheck (pairOf p) (entryBytes e) (takenCmd p e s) = St.ok) ∧
  (∃ (p : Nat) (e : AdmEntry) (s : State), Accepts 0x50 0 p e s ∧
    startCheck (pairOf p) (entryBytes e) (takenCmd p e s) = St.ok) ∧
  (∃ (p : Nat) (e : AdmEntry) (s : State), Accepts 0x60 0 p e s ∧
    startCheck (pairOf p) (entryBytes e) (takenCmd p e s) = St.ok) ∧
  (∃ (p : Nat) (e : AdmEntry) (s : State), Accepts 0x61 0 p e s ∧
    startCheck (pairOf p) (entryBytes e) (takenCmd p e s) = St.ok) ∧
  (∃ (p : Nat) (e : AdmEntry) (s : State) (t : State), journaling s = false ∧ t = runningCmd p e s ∧
    Accepts 0x40 0 p e s ∧ startCheck (pairOf p) (entryBytes e) (takenCmd p e s) = St.ok) ∧
  (∃ (s : State), s.prof.next = none) ∧
  (∃ (o : Bytes) (p k : Nat) (s : State), s.prof.next = some (o, p, k) ∧ ∀ g,
    g < 16 → reforms o s.prof.cur g = false → groupSettled o s.prof.cur g s = true) ∧
  (∃ (o : Bytes) (p : Nat) (k : Nat) (g : Nat) (s : State), s.prof.next = some (o, p, k) ∧ g < 16 ∧
    reforms o s.prof.cur g = false ∧ groupSettled o s.prof.cur g s = false) :=
  ⟨⟨(0 : Nat), ((wEntry [16, 0, 0, 0, 0, 0, 0, 0, 0, 0, 0, 0, 0, 0, 0, 0, 0, 1]) : AdmEntry), (admUp up : State),
     by decide +kernel, ⟨by decide +kernel, by decide +kernel, by decide +kernel, by decide +kernel,
     by decide +kernel, by decide +kernel, by decide +kernel⟩, by decide +kernel⟩,
   ⟨(0 : Nat), ((wEntry [17, 0, 0, 0, 0, 0, 0, 0, 0, 0, 0, 0, 0, 0, 0, 0, 0, 1]) : AdmEntry), (admUp up : State),
     by decide +kernel, ⟨by decide +kernel, by decide +kernel, by decide +kernel, by decide +kernel,
     by decide +kernel, by decide +kernel, by decide +kernel⟩, by decide +kernel⟩,
   ⟨(0 : Nat), ((wEntry [18, 0, 0, 0, 0, 0, 0, 0, 0, 0, 0, 0, 0, 0, 0, 0, 0, 1]) : AdmEntry), (admUp up : State),
     by decide +kernel, ⟨by decide +kernel, by decide +kernel, by decide +kernel, by decide +kernel,
     by decide +kernel, by decide +kernel, by decide +kernel⟩, by decide +kernel⟩,
   ⟨(0 : Nat), ((wEntry [16]) : AdmEntry), (admUp up : State), by decide +kernel, ⟨by decide +kernel,
     by decide +kernel, by decide +kernel, by decide +kernel, by decide +kernel, by decide +kernel,
     by decide +kernel⟩, by decide +kernel⟩,
   ⟨(0 : Nat), ((wEntry [17]) : AdmEntry), (admUp up : State), by decide +kernel, ⟨by decide +kernel,
     by decide +kernel, by decide +kernel, by decide +kernel, by decide +kernel, by decide +kernel,
     by decide +kernel⟩, by decide +kernel⟩,
   ⟨(0 : Nat), ((wEntry [18]) : AdmEntry), (admUp up : State), by decide +kernel, ⟨by decide +kernel,
     by decide +kernel, by decide +kernel, by decide +kernel, by decide +kernel, by decide +kernel,
     by decide +kernel⟩, by decide +kernel⟩,
   ⟨(0 : Nat), ((wEntry [0x13]) : AdmEntry), (admUp (up |> fs (loc .ST_CFG) F.ST_CFG_SEED_RANDOM 0 |>
     wr (loc .ST_SEED_NEW 0 0) 1 |> wr (loc .ST_SEED_NEW 0 1) 2) : State),
     (((rehashCommand (runningCmd 0 ((wEntry [0x13]) : AdmEntry) (admUp (up |>
     fs (loc .ST_CFG) F.ST_CFG_SEED_RANDOM 0 |> wr (loc .ST_SEED_NEW 0 0) 1 |>
     wr (loc .ST_SEED_NEW 0 1) 2)))).getD up) : State), by decide +kernel, ⟨by decide +kernel, by decide +kernel,
     by decide +kernel, by decide +kernel, by decide +kernel, by decide +kernel, by decide +kernel⟩,
     by decide +kernel⟩,
   ⟨(0 : Nat), ((wEntry [19, 0, 0, 0, 0, 0, 0, 0, 1]) : AdmEntry),
     (admUp (fs (loc .ST_RH_STATE) F.ST_RH_STATE_STATE 1 up) : State), ⟨by decide +kernel, by decide +kernel,
     by decide +kernel, by decide +kernel, by decide +kernel, by decide +kernel, by decide +kernel⟩,
     by decide +kernel⟩,
   ⟨(0 : Nat), ((wEntry [19, 0, 0, 0, 0, 0, 0, 0, 2]) : AdmEntry),
     (admUp (fs (loc .ST_RH_STATE) F.ST_RH_STATE_STATE 2 up) : State), ⟨by decide +kernel, by decide +kernel,
     by decide +kernel, by decide +kernel, by decide +kernel, by decide +kernel, by decide +kernel⟩,
     by decide +kernel⟩,
   ⟨(0 : Nat), ((wEntry [19, 0, 0, 0, 0, 0, 0, 0, 3]) : AdmEntry),
     (admUp (fs (loc .ST_RH_STATE) F.ST_RH_STATE_STATE 1 up) : State), ⟨by decide +kernel, by decide +kernel,
     by decide +kernel, by decide +kernel, by decide +kernel, by decide +kernel, by decide +kernel⟩,
     by decide +kernel⟩,
   ⟨(0 : Nat), ((wEntry [0x14]) : AdmEntry), (admUp up : State), by decide +kernel, ⟨by decide +kernel,
     by decide +kernel, by decide +kernel, by decide +kernel, by decide +kernel, by decide +kernel,
     by decide +kernel⟩, by decide +kernel⟩,
   ⟨(0 : Nat), ((wEntry [32, 0, 0, 0, 0, 0, 0, 0, 3, 0, 0, 0, 0, 0, 0, 0, 1]) : AdmEntry), (admUp up : State),
     by decide +kernel, ⟨by decide +kernel, by decide +kernel, by decide +kernel, by decide +kernel,
     by decide +kernel, by decide +kernel, by decide +kernel⟩, by decide +kernel⟩,
   ⟨(0 : Nat), ((wEntry [33, 0, 0, 0, 0, 0, 0, 0, 0, 0, 1, 0, 1, 0, 0, 0, 0, 0, 0, 0, 0, 0, 0, 0]) : AdmEntry),
     (admUp up : State), by decide +kernel, ⟨by decide +kernel, by decide +kernel, by decide +kernel,
     by decide +kernel, by decide +kernel, by decide +kernel, by decide +kernel⟩, by decide +kernel⟩,
   ⟨(0 : Nat), ((wEntry [0x21]) : AdmEntry), (admUp up : State), by decide +kernel, by decide +kernel,
     ⟨by decide +kernel, by decide +kernel, by decide +kernel, by decide +kernel, by decide +kernel,
     by decide +kernel, by decide +kernel⟩, by decide +kernel⟩,
   ⟨(0 : Nat), ((wEntry [0x30]) : AdmEntry), (admUp (fs (loc .OS_CFG 0) F.OS_CFG_ACTIVE 1 up) : State),
     (((switchStart 0 (.command 1 (cmdNo 0 (admUp (fs (loc .OS_CFG 0) F.OS_CFG_ACTIVE 1 up)))) (runningCmd 0 ((wEntry [0x30]) : AdmEntry) (admUp (fs (loc .OS_CFG 0) F.OS_CFG_ACTIVE 1 up)))).getD up) : State),
     by decide +kernel, ⟨by decide +kernel, by decide +kernel, by decide +kernel, by decide +kernel,
     by decide +kernel, by decide +kernel, by decide +kernel⟩, by decide +kernel⟩,
   ⟨(0 : Nat), ((wEntry [48, 0, 0, 0, 0, 0, 0, 0, 0, 1]) : AdmEntry),
     (admUp (fs (loc .OS_CFG 0) F.OS_CFG_ACTIVE 1 up |> fs (loc .OS_SW_STATE 0) F.OS_SW_STATE_STATE 1) : State),
     (((switchPark 0 (runningCmd 0 ((wEntry [48, 0, 0, 0, 0, 0, 0, 0, 0,
     1]) : AdmEntry) (admUp (fs (loc .OS_CFG 0) F.OS_CFG_ACTIVE 1 up |>
     fs (loc .OS_SW_STATE 0) F.OS_SW_STATE_STATE 1)))).getD up) : State), by decide +kernel, ⟨by decide +kernel,
     by decide +kernel, by decide +kernel, by decide +kernel, by decide +kernel, by decide +kernel,
     by decide +kernel⟩, by decide +kernel⟩,
   ⟨(0 : Nat), ((wEntry [48, 0, 0, 0, 0, 0, 0, 0, 0, 2]) : AdmEntry),
     (admUp (fs (loc .OS_CFG 0) F.OS_CFG_ACTIVE 1 up |> fs (loc .OS_SW_STATE 0) F.OS_SW_STATE_STATE 5) : State),
     (((switchResume 0 (runningCmd 0 ((wEntry [48, 0, 0, 0, 0, 0, 0, 0, 0,
     2]) : AdmEntry) (admUp (fs (loc .OS_CFG 0) F.OS_CFG_ACTIVE 1 up |>
     fs (loc .OS_SW_STATE 0) F.OS_SW_STATE_STATE 5)))).getD up) : State), by decide +kernel, ⟨by decide +kernel,
     by decide +kernel, by decide +kernel, by decide +kernel, by decide +kernel, by decide +kernel,
     by decide +kernel⟩, by decide +kernel⟩,
   ⟨(0 : Nat), ((wEntry [48, 0, 0, 0, 0, 0, 0, 0, 0, 3]) : AdmEntry),
     (admUp (fs (loc .OS_CFG 0) F.OS_CFG_ACTIVE 1 up |> fs (loc .OS_SW_STATE 0) F.OS_SW_STATE_STATE 1) : State),
     (((switchCancel 0 (runningCmd 0 ((wEntry [48, 0, 0, 0, 0, 0, 0, 0, 0,
     3]) : AdmEntry) (admUp (fs (loc .OS_CFG 0) F.OS_CFG_ACTIVE 1 up |>
     fs (loc .OS_SW_STATE 0) F.OS_SW_STATE_STATE 1)))).getD up) : State), by decide +kernel, ⟨by decide +kernel,
     by decide +kernel, by decide +kernel, by decide +kernel, by decide +kernel, by decide +kernel,
     by decide +kernel⟩, by decide +kernel⟩,
   ⟨(0 : Nat), ((wEntry [49, 0, 0, 0, 0, 0, 0, 0, 0, 1]) : AdmEntry), (admUp (plain |> setRole 1 1) : State),
     by decide +kernel, ⟨by decide +kernel, by decide +kernel, by decide +kernel, by decide +kernel,
     by decide +kernel, by decide +kernel, by decide +kernel⟩, by decide +kernel⟩,
   ⟨(0 : Nat), (1 : Nat), ((wEntry [49, 0, 0, 0, 0, 0, 0, 0, 0, 31]) : AdmEntry), (admUp (plain |>
     setRole 1 1) : State), by decide +kernel, by decide +kernel, ⟨by decide +kernel, by decide +kernel,
     by decide +kernel, by decide +kernel, by decide +kernel, by decide +kernel, by decide +kernel⟩,
     by decide +kernel⟩,
   ⟨(0 : Nat), ((wEntry [49, 0, 0, 0, 0, 0, 0, 0, 0, 0, 1]) : AdmEntry),
     (admUp { plain with phy := { plain.phy with substs := [{ wSubst with from_ := 0, spare := 1, logical := 0, step := 1, parked := false }] } } : State),
     (((substPark 0 (runningCmd 0 ((wEntry [49, 0, 0, 0, 0, 0, 0, 0, 0, 0,
     1]) : AdmEntry) (admUp { plain with phy := { plain.phy with substs := [{ wSubst with from_ := 0, spare := 1, logical := 0, step := 1, parked := false }] } }))).getD up) : State),
     by decide +kernel, ⟨by decide +kernel, by decide +kernel, by decide +kernel, by decide +kernel,
     by decide +kernel, by decide +kernel, by decide +kernel⟩, by decide +kernel⟩,
   ⟨(0 : Nat), ((wEntry [49, 0, 0, 0, 0, 0, 0, 0, 0, 0, 2]) : AdmEntry),
     (admUp { plain with phy := { plain.phy with substs := [{ wSubst with from_ := 0, spare := 1, logical := 0, step := 1, parked := true }] } } : State),
     (((substResume 0 (runningCmd 0 ((wEntry [49, 0, 0, 0, 0, 0, 0, 0, 0, 0,
     2]) : AdmEntry) (admUp { plain with phy := { plain.phy with substs := [{ wSubst with from_ := 0, spare := 1, logical := 0, step := 1, parked := true }] } }))).getD up) : State),
     by decide +kernel, ⟨by decide +kernel, by decide +kernel, by decide +kernel, by decide +kernel,
     by decide +kernel, by decide +kernel, by decide +kernel⟩, by decide +kernel⟩,
   ⟨(0 : Nat), ((wEntry [49, 0, 0, 0, 0, 0, 0, 0, 0, 0, 3]) : AdmEntry),
     (admUp { plain with phy := { plain.phy with substs := [{ wSubst with from_ := 0, spare := 1, logical := 0, step := 1, parked := false }] } } : State),
     (((substCancel 0 (runningCmd 0 ((wEntry [49, 0, 0, 0, 0, 0, 0, 0, 0, 0,
     3]) : AdmEntry) (admUp { plain with phy := { plain.phy with substs := [{ wSubst with from_ := 0, spare := 1, logical := 0, step := 1, parked := false }] } }))).getD up) : State),
     by decide +kernel, ⟨by decide +kernel, by decide +kernel, by decide +kernel, by decide +kernel,
     by decide +kernel, by decide +kernel, by decide +kernel⟩, by decide +kernel⟩,
   ⟨(0 : Nat), ((wEntry [0x32]) : AdmEntry), (admUp up : State), (((substEngine 0 0 (some (1,
     cmdNo 0 (admUp up))) (runningCmd 0 ((wEntry [0x32]) : AdmEntry) (admUp up))).getD up) : State),
     by decide +kernel, ⟨by decide +kernel, by decide +kernel, by decide +kernel, by decide +kernel,
     by decide +kernel, by decide +kernel, by decide +kernel⟩, by decide +kernel⟩,
   ⟨(0 : Nat), ((wEntry [51]) : AdmEntry), (admUp up : State), ⟨by decide +kernel, by decide +kernel,
     by decide +kernel, by decide +kernel, by decide +kernel, by decide +kernel, by decide +kernel⟩,
     by decide +kernel⟩,
   ⟨0, wEntry [0x34], admUp wStored, ⟨by decide +kernel, by decide +kernel, by decide +kernel, by decide +kernel,
     by decide +kernel, by decide +kernel, by decide +kernel⟩, wStored_loads⟩,
   ⟨(0 : Nat), ((wEntry [65]) : AdmEntry), (admUp up : State), ⟨by decide +kernel, by decide +kernel,
     by decide +kernel, by decide +kernel, by decide +kernel, by decide +kernel, by decide +kernel⟩,
     by decide +kernel⟩,
   ⟨(0 : Nat), ((wEntry [66]) : AdmEntry), (admUp up : State), ⟨by decide +kernel, by decide +kernel,
     by decide +kernel, by decide +kernel, by decide +kernel, by decide +kernel, by decide +kernel⟩,
     by decide +kernel⟩,
   ⟨(0 : Nat), ((wEntry [67, 0, 0, 0, 0, 0, 0, 0, 0, 0, 0, 0, 1, 0, 0, 0]) : AdmEntry), (admUp up : State),
     ⟨by decide +kernel, by decide +kernel, by decide +kernel, by decide +kernel, by decide +kernel,
     by decide +kernel, by decide +kernel⟩, by decide +kernel⟩,
   ⟨(0 : Nat), ((wEntry [80]) : AdmEntry), (admUp up : State), ⟨by decide +kernel, by decide +kernel,
     by decide +kernel, by decide +kernel, by decide +kernel, by decide +kernel, by decide +kernel⟩,
     by decide +kernel⟩,
   ⟨(0 : Nat), ((wEntry [96]) : AdmEntry), (admUp up : State), ⟨by decide +kernel, by decide +kernel,
     by decide +kernel, by decide +kernel, by decide +kernel, by decide +kernel, by decide +kernel⟩,
     by decide +kernel⟩,
   ⟨(0 : Nat), ((wEntry [97]) : AdmEntry), (admUp up : State), ⟨by decide +kernel, by decide +kernel,
     by decide +kernel, by decide +kernel, by decide +kernel, by decide +kernel, by decide +kernel⟩,
     by decide +kernel⟩,
   ⟨(0 : Nat), ((wEntry [0x40]) : AdmEntry), (admUp up : State),
     ((runningCmd 0 ((wEntry [0x40]) : AdmEntry) (admUp up)) : State), by decide +kernel, by decide +kernel,
     ⟨by decide +kernel, by decide +kernel, by decide +kernel, by decide +kernel, by decide +kernel,
     by decide +kernel, by decide +kernel⟩, by decide +kernel⟩,
   ⟨(up |> (fun s => { s with prof := { s.prof with next := none } }) : State), by decide +kernel⟩,
   ⟨[], 0, 0, { up with prof := { up.prof with next := some ([], 0, 0) } }, by decide +kernel,
     fun g h _ => by interval_cases g <;> decide +kernel⟩,
   ⟨wProf, (1 : Nat), (0 : Nat), (0 : Nat),
     ({ up with prof := { up.prof with cur := wProf, next := some (wProf, 1, 0) } } |>
     fs (loc .OS_SW_STATE 0) F.OS_SW_STATE_STATE 1 : State), by decide +kernel⟩⟩

/-- Every hypothesis of `Obligations.AdminPairs` is met by some state and operands, clause by clause. -/
theorem test_witness_AdminPairs :
  (∃ (m : Master) (p : Nat) (d : W32) (s : State), p < 2 ∧ admState (pairOf p) s = 0 ∧
    admSqBase (pairOf p) s % 512 = 0 ∧ admCqBase (pairOf p) s % 512 = 0 ∧
    WriteOpen m (loc .WQ_ADM_CFG p) (d.toNat % 2 ^ 31 + 2 ^ 31) s) ∧
  (∃ (m : Master) (p : Nat) (d : W32) (s : State), p < 2 ∧ admState (pairOf p) s = 3 ∧
    WriteOpen m (loc .WQ_ADM_CFG p) (d.toNat % 2 ^ 31 + 2 ^ 31) s) ∧
  (∃ (m : Master) (p : Nat) (d : W32) (s : State), p < 2 ∧ admState (pairOf p) s = 1 ∧
    admFields d.toNat = admFields (rd (loc .WQ_ADM_CFG p) s) ∧ admSqBase (pairOf p) s % 512 = 0 ∧
    admCqBase (pairOf p) s % 512 = 0 ∧ WriteOpen m (loc .WQ_ADM_CFG p) (d.toNat % 2 ^ 31 + 2 ^ 31) s) ∧
  (∃ (m : Master) (p : Nat) (st : Nat) (d : W32) (s : State), p < 2 ∧ admState (pairOf p) s = st ∧ st ≠ 0 ∧
    admFields d.toNat ≠ admFields (rd (loc .WQ_ADM_CFG p) s) ∧ WriteOpen m (loc .WQ_ADM_CFG p) (d.toNat % 2 ^ 31) s) ∧
  (∃ (m : Master) (p : Nat) (st : Nat) (d : W32) (s : State), p < 2 ∧ admState (pairOf p) s = st ∧ (st = 1 ∨ st = 2) ∧
    admFields d.toNat = admFields (rd (loc .WQ_ADM_CFG p) s) ∧ WriteOpen m (loc .WQ_ADM_CFG p) (d.toNat % 2 ^ 31) s) ∧
  (∃ (m : Master) (p : Nat) (s : State), p < 2 ∧ WriteOpen m (loc .WQ_ADM_DB p) 1 s) ∧
  (∃ (m : Master) (p : Nat) (s : State), p < 2 ∧ admState (pairOf p) (admCqScanStart (pairOf p) s) = 1 ∧
    WriteOpen m (loc .WQ_ADM_DB p) 2 s) ∧
  (∃ (p : Nat) (c : Cmd) (s : State), (admState (pairOf p) s = 1 ∨ admState (pairOf p) s = 2) ∧
    nextStart (pairOf p) s = some c) ∧
  (∃ (p : Nat) (s : State), nextStart (pairOf p) s = none) ∧
  (∃ (p : Nat) (c : Cmd) (s : State), nextStart (pairOf p) s = some c) ∧
  (∃ (p : Nat) (s : State), nextFinished (getPair (pairOf p) s).cmds = none) ∧
  (∃ (p : Nat) (c : Cmd) (s : State), (getPair (pairOf p) s).cmds = [c] ∧ c.phase = .finished ∧
    admSilent (pairOf p) s = false) ∧
  (∃ (p : Nat) (s : State), p < 2 ∧ admState (pairOf p) s = 3 ∧ (getPair (pairOf p) s).finalDone = true ∧
    (getPair (pairOf p) s).cmds = []) ∧
  (∃ (p : Nat) (c : Cmd) (s : State), admState (pairOf p) s = 3 ∧ c ∈ (getPair (pairOf p) s).cmds ∧
    c.phase ≠ .waiting ∧ nextFinished (getPair (pairOf p) s).cmds = none ∧ s.boot.restart = false) ∧
  (∃ (p : Nat) (s : State), admState (pairOf p) s ≠ 3 ∧ nextFinished (getPair (pairOf p) s).cmds = none ∧
    s.boot.restart = false) ∧
  (∃ (q : Nat) (s : State), q < 32768 ∧ (getCq (getSq q s).cq s).state = .active ∧ abortDone q s = true) ∧
  (∃ (q : Nat) (s : State), q < 32768 ∧ (getCq (getSq q s).cq s).state = .active ∧ abortDone q s = false) ∧
  (∃ (q : Nat) (s : State) (t : State), q < 32768 ∧
    ((getSq q s).state = .resetting ∨ (getSq q s).state = .destroying) ∧ (getCq (getSq q s).cq s).state ≠ .active ∧
    t = dropExecs q (setSq q { getSq q s with finalDone := true } (endReqs (ofFinal q) s))) :=
  ⟨⟨(.stw : Master), (0 : Nat), (0 : W32), (up |> fs (loc .WQ_ADM_CFG (0 : Nat)) F.WQ_ADM_CFG_STATE 0 : State),
     by decide +kernel⟩,
   ⟨(.stw : Master), (0 : Nat), (0 : W32), (up |> fs (loc .WQ_ADM_CFG (0 : Nat)) F.WQ_ADM_CFG_STATE 3 : State),
     by decide +kernel⟩,
   ⟨(.stw : Master), (0 : Nat), ((BitVec.ofNat 32 (admFields (rd (loc .WQ_ADM_CFG 0) up))) : W32),
     (fs (loc .WQ_ADM_CFG 0) F.WQ_ADM_CFG_STATE 1 up : State), by decide +kernel⟩,
   ⟨(.stw : Master), (0 : Nat), (1 : Nat), ((BitVec.ofNat 32 (admFields (rd (loc .WQ_ADM_CFG 0) up)) ^^^ 1) : W32),
     (fs (loc .WQ_ADM_CFG 0) F.WQ_ADM_CFG_STATE 1 up : State), by decide +kernel⟩,
   ⟨(.stw : Master), (0 : Nat), (1 : Nat), ((BitVec.ofNat 32 (admFields (rd (loc .WQ_ADM_CFG 0) up))) : W32),
     (fs (loc .WQ_ADM_CFG 0) F.WQ_ADM_CFG_STATE 1 up : State), by decide +kernel⟩,
   ⟨(.stw : Master), (0 : Nat), up, by decide +kernel⟩,
   ⟨(.stw : Master), (0 : Nat), (admUp up : State), by decide +kernel⟩,
   ⟨(0 : Nat), wCmd, (admUp up |> setPair 1 { getPair 1 (admUp up) with cmds := [wCmd] } : State), by decide +kernel⟩,
   ⟨(0 : Nat), up, by decide +kernel⟩,
   ⟨(0 : Nat), wCmd, (admUp up |> setPair 1 { getPair 1 (admUp up) with cmds := [wCmd] } : State), by decide +kernel⟩,
   ⟨(0 : Nat), up, by decide +kernel⟩,
   ⟨(0 : Nat), ({ wCmd with phase := .finished } : Cmd), (admUp up |>
     setPair 1 { getPair 1 (admUp up) with cmds := [({ wCmd with phase := .finished } : Cmd)] } : State),
     by decide +kernel⟩,
   ⟨(0 : Nat), (setPair 1 { getPair 1 up with finalDone := true } up |>
     fs (loc .WQ_ADM_CFG 0) F.WQ_ADM_CFG_STATE 3 : State), by decide +kernel⟩,
   ⟨(0 : Nat), ({ wCmd with phase := .running } : Cmd),
     (setPair 1 { getPair 1 up with cmds := [({ wCmd with phase := .running } : Cmd)] } up |>
     fs (loc .WQ_ADM_CFG 0) F.WQ_ADM_CFG_STATE 3 : State), by decide +kernel⟩,
   ⟨(0 : Nat), (up |> (fun s => { s with boot := { s.boot with restart := false } }) : State), by decide +kernel⟩,
   ⟨(0 : Nat), (setSq 0 { getSq 0 (queues up) with state := .resetting, finalDone := true } (queues up) : State),
     by decide +kernel⟩,
   ⟨(0 : Nat), (queues up : State), by decide +kernel⟩,
   ⟨(0 : Nat), ((setSq 0 { Sq.none with state := .resetting } up) : State),
     ((dropExecs 0 (setSq 0 { getSq 0 (setSq 0 { Sq.none with state := .resetting } up) with finalDone := true } (endReqs (ofFinal 0) (setSq 0 { Sq.none with state := .resetting } up)))) : State),
     by decide +kernel⟩⟩

/-- Every hypothesis of `Obligations.BootLoads` is met by some state and operands, clause by clause. -/
theorem test_witness_BootLoads :
  (∃ (s : State), coldHeld s = false ∧ s.pins.coldStep = 3 ∧ s.pins.refclk = true) ∧
  (∃ (s : State), ((coldHeld s = true ∨ s.pins.coldStep ≠ 3 ∨ s.pins.refclk = false))) ∧
  (∃ (k : Nat), k < 2) ∧
  (∃ (k : Nat) (s : State), s.boot.phase = .chunks ∧ k ∉ s.boot.matched ∧ chunkOk k s = true ∧ k ≠ 0) ∧
  (∃ (s : State), s.boot.phase = .chunks ∧ 0 ∉ s.boot.matched ∧ chunkOk 0 s = true) ∧
  (∃ (k : Nat) (s : State), ((chunkOk k s = false ∨ k ∈ s.boot.matched ∨ s.boot.phase ≠ .chunks))) ∧
  (∃ s : State, verdict s = some 0) ∧
  (∃ s : State, bootState s = 1 ∧ verdict s = some 0 ∧ s.pins.verdict = false ∧ s.boot.relDue = false) ∧
  (∃ (r : Nat) (s : State), bootState s = 1 ∧ verdict s = some r ∧ r ≠ 0) ∧
  (∃ (s : State), ((bootState s ≠ 1 ∨ verdict s = none))) :=
  ⟨⟨(up |> (fun s => { s with pins := { s.pins with coldStep := 3 } }) |>
     (fun s => { s with pins := { s.pins with refclk := true } }) : State), by decide +kernel⟩,
   ⟨up, by decide +kernel⟩,
   ⟨(0 : Nat), by decide +kernel⟩,
   ⟨(1 : Nat), (wChunk 2 : State), by decide +kernel⟩,
   ⟨(wChunk 1 : State), by decide +kernel⟩,
   ⟨(0 : Nat), up, by decide +kernel⟩,
   ⟨wSigned, wSigned_verdict⟩,
   ⟨wSigned, by decide +kernel, wSigned_verdict, by decide +kernel, by decide +kernel⟩,
   ⟨(1 : Nat),
     (fs (loc .BT_STATUS) F.BT_STATUS_STATE 1 { up with boot := { up.boot with phase := .chunks, readErr := true } } : State),
     by decide +kernel⟩,
   ⟨up, by decide +kernel⟩⟩

/-- Every hypothesis of `Obligations.BootControl` is met by some state and operands, clause by clause. -/
theorem test_witness_BootControl :
  (∃ (s : State), bit (fg (loc .BT_STATUS) F.BT_STATUS_TRIED s) (1 - bootSlot s) = false ∧ s.boot.recov = false) ∧
  (∃ (m : Master) (s : State), bootState s = 2 ∧ s.tb.refill < s.boot.trialEnd ∧
    WriteOpen m (loc .BT_CTRL) (2 ^ 31) s) ∧
  (∃ (m : Master) (s : State), ((bootState s ≠ 2 ∨ s.boot.trialEnd ≤ s.tb.refill)) ∧
    WriteOpen m (loc .BT_CTRL) (2 ^ 31) s) ∧
  (∃ (s : State), ((bootState s = 2 ∨ bootState s = 3)) ∧ s.boot.relTaken = false) ∧
  (∃ (m : Master) (s : State), ((s.boot.relTaken = true ∨ (bootState s ≠ 2 ∧ bootState s ≠ 3))) ∧
    WriteOpen m (loc .BT_CTRL) (2 ^ 30) s) ∧
  (∃ (s : State), coldHeld s = false ∧ fb (loc .BT_STATUS) F.BT_STATUS_RELEASED s = false ∧ s.pins.verdict = true) ∧
  (∃ (s : State), coldHeld s = false ∧ fb (loc .BT_STATUS) F.BT_STATUS_RELEASED s = false ∧ s.pins.verdict = false) ∧
  (∃ (s : State), fb (loc .BT_STATUS) F.BT_STATUS_RELEASED s = true) ∧
  (∃ (m : Master) (s : State), ((bootState s = 2 ∨ bootState s = 3)) ∧ s.boot.restart = false ∧
    WriteOpen m (loc .BT_CTRL) (2 ^ 29) s) ∧
  (∃ (m : Master) (s : State), ((bootState s = 2 ∨ bootState s = 3)) ∧ s.boot.restart = true ∧
    WriteOpen m (loc .BT_CTRL) (2 ^ 29) s) ∧
  (∃ (m : Master) (s : State), bootState s ≠ 2 ∧ bootState s ≠ 3 ∧ WriteOpen m (loc .BT_CTRL) (2 ^ 29) s) ∧
  (∃ (s : State), stewardPairs s = [] ∧ s.host.reqs = []) ∧
  (∃ (m : Master) (k : Nat) (s : State), k < 2 ∧ bootState s = 4 ∧ WriteOpen m (loc .BT_CTRL) (2 ^ 28 + k) s) ∧
  (∃ (m : Master) (k : Nat) (s : State), k < 2 ∧ bootState s ≠ 4 ∧ WriteOpen m (loc .BT_CTRL) (2 ^ 28 + k) s) ∧
  (∃ (s : State), bootState s = 2 ∧ s.boot.restart = false ∧ s.boot.recov = true) ∧
  (∃ (s : State), bootState s = 2 ∧ s.boot.restart = false ∧ s.boot.recov = false) ∧
  (∃ (s : State), ((bootState s ≠ 2 ∨ s.boot.restart = true))) ∧
  (∃ (a : Nat) (acc : Nat) (s : State), coldHeld s = false ∧ 4 ≤ s.pins.coldStep ∧ bootState s ≠ 4 ∧
    s.boot.restart = false ∧ stwRights a acc s = false ∧ stwStalls a acc s = false) ∧
  (∃ (a : Nat) (acc : Nat) (s : State), stwRights a acc s = true) ∧
  (∃ (s : State), s.boot.entered = true) ∧
  (∃ (s : State), s.boot.entered = false) :=
  ⟨⟨(up |> (fun s => { s with boot := { s.boot with recov := false } }) : State), by decide +kernel⟩,
   ⟨(.stw : Master), (up |> fs (loc .BT_STATUS) F.BT_STATUS_STATE 2 |>
     fun s => { s with boot := { s.boot with trialEnd := s.tb.refill + 1 } } : State), by decide +kernel⟩,
   ⟨(.stw : Master), up, by decide +kernel⟩,
   ⟨(up |> fs (loc .BT_STATUS) F.BT_STATUS_STATE 2 |>
     (fun s => { s with boot := { s.boot with relTaken := false } }) : State), by decide +kernel⟩,
   ⟨(.stw : Master), ({ up with boot := { up.boot with relTaken := true } } : State), by decide +kernel⟩,
   ⟨(up |> fs (loc .BT_STATUS) F.BT_STATUS_RELEASED 0 |>
     (fun s => { s with pins := { s.pins with verdict := true } }) : State), by decide +kernel⟩,
   ⟨(up |> fs (loc .BT_STATUS) F.BT_STATUS_RELEASED 0 |>
     (fun s => { s with pins := { s.pins with verdict := false } }) : State), by decide +kernel⟩,
   ⟨(up |> fs (loc .BT_STATUS) F.BT_STATUS_RELEASED 1 : State), by decide +kernel⟩,
   ⟨(.stw : Master), (up |> fs (loc .BT_STATUS) F.BT_STATUS_STATE 2 |>
     (fun s => { s with boot := { s.boot with restart := false } }) : State), by decide +kernel⟩,
   ⟨(.stw : Master), (up |> fs (loc .BT_STATUS) F.BT_STATUS_STATE 2 |>
     (fun s => { s with boot := { s.boot with restart := true } }) : State), by decide +kernel⟩,
   ⟨(.stw : Master), (fs (loc .BT_STATUS) F.BT_STATUS_STATE 1 up : State), by decide +kernel⟩,
   ⟨(up |> (fun s => { s with host := { s.host with reqs := [] } }) : State), by decide +kernel⟩,
   ⟨(.stw : Master), (0 : Nat), (up |> fs (loc .BT_STATUS) F.BT_STATUS_STATE 4 : State), by decide +kernel⟩,
   ⟨(.stw : Master), (0 : Nat), up, by decide +kernel⟩,
   ⟨(up |> fs (loc .BT_STATUS) F.BT_STATUS_STATE 2 |>
     (fun s => { s with boot := { s.boot with restart := false } }) |>
     (fun s => { s with boot := { s.boot with recov := true } }) : State), by decide +kernel⟩,
   ⟨(up |> fs (loc .BT_STATUS) F.BT_STATUS_STATE 2 |>
     (fun s => { s with boot := { s.boot with restart := false } }) |>
     (fun s => { s with boot := { s.boot with recov := false } }) : State), by decide +kernel⟩,
   ⟨up, by decide +kernel⟩,
   ⟨(0x30000000 : Nat), (1 : Nat), up, by decide +kernel⟩,
   ⟨(0 : Nat), (0 : Nat), up, by decide +kernel⟩,
   ⟨(up |> (fun s => { s with boot := { s.boot with entered := true } }) : State), by decide +kernel⟩,
   ⟨(up |> (fun s => { s with boot := { s.boot with entered := false } }) : State), by decide +kernel⟩⟩

/-- Every hypothesis of `Obligations.FusesAndDebug` is met by some state and operands, clause by clause. -/
theorem test_witness_FusesAndDebug :
  (∃ (m : Master) (w : Nat) (s : State), w < 2048 ∧ fb (loc .BT_FUSE_CTRL) F.BT_FUSE_CTRL_BUSY s = false ∧
    fuseRefused w (rd (loc .BT_FUSE_DATA) s) s = false ∧ WriteOpen m (loc .BT_FUSE_CTRL) (2 ^ 31 + w) s) ∧
  (∃ (m : Master) (w : Nat) (s : State), w < 2048 ∧ fb (loc .BT_FUSE_CTRL) F.BT_FUSE_CTRL_BUSY s = false ∧
    fuseRefused w (rd (loc .BT_FUSE_DATA) s) s = true ∧ WriteOpen m (loc .BT_FUSE_CTRL) (2 ^ 31 + w) s) ∧
  (∃ (d : Nat) (s : State), ∀ k, k < 4 → programmed k s = true → bit (fuseWord 0x30 s ||| d) k = true) ∧
  (∃ (d : Nat) (s : State), thermometer ((fuseWord 0x32 s ||| d) + fuseWord 0x33 s * 2 ^ 32) = false) ∧
  (∃ (w : Nat) (d : Nat) (s : State), s.boot.fusing = some (w, d)) ∧
  (∃ (s : State), s.boot.fusing = none) ∧
  (∃ (m : Master) (s : State), fb (loc .BT_DEBUG) F.BT_DEBUG_DISABLED s = false ∧
    WriteOpen m (loc .BT_DEBUG) (2 ^ 31) s) ∧
  (∃ (m : Master) (s : State), fb (loc .BT_DEBUG) F.BT_DEBUG_DISABLED s = true ∧
    WriteOpen m (loc .BT_DEBUG) (2 ^ 31) s) :=
  ⟨⟨(.stw : Master), (0 : Nat), (up |> fs (loc .BT_FUSE_CTRL) F.BT_FUSE_CTRL_BUSY 0 : State), by decide +kernel⟩,
   ⟨(.stw : Master), (0x32 : Nat), (wr (loc .BT_FUSE_DATA) 2 up : State), by decide +kernel⟩,
   ⟨0xF, up, fun k h _ => by interval_cases k <;> decide +kernel⟩,
   ⟨(2 : Nat), up, by decide +kernel⟩,
   ⟨(0 : Nat), (0 : Nat), (up |>
     (fun s => { s with boot := { s.boot with fusing := some ((0 : Nat), (0 : Nat)) } }) : State), by decide +kernel⟩,
   ⟨(up |> (fun s => { s with boot := { s.boot with fusing := none } }) : State), by decide +kernel⟩,
   ⟨(.stw : Master), (up |> fs (loc .BT_DEBUG) F.BT_DEBUG_DISABLED 0 : State), by decide +kernel⟩,
   ⟨(.stw : Master), (up |> fs (loc .BT_DEBUG) F.BT_DEBUG_DISABLED 1 : State), by decide +kernel⟩⟩

/-- Every hypothesis of `Obligations.DuoFlits` is met by some state and operands, clause by clause. -/
theorem test_witness_DuoFlits :
  (∃ (s : State), inReset s = false ∧ duRole s ≠ 0 ∧ s.du.txq = [] ∧ s.du.credits ≠ 0) ∧
  (∃ (s : State), inReset s = false ∧ duRole s ≠ 0 ∧ s.du.txq = [] ∧ s.du.credits = 0) ∧
  (∃ (s : State), s.du.txq ≠ []) ∧
  (∃ (s : State), ((duRole s = 0 ∨ inReset s = true))) ∧
  (∃ (s : State), duRole s ≠ 0 ∧ inReset s = false) ∧
  (∃ (s : State), duRole s = 1 ∧ inReset s = false) ∧
  (∃ (s : State), duRole s = 2 ∧ duPair s ≠ 0) ∧
  (∃ (n : Nat) (s : State), duRole s = 2 ∧ duPair s ≠ 0 ∧ s.du.rxSeq + 1 < n ∧ n < 2 ^ 31) ∧
  (∃ (s : State), duRole s = 2 ∧ s.du.gap = true) ∧
  (∃ (ack : W32) (s : State), duRole s ≠ 0 ∧ inReset s = false ∧ s.du.txq = [] ∧ s.du.held = [] ∧ s.du.waits = [] ∧
    s.du.phase ≠ .snapshot ∧ s.du.phase ≠ .positions ∧ ((∀ r, r ∈ s.du.replay → r.1 ≠ ack.toNat))) ∧
  (∃ (ack : W32) (f : Flit) (s : State), duRole s ≠ 0 ∧ inReset s = false ∧ s.du.txq = [f] ∧ s.du.credits = 0 ∧
    s.du.held = [] ∧ s.du.waits = [] ∧ s.du.phase ≠ .snapshot ∧ s.du.phase ≠ .positions ∧ ((∀ r,
    r ∈ s.du.replay → r.1 ≠ ack.toNat))) ∧
  (∃ (s : State), journaling s = false) ∧
  (∃ (s : State), journaling s = true ∧ s.du.told = s.pc.val.filter (fun c => counterSent c.1) ∧ ((∀ c,
    c ∈ s.pc.val → c.2 < 2 ^ 48 ∧ sget 0 s.du.told c.1 = c.2))) ∧
  (∃ (now : List (Nat × Nat)) (ds : List (Nat × Nat)) (s : State), journaling s = true ∧
    now = s.pc.val.filter (fun c => counterSent c.1) ∧ ds = (now.map (fun c => (c.1,
    (c.2 + 2 ^ 48 - sget 0 s.du.told c.1) % 2 ^ 48))).filter (fun c => c.2 != 0) ∧ ds ≠ []) :=
  ⟨⟨(up |> fs (loc .DU_STATUS) F.DU_STATUS_ROLE 1 |> (fun s => { s with du := { s.du with txq := [] } }) : State),
     by decide +kernel⟩,
   ⟨(up |> fs (loc .DU_STATUS) F.DU_STATUS_ROLE 1 |> (fun s => { s with du := { s.du with txq := [] } }) |>
     (fun s => { s with du := { s.du with credits := 0 } }) : State), by decide +kernel⟩,
   ⟨({ up with du := { up.du with txq := [{ role := 1, pair := 2, body := .heartbeat }] } } : State),
     by decide +kernel⟩,
   ⟨up, by decide +kernel⟩,
   ⟨(up |> fs (loc .DU_STATUS) F.DU_STATUS_ROLE 1 : State), by decide +kernel⟩,
   ⟨(up |> fs (loc .DU_STATUS) F.DU_STATUS_ROLE 1 : State), by decide +kernel⟩,
   ⟨(up |> fs (loc .DU_STATUS) F.DU_STATUS_ROLE 2 |> fs (loc .DU_STATUS) F.DU_STATUS_PAIR 2 : State),
     by decide +kernel⟩,
   ⟨(5 : Nat), (up |> fs (loc .DU_STATUS) F.DU_STATUS_ROLE 2 |> fs (loc .DU_STATUS) F.DU_STATUS_PAIR 2 : State),
     by decide +kernel⟩,
   ⟨(up |> fs (loc .DU_STATUS) F.DU_STATUS_ROLE 2 |> (fun s => { s with du := { s.du with gap := true } }) : State),
     by decide +kernel⟩,
   ⟨(0 : W32), (up |> fs (loc .DU_STATUS) F.DU_STATUS_ROLE 1 |> (fun s => { s with du := { s.du with txq := [] } }) |>
     (fun s => { s with du := { s.du with held := [] } }) |>
     (fun s => { s with du := { s.du with waits := [] } }) : State), by decide +kernel⟩,
   ⟨(0 : W32), ({ role := 2, pair := 0, body := .heartbeat } : Flit),
     (fs (loc .DU_STATUS) F.DU_STATUS_ROLE 1 { up with du := { up.du with txq := [({ role := 2, pair := 0, body := .heartbeat } : Flit)], credits := 0 } } : State),
     by decide +kernel⟩,
   ⟨up, by decide +kernel⟩,
   ⟨(up |> fs (loc .DU_STATUS) F.DU_STATUS_ROLE 1 |> fs (loc .DU_STATUS) F.DU_STATUS_PAIR 2 |>
     (fun s => { s with du := { s.du with told := s.pc.val.filter (fun c => counterSent c.1) } }) : State),
     by decide +kernel⟩,
   ⟨([(cTable 0, 5)] : List (Nat × Nat)), ([(cTable 0, 5)] : List (Nat × Nat)),
     ((fs (loc .DU_STATUS) F.DU_STATUS_ROLE 1 up |> fs (loc .DU_STATUS) F.DU_STATUS_PAIR 2) |>
     fun s => { s with pc := { s.pc with val := [(cTable 0, 5)] } } : State), by decide +kernel⟩⟩

/-- Every hypothesis of `Obligations.DuoLeaseAndTakeover` is met by some state and operands, clause by clause. -/
theorem test_witness_DuoLeaseAndTakeover :
  (∃ (s : State), duRole s ≠ 0 ∧ duPair s ≠ 1 ∧ s.du.waits = []) ∧
  (∃ (s : State), duRole s ≠ 0 ∧ duPair s = 1 ∧ s.du.waits = [] ∧ s.du.cmd = none) ∧
  (∃ (s : State), duRole s = 0 ∧ s.du.waits = []) ∧
  (∃ (s : State), s.du.waits = [] ∧ ((s.du.txq = [] ∨ s.du.credits ≠ 0))) ∧
  (∃ (s : State), s.du.waits = [] ∧ s.du.txq ≠ [] ∧ s.du.credits = 0 ∧ duRole s = 1 ∧ duPair s = 2) ∧
  (∃ (s : State), s.du.waits = [] ∧ s.du.txq ≠ [] ∧ s.du.credits = 0 ∧ duRole s = 2 ∧ duPair s = 2 ∧
    s.du.phase = .none ∧ leaseStale s = true) ∧
  (∃ (s : State), duRole s = 1 ∧ (duPair s = 2 ∨ duPair s = 3) ∧ s.du.phase ≠ .draining ∧ s.du.phase ≠ .gaveUp ∧
    leaseBusy s = false) ∧
  (∃ (s : State), duRole s = 2 ∧ duPair s = 2 ∧ leaseBusy s = false) ∧
  (∃ (s : State), ((duRole s ≠ 2 ∨ duPair s ≠ 2))) ∧
  (∃ (s : State), ((duRole s ≠ 1 ∨ (duPair s ≠ 2 ∧ duPair s ≠ 3)))) ∧
  (∃ (s : State), leaseBusy s = true) ∧
  (∃ (b : Bytes) (s : State), duRole s = 1 ∧ duPair s = 2 ∧ u b 8 1 ≠ duUnit s) ∧
  (∃ (b : Bytes) (s : State), duRole s = 1 ∧ duPair s = 2 ∧ u b 8 1 = duUnit s) ∧
  (∃ (s : State), duRole s = 1 ∧ duPair s = 3 ∧ s.du.held = []) ∧
  (∃ (s : State), duRole s = 1 ∧ duPair s = 2) ∧
  (∃ (s : State), ((duRole s ≠ 1 ∨ duPair s ≠ 2))) ∧
  (∃ (s : State), duRole s = 2 ∧ duPair s = 2 ∧ s.du.phase = .none ∧ leaseStale s = true ∧ dmpUp s = false) ∧
  (∃ (s : State), ((leaseStale s = false ∨ dmpUp s = true))) ∧
  (∃ (s : State), coldHeld s = false ∧ ((duRole s ≠ 1 ∨ (duPair s ≠ 2 ∧ duPair s ≠ 3)))) ∧
  (∃ (s : State), coldHeld s = false ∧ duRole s = 1 ∧ (duPair s = 2 ∨ duPair s = 3) ∧ s.du.phase ≠ .gaveUp) ∧
  (∃ (s : State), duRole s = 2 ∧ s.du.phase = .waitFenced) ∧
  (∃ (s : State), s.du.phase ≠ .waitFenced) ∧
  (∃ (s : State), duRole s = 2 ∧ s.du.phase = .due) ∧
  (∃ (s : State), s.du.phase ≠ .due) ∧
  (∃ (s : State), s.du.phase = .acked ∧ ownFlips s = true) ∧
  (∃ (s : State), s.du.phase = .acked ∧ s.host.reqs = [] ∧ s.du.cmd = none ∧ duPair s = 1 ∧ s.du.held = [] ∧
    s.du.replay.length + (snapPositions { s with du := { s.du with phase := .cutover } }).length ≤ 4096) ∧
  (∃ (s : State), s.du.held ≠ []) ∧
  (∃ (s : State), s.du.phase ≠ .acked) :=
  ⟨⟨(up |> fs (loc .DU_STATUS) F.DU_STATUS_ROLE 1 |> (fun s => { s with du := { s.du with waits := [] } }) : State),
     by decide +kernel⟩,
   ⟨(up |> fs (loc .DU_STATUS) F.DU_STATUS_ROLE 1 |> fs (loc .DU_STATUS) F.DU_STATUS_PAIR 1 |>
     (fun s => { s with du := { s.du with waits := [] } }) |>
     (fun s => { s with du := { s.du with cmd := none } }) : State), by decide +kernel⟩,
   ⟨(up |> fs (loc .DU_STATUS) F.DU_STATUS_ROLE 0 |> (fun s => { s with du := { s.du with waits := [] } }) : State),
     by decide +kernel⟩,
   ⟨(up |> (fun s => { s with du := { s.du with waits := [] } }) : State), by decide +kernel⟩,
   ⟨({ (up |> fs (loc .DU_STATUS) F.DU_STATUS_ROLE 1 |> fs (loc .DU_STATUS) F.DU_STATUS_PAIR 2) with du := { (up |> fs (loc .DU_STATUS) F.DU_STATUS_ROLE 1 |> fs (loc .DU_STATUS) F.DU_STATUS_PAIR 2).du with txq := [{ role := 1, pair := 2, body := .heartbeat }], credits := 0 } } : State),
     by decide +kernel⟩,
   ⟨((fs (loc .DU_STATUS) F.DU_STATUS_ROLE 2 up |> fs (loc .DU_STATUS) F.DU_STATUS_PAIR 2) |>
     fun s => { s with du := { s.du with txq := [{ role := 2, pair := 0, body := .heartbeat }], credits := 0, same := 4 } } : State),
     by decide +kernel⟩,
   ⟨((up |> fs (loc .DU_STATUS) F.DU_STATUS_ROLE 1 |> fs (loc .DU_STATUS) F.DU_STATUS_PAIR 2) : State),
     by decide +kernel⟩,
   ⟨(up |> fs (loc .DU_STATUS) F.DU_STATUS_ROLE 2 |> fs (loc .DU_STATUS) F.DU_STATUS_PAIR 2 : State),
     by decide +kernel⟩,
   ⟨up, by decide +kernel⟩,
   ⟨up, by decide +kernel⟩,
   ⟨(asking wReq up : State), by decide +kernel⟩,
   ⟨([0, 0, 0, 0, 0, 0, 0, 0, 1] : Bytes), (up |> fs (loc .DU_STATUS) F.DU_STATUS_ROLE 1 |>
     fs (loc .DU_STATUS) F.DU_STATUS_PAIR 2 : State), by decide +kernel⟩,
   ⟨([] : Bytes), (up |> fs (loc .DU_STATUS) F.DU_STATUS_ROLE 1 |> fs (loc .DU_STATUS) F.DU_STATUS_PAIR 2 : State),
     by decide +kernel⟩,
   ⟨(up |> fs (loc .DU_STATUS) F.DU_STATUS_ROLE 1 |> fs (loc .DU_STATUS) F.DU_STATUS_PAIR 3 |>
     (fun s => { s with du := { s.du with held := [] } }) : State), by decide +kernel⟩,
   ⟨(up |> fs (loc .DU_STATUS) F.DU_STATUS_ROLE 1 |> fs (loc .DU_STATUS) F.DU_STATUS_PAIR 2 : State),
     by decide +kernel⟩,
   ⟨up, by decide +kernel⟩,
   ⟨((fs (loc .DU_STATUS) F.DU_STATUS_ROLE 2 up |> fs (loc .DU_STATUS) F.DU_STATUS_PAIR 2) |>
     fun s => { s with du := { s.du with same := 4 } } : State), by decide +kernel⟩,
   ⟨up, by decide +kernel⟩,
   ⟨up, by decide +kernel⟩,
   ⟨((up |> fs (loc .DU_STATUS) F.DU_STATUS_ROLE 1 |> fs (loc .DU_STATUS) F.DU_STATUS_PAIR 2) : State),
     by decide +kernel⟩,
   ⟨(up |> fs (loc .DU_STATUS) F.DU_STATUS_ROLE 2 |>
     (fun s => { s with du := { s.du with phase := .waitFenced } }) : State), by decide +kernel⟩,
   ⟨up, by decide +kernel⟩,
   ⟨(up |> fs (loc .DU_STATUS) F.DU_STATUS_ROLE 2 |> (fun s => { s with du := { s.du with phase := .due } }) : State),
     by decide +kernel⟩,
   ⟨up, by decide +kernel⟩,
   ⟨({ asking { wReq with purpose := .release 0 } up with du := { up.du with phase := .acked } } : State),
     by decide +kernel⟩,
   ⟨(up |> (fun s => { s with du := { s.du with phase := .acked } }) |>
     (fun s => { s with host := { s.host with reqs := [] } }) |>
     (fun s => { s with du := { s.du with cmd := none } }) |> fs (loc .DU_STATUS) F.DU_STATUS_PAIR 1 |>
     (fun s => { s with du := { s.du with held := [] } }) : State), by decide +kernel⟩,
   ⟨({ up with du := { up.du with held := [(0, .counter [])] } } : State), by decide +kernel⟩,
   ⟨up, by decide +kernel⟩⟩

/-! ## Well-formed commands -/

/-- Each command takes the number below the bound and not the bound. -/
def boundAt (n : Nat) (cs : List (Nat → Instr)) : Bool := cs.all (fun c => (c (n - 1)).wf && !(c n).wf)

theorem test_bound_4 : boundAt (4)
    [(Instr.coldResetRelease · 0), fun x => .coldResetRelease 0 x, (Instr.hmpReadBeat · 0 0 0 false false),
     fun x => .hmpReadBeat 0 0 0 x false false, (Instr.hmpWriteResponse · 0 false),
     fun x => .translationResponse 0 0 0 x, fun x => .overheadReceive 0 x 0 0 (List.replicate 8 0),
     fun x => .mmFragmentReceive 0 0 x (List.replicate 8 0) false false false, fun x => .chmapWrite .stw x 0,
     (Instr.bucketRefill · 0)] = true := by
  decide +kernel

theorem test_bound_4096 : boundAt (4096)
    [(Instr.doorbell · 0), (Instr.trpInvalidation · 0 0), fun x => .trInvStart .stw false x,
     fun x => .counterWindowRead .stw x 0] = true := by
  decide +kernel

theorem test_bound_2_21 : boundAt (2 ^ 21)
    [fun x => .doorbell 0 x] = true := by
  decide +kernel

theorem test_bound_1024 : boundAt (1024)
    [fun x => .hmpReadBeat 0 x 0 0 false false, fun x => .hmpWriteResponse 0 x false, (Instr.pageResponse · false),
     .pageRequestTimeout] = true := by
  decide +kernel

theorem test_bound_256 : boundAt (256)
    [(Instr.translationResponse · 0 0 0), fun x => .recalThermal 0 x, fun x => .recalDone 0 x, .idleEntry, .idleExit,
     .powerEntryPhaseDone, .powerDrainEnd, .powerDrainTimeout, .wakeStepDone, .wakeStepTimeout, .sramRepairDone] = true := by
  decide +kernel

theorem test_bound_2_52 : boundAt (2 ^ 52)
    [fun x => .translationResponse 0 x 0 0, fun x => .trpInvalidation 0 x 0] = true := by
  decide +kernel

theorem test_bound_32 : boundAt (32)
    [fun x => .translationResponse 0 0 x 0, fun x => .trpInvalidation 0 0 x, fun x => .linkLoss 0 0 x,
     fun x => .lookupResult 0 x 0 [], fun x => .meterCharge 0 x, fun x => .hashResult 0 x] = true := by
  decide +kernel

theorem test_bound_2_32 : boundAt (2 ^ 32)
    [.refPhaseSample, (Instr.mpuViolation · 0)] = true := by
  decide +kernel

theorem test_bound_2_a : boundAt (2)
    [(Instr.loadProfile · (wEntry [])), (Instr.laneSubstStart · (wEntry [])), (Instr.laneSubstPark · (wEntry [])),
     (Instr.laneSubstResume · (wEntry [])), (Instr.laneSubstCancel · (wEntry [])),
     (Instr.pageSwitchStart · (wEntry [])), (Instr.pageSwitchPark · (wEntry [])),
     (Instr.pageSwitchResume · (wEntry [])), (Instr.pageSwitchCancel · (wEntry [])),
     (Instr.progUpdate · (wEntry [])), (Instr.engineSubst · (wEntry [])), (Instr.tblRehashStart · (wEntry [])),
     (Instr.tblRehashPark · (wEntry [])), (Instr.tblRehashResume · (wEntry [])),
     (Instr.tblRehashCancel · (wEntry [])), (Instr.tblInsert · (wEntry [])), (Instr.tblUpdate · (wEntry [])),
     (Instr.tblDelete · (wEntry [])), (Instr.meterSet · (wEntry [])), (Instr.sqCreate · (wEntry [])),
     (Instr.cqCreate · (wEntry [])), (Instr.sqDestroy · (wEntry [])), (Instr.cqDestroy · (wEntry [])),
     (Instr.sqReset · (wEntry [])), (Instr.cqReset · (wEntry [])), (Instr.silCreate · (wEntry [])),
     (Instr.silDestroy · (wEntry [])), (Instr.cqBind · (wEntry [])), (Instr.silBind · (wEntry [])),
     (Instr.groupSet · (wEntry [])), (Instr.poolSet · (wEntry [])), (Instr.fence · (wEntry [])),
     (Instr.shaperSet · (wEntry [])), (Instr.gateSet · (wEntry [])), (Instr.dumpCfg · (wEntry [])),
     (Instr.dumpNow · (wEntry [])), (Instr.cntPerm · (wEntry [])), (Instr.rateWin · (wEntry [])),
     (Instr.pwrReq · (wEntry [])), (Instr.duoFailover · (wEntry []))] = true := by
  decide +kernel

theorem test_bound_2_b : boundAt (2)
    [(Instr.duoProtect · (wEntry [])), fun x => .adminSqDoorbell .stw x, fun x => .adminCqDoorbell .stw x,
     .adminCommandStart, .adminLongComplete, fun x => .adminPairEnable .stw x 0, fun x => .adminPairDrain .stw x 0,
     .adminDrainDone, fun x => .recovGo .stw x] = true := by
  decide +kernel

theorem test_bound_64 : boundAt (64)
    [.portEnable, .anAgreed, (Instr.anNoCommon · false), (Instr.trainTimeout · 0), .alignTimeout, .retryHoldExpiry,
     .portDisable, (Instr.faultDeclare · false), .faultClear, (Instr.fecDegWindowEnd · 0 0 []),
     (Instr.rxCellTaken · (List.replicate 8 0) false), (Instr.rxFrameEnd · false), (Instr.pauseTimerExpiry · 0),
     (Instr.mmFragmentReceive · 0 0 (List.replicate 8 0) false false false), (Instr.frameDispatch · false []),
     (Instr.verdictTakeEffect · false), .chmapTakeEffect, .schedulerSelection, .gateActivate, .macFrameStart,
     .txUnderrun, .txFrameEnd, (Instr.mpacketPreempt · 0), .flowControlFrameSend, .fcRefresh, .mmEnable,
     .mmRespondReceived, .mmVerifyTimeout, (Instr.rateWindowEnd · false)] = true := by
  decide +kernel

theorem test_bound_82 : boundAt (82)
    [(Instr.trainDone · [] []), (Instr.alignLock · 0), (Instr.linkLoss · 0 0)] = true := by
  decide +kernel

theorem test_bound_2_18 : boundAt (2 ^ 18)
    [fun x => .trainTimeout 0 x] = true := by
  decide +kernel

theorem test_bound_18 : boundAt (18)
    [fun x => .linkLoss 0 x 0, .bypassAlignLock, .bypassAlignLoss, .highBer, .recalTimer, (Instr.recalThermal · 0),
     fun x => .calReq .stw x 0, (Instr.recalDone · 0), fun x => .laneTestWrite .stw x 0, (Instr.eyeRefresh · 0 0),
     .laneSubstStepDone, (Instr.overheadReceive · 0 0 0 (List.replicate 8 0)), (Instr.losDeclare · 0), .losClear] = true := by
  decide +kernel

theorem test_bound_2_20_1 : boundAt (2 ^ 20 + 1)
    [fun x => .fecDegWindowEnd 0 x 0 [], fun x => .fecDegWindowEnd 0 0 x []] = true := by
  decide +kernel

theorem test_bound_65536 : boundAt (65536)
    [fun x => .eyeRefresh 0 x 0, fun x => .eyeRefresh 0 0 x] = true := by
  decide +kernel

theorem test_bound_40961 : boundAt (40961)
    [fun x => .overheadReceive 0 0 x 0 (List.replicate 8 0)] = true := by
  decide +kernel

theorem test_bound_16 : boundAt (16)
    [fun x => .losDeclare 0 x, .mapCycleReceived, (Instr.switchTxFrame0 · false), .switchTimeout,
     fun x => .cmDataWrite .stw x 0, fun x => .cmCopy .stw x 0, fun x => .osClientWrite .stw x 0 0,
     fun x => .teDoorbell .stw x 0, fun x => .tePause .stw x, fun x => .teUnpause .stw x,
     fun x => .teCancel .stw x false, fun x => .teEnable .stw x 0, fun x => .teDisable .stw x 0, .teDrainEnd] = true := by
  decide +kernel

theorem test_bound_63 : boundAt (63)
    [fun x => .osClientWrite .stw 0 x 0] = true := by
  decide +kernel

theorem test_bound_9 : boundAt (9)
    [fun x => .pauseTimerExpiry 0 x] = true := by
  decide +kernel

theorem test_bound_10 : boundAt (10)
    [fun x => .mmFragmentReceive 0 x 0 (List.replicate 8 0) false false false] = true := by
  decide +kernel

theorem test_bound_816 : boundAt (816)
    [.nop, .endFrame, .sync, .cnt, .alu, .alui, .movw, .ext, .ins, .ld, .st, .br, .brh, .bb, .jmp, .call, .ret,
     .jmpr, .lkp, .mtr, .hasha, .hashf, .csumIp4h, .csumIp4g, .csumL4, (Instr.lookupResult · 0 0 []),
     (Instr.meterCharge · 0), (Instr.hashResult · 0), .contextTimeout] = true := by
  decide +kernel

theorem test_bound_24 : boundAt (24)
    [fun x => .engineSubstRequest .stw x 0, .engineSubstDone, (Instr.engineFault · 0)] = true := by
  decide +kernel

theorem test_bound_17 : boundAt (17)
    [fun x => .engineFault 0 x] = true := by
  decide +kernel

theorem test_bound_3 : boundAt (3)
    [(Instr.scanContinue · 0), fun x => .mpuViolation 0 x] = true := by
  decide +kernel

theorem test_bound_32768 : boundAt (32768)
    [fun x => .scanContinue 0 x, (Instr.holdBudgetExpiry · 0), .abortSequenceDone] = true := by
  decide +kernel

theorem test_bound_16384 : boundAt (16384)
    [.creditScan, .cqPollTimer, fun x => .entryRetire false x 0] = true := by
  decide +kernel

theorem test_bound_2_20 : boundAt (2 ^ 20)
    [fun x => .bucketRefill 0 x] = true := by
  decide +kernel

theorem test_bound_2048 : boundAt (2048)
    [fun x => .counterWindowRead .stw 0 x, fun x => .fuseProg .stw x] = true := by
  decide +kernel

theorem test_bound_5 : boundAt (5)
    [fun x => .lmapWrite .stw x 0] = true := by
  decide +kernel

/-- The checks of lists: a fuse word's number and value, a lane's equalizer setting, an overhead block's length, a
cell's, and the fetch an ECC error meets. -/
theorem test_lists_checked :
    (Instr.fuseShadowLoad [(2048, 0)]).wf = false ∧ (Instr.fuseShadowLoad [(0, 2 ^ 32)]).wf = false ∧
      (Instr.fuseShadowLoad [(2047, 2 ^ 32 - 1)]).wf = true ∧ (Instr.trainDone 0 [2 ^ 30] []).wf = false ∧
      (Instr.overheadReceive 0 0 0 0 []).wf = false ∧ (Instr.rxCellTaken 0 []).wf = false ∧
      (Instr.rxCellTaken 0 (List.replicate 257 0)).wf = false ∧ (Instr.rxCellTaken 0 (List.replicate 256 0)).wf = true ∧
      (Instr.frameDispatch 0 false [(1025, true)]).wf = false ∧ (Instr.frameDispatch 0 false [(1024, true)]).wf = true := by
  decide +kernel

/-! ## Check values from outside the model: the CRC catalogues' and the hash standards' -/

def digits : Bytes := [49, 50, 51, 52, 53, 54, 55, 56, 57]

theorem test_crc32c : crc32c digits = 0xE3069283 := by decide +kernel

theorem test_fcs : fcs digits = 0xCBF43926 := by decide +kernel

theorem test_crc16 : crc16 digits = 0x29B1 := by decide +kernel

theorem test_sha384_abc : beNat (sha384 [97, 98, 99]) =
    0xcb00753f45a35e8bb5a03d699ac65007272c32ab0eded1631a8b605a43ff5bed8086072ba1e7cc2358baeca134c825a7 := by
  decide +kernel

/-! ## Single steps -/

/-- What a field of the state after a step is; none where the step stops. -/
def after {α : Type} (s : State) (c : Instr) (f : State → α) : Option α :=
  match step { s with pending := [c] } with
  | .next t => some (f t)
  | _ => none

/-- R40, R41: RST_N is released with straps 2 and 1, and the sequence is at its first step. -/
theorem test_cold_reset_release : after State.reset (.coldResetRelease 2 1)
    (fun t => (t.pins.rstN, t.pins.coldStep, fg (loc .GL_STRAP) F.GL_STRAP_PROFILE_SEL t,
      fg (loc .GL_STRAP) F.GL_STRAP_DUO_ROLE t)) = some (true, 1, 2, 1) := by
  decide +kernel

/-- R100: a claim of a free semaphore by CPB with token 7 shows HELD, master 1 and the token. -/
theorem test_claim : after (up |> fs (hdrLoc .PAGE_ACL (loc .GL_SEM 0 3 / 4096)) F.PAGE_ACL_ACL_CPB 3) (.semClaim .cpb 3 7)
    (rd (loc .GL_SEM 0 3)) = some 0x90000007 := by
  decide +kernel

/-- R111: a write of GL_WINACL by CPA is refused with ACCESS. -/
theorem test_winacl_refused : after up (.glWinaclWrite .cpa 0xFFFFFFFF)
    (fun t => (t.ctl.rsp.map (·.status), rd (loc .GL_WINACL) t == rd (loc .GL_WINACL) up)) = some ([.access], true) := by
  decide +kernel

/-- R198: SUB of 1 from 0 in register 2 wraps, and the pc advances. -/
theorem test_alu_wraps : after (reed (4 * 2 ^ 26 + 2 * 2 ^ 22 + 0 * 2 ^ 18 + 1 * 2 ^ 14 + 1)
      { wCtx with g := [0, 1] ++ List.replicate 14 0 } wFrame up) (.alu 0)
    (fun t => t.dp.ctxs.map (fun c => (c.g.getD 2 0, c.pc))) = some [(0xFFFFFFFFFFFFFFFF, 1)] := by
  decide +kernel

/-- R198: BR with CC 4 compares as signed numbers: -1 is below 0. -/
theorem test_br_signed : after (reed (0x18 * 2 ^ 26 + 0 * 2 ^ 22 + 1 * 2 ^ 18 + 4 * 2 ^ 15 + 9)
      { wCtx with g := [0xFFFFFFFFFFFFFFFF, 0] ++ List.replicate 14 0 } wFrame up) (.br 0)
    (fun t => t.dp.ctxs.map (·.pc)) = some [9] := by
  decide +kernel

/-- R198: INS writes bits 8 to 15 of register 1 from register 0 and keeps the others. -/
theorem test_ins : after (reed (8 * 2 ^ 26 + 1 * 2 ^ 22 + 0 * 2 ^ 18 + 8 * 2 ^ 12 + 7 * 2 ^ 6)
      { wCtx with g := [0xABCD, 0x1111222233334444] ++ List.replicate 14 0 } wFrame up) (.ins 0)
    (fun t => t.dp.ctxs.map (fun c => c.g.getD 1 0)) = some [0x111122223333CD44] := by
  decide +kernel

/-- R194: a two-byte load at byte 0 of the window is big-endian. -/
theorem test_ld_big_endian : after (reed (0x10 * 2 ^ 26 + 3 * 2 ^ 22 + 1 * 2 ^ 16) wCtx
      { wFrame with ended := true, data := [0x12, 0x34] ++ List.replicate 62 0 } up) (.ld 0)
    (fun t => t.dp.ctxs.map (fun c => c.g.getD 3 0)) = some [0x1234] := by
  decide +kernel

/-- R232, R227: a key inserted by the change unit is found. -/
theorem test_insert_found : after
    { up with tab := { up.tab with changes := [.insert 1 0 wEnt] } } (.tableChangeApply 0 [])
    (fun t => (findKey (2 ^ 72) t).isSome) = some true := by
  decide +kernel

/-- R406: with no command waiting one tick passes, 0.625 ns of block time. -/
theorem test_tick : (match step up with
    | .next t => t.tb.time
    | _ => 0) = 5 * 2 ^ 45 := by
  decide +kernel

end Sys2Proof.Machine
end

section
/-!
PROOFS. What a write of a register without behaviour of its own does (O37).
-/

namespace Sys2Proof.Machine

/-- A command whose own effect is `t` answers `t` settled. -/
theorem done_eq {e t : State} (h : e = t) : done e = .next (settle t) := congrArg done h

/-! ## Writes of plain registers (R8, R95) -/

/-- The registers whose write does something else than storing their writable bits: the arms of `writeReg` but its last. -/
def ownBehaviour : List RegName :=
  [.PAGE_ACCESS, .PAGE_LOCK, .PAGE_ACL, .GL_HOSTCFG, .GL_SEM, .LN_CTRL, .LN_TXEQ, .LN_CAL, .LN_PRBS,
    .MP_PCS_CTRL, .OS_CFG, .ST_TIMING, .EV_PICC_MASK, .OS_SW_CTRL, .OS_CM_DATA, .OS_CLIENT, .MP_RX_LEN, .MP_PFC_THR,
    .MP_PFC_HDRM, .MP_WAKE_DATA, .MP_WAKE_STATUS, .MP_TX_CFG, .MP_TX_FC_FORCE, .MP_MM_CTRL, .RE_CL_SUBST, .RE_PS_CTRL,
    .RE_PS_DATA, .RE_BUDGET, .ST_RH_CTRL, .MT_CTRL, .SC_NODE_SEL, .SC_PCFG, .TE_CFG, .TE_RING, .TE_CTRL, .TE_STATE,
    .TE_PROG_ELEM, .TE_PROG_SRC, .TE_PROG_DST, .TE_FAULT, .HP_CHMAP, .TR_CFG, .TR_INV, .WQ_CFG, .WQ_CTX_SEL,
    .WQ_ADM_CFG, .WQ_ADM_DB, .EV_COMPLETE, .EV_SIL_MOD, .EV_SIL_DB, .EV_ROUTE_DATA, .EV_PICC_MAP, .TB_PHASE, .TB_ADJ,
    .PC_SEL, .PC_DUMP_CTRL, .PC_RATE_SEL, .PW_CFG, .BT_CTRL, .BT_FUSE_CTRL, .BT_DEBUG, .SV_RO_THR, .SV_LMAP,
    .SV_RETIRED, .SV_REPAIR_CMD]

/-- Every other register takes a plain write. -/
theorem writeReg_plain {n : RegName} (h : n ∉ ownBehaviour) (m : Master) (k i a data : Nat) (s : State) :
    writeReg m n k i a data s = some (plainWrite n a data s) := by
  unfold writeReg
  split
  case h_66 => rfl
  all_goals exact absurd (by decide) h

/-- A write below the flag aliases of a 32-bit register reaches the register itself. -/
theorem writeEffect_plain {m : Master} {a data i : Nat} {n : RegName} {s : State} (halias : a % 4096 < 0x800)
    (hpcs : clientPcs a s = false) (hreg : regAt (a / 4096) (a % 4096) = some (n, i, false)) (hwide : n.row.wide = false)
    (hn : n ∉ ownBehaviour) : writeEffect m a data s = some (plainWrite n a data s) := by
  have hclear : ¬ 0xC00 ≤ a % 4096 := by omega
  have hset : ¬ 0x800 ≤ a % 4096 := by omega
  simp [writeEffect, hpcs, hclear, hset, hreg, hwide, writeReg_plain hn]

/-- A plain write changes nothing beside the register file. -/
theorem plainWrite_regs_only (n : RegName) (a data : Nat) (s : State) :
    plainWrite n a data s = { s with regs := (plainWrite n a data s).regs } := rfl

theorem rd_plainWrite_other (n : RegName) (a b data : Nat) (s : State) (hb : b ≠ a) :
    rd b (plainWrite n a data s) = rd b s := rd_wr_other a b _ s hb

theorem rd_lt (a : Nat) (s : State) : rd a s < 2 ^ 32 := (rget s.regs a).isLt

/-- The written register keeps its other bits and takes its writable ones from the data. -/
theorem rd_plainWrite_same (n : RegName) (a data : Nat) (s : State) (hd : data < 2 ^ 32) :
    rd a (plainWrite n a data s) = (rd a s ^^^ (rd a s &&& (n.row.rw ||| n.row.once))) |||
      (data &&& (n.row.rw ||| n.row.once)) := by
  have hkept : rd a s ^^^ (rd a s &&& (n.row.rw ||| n.row.once)) < 2 ^ 32 :=
    Nat.xor_lt_two_pow (rd_lt a s) (Nat.lt_of_le_of_lt Nat.and_le_left (rd_lt a s))
  have hnew : data &&& (n.row.rw ||| n.row.once) < 2 ^ 32 := Nat.lt_of_le_of_lt Nat.and_le_left hd
  rw [plainWrite, rd_wr_same, Nat.mod_eq_of_lt (Nat.or_lt_two_pow hkept hnew)]

/-- A request whose turn it is, to an aligned word of a listed page, is a write of that word's register. -/
theorem runReq_page_write {m : Master} {a : Nat} {d : W32} {s t : State} (halign : a % 4 = 0) (ha : a < 0x100000)
    (hpage : (pageOf (a / 4096)).isSome = true) (hopen : WriteOpen m a d.toNat s)
    (heff : writeEffect m a d.toNat s = some t) :
    runReq m (wreq a d.toNat) s = respond m .ok true 0 (journalConfig a d.toNat t) := by
  obtain ⟨hq, hr, -⟩ := id hopen
  obtain ⟨pg, hpg⟩ := Option.isSome_iff_exists.mp hpage
  have hregion : region a = .page (a / 4096) (a % 4096) := by simp [region, ha, hpg]
  calc runReq m (wreq a d.toNat) s
      = ctlWrite m a d.toNat (writeEffect m a d.toNat) s (writeMiss a d.toNat) := by
        simp [runReq, runReqNow, inTurn, wreq, hq, hr, halign, hregion]
    _ = _ := ctlWrite_open hopen heff

/-- Settles O37: a register outside `ownBehaviour` takes a plain write. -/
theorem plainRegisters : Obligations.PlainRegisters := by
  intro m a d n i s halign ha hpage halias hpcs hreg hwide hn hopen
  have heff : writeEffect m a.toNat d.toNat s = some (plainWrite n a.toNat d.toNat s) :=
    writeEffect_plain halias hpcs hreg hwide hn
  exact ⟨plainWrite n a.toNat d.toNat s, done_eq (runReq_page_write halign ha hpage hopen heff),
    plainWrite_regs_only .., fun b hb => rd_plainWrite_other n a.toNat b _ s hb, rd_plainWrite_same n _ _ s d.isLt⟩

end Sys2Proof.Machine
end

section
/-!
PROOFS. What scans, hold budgets, fences and doorbells do to their queues (O45).
-/

namespace Sys2Proof.Machine

/-! ## Reads of a queue after its write -/

@[simp] theorem getSq_setSq_same (q : Nat) (k : Sq) (s : State) : getSq q (setSq q k s) = k := sget_sput_same ..

@[simp] theorem getCq_setCq_same (c : Nat) (k : Cq) (s : State) : getCq c (setCq c k s) = k := sget_sput_same ..

/-! ## Scans (R267 to R271) -/

/-- An active submission queue with no scan running and room in its cache reads the entry at its position. -/
theorem sqScanStart_reads {q : Nat} {s : State} (hact : (getSq q s).state = .active)
    (hscan : (getSq q s).scanning = false) (hre : (getSq q s).refetch = false)
    (hheld : scanHeld (getSq q s) s = false) (hroom : cached q s < prefetch s) :
    sqScanStart q s = ownRead (cqChan (getSq q s).cq) (getSq q s).func ((getSq q s).base + 64 * (getSq q s).pos)
      (.sqEntry q (getSq q s).pos)
      (setSq q { getSq q s with scanning := true, stopRoom := false, refetch := false } s) := by
  simp [sqScanStart, sqScanNext, hact, hscan, hre, hheld, Nat.not_le.mpr hroom]

theorem scanContinue_sq (q : Nat) (s : State) :
    scanContinue 0 q s = if (getSq q s).stopRoom then sqScanStart q s else s := rfl

theorem scanContinue_pair (p : Nat) (s : State) :
    scanContinue 1 p s = if (getPair (pairOf p) s).stopRoom then admScanStart (pairOf p) s else s := rfl

/-- SCAN_CONTINUE of a general channel, counted from channel 48. -/
theorem scanContinue_te {n : Nat} (hn : n < 16) (s : State) : scanContinue 2 n s = teScanMore (48 + n) s := by
  simp [scanContinue, genChan, Nat.mod_eq_of_lt hn]

/-- A general channel at rest starts a scan that was requested meanwhile. -/
theorem teScanMore_rescan {n : Nat} {s : State} (hscan : (getTe n s).scanning = false)
    (hclose : (getTe n s).closing = false) (hre : (getTe n s).rescan = true) :
    teScanMore n s = teScanStart n (setTe n { getTe n s with rescan := false } s) := by
  simp [teScanMore, hscan, hclose, hre]

/-- A general channel whose scan stopped for room goes on with it. -/
theorem teScanMore_stopRoom {n : Nat} {s : State} (hscan : (getTe n s).scanning = false)
    (hclose : (getTe n s).closing = false) (hre : (getTe n s).rescan = false) (hstop : (getTe n s).stopRoom = true) :
    teScanMore n s = teScanNext n s := by
  simp [teScanMore, hscan, hclose, hre, hstop]

/-- An active completion queue with credit to win reads the slot after the credited ones. -/
theorem cqScanStart_reads {c : Nat} {s : State} (hact : (getCq c s).state = .active) (hscan : (getCq c s).scan = false)
    (hcredit : (getCq c s).credit < creditMax (getCq c s).logSize) :
    cqScanStart c s = ownRead (cqChan c) (getCq c s).func
      ((getCq c s).base + 32 * (((getCq c s).prod + (getCq c s).credit) % 2 ^ (getCq c s).logSize))
      (.cqScan c (((getCq c s).prod + (getCq c s).credit) % 2 ^ (getCq c s).logSize))
      (setCq c { getCq c s with scan := true, found := 0 } s) := by
  simp [cqScanStart, cqScanRead, hact, hscan, Nat.not_le.mpr hcredit]

/-- A credit scan asked for during one is remembered. -/
theorem cqScanStart_merges {c : Nat} {s : State} (hact : (getCq c s).state = .active) (hscan : (getCq c s).scan = true) :
    cqScanStart c s = setCq c { getCq c s with rescan := true } s := by
  simp [cqScanStart, hact, hscan]

theorem cqPoll_episode {c : Nat} {s : State} (he : (getCq c s).episode = true)
    (hp : fg (loc .WQ_CFG) F.WQ_CFG_CQ_POLL s ≠ 0) : cqPoll c s = cqScanStart c s := if_pos ⟨he, hp⟩

theorem cqPoll_idle {c : Nat} {s : State}
    (h : (getCq c s).episode = false ∨ fg (loc .WQ_CFG) F.WQ_CFG_CQ_POLL s = 0) : cqPoll c s = s := by
  refine if_neg fun ⟨he, hp⟩ => ?_
  rcases h with h | h
  · simp [he] at h
  · exact hp h

/-! ## Hold budgets and fences (R16, R37, R273) -/

theorem holdExpiry_waiting {q f : Nat} {s : State} (h : f ∈ (getSq q s).waiting) : holdExpiry q f s = holdDrop q f s :=
  if_pos (List.contains_iff_mem.mpr h)

theorem holdExpiry_not_waiting {q f : Nat} {s : State} (h : f ∉ (getSq q s).waiting) : holdExpiry q f s = s :=
  if_neg fun hc => h (List.contains_iff_mem.mp hc)

/-- What FENCE_COMPLETE asks before it ends fence `n`: an output before it is outstanding, or an earlier fence is. -/
theorem fenceComplete_eq {n : Nat} {g : Fence} {s : State} (hg : s.wq.fences.find? (fun h => h.id == n) = some g) :
    fenceComplete n s =
      if (∃ o ∈ s.wq.outs, o < g.upto) ∨ ∃ h ∈ s.wq.fences, h.id < n then s
      else forEach ((s.te.filter (fun p => p.2.fence == some n)).map (·.1)) teStatusWrite
        (forEach ((s.wq.execs.filter (fun e => e.fence == some n)).map (·.sq)) completeSq
          (finishOpt g.cmd St.ok 0 { s with wq := { s.wq with fences := s.wq.fences.filter (fun h => h.id != n) } })) := by
  simp [fenceComplete, hg]

theorem fenceComplete_waits {n : Nat} {g : Fence} {s : State} (hg : s.wq.fences.find? (fun h => h.id == n) = some g)
    (hw : (∃ o ∈ s.wq.outs, o < g.upto) ∨ ∃ h ∈ s.wq.fences, h.id < n) : fenceComplete n s = s :=
  (fenceComplete_eq hg).trans (if_pos hw)

theorem fenceComplete_ends {n : Nat} {g : Fence} {s : State} (hg : s.wq.fences.find? (fun h => h.id == n) = some g)
    (houts : ∀ o ∈ s.wq.outs, g.upto ≤ o) (hfirst : ∀ h ∈ s.wq.fences, n ≤ h.id) :
    fenceComplete n s =
      forEach ((s.te.filter (fun p => p.2.fence == some n)).map (·.1)) teStatusWrite
        (forEach ((s.wq.execs.filter (fun e => e.fence == some n)).map (·.sq)) completeSq
          (finishOpt g.cmd St.ok 0 { s with wq := { s.wq with fences := s.wq.fences.filter (fun h => h.id != n) } })) := by
  refine (fenceComplete_eq hg).trans (if_neg ?_)
  rintro (⟨o, ho, hlt⟩ | ⟨h, hh, hlt⟩)
  · exact absurd (houts o ho) (Nat.not_le.mpr hlt)
  · exact absurd (hfirst h hh) (Nat.not_le.mpr hlt)

/-! ## What a counted event leaves alone -/

/-- Counting changes the counters and registers, and nothing else. -/
theorem bump_regs_pc_only (i : Nat) (s : State) :
    bump i s = { s with regs := (bump i s).regs, pc := (bump i s).pc } := by
  unfold bump bumpBy
  split
  · rfl
  · dsimp only
    split <;> rfl

@[simp] theorem bump_wq (i : Nat) (s : State) : (bump i s).wq = s.wq := by rw [bump_regs_pc_only]

@[simp] theorem bump_adm (i : Nat) (s : State) : (bump i s).adm = s.adm := by rw [bump_regs_pc_only]

@[simp] theorem bump_pw (i : Nat) (s : State) : (bump i s).pw = s.pw := by rw [bump_regs_pc_only]

@[simp] theorem getSq_bump (q i : Nat) (s : State) : getSq q (bump i s) = getSq q s := by simp [getSq]

@[simp] theorem getCq_bump (c i : Nat) (s : State) : getCq c (bump i s) = getCq c s := by simp [getCq]

@[simp] theorem cqExists_bump (c i : Nat) (s : State) : cqExists c (bump i s) = cqExists c s := by
  simp [cqExists, heldBy, getPair]

/-- Counting a doorbell does not change which queue its handle names. -/
@[simp] theorem handleQueue_bump (f h i : Nat) (s : State) : handleQueue f h (bump i s) = handleQueue f h s := by
  simp [handleQueue]

/-! ## Doorbells (R58, R60, R438) -/

/-- Bits 23:3 of a doorbell's address are the window's function and the handle. -/
theorem doorbell_window {w h : Nat} (hw : w < 4096) (hh : h < 512) : (w * 512 + h) / 512 % 4096 = w := by omega

theorem doorbell_handle {w h : Nat} (hh : h < 512) : (w * 512 + h) % 512 = h := by omega

theorem doorbell_addr_lt {w h : Nat} (hw : w < 4096) (hh : h < 512) : w * 512 + h < 2 ^ 21 := by omega

/-- Outside reset DOORBELL is what `doorbellWake` does. -/
theorem exec_doorbell {f a : Nat} {s : State} (hf : f < 4096) (ha : a < 2 ^ 21) (hres : inReset s = false) :
    exec (.doorbell f a) s = .next (settle (doorbellWake f a s)) :=
  done_eq (by rw [if_neg (Bool.eq_false_iff.mp hres), Nat.mod_eq_of_lt hf, Nat.mod_eq_of_lt ha])

/-- With the queue contexts in RUN and the block not entering a state a doorbell wakes nothing. -/
theorem doorbellWake_running {f a : Nat} {s : State} (hrun : islRun 4 s = true) (hblk : blockEntering s = false) :
    doorbellWake f a s = doorbellFrom f a s := by
  simp only [islRun, Bool.and_eq_true, Bool.not_eq_true', decide_eq_true_eq] at hrun
  obtain ⟨⟨⟨hst, hent⟩, hwak⟩, -⟩ := hrun
  simp [doorbellWake, hst, hent, hwak, hblk]

/-- A doorbell from another function's window wakes nothing. -/
theorem doorbellWake_foreign {f a : Nat} {s : State} (hw : a / 512 % 4096 ≠ f) :
    doorbellWake f a s = doorbellFrom f a s := by
  simp [doorbellWake, hw]

/-- Without DB_WAKE a doorbell wakes nothing. -/
theorem doorbellWake_disabled {f a : Nat} {s : State} (hdb : fb (loc .PW_CFG) F.PW_CFG_DB_WAKE s = false) :
    doorbellWake f a s = doorbellFrom f a s := by
  simp [doorbellWake, hdb]

/-- An accepted doorbell of the function's own window counts and rings the queue that its handle names. -/
theorem doorbellFrom_rings {f h : Nat} {x : Sum Nat Nat} {s : State} (hf : f < 4096) (hh : h < 512)
    (hrun : islRun 4 s = true) (hrole : duRole s ≠ 2) (hq : handleQueue f h s = some x) :
    doorbellFrom f (f * 512 + h) s = ringQueue f h (bump (cWq 0) s) := by
  simp [doorbellFrom, doorbell_window hf hh, doorbell_handle hh, hrun, hrole, hq]

/-- A doorbell with an unknown handle is dropped. -/
theorem doorbellFrom_unknown {f h : Nat} {s : State} (hf : f < 4096) (hh : h < 512)
    (hrun : islRun 4 s = true) (hrole : duRole s ≠ 2) (hq : handleQueue f h s = none) :
    doorbellFrom f (f * 512 + h) s = doorbellDrop f (f * 512 + h) St.badHandle (bump (cWq 0) s) := by
  simp [doorbellFrom, doorbell_window hf hh, doorbell_handle hh, hrun, hrole, hq]

/-- A doorbell from another function's window is dropped. -/
theorem doorbellFrom_foreign {f a : Nat} {s : State} (hw : a / 512 % 4096 ≠ f) (hrun : islRun 4 s = true) :
    doorbellFrom f a s = doorbellDrop f a St.accessDenied (bump (cWq 0) s) := by
  simp [doorbellFrom, hw, crossing, hrun]

/-- A new doorbell is recorded while the queue contexts are down or the block is a STANDBY. -/
theorem doorbellFrom_recorded {f h : Nat} {s : State} (hf : f < 4096) (hh : h < 512)
    (hdown : islRun 4 s = false ∨ duRole s = 2) (hnew : s.pw.bells.contains (f, h) = false) :
    doorbellFrom f (f * 512 + h) s =
      { bump (cWq 0) s with pw := { s.pw with bells := s.pw.bells ++ [(f, h)] } } := by
  simp only [doorbellFrom, doorbell_window hf hh, doorbell_handle hh, bump_pw, hnew]
  simp [hdown]

/-- A doorbell on an active submission queue asks for its scan. -/
theorem ringQueue_sq {f h q : Nat} {s : State} (hq : handleQueue f h s = some (.inl q))
    (hact : (getSq q s).state = .active) : ringQueue f h s = sqScanStart q s := by
  simp [ringQueue, hq, hact]

/-- A doorbell on an active completion queue asks for its credit scan and arming. -/
theorem ringQueue_cq {f h c : Nat} {s : State} (hq : handleQueue f h s = some (.inr c))
    (hact : (getCq c s).state = .active) : ringQueue f h s = cqDoorbell c s := by
  simp [ringQueue, hq, hact]

/-- A dropped doorbell is counted, flagged, and reported where its source has a route. -/
theorem doorbellDrop_eq (f a st : Nat) (s : State) :
    doorbellDrop f a st s = if bit (sget 0 s.ev.routes 0xD0) 31
      then report (sget 0 s.ev.routes 0xD0 % 1024) st 0x07 f (a * 8) 0 (some f)
        (setFlag (loc .WQ_EVENT) F.WQ_EVENT_DB_VIOLATION (bump (cWq 1) s))
      else setFlag (loc .WQ_EVENT) F.WQ_EVENT_DB_VIOLATION (bump (cWq 1) s) := rfl

/-! ## Doorbell windows of the control ports (R58) -/

/-- The doorbell windows lie from 0x1000000 to 0x1FFFFFF of the aperture (R82). -/
theorem region_doorbell {f h : Nat} (hf : f < 4096) (hh : h < 512) :
    region (0x1000000 + f * 4096 + h * 8) =
      .doorbell ((0x1000000 + f * 4096 + h * 8 - 0x1000000) / 4096) ((0x1000000 + f * 4096 + h * 8) % 4096 / 8) := by
  rw [region, if_neg (by omega), if_pos (by omega)]

/-- No reset rule answers an access while the block is out of reset. -/
theorem resetHolds_out_of_reset {s : State} (a : Nat) (hres : inReset s = false) : resetHolds a s = false := by
  simp only [inReset, Bool.or_eq_false_iff] at hres
  obtain ⟨⟨hcold, hwarm⟩, hcol⟩ := hres
  simp [resetHolds, coldHeld, hcold, hwarm, hcol]

/-- A write of a doorbell window whose turn it is. -/
theorem runReq_doorbell {m : Master} {f h d : Nat} {s : State} (hf : f < 4096) (hh : h < 512) (hq : ctlQueue m s = [])
    (hres : inReset s = false) :
    runReq m (wreq (0x1000000 + f * 4096 + h * 8) d) s = doorbellAccess m true (0x1000000 + f * 4096 + h * 8) s := by
  have halign : (0x1000000 + f * 4096 + h * 8) % 4 = 0 := by omega
  simp only [runReq, inTurn, hq, if_true, runReqNow, wreq, resetHolds_out_of_reset _ hres, region_doorbell hf hh, halign]
  simp

/-- DOORBELL_VIA_CONTROL_PORT whose turn it is accesses the window of function `f` at handle `h`. -/
theorem exec_doorbellViaControlPort {m : Master} (f : BitVec 12) (h : BitVec 9) {s : State} (hq : ctlQueue m s = [])
    (hres : inReset s = false) :
    exec (.doorbellViaControlPort m f h) s =
      .next (settle (doorbellAccess m true (0x1000000 + f.toNat * 4096 + h.toNat * 8) s)) := by
  rw [← runReq_doorbell (d := 0) f.isLt h.isLt hq hres]
  rfl

/-- With the right and the windows answering, it is a doorbell of the window's function. -/
theorem doorbellAccess_right {m : Master} {f h : Nat} {s : State} (hf : f < 4096) (hh : h < 512)
    (hright : winRight F.GL_WINACL_DB_WR m s = true) (hoff : windowsOff s = false) :
    doorbellAccess m true (0x1000000 + f * 4096 + h * 8) s =
      respond m .ok true 0 (doorbellWake f (f * 512 + h) s) := by
  have hfun : (0x1000000 + f * 4096 + h * 8 - 0x1000000) / 4096 % 4096 = f := by omega
  have haddr : (0x1000000 + f * 4096 + h * 8 - 0x1000000) / 8 % 2 ^ 21 = f * 512 + h := by omega
  simp only [doorbellAccess, hright, hoff, hfun, haddr]
  simp

@[simp] theorem respond_wq (m : Master) (st : RStatus) (w : Bool) (v : Nat) (s : State) : (respond m st w v s).wq = s.wq := rfl

@[simp] theorem respond_write_rsp (m : Master) (st : RStatus) (v : Nat) (s : State) : (respond m st true v s).ctl.rsp =
    s.ctl.rsp ++ [{ master := m, status := st, rdata := 0 }] := rfl

@[simp] theorem badAddr_wq (m : Master) (w : Bool) (a : Nat) (s : State) : (badAddr m w a s).wq = s.wq := wr_wq ..

@[simp] theorem badAddr_ctl (m : Master) (w : Bool) (a : Nat) (s : State) : (badAddr m w a s).ctl = s.ctl := wr_ctl ..

/-- A refused access changes no queue. -/
theorem refuseAddr_wq (m : Master) (w : Bool) (a : Nat) (s : State) : (refuseAddr m w a s).wq = s.wq := by
  rw [refuseAddr, respond_wq, badAddr_wq]

/-- The response of a refused write is ACCESS. -/
theorem refuseAddr_rsp (m : Master) (a : Nat) (s : State) : (refuseAddr m true a s).ctl.rsp =
    s.ctl.rsp ++ [{ master := m, status := .access, rdata := 0 }] := by
  rw [refuseAddr, respond_write_rsp, badAddr_ctl]

/-- Without the right the access is refused. -/
theorem doorbellAccess_no_right {m : Master} {a : Nat} {s : State} (hright : winRight F.GL_WINACL_DB_WR m s = false) :
    doorbellAccess m true a s = refuseAddr m true a s := if_pos (.inr hright)

/-- Settles O45, clause by clause from the equations of scans, fences and doorbells. -/
theorem queueScansAndDoorbells : Obligations.QueueScansAndDoorbells := by
  refine ⟨?sqReads, ?sqIdle, ?pairStarts, ?pairIdle, ?teGoesOn, ?teRescans, ?cqReads, ?cqMerges, ?polls, ?pollIdle,
    ?holdEnds, ?holdIdle, ?fenceWaits, ?fenceEnds, ?ringsSq, ?ringsCq, ?unknown, ?foreign, ?dropped, ?recorded,
    ?portRight, ?wakes, ?portNoRight⟩
  case sqReads =>
    intro q s hstop hact hscan hre hheld hroom
    exact done_eq (((scanContinue_sq q s).trans (if_pos hstop)).trans (sqScanStart_reads hact hscan hre hheld hroom))
  case sqIdle =>
    intro q s hstop
    exact done_eq ((scanContinue_sq q s).trans (if_neg (Bool.eq_false_iff.mp hstop)))
  case pairStarts =>
    intro p s hstop
    exact done_eq ((scanContinue_pair p s).trans (if_pos hstop))
  case pairIdle =>
    intro p s hstop
    exact done_eq ((scanContinue_pair p s).trans (if_neg (Bool.eq_false_iff.mp hstop)))
  case teGoesOn =>
    intro n s hn hscan hclose hre hstop
    exact done_eq ((scanContinue_te hn s).trans (teScanMore_stopRoom hscan hclose hre hstop))
  case teRescans =>
    intro n s hn hscan hclose hre
    exact done_eq ((scanContinue_te hn s).trans (teScanMore_rescan hscan hclose hre))
  case cqReads =>
    intro c s hact hscan hcredit
    exact done_eq (cqScanStart_reads hact hscan hcredit)
  case cqMerges =>
    intro c s hact hscan
    exact done_eq (cqScanStart_merges hact hscan)
  case polls =>
    intro c s he hp
    exact done_eq (cqPoll_episode he hp)
  case pollIdle =>
    intro c s h
    exact done_eq (cqPoll_idle h)
  case holdEnds =>
    intro q f s h
    exact done_eq (holdExpiry_waiting h)
  case holdIdle =>
    intro q f s h
    exact done_eq (holdExpiry_not_waiting h)
  case fenceWaits =>
    intro n g s hg hw
    exact done_eq (fenceComplete_waits hg hw)
  case fenceEnds =>
    intro n g s hg houts hfirst
    exact done_eq (fenceComplete_ends hg houts hfirst)
  case ringsSq =>
    intro f h q s hf hh hres hrun hblk hrole hq hact
    rw [exec_doorbell hf (doorbell_addr_lt hf hh) hres, doorbellWake_running hrun hblk,
      doorbellFrom_rings hf hh hrun hrole hq, ringQueue_sq (by simpa using hq) (by simpa using hact)]
  case ringsCq =>
    intro f h c s hf hh hres hrun hblk hrole hq hact
    rw [exec_doorbell hf (doorbell_addr_lt hf hh) hres, doorbellWake_running hrun hblk,
      doorbellFrom_rings hf hh hrun hrole hq, ringQueue_cq (by simpa using hq) (by simpa using hact)]
  case unknown =>
    intro f h s hf hh hres hrun hblk hrole hq
    rw [exec_doorbell hf (doorbell_addr_lt hf hh) hres, doorbellWake_running hrun hblk,
      doorbellFrom_unknown hf hh hrun hrole hq]
  case foreign =>
    intro f w h s hf hw hh hne hres hrun
    have hwin : (w * 512 + h) / 512 % 4096 ≠ f := by rwa [doorbell_window hw hh]
    rw [exec_doorbell hf (doorbell_addr_lt hw hh) hres, doorbellWake_foreign hwin, doorbellFrom_foreign hwin hrun]
  case dropped =>
    intro f a st t s ht
    rw [ht, doorbellDrop_eq]
  case recorded =>
    intro f h s hf hh hres hdown hdb hnew
    rw [exec_doorbell hf (doorbell_addr_lt hf hh) hres, doorbellWake_disabled hdb,
      doorbellFrom_recorded hf hh hdown hnew]
  case portRight =>
    intro m f h s hq hres hright hoff
    rw [exec_doorbellViaControlPort f h hq hres, doorbellAccess_right f.isLt h.isLt hright hoff]
  case wakes =>
    intro f a s hf ha hres
    exact exec_doorbell hf ha hres
  case portNoRight =>
    intro m f h s hq hres hright
    rw [exec_doorbellViaControlPort f h hq hres, doorbellAccess_no_right hright]
    exact ⟨_, rfl, refuseAddr_wq .., refuseAddr_rsp ..⟩

end Sys2Proof.Machine
end

section
/-!
PROOFS. What read beats and write responses of the host memory ports do (O33).
-/

namespace Sys2Proof.Machine

/-! ## The end of a read (R65, R69, R70) -/

/-- A read with a beat in error fails whole, at its last beat (R65, log entry 48). -/
theorem readEnd_bad {r : Req} (b : Bytes) (s : State) (hbad : r.bad = true) :
    readEnd r b s = accessFailed r.purpose St.hostReadError (dropReq r.id s) := if_pos hbad

/-- In single-read mode the bytes are used as they came. -/
theorem readEnd_single {r : Req} (b : Bytes) (s : State) (hbad : r.bad = false) (hdbl : r.dbl = false) :
    readEnd r b s = readDone r.purpose b true (dropReq r.id s) := by
  simp [readEnd, hbad, hdbl]

/-- The first read of an entry is kept and issued again, unless its work has ended or its channel is held. -/
theorem readEnd_first {r : Req} (b : Bytes) {s : State} (hbad : r.bad = false) (hdbl : r.dbl = true)
    (hfirst : r.first = none) (hover : readOver r.purpose = false) (hheld : readHeld r.purpose s = false) :
    readEnd r b s =
      setReq { r with phase := .fresh, first := some b, data := [], bad := false, via := none }
        (invalPassed r.id s) := by
  simp [readEnd, hbad, hdbl, hfirst, hover, hheld]

/-- The second read is used with its agreement with the first; a mismatch is counted and flagged. -/
theorem readEnd_second {r : Req} {c : Bytes} (b : Bytes) (s : State) (hbad : r.bad = false) (hdbl : r.dbl = true)
    (hfirst : r.first = some c) :
    readEnd r b s = readDone r.purpose b (c == b)
      (doIf (c != b) (fun t => bump (cWq 2) (setFlag (loc .WQ_EVENT) F.WQ_EVENT_DBL_MISMATCH t)) (dropReq r.id s)) := by
  simp [readEnd, hbad, hdbl, hfirst]

/-! ## Read beats (R21, R62 to R65) -/

/-- The access with the granules and the error of one more beat. -/
def withBeat (r : Req) (data : BitVec 1024) (gv : Nat) (err : Bool) : Req :=
  { r with data := r.data ++ beatBytes data gv, bad := r.bad || err }

/-- A beat waits at the crossing while the island that takes it is not in RUN. -/
theorem readBeat_held {port tag : Nat} {r : Req} {s : State} (data : BitVec 1024) (gv : Nat) (last err : Bool)
    (hreq : outReq port tag false s = some r) (hisl : islRun (answerIsland r.purpose) s = false) :
    readBeat port tag data gv last err s = holdItem (.hmpReadBeat port tag data gv last err) s := by
  simp [readBeat, hreq, crossing, hisl]

/-- A beat that is not the last adds to its access and ends nothing. -/
theorem readBeat_more {port tag : Nat} {r : Req} {s : State} (data : BitVec 1024) (gv : Nat) (err : Bool)
    (hreq : outReq port tag false s = some r) (hisl : islRun (answerIsland r.purpose) s = true) :
    readBeat port tag data gv false err s = setReq (withBeat r data gv err) s := by
  simp [readBeat, hreq, crossing, hisl, withBeat]

/-- The last beat ends its access with the bytes asked for, cut from the granules that came. -/
theorem readBeat_last {port tag pa : Nat} {r : Req} {s : State} (data : BitVec 1024) (gv : Nat) (err : Bool)
    (hreq : outReq port tag false s = some r) (hisl : islRun (answerIsland r.purpose) s = true)
    (hphase : r.phase = .out port tag pa) :
    readBeat port tag data gv true err s = afterAnswer (readEnd (withBeat r data gv err)
      (((r.data ++ beatBytes data gv).drop (pa % 64)).take r.len) s) := by
  simp [readBeat, hreq, crossing, hisl, hphase, withBeat]

/-! ## Write responses (R65, R71) -/

/-- A write whose response carries an error fails, and its DEV_OWNS byte is not written. -/
theorem writeResponse_error {port tag : Nat} {r : Req} {s : State} (hreq : outReq port tag true s = some r)
    (hisl : islRun (answerIsland r.purpose) s = true) :
    writeResponse port tag true s =
      afterAnswer (accessFailed r.purpose St.hostWriteError (dropReq r.id s)) := by
  simp [writeResponse, hreq, crossing, hisl]

/-- A write in one part is done with its response. -/
theorem writeResponse_whole {port tag : Nat} {r : Req} {s : State} (hreq : outReq port tag true s = some r)
    (hisl : islRun (answerIsland r.purpose) s = true) (htail : r.tail = none) :
    writeResponse port tag false s = afterAnswer (writeDone r.purpose false (dropReq r.id s)) := by
  simp [writeResponse, hreq, crossing, hisl, htail]

/-- After the first of two parts the DEV_OWNS byte is issued, at the address that follows. -/
theorem writeResponse_tail {port tag : Nat} {v : Byte} {r : Req} {s : State} (hreq : outReq port tag true s = some r)
    (hisl : islRun (answerIsland r.purpose) s = true) (htail : r.tail = some v)
    (hheld : tailHeld r.purpose (dropReq r.id s) = false) :
    writeResponse port tag false s = afterAnswer (setReq { r with
      phase := .fresh, iova := r.iova + r.len, len := 1, data := [v], tail := none, via := none }
      (invalPassed r.id s)) := by
  simp [writeResponse, hreq, crossing, hisl, htail, hheld]

/-- Settles O33, clause by clause from the equations of read beats and write responses. -/
theorem hostMemoryAnswers : Obligations.HostMemoryAnswers := by
  refine ⟨?held, ?more, ?last, ?whole, ?tail, ?error⟩
  case held =>
    intro port tag gv data last err r s hreq hisl
    exact done_eq (readBeat_held data gv last err hreq hisl)
  case more =>
    intro port tag gv data err r s hreq hisl
    exact done_eq (readBeat_more data gv err hreq hisl)
  case last =>
    intro port tag gv pa b data err r s hreq hisl hphase hb
    have hend : readBeat port tag data gv true err s = afterAnswer (readEnd (withBeat r data gv err) b s) :=
      hb ▸ readBeat_last data gv err hreq hisl hphase
    refine ⟨fun hbad => ?failed, fun hbad hdbl => ?single, fun hbad hdbl hfirst hover hheld => ?again,
      fun c hbad hdbl hfirst => ?second⟩
    case failed => exact done_eq (hend.trans (congrArg afterAnswer (readEnd_bad b s hbad)))
    case single => exact done_eq (hend.trans (congrArg afterAnswer (readEnd_single b s hbad hdbl)))
    case again =>
      exact done_eq (hend.trans (congrArg afterAnswer (readEnd_first b hbad hdbl hfirst hover hheld)))
    case second => exact done_eq (hend.trans (congrArg afterAnswer (readEnd_second b s hbad hdbl hfirst)))
  case whole =>
    intro port tag r s hreq htail hisl
    exact done_eq (writeResponse_whole hreq hisl htail)
  case tail =>
    intro port tag v r s hreq htail hisl hheld
    exact done_eq (writeResponse_tail hreq hisl htail hheld)
  case error =>
    intro port tag r s hreq hisl
    exact done_eq (writeResponse_error hreq hisl)

end Sys2Proof.Machine
end

section
/-!
PROOFS. What a fold leaves alone, and what a field of a register reads after a write of it and of another field.
-/

namespace Sys2Proof.Machine

/-! ## Folds -/

/-- A relation that holds along each change of a fold holds along the fold. -/
theorem forEach_rel {α : Type} {R : State → State → Prop} (hrefl : ∀ s, R s s) (htrans : ∀ s t u, R s t → R t u → R s u)
    {f : α → State → State} (hf : ∀ a s, R s (f a s)) (l : List α) (s : State) : R s (forEach l f s) := by
  induction l generalizing s with
  | nil => exact hrefl s
  | cons a l ih => exact htrans _ _ _ (hf a s) (ih (f a s))

/-- What each change of a fold leaves alone, the fold leaves alone. -/
theorem forEach_keeps {α β : Type} {f : α → State → State} (g : State → β) (l : List α)
    (hf : ∀ a ∈ l, ∀ s, g (f a s) = g s) (s : State) : g (forEach l f s) = g s := by
  induction l generalizing s with
  | nil => rfl
  | cons a l ih =>
    exact (ih (fun b hb => hf b (List.mem_cons_of_mem a hb)) (f a s)).trans (hf a List.mem_cons_self s)

/-! ## Bits of fields -/

theorem bit_eq_testBit (v i : Nat) : bit v i = v.testBit i := by
  rw [bit, Nat.testBit_eq_decide_div_mod_eq, beq_eq_decide]

theorem testBit_bits (v hi lo i : Nat) : (bits v hi lo).testBit i = (decide (i < hi + 1 - lo) && v.testBit (lo + i)) := by
  rw [bits, Nat.testBit_mod_two_pow, Nat.testBit_div_two_pow, Nat.add_comm i]

/-- A word is what lies above a field, the field, and what lies below it. -/
theorem putBits_eq (w : Nat) (f : Fld) (v : Nat) : putBits w f v =
    2 ^ f.lo * (2 ^ (f.hi + 1 - f.lo) * (w / 2 ^ f.lo / 2 ^ (f.hi + 1 - f.lo)) + v % 2 ^ (f.hi + 1 - f.lo)) +
      w % 2 ^ f.lo := by
  have hlow := Nat.div_add_mod w (2 ^ f.lo)
  have hhigh := Nat.div_add_mod (w / 2 ^ f.lo) (2 ^ (f.hi + 1 - f.lo))
  have hcut : w - w / 2 ^ f.lo % 2 ^ (f.hi + 1 - f.lo) * 2 ^ f.lo =
      2 ^ f.lo * (2 ^ (f.hi + 1 - f.lo) * (w / 2 ^ f.lo / 2 ^ (f.hi + 1 - f.lo))) + w % 2 ^ f.lo := by
    rw [← hhigh, Nat.mul_add, Nat.mul_comm (2 ^ f.lo) (w / _ % _)] at hlow
    omega
  dsimp only [putBits]
  rw [hcut, Nat.mul_add, Nat.mul_comm (v % _)]
  omega

/-- A replaced field holds the new bits, and every other bit stays. -/
theorem testBit_putBits (w : Nat) {f : Fld} (v i : Nat) (hf : f.lo ≤ f.hi) : (putBits w f v).testBit i =
    if f.lo ≤ i ∧ i ≤ f.hi then v.testBit (i - f.lo) else w.testBit i := by
  rw [putBits_eq, Nat.testBit_two_pow_mul_add _ (Nat.mod_lt _ (Nat.two_pow_pos _)),
    Nat.testBit_two_pow_mul_add _ (Nat.mod_lt _ (Nat.two_pow_pos _))]
  simp only [Nat.testBit_mod_two_pow, Nat.testBit_div_two_pow]
  by_cases hlo : i < f.lo
  · simp [hlo, Nat.not_le.mpr hlo]
  by_cases hhi : i ≤ f.hi
  · have hin : i - f.lo < f.hi + 1 - f.lo := by omega
    simp [hlo, hhi, hin, Nat.not_lt.mp hlo]
  · have hout : ¬ i - f.lo < f.hi + 1 - f.lo := by omega
    have hpos : i - f.lo - (f.hi + 1 - f.lo) + (f.hi + 1 - f.lo) + f.lo = i := by omega
    simp [hlo, hhi, hout, hpos]

/-! ## Fields of a register -/

/-- The bits of a register after a write of one of its fields. -/
theorem testBit_rd_fs (a : Nat) {f : Fld} (v : Nat) (s : State) (i : Nat) (hf : f.lo ≤ f.hi) (hw : f.hi < 32) :
    (rd a (fs a f v s)).testBit i = if f.lo ≤ i ∧ i ≤ f.hi then v.testBit (i - f.lo) else (rd a s).testBit i := by
  rw [fs, rd_wr_same, Nat.testBit_mod_two_pow, testBit_putBits _ _ _ hf]
  by_cases hi : i < 32
  · simp [hi]
  · have hout : ¬ (f.lo ≤ i ∧ i ≤ f.hi) := by omega
    have hhigh : (rd a s).testBit i = false :=
      Nat.testBit_lt_two_pow (Nat.lt_of_lt_of_le (rd_lt a s) (Nat.pow_le_pow_right (by decide) (by omega)))
    simp [hi, hout, hhigh]

/-- A field reads as it was written, in its width. -/
theorem fg_fs_same (a : Nat) {f : Fld} (v : Nat) (s : State) (hf : f.lo ≤ f.hi) (hw : f.hi < 32) :
    fg a f (fs a f v s) = v % 2 ^ (f.hi + 1 - f.lo) := by
  refine Nat.eq_of_testBit_eq fun i => ?_
  rw [fg, testBit_bits, testBit_rd_fs a v s _ hf hw, Nat.testBit_mod_two_pow]
  by_cases hi : i < f.hi + 1 - f.lo
  · have hin : f.lo ≤ f.lo + i ∧ f.lo + i ≤ f.hi := by omega
    simp [hi, hin]
  · simp [hi]

/-- A write of a field leaves a field beside it alone. -/
theorem fg_fs_beside (a : Nat) {f g : Fld} (v : Nat) (s : State) (hf : f.lo ≤ f.hi) (hw : f.hi < 32)
    (hg : g.hi < f.lo ∨ f.hi < g.lo) : fg a g (fs a f v s) = fg a g s := by
  refine Nat.eq_of_testBit_eq fun i => ?_
  rw [fg, fg, testBit_bits, testBit_bits, testBit_rd_fs a v s _ hf hw]
  by_cases hi : i < g.hi + 1 - g.lo
  · have hout : ¬ (f.lo ≤ g.lo + i ∧ g.lo + i ≤ f.hi) := by omega
    simp [hi, hout]
  · simp [hi]

/-- Fields of two states whose register reads alike. -/
theorem fg_congr {a : Nat} {s t : State} (f : Fld) (h : rd a t = rd a s) : fg a f t = fg a f s := by rw [fg, fg, h]

theorem fb_congr {a : Nat} {s t : State} (f : Fld) (h : rd a t = rd a s) : fb a f t = fb a f s := by
  rw [fb, fb, fg_congr f h]

theorem fg_wr_other {a b : Nat} (f : Fld) (v : Nat) (s : State) (hb : b ≠ a) : fg b f (wr a v s) = fg b f s :=
  fg_congr f (rd_wr_other a b v s hb)

theorem fg_setFlag_other {a b : Nat} (f g : Fld) (s : State) (hb : b ≠ a) : fg b g (setFlag a f s) = fg b g s :=
  fg_wr_other g _ s hb

/-- A flag reads 1 once it is set. -/
theorem fb_setFlag_same (a : Nat) {f : Fld} (s : State) (hf : f.hi = f.lo) (hw : f.lo < 32) :
    fb a f (setFlag a f s) = true := by
  have hbit : (rd a (setFlag a f s)).testBit f.lo = true := by
    rw [setFlag, setFlags, rd_wr_same, Nat.testBit_mod_two_pow, Nat.testBit_or, Nat.testBit_two_pow_self]
    simp [hw]
  have hone : fg a f (setFlag a f s) = 1 := by
    refine Nat.eq_of_testBit_eq fun i => ?_
    rw [fg, testBit_bits, hf]
    cases i with
    | zero => simp [hbit]
    | succ n => simp [Nat.testBit_succ]
  simp [fb, hone]

end Sys2Proof.Machine
end

section
/-!
PROOFS. What the end of every command writes and what it leaves alone, and the pins that follow the state after every step
(O3, O4, O5).
-/

namespace Sys2Proof.Machine

/-! ## READY, ALERT_N and FAST_IRQ (R43, R53, R405) -/

/-- Driving the pins makes them follow the state: what they show rests on no level that is driven. -/
theorem refreshPins_pinsFollow (s : State) : PinsFollow (refreshPins s) := ⟨rfl, rfl, rfl⟩

theorem settle_pinsFollow (s : State) : PinsFollow (settle s) := refreshPins_pinsFollow _

/-- A tick changes block time alone. -/
theorem tick_tb_only (s : State) : tick s = { s with tb := (tick s).tb } := by
  unfold tick
  split <;> rfl

/-- The pins do not show block time. -/
theorem pinsFollow_of_tb_only {s t : State} (h : PinsFollow s) (ht : t = { s with tb := t.tb }) : PinsFollow t := by
  rw [ht]
  exact h

/-- Settles O4. -/
theorem pinsAfterSettleAndReset : Obligations.PinsAfterSettleAndReset :=
  ⟨settle_pinsFollow, ⟨rfl, rfl, rfl⟩, rfl, rfl, rfl, rfl⟩

/-- Settles O5: a step is a tick, which the pins do not show, or a command, after which they are driven. -/
theorem stepKeepsPins : Obligations.StepKeepsPins := by
  intro s t hs hstep
  rcases step_cases s t hstep with ⟨-, rfl⟩ | ⟨c, q, e, -, -, rfl⟩
  · exact pinsFollow_of_tb_only hs (tick_tb_only s)
  · exact settle_pinsFollow e

/-! ## What the end of a command composes -/

theorem SettlesTo.refl (s : State) : SettlesTo s s := by constructor <;> intros <;> rfl

theorem SettlesTo.trans {s t u : State} (h : SettlesTo s t) (k : SettlesTo t u) : SettlesTo s u where
  regs a ha := (k.regs a ha).trans (h.regs a ha)
  ctl := k.ctl.trans h.ctl
  tb := k.tb.trans h.tb
  adm p := by rw [k.adm p, h.adm p]
  te := k.te.trans h.te
  prof := k.prof.trans h.prof
  phy := k.phy.trans h.phy
  os := k.os.trans h.os
  dp := k.dp.trans h.dp
  tab := k.tab.trans h.tab
  sc := by rw [k.sc, h.sc]
  isl := k.isl.trans h.isl
  pw := k.pw.trans h.pw
  boot := k.boot.trans h.boot
  sv := k.sv.trans h.sv
  free := k.free.trans h.free
  pending := k.pending.trans h.pending
  pins := by rw [k.pins, h.pins]
  host := by rw [k.host, h.host]
  ev := by rw [k.ev, h.ev]
  pc := by rw [k.pc, h.pc]
  wq := by rw [k.wq, h.wq]
  cqs c := by rw [k.cqs c, h.cqs c]
  du := by rw [k.du, h.du]

/-- What the end of a command may do (`SettlesTo`), and the block's role in a Duo stays: of DU_STATUS only the pair state is
written. -/
structure Settling (s t : State) : Prop extends SettlesTo s t where
  role : duRole t = duRole s

theorem Settling.refl (s : State) : Settling s s := { SettlesTo.refl s with role := rfl }

theorem Settling.trans {s t u : State} (h : Settling s t) (k : Settling t u) : Settling s u :=
  { h.toSettlesTo.trans k.toSettlesTo with role := k.role.trans h.role }

/-- Composition from the last step back: the state in between is read off the last step. -/
theorem Settling.after {s t u : State} (k : Settling t u) (h : Settling s t) : Settling s u := h.trans k

/-- A fold of changes that the end of a command may make is one. -/
theorem Settling.forEach {α : Type} {f : α → State → State} (hf : ∀ a s, Settling s (f a s)) (l : List α) (s : State) :
    Settling s (forEach l f s) := forEach_rel Settling.refl (fun _ _ _ => .trans) hf l s

/-! ## Writes of parts of the state -/

theorem wr_settlesTo {a : Nat} (ha : a ∈ settleRegs) (v : Nat) (s : State) : SettlesTo s (wr a v s) :=
  { SettlesTo.refl s with regs := fun b hb => rd_wr_other a b v s fun h => hb (h ▸ ha) }

theorem wr_settling {a : Nat} (ha : a ∈ settleRegs) (hrole : loc .DU_STATUS ≠ a) (v : Nat) (s : State) :
    Settling s (wr a v s) :=
  { wr_settlesTo ha v s with role := fg_wr_other _ v s hrole }

theorem duRole_fsPair (v : Nat) (s : State) : duRole (fs (loc .DU_STATUS) F.DU_STATUS_PAIR v s) = duRole s :=
  fg_fs_beside (loc .DU_STATUS) v s (by decide) (by decide) (by decide)

/-- The pair state is written, and the role beside it is not. -/
theorem fsPair_settling (v : Nat) (s : State) : Settling s (fs (loc .DU_STATUS) F.DU_STATUS_PAIR v s) :=
  { wr_settlesTo (by decide) _ s with role := duRole_fsPair v s }

theorem evEvent_settling (f : Fld) (s : State) : Settling s (setFlag (loc .EV_EVENT) f s) :=
  wr_settling (by decide) (by decide) _ s

theorem piccPend_settling (m : Nat) (s : State) : Settling s (setFlags (loc .EV_PICC_PEND) m s) :=
  wr_settling (by decide) (by decide) _ s

theorem pcEvent_settling (f : Fld) (s : State) : Settling s (setFlag (loc .PC_EVENT) f s) :=
  wr_settling (by decide) (by decide) _ s

theorem wrapLast_settling (f : Fld) (v : Nat) (s : State) : Settling s (fs (loc .PC_WRAP_LAST) f v s) :=
  wr_settling (by decide) (by decide) _ s

theorem duEvent_settling (f : Fld) (s : State) : Settling s (setFlag (loc .DU_EVENT) f s) :=
  wr_settling (by decide) (by decide) _ s

theorem setSil_settling (q : Nat) (v : Sil) (s : State) : Settling s (setSil q v s) :=
  { Settling.refl s with ev := rfl }

/-- A completion queue may be disarmed, and its writes and records counted. -/
theorem setCq_settling {c : Nat} {v : Cq} {s : State} (h : v = { getCq c s with
    armed := v.armed, outWrites := v.outWrites, outRecs := v.outRecs }) : Settling s (setCq c v s) :=
  { Settling.refl s with
    wq := rfl
    cqs := fun d => by
      by_cases hd : d = c
      · subst hd
        rw [getCq_setCq_same]
        exact h
      · have hget : getCq d (setCq c v s) = getCq d s := sget_sput_other _ _ _ _ _ _ hd
        rw [hget] }

theorem getPair_setPair_same (p : Nat) (v : Pair) (s : State) : getPair p (setPair p v s) = v := sget_sput_same ..

/-- An admin pair may be disarmed, and its writes and records counted. -/
theorem setPair_settling {p : Nat} {v : Pair} {s : State} (h : v = { getPair p s with
    armed := v.armed, outWrites := v.outWrites, outRecs := v.outRecs }) : Settling s (setPair p v s) :=
  { Settling.refl s with
    adm := fun d => by
      by_cases hd : d = p
      · subst hd
        rw [getPair_setPair_same]
        exact h
      · have hget : getPair d (setPair p v s) = getPair d s := sget_sput_other _ _ _ _ _ _ hd
        rw [hget] }

theorem access_settling (a : Acc) (s : State) : Settling s (access a s) := { Settling.refl s with host := rfl }

theorem ownRead_settling (chan func iova : Nat) (p : Purpose) (s : State) :
    Settling s (ownRead chan func iova p s) := access_settling _ s

theorem setReq_settling (r : Req) (s : State) : Settling s (setReq r s) := { Settling.refl s with host := rfl }

theorem newOut_settling (s : State) : Settling s (newOut s).2 := { Settling.refl s with wq := rfl }

theorem bump_settling (i : Nat) (s : State) : Settling s (bump i s) := by
  unfold bump bumpBy
  split
  · exact .refl s
  dsimp only
  split
  · exact { Settling.refl s with pc := rfl }
  · exact .after (wrapLast_settling ..) (.after (pcEvent_settling ..) { Settling.refl s with pc := rfl })

theorem sendFlit_settling (b : FlitBody) (s : State) : Settling s (sendFlit b s) := by
  unfold sendFlit
  split
  · exact .refl s
  dsimp only
  split <;> exact { Settling.refl s with du := rfl }

/-! ## Reports and their records (R385 to R404) -/

theorem silScanStart_settling (q : Nat) (s : State) : Settling s (silScanStart q s) := by
  unfold silScanStart
  dsimp only
  split_ifs
  · exact .refl s
  · exact setSil_settling _ _ s
  · exact .refl s
  · exact .after (ownRead_settling ..) (setSil_settling ..)

theorem whoBegan_settling (who : Nat) (s : State) : Settling s (whoBegan who s) := by
  unfold whoBegan
  split_ifs
  · exact .refl s
  · exact setPair_settling rfl
  · exact setCq_settling rfl

theorem writeRecord_settling (q status kind obj info who t : Nat) (s : State) :
    Settling s (writeRecord q status kind obj info who t s) := by
  have hrec (v : Sil) (a : Acc) : Settling s (access a (whoBegan who (bump (cEv 5) (setSil q v (newOut s).2)))) :=
    .after (access_settling ..) (.after (whoBegan_settling ..) (.after (bump_settling ..)
      (.after (setSil_settling ..) (newOut_settling s))))
  unfold writeRecord
  dsimp only
  split
  · exact .after (silScanStart_settling ..) (hrec ..)
  · exact hrec ..

theorem loseReport_settling (q : Nat) (s : State) : Settling s (loseReport q s) :=
  .after (bump_settling ..) (.after (evEvent_settling ..) (setSil_settling ..))

theorem emit_settling (q status kind obj info who t : Nat) (s : State) :
    Settling s (emit q status kind obj info who t s) := by
  unfold emit
  dsimp only
  split
  · exact bump_settling _ s
  · exact loseReport_settling q s
  · split
    · exact loseReport_settling q s
    · exact writeRecord_settling ..

theorem closeWindow_settling (w : Window) (s : State) : Settling s (closeWindow w s) :=
  .after (emit_settling ..) { Settling.refl s with ev := rfl }

theorem coalesce_settling (d q status kind obj info who : Nat) (s : State) :
    Settling s (coalesce d q status kind obj info who s) := by
  have hopened (t : State) (ws : List Window) : Settling t
      (emit q status kind obj info who t.tb.time { t with ev := { t.ev with windows := ws } }) :=
    .after (emit_settling ..) { Settling.refl t with ev := rfl }
  have hfull (t : State) : Settling t (setFlag (loc .EV_EVENT) F.EV_EVENT_COAL_FULL
      (emit q status kind obj info who t.tb.time t)) := .after (evEvent_settling ..) (emit_settling ..)
  unfold coalesce
  dsimp only
  split
  · next w _ =>
    split
    · exact .after (bump_settling ..) { Settling.refl s with ev := rfl }
    · refine .trans (closeWindow_settling w s) ?_
      split
      · exact hfull _
      · exact hopened ..
  · split
    · exact hfull s
    · exact hopened s _

theorem report_settling (q status kind obj info who : Nat) (dom : Option Nat) (s : State) :
    Settling s (report q status kind obj info who dom s) := by
  unfold report
  split
  · exact emit_settling ..
  · split
    · exact emit_settling ..
    · exact coalesce_settling ..

theorem claim_settling (src : Nat) (s : State) : Settling s { s with ev := { s.ev with claims := src :: s.ev.claims } } :=
  { Settling.refl s with ev := rfl }

theorem reportSource_settling (src : Nat) (s : State) : Settling s (reportSource src s) := by
  unfold reportSource
  dsimp only
  split
  · exact .refl s
  split
  · split
    · exact .refl s
    · exact .after (claim_settling ..) (piccPend_settling ..)
  · split
    · exact .refl s
    · split_ifs
      · exact .refl s
      all_goals exact .after (claim_settling ..) (report_settling ..)

theorem sourceRound_settling (s : State) : Settling s (sourceRound s) :=
  .after (.forEach reportSource_settling ..) { Settling.refl s with ev := rfl }

/-! ## Accesses to host memory (R62 to R64, R317 to R319, R334 to R338) -/

theorem lookupReq_settling (r : Req) (s : State) : Settling s (lookupReq r s) := by
  unfold lookupReq
  split
  · exact setReq_settling _ s
  split
  · exact .after (bump_settling ..) (.after (setReq_settling ..) { Settling.refl s with host := rfl })
  · exact .after (bump_settling ..) (setReq_settling _ s)

theorem requestXlate_settling (r : Req) (s : State) : Settling s (requestXlate r s) := by
  unfold requestXlate
  split
  · exact .refl s
  split
  · exact { Settling.refl s with host := rfl }
  · exact .refl s

theorem requestPage_settling (r : Req) (s : State) : Settling s (requestPage r s) := by
  unfold requestPage
  split
  · exact .refl s
  split
  · exact .after (bump_settling ..) { Settling.refl s with host := rfl }
  · exact .refl s

theorem translateReq_settling (r : Req) (s : State) : Settling s (translateReq r s) := by
  have hlook := lookupReq_settling r s
  unfold translateReq
  split
  · dsimp only
    split
    · split
      · exact hlook.trans (requestXlate_settling ..)
      · exact hlook
    · exact hlook
  · exact requestXlate_settling r s
  · exact requestXlate_settling r s
  · exact requestPage_settling r s
  · exact .refl s

theorem noteIssue_settling (r : Req) (s : State) : Settling s (noteIssue r s) := by
  unfold noteIssue
  split
  · exact .refl s
  split
  · exact setCq_settling rfl
  · exact setPair_settling rfl
  · exact .refl s

theorem grantOne_settling (port : Nat) (w : Bool) (s : State) : Settling s (grantOne port w s) := by
  unfold grantOne
  dsimp only
  split
  · exact .refl s
  split
  · exact .refl s
  split
  · exact .after (noteIssue_settling ..) (.after (setReq_settling ..) { Settling.refl s with host := rfl })
  · exact .refl s

theorem grantMany_settling (port : Nat) (w : Bool) (n : Nat) (s : State) : Settling s (grantMany port w n s) := by
  induction n generalizing s with
  | zero => exact .refl s
  | succ n ih =>
    unfold grantMany
    split
    · exact .refl s
    · exact (grantOne_settling port w s).trans (ih _)

theorem pump_settling (s : State) : Settling s (pump s) := by
  unfold pump
  split
  · exact .refl s
  · exact .after (.forEach (fun _ _ => (grantMany_settling ..).trans (grantMany_settling ..)) ..)
      (.forEach translateReq_settling ..)

/-! ## Records of armed queues and rings (R275, R276, R286) -/

theorem deferReport_settling (who status kind obj info : Nat) (dom : Option Nat) (s : State) :
    Settling s (deferReport who status kind obj info dom s) := { Settling.refl s with ev := rfl }

theorem cqRecord_settling (c status kind obj info : Nat) (dom : Option Nat) (s : State) :
    Settling s (cqRecord c status kind obj info dom s) := by
  unfold cqRecord
  dsimp only
  split_ifs
  · exact deferReport_settling ..
  · exact report_settling ..
  · exact .refl s

theorem completionRecord_settling (c n : Nat) (s : State) : Settling s (completionRecord c n s) :=
  .after (cqRecord_settling ..) (setCq_settling rfl)

theorem admRecord_settling (p status kind info : Nat) (s : State) : Settling s (admRecord p status kind info s) := by
  unfold admRecord
  dsimp only
  split_ifs
  · exact deferReport_settling ..
  · exact report_settling ..
  · exact .refl s

theorem admCplRecord_settling (p n : Nat) (s : State) : Settling s (admCplRecord p n s) :=
  .after (admRecord_settling ..) (setPair_settling rfl)

theorem issueAll_settling (s : State) : Settling s (issueAll s) := by
  unfold issueAll
  dsimp only
  split
  · exact pump_settling s
  split
  · exact pump_settling s
  · exact .after (pump_settling _) (.after (.forEach (fun _ _ => admCplRecord_settling ..) ..)
      (.after (.forEach (fun _ _ => completionRecord_settling ..) ..) (pump_settling s)))

/-! ## The end of a command -/

theorem unprotected_settling (b : Bool) (s : State) :
    Settling s (doIf b (setFlag (loc .DU_EVENT) F.DU_EVENT_UNPROTECTED) s) := by
  unfold doIf
  split
  · exact duEvent_settling ..
  · exact .refl s

theorem duDrainCheck_settling (s : State) : Settling s (duDrainCheck s) := by
  unfold duDrainCheck
  split
  · exact .after (sendFlit_settling ..) (.after (unprotected_settling ..) (.after (duEvent_settling ..)
      (.after (fsPair_settling ..) { Settling.refl s with du := rfl, pins := rfl })))
  · exact .refl s

theorem refreshReady_settling (s : State) : Settling s (refreshReady s) :=
  { Settling.refl s with pins := rfl, ev := rfl }

/-- The sources report in rounds, but while a reset holds them. -/
theorem reports_settling (s : State) : Settling s
    (if s.ev.warmHold || inReset s then s else sourceRound (sourceRound (sourceRound (sourceRound s)))) := by
  split
  · exact .refl s
  · exact .after (sourceRound_settling _) (.after (sourceRound_settling _)
      (.after (sourceRound_settling _) (sourceRound_settling s)))

theorem noteLevels_settling (s : State) : Settling s (noteLevels s) := by
  unfold noteLevels
  dsimp only
  split
  · exact .refl s
  · exact { Settling.refl s with pc := rfl }

theorem emptyDeficits_settling (s : State) : Settling s (emptyDeficits s) := { Settling.refl s with sc := rfl }

theorem refreshPins_settling (s : State) : Settling s (refreshPins s) := { Settling.refl s with pins := rfl }

/-- Each part of `settle` writes only what the end of a command may write. -/
theorem settle_settling (s : State) : Settling s (settle s) := by
  have hready := (duDrainCheck_settling s).trans (refreshReady_settling _)
  have hlevels := (hready.trans (reports_settling _)).trans (noteLevels_settling _)
  exact ((hlevels.trans (issueAll_settling _)).trans (emptyDeficits_settling _)).trans (refreshPins_settling _)

/-- Settles O3. -/
theorem settleFrame : Obligations.SettleFrame := fun s => (settle_settling s).toSettlesTo

/-! ## What a settled state reads -/

theorem rd_settle {a : Nat} (ha : a ∉ settleRegs) (s : State) : rd a (settle s) = rd a s :=
  (settle_settling s).regs a ha

theorem duRole_settle (s : State) : duRole (settle s) = duRole s := (settle_settling s).role

end Sys2Proof.Machine
end

section
/-!
PROOFS. Board signals (O9) and what the ports answer while a reset is low (O10).
-/

namespace Sys2Proof.Machine

/-! ## Accesses in reset (R42, R46) -/

/-- The page and the offset of an address in a listed page. -/
theorem region_page {a pg off : Nat} (h : region a = .page pg off) : pg = a / 4096 ∧ off = a % 4096 := by
  unfold region at h
  split at h
  · split at h <;> simp_all
  · split_ifs at h

theorem resetHolds_cold {a : Nat} {s : State} (h : coldHeld s = true) : resetHolds a s = true := by simp [resetHolds, h]

theorem resetHolds_warm {a : Nat} {s : State} (hw : s.pins.warmN = false) (ha : 0x2000 ≤ a) : resetHolds a s = true := by
  simp [resetHolds, hw, ha]

/-- The reset rules answer a request whose turn it is. -/
theorem runReq_held {m : Master} {r : CtlReq} {s : State} (hq : ctlQueue m s = []) (hr : resetHolds r.addr s = true) :
    runReq m r s = resetAccess m r.write r.addr s := by
  simp [runReq, inTurn, hq, runReqNow, hr]

theorem acceptReq_held {m : Master} {r : CtlReq} {s : State} (hq : ctlQueue m s = []) (hr : resetHolds r.addr s = true) :
    acceptReq m r s = resetAccess m r.write r.addr s := by
  have hnow : refusedAtOnce m r s = true := by simp [refusedAtOnce, hr]
  simp [acceptReq, hq, hnow, runReq_held hq hr]

theorem resetAccess_cold_write (m : Master) (a : Nat) {s : State} (h : coldHeld s = true) :
    resetAccess m true a s = respond m .off true 0 s := by
  unfold resetAccess
  split
  · simp [h]
  · rfl

theorem resetAccess_cold_read {m : Master} {a pg off : Nat} {s : State} (h : coldHeld s = true)
    (hreg : region a = .page pg off) (hoff : 0x80 ≤ off) : resetAccess m false a s = respond m .off false 0 s := by
  simp [resetAccess, hreg, h, Nat.not_lt.mpr hoff]

/-- Outside the headers an access that only WARM_RST_N holds is recorded. -/
theorem resetAccess_warm {m : Master} {w : Bool} {a pg off : Nat} {s : State} (h : coldHeld s = false)
    (hreg : region a = .page pg off) (hoff : w = true ∨ 0x80 ≤ off) : resetAccess m w a s = answerOff m w pg off s := by
  have hhdr : ¬ (w = false ∧ off < 0x80 ∧ off % 4 = 0) := by
    rintro ⟨hw, hlt, -⟩
    rcases hoff with hoff | hoff
    · simp [hw] at hoff
    · omega
  simp [resetAccess, hreg, hhdr, h]

/-- A header reads its reset value. -/
theorem resetAccess_header {m : Master} {a pg off : Nat} {s : State} (halign : a % 4 = 0)
    (hreg : region a = .page pg off) (hoff : off < 0x80) :
    resetAccess m false a s = respond m .ok false (resetWord (pg * 4096 + off)).toNat s := by
  obtain ⟨-, rfl⟩ := region_page hreg
  have hword : a % 4096 % 4 = 0 := by omega
  simp [resetAccess, hreg, hoff, hword]

/-- Settles O10. -/
theorem portsInReset : Obligations.PortsInReset := by
  refine ⟨?cold, ?warm, ?coldWrite, ?warmWrite, ?header, ?coldRead, ?doorbell, ?invalidation, ?flit, ?credit, ?warmRead⟩
  case cold => exact fun a s h => resetHolds_cold h
  case warm => exact fun a s hw ha => resetHolds_warm hw ha
  case coldWrite =>
    intro m a d s h hq
    exact done_eq ((runReq_held hq (resetHolds_cold h)).trans (resetAccess_cold_write m _ h))
  case warmWrite =>
    intro m a d pg off s h hw hq ha hreg
    exact done_eq ((runReq_held hq (resetHolds_warm hw ha)).trans (resetAccess_warm h hreg (.inl rfl)))
  case header =>
    intro m a d pg off s hheld hq halign hreg hoff
    exact done_eq ((acceptReq_held hq hheld).trans (resetAccess_header halign hreg hoff))
  case coldRead =>
    intro m a d pg off s h hq hreg hoff
    exact done_eq ((acceptReq_held hq (resetHolds_cold h)).trans (resetAccess_cold_read h hreg hoff))
  case doorbell =>
    intro f a s h
    exact done_eq (if_pos h)
  case invalidation =>
    intro f page size s h
    exact done_eq (if_pos h)
  case flit =>
    intro f bad s h
    exact done_eq (if_pos (.inr h))
  case credit =>
    intro ack s h
    exact done_eq (if_pos (.inr h))
  case warmRead =>
    intro m a d pg off s h hw hq ha hreg hoff
    exact done_eq ((acceptReq_held hq (resetHolds_warm hw ha)).trans (resetAccess_warm h hreg (.inr hoff)))

/-! ## Board signals (R21, R39, R51, R81) -/

/-- REFCLK_LOSS out of reset: the lanes lose their clocks. -/
theorem setRefclk_loss {s : State} (href : s.pins.refclk = true) (hres : inReset s = false) :
    setRefclk false s = lanesUnclocked { s with pins := { s.pins with refclk := false } } := by
  simp [setRefclk, href, hres]

theorem setRefclk_return (s : State) : setRefclk true s = { s with pins := { s.pins with refclk := true } } := rfl

/-- A presence level is shown, and its rise raises the presence source. -/
theorem presenceChange_eq {s : State} (level : Bool) (h : coldHeld s = false) : presenceChange level s =
    doIf (level && !presence s) (privEdge 0) (fs (loc .GL_STRAP) F.GL_STRAP_PRESENCE (b2n level) s) := by
  simp [presenceChange, h]

theorem tapInstruction_eq (code : Nat) (s : State) : tapInstruction code s = { s with
    pins := { s.pins with
      tapIr := code
      tapBypass := decide (code = 0) || (decide (4 ≤ code) && !fb (loc .BT_DEBUG) F.BT_DEBUG_UNLOCKED s)
      tapId := if code = 1 then some (idcode s) else none } } := by
  have hcode : (!decide (code ≤ 3)) = decide (4 ≤ code) := by
    rw [← decide_not]
    exact decide_eq_decide.mpr (by omega)
  simp [tapInstruction, hcode, beq_eq_decide]

/-- Settles O9. -/
theorem boardSignals : Obligations.BoardSignals := by
  refine ⟨?loss, ?back, ?rise, ?fall, ?tap, ?tapReset⟩
  case loss => exact fun s href hres => done_eq (setRefclk_loss href hres)
  case back => exact fun s => done_eq (congrArg passHeld (setRefclk_return s))
  case rise =>
    intro s h hp
    exact done_eq ((presenceChange_eq true h).trans (by simp [doIf, hp, b2n]))
  case fall => exact fun s h => done_eq (presenceChange_eq false h)
  case tap => exact fun code s => done_eq (tapInstruction_eq code s)
  case tapReset => exact fun s => rfl

end Sys2Proof.Machine
end

section
/-!
PROOFS. Resets and supplies: the cold reset clears the block (O7).
-/

namespace Sys2Proof.Machine

/-! ## The end of a command in reset -/

theorem duDrainCheck_idle {s : State} (h : s.du.phase ≠ .draining) : duDrainCheck s = s := if_neg fun hd => h hd.1

theorem readyNow_reset {s : State} (h : inReset s = true) : readyNow s = false := by simp [readyNow, h]

theorem alertNow_reset {s : State} (h : inReset s = true) : alertNow s = true := by simp [alertNow, h]

theorem fastNow_reset {s : State} (h : inReset s = true) : fastNow s = 0 := by simp [fastNow, h]

theorem pump_idle {s : State} (h : s.host.reqs = []) : pump s = s := if_pos h

/-- With no access, queue and pair nothing is issued. -/
theorem issueAll_idle {s : State} (hreqs : s.host.reqs = []) (hcqs : s.wq.cqs = []) (hadm : s.adm = []) :
    issueAll s = s := by
  simp [issueAll, pump_idle hreqs, hcqs, hadm]

theorem noteLevels_idle {s : State} (h : s.pc.level = []) : noteLevels s = s := by simp [noteLevels, h]

theorem emptyDeficits_idle {s : State} (h : s.sc.deficit = []) : emptyDeficits s = s := by
  rw [emptyDeficits, h, List.filter_nil, ← h]

/-- In reset READY is shown 0, and the hold of R503 stays. -/
theorem refreshReady_reset {s : State} (h : inReset s = true) :
    refreshReady s = { s with pins := { s.pins with ready := false } } := by
  simp [refreshReady, readyNow_reset h]

/-- The end of a command, past its reports, of a block in reset that has no work: the outputs take their reset values. -/
theorem outputs_idle {s : State} (hres : inReset s = true) (hreqs : s.host.reqs = []) (hlevel : s.pc.level = [])
    (hcqs : s.wq.cqs = []) (hadm : s.adm = []) (hdef : s.sc.deficit = []) :
    refreshPins (emptyDeficits (issueAll (noteLevels s))) =
      { s with pins := { s.pins with ready := false, alertN := true, fastIrq := 0 } } := by
  rw [noteLevels_idle hlevel, issueAll_idle hreqs hcqs hadm, emptyDeficits_idle hdef, refreshPins, readyNow_reset hres,
    alertNow_reset hres, fastNow_reset hres]

/-- A block in reset that has no work settles with its outputs at their reset values (R42). -/
theorem settle_idle {s : State} (hres : inReset s = true) (hphase : s.du.phase ≠ .draining) (hreqs : s.host.reqs = [])
    (hlevel : s.pc.level = []) (hcqs : s.wq.cqs = []) (hadm : s.adm = []) (hdef : s.sc.deficit = []) :
    settle s = { s with pins := { s.pins with ready := false, alertN := true, fastIrq := 0 } } := by
  have hres' : inReset { s with pins := { s.pins with ready := false } } = true := hres
  unfold settle
  rw [duDrainCheck_idle hphase, refreshReady_reset hres]
  dsimp only
  rw [hres', Bool.or_true, if_pos rfl]
  exact outputs_idle hres' hreqs hlevel hcqs hadm hdef

/-! ## What a cold reset clears (R41, R42) -/

/-- A cleared block in reset is settled. -/
theorem Cleared.settle_eq {s t : State} (h : Cleared s t) (hres : inReset t = true) : settle t = t := by
  have hrest := h.rest
  have hphase : t.du.phase = .none := by rw [hrest]; rfl
  have hpins : { t.pins with ready := false, alertN := true, fastIrq := 0 } = t.pins := by rw [hrest]; rfl
  rw [settle_idle hres (by rw [hphase]; decide) (by rw [hrest]; rfl) (by rw [hrest]; rfl) (by rw [hrest]; rfl)
    (by rw [hrest]; rfl) (by rw [hrest]; rfl), hpins]

/-- The seeds and the straps are written on top of what is cleared. -/
theorem Cleared.afterWr {s t : State} {a : Nat} (h : Cleared s t) (v : Nat)
    (ha : a ∈ [loc .ST_SEED_CUR 0 0, loc .ST_SEED_CUR 0 1, loc .GL_STRAP]) : Cleared s (wr a v t) where
  regs b hb := (rd_wr_other a b v t fun e => hb (e ▸ ha)).trans (h.regs b hb)
  rest := congrArg (fun u : State => { u with regs := rput t.regs a (BitVec.ofNat 32 v) }) h.rest

theorem Cleared.afterFs {s t : State} (h : Cleared s t) (f : Fld) (v : Nat) : Cleared s (fs (loc .GL_STRAP) f v t) :=
  h.afterWr _ (by decide)

theorem Cleared.withProfile {s t : State} (h : Cleared s t) (p : Nat) :
    Cleared s { t with pins := { t.pins with coldProfile := p } } where
  regs := h.regs
  rest := congrArg (fun u : State => { u with pins := { u.pins with coldProfile := p } }) h.rest

/-- Nothing but the control ports differs. -/
def CtlOnly (s t : State) : Prop := t = { s with ctl := t.ctl }

theorem CtlOnly.trans {s t u : State} (h : CtlOnly s t) (k : CtlOnly t u) : CtlOnly s u :=
  Eq.trans k (congrArg (fun v : State => { v with ctl := u.ctl }) h)

theorem respond_ctlOnly (m : Master) (st : RStatus) (w : Bool) (v : Nat) (s : State) : CtlOnly s (respond m st w v s) := rfl

theorem setCtlQueue_ctlOnly (m : Master) (q : List CtlReq) (s : State) : CtlOnly s (setCtlQueue m q s) := rfl

/-- Flushing the ports gives responses and empties queues, and nothing else. -/
theorem flushRequests_ctlOnly (s : State) : CtlOnly s (flushRequests s) := by
  refine forEach_rel (R := CtlOnly) (fun _ => rfl) (fun _ _ _ => .trans) (fun m t => ?_) _ s
  refine .trans ?_ (setCtlQueue_ctlOnly m [] _)
  exact forEach_rel (R := CtlOnly) (fun _ => rfl) (fun _ _ _ => .trans) (fun r : CtlReq => respond_ctlOnly m .off r.write 0) _ t

/-- The cleared block before its seeds are drawn. -/
def clearBase (s : State) : State :=
  { State.reset with
    free := s.free, pending := s.pending
    pins := { Pins.reset with
      rstN := s.pins.rstN, warmN := s.pins.warmN, refclk := s.pins.refclk, collapsed := s.pins.collapsed,
      targetIdle := s.pins.targetIdle }
    ctl := { Ctl.reset with rsp := s.ctl.rsp }
    dp := { Dp.reset with out := s.dp.out }
    host := { HostSt.reset with nextId := s.host.nextId }
    boot := { Boot.reset with array := s.boot.array }
    du := { Du.reset with sent := s.du.sent, creditsOut := s.du.creditsOut } }

theorem coldClear_eq (s : State) : coldClear s =
    wr (loc .ST_SEED_CUR 0 1) (drawSeeds (clearBase (flushRequests s))).1.2
      (wr (loc .ST_SEED_CUR 0 0) (drawSeeds (clearBase (flushRequests s))).1.1
        (drawSeeds (clearBase (flushRequests s))).2) := rfl

/-- Drawing seeds counts free values alone. -/
theorem drawSeeds_free_only (s : State) : (drawSeeds s).2 = { s with free := (drawSeeds s).2.free } := rfl

/-- COLD_RESET and SUPPLY_COLLAPSE clear the block, `s` being it with the reset's own level changed. -/
theorem coldClear_cleared (s : State) : Cleared s (coldClear s) := by
  have hctl := flushRequests_ctlOnly s
  have hbase : Cleared s (drawSeeds (clearBase (flushRequests s))).2 :=
    { regs := fun a _ => rfl
      rest := by
        rw [drawSeeds_free_only, clearBase, hctl] }
  rw [coldClear_eq]
  exact (hbase.afterWr _ (by decide)).afterWr _ (by decide)

theorem coldClear_pins (s : State) : (coldClear s).pins.rstN = s.pins.rstN ∧ (coldClear s).pins.collapsed = s.pins.collapsed := by
  have hctl := flushRequests_ctlOnly s
  rw [coldClear_eq, wr_pins, wr_pins, drawSeeds_free_only, clearBase, hctl]
  exact ⟨rfl, rfl⟩

/-- What is cleared does not depend on the levels of RST_N and of the supplies before. -/
theorem Cleared.of_pins {s t : State} {p : Pins} (h : Cleared { s with pins := p } t)
    (hw : p.warmN = s.pins.warmN) (hr : p.refclk = s.pins.refclk) (hi : p.targetIdle = s.pins.targetIdle) : Cleared s t where
  regs := h.regs
  rest := by
    rw [← hw, ← hr, ← hi]
    exact h.rest

theorem coldAssert_eq {s : State} (h : s.pins.rstN = true) :
    coldAssert s = coldClear { s with pins := { s.pins with rstN := false } } := by
  simp [coldAssert, h]

/-- The straps latched before, on a cleared block: the profile, and what GL_STRAP, which read `g`, shows of it. -/
def keepStraps (p g : Nat) (c : State) : State :=
  fs (loc .GL_STRAP) F.GL_STRAP_DUO_ROLE (bits g 5 4)
    (fs (loc .GL_STRAP) F.GL_STRAP_PROFILE_SEL (bits g 1 0) { c with pins := { c.pins with coldProfile := p } })

theorem Cleared.keepStraps {s c : State} (h : Cleared s c) (p g : Nat) : Cleared s (keepStraps p g c) :=
  ((h.withProfile p).afterFs _ _).afterFs _ _

theorem keepStraps_collapsed (p g : Nat) (c : State) : (keepStraps p g c).pins.collapsed = c.pins.collapsed := rfl

theorem keepStraps_rstN (p g : Nat) (c : State) : (keepStraps p g c).pins.rstN = c.pins.rstN := rfl

theorem supplyCollapse_eq {s : State} (h : s.pins.collapsed = false) : supplyCollapse s =
    keepStraps s.pins.coldProfile (rd (loc .GL_STRAP) s) (coldClear { s with pins := { s.pins with collapsed := true } }) := by
  simp [supplyCollapse, h, keepStraps]

theorem coldAssert_cleared {s : State} (h : s.pins.rstN = true) : Cleared s (coldAssert s) := by
  rw [coldAssert_eq h]
  exact (coldClear_cleared { s with pins := { s.pins with rstN := false } }).of_pins rfl rfl rfl

theorem supplyCollapse_cleared {s : State} (h : s.pins.collapsed = false) : Cleared s (supplyCollapse s) := by
  have hclear := coldClear_cleared { s with pins := { s.pins with collapsed := true } }
  rw [supplyCollapse_eq h]
  exact (hclear.keepStraps ..).of_pins rfl rfl rfl

theorem coldAssert_pins {s : State} (h : s.pins.rstN = true) :
    (coldAssert s).pins.rstN = false ∧ (coldAssert s).pins.collapsed = s.pins.collapsed := by
  rw [coldAssert_eq h]
  exact coldClear_pins { s with pins := { s.pins with rstN := false } }

theorem supplyCollapse_pins {s : State} (h : s.pins.collapsed = false) :
    (supplyCollapse s).pins.collapsed = true ∧ (supplyCollapse s).pins.rstN = s.pins.rstN := by
  rw [supplyCollapse_eq h, keepStraps_collapsed, keepStraps_rstN]
  exact (coldClear_pins _).symm

/-- Settles O7: what is cleared is in reset and has no work, so that its command ends with nothing else. -/
theorem coldResetClears : Obligations.ColdResetClears := by
  refine ⟨fun s h => ?_, fun s h => ?_⟩
  · have hclear := supplyCollapse_cleared h
    obtain ⟨hcol, hrst⟩ := supplyCollapse_pins h
    exact ⟨_, congrArg Host.Outcome.next (hclear.settle_eq (by simp [inReset, hcol])), hcol, hrst, hclear⟩
  · have hclear := coldAssert_cleared h
    obtain ⟨hrst, hcol⟩ := coldAssert_pins h
    exact ⟨_, congrArg Host.Outcome.next (hclear.settle_eq (by simp [inReset, hrst])), hrst, hcol, hclear⟩

end Sys2Proof.Machine
end

section
/-!
PROOFS. Supply warning and recovery, cold release, fuse load, warm reset and the profile (O8).
-/

namespace Sys2Proof.Machine

/-! ## Supplies and the release of RST_N (R41, R44, R49) -/

theorem supplyWarning_eq {s : State} (h : coldHeld s = false) :
    supplyWarning s = alert F.GL_ALERT_PWR_WARN (privEdge 7 s) := by
  simp [supplyWarning, h]

/-- The block with RST_N high, its straps about to be latched. -/
def rstHigh (prof : Nat) (s : State) : State :=
  { s with
    pins := { s.pins with rstN := true, coldStep := 1, coldProfile := prof }
    du := { s.du with leftReset := s.tb.refill } }

/-- AON in RUN, and the straps latched in GL_STRAP. -/
def strapsLatched (prof duo : Nat) (s : State) : State :=
  fs (loc .GL_STRAP) F.GL_STRAP_DUO_ROLE duo (fs (loc .GL_STRAP) F.GL_STRAP_PROFILE_SEL prof
    (setIsl 0 { isl 0 s with st := .run, target := .run, entering := false, waking := false } (rstHigh prof s)))

theorem coldRelease_eq {prof duo : Nat} {s : State} (hrst : s.pins.rstN = false) (hcol : s.pins.collapsed = false)
    (hp : prof < 4) (hd : duo < 4) : coldRelease prof duo s =
      showRole (doIf (duo == 3) (alert F.GL_ALERT_STRAP) (strapsLatched prof duo s)) := by
  rw [coldRelease, if_neg (by simp [hrst])]
  dsimp only
  rw [if_neg (by simp [hcol]), coldBegin, Nat.mod_eq_of_lt hp, Nat.mod_eq_of_lt hd]
  rfl

theorem showRole_eq (s : State) : showRole s = wr (loc .DU_STATUS)
    ((if fg (loc .GL_STRAP) F.GL_STRAP_DUO_ROLE s = 3 then 0 else fg (loc .GL_STRAP) F.GL_STRAP_DUO_ROLE s) * 2 ^ 30 +
      b2n ((if fg (loc .GL_STRAP) F.GL_STRAP_DUO_ROLE s = 3 then 0 else fg (loc .GL_STRAP) F.GL_STRAP_DUO_ROLE s) == 2) *
        2 ^ 27) s := rfl

theorem fg_strapsLatched_duo (prof duo : Nat) (s : State) (hd : duo < 4) :
    fg (loc .GL_STRAP) F.GL_STRAP_DUO_ROLE (strapsLatched prof duo s) = duo :=
  (fg_fs_same _ _ _ (by decide) (by decide)).trans (Nat.mod_eq_of_lt hd)

theorem fg_strapsLatched_profile (prof duo : Nat) (s : State) (hp : prof < 4) :
    fg (loc .GL_STRAP) F.GL_STRAP_PROFILE_SEL (strapsLatched prof duo s) = prof :=
  (fg_fs_beside _ _ _ (by decide) (by decide) (by decide)).trans
    ((fg_fs_same _ _ _ (by decide) (by decide)).trans (Nat.mod_eq_of_lt hp))

/-- DUO_ROLE 0b11 is the SINGLE role with the STRAP alert (R49). -/
theorem showRole_both {s : State} (h : fg (loc .GL_STRAP) F.GL_STRAP_DUO_ROLE s = 3) :
    showRole s = wr (loc .DU_STATUS) 0 s := by
  rw [showRole_eq, h]
  rfl

/-- What shows after a release with DUO_ROLE 0b11. -/
theorem coldRelease_both {prof : Nat} {s : State} (hrst : s.pins.rstN = false) (hcol : s.pins.collapsed = false)
    (hp : prof < 4) : coldRelease prof 3 s =
      wr (loc .DU_STATUS) 0 (alert F.GL_ALERT_STRAP (strapsLatched prof 3 s)) := by
  have hduo : fg (loc .GL_STRAP) F.GL_STRAP_DUO_ROLE (alert F.GL_ALERT_STRAP (strapsLatched prof 3 s)) = 3 :=
    (fg_setFlag_other _ _ _ (by decide)).trans (fg_strapsLatched_duo prof 3 s (by decide))
  rw [coldRelease_eq hrst hcol hp (by decide)]
  exact showRole_both hduo

theorem isl_strapsLatched (prof duo : Nat) (s : State) : (isl 0 (strapsLatched prof duo s)).st = .run := by
  rw [isl, strapsLatched, fs, wr_isl, fs, wr_isl, setIsl_isl, sget_sput_same]

theorem isl_settle (c : Nat) (s : State) : isl c (settle s) = isl c s := by
  rw [isl, isl, (settle_settling s).isl]

theorem supplyRecover_eq {s : State} (hcol : s.pins.collapsed = true) (hrst : s.pins.rstN = true) :
    supplyRecover s = coldBegin s.pins.coldProfile (fg (loc .GL_STRAP) F.GL_STRAP_DUO_ROLE s)
      { s with pins := { s.pins with collapsed := false } } := by
  simp [supplyRecover, hcol, hrst]

/-! ## FUSE_SHADOW_LOAD (R463) -/

/-- Nothing but registers, islands and what the power unit holds differs. -/
def RegsIslPwOnly (s t : State) : Prop := t = { s with regs := t.regs, isl := t.isl, pw := t.pw }

theorem RegsIslPwOnly.refl (s : State) : RegsIslPwOnly s s := rfl

theorem RegsIslPwOnly.trans {s t u : State} (h : RegsIslPwOnly s t) (k : RegsIslPwOnly t u) : RegsIslPwOnly s u :=
  Eq.trans k (congrArg (fun v : State => { v with regs := u.regs, isl := u.isl, pw := u.pw }) h)

/-- Composition from the last step back. -/
theorem RegsIslPwOnly.after {s t u : State} (k : RegsIslPwOnly t u) (h : RegsIslPwOnly s t) : RegsIslPwOnly s u := h.trans k

theorem wr_regsIslPwOnly (a v : Nat) (s : State) : RegsIslPwOnly s (wr a v s) := rfl

theorem fs_regsIslPwOnly (a : Nat) (f : Fld) (v : Nat) (s : State) : RegsIslPwOnly s (fs a f v s) := wr_regsIslPwOnly ..

theorem showRole_regsIslPwOnly (s : State) : RegsIslPwOnly s (showRole s) := wr_regsIslPwOnly ..

theorem wr64_regsIslPwOnly (a v : Nat) (s : State) : RegsIslPwOnly s (wr64 a v s) :=
  .after (wr_regsIslPwOnly ..) (wr_regsIslPwOnly ..)

theorem setSeq_regsIslPwOnly (q : PSeq) (s : State) : RegsIslPwOnly s (setSeq q s) := by
  refine .trans (t := { s with pw := { s.pw with seqs := s.pw.seqs.map (fun r => if r.code = q.code then q else r) } }) rfl ?_
  unfold setSeq showSeq
  split
  · exact .after (fs_regsIslPwOnly ..) (.after (fs_regsIslPwOnly ..) (fs_regsIslPwOnly ..))
  · exact .refl _

theorem bootStep_regsIslPwOnly (n : Nat) (s : State) : RegsIslPwOnly s (bootStep n s) := by
  unfold bootStep
  split
  · exact setSeq_regsIslPwOnly ..
  · exact .refl s

theorem showFuses_regsIslPwOnly (s : State) : RegsIslPwOnly s (showFuses s) :=
  .after (fs_regsIslPwOnly ..) (.after (fs_regsIslPwOnly ..) (.after (fs_regsIslPwOnly ..) (fs_regsIslPwOnly ..)))

/-- The fuse array with the words of FUSE_SHADOW_LOAD blown into it, and its shadow. -/
def fusesLoaded (words : List (Nat × Nat)) (s : State) : State :=
  { s with
    boot := { s.boot with
      array := words.foldl (fun m e => blow m (e.1 % 2048) (e.2 % 2 ^ 32)) s.boot.array
      fuse := words.foldl (fun m e => blow m (e.1 % 2048) (e.2 % 2 ^ 32)) s.boot.array }
    pins := { s.pins with coldStep := 3 } }

/-- Beside the fuses FUSE_SHADOW_LOAD changes registers and shows its step. -/
theorem fuseLoad_regsIslPwOnly {words : List (Nat × Nat)} {s : State} (h : s.pins.coldStep = 1) :
    RegsIslPwOnly (fusesLoaded words s) (fuseLoad words s) := by
  rw [fuseLoad, if_neg (by simp [h])]
  refine .after (bootStep_regsIslPwOnly ..) (.after (showFuses_regsIslPwOnly _) (.after (fs_regsIslPwOnly ..)
    (.after (wr64_regsIslPwOnly ..) (.after (wr64_regsIslPwOnly ..) (.after (wr64_regsIslPwOnly ..) ?_)))))
  exact forEach_rel RegsIslPwOnly.refl (fun _ _ _ => .trans) (fun _ _ => wr_regsIslPwOnly ..) _ _

/-! ## Warm reset (R46, R47, R102) -/

theorem putIslands_regsIslPwOnly (cs : List Nat) (st : PState) (s : State) : RegsIslPwOnly s (putIslands cs st s) :=
  forEach_rel (f := fun c t => setIsl c { isl c t with st := st, target := st, entering := false, waking := false } t)
    RegsIslPwOnly.refl (fun _ _ _ => .trans) (fun _ _ => rfl) cs s

theorem warmSems_regsIslPwOnly (s : State) : RegsIslPwOnly s (warmSems s) := by
  refine forEach_rel RegsIslPwOnly.refl (fun _ _ _ => .trans) (fun i t => ?_) _ s
  dsimp only
  split
  · exact wr_regsIslPwOnly ..
  · exact .refl t

/-- The block with its datapath emptied, before the table takes new seeds. -/
def datapathEmptied (s : State) : State :=
  { s with
    regs := warmRegs s.regs
    host := { HostSt.reset with
      nextId := s.host.nextId, reqs := warmReqs s.host.reqs, invDone := s.host.invDone, bypassFixed := s.host.bypassFixed }
    ev := { EvSt.reset with warmHold := true }
    pc := { Pc.reset with dump := { Dump.reset with
      named := s.pc.dump.named, base := s.pc.dump.base, logSlots := s.pc.dump.logSlots, sillage := s.pc.dump.sillage,
      func := s.pc.dump.func, seq := s.pc.dump.seq, slot := s.pc.dump.slot } }
    wq := { Wq.reset with nextExec := s.wq.nextExec, nextFence := s.wq.nextFence, nextOut := s.wq.nextOut }
    adm := [], te := [], prof := Prof.reset
    phy := { Phy.reset with lmap := s.phy.lmap }
    os := Os.reset
    dp := { Dp.reset with nextFrame := s.dp.nextFrame, out := s.dp.out }
    sc := { Sc.reset with ports := portsAt s.tb.refill }
    pw := { PwSt.reset with seqs := s.pw.seqs.filter (fun q => q.code == 0xFF && blockState s == 4) }
    sv := { s.sv with hmp := none, hmpChan := none, hmpKept := [], engActs := [] }
    du := { Du.reset with sent := s.du.sent, creditsOut := s.du.creditsOut, credits := s.du.credits } }

/-- Past the table a reset of the datapath changes registers and the steward's island. -/
theorem resetDatapath_regsIslPwOnly (s : State) :
    RegsIslPwOnly (tableWarmReset (datapathEmptied s)) (resetDatapath s) := by
  have hrow (c : Nat) (t : State) : RegsIslPwOnly t (fs (loc .RE_CL_STATUS c) F.RE_CL_STATUS_DISABLED 0 t) :=
    fs_regsIslPwOnly ..
  refine .after (showRole_regsIslPwOnly _) (.after ?state (forEach_rel RegsIslPwOnly.refl (fun _ _ _ => .trans) hrow (List.range 24) _))
  case state =>
    unfold doIf
    split
    · exact .after (putIslands_regsIslPwOnly ..) (.after (fs_regsIslPwOnly ..) (.after (fs_regsIslPwOnly ..)
        (.after (fs_regsIslPwOnly ..) (fs_regsIslPwOnly ..))))
    · exact .refl _

/-- The block in warm reset, before the end of the command. -/
def warmHeld (s : State) : State :=
  { warmSems (resetDatapath s) with
    pins := { (warmSems (resetDatapath s)).pins with warmN := false, profileApplied := false, datapathUp := false } }

theorem warmAssert_eq {s : State} (hw : s.pins.warmN = true) (hc : coldHeld s = false) : warmAssert s = warmHeld s := by
  simp [warmAssert, hw, hc, warmHeld]

/-- Queues, rings, channels, frames and the table are empty; the boot state and block time stay. -/
theorem warmHeld_empties (s : State) : (warmHeld s).wq.sqs = [] ∧ (warmHeld s).wq.cqs = [] ∧ (warmHeld s).adm = [] ∧
    (warmHeld s).te = [] ∧ (warmHeld s).dp.frames = [] ∧ (warmHeld s).tab.ways = [] ∧ (warmHeld s).tab.learnQ = [] ∧
    (warmHeld s).tab.holds = [] ∧ (warmHeld s).boot = s.boot ∧ (warmHeld s).tb = s.tb := by
  have hreset : RegsIslPwOnly (tableWarmReset (datapathEmptied s)) (warmSems (resetDatapath s)) :=
    (resetDatapath_regsIslPwOnly s).trans (warmSems_regsIslPwOnly _)
  rw [warmHeld, hreset]
  exact ⟨rfl, rfl, rfl, rfl, rfl, rfl, rfl, rfl, rfl, rfl⟩

/-! ## Release of the warm reset and the profile (R47, R107, R460) -/

theorem warmRelease_verdict {s : State} (hw : s.pins.warmN = false) (hc : coldHeld s = false) (hv : s.pins.verdict = true) :
    warmRelease s = applyStrap (loadBank0 (putIslands digitalIslands .run
      { s with pins := { s.pins with warmN := true }, du := { s.du with leftReset := s.tb.refill } })) := by
  simp [warmRelease, hw, hc, hv]

theorem warmRelease_no_verdict {s : State} (hv : s.pins.verdict = false) : warmRelease s =
    { s with pins := { s.pins with warmN := true }, du := { s.du with leftReset := s.tb.refill } } := by
  simp [warmRelease, hv]

theorem profileApply_due {s : State} (hres : inReset s = false) (hv : s.pins.verdict = true)
    (ha : s.pins.profileApplied = false) (hd : releaseDue s = true) : profileApply s = applyStrap (keepBank0 s) := by
  simp [profileApply, hres, hv, ha, hd]

theorem profileApply_waits {s : State} (h : s.pins.verdict = false ∨ releaseDue s = false) : profileApply s = s :=
  if_pos (by rcases h with h | h <;> simp [h])

/-- Settles O8. -/
theorem resetsAndProfile : Obligations.ResetsAndProfile := by
  refine ⟨?warning, ?release, ?both, ?recover, ?fuses, ?assert, ?rise, ?pinOnly, ?apply, ?waits⟩
  case warning => exact fun s h => done_eq (supplyWarning_eq h)
  case release =>
    intro prof duo s hrst hcol hp hd
    have hone : (duo == 3) = false := by simp; omega
    refine done_eq ((coldRelease_eq hrst hcol hp (by omega)).trans ?_)
    rw [hone]
    rfl
  case both =>
    intro prof s hrst hcol hp
    refine ⟨_, done_eq (coldRelease_both hrst hcol hp), ?duo, ?profile, ?alert, ?role, ?run⟩
    case duo =>
      rw [fg_congr _ (rd_settle (by decide) _), fg_wr_other _ _ _ (by decide), alert, fg_setFlag_other _ _ _ (by decide)]
      exact fg_strapsLatched_duo prof 3 s (by decide)
    case profile =>
      rw [fg_congr _ (rd_settle (by decide) _), fg_wr_other _ _ _ (by decide), alert, fg_setFlag_other _ _ _ (by decide)]
      exact fg_strapsLatched_profile prof 3 s hp
    case alert =>
      rw [fb_congr _ (rd_settle (by decide) _), fb_congr _ (rd_wr_other _ _ _ _ (by decide))]
      exact fb_setFlag_same _ _ (by decide) (by decide)
    case role =>
      rw [duRole_settle, duRole, fg, rd_wr_same]
      rfl
    case run =>
      rw [isl_settle, isl, wr_isl]
      exact isl_strapsLatched prof 3 s
  case recover => exact fun s hcol hrst => done_eq (supplyRecover_eq hcol hrst)
  case fuses =>
    intro words s h
    have hsettle := settle_settling (fuseLoad words s)
    have hload := fuseLoad_regsIslPwOnly (words := words) h
    refine ⟨_, rfl, ?_, ?_, ?_, ?_, ?_⟩
    · rw [hsettle.boot, hload]; rfl
    · rw [hsettle.boot, hload]; rfl
    · rw [hsettle.dp, hload]; rfl
    · rw [hsettle.wq, hload]; rfl
    · rw [hsettle.tab, hload]; rfl
  case assert =>
    intro s hw hc
    exact ⟨_, done_eq (warmAssert_eq hw hc), rfl, rfl, warmHeld_empties s⟩
  case rise => exact fun s hw hc hv => done_eq (warmRelease_verdict hw hc hv)
  case pinOnly => exact fun s _ hv => done_eq (warmRelease_no_verdict hv)
  case apply => exact fun s hres hv ha hd => done_eq (profileApply_due hres hv ha hd)
  case waits => exact fun s h => done_eq (profileApply_waits h)

end Sys2Proof.Machine
end

section
/-!
PROOFS. The control ports: order, capacity, time-out and stalled accesses (O35).
-/

namespace Sys2Proof.Machine

/-! ## Queues of the ports (R54, R55) -/

@[simp] theorem ctlQueue_setCtlQueue_same (m : Master) (q : List CtlReq) (s : State) : ctlQueue m (setCtlQueue m q s) = q :=
  sget_sput_same ..

theorem respond_queue (m n : Master) (st : RStatus) (w : Bool) (v : Nat) (s : State) :
    ctlQueue n (respond m st w v s) = ctlQueue n s := rfl

theorem sremove_idem {α : Type} (k : Nat) (l : Smap α) : sremove k (sremove k l) = sremove k l := by simp [sremove]

/-- An element is removed before it is written, so that a write forgets the one before. -/
theorem sput_sput_default {α : Type} [DecidableEq α] (d : α) (l : Smap α) (k : Nat) (v : α) :
    sput d (sput d l k d) k v = sput d l k v := by
  simp only [sput, if_true, sremove_idem]

/-- A queue that is emptied and filled again is filled. -/
theorem setCtlQueue_emptied (m : Master) (q : List CtlReq) (s : State) :
    setCtlQueue m q (setCtlQueue m [] s) = setCtlQueue m q s := by
  simp only [setCtlQueue, sput_sput_default]

/-- A queue of a port does not depend on what it answers. -/
theorem setCtlQueue_respond (m n : Master) (q : List CtlReq) (st : RStatus) (w : Bool) (v : Nat) (s : State) :
    setCtlQueue n q (respond m st w v s) = respond m st w v (setCtlQueue n q s) := rfl

theorem acceptReq_queues {m : Master} {r : CtlReq} {s : State} (hlen : (ctlQueue m s).length < 8) (hq : ctlQueue m s ≠ []) :
    acceptReq m r s = setCtlQueue m (ctlQueue m s ++ [r]) s := by
  simp [acceptReq, Nat.not_le.mpr hlen, hq]

theorem acceptReq_full {m : Master} {s : State} (r : CtlReq) (hlen : 8 ≤ (ctlQueue m s).length) : acceptReq m r s = s :=
  if_pos hlen

/-- A request that leaves its port's queue empty leaves the later ones waiting. -/
theorem runHead_done {m : Master} {r : CtlReq} {l : List CtlReq} {s t : State} (h : runReq m r (setCtlQueue m [] s) = t)
    (hq : ctlQueue m t = []) : runHead m r l s = setCtlQueue m l t := by
  rw [runHead, h, hq, List.nil_append]

theorem dispatchReq_head {m : Master} {r : CtlReq} {l : List CtlReq} {s : State} (hq : ctlQueue m s = r :: l)
    (hst : r.stalled = false) : dispatchReq m s = runHead m r l s := by
  simp [dispatchReq, hq, hst]

/-! ## A read and a write of TB_FREQ -/

theorem tbFreq_page : region (loc .TB_FREQ) = .page (loc .TB_FREQ / 4096) (loc .TB_FREQ % 4096) := by decide

theorem tbFreq_regAt : regAt (loc .TB_FREQ / 4096) (loc .TB_FREQ % 4096) = some (.TB_FREQ, 0, false) := by decide

theorem tbFreq_clientPcs (s : State) : clientPcs (loc .TB_FREQ) s = false := by
  have hpage : decide (0x40 ≤ loc .TB_FREQ / 4096) = false := by decide
  simp [clientPcs, hpage]

/-- A read below the flag aliases of a 32-bit register reads the register itself. -/
theorem readEffect_plain {m : Master} {a i : Nat} {n : RegName} {s : State} (halias : a % 4096 < 0x800)
    (hpcs : clientPcs a s = false) (hreg : regAt (a / 4096) (a % 4096) = some (n, i, false)) (hwide : n.row.wide = false) :
    readEffect m a s = readReg m n (pageInstance (a / 4096)) i a s := by
  have hclear : ¬ 0xC00 ≤ a % 4096 := by omega
  have hset : ¬ 0x800 ≤ a % 4096 := by omega
  simp [readEffect, hpcs, hclear, hset, hreg, hwide]

theorem readReg_tbFreq (m : Master) (k i a : Nat) (s : State) : readReg m .TB_FREQ k i a s = (rd a s, s) := by
  have hch : tePacketOnly .TB_FREQ = false := by decide
  simp [readReg, hch]

/-- A read of TB_FREQ returns its word. -/
theorem readEffect_tbFreq (m : Master) (s : State) : readEffect m (loc .TB_FREQ) s = (rd (loc .TB_FREQ) s, s) :=
  (readEffect_plain (by decide) (tbFreq_clientPcs s) tbFreq_regAt (by decide)).trans (readReg_tbFreq ..)

theorem runReq_tbFreq_read {m : Master} {d : W32} {s : State} (hopen : ReadOpen m (loc .TB_FREQ) s) :
    runReq m { write := false, addr := loc .TB_FREQ, data := d, stalled := false } s =
      respond m .ok false (rd (loc .TB_FREQ) s) s := by
  obtain ⟨hq, hr, -⟩ := id hopen
  have halign : loc .TB_FREQ % 4 = 0 := by decide
  calc runReq m { write := false, addr := loc .TB_FREQ, data := d, stalled := false } s
      = ctlRead m (loc .TB_FREQ) (readEffect m (loc .TB_FREQ)) s := by
        simp [runReq, runReqNow, inTurn, hq, hr, halign, tbFreq_page]
    _ = _ := by rw [ctlRead_open hopen, readEffect_tbFreq]

theorem runReq_tbFreq_write {m : Master} {d : W32} {s : State} (hopen : WriteOpen m (loc .TB_FREQ) d.toNat s) :
    runReq m { write := true, addr := loc .TB_FREQ, data := d, stalled := false } s =
      respond m .ok true 0 (journalConfig (loc .TB_FREQ) d.toNat (plainWrite .TB_FREQ (loc .TB_FREQ) d.toNat s)) := by
  have hreq : ({ write := true, addr := loc .TB_FREQ, data := d, stalled := false } : CtlReq) = wreq (loc .TB_FREQ) d.toNat := by
    rw [wreq, BitVec.ofNat_toNat, BitVec.setWidth_eq]
  rw [hreq]
  exact runReq_page_write (by decide) (by decide) (by decide) hopen
    (writeEffect_plain (by decide) (tbFreq_clientPcs s) tbFreq_regAt (by decide) (by decide))

/-- TB_FREQ is no register whose writes are journalled. -/
theorem journalConfig_tbFreq (d : Nat) (s : State) : journalConfig (loc .TB_FREQ) d s = s := by
  have hpage : configPage (loc .TB_FREQ / 4096) = false := by decide
  simp [journalConfig, hpage]

/-! ## Time-out and stalled accesses (R57, R98, R99) -/

theorem timeoutReq_page {m : Master} {r : CtlReq} {l : List CtlReq} {pg off : Nat} {s : State} (hq : ctlQueue m s = r :: l)
    (hpage : reqPage r = some (pg, off)) : timeoutReq m s =
      respond m .timeout r.write 0 (recordAccess m r.write pg off 6 (setCtlQueue m l s)) := by
  simp [timeoutReq, hq, hpage]

/-- A stalled access whose island runs with a clock is carried out. -/
theorem resumeReq_run {m : Master} {r : CtlReq} {l : List CtlReq} {s : State} (hq : ctlQueue m s = r :: l)
    (hstall : r.stalled = true) (hwake : (isl (reqIsland r) s).waking = false) (hent : (isl (reqIsland r) s).entering = false)
    (hst : (isl (reqIsland r) s).st = .run) (hclk : clocked (reqIsland r) s = true) :
    resumeReq m s = runHead m { r with stalled := false } l s := by
  simp [resumeReq, hq, hstall, hwake, hent, hst, hclk]

/-- A stalled access whose island is back in SLEEP ends with OFF. -/
theorem resumeReq_sleep {m : Master} {r : CtlReq} {l : List CtlReq} {pg off : Nat} {s : State} (hq : ctlQueue m s = r :: l)
    (hstall : r.stalled = true) (hwake : (isl (reqIsland r) s).waking = false) (hent : (isl (reqIsland r) s).entering = false)
    (hst : (isl (reqIsland r) s).st = .sleep) (hclk : clocked (reqIsland r) s = true) (hpage : reqPage r = some (pg, off)) :
    resumeReq m s = answerOff m r.write pg off (setCtlQueue m l s) := by
  simp [resumeReq, hq, hstall, hwake, hent, hst, hclk, hpage]

/-- Settles O35. -/
theorem controlQueues : Obligations.ControlQueues := by
  refine ⟨?queues, ?full, ?reads, ?writes, ?timeout, ?resumes, ?off⟩
  case queues => exact fun m w a d s hlen hq => done_eq (acceptReq_queues hlen hq)
  case full => exact fun m w a d s hlen => done_eq (acceptReq_full _ hlen)
  case reads =>
    intro m d l s hq hopen
    have hrun := runReq_tbFreq_read (d := d) hopen
    have hempty : ctlQueue m (respond m .ok false (rd (loc .TB_FREQ) (setCtlQueue m [] s)) (setCtlQueue m [] s)) = [] := by
      rw [respond_queue, ctlQueue_setCtlQueue_same]
    refine done_eq ((dispatchReq_head hq rfl).trans ((runHead_done hrun hempty).trans ?_))
    rw [setCtlQueue_respond, setCtlQueue_emptied]
    exact congrArg (respond m .ok false · _) (rd_congr _ (setCtlQueue_regs ..))
  case writes =>
    intro m d l s hq hopen
    have hrun := runReq_tbFreq_write hopen
    refine done_eq ((dispatchReq_head hq rfl).trans (runHead_done hrun ?_))
    rw [respond_queue, journalConfig_tbFreq]
    exact ctlQueue_setCtlQueue_same ..
  case timeout => exact fun m r l pg off s hq hpage => done_eq (timeoutReq_page hq hpage)
  case resumes =>
    intro m r l s hq hstall hwake hent hst hclk
    exact done_eq (resumeReq_run hq hstall hwake hent hst hclk)
  case off =>
    intro m r l pg off s hq hstall hwake hent hst hclk hpage
    exact done_eq (resumeReq_sleep hq hstall hwake hent hst hclk hpage)

end Sys2Proof.Machine
end

section
/-!
PROOFS. Refused writes, page headers, locks and access lists (O36).
-/

namespace Sys2Proof.Machine

/-! ## Requests to listed pages -/

/-- A request whose turn it is, out of reset, to an aligned word of a listed page, is a control write. -/
theorem runReq_page {m : Master} {a : Nat} {d : W32} {s : State} (halign : a % 4 = 0) (ha : a < 0x100000)
    (hpage : (pageOf (a / 4096)).isSome = true) (hq : ctlQueue m s = []) (hr : resetHolds a s = false) :
    runReq m (wreq a d.toNat) s = ctlWrite m a d.toNat (writeEffect m a d.toNat) s (writeMiss a d.toNat) := by
  obtain ⟨pg, hpg⟩ := Option.isSome_iff_exists.mp hpage
  have hregion : region a = .page (a / 4096) (a % 4096) := by simp [region, ha, hpg]
  simp [runReq, runReqNow, inTurn, wreq, hq, hr, halign, hregion]

/-- A write that the table refuses is recorded in its page and answers ACCESS. -/
theorem ctlWrite_refused_by_table {m : Master} {a d reason : Nat} {eff : State → Option State} {miss : State → State}
    {s : State} (hq : ctlQueue m s = []) (hr : resetHolds a s = false) (ho : romOff (a / 4096) (a % 4096) s = false)
    (hc : tableCheck m true (a / 4096) (a % 4096) d s = some reason) :
    ctlWrite m a d eff s miss = refusePage m true (a / 4096) (a % 4096) reason s := by
  simp [ctlWrite, inTurn, ctlWriteNow, hq, hr, ho, hc]

/-- A write that would change a once field of a locked page is refused with reason LOCKED (R88). -/
theorem ctlWrite_locked {m : Master} {a d : Nat} {eff : State → Option State} {miss : State → State} {s : State}
    (hq : ctlQueue m s = []) (hr : resetHolds a s = false) (ho : romOff (a / 4096) (a % 4096) s = false)
    (hc : tableCheck m true (a / 4096) (a % 4096) d s = none) (hg : gate m (a / 4096) (a % 4096) s = .go)
    (hl : locked (a / 4096) (a % 4096) d s = true) :
    ctlWrite m a d eff s miss = refusePage m true (a / 4096) (a % 4096) 3 s := by
  simp [ctlWrite, inTurn, ctlWriteNow, runWrite, hq, hr, ho, hc, hg, hl]

/-- A write refused by the table is settled as a refusal. -/
theorem runReq_refused_by_table {m : Master} {a reason : Nat} {d : W32} {s : State} (halign : a % 4 = 0) (ha : a < 0x100000)
    (hpage : (pageOf (a / 4096)).isSome = true) (hq : ctlQueue m s = []) (hr : resetHolds a s = false)
    (ho : romOff (a / 4096) (a % 4096) s = false)
    (hc : tableCheck m true (a / 4096) (a % 4096) d.toNat s = some reason) :
    runReq m (wreq a d.toNat) s = refusePage m true (a / 4096) (a % 4096) reason s :=
  (runReq_page halign ha hpage hq hr).trans (ctlWrite_refused_by_table hq hr ho hc)

/-! ## The record of a refusal (R87) -/

/-- A refused write: the record of it, then the answer. -/
theorem refusePage_eq (m : Master) (pg off reason : Nat) (s : State) : ∃ v,
    v = reason * 2 ^ 28 + m.code * 2 ^ 26 + 2 ^ 25 +
      min 255 (fg (hdrLoc .PAGE_ACCESS pg) F.PAGE_ACCESS_COUNT s + 1) * 2 ^ 16 + off / 4 * 4 ∧
    refusePage m true pg off reason s = respond m .access true 0 (wr (hdrLoc .PAGE_ACCESS pg) v s) := by
  refine ⟨_, rfl, ?_⟩
  simp only [refusePage, recordAccess, b2n, if_true, Nat.one_mul]

theorem refusePage_ctl (m : Master) (pg off reason : Nat) (s : State) : (refusePage m true pg off reason s).ctl =
    { s.ctl with rsp := s.ctl.rsp ++ [{ master := m, status := .access, rdata := 0 }] } := by
  obtain ⟨v, -, h⟩ := refusePage_eq m pg off reason s
  rw [h]
  rfl

theorem refusePage_only (m : Master) (pg off reason : Nat) (s : State) : refusePage m true pg off reason s = { s with
    regs := (refusePage m true pg off reason s).regs, ctl := (refusePage m true pg off reason s).ctl } := by
  obtain ⟨v, -, h⟩ := refusePage_eq m pg off reason s
  rw [h]
  rfl

theorem rd_refusePage_other {b pg : Nat} (m : Master) (off reason : Nat) (s : State) (hb : b ≠ hdrLoc .PAGE_ACCESS pg) :
    rd b (refusePage m true pg off reason s) = rd b s := by
  obtain ⟨v, -, h⟩ := refusePage_eq m pg off reason s
  rw [h]
  exact rd_wr_other _ b v s hb

/-- The word that a refused write leaves in PAGE_ACCESS. -/
theorem rd_refusePage {reason : Nat} (m : Master) (pg off : Nat) (s : State) (hreason : reason < 16) (hoff : off < 4096) :
    rd (hdrLoc .PAGE_ACCESS pg) (refusePage m true pg off reason s) = reason * 2 ^ 28 + m.code * 2 ^ 26 + 2 ^ 25 +
      min 255 (fg (hdrLoc .PAGE_ACCESS pg) F.PAGE_ACCESS_COUNT s + 1) * 2 ^ 16 + off / 4 * 4 := by
  have hcode : m.code < 4 := by cases m <;> decide
  obtain ⟨v, hv, h⟩ := refusePage_eq m pg off reason s
  have hlt : v < 2 ^ 32 := by omega
  calc rd (hdrLoc .PAGE_ACCESS pg) (refusePage m true pg off reason s)
      = v % 2 ^ 32 := by rw [h]; exact rd_wr_same _ v s
    _ = _ := by rw [Nat.mod_eq_of_lt hlt, hv]

/-- The fields of a word of PAGE_ACCESS. -/
theorem pageAccess_fields {a reason code count off : Nat} {t : State} (hcode : code < 4) (hcount : count < 256)
    (hreason : reason < 16) (hoff : off < 4096)
    (h : rd a t = reason * 2 ^ 28 + code * 2 ^ 26 + 2 ^ 25 + count * 2 ^ 16 + off / 4 * 4) :
    fg a F.PAGE_ACCESS_REASON t = reason ∧ fg a F.PAGE_ACCESS_MASTER t = code ∧ fb a F.PAGE_ACCESS_WRITE t = true ∧
      fg a F.PAGE_ACCESS_OFFSET t = off / 4 ∧ fg a F.PAGE_ACCESS_COUNT t = count := by
  simp only [fb, fg, bits, h, F.PAGE_ACCESS_REASON, F.PAGE_ACCESS_MASTER, F.PAGE_ACCESS_WRITE, F.PAGE_ACCESS_OFFSET,
    F.PAGE_ACCESS_COUNT, beq_iff_eq]
  omega

/-- The reasons of the access table fit in REASON. -/
theorem tableCheck_lt {m : Master} {w : Bool} {pg off d reason : Nat} {s : State}
    (h : tableCheck m w pg off d s = some reason) : reason < 16 := by
  unfold tableCheck at h
  dsimp only at h
  split_ifs at h <;> simp_all <;> omega

/-- What a write that the table refuses leaves (R56, R87). -/
theorem refused_record {m : Master} {pg off reason : Nat} (s : State) (hreason : reason < 16) (hoff : off < 4096) :
    fg (hdrLoc .PAGE_ACCESS pg) F.PAGE_ACCESS_REASON (refusePage m true pg off reason s) = reason ∧
    fg (hdrLoc .PAGE_ACCESS pg) F.PAGE_ACCESS_MASTER (refusePage m true pg off reason s) = m.code ∧
    fb (hdrLoc .PAGE_ACCESS pg) F.PAGE_ACCESS_WRITE (refusePage m true pg off reason s) = true ∧
    fg (hdrLoc .PAGE_ACCESS pg) F.PAGE_ACCESS_OFFSET (refusePage m true pg off reason s) = off / 4 ∧
    fg (hdrLoc .PAGE_ACCESS pg) F.PAGE_ACCESS_COUNT (refusePage m true pg off reason s) =
      min 255 (fg (hdrLoc .PAGE_ACCESS pg) F.PAGE_ACCESS_COUNT s + 1) := by
  have hcode : m.code < 4 := by cases m <;> decide
  exact pageAccess_fields hcode (by omega) hreason hoff (rd_refusePage m pg off s hreason hoff)

/-! ## Locks (R88) -/

theorem locked_unlocked {pg : Nat} (off d : Nat) {s : State} (h : fb (hdrLoc .PAGE_LOCK pg) F.PAGE_LOCK_LOCK s = false) :
    locked pg off d s = false := by
  simp [locked, h]

/-- Two words differ under a mask where a bit of the mask does. -/
theorem masked_xor_ne_zero (v d mask : Nat) :
    (v ^^^ d) &&& mask ≠ 0 ↔ ∃ j, bit mask j = true ∧ bit v j ≠ bit d j := by
  simp only [bit_eq_testBit]
  constructor
  · intro h
    obtain ⟨j, hj⟩ := Nat.exists_testBit_of_ne_zero h
    exact ⟨j, by simp_all⟩
  · rintro ⟨j, hmask, hdiff⟩ h
    have hj : ((v ^^^ d) &&& mask).testBit j = true := by simp [hmask, hdiff]
    simp [h] at hj

/-- In a locked page a write is held back where it would change a once field. -/
theorem locked_iff {pg off d i : Nat} {n : RegName} {s : State} (h : fb (hdrLoc .PAGE_LOCK pg) F.PAGE_LOCK_LOCK s = true)
    (hreg : regAt pg off = some (n, i, false)) (hn : n ≠ .PAGE_LOCK) :
    locked pg off d s = true ↔ ∃ j, bit n.row.once j = true ∧ bit (rd (pg * 4096 + off) s) j ≠ bit d j := by
  rw [← masked_xor_ne_zero]
  simp [locked, h, hreg, hn]

/-! ## Header registers (R86 to R89) -/

/-- A register of the header: its offset finds it in every page. -/
def HeaderReg (n : RegName) : Prop :=
  n.row.off < 0x80 ∧ n.row.off % 4 = 0 ∧ n.row.wide = false ∧ findReg n.row.off hdrRegs = some (n, 0, false)

theorem headerReg_pageAccess : HeaderReg .PAGE_ACCESS := by unfold HeaderReg; decide

theorem headerReg_pageLock : HeaderReg .PAGE_LOCK := by unfold HeaderReg; decide

theorem headerReg_pageAcl : HeaderReg .PAGE_ACL := by unfold HeaderReg; decide

/-- Where a header register lies. -/
theorem hdrLoc_split {n : RegName} (h : HeaderReg n) (pg : Nat) : hdrLoc n pg / 4096 = pg ∧ hdrLoc n pg % 4096 = n.row.off ∧
    hdrLoc n pg % 4 = 0 := by
  obtain ⟨hoff, halign, -, -⟩ := h
  simp only [hdrLoc, locAt]
  omega

theorem hdrLoc_lt {n : RegName} (h : HeaderReg n) (pg : BitVec 8) : hdrLoc n pg.toNat < 0x100000 := by
  obtain ⟨hoff, -, -, -⟩ := h
  have hpg := pg.isLt
  simp only [hdrLoc, locAt]
  omega

/-- A write of a header register does what the register does. -/
theorem writeEffect_header {n : RegName} (h : HeaderReg n) (m : Master) (pg d : Nat) (s : State) :
    writeEffect m (hdrLoc n pg) d s = writeReg m n (pageInstance pg) 0 (hdrLoc n pg) d s := by
  obtain ⟨hpage, hmod, -⟩ := hdrLoc_split h pg
  obtain ⟨hoff, -, hwide, hfind⟩ := h
  have hpcs : pcsOffset n.row.off = false := by
    have h1 : ¬ 0x400 ≤ n.row.off := by omega
    have h2 : ¬ 0x200 ≤ n.row.off := by omega
    have h3 : ¬ 0x600 ≤ n.row.off := by omega
    simp [pcsOffset, h1, h2, h3]
  have hclear : ¬ 0xC00 ≤ n.row.off := by omega
  have hset : ¬ 0x800 ≤ n.row.off := by omega
  have hreg : regAt pg n.row.off = some (n, 0, false) := by simp [regAt, hoff, hfind]
  simp [writeEffect, clientPcs, hpage, hmod, hpcs, hclear, hset, hreg, hwide]

/-- An open write of a header register. -/
theorem exec_header_write {n : RegName} {c : Instr} {m : Master} {pg : BitVec 8} {d : W32} {s t : State} (h : HeaderReg n)
    (hc : exec c s = done (runReq m (wreq (hdrLoc n pg.toNat) d.toNat) s)) (hpage : (pageOf pg.toNat).isSome = true)
    (hopen : WriteOpen m (hdrLoc n pg.toNat) d.toNat s)
    (heff : writeReg m n (pageInstance pg.toNat) 0 (hdrLoc n pg.toNat) d.toNat s = some t) :
    exec c s = .next (written m (hdrLoc n pg.toNat) d.toNat t) := by
  obtain ⟨hpg, -, halign⟩ := hdrLoc_split h pg.toNat
  rw [hc]
  exact done_eq (runReq_page_write halign (hdrLoc_lt h pg) (by rw [hpg]; exact hpage) hopen
    ((writeEffect_header h ..).trans heff))

/-- What a write under a mask leaves under a part of the mask. -/
theorem and_masked_write (old d : Nat) {mask part : Nat} (hpart : part &&& mask = part) :
    ((old ^^^ (old &&& mask)) ||| (d &&& mask)) &&& part = d &&& part := by
  refine Nat.eq_of_testBit_eq fun i => ?_
  have hi := congrArg (Nat.testBit · i) hpart
  simp only [Nat.testBit_and, Nat.testBit_or, Nat.testBit_xor] at hi ⊢
  cases hp : part.testBit i with
  | false => simp
  | true => simp_all

/-- A field that a mask covers takes its bits from the data. -/
theorem bits_masked_write_inside (old d : Nat) {mask hi lo : Nat} (h : ∀ i < hi + 1 - lo, mask.testBit (lo + i) = true) :
    bits ((old ^^^ (old &&& mask)) ||| (d &&& mask)) hi lo = bits d hi lo := by
  refine Nat.eq_of_testBit_eq fun i => ?_
  by_cases hi : i < hi + 1 - lo
  · simp [testBit_bits, hi, h i hi]
  · simp [testBit_bits, hi]

/-- A field that a mask leaves out keeps its bits. -/
theorem bits_masked_write_outside (old d : Nat) {mask hi lo : Nat} (h : ∀ i < hi + 1 - lo, mask.testBit (lo + i) = false) :
    bits ((old ^^^ (old &&& mask)) ||| (d &&& mask)) hi lo = bits old hi lo := by
  refine Nat.eq_of_testBit_eq fun i => ?_
  by_cases hi : i < hi + 1 - lo
  · simp [testBit_bits, hi, h i hi]
  · simp [testBit_bits, hi]

theorem rd_writePageAcl (a d : Nat) (s : State) (hd : d < 2 ^ 32) :
    rd a (writePageAcl a d s) = (rd a s ^^^ (rd a s &&& aclMask s)) ||| (d &&& aclMask s) := by
  have hold : rd a s ^^^ (rd a s &&& aclMask s) < 2 ^ 32 :=
    Nat.xor_lt_two_pow (rd_lt a s) (Nat.lt_of_le_of_lt Nat.and_le_left (rd_lt a s))
  have hnew : d &&& aclMask s < 2 ^ 32 := Nat.lt_of_le_of_lt Nat.and_le_left hd
  rw [writePageAcl, rd_wr_same, Nat.mod_eq_of_lt (Nat.or_lt_two_pow hold hnew)]

/-- The rights of the client ports and the steward are written whatever the debug unlock says. -/
theorem rd_writePageAcl_rights (a d : Nat) (s : State) (hd : d < 2 ^ 32) :
    rd a (writePageAcl a d s) &&& 0x707 = d &&& 0x707 := by
  rw [rd_writePageAcl a d s hd]
  refine and_masked_write _ _ ?_
  unfold aclMask
  split <;> decide

/-- The rights of the debug port are written after the debug unlock only (R89). -/
theorem aclDbg_writePageAcl (a d : Nat) (s : State) (hd : d < 2 ^ 32) :
    fg a F.PAGE_ACL_ACL_DBG (writePageAcl a d s) =
      if fb (loc .BT_DEBUG) F.BT_DEBUG_UNLOCKED s then bits d 26 24 else fg a F.PAGE_ACL_ACL_DBG s := by
  rw [fg, fg, rd_writePageAcl a d s hd, aclMask]
  split
  case isTrue => exact bits_masked_write_inside _ _ (by decide)
  case isFalse => exact bits_masked_write_outside _ _ (by decide)

/-! ## Rights that a write lacks (R89, R111) -/

/-- Another master than the steward does not write PAGE_ACL. -/
theorem tableCheck_pageAcl {m : Master} (pg d : Nat) (s : State) (hm : m ≠ .stw) :
    tableCheck m true pg 0x20 d s = some 1 := by
  simp [tableCheck, hm]

/-- The headers answer before the ROM runs. -/
theorem romOff_header {off : Nat} (pg : Nat) (s : State) (hoff : off < 0x80) : romOff pg off s = false := by
  simp [romOff, Nat.not_le.mpr hoff]

/-- Another master than the steward does not write GL_WINACL. -/
theorem tableCheck_winAcl {m : Master} (d : Nat) (s : State) (hm : m ≠ .stw) :
    tableCheck m true 0 (loc .GL_WINACL % 4096) d s = some 1 := by
  have hrow : loc .GL_WINACL % 4096 = 0x94 := by decide
  have honly : stewardOnly 0 0x94 d = true := by
    have hloc : loc .GL_WINACL = 0x94 := by decide
    simp [stewardOnly, hloc]
  simp [tableCheck, hrow, recoveryWrite, hm, honly]

/-! ## Registers of the GL page -/

/-- A register of page 0 outside its header. -/
def GlReg (n : RegName) : Prop :=
  loc n < 0x800 ∧ loc n % 4 = 0 ∧ n.row.wide = false ∧ regAt 0 (loc n) = some (n, 0, false)

theorem glReg_winAcl : GlReg .GL_WINACL := by unfold GlReg; decide

theorem glReg_hostCfg : GlReg .GL_HOSTCFG := by unfold GlReg; decide

theorem loc_glReg {n : RegName} (h : GlReg n) : loc n / 4096 = 0 ∧ loc n % 4096 = loc n := by
  obtain ⟨hoff, -⟩ := h
  omega

theorem writeEffect_glReg {n : RegName} (h : GlReg n) (m : Master) (d : Nat) (s : State) :
    writeEffect m (loc n) d s = writeReg m n (pageInstance 0) 0 (loc n) d s := by
  obtain ⟨hpage, hmod⟩ := loc_glReg h
  obtain ⟨hoff, -, hwide, hreg⟩ := h
  have hclear : ¬ 0xC00 ≤ loc n := by omega
  have hset : ¬ 0x800 ≤ loc n := by omega
  simp [writeEffect, clientPcs, hpage, hmod, hclear, hset, hreg, hwide]

theorem runReq_glReg_write {n : RegName} {m : Master} {d : W32} {s t : State} (h : GlReg n)
    (hopen : WriteOpen m (loc n) d.toNat s) (heff : writeReg m n (pageInstance 0) 0 (loc n) d.toNat s = some t) :
    runReq m (wreq (loc n) d.toNat) s = respond m .ok true 0 (journalConfig (loc n) d.toNat t) := by
  obtain ⟨hpage, -⟩ := loc_glReg h
  obtain ⟨hoff, halign, -⟩ := id h
  exact runReq_page_write halign (by omega) (by rw [hpage]; decide) hopen ((writeEffect_glReg h ..).trans heff)

theorem writeMiss_hostCfg (d : Nat) (s : State) : writeMiss (loc .GL_HOSTCFG) d s = s := by
  have hreg : regAt (loc .GL_HOSTCFG / 4096) (loc .GL_HOSTCFG % 4096) = some (.GL_HOSTCFG, 0, false) := by decide
  simp [writeMiss, hreg]

/-- A change of DBL_READ that is fixed is refused with reason STATE (R110). -/
theorem runReq_hostCfg_refused {m : Master} {d : W32} {s : State} (hopen : WriteOpen m (loc .GL_HOSTCFG) d.toNat s)
    (hfixed : dblFixed s = true) (hchange : bit d.toNat 0 ≠ dblMode s) :
    runReq m (wreq (loc .GL_HOSTCFG) d.toNat) s =
      refusePage m true (loc .GL_HOSTCFG / 4096) (loc .GL_HOSTCFG % 4096) 7 s := by
  obtain ⟨hq, hr, -⟩ := id hopen
  have heff : writeEffect m (loc .GL_HOSTCFG) d.toNat s = none :=
    (writeEffect_glReg glReg_hostCfg ..).trans (if_pos ⟨hchange, hfixed⟩)
  calc runReq m (wreq (loc .GL_HOSTCFG) d.toNat) s
      = ctlWrite m (loc .GL_HOSTCFG) d.toNat (writeEffect m (loc .GL_HOSTCFG) d.toNat) s
          (writeMiss (loc .GL_HOSTCFG) d.toNat) := runReq_page (by decide) (by decide) (by decide) hq hr
    _ = refusePage m true (loc .GL_HOSTCFG / 4096) (loc .GL_HOSTCFG % 4096) 7 (writeMiss (loc .GL_HOSTCFG) d.toNat s) :=
        ctlWrite_refused hopen heff
    _ = _ := by rw [writeMiss_hostCfg]

theorem writeHostCfg_allowed {d : Nat} {s : State} (h : dblFixed s = false ∨ bit d 0 = dblMode s) :
    writeHostCfg d s = some (plainWrite .GL_HOSTCFG (loc .GL_HOSTCFG) d s) := by
  refine if_neg ?_
  rintro ⟨hchange, hfixed⟩
  rcases h with h | h
  · simp [hfixed] at h
  · exact hchange h

/-- Settles O36. -/
theorem refusalsAndPageHeaders : Obligations.RefusalsAndPageHeaders := by
  refine ⟨?refused, ?clear, ?lock, ?held, ?heldIff, ?unlocked, ?acl, ?aclRefused, ?winacl, ?winaclRefused, ?hostcfg,
    ?hostcfgRefused⟩
  case refused =>
    intro m a d reason s halign ha hpage hq hr ho hc
    obtain ⟨hreason, hmaster, hwrite, hoffset, hcount⟩ :=
      refused_record (m := m) (pg := a.toNat / 4096) s (tableCheck_lt hc) (Nat.mod_lt a.toNat (by decide : 0 < 4096))
    exact ⟨_, done_eq (runReq_refused_by_table halign ha hpage hq hr ho hc), refusePage_ctl .., fun b hb =>
      rd_refusePage_other m _ reason s hb, hreason, hmaster, hwrite, hoffset, hcount, refusePage_only ..⟩
  case clear => exact fun m pg s hpage hopen => exec_header_write (d := 1) headerReg_pageAccess rfl hpage hopen rfl
  case lock => exact fun m pg s hpage hopen => exec_header_write (d := 1) headerReg_pageLock rfl hpage hopen rfl
  case held =>
    intro m a d s halign ha hpage hq hr ho hc hg hl
    exact done_eq ((runReq_page halign ha hpage hq hr).trans (ctlWrite_locked hq hr ho hc hg hl))
  case heldIff => exact fun pg off d i n s h hreg hn => locked_iff h hreg hn
  case unlocked => exact fun pg off d s h => locked_unlocked off d h
  case acl =>
    intro pg d s hpage hopen
    exact ⟨_, exec_header_write headerReg_pageAcl rfl hpage hopen rfl, rd_writePageAcl_rights _ _ s d.isLt,
      aclDbg_writePageAcl _ _ s d.isLt, fun b hb => rd_wr_other _ b _ s hb, rfl⟩
  case aclRefused =>
    intro m pg d s hpage hq hr hm
    obtain ⟨hpg, hmod, halign⟩ := hdrLoc_split headerReg_pageAcl pg.toNat
    refine done_eq (runReq_refused_by_table halign (hdrLoc_lt headerReg_pageAcl pg) (by rw [hpg]; exact hpage) hq hr ?_ ?_)
    · rw [hmod]
      exact romOff_header _ s (by decide)
    · rw [hmod]
      exact tableCheck_pageAcl _ _ s hm
  case winacl =>
    exact fun d s hopen => done_eq (runReq_glReg_write glReg_winAcl hopen (writeReg_plain (by decide) ..))
  case winaclRefused =>
    intro m d s hq hcold ho hm
    have hr : resetHolds (loc .GL_WINACL) s = false := by
      have hlow : ¬ 0x2000 ≤ loc .GL_WINACL := by decide
      simp [resetHolds, hcold, hlow]
    exact done_eq (runReq_refused_by_table (by decide) (by decide) (by decide) hq hr ho (tableCheck_winAcl _ s hm))
  case hostcfg =>
    exact fun m d s h hopen => done_eq (runReq_glReg_write glReg_hostCfg hopen (writeHostCfg_allowed h))
  case hostcfgRefused =>
    exact fun m d s hfixed hchange hopen => done_eq (runReq_hostCfg_refused hopen hfixed hchange)

end Sys2Proof.Machine
end

section
/-!
PROOFS. Answers of the translation service, page requests and invalidations (O34).
-/

namespace Sys2Proof.Machine

/-! ## Counters beside other registers -/

/-- Counting writes PC_EVENT and PC_WRAP_LAST only. -/
theorem rd_bump_other {b : Nat} (i : Nat) (s : State) (he : b ≠ loc .PC_EVENT) (hl : b ≠ loc .PC_WRAP_LAST) :
    rd b (bump i s) = rd b s := by
  unfold bump bumpBy
  split
  · rfl
  · dsimp only
    split
    · rfl
    · exact (rd_fs_other _ b _ _ _ hl).trans (rd_setFlag_other _ b _ _ he)

@[simp] theorem bump_host (i : Nat) (s : State) : (bump i s).host = s.host := by rw [bump_regs_pc_only]

/-! ## Translation responses (R73, R334, R336) -/

theorem lastFault_denied (x : XReq) (s : State) : lastFault x true s =
    wr (loc .TR_LAST_FUNC) (2 ^ 31 + x.func) (wr64 (loc .TR_LAST_FAULT) (x.page * 4096) s) := by
  rw [lastFault, b2n, if_pos rfl, Nat.one_mul]

/-- A response whose range has been invalidated ends its request and is not used. -/
theorem translationResponse_discarded {tag size st : Nat} {x : XReq} {s : State} (pa : Nat)
    (hx : s.host.xreqs.find? (fun y => y.tag == tag) = some x) (hd : x.discarded (if st = 0 then size else 0) = true) :
    translationResponse tag pa size st s = xlateAnswered tag s := by
  simp only [translationResponse, hx, if_pos hd]

theorem translationResponse_ok {tag size : Nat} {x : XReq} {s : State} (pa : Nat)
    (hx : s.host.xreqs.find? (fun y => y.tag == tag) = some x) (hd : x.discarded size = false) :
    translationResponse tag pa size 0 s = afterAnswer (fillTlb x pa size (xlateAnswered tag s)) := by
  simp [translationResponse, hx, hd]

theorem translationResponse_fault {tag : Nat} {x : XReq} {s : State} (pa size : Nat)
    (hx : s.host.xreqs.find? (fun y => y.tag == tag) = some x) (hd : x.discarded 0 = false) :
    translationResponse tag pa size 1 s = afterAnswer (forReqs (xWaiters x (xlateAnswered tag s)) faultOn
      (bump (cTr 2) (lastFault x false (xlateAnswered tag s)))) := by
  simp [translationResponse, hx, hd]

theorem translationResponse_denied {tag : Nat} {x : XReq} {s : State} (pa size : Nat)
    (hx : s.host.xreqs.find? (fun y => y.tag == tag) = some x) (hd : x.discarded 0 = false) :
    translationResponse tag pa size 2 s = afterAnswer (forReqs (xWaiters x (xlateAnswered tag s))
      (fun r t => xlateFailed r St.accessDenied t) (bump (cTr 5) (setFlag (loc .TR_EVENT) F.TR_EVENT_DENIED
        (lastFault x true (xlateAnswered tag s))))) := by
  simp [translationResponse, hx, hd]

/-! ## The translation cache (R334) -/

/-- The entries of a set of the cache. -/
def setEntries (n : Nat) (l : List TlbEntry) : List TlbEntry := l.filter (fun y => y.set == n)

theorem length_setEntries_le (n : Nat) (l : List TlbEntry) : (setEntries n l).length ≤ l.length := List.length_filter_le ..

/-- Entries that leave the cache leave their sets. -/
theorem length_setEntries_filter_le (n : Nat) (p : TlbEntry → Bool) (l : List TlbEntry) :
    (setEntries n (l.filter p)).length ≤ (setEntries n l).length :=
  (List.filter_sublist.filter _).length_le

/-- A set from which one of its entries leaves is shorter. -/
theorem length_setEntries_remove_lt {old : TlbEntry} {n : Nat} {l : List TlbEntry} (h : old ∈ setEntries n l) :
    (setEntries n (l.filter (· != old))).length < (setEntries n l).length := by
  have hswap : setEntries n (l.filter (· != old)) = (setEntries n l).filter (· != old) := by
    simp [setEntries, List.filter_filter, Bool.and_comm]
  rw [hswap]
  exact List.length_filter_lt_length_iff_exists.mpr ⟨old, h, by simp⟩

theorem length_setEntries_cons_le (e : TlbEntry) (n : Nat) (l : List TlbEntry) :
    (setEntries n (e :: l)).length ≤ (setEntries n l).length + 1 := by
  unfold setEntries
  rw [List.filter_cons]
  split <;> simp

theorem setEntries_cons_other {e : TlbEntry} {n : Nat} (l : List TlbEntry) (h : e.set ≠ n) :
    setEntries n (e :: l) = setEntries n l := by
  simp [setEntries, h]

/-- The entry put in is the first. -/
theorem head_tlbPut (e : TlbEntry) (l : List TlbEntry) : (tlbPut e l).head? = some e := by
  unfold tlbPut
  dsimp only
  split_ifs
  · rfl
  · rfl
  · split <;> rfl

/-- A set holds at most its 8 ways, whatever is put in. -/
theorem length_setEntries_tlbPut (e : TlbEntry) {l : List TlbEntry} (hl : ∀ n, (setEntries n l).length ≤ 8) (n : Nat) :
    (setEntries n (tlbPut e l)).length ≤ 8 := by
  have hcons := length_setEntries_cons_le e n l
  have hset := length_setEntries_le n l
  have hn := hl n
  unfold tlbPut
  split
  case isTrue hroom => omega
  case isFalse =>
    dsimp only
    split
    case isTrue hmine =>
      by_cases hne : e.set = n
      · subst hne
        have hset' : (setEntries e.set l).length < 8 := hmine
        omega
      · rwa [setEntries_cons_other l hne]
    case isFalse =>
      split
      case h_1 old hold =>
        have hcons' := length_setEntries_cons_le e n (l.filter (· != old))
        by_cases hne : e.set = n
        · subst hne
          have hlt := length_setEntries_remove_lt (n := e.set) (List.mem_of_getLast? hold)
          omega
        · rw [setEntries_cons_other _ hne]
          exact (length_setEntries_filter_le ..).trans hn
      case h_2 hnone =>
        have hempty := List.getLast?_eq_none_iff.mp hnone
        simp_all

/-- Where no access waits, an OK response puts one entry in. -/
theorem fillTlb_tlb {x : XReq} {s : State} (pa size : Nat) (hw : xWaiters x s = []) : ∃ rest : TlbEntry → Bool,
    (fillTlb x pa size s).host.tlb = tlbPut
      { func := x.func, page := x.page / 2 ^ size * 2 ^ size, size := size, pa := pa, write := x.write }
      (s.host.tlb.filter rest) := by
  have hkept : ∀ l, xWaiters x { s with host := { s.host with tlb := l } } = [] := fun l => hw
  unfold fillTlb
  dsimp only
  rw [hkept]
  exact ⟨_, rfl⟩

/-! ## Page requests (R336, R337) -/

theorem pageResponse_late {id : Nat} {x : PReq} {s : State} (ok : Bool)
    (hx : s.host.preqs.find? (fun y => y.id == id) = some x) (ht : x.timedOut = true) :
    pageResponse id ok s =
      { s with host := { s.host with preqs := s.host.preqs.filter (fun y => y.id != id) } } := by
  simp [pageResponse, hx, ht]

theorem pageResponse_ok {id : Nat} {x : PReq} {s : State}
    (hx : s.host.preqs.find? (fun y => y.id == id) = some x) (ht : x.timedOut = false) :
    pageResponse id true s = afterAnswer (forReqs
      (pWaiters x { s with host := { s.host with preqs := s.host.preqs.filter (fun y => y.id != id) } })
      (fun r u => setReq { r with phase := .again } u)
      { s with host := { s.host with preqs := s.host.preqs.filter (fun y => y.id != id) } }) := by
  simp [pageResponse, hx, ht]

theorem pageResponse_failed {id : Nat} {x : PReq} {s : State}
    (hx : s.host.preqs.find? (fun y => y.id == id) = some x) (ht : x.timedOut = false) :
    pageResponse id false s = afterAnswer (pageFail x (setFlag (loc .TR_EVENT) F.TR_EVENT_PRS_FAIL
      { s with host := { s.host with preqs := s.host.preqs.filter (fun y => y.id != id) } })) := by
  simp [pageResponse, hx, ht]

theorem pageTimeout_pending {id : Nat} {x : PReq} {s : State}
    (hx : s.host.preqs.find? (fun y => y.id == id) = some x) (ht : x.timedOut = false) (h0 : x.timeout ≠ 0) :
    pageTimeout id s = afterAnswer (pageFail x (bump (cTr 6) (setFlag (loc .TR_EVENT) F.TR_EVENT_PRQ_TIMEOUT
      { s with host := { s.host with
          preqs := s.host.preqs.map (fun y => if y.id = id then { y with timedOut := true } else y) } }))) := by
  simp [pageTimeout, hx, ht, h0]

/-! ## Invalidations (R74, R338) -/

/-- A range that meets an aligned range of a page meets each larger aligned range of that page. -/
theorem overlap_larger {p size q m n : Nat} (hmn : m ≤ n) (h : overlap p size (q / 2 ^ m * 2 ^ m) m = true) :
    overlap p size (q / 2 ^ n * 2 ^ n) n = true := by
  obtain ⟨k, rfl⟩ := Nat.exists_eq_add_of_le hmn
  have hlow : q / 2 ^ (m + k) * 2 ^ (m + k) ≤ q / 2 ^ m * 2 ^ m := by
    rw [Nat.pow_add, ← Nat.div_div_eq_div_mul, Nat.mul_comm (2 ^ m), ← Nat.mul_assoc]
    exact Nat.mul_le_mul_right _ (Nat.div_mul_le_self ..)
  have hhigh : q / 2 ^ m * 2 ^ m + 2 ^ m ≤ q / 2 ^ (m + k) * 2 ^ (m + k) + 2 ^ (m + k) := by
    have hlt : q / 2 ^ m < (q / 2 ^ m / 2 ^ k + 1) * 2 ^ k := Nat.lt_mul_of_div_lt (by omega) (Nat.two_pow_pos k)
    have hmul := Nat.mul_le_mul_right (2 ^ m) hlt
    rw [Nat.pow_add, ← Nat.div_div_eq_div_mul, Nat.mul_comm (2 ^ m) (2 ^ k), ← Nat.mul_assoc]
    linarith
  simp only [overlap, Bool.and_eq_true, decide_eq_true_eq] at h ⊢
  omega

/-- What an accepted invalidation leaves of the host's state. -/
theorem invalidate_host (i : Inval) (s : State) :
    (invalidate i s).host.tlb = s.host.tlb.filter (fun e => !i.covers e.func e.page e.size) ∧
    (invalidate i s).host.xreqs = s.host.xreqs.map (fun x =>
      if i.covers x.func (x.page / 2 ^ 31 * 2 ^ 31) 31 then { x with invals := i :: x.invals } else x) ∧
    (invalidate i s).host.invals.length = s.host.invals.length + 1 := by
  simp [invalidate]

/-- A translation that is under way in the range of an accepted invalidation is not used. -/
theorem invalidate_discards {i : Inval} {s : State} {x : XReq} {n : Nat} (hx : x ∈ (invalidate i s).host.xreqs)
    (hc : i.covers x.func (x.page / 2 ^ n * 2 ^ n) n = true) (hmay : i.covers x.func (x.page / 2 ^ 31 * 2 ^ 31) 31 = true) :
    x.discarded n = true := by
  obtain ⟨-, hxreqs, -⟩ := invalidate_host i s
  rw [hxreqs, List.mem_map] at hx
  obtain ⟨y, -, rfl⟩ := hx
  by_cases hy : i.covers y.func (y.page / 2 ^ 31 * 2 ^ 31) 31 = true
  · simp only [if_pos hy] at hc ⊢
    simp [XReq.discarded, hc]
  · simp only [if_neg hy] at hmay
    exact absurd hmay hy

/-- The invalidation that the host asks for: an aligned range of a function's pages. -/
def rangeInval (f page size : Nat) : Inval :=
  { software := false, func := f, all := false, page := page / 2 ^ size * 2 ^ size, size := size, waits := [], tags := [] }

/-- The invalidation that a write of TR_INV starts. -/
def softwareInval (all : Bool) (f : Nat) : Inval :=
  { software := true, func := f, all := all, page := 0, size := 0, waits := [], tags := [] }

theorem covers_rangeInval (f page size g p n : Nat) :
    (rangeInval f page size).covers g p n = (f == g && overlap (page / 2 ^ size * 2 ^ size) size p n) := by
  simp [Inval.covers, rangeInval]

theorem covers_softwareInval (all : Bool) (f g p n : Nat) : (softwareInval all f).covers g p n = (all || f == g) := by
  simp [Inval.covers, softwareInval]

theorem trpInvalidation_accepted {s : State} (f page size : Nat) (hres : inReset s = false) :
    trpInvalidation f page size s = invalidate (rangeInval f page size) s := by
  rw [trpInvalidation, if_neg (by simp [hres]), rangeInval]

theorem invalDone_software {i : Inval} {l : List Inval} {s : State} (hi : s.host.invals = i :: l) (hs : i.software = true)
    (hr : invalReady i s = true) :
    invalDone true s = fs (loc .TR_INV) F.TR_INV_BUSY 0 { s with host := { s.host with invals := l } } := by
  simp [invalDone, hi, hs, hr]

theorem invalDone_pulse {i : Inval} {l : List Inval} {s : State} (hi : s.host.invals = i :: l) (hs : i.software = false)
    (hr : invalReady i s = true) : invalDone false s =
      { s with host := { s.host with invals := l, invDone := s.host.invDone + 1 } } := by
  simp [invalDone, hi, hs, hr]

/-- The word that starts an invalidation by TR_INV, and its fields. -/
theorem trInv_fields (all : Bool) {f : Nat} (hf : f < 4096) :
    bit (2 ^ 31 + b2n all * 2 ^ 29 + f) 31 = true ∧ bit (2 ^ 31 + b2n all * 2 ^ 29 + f) 29 = all ∧
      (2 ^ 31 + b2n all * 2 ^ 29 + f) % 4096 = f := by
  cases all <;> simp [bit, b2n] <;> omega

/-- TR_INV with its fields written, an invalidation under way. -/
def trInvBusy (data : Nat) (s : State) : State :=
  fs (loc .TR_INV) F.TR_INV_BUSY 1
    (fs (loc .TR_INV) F.TR_INV_FUNC (data % 4096) (fs (loc .TR_INV) F.TR_INV_ALL (bits data 29 29) s))

theorem writeTrInv_start {data : Nat} {s : State} (hbusy : fb (loc .TR_INV) F.TR_INV_BUSY s = false)
    (hstart : bit data 31 = true) :
    writeTrInv data s = some (invalidate (softwareInval (bit data 29) (data % 4096)) (trInvBusy data s)) := by
  rw [writeTrInv, hbusy, hstart]
  rfl

theorem rd_invalidate {b : Nat} (i : Inval) (s : State) (he : b ≠ loc .PC_EVENT) (hl : b ≠ loc .PC_WRAP_LAST) :
    rd b (invalidate i s) = rd b s := (rd_bump_other _ _ he hl).trans rfl

theorem busy_trInvBusy (data : Nat) (s : State) : fb (loc .TR_INV) F.TR_INV_BUSY (trInvBusy data s) = true := by
  rw [trInvBusy, fb, fg_fs_same _ _ _ (by decide) (by decide)]
  decide

theorem fs_host (a : Nat) (f : Fld) (v : Nat) (s : State) : (fs a f v s).host = s.host := rfl

theorem trInvBusy_host (data : Nat) (s : State) : (trInvBusy data s).host = s.host :=
  (fs_host ..).trans ((fs_host ..).trans (fs_host ..))

theorem exec_trInvStart (m : Master) (all : Bool) {f : Nat} (hf : f < 4096) (s : State) : exec (.trInvStart m all f) s =
    done (ctlWrite m (loc .TR_INV) (2 ^ 31 + b2n all * 2 ^ 29 + f) (writeTrInv (2 ^ 31 + b2n all * 2 ^ 29 + f)) s) := by
  calc exec (.trInvStart m all f) s = execTrInvStart m all f s := rfl
    _ = _ := by rw [execTrInvStart, Nat.mod_eq_of_lt hf]

/-- Settles O34. -/
theorem translationsAndInvalidations : Obligations.TranslationsAndInvalidations := by
  refine ⟨?discarded, ?ok, ?fills, ?fault, ?denied, ?late, ?response, ?timeout, ?accepts, ?pulse, ?software, ?done⟩
  case discarded => exact fun tag pa size st x s hx hd => done_eq (translationResponse_discarded pa hx hd)
  case ok => exact fun tag pa size x s hx hd => done_eq (translationResponse_ok pa hx hd)
  case fills =>
    intro pa size x s hw
    obtain ⟨rest, htlb⟩ := fillTlb_tlb pa size hw
    rw [htlb]
    refine ⟨head_tlbPut .., fun hways => length_setEntries_tlbPut _ fun n => ?_⟩
    exact (length_setEntries_filter_le n rest _).trans (hways n)
  case fault => exact fun tag pa size x s hx hd => done_eq (translationResponse_fault pa size hx hd)
  case denied =>
    intro tag pa size x s hx hd
    rw [← lastFault_denied]
    exact done_eq (translationResponse_denied pa size hx hd)
  case late => exact fun id ok x s hx ht => done_eq (pageResponse_late ok hx ht)
  case response =>
    rintro id x t s hx ht rfl
    exact ⟨done_eq (pageResponse_ok hx ht), done_eq (pageResponse_failed hx ht)⟩
  case timeout => exact fun id x s hx ht h0 => done_eq (pageTimeout_pending hx ht h0)
  case accepts =>
    intro f page size s hres hsize
    have hexec : trpInvalidation f page (size % 32) s = invalidate (rangeInval f page size) s := by
      rw [Nat.mod_eq_of_lt hsize, trpInvalidation_accepted f page size hres]
    obtain ⟨htlb, -, hlen⟩ := invalidate_host (rangeInval f page size) s
    refine ⟨_, done_eq hexec, fun x hx => ?_, fun x n hx hf hn hov => ?_, hlen⟩
    · rw [htlb, List.mem_filter] at hx
      obtain ⟨hmem, hout⟩ := hx
      refine ⟨hmem, fun ⟨hf, hov⟩ => ?_⟩
      simp [covers_rangeInval, hf, hov] at hout
    · have hwide := overlap_larger (Nat.le_of_lt_succ hn) hov
      exact invalidate_discards hx (by rw [covers_rangeInval, hov]; simp [hf])
        (by rw [covers_rangeInval, hwide]; simp [hf])
  case pulse => exact fun i l s hi hs hr => done_eq (invalDone_pulse hi hs hr)
  case software =>
    intro m all f s hf hbusy hopen
    obtain ⟨hstart, hall, hfunc⟩ := trInv_fields all hf
    have hwrite := writeTrInv_start hbusy hstart
    rw [hall, hfunc] at hwrite
    obtain ⟨htlb, -, -⟩ := invalidate_host (softwareInval all f) (trInvBusy (2 ^ 31 + b2n all * 2 ^ 29 + f) s)
    refine ⟨_, ?_, ?_, htlb.trans ?_, fun x n hx hcov => ?_⟩
    · exact (exec_trInvStart m all hf s).trans (done_eq (ctlWrite_open hopen hwrite))
    · rw [fb_congr _ (rd_invalidate _ _ (by decide) (by decide)), busy_trInvBusy]
    · simp [covers_softwareInval, trInvBusy_host]
    · have hcov' : ∀ p k, (softwareInval all f).covers x.func p k = true := by
        intro p k
        rcases hcov with rfl | rfl <;> simp [covers_softwareInval]
      exact invalidate_discards hx (hcov' ..) (hcov' ..)
  case done => exact fun i l s hi hs hr => done_eq (invalDone_software hi hs hr)

end Sys2Proof.Machine
end

section
/-!
PROOFS. The loads of the steward: the ROM's start, a load, its chunks and its verdict (O56).
-/

namespace Sys2Proof.Machine

/-! ## Numbers from bytes, and 64-bit registers -/

theorem Bytes.toNat_lt (b : Bytes) : Bytes.toNat b < 256 ^ b.length := by
  induction b with
  | nil => simp [Bytes.toNat]
  | cons x xs ih =>
    have hx := x.isLt
    simp only [Bytes.toNat, List.length_cons, Nat.pow_succ]
    omega

theorem u_lt (b : Bytes) (off n : Nat) : u b off n < 256 ^ n :=
  Nat.lt_of_lt_of_le (Bytes.toNat_lt _) (Nat.pow_le_pow_right (by decide) (List.length_take_le ..))

theorem rd64_congr {a : Nat} {s t : State} (h : rd a t = rd a s) (h4 : rd (a + 4) t = rd (a + 4) s) :
    rd64 a t = rd64 a s := by
  rw [rd64, rd64, h, h4]

/-- A 64-bit register reads as it was written. -/
theorem rd64_wr64 {v : Nat} (a : Nat) (s : State) (hv : v < 2 ^ 64) : rd64 a (wr64 a v s) = v := by
  have hlow : rd a (wr64 a v s) = v % 2 ^ 32 := by
    rw [wr64, rd_wr_other _ _ _ _ (by omega), rd_wr_same, Nat.mod_mod]
  have hhigh : rd (a + 4) (wr64 a v s) = v / 2 ^ 32 := by
    rw [wr64, rd_wr_same, Nat.mod_eq_of_lt (by omega)]
  rw [rd64, hlow, hhigh]
  omega

/-! ## What boot steps leave alone -/

/-- A step shown in PW_STATE writes PW_STATE. -/
theorem rd_setSeq_other {b : Nat} (q : PSeq) (s : State) (h : b ≠ loc .PW_STATE) : rd b (setSeq q s) = rd b s := by
  unfold setSeq showSeq
  split
  · exact (rd_fs_other _ b _ _ _ h).trans ((rd_fs_other _ b _ _ _ h).trans (rd_fs_other _ b _ _ _ h))
  · rfl

theorem rd_bootStep_other {b : Nat} (n : Nat) (s : State) (h : b ≠ loc .PW_STATE) : rd b (bootStep n s) = rd b s := by
  unfold bootStep
  split
  · exact rd_setSeq_other _ s h
  · rfl

/-- A source of EV_PRIV sets its bit, or counts where it is set. -/
theorem rd_privEdge_other {b : Nat} (i : Nat) (s : State) (hp : b ≠ loc .EV_PRIV) (he : b ≠ loc .PC_EVENT)
    (hl : b ≠ loc .PC_WRAP_LAST) : rd b (privEdge i s) = rd b s := by
  unfold privEdge
  split
  · exact rd_bump_other _ s he hl
  · exact rd_wr_other _ b _ s hp

theorem privEdge_pins (i : Nat) (s : State) : (privEdge i s).pins = s.pins := by
  unfold privEdge
  split
  · rw [bump_regs_pc_only]
  · rfl

theorem putIslands_regs (cs : List Nat) (st : PState) (s : State) : (putIslands cs st s).regs = s.regs :=
  forEach_keeps (f := fun c t => setIsl c { isl c t with st := st, target := st, entering := false, waking := false } t)
    State.regs cs (fun _ _ _ => rfl) s

theorem putIslands_pins (cs : List Nat) (st : PState) (s : State) : (putIslands cs st s).pins = s.pins :=
  forEach_keeps (f := fun c t => setIsl c { isl c t with st := st, target := st, entering := false, waking := false } t)
    State.pins cs (fun _ _ _ => rfl) s

theorem putIslands_boot (cs : List Nat) (st : PState) (s : State) : (putIslands cs st s).boot = s.boot :=
  forEach_keeps (f := fun c t => setIsl c { isl c t with st := st, target := st, entering := false, waking := false } t)
    State.boot cs (fun _ _ _ => rfl) s

theorem bootRead_regs (addr len : Nat) (p : Nat → Purpose) (s : State) : (bootRead addr len p s).regs = s.regs :=
  forEach_keeps (f := fun (b : Nat × Nat × Nat) t => bootAccess b.1 b.2.2 false [] (p b.2.1) t) State.regs _ (fun _ _ _ => rfl) s

theorem bootRead_boot (addr len : Nat) (p : Nat → Purpose) (s : State) : (bootRead addr len p s).boot = s.boot :=
  forEach_keeps (f := fun (b : Nat × Nat × Nat) t => bootAccess b.1 b.2.2 false [] (p b.2.1) t) State.boot _ (fun _ _ _ => rfl) s

theorem bcbWrite_regs (b : Bytes) (s : State) : (bcbWrite b s).regs = s.regs := rfl

theorem bcbWrite_boot (b : Bytes) (s : State) : (bcbWrite b s).boot = { s.boot with bcb := (bcbWrite b s).boot.bcb } := rfl

theorem fs_boot (a : Nat) (f : Fld) (v : Nat) (s : State) : (fs a f v s).boot = s.boot := rfl

theorem fs_pins (a : Nat) (f : Fld) (v : Nat) (s : State) : (fs a f v s).pins = s.pins := rfl

theorem wr64_boot (a v : Nat) (s : State) : (wr64 a v s).boot = s.boot := rfl

/-! ## The ROM and a load (R44, R457) -/

theorem romStart_ready {s : State} (hcold : coldHeld s = false) (hstep : s.pins.coldStep = 3) (href : s.pins.refclk = true) :
    romStart s = bcbRead (bootStep 5 (setBootState 0 (putIslands (1 :: digitalIslands) .run
      { s with pins := { s.pins with coldStep := 4 } }))) := by
  simp [romStart, hcold, hstep, href]

theorem romStart_ignored {s : State} (h : coldHeld s = true ∨ s.pins.coldStep ≠ 3 ∨ s.pins.refclk = false) :
    romStart s = s := by
  refine if_pos ?_
  rcases h with h | h | h <;> simp [h]

/-- BT_STATUS as a load of slot `k` leaves it. -/
def loadStatus (k : Nat) (s : State) : State :=
  fs (loc .BT_STATUS) F.BT_STATUS_TRIED (fg (loc .BT_STATUS) F.BT_STATUS_TRIED s ||| 2 ^ k)
    (fs (loc .BT_STATUS) F.BT_STATUS_GATED 1 (fs (loc .BT_STATUS) F.BT_STATUS_SLOT k (setBootState 1 s)))

/-- The boot unit as a load of slot `k` finds it. -/
def loadBegun (k : Nat) (trial : Bool) (s : State) : State :=
  { s with boot := { s.boot with
      phase := .manifest, man := List.replicate 1024 0, image := [], matched := [], trial := trial, forced := none,
      entered := false, readErr := false, slotAt := slotAddr k s } }

/-- A load: the boot unit, BT_STATUS, then accesses to host memory. -/
theorem startLoad_eq (k : Nat) (trial taken : Bool) (s : State) : ∃ b, startLoad k trial taken s =
    bootRead (slotAddr k s) 1024 .manifest (bcbWrite b (loadStatus k (loadBegun k trial s))) := by
  have htried : fg (loc .BT_STATUS) F.BT_STATUS_TRIED (loadBegun k trial s) = fg (loc .BT_STATUS) F.BT_STATUS_TRIED s :=
    fg_congr _ rfl
  rw [loadStatus, htried]
  exact ⟨_, rfl⟩

theorem rd_startLoad (a k : Nat) (trial taken : Bool) (s : State) :
    rd a (startLoad k trial taken s) = rd a (loadStatus k (loadBegun k trial s)) := by
  obtain ⟨b, h⟩ := startLoad_eq k trial taken s
  rw [h]
  exact rd_congr a ((bootRead_regs ..).trans (bcbWrite_regs ..))

theorem loadStatus_boot (k : Nat) (s : State) : (loadStatus k s).boot = s.boot :=
  (fs_boot ..).trans ((fs_boot ..).trans ((fs_boot ..).trans (fs_boot ..)))

theorem startLoad_boot (k : Nat) (trial taken : Bool) (s : State) :
    ∃ b, (startLoad k trial taken s).boot = { (loadBegun k trial s).boot with bcb := b } := by
  obtain ⟨b, h⟩ := startLoad_eq k trial taken s
  rw [h, bootRead_boot, bcbWrite_boot, loadStatus_boot]
  exact ⟨_, rfl⟩

/-- The fields of BT_STATUS after the start of a load. -/
theorem loadStatus_fields {k : Nat} (s : State) (hk : k < 2) :
    fg (loc .BT_STATUS) F.BT_STATUS_STATE (loadStatus k s) = 1 ∧ fg (loc .BT_STATUS) F.BT_STATUS_SLOT (loadStatus k s) = k ∧
      fb (loc .BT_STATUS) F.BT_STATUS_GATED (loadStatus k s) = true ∧
      bit (fg (loc .BT_STATUS) F.BT_STATUS_TRIED (loadStatus k s)) k = true := by
  unfold loadStatus
  refine ⟨?_, ?_, ?_, ?_⟩
  · rw [fg_fs_beside _ _ _ (by decide) (by decide) (by decide), fg_fs_beside _ _ _ (by decide) (by decide) (by decide),
      fg_fs_beside _ _ _ (by decide) (by decide) (by decide), setBootState, fg_fs_same _ _ _ (by decide) (by decide)]
    decide
  · rw [fg_fs_beside _ _ _ (by decide) (by decide) (by decide), fg_fs_beside _ _ _ (by decide) (by decide) (by decide),
      fg_fs_same _ _ _ (by decide) (by decide)]
    exact Nat.mod_eq_of_lt hk
  · rw [fb, fg_fs_beside _ _ _ (by decide) (by decide) (by decide), fg_fs_same _ _ _ (by decide) (by decide)]
    decide
  · rw [fg_fs_same _ _ _ (by decide) (by decide), bit_eq_testBit, Nat.testBit_mod_two_pow, Nat.testBit_or,
      Nat.testBit_two_pow_self, Bool.or_true, Bool.and_true]
    exact decide_eq_true hk

/-! ## Chunks (R453) -/

theorem chunkMatch_matches {k : Nat} {s : State} (hp : s.boot.phase = .chunks) (hm : k ∉ s.boot.matched)
    (hok : chunkOk k s = true) (hk : k ≠ 0) :
    chunkMatch k s = { s with boot := { s.boot with matched := k :: s.boot.matched } } := by
  simp [chunkMatch, hp, hm, hok, hk]

theorem chunkMatch_ignored {k : Nat} {s : State} (h : chunkOk k s = false ∨ k ∈ s.boot.matched ∨ s.boot.phase ≠ .chunks) :
    chunkMatch k s = s := by
  refine if_pos ?_
  rcases h with h | h | h <;> simp [h]

/-- Chunk 0 lets the image run and shows its version, its key, its rollback count and its trial limit. -/
theorem chunkMatch_first {s : State} (hp : s.boot.phase = .chunks) (hm : 0 ∉ s.boot.matched) (hok : chunkOk 0 s = true) :
    chunkMatch 0 s = fs (loc .BT_TRIAL) F.BT_TRIAL_LIMIT (if u s.boot.man 34 1 = 0 then 8 else u s.boot.man 34 1)
      (fs (loc .BT_KEYS) F.BT_KEYS_IMG_SVN (u s.boot.man 8 8) (fs (loc .BT_KEYS) F.BT_KEYS_KEY (manKey s.boot.man)
        (wr64 (loc .BT_IMG_VER) (u s.boot.man 16 8)
          { s with boot := { s.boot with matched := 0 :: s.boot.matched, entered := true } }))) := by
  simp [chunkMatch, hp, hm, hok]

/-! ## The verdict (R453, R458, R460) -/

/-- A verdict passes only over a good signature and with every chunk matched. -/
theorem verdict_pass {s : State} (h : verdict s = some 0) : s.boot.phase = .chunks ∧ s.boot.readErr = false ∧
    signatureOk s.boot.man = true ∧ ∀ k, k < manChunks s.boot.man → k ∈ s.boot.matched := by
  unfold verdict at h
  dsimp only at h
  split at h
  · cases h
  split at h
  · cases h
  case isFalse herr =>
    split at h
    case h_1 =>
      split at h
      · cases h
      · exact absurd (Option.some.inj h) ‹_›
    case h_2 hphase =>
      split at h
      · cases h
      case isFalse hsig =>
        split at h
        case isTrue hall => exact ⟨hphase, by simpa using herr, by simpa using hsig, by simpa using hall⟩
        case isFalse => split at h <;> cases h
    case h_3 => cases h

theorem bootVerdict_fail {r : Nat} {s : State} (hb : bootState s = 1) (hv : verdict s = some r) (hr : r ≠ 0) :
    bootVerdict s = verdictFail r s := by
  obtain ⟨n, rfl⟩ := Nat.exists_eq_succ_of_ne_zero hr
  simp [bootVerdict, hb, hv]

theorem bootVerdict_pass {s : State} (hb : bootState s = 1) (hv : verdict s = some 0) : bootVerdict s = verdictPass s := by
  simp [bootVerdict, hb, hv]

theorem bootVerdict_ignored {s : State} (h : bootState s ≠ 1 ∨ verdict s = none) : bootVerdict s = s := by
  rcases h with h | h <;> simp [bootVerdict, h]

/-- A verdict that lets the datapath leave reset with no profile to apply. -/
theorem leaveReset_eq {s : State} (hv : s.pins.verdict = false) (hr : s.boot.relDue = false) : leaveReset s =
    putIslands digitalIslands .run { s with pins := { s.pins with verdict := true, datapathUp := true } } := by
  simp [leaveReset, hv, hr]

/-- BT_STATUS as a passing verdict leaves it. -/
def passStatus (s : State) : State :=
  fs (loc .BT_STATUS) F.BT_STATUS_GATED 0 (setBootState (if s.boot.trial then 2 else 3) s)

theorem passStatus_fields (s : State) :
    fg (loc .BT_STATUS) F.BT_STATUS_STATE (passStatus s) = (if s.boot.trial then 2 else 3) ∧
      fb (loc .BT_STATUS) F.BT_STATUS_GATED (passStatus s) = false := by
  unfold passStatus
  constructor
  · rw [fg_fs_beside _ _ _ (by decide) (by decide) (by decide), setBootState, fg_fs_same _ _ _ (by decide) (by decide)]
    split <;> rfl
  · rw [fb, fg_fs_same _ _ _ (by decide) (by decide)]
    decide

theorem passStatus_pins (s : State) : (passStatus s).pins = s.pins := (fs_pins ..).trans (fs_pins ..)

theorem passStatus_boot (s : State) : (passStatus s).boot = s.boot := (fs_boot ..).trans (fs_boot ..)

/-- The boot unit as a passing verdict leaves it. -/
def verdictReached (s : State) : State :=
  { s with boot := { s.boot with
      phase := .idle
      trialEnd := if s.boot.trial then s.tb.refill + fg (loc .BT_TRIAL) F.BT_TRIAL_LIMIT s * 1000000000 * nsU else 0 } }

theorem verdictPass_eq (s : State) : ∃ b, verdictPass s =
    privEdge 2 (bcbWrite b (leaveReset (bootStep 6 (passStatus (verdictReached s))))) := ⟨_, rfl⟩

/-- A pass outside a release that is due: BT_STATUS shows it, and the datapath leaves reset. -/
theorem verdictPass_leaves {s : State} (hv : s.pins.verdict = false) (hr : s.boot.relDue = false) :
    rd (loc .BT_STATUS) (verdictPass s) = rd (loc .BT_STATUS) (passStatus (verdictReached s)) ∧
      (verdictPass s).pins = { s.pins with verdict := true, datapathUp := true } := by
  obtain ⟨b, h⟩ := verdictPass_eq s
  have hstep := bootStep_regsIslPwOnly 6 (passStatus (verdictReached s))
  have hpins : (bootStep 6 (passStatus (verdictReached s))).pins = s.pins := by
    rw [hstep]
    exact passStatus_pins (verdictReached s)
  have hboot : (bootStep 6 (passStatus (verdictReached s))).boot.relDue = false := by
    rw [hstep]
    exact (congrArg Boot.relDue (passStatus_boot (verdictReached s))).trans hr
  rw [h, leaveReset_eq (by rw [hpins, hv]) hboot]
  constructor
  · refine (rd_privEdge_other 2 _ (by decide) (by decide) (by decide)).trans ?_
    refine (rd_congr _ ((bcbWrite_regs ..).trans (putIslands_regs ..))).trans ?_
    exact rd_bootStep_other 6 _ (by decide)
  · rw [privEdge_pins]
    exact (putIslands_pins ..).trans (by rw [hpins])

/-- Settles O56. -/
theorem bootLoads : Obligations.BootLoads := by
  refine ⟨?rom, ?noRom, ?load, ?chunk, ?chunk0, ?noChunk, ?good, ?pass, ?fail, ?noVerdict⟩
  case rom => exact fun s hcold hstep href => done_eq (romStart_ready hcold hstep href)
  case noRom => exact fun s h => done_eq (romStart_ignored h)
  case load =>
    intro k trial taken s hk
    have hrd := rd_startLoad (loc .BT_STATUS) k trial taken s
    obtain ⟨hstate, hslot, hgated, htried⟩ := loadStatus_fields (loadBegun k trial s) hk
    obtain ⟨b, hboot⟩ := startLoad_boot k trial taken s
    rw [hboot, bootState, bootSlot, fb_congr _ hrd, fg_congr _ hrd, fg_congr _ hrd, fg_congr _ hrd]
    exact ⟨hstate, hslot, hgated, htried, rfl, rfl, rfl⟩
  case chunk => exact fun k s hp hm hok hk => done_eq (chunkMatch_matches hp hm hok hk)
  case chunk0 =>
    intro s hp hm hok
    refine ⟨_, done_eq (chunkMatch_first hp hm hok), ?_, ?_⟩
    · rw [fs_boot, fs_boot, fs_boot, wr64_boot]
    · have hkept : ∀ b, b ≠ loc .BT_TRIAL → b ≠ loc .BT_KEYS → ∀ f g h x y z t,
          rd b (fs (loc .BT_TRIAL) f x (fs (loc .BT_KEYS) g y (fs (loc .BT_KEYS) h z t))) = rd b t :=
        fun b ht hk f g h x y z t => (rd_fs_other _ b _ _ _ ht).trans ((rd_fs_other _ b _ _ _ hk).trans
          (rd_fs_other _ b _ _ _ hk))
      rw [rd64_congr (hkept _ (by decide) (by decide) ..) (hkept _ (by decide) (by decide) ..)]
      exact rd64_wr64 _ _ (u_lt _ 16 8)
  case noChunk => exact fun k s h => done_eq (chunkMatch_ignored h)
  case good => exact fun s h => verdict_pass h
  case pass =>
    intro s hb hver hv hr
    obtain ⟨hrd, hpins⟩ := verdictPass_leaves hv hr
    obtain ⟨hstate, hgated⟩ := passStatus_fields (verdictReached s)
    have hsettled : rd (loc .BT_STATUS) (settle (verdictPass s)) = rd (loc .BT_STATUS) (passStatus (verdictReached s)) :=
      (rd_settle (by decide) _).trans hrd
    refine ⟨_, done_eq (bootVerdict_pass hb hver), ?_, ?_, ?_, ?_⟩
    · rw [bootState, fg_congr _ hsettled, hstate]
      rfl
    · rw [fb_congr _ hsettled, hgated]
    · rw [(settle_settling _).pins, hpins]
    · rw [(settle_settling _).pins, hpins]
  case fail => exact fun r s hb hv hr => done_eq (bootVerdict_fail hb hv hr)
  case noVerdict => exact fun s h => done_eq (bootVerdict_ignored h)

end Sys2Proof.Machine
end

section
/-!
PROOFS. Flits, credits and the journal of a Duo (O59).
-/

namespace Sys2Proof.Machine

/-! ## Flits that go or wait (R79) -/

theorem sendFlit_sent {s : State} (b : FlitBody) (hrole : duRole s ≠ 0) (hq : s.du.txq = []) (hc : s.du.credits ≠ 0) :
    sendFlit b s = { s with du := { s.du with
      credits := s.du.credits - 1
      sent := s.du.sent ++ [{ role := duRole s, pair := duPair s, body := b }]
      lastTx := s.tb.time } } := by
  simp [sendFlit, hrole, hq, hc]

theorem sendFlit_queued {s : State} (b : FlitBody) (hrole : duRole s ≠ 0) (hq : s.du.txq = []) (hc : s.du.credits = 0) :
    sendFlit b s = { s with du := { s.du with txq := [{ role := duRole s, pair := duPair s, body := b }] } } := by
  simp [sendFlit, hrole, hq, hc]

theorem outOfReset_running {s : State} (f : State → State) (hres : inReset s = false) : outOfReset f s = f s := by
  simp [outOfReset, hres]

theorem heartbeatSend_idle {s : State} (hq : s.du.txq = []) : heartbeatSend s = sendFlit .heartbeat s := if_pos hq

/-- No heartbeat is sent behind flits that wait. -/
theorem heartbeatSend_behind {s : State} (hq : s.du.txq ≠ []) : outOfReset heartbeatSend s = s := by
  simp [outOfReset, heartbeatSend, hq]

/-! ## Flits that arrive (R80) -/

theorem flitIn_ignored {s : State} (f : Flit) (bad : Bool) (c : Nat) (l : List Nat) (h : duRole s = 0 ∨ inReset s = true) :
    flitIn f bad s c l = s := if_pos h

theorem flitIn_bad {s : State} (f : Flit) (c : Nat) (l : List Nat) (hrole : duRole s ≠ 0) (hres : inReset s = false) :
    flitIn f true s c l = returnCredit (bump (cBlk 3) s) := by
  simp [flitIn, hrole, hres]

/-- DMP_UP is no part of ROLE. -/
theorem duRole_dmpUp (v : Nat) (s : State) : duRole (fs (loc .DU_STATUS) F.DU_STATUS_DMP_UP v s) = duRole s :=
  fg_fs_beside _ v s (by decide) (by decide) (by decide)

theorem gapFlit_active {s : State} (hrole : duRole s ≠ 2) : gapFlit s = s := if_pos (.inl hrole)

theorem followPair_active {s : State} (role pair : Nat) (hrole : duRole s ≠ 2) : followPair role pair s = s :=
  if_neg fun h => hrole h.1

/-- A STANDBY partner takes nothing from an ACTIVE block. -/
theorem partnerActive_standby {role : Nat} (s : State) (hrole : role ≠ 1) : partnerActive role s = s :=
  if_neg fun h => hrole h.2.1

/-- A heartbeat of the standby raises DMP_UP at the active. -/
theorem flitIn_heartbeat {s : State} (p : Nat) (hrole : duRole s = 1) (hres : inReset s = false) :
    flitIn { role := 2, pair := p, body := .heartbeat } false s = returnCredit (fs (loc .DU_STATUS) F.DU_STATUS_DMP_UP 1
      { s with du := { s.du with partner := (2, p) } }) := by
  have hup : duRole (fs (loc .DU_STATUS) F.DU_STATUS_DMP_UP 1 { s with du := { s.du with partner := (2, p) } }) ≠ 2 := by
    rw [duRole_dmpUp]
    exact fun h => absurd (hrole.symm.trans h) (by decide)
  have hgo : ¬ (duRole s = 0 ∨ inReset s = true) := by simp [hrole, hres]
  rw [flitIn, if_neg hgo, if_neg Bool.false_ne_true]
  dsimp only
  rw [partnerActive_standby _ (by decide), followPair_active _ _ hup]
  exact congrArg returnCredit (gapFlit_active hup)

/-! ## The journal at the standby (R487) -/

theorem journalIn_next {r : JRec} {s : State} (hrole : duRole s = 2) (hpair : duPair s ≠ 0) :
    journalIn ((s.du.rxSeq + 1) % 2 ^ 32) r s =
      applyRec r { s with du := { s.du with rxSeq := (s.du.rxSeq + 1) % 2 ^ 32, gap := false } } := by
  simp [journalIn, hrole, hpair]

/-- A record beyond the next opens a gap, or is passed over where one is open. -/
theorem journalIn_gap {n : Nat} {s : State} (r : JRec) (hrole : duRole s = 2) (hpair : duPair s ≠ 0)
    (hlow : s.du.rxSeq + 1 < n) (hhigh : n < 2 ^ 31) :
    journalIn n r s = (if s.du.gap = true then s
      else sendFlit (.resend (s.du.rxSeq + 1)) { s with du := { s.du with gap := true, gapFlits := 0 } }) := by
  have hgo : ¬ (duRole s ≠ 2 ∨ duPair s = 0) := by simp [hrole, hpair]
  have hnext : (s.du.rxSeq + 1) % 2 ^ 32 = s.du.rxSeq + 1 := Nat.mod_eq_of_lt (by omega)
  have hne : n ≠ s.du.rxSeq + 1 := by omega
  have hahead : ¬ 2 ^ 31 ≤ (n + 2 ^ 32 - (s.du.rxSeq + 1)) % 2 ^ 32 := by omega
  rw [journalIn, if_neg hgo]
  dsimp only
  rw [hnext, if_neg hne]
  by_cases hgap : s.du.gap = true
  · rw [if_pos hgap, if_pos (.inr hgap)]
  · rw [if_neg hgap, if_neg (not_or.mpr ⟨hahead, hgap⟩)]

theorem gapFlit_open {s : State} (hrole : duRole s = 2) (hgap : s.du.gap = true) :
    gapFlit s = (if s.du.gapFlits < 15 then { s with du := { s.du with gapFlits := s.du.gapFlits + 1 } }
      else sendFlit (.resend ((s.du.rxSeq + 1) % 2 ^ 32)) { s with du := { s.du with gapFlits := 0 } }) := by
  simp [gapFlit, hrole, hgap]

/-! ## Credits (R79, R487) -/

/-- Where no record is held, none goes on. -/
theorem passRecords_none {s : State} (h : s.du.held = []) : passRecords s = s := by
  rw [passRecords, h, releaseHeld]
  exact (congrArg (fun l => ({ s with du := { s.du with held := l } } : State)) h).symm

/-- Where nothing waits for an acknowledgement, nothing goes on. -/
theorem waitsCheck_none {s : State} (c : Nat) (l : List Nat) (h : s.du.waits = []) : waitsCheck s c l = s := by
  rw [waitsCheck, h, List.filter_nil, List.filter_nil, forEach]
  exact (congrArg (fun l => ({ s with du := { s.du with waits := l } } : State)) h).symm

theorem dropAcked_unknown {n : Nat} {s : State} (h : ∀ r, r ∈ s.du.replay → r.1 ≠ n) : dropAcked n s = s := by
  refine if_neg ?_
  rw [List.any_eq_true]
  rintro ⟨r, hr, hn⟩
  exact h r hr (beq_iff_eq.mp hn)

theorem cutoverSend_other {s : State} (h : s.du.phase ≠ .positions) : cutoverSend s = s := if_neg fun k => h k.1

theorem cutoverSend_held {s : State} (h : s.du.held ≠ []) : cutoverSend s = s := if_neg fun k => h k.2

theorem snapshotAcked_other {s : State} (h : s.du.phase ≠ .snapshot) : snapshotAcked s = s := if_neg fun k => h k.1

/-- What a credit and its acknowledgement do, in order. -/
theorem creditIn_eq {ack : Nat} {s t : State} (c : Nat) (l : List Nat) (hrole : duRole s ≠ 0) (hres : inReset s = false)
    (ht : drainTxq s.du.txq { s with du := { s.du with credits := min 16 (s.du.credits + 1), txq := [] } } = t)
    (hheld : t.du.held = []) (hwaits : t.du.waits = []) (hsnap : t.du.phase ≠ .snapshot) (hpos : t.du.phase ≠ .positions)
    (hack : ∀ r, r ∈ t.du.replay → r.1 ≠ ack) : creditIn ack s c l = t := by
  have hgo : ¬ (duRole s = 0 ∨ inReset s = true) := by simp [hrole, hres]
  rw [creditIn, if_neg hgo]
  dsimp only
  rw [ht, dropAcked_unknown hack, passRecords_none hheld, cutoverSend_other hpos, snapshotAcked_other hsnap,
    waitsCheck_none c l hwaits]

/-! ## Counters (R488) -/

theorem counterJournal_off {s : State} (h : journaling s = false) : counterJournal s = s := by
  simp [counterJournal, h]

theorem counterJournal_changed {now ds : List (Nat × Nat)} {s : State} (hj : journaling s = true)
    (hnow : now = s.pc.val.filter (fun c => counterSent c.1))
    (hds : ds = (now.map (fun c => (c.1, (c.2 + 2 ^ 48 - sget 0 s.du.told c.1) % 2 ^ 48))).filter (fun c => c.2 != 0))
    (hne : ds ≠ []) :
    counterJournal s = journal (.counter ds) { s with du := { s.du with told := now } } := by
  rw [counterJournal, if_pos hj]
  dsimp only
  rw [← hnow, ← hds, if_neg hne]

/-- Where the standby has been told every counter, no record goes. -/
theorem counterJournal_told {s : State} (hj : journaling s = true)
    (htold : s.du.told = s.pc.val.filter (fun c => counterSent c.1))
    (hval : ∀ c, c ∈ s.pc.val → c.2 < 2 ^ 48 ∧ sget 0 s.du.told c.1 = c.2) : counterJournal s = s := by
  have hnone : ((s.pc.val.filter (fun c => counterSent c.1)).map
      (fun c => (c.1, (c.2 + 2 ^ 48 - sget 0 s.du.told c.1) % 2 ^ 48))).filter (fun c => c.2 != 0) = [] := by
    rw [List.filter_eq_nil_iff]
    intro d hd
    obtain ⟨c, hc, rfl⟩ := List.mem_map.mp hd
    obtain ⟨-, hsame⟩ := hval c (List.mem_filter.mp hc).1
    simp [hsame]
  rw [counterJournal, if_pos hj]
  dsimp only
  rw [if_pos hnone]
  exact (congrArg (fun l => ({ s with du := { s.du with told := l } } : State)) htold).symm

/-- Settles O59. -/
theorem duoFlits : Obligations.DuoFlits := by
  refine ⟨?sent, ?waits, ?behind, ?ignored, ?bad, ?heartbeat, ?next, ?gap, ?again, ?credit, ?flit, ?off, ?told, ?changed⟩
  case sent =>
    intro s hres hrole hq hc
    exact done_eq ((outOfReset_running _ hres).trans ((heartbeatSend_idle hq).trans (sendFlit_sent _ hrole hq hc)))
  case waits =>
    intro s hres hrole hq hc
    exact done_eq ((outOfReset_running _ hres).trans ((heartbeatSend_idle hq).trans (sendFlit_queued _ hrole hq hc)))
  case behind => exact fun s hq => done_eq (heartbeatSend_behind hq)
  case ignored => exact fun f bad c l s h => done_eq (flitIn_ignored f bad c l h)
  case bad => exact fun f c l s hrole hres => done_eq (flitIn_bad f c l hrole hres)
  case heartbeat => exact fun p s hrole hres => done_eq (flitIn_heartbeat p hrole hres)
  case next => exact fun r s hrole hpair => journalIn_next hrole hpair
  case gap => exact fun n r s hrole hpair hlow hhigh => journalIn_gap r hrole hpair hlow hhigh
  case again => exact fun s hrole hgap => gapFlit_open hrole hgap
  case credit =>
    intro ack s hrole hres hq hheld hwaits hsnap hpos hack
    refine done_eq (creditIn_eq 0 [] hrole hres ?_ hheld hwaits hsnap hpos hack)
    rw [hq, drainTxq]
    exact (congrArg (fun l => ({ s with du := { s.du with credits := min 16 (s.du.credits + 1), txq := l } } : State)) hq).symm
  case flit =>
    intro ack f s hrole hres hq hc hheld hwaits hsnap hpos hack
    refine done_eq (creditIn_eq 0 [] hrole hres ?_ hheld hwaits hsnap hpos hack)
    simp [hq, drainTxq, hc]
  case off => exact fun s h => done_eq (counterJournal_off h)
  case told => exact fun s hj htold hval => done_eq (counterJournal_told hj htold hval)
  case changed => exact fun now ds s hj hnow hds hne => done_eq (counterJournal_changed hj hnow hds hne)

end Sys2Proof.Machine
end

section
/-!
PROOFS. The lease, the failover triggers, the takeover and the cutover of a Duo (O60).
-/

namespace Sys2Proof.Machine

/-! ## Flags of one bit -/

theorem fb_eq_testBit (a : Nat) {f : Fld} (s : State) (hf : f.hi = f.lo) : fb a f s = (rd a s).testBit f.lo := by
  rw [fb, fg, bits, hf, Nat.add_sub_cancel_left, Nat.pow_one, Nat.testBit_eq_decide_div_mod_eq, beq_eq_decide]

/-- A flag that is set stays set when the hardware sets another. -/
theorem fb_setFlag_keeps {a : Nat} {f : Fld} {s : State} (g : Fld) (hf : f.hi = f.lo) (hw : f.lo < 32)
    (h : fb a f s = true) : fb a f (setFlag a g s) = true := by
  rw [fb_eq_testBit a s hf] at h
  rw [fb_eq_testBit a _ hf, setFlag, setFlags, rd_wr_same, Nat.testBit_mod_two_pow, Nat.testBit_or, h]
  simp [hw]

/-! ## Updates of registers and pins -/

/-- Nothing but registers and pins differs. -/
def RegsPinsOnly (s t : State) : Prop := t = { s with regs := t.regs, pins := t.pins }

theorem RegsPinsOnly.refl (s : State) : RegsPinsOnly s s := rfl

theorem RegsPinsOnly.trans {s t u : State} (h : RegsPinsOnly s t) (k : RegsPinsOnly t u) : RegsPinsOnly s u :=
  Eq.trans k (congrArg (fun v : State => { v with regs := u.regs, pins := u.pins }) h)

/-- Composition from the last step back. -/
theorem RegsPinsOnly.after {s t u : State} (k : RegsPinsOnly t u) (h : RegsPinsOnly s t) : RegsPinsOnly s u := h.trans k

theorem wr_regsPinsOnly (a v : Nat) (s : State) : RegsPinsOnly s (wr a v s) := rfl

theorem fs_regsPinsOnly (a : Nat) (f : Fld) (v : Nat) (s : State) : RegsPinsOnly s (fs a f v s) := wr_regsPinsOnly ..

theorem setFlag_regsPinsOnly (a : Nat) (f : Fld) (s : State) : RegsPinsOnly s (setFlag a f s) := wr_regsPinsOnly ..

theorem doIf_flag_regsPinsOnly (c : Bool) (a : Nat) (f : Fld) (s : State) : RegsPinsOnly s (doIf c (setFlag a f) s) := by
  cases c
  · exact .refl s
  · exact setFlag_regsPinsOnly a f s

theorem RegsPinsOnly.du {s t : State} (h : RegsPinsOnly s t) : t.du = s.du := by rw [h]

theorem RegsPinsOnly.host {s t : State} (h : RegsPinsOnly s t) : t.host = s.host := by rw [h]

/-! ## DU_STATUS -/

theorem duRole_congr {s t : State} (h : rd (loc .DU_STATUS) t = rd (loc .DU_STATUS) s) : duRole t = duRole s := fg_congr _ h

theorem duPair_congr {s t : State} (h : rd (loc .DU_STATUS) t = rd (loc .DU_STATUS) s) : duPair t = duPair s := fg_congr _ h

theorem dmpUp_congr {s t : State} (h : rd (loc .DU_STATUS) t = rd (loc .DU_STATUS) s) : dmpUp t = dmpUp s := fb_congr _ h

theorem rd_duFlag {b : Nat} (f : Fld) (s : State) (hb : b ≠ loc .DU_EVENT) : rd b (duFlag f s) = rd b s :=
  rd_setFlag_other _ b f s hb

theorem rd_doIf_duFlag {b : Nat} (c : Bool) (f : Fld) (s : State) (hb : b ≠ loc .DU_EVENT) :
    rd b (doIf c (duFlag f) s) = rd b s := by
  cases c
  · rfl
  · exact rd_duFlag f s hb

/-- A change of the pair state: PAIR, the FENCED pin, then the flags of DU_EVENT. -/
theorem setPairState_eq {v : Nat} {s : State} (h : duPair s ≠ v) : setPairState v s =
    doIf (v == 3) (duFlag F.DU_EVENT_FENCED) (doIf (duPair s == 2) (duFlag F.DU_EVENT_UNPROTECTED)
      (doIf (v == 2) (duFlag F.DU_EVENT_PROTECTED)
        (fs (loc .DU_STATUS) F.DU_STATUS_PAIR v { s with pins := { s.pins with fenced := v == 3 } }))) := if_neg h

theorem setPairState_regsPinsOnly (v : Nat) (s : State) : RegsPinsOnly s (setPairState v s) := by
  by_cases h : duPair s = v
  · rw [setPairState, if_pos h]
    exact .refl s
  · rw [setPairState_eq h]
    exact .after (doIf_flag_regsPinsOnly ..) (.after (doIf_flag_regsPinsOnly ..) (.after (doIf_flag_regsPinsOnly ..)
      (.after (fs_regsPinsOnly ..) rfl)))

/-- DU_STATUS after a change of the pair state: PAIR is written, and what lies beside it is not. -/
theorem rd_setPairState {v : Nat} {s : State} (h : duPair s ≠ v) : rd (loc .DU_STATUS) (setPairState v s) =
    rd (loc .DU_STATUS) (fs (loc .DU_STATUS) F.DU_STATUS_PAIR v { s with pins := { s.pins with fenced := v == 3 } }) := by
  rw [setPairState_eq h]
  exact (rd_doIf_duFlag _ _ _ (by decide)).trans ((rd_doIf_duFlag _ _ _ (by decide)).trans
    (rd_doIf_duFlag _ _ _ (by decide)))

theorem duPair_setPairState {v : Nat} (s : State) (hv : v < 4) : duPair (setPairState v s) = v := by
  by_cases h : duPair s = v
  · rw [setPairState, if_pos h, h]
  · rw [duPair_congr (t := setPairState v s) (rd_setPairState h), duPair, fg_fs_same _ _ _ (by decide) (by decide)]
    exact Nat.mod_eq_of_lt hv

theorem dmpUp_setPairState (v : Nat) (s : State) : dmpUp (setPairState v s) = dmpUp s := by
  by_cases h : duPair s = v
  · rw [setPairState, if_pos h]
  · rw [dmpUp_congr (t := setPairState v s) (rd_setPairState h), dmpUp, fb,
      fg_fs_beside _ _ _ (by decide) (by decide) (by decide)]
    rfl

/-- The fields of DU_STATUS after a write of DMP_UP. -/
theorem dmpUp_lowered (s : State) : dmpUp (fs (loc .DU_STATUS) F.DU_STATUS_DMP_UP 0 s) = false := by
  rw [dmpUp, fb, fg_fs_same _ _ _ (by decide) (by decide)]
  decide

theorem duPair_dmpUp (v : Nat) (s : State) : duPair (fs (loc .DU_STATUS) F.DU_STATUS_DMP_UP v s) = duPair s :=
  fg_fs_beside _ v s (by decide) (by decide) (by decide)

/-! ## The rings of a block that gives up its contexts -/

/-- Both admin pairs and the general channels show OFF. -/
def ringsOff (s : State) : State :=
  forEach (List.range 16) (fun i t => setTeState (48 + i) 0 t) (forEach [1, 2] (setAdmState · 0) s)

theorem rd_duStatus_ringsOff (s : State) : rd (loc .DU_STATUS) (ringsOff s) = rd (loc .DU_STATUS) s := by
  have hte : ∀ i ∈ List.range 16, loc .DU_STATUS ≠ teLoc .TE_STATE (48 + i) := by decide
  have hadm : ∀ p ∈ [1, 2], loc .DU_STATUS ≠ loc .WQ_ADM_CFG (p - 1) := by decide
  exact (forEach_keeps (rd (loc .DU_STATUS)) _ (fun i hi t => rd_fs_other _ _ _ _ t (hte i hi)) _).trans
    (forEach_keeps (rd (loc .DU_STATUS)) _ (fun p hp t => rd_fs_other _ _ _ _ t (hadm p hp)) s)

theorem ringsOff_regsPinsOnly (s : State) : RegsPinsOnly s (ringsOff s) :=
  .after (forEach_rel RegsPinsOnly.refl (fun _ _ _ => .trans) (fun _ _ => fs_regsPinsOnly ..) _ _)
    (forEach_rel RegsPinsOnly.refl (fun _ _ _ => .trans) (fun _ _ => fs_regsPinsOnly ..) _ _)

theorem dropMirror_eq (s : State) : ∃ t, dropMirror s = ringsOff t ∧ t.regs = s.regs ∧ t.du.phase = s.du.phase ∧
    t.du.waits = s.du.waits := ⟨_, rfl, rfl, rfl, rfl⟩

/-- What the end of the mirror leaves of the Duo unit. -/
theorem dropMirror_keeps (s : State) : rd (loc .DU_STATUS) (dropMirror s) = rd (loc .DU_STATUS) s ∧
    (dropMirror s).du.phase = s.du.phase ∧ (dropMirror s).du.waits = s.du.waits := by
  obtain ⟨t, h, hregs, hphase, hwaits⟩ := dropMirror_eq s
  rw [h, rd_duStatus_ringsOff, (ringsOff_regsPinsOnly t).du]
  exact ⟨rd_congr _ hregs, hphase, hwaits⟩

/-- The contexts of a block that surrenders, before its role and its rings show it. -/
theorem surrender_eq (s : State) : ∃ t x, surrender s = ringsOff (fs (loc .DU_FLUSH) F.DU_FLUSH_LOST x
      (fs (loc .DU_STATUS) F.DU_STATUS_ROLE 2 (setPairState 0 t))) ∧
    t.wq.sqs = [] ∧ t.dp.frames = [] ∧ t.phy = s.phy ∧ t.pc.dump.phase = .idle ∧
    t.host.reqs = s.host.reqs.filter (fun r => r.isOut || (r.phys && r.purpose != .leaseWrite)) :=
  ⟨_, _, rfl, rfl, rfl, rfl, rfl, rfl⟩

/-- What is written after the contexts have gone changes registers and pins only. -/
theorem surrender_only (s t : State) (x : Nat) (h : surrender s = ringsOff (fs (loc .DU_FLUSH) F.DU_FLUSH_LOST x
    (fs (loc .DU_STATUS) F.DU_STATUS_ROLE 2 (setPairState 0 t)))) : RegsPinsOnly t (surrender s) := by
  rw [h]
  exact .after (ringsOff_regsPinsOnly _) (.after (fs_regsPinsOnly ..) (.after (fs_regsPinsOnly ..)
    (setPairState_regsPinsOnly 0 t)))

theorem surrender_status (s : State) : duRole (surrender s) = 2 ∧ duPair (surrender s) = 0 := by
  obtain ⟨t, x, h, -⟩ := surrender_eq s
  have hrd : rd (loc .DU_STATUS) (surrender s) =
      rd (loc .DU_STATUS) (fs (loc .DU_STATUS) F.DU_STATUS_ROLE 2 (setPairState 0 t)) := by
    rw [h, rd_duStatus_ringsOff]
    exact rd_fs_other _ _ _ _ _ (by decide)
  constructor
  · rw [duRole_congr hrd, duRole, fg_fs_same _ _ _ (by decide) (by decide)]
    decide
  · rw [duPair_congr hrd, duPair, fg_fs_beside _ _ _ (by decide) (by decide) (by decide)]
    exact duPair_setPairState t (by decide)

/-! ## Silence on DMP (R79, R497) -/

/-- Outside SYNCING silence means at most that the partner is lost. -/
theorem silenceEffects_settled {s : State} (h : duPair s ≠ 1) : silenceEffects s =
    doIf (duPair s == 2 && !(duRole s == 2 && leaseStale s)) (duFlag F.DU_EVENT_PARTNER_LOST) s := by
  refine if_neg ?_
  rw [duPair_congr (rd_doIf_duFlag _ _ s (by decide))]
  exact h

/-- In SYNCING silence ends the DUO_PROTECT. -/
theorem silenceEffects_syncing {s : State} (h : duPair s = 1) (hcmd : s.du.cmd = none) : silenceEffects s =
    doIf (duRole s == 2) dropMirror (setPairState 0 { s with du := { s.du with
      phase := .none, cmd := none, replay := [], held := [], mirror := [], rxSeq := 0, gap := false } }) := by
  simp [silenceEffects, h, doIf, hcmd, finishOpt]

theorem dmpSilence_duo {s : State} (hrole : duRole s ≠ 0) :
    dmpSilence s = silenceEffects (fs (loc .DU_STATUS) F.DU_STATUS_DMP_UP 0 s) := if_neg hrole

theorem doIf_duFlag_du (c : Bool) (f : Fld) (s : State) : (doIf c (duFlag f) s).du = s.du := by cases c <;> rfl

theorem leaseStale_congr {s t : State} (h : t.du = s.du) : leaseStale t = leaseStale s := by rw [leaseStale, leaseStale, h]

theorem creditStarvation_none {s : State} (h : s.du.txq = [] ∨ s.du.credits ≠ 0) : creditStarvation s = s := by
  refine if_neg ?_
  rintro ⟨hq, hc⟩
  exact h.elim hq (· hc)

theorem creditStarvation_some {s : State} (hq : s.du.txq ≠ []) (hc : s.du.credits = 0) :
    creditStarvation s = heartbeatTrigger (silenceEffects s) := if_pos ⟨hq, hc⟩

theorem heartbeatTrigger_active {s : State} (h : duRole s ≠ 2) : heartbeatTrigger s = s := if_neg fun k => h k.1

theorem heartbeatTrigger_due {s : State} (hrole : duRole s = 2) (hpair : duPair s = 2) (hphase : s.du.phase = .none)
    (hstale : leaseStale s = true) : heartbeatTrigger s =
      { s with du := { s.du with phase := .due, trigger := 1, triggerAt := s.tb.time } } :=
  if_pos ⟨hrole, hpair, hphase, hstale⟩

/-! ## The lease (R491) -/

theorem leaseRead_free {s : State} (h : leaseBusy s = false) : leaseRead s = access
    { chan := leaseChan s, func := 0, iova := leaseAddr s, len := 64, purpose := .leaseRead, phys := true } s := by
  simp [leaseRead, h]

theorem leaseRead_busy {s : State} (h : leaseBusy s = true) : leaseRead s = s := if_pos h

theorem leaseWrite_du (c ep : Nat) (s : State) : (leaseWrite c ep s).du =
    { s.du with count := c % 2 ^ 64, holder := duUnit s, epoch := ep % 2 ^ 64 } := rfl

theorem leaseWrite_regs (c ep : Nat) (s : State) : (leaseWrite c ep s).regs = s.regs := rfl

theorem duPair_leaseWrite (c ep : Nat) (s : State) : duPair (leaseWrite c ep s) = duPair s :=
  duPair_congr (rd_congr _ (leaseWrite_regs c ep s))

/-- What a read of the lease record shows. -/
def leaseSeen (b : Bytes) (s : State) : State :=
  { s with du := { s.du with
      count := u b 0 8, holder := u b 8 1, epoch := u b 16 8
      same := if u b 0 8 = s.du.count then s.du.same + 1 else 0 } }

/-- Another block holds the lease of a PROTECTED pair. -/
theorem leaseArrived_lost {b : Bytes} {s : State} (hrole : duRole s = 1) (hpair : duPair s = 2) (h : u b 8 1 ≠ duUnit s) :
    leaseArrived b s = setPairState 3 (leaseSeen b s) := by
  simp [leaseArrived, leaseSeen, hrole, hpair, h]

/-- The active of a PROTECTED pair renews its lease. -/
theorem leaseArrived_renewed {b : Bytes} {s : State} (hrole : duRole s = 1) (hpair : duPair s = 2)
    (h : u b 8 1 = duUnit s) : leaseArrived b s = leaseWrite (u b 0 8 + 1) (u b 16 8) (leaseSeen b s) := by
  simp [leaseArrived, leaseSeen, hrole, hpair, h]

/-- A FENCED block returns to PROTECTED. -/
theorem leaseArrived_back {b : Bytes} {s : State} (hrole : duRole s = 1) (hpair : duPair s = 3) (hheld : s.du.held = [])
    (h : duStops s = false ∧ u b 8 1 = duUnit s ∧ dmpUp s = true) :
    leaseArrived b s = leaseWrite (u b 0 8 + 1) (u b 16 8) (setPairState 2 (leaseSeen b s)) := by
  have hnone : passRecords (setPairState 2 (leaseSeen b s)) = setPairState 2 (leaseSeen b s) :=
    passRecords_none ((congrArg Du.held (setPairState_regsPinsOnly 2 _).du).trans hheld)
  rw [← hnone]
  simp [leaseArrived, leaseSeen, hrole, hpair, h]

/-- A FENCED block stays so. -/
theorem leaseArrived_fenced {b : Bytes} {s : State} (hrole : duRole s = 1) (hpair : duPair s = 3)
    (h : ¬ (duStops s = false ∧ u b 8 1 = duUnit s ∧ dmpUp s = true)) : leaseArrived b s = leaseSeen b s := by
  simp only [leaseArrived, leaseSeen, hrole, hpair, if_true, true_and, if_neg h]
  rfl

theorem duPair_leaseSeen (b : Bytes) (s : State) : duPair (leaseSeen b s) = duPair s := rfl

/-- A PROTECTED active that fences itself. -/
theorem leaseFence_fences {s : State} (hrole : duRole s = 1) (hpair : duPair s = 2) :
    leaseFence s = duFlag F.DU_EVENT_FENCED (duFlag F.DU_EVENT_UNPROTECTED
      (fs (loc .DU_STATUS) F.DU_STATUS_PAIR 3 { s with pins := { s.pins with fenced := true } })) := by
  rw [leaseFence, if_pos ⟨hrole, hpair⟩, setPairState_eq (by omega), hpair]
  rfl

/-! ## Failover (R492 to R494) -/

theorem sendFlit_only (b : FlitBody) (s : State) : sendFlit b s = { s with du := { s.du with
    credits := (sendFlit b s).du.credits, txq := (sendFlit b s).du.txq, sent := (sendFlit b s).du.sent
    lastTx := (sendFlit b s).du.lastTx } } := by
  unfold sendFlit
  split
  · rfl
  · dsimp only
    split <;> rfl

theorem fatalFault_alone {s : State} (h : duRole s ≠ 1 ∨ (duPair s ≠ 2 ∧ duPair s ≠ 3)) :
    fatalFault s = alert F.GL_ALERT_FATAL s := by
  refine if_neg ?_
  rintro ⟨hrole, hpair⟩
  omega

theorem fatalFault_active {s : State} (hrole : duRole s = 1) (hpair : duPair s = 2 ∨ duPair s = 3)
    (hphase : s.du.phase ≠ .gaveUp) : fatalFault s = giveUp 3 (sendFlit .fatal (alert F.GL_ALERT_FATAL s)) := by
  rw [fatalFault, if_pos ⟨hrole, hpair⟩]
  exact if_neg hphase

theorem fenceWaitTimeout_due {s : State} (hrole : duRole s = 2) (hphase : s.du.phase = .waitFenced) :
    fenceWaitTimeout s = { s with du := { s.du with phase := .due } } := if_pos ⟨hrole, hphase⟩

theorem takeover_due {s : State} (hrole : duRole s = 2) (hphase : s.du.phase = .due) : takeover s =
    leaseWrite s.du.count (s.du.epoch + 1) { s with du := { s.du with phase := .takeLease } } := if_pos ⟨hrole, hphase⟩

/-! ## The cutover (R497) -/

/-- `k` journal records have been placed: the replay store holds them, and none waits. -/
structure Journalled (k : Nat) (s t : State) : Prop where
  only : t = { s with du := t.du }
  held : t.du.held = []
  phase : t.du.phase = s.du.phase
  cmd : t.du.cmd = s.du.cmd
  room : t.du.replay.length ≤ s.du.replay.length + k

theorem Journalled.duPair {k : Nat} {s t : State} (h : Journalled k s t) : duPair t = duPair s := by
  have hregs : t.regs = s.regs := by rw [h.only]
  exact duPair_congr (rd_congr _ hregs)

/-- A record that the store has room for is sent. -/
theorem placeJournal_room {n : Nat} {s : State} (r : JRec) (hroom : s.du.replay.length < 4096) (hheld : s.du.held = [])
    (hpair : duPair s ≠ 3) : placeJournal n r s =
      sendFlit (.journal n r) { s with du := { s.du with replay := s.du.replay ++ [(n, r)] } } := by
  simp [placeJournal, Nat.not_le.mpr hroom, hheld, hpair]

theorem journal_journalled {s : State} (r : JRec) (hroom : s.du.replay.length < 4096) (hheld : s.du.held = [])
    (hpair : duPair s ≠ 3) : Journalled 1 s (journal r s) := by
  unfold journal
  split
  case isTrue =>
    dsimp only
    rw [placeJournal_room r (by exact hroom) (by exact hheld) (by exact hpair), sendFlit_only]
    exact { only := rfl, held := hheld, phase := rfl, cmd := rfl, room := by simp }
  case isFalse => exact { only := rfl, held := hheld, phase := rfl, cmd := rfl, room := by omega }

theorem forEach_journalled (l : List JRec) {s : State} (hroom : s.du.replay.length + l.length ≤ 4096)
    (hheld : s.du.held = []) (hpair : duPair s ≠ 3) : Journalled l.length s (forEach l journal s) := by
  induction l generalizing s with
  | nil => exact { only := rfl, held := hheld, phase := rfl, cmd := rfl, room := Nat.le_add_right .. }
  | cons r rs ih =>
    rw [List.length_cons] at hroom
    have hone := journal_journalled r (by omega) hheld hpair
    have hroom' := hone.room
    have hrest := ih (s := journal r s) (by omega) hone.held (by rw [hone.duPair]; exact hpair)
    have hlen := hrest.room
    refine { only := ?_, held := hrest.held, phase := hrest.phase.trans hone.phase, cmd := hrest.cmd.trans hone.cmd
             room := ?_ }
    · exact hrest.only.trans (congrArg (fun v : State => { v with du := (forEach rs journal (journal r s)).du }) hone.only)
    · rw [List.length_cons]
      change (forEach rs journal (journal r s)).du.replay.length ≤ _
      omega

/-- With no record held, no command and no access, the CUTOVER flit goes and the pair is PROTECTED. -/
theorem cutoverSend_protects {s : State} (hphase : s.du.phase = .positions) (hheld : s.du.held = []) (hcmd : s.du.cmd = none)
    (hreqs : s.host.reqs = []) : cutoverSend s =
      setPairState 2 (sendFlit .cutover { s with du := { s.du with phase := .none, cmd := none } }) := by
  have hnone :
      (setPairState 2 (sendFlit .cutover { s with du := { s.du with phase := .none, cmd := none } })).host.reqs = [] := by
    rw [(setPairState_regsPinsOnly 2 _).host, sendFlit_only]
    exact hreqs
  rw [cutoverSend, if_pos ⟨hphase, hheld⟩]
  dsimp only
  rw [hnone, hcmd]
  rfl

theorem ownFlips_none {s : State} (h : s.host.reqs = []) : ownFlips s = false := by simp [ownFlips, h]

theorem cutoverEnd_flips {s : State} (h : ownFlips s = true) : cutoverEnd s = s := if_neg fun k => by simp [h] at k

/-- The cutover of a block with no access to host memory left and no command that waits. -/
theorem cutoverEnd_protects {s : State} (hphase : s.du.phase = .cutover) (hreqs : s.host.reqs = []) (hcmd : s.du.cmd = none)
    (hpair : duPair s ≠ 3) (hheld : s.du.held = [])
    (hroom : s.du.replay.length + (snapPositions s).length ≤ 4096) :
    duPair (cutoverEnd s) = 2 ∧ (cutoverEnd s).du.phase = .none := by
  have hj := forEach_journalled (snapPositions s) hroom hheld hpair
  have hjreqs : (forEach (snapPositions s) journal s).host.reqs = [] := by rw [hj.only]; exact hreqs
  rw [cutoverEnd, if_pos ⟨hphase, ownFlips_none hreqs⟩]
  dsimp only
  rw [cutoverSend_protects rfl (by exact hj.held) (by exact hj.cmd.trans hcmd) (by exact hjreqs)]
  refine ⟨duPair_setPairState _ (by decide), ?_⟩
  rw [(setPairState_regsPinsOnly 2 _).du, sendFlit_only]

theorem cutover_acked {s : State} (h : s.du.phase = .acked) :
    cutover s = cutoverEnd { s with du := { s.du with phase := .cutover } } := if_pos h

/-! ## O60 -/

/-- DMP_SILENCE outside SYNCING. -/
theorem dmpSilence_settled {s : State} (hrole : duRole s ≠ 0) (hpair : duPair s ≠ 1) (hwaits : s.du.waits = []) :
    waitsCheck (dmpSilence s) = doIf (duPair s == 2 && !(duRole s == 2 && leaseStale s)) (duFlag F.DU_EVENT_PARTNER_LOST)
      (fs (loc .DU_STATUS) F.DU_STATUS_DMP_UP 0 s) := by
  have hdu := (fs_regsPinsOnly (loc .DU_STATUS) F.DU_STATUS_DMP_UP 0 s).du
  rw [dmpSilence_duo hrole, silenceEffects_settled (by rw [duPair_dmpUp]; exact hpair), duPair_dmpUp, duRole_dmpUp,
    leaseStale_congr hdu]
  refine waitsCheck_none 0 [] ?_
  rw [doIf_duFlag_du, hdu, hwaits]

/-- In SYNCING silence leaves the pair UNPROTECTED, and nothing under way. -/
theorem silenceEffects_ends {s : State} (hpair : duPair s = 1) (hcmd : s.du.cmd = none) :
    dmpUp (silenceEffects s) = dmpUp s ∧ duPair (silenceEffects s) = 0 ∧ (silenceEffects s).du.phase = .none ∧
      (silenceEffects s).du.waits = s.du.waits := by
  rw [silenceEffects_syncing hpair hcmd]
  generalize ht : setPairState 0 { s with du := { s.du with
    phase := .none, cmd := none, replay := [], held := [], mirror := [], rxSeq := 0, gap := false } } = t
  have hup : dmpUp t = dmpUp s := by
    rw [← ht, dmpUp_setPairState]
    exact dmpUp_congr rfl
  have hzero : duPair t = 0 := by rw [← ht, duPair_setPairState _ (by decide)]
  have hphase : t.du.phase = .none := by rw [← ht, (setPairState_regsPinsOnly 0 _).du]
  have hwaits : t.du.waits = s.du.waits := by rw [← ht, (setPairState_regsPinsOnly 0 _).du]
  by_cases hrole : (duRole s == 2) = true
  · obtain ⟨hrd, hphase', hwaits'⟩ := dropMirror_keeps t
    rw [doIf, if_pos hrole]
    exact ⟨(dmpUp_congr hrd).trans hup, (duPair_congr hrd).trans hzero, hphase'.trans hphase, hwaits'.trans hwaits⟩
  · rw [doIf, if_neg hrole]
    exact ⟨hup, hzero, hphase, hwaits⟩

/-- DMP_SILENCE in SYNCING. -/
theorem dmpSilence_syncing {s : State} (hrole : duRole s ≠ 0) (hpair : duPair s = 1) (hwaits : s.du.waits = [])
    (hcmd : s.du.cmd = none) :
    ∃ e, waitsCheck (dmpSilence s) = e ∧ dmpUp e = false ∧ duPair e = 0 ∧ e.du.phase = .none := by
  have hdu := (fs_regsPinsOnly (loc .DU_STATUS) F.DU_STATUS_DMP_UP 0 s).du
  obtain ⟨hup, hzero, hphase, hkept⟩ := silenceEffects_ends (s := fs (loc .DU_STATUS) F.DU_STATUS_DMP_UP 0 s)
    (by rw [duPair_dmpUp, hpair]) (by rw [hdu, hcmd])
  rw [dmpSilence_duo hrole]
  exact ⟨_, waitsCheck_none 0 [] (by rw [hkept, hdu, hwaits]), hup.trans (dmpUp_lowered s), hzero, hphase⟩

/-- Settles O60. -/
theorem duoLeaseAndTakeover : Obligations.DuoLeaseAndTakeover := by
  refine ⟨?silence, ?syncing, ?single, ?credits, ?starved, ?starvedStandby, ?renew, ?read, ?readOther, ?renewOther, ?busy,
    ?lost, ?renewed, ?fenced, ?fences, ?fencesOther, ?loss, ?lossOther, ?fatal, ?fatalActive, ?waited, ?waitedOther,
    ?takes, ?takesOther, ?record, ?surrenders, ?flips, ?protects, ?holds, ?cutoverOther⟩
  case silence =>
    intro s hrole hpair hwaits
    refine ⟨_, done_eq (dmpSilence_settled hrole hpair hwaits), ?_, ?_, fun h2 h1 => ?_⟩
    · rw [dmpUp_congr (rd_doIf_duFlag _ _ _ (by decide)), dmpUp_lowered]
    · rw [duPair_congr (rd_doIf_duFlag _ _ _ (by decide)), duPair_dmpUp]
    · rw [h2, h1]
      exact fb_setFlag_same _ _ rfl (by decide)
  case syncing =>
    intro s hrole hpair hwaits hcmd
    obtain ⟨e, he, hrest⟩ := dmpSilence_syncing hrole hpair hwaits hcmd
    exact ⟨e, done_eq he, hrest⟩
  case single =>
    intro s hrole hwaits
    have hsilent : dmpSilence s = s := if_pos hrole
    exact done_eq ((congrArg (waitsCheck ·) hsilent).trans (waitsCheck_none 0 [] hwaits))
  case credits =>
    intro s hwaits h
    exact done_eq ((congrArg (waitsCheck ·) (creditStarvation_none h)).trans (waitsCheck_none 0 [] hwaits))
  case starved =>
    intro s hwaits hq hc hrole hpair
    have hlost : creditStarvation s = duFlag F.DU_EVENT_PARTNER_LOST s := by
      have hactive : duRole (duFlag F.DU_EVENT_PARTNER_LOST s) ≠ 2 := by
        rw [duRole_congr (rd_duFlag _ s (by decide)), hrole]
        decide
      rw [creditStarvation_some hq hc, silenceEffects_settled (by rw [hpair]; decide), hpair, hrole]
      exact heartbeatTrigger_active hactive
    exact done_eq ((congrArg (waitsCheck ·) hlost).trans (waitsCheck_none 0 [] hwaits))
  case starvedStandby =>
    intro s hwaits hq hc hrole hpair hphase hstale
    have hdue : creditStarvation s = { s with du := { s.du with phase := .due, trigger := 1, triggerAt := s.tb.time } } := by
      rw [creditStarvation_some hq hc, silenceEffects_settled (by rw [hpair]; decide), hpair, hrole, hstale]
      exact heartbeatTrigger_due hrole hpair hphase hstale
    exact done_eq ((congrArg (waitsCheck ·) hdue).trans (waitsCheck_none 0 [] hwaits))
  case renew =>
    intro s hrole hpair hdrain hgave hbusy
    exact done_eq ((if_pos ⟨hrole, hpair, hgave, hdrain⟩).trans (leaseRead_free hbusy))
  case read => exact fun s hrole hpair hbusy => done_eq ((if_pos ⟨hrole, hpair⟩).trans (leaseRead_free hbusy))
  case readOther => exact fun s h => done_eq (if_neg fun k => h.elim (· k.1) (· k.2))
  case renewOther =>
    intro s h
    exact done_eq (if_neg fun k => h.elim (· k.1) fun hp => k.2.1.elim hp.1 hp.2)
  case busy =>
    intro s hbusy
    have hread : leaseReadStandby s = s := by rw [leaseReadStandby, leaseRead_busy hbusy, ite_self]
    have hrenew : leaseRenew s = s := by rw [leaseRenew, leaseRead_busy hbusy, ite_self]
    exact ⟨done_eq hread, done_eq hrenew⟩
  case lost =>
    intro b s hrole hpair h
    rw [leaseArrived_lost hrole hpair h]
    exact duPair_setPairState _ (by decide)
  case renewed =>
    intro b s hrole hpair h
    rw [leaseArrived_renewed hrole hpair h, duPair_leaseWrite, duPair_leaseSeen, leaseWrite_du]
    exact ⟨hpair, rfl, Nat.mod_eq_of_lt (u_lt b 16 8)⟩
  case fenced =>
    intro b s hrole hpair hheld
    split
    case isTrue h =>
      rw [leaseArrived_back hrole hpair hheld h, duPair_leaseWrite]
      exact duPair_setPairState _ (by decide)
    case isFalse h => rw [leaseArrived_fenced hrole hpair h, duPair_leaseSeen, hpair]
  case fences =>
    intro s hrole hpair
    refine ⟨_, done_eq (leaseFence_fences hrole hpair), ?_, rfl, ?_, ?_⟩
    · rw [duPair_congr ((rd_duFlag _ _ (by decide)).trans (rd_duFlag _ _ (by decide))), duPair,
        fg_fs_same _ _ _ (by decide) (by decide)]
      decide
    · exact fb_setFlag_same _ _ rfl (by decide)
    · exact fb_setFlag_keeps _ rfl (by decide) (fb_setFlag_same _ _ rfl (by decide))
  case fencesOther => exact fun s h => done_eq (if_neg fun k => h.elim (· k.1) (· k.2))
  case loss =>
    intro s hrole hpair hphase hstale hup
    have hgo : heartbeatLoss s = heartbeatTrigger s := if_neg (by simp [hup])
    exact done_eq (hgo.trans (heartbeatTrigger_due hrole hpair hphase hstale))
  case lossOther =>
    intro s h
    have hnone : heartbeatLoss s = s := by
      unfold heartbeatLoss heartbeatTrigger
      rcases h with h | h <;> simp [h]
    exact done_eq hnone
  case fatal =>
    intro s hcold h
    exact done_eq ((if_neg (by simp [hcold])).trans (fatalFault_alone h))
  case fatalActive =>
    intro s hcold hrole hpair hphase
    refine ⟨_, done_eq ((if_neg (by simp [hcold])).trans (fatalFault_active hrole hpair hphase)), rfl, rfl, ?_⟩
    have hregs : (giveUp 3 (sendFlit .fatal (alert F.GL_ALERT_FATAL s))).regs = (alert F.GL_ALERT_FATAL s).regs := by
      rw [giveUp, sendFlit_only]
    rw [fb_congr _ (rd_congr _ hregs)]
    exact fb_setFlag_same _ _ rfl (by decide)
  case waited => exact fun s hrole hphase => done_eq (fenceWaitTimeout_due hrole hphase)
  case waitedOther => exact fun s h => done_eq (if_neg fun k => h k.2)
  case takes => exact fun s hrole hphase => done_eq (takeover_due hrole hphase)
  case takesOther => exact fun s h => done_eq (if_neg fun k => h k.2)
  case record => exact fun c ep s => ⟨leaseWrite_du c ep s, leaseWrite_regs c ep s⟩
  case surrenders =>
    intro s
    obtain ⟨hrole, hpair⟩ := surrender_status s
    obtain ⟨t, x, h, hsqs, hframes, hphy, hdump, hreqs⟩ := surrender_eq s
    refine ⟨hrole, hpair, ?_⟩
    rw [surrender_only s t x h]
    refine ⟨hsqs, hframes, hphy, hdump, fun r hr => ?_⟩
    have hr' : r ∈ t.host.reqs := hr
    rw [hreqs, List.mem_filter] at hr'
    simpa using hr'.2
  case flips =>
    intro s hphase hflips
    exact done_eq ((cutover_acked hphase).trans (cutoverEnd_flips (by exact hflips)))
  case protects =>
    intro s hphase hreqs hcmd hpair hheld hroom
    have hpair' : duPair { s with du := { s.du with phase := .cutover } } ≠ 3 := fun h =>
      absurd (hpair.symm.trans h) (by decide)
    obtain ⟨hp, hnone⟩ := cutoverEnd_protects (s := { s with du := { s.du with phase := .cutover } }) rfl hreqs hcmd
      hpair' hheld hroom
    exact ⟨_, done_eq (cutover_acked hphase), hp, hnone⟩
  case holds => exact fun s h => cutoverSend_held h
  case cutoverOther => exact fun s h => done_eq (if_neg h)

end Sys2Proof.Machine
end

section
/-!
PROOFS. The rights of GL_WINACL (O38), and claims, releases and forced releases of semaphores (O42).
-/

namespace Sys2Proof.Machine

/-- Settles O38: the writes of GL_WINACL are those of O36, and a master's code is its bit in each field. -/
theorem windowRights : Obligations.WindowRights := by
  obtain ⟨-, -, -, -, -, -, -, -, hsteward, hothers, -, -⟩ := refusalsAndPageHeaders
  exact ⟨hothers, hsteward, fun f s => ⟨rfl, rfl, rfl, rfl⟩⟩

/-! ## Where the semaphores lie -/

theorem loc_sem (n : Nat) : loc .GL_SEM 0 n = 0x100 + 4 * n := by
  have h : loc .GL_SEM 0 n = 0 * 4096 + 0x100 + 4 * n := rfl
  omega

theorem regAt_sem : ∀ n < 64, regAt 0 (0x100 + 4 * n) = some (.GL_SEM, n, false) := by decide

theorem sem_page {n : Nat} (hn : n < 64) : loc .GL_SEM 0 n / 4096 = 0 ∧ loc .GL_SEM 0 n % 4096 = 0x100 + 4 * n := by
  rw [loc_sem]
  omega

/-! ## Writes of a semaphore (R100, R101) -/

theorem writeEffect_sem {n : Nat} (hn : n < 64) (m : Master) (d : Nat) (s : State) :
    writeEffect m (loc .GL_SEM 0 n) d s = some (writeSem m n d s) := by
  obtain ⟨hpage, hoff⟩ := sem_page hn
  have hclear : ¬ 0xC00 ≤ 0x100 + 4 * n := by omega
  have hset : ¬ 0x800 ≤ 0x100 + 4 * n := by omega
  have hwide : (RegName.row .GL_SEM).wide = false := rfl
  have hreg (k a : Nat) : writeReg m .GL_SEM k n a d s = some (writeSem m n d s) := rfl
  simp [writeEffect, clientPcs, hpage, hoff, hclear, hset, regAt_sem n hn, hwide, hreg]

/-- A command that writes `d` to semaphore `n`, where its checks let it through, does what the semaphore does. -/
theorem sem_writes {c : Instr} {m : Master} {n d : Nat} {s t : State} (hn : n < 64) (hd : d < 2 ^ 32)
    (hc : exec c s = done (runReq m (wreq (loc .GL_SEM 0 n) d) s)) (heff : writeSem m n d s = t) :
    Writes c m (loc .GL_SEM 0 n) d s t := by
  obtain ⟨w, rfl⟩ : ∃ w : W32, w.toNat = d := ⟨BitVec.ofNat 32 d, Nat.mod_eq_of_lt hd⟩
  intro hopen
  obtain ⟨hpage, -⟩ := sem_page hn
  have hloc := loc_sem n
  rw [hc]
  exact done_eq (runReq_page_write (by omega) (by omega) (by rw [hpage]; decide) hopen
    ((writeEffect_sem hn ..).trans (congrArg some heff)))

/-- A token alone claims a free semaphore; token 0 claims none (R100). -/
theorem writeSem_token (m : Master) (n : Nat) {k : Nat} (s : State) (hk : k < 65536) : writeSem m n k s =
    if fb (loc .GL_SEM 0 n) F.GL_SEM_HELD s = false ∧ k ≠ 0 then
      wr (loc .GL_SEM 0 n) (2 ^ 31 + m.code * 2 ^ 28 + k) s
    else s := by
  have h30 : bit k 30 = false := by simp only [bit, beq_eq_false_iff_ne]; omega
  have h31 : bit k 31 = false := by simp only [bit, beq_eq_false_iff_ne]; omega
  simp [writeSem, h30, h31, Nat.mod_eq_of_lt hk]

/-- Bit 31 with the holder's token releases (R101). -/
theorem writeSem_release (m : Master) (n : Nat) {k : Nat} (s : State) (hk : k < 65536) : writeSem m n (2 ^ 31 + k) s =
    if fb (loc .GL_SEM 0 n) F.GL_SEM_HELD s = true ∧ fg (loc .GL_SEM 0 n) F.GL_SEM_MASTER s = m.code ∧
        fg (loc .GL_SEM 0 n) F.GL_SEM_TOKEN s = k then
      wr (loc .GL_SEM 0 n) 0 s
    else s := by
  have h30 : bit (2 ^ 31 + k) 30 = false := by simp only [bit, beq_eq_false_iff_ne]; omega
  have h31 : bit (2 ^ 31 + k) 31 = true := by simp only [bit, beq_iff_eq]; omega
  have htoken : (2 ^ 31 + k) % 65536 = k := by omega
  simp only [writeSem, h30, h31, htoken, if_true, if_neg Bool.false_ne_true]

/-- Bit 30 releases for the steward (R101). -/
theorem writeSem_force (m : Master) (n : Nat) (s : State) :
    writeSem m n (2 ^ 30) s = if m = .stw then wr (loc .GL_SEM 0 n) 0 s else s := rfl

/-- Settles O42. -/
theorem semaphores : Obligations.Semaphores := by
  have hclaim (k : BitVec 16) : k.toNat < 2 ^ 32 := by omega
  have hrelease (k : BitVec 16) : 2 ^ 31 + k.toNat < 2 ^ 32 := by omega
  refine ⟨?claim, ?held, ?release, ?kept, ?force, ?forceOthers⟩
  case claim =>
    intro m n k s hfree hk
    have hk0 : k.toNat ≠ 0 := fun h => hk (BitVec.eq_of_toNat_eq h)
    exact sem_writes n.isLt (hclaim k) rfl ((writeSem_token m _ s k.isLt).trans (if_pos ⟨hfree, hk0⟩))
  case held =>
    intro m n k s hheld
    exact sem_writes n.isLt (hclaim k) rfl ((writeSem_token m _ s k.isLt).trans (if_neg (by simp [hheld])))
  case release =>
    intro m n k s hheld hmaster htoken
    exact sem_writes n.isLt (hrelease k) rfl
      ((writeSem_release m _ s k.isLt).trans (if_pos ⟨hheld, hmaster, htoken⟩))
  case kept =>
    intro m n k s hother
    refine sem_writes n.isLt (hrelease k) rfl ((writeSem_release m _ s k.isLt).trans (if_neg ?_))
    rintro ⟨-, hmaster, htoken⟩
    exact hother.elim (· hmaster) (· htoken)
  case force => exact fun n s => sem_writes n.isLt (by decide) rfl (writeSem_force ..)
  case forceOthers =>
    exact fun m n s hm => sem_writes n.isLt (by decide) rfl ((writeSem_force m _ s).trans (if_neg hm))

end Sys2Proof.Machine
end

section
/-!
PROOFS. The semaphores at a reset (O43): what a cold and a warm reset leave of them, and a register file that is not canonical.
-/

namespace Sys2Proof.Machine

/-! ## Registers that a warm reset keeps -/

/-- The listed words that a warm reset keeps, written over a register file. -/
def keptWords (acc r : Smap W32) : Smap W32 :=
  (r.filter (fun e => keepWarm e.1)).foldl (fun m e => rput m e.1 (warmWord e.1 e.2)) acc

theorem warmRegs_eq (r : Smap W32) : warmRegs r = keptWords [] r := rfl

theorem keptWords_cons (acc : Smap W32) (i : Nat) (v : W32) (r : Smap W32) : keptWords acc ((i, v) :: r) =
    keptWords (if keepWarm i then rput acc i (warmWord i v) else acc) r := by
  by_cases h : keepWarm i = true <;> simp [keptWords, h]

theorem rget_rput_same (m : Smap W32) (a : Nat) (v : W32) : rget (rput m a v) a = v := sget_sput_same ..

theorem rget_rput_other {a i : Nat} (m : Smap W32) (v : W32) (h : a ≠ i) : rget (rput m i v) a = rget m a :=
  sget_sput_other _ _ _ _ _ _ h

/-- Words of other addresses are kept beside the word at `a`. -/
theorem rget_keptWords_absent {a : Nat} {r : Smap W32} (acc : Smap W32) (h : ∀ e ∈ r, e.1 ≠ a) :
    rget (keptWords acc r) a = rget acc a := by
  induction r generalizing acc with
  | nil => rfl
  | cons e r ih =>
    obtain ⟨i, v⟩ := e
    have hi : a ≠ i := (h (i, v) List.mem_cons_self).symm
    rw [keptWords_cons, ih _ fun e he => h e (List.mem_cons_of_mem _ he)]
    split
    · exact rget_rput_other acc _ hi
    · rfl

/-- The addresses of a canonical list are at least its bound. -/
theorem le_of_mem_swf {α : Type} [DecidableEq α] {d : Nat → α} {m : Smap α} {lo : Nat} (h : swf d lo m = true) :
    ∀ e ∈ m, lo ≤ e.1 := by
  induction m generalizing lo with
  | nil => simp
  | cons e m ih =>
    obtain ⟨i, v⟩ := e
    simp only [swf, Bool.and_eq_true, decide_eq_true_eq] at h
    obtain ⟨⟨hlo, -⟩, htail⟩ := h
    intro e he
    rcases List.mem_cons.mp he with rfl | he
    · exact hlo
    · have := ih htail e he
      omega

/-- A canonical file lists a word once, so that a kept word reads as before. -/
theorem rget_keptWords {a lo : Nat} {r acc : Smap W32} (hwf : swf resetWord lo r = true) (hkeep : keepWarm a = true)
    (hword : ∀ v, warmWord a v = v) (hacc : rget acc a = resetWord a) : rget (keptWords acc r) a = rget r a := by
  induction r generalizing acc lo with
  | nil => exact hacc
  | cons e r ih =>
    obtain ⟨i, v⟩ := e
    simp only [swf, Bool.and_eq_true] at hwf
    obtain ⟨-, htail⟩ := hwf
    rw [keptWords_cons]
    by_cases hi : i = a
    · subst hi
      have habsent : ∀ e ∈ r, e.1 ≠ i := fun e he => by have := le_of_mem_swf htail e he; omega
      rw [rget_keptWords_absent _ habsent, if_pos hkeep, rget_rput_same, hword]
      simp [rget, sget]
    · have hskip : rget ((i, v) :: r) a = rget r a := by simp [rget, sget, hi]
      rw [hskip]
      refine ih htail ?_
      split
      · exact (rget_rput_other acc _ (Ne.symm hi)).trans hacc
      · exact hacc

/-- A warm reset keeps the words of the GL page (R46, R503) in a canonical register file. -/
theorem rget_warmRegs_gl {a : Nat} {r : Smap W32} (hwf : rwf r = true) (ha : a < 0x1000) : rget (warmRegs r) a = rget r a := by
  have hpage : a / 4096 = 0 := by omega
  have hkeep : keepWarm a = true := by simp [keepWarm, hpage, pageIsland]
  have htr : a ≠ loc .TR_CFG := by
    have : 0x1000 ≤ loc .TR_CFG := by decide
    omega
  exact rget_keptWords hwf hkeep (fun v => if_neg htr) rfl

/-! ## Registers of the GL page in a reset of the datapath -/

theorem rd_fs_gl {a b : Nat} (f : Fld) (v : Nat) (s : State) (ha : a < 0x1000) (hb : 0x1000 ≤ b) :
    rd a (fs b f v s) = rd a s := rd_fs_other b a f v s (by omega)

theorem rd_wr_gl {a b : Nat} (v : Nat) (s : State) (ha : a < 0x1000) (hb : 0x1000 ≤ b) :
    rd a (wr b v s) = rd a s := rd_wr_other b a v s (by omega)

theorem rd_tableWarmReset_gl {a : Nat} (s : State) (ha : a < 0x1000) : rd a (tableWarmReset s) = rd a s :=
  (rd_wr_gl _ _ ha (by decide)).trans ((rd_wr_gl _ _ ha (by decide)).trans rfl)

theorem engineStatus_page (c : Nat) : 0x1000 ≤ loc .RE_CL_STATUS c := by
  have h : loc .RE_CL_STATUS c = (0x80 + c) * 4096 + 0x80 + 4 * 0 := rfl
  omega

/-- Of the GL page a reset of the datapath leaves what `warmRegs` keeps. -/
theorem rd_resetDatapath_gl {a : Nat} (s : State) (ha : a < 0x1000) :
    rd a (resetDatapath s) = (rget (warmRegs s.regs) a).toNat := by
  have hpw : 0x1000 ≤ loc .PW_STATE := by decide
  unfold resetDatapath doIf
  rw [showRole_eq, rd_wr_gl _ _ ha (by decide)]
  refine Eq.trans (b := rd a (forEach (List.range 24) (fun c t => fs (loc .RE_CL_STATUS c) F.RE_CL_STATUS_DISABLED 0 t)
    (tableWarmReset (datapathEmptied s)))) ?state ?engines
  case state =>
    split
    · rw [rd_congr a (putIslands_regs ..), rd_fs_gl _ _ _ ha hpw, rd_fs_gl _ _ _ ha hpw, rd_fs_gl _ _ _ ha hpw,
        rd_fs_gl _ _ _ ha hpw]
      rfl
    · rfl
  case engines =>
    rw [forEach_keeps (rd a) _ fun c _ t => rd_fs_gl _ _ t ha (engineStatus_page c), rd_tableWarmReset_gl _ ha]
    rfl

/-! ## Semaphores in a warm reset (R102) -/

/-- What a warm reset leaves of a semaphore's word: 0 where another master than the steward holds it. -/
def warmSemWord (v : Nat) : Nat :=
  if (bits v F.GL_SEM_HELD.hi F.GL_SEM_HELD.lo == 1) = true ∧
      bits v F.GL_SEM_MASTER.hi F.GL_SEM_MASTER.lo ≠ Master.stw.code then 0
  else v

theorem warmSemWord_zero : warmSemWord 0 = 0 := by decide

theorem warmSemWord_idem (v : Nat) : warmSemWord (warmSemWord v) = warmSemWord v := by
  by_cases h : warmSemWord v = v
  · rw [h, h]
  · have hzero : warmSemWord v = 0 := by
      unfold warmSemWord at h ⊢
      split <;> simp_all
    rw [hzero, warmSemWord_zero]

theorem warmSemWord_steward {v : Nat} (h : bits v F.GL_SEM_MASTER.hi F.GL_SEM_MASTER.lo = Master.stw.code) :
    warmSemWord v = v := if_neg fun ⟨_, hother⟩ => hother h

theorem warmSemWord_other {v : Nat} (h : bits v F.GL_SEM_MASTER.hi F.GL_SEM_MASTER.lo ≠ Master.stw.code) :
    (bits (warmSemWord v) F.GL_SEM_HELD.hi F.GL_SEM_HELD.lo == 1) = false := by
  unfold warmSemWord
  split
  case isTrue => decide
  case isFalse hfree => exact Bool.eq_false_iff.mpr fun hheld => hfree ⟨hheld, h⟩

/-- What a warm reset does to semaphore `i`. -/
def warmSem (i : Nat) (s : State) : State :=
  if fb (loc .GL_SEM 0 i) F.GL_SEM_HELD s = true ∧ fg (loc .GL_SEM 0 i) F.GL_SEM_MASTER s ≠ 2 then wr (loc .GL_SEM 0 i) 0 s
  else s

theorem warmSems_eq (s : State) : warmSems s = forEach (List.range 64) warmSem s := rfl

theorem rd_warmSem_same (n : Nat) (s : State) :
    rd (loc .GL_SEM 0 n) (warmSem n s) = warmSemWord (rd (loc .GL_SEM 0 n) s) := by
  rw [warmSem, apply_ite (rd (loc .GL_SEM 0 n)), rd_wr_same]
  rfl

theorem rd_warmSem_other {n i : Nat} (s : State) (hn : n ≠ i) :
    rd (loc .GL_SEM 0 n) (warmSem i s) = rd (loc .GL_SEM 0 n) s := by
  have hloc : loc .GL_SEM 0 n ≠ loc .GL_SEM 0 i := by
    rw [loc_sem, loc_sem]
    omega
  unfold warmSem
  split
  · exact rd_wr_other _ _ _ _ hloc
  · rfl

/-- A round over semaphores changes each of them once, however often it is listed. -/
theorem rd_forEach_warmSem (l : List Nat) (n : Nat) (s : State) : rd (loc .GL_SEM 0 n) (forEach l warmSem s) =
    if n ∈ l then warmSemWord (rd (loc .GL_SEM 0 n) s) else rd (loc .GL_SEM 0 n) s := by
  induction l generalizing s with
  | nil => rfl
  | cons i l ih =>
    have hcons : forEach (i :: l) warmSem s = forEach l warmSem (warmSem i s) := rfl
    rw [hcons, ih]
    by_cases hn : n = i
    · subst hn
      simp [rd_warmSem_same, warmSemWord_idem]
    · simp [rd_warmSem_other s hn, hn]

theorem rd_withPins (a : Nat) (p : Pins) (s : State) : rd a { s with pins := p } = rd a s := rfl

theorem rd_warmHeld (a : Nat) (s : State) : rd a (warmHeld s) = rd a (warmSems (resetDatapath s)) := rd_withPins ..

theorem loc_sem_gl {n : Nat} (hn : n < 64) : loc .GL_SEM 0 n < 0x1000 := by
  rw [loc_sem]
  omega

theorem sem_settles {n : Nat} (hn : n < 64) : loc .GL_SEM 0 n ∉ settleRegs := by
  have hpage : ∀ b ∈ settleRegs, 0x1000 ≤ b := by decide
  have hgl := loc_sem_gl hn
  intro h
  have := hpage _ h
  omega

/-- A semaphore in warm reset. -/
theorem rd_warmReset_sem {n : Nat} (s : State) (hn : n < 64) : rd (loc .GL_SEM 0 n) (settle (warmHeld s)) =
    warmSemWord (rget (warmRegs s.regs) (loc .GL_SEM 0 n)).toNat := by
  rw [rd_settle (sem_settles hn), rd_warmHeld, warmSems_eq, rd_forEach_warmSem, if_pos (List.mem_range.mpr hn),
    rd_resetDatapath_gl s (loc_sem_gl hn)]

/-- A cold reset releases every semaphore (R102). -/
theorem coldReset_releases_semaphores {n : Nat} {s : State} (hn : n < 64) (hrst : s.pins.rstN = true) :
    ∃ t, exec .coldResetAssert s = .next t ∧ fb (loc .GL_SEM 0 n) F.GL_SEM_HELD t = false := by
  obtain ⟨-, hcold⟩ := coldResetClears
  obtain ⟨t, ht, -, -, hclear⟩ := hcold s hrst
  have hword : resetWord (loc .GL_SEM 0 n) = 0 := by
    obtain ⟨hpage, hoff⟩ := sem_page hn
    have hreset : resetReg .GL_SEM 0 n = 0 := rfl
    simp [resetWord, hpage, hoff, regAt_sem n hn, hreset]
  have hseeds : loc .GL_SEM 0 n ∉ [loc .ST_SEED_CUR 0 0, loc .ST_SEED_CUR 0 1, loc .GL_STRAP] := by
    have h0 : 0x1000 ≤ loc .ST_SEED_CUR 0 0 ∧ 0x1000 ≤ loc .ST_SEED_CUR 0 1 ∧ loc .GL_STRAP = 0x84 := by decide
    simp only [loc_sem, List.mem_cons, List.not_mem_nil, or_false]
    omega
  refine ⟨t, ht, ?_⟩
  simp [fb, fg, hclear.regs _ hseeds, hword, bits]

/-- What R102 says of a warm reset holds of a canonical register file. -/
theorem warmReset_semaphores {n : Nat} {s : State} (hn : n < 64) (hw : s.pins.warmN = true) (hc : coldHeld s = false)
    (hwf : Regs.wf s = true) : ∃ t, exec .warmResetAssert s = .next t ∧
      (fg (loc .GL_SEM 0 n) F.GL_SEM_MASTER s ≠ Master.stw.code → fb (loc .GL_SEM 0 n) F.GL_SEM_HELD t = false) ∧
      (fg (loc .GL_SEM 0 n) F.GL_SEM_MASTER s = Master.stw.code → rd (loc .GL_SEM 0 n) t = rd (loc .GL_SEM 0 n) s) := by
  have hrd : rd (loc .GL_SEM 0 n) (settle (warmHeld s)) = warmSemWord (rd (loc .GL_SEM 0 n) s) := by
    rw [rd_warmReset_sem s hn, rget_warmRegs_gl hwf (loc_sem_gl hn), rd]
  refine ⟨_, done_eq (warmAssert_eq hw hc), fun hother => ?_, fun hstw => hrd.trans (warmSemWord_steward hstw)⟩
  rw [fb, fg, hrd]
  exact warmSemWord_other hother

/-! ## A register file that is not canonical -/

/-- The released block with semaphore 0 listed twice: held by the steward, which is what it reads, and free. -/
def semTwice : State :=
  { State.reset with
    regs := [(loc .GL_SEM 0 0, BitVec.ofNat 32 (2 ^ 31 + Master.stw.code * 2 ^ 28 + 1)), (loc .GL_SEM 0 0, 0)]
    pins := { Pins.reset with rstN := true, warmN := true, collapsed := false } }

/-- Refutes O43: the statement takes register files that are not canonical. Semaphore 0 of `semTwice` reads held by the
steward, the first of its two entries; a warm reset writes the entries again in turn, so that the second stays and it is
free. The cold reset, and the warm one of a canonical file, do what R102 says (`coldReset_releases_semaphores`,
`warmReset_semaphores`). -/
theorem not_semaphoresAtReset : ¬ Obligations.SemaphoresAtReset := by
  rintro ⟨-, hwarm⟩
  obtain ⟨t, ht, -, hkeep⟩ := hwarm 0 semTwice (by decide) rfl rfl
  have hexec : exec .warmResetAssert semTwice = .next (settle (warmHeld semTwice)) := done_eq (warmAssert_eq rfl rfl)
  obtain rfl : settle (warmHeld semTwice) = t := Host.Outcome.next.inj (hexec.symm.trans ht)
  have hfree : rd (loc .GL_SEM 0 0) (settle (warmHeld semTwice)) = 0 :=
    (rd_warmReset_sem semTwice (by decide)).trans (by decide)
  exact absurd (hfree.symm.trans (hkeep (by decide))) (by decide)

end Sys2Proof.Machine
end

section
/-!
PROOFS. Flag aliases, and the two words of a 64-bit register (O44).
-/

namespace Sys2Proof.Machine

/-! ## Words written again -/

theorem sremove_sinsert {α : Type} (k : Nat) (v : α) (m : Smap α) : sremove k (sinsert k v m) = sremove k m := by
  induction m with
  | nil => simp [sremove, sinsert]
  | cons e m ih =>
    unfold sinsert
    split
    · simp [sremove]
    · simp only [sremove, List.filter_cons] at ih ⊢
      rw [ih]

/-- The last of two writes of one element stays. -/
theorem sput_sput_same {α : Type} [DecidableEq α] (d : α) (m : Smap α) (k : Nat) (v w : α) :
    sput d (sput d m k w) k v = sput d m k v := by
  have hremove : sremove k (sput d m k w) = sremove k m := by
    unfold sput
    split
    · exact sremove_idem k m
    · rw [sremove_sinsert, sremove_idem]
  simp only [sput] at hremove ⊢
  rw [hremove]

theorem wr_wr_same (a v w : Nat) (s : State) : wr a v (wr a w s) = wr a v s := by
  simp only [wr, rput, sput_sput_same]

/-! ## The registers that the flag aliases name -/

/-- The register that is found lies in the list, and the offset in it. -/
theorem findReg_mem {off k : Nat} {n : RegName} {hi : Bool} {l : List RegName} (h : findReg off l = some (n, k, hi)) :
    n ∈ l ∧ n.row.off ≤ off ∧ off < n.row.off + n.row.stride * (n.row.count - 1) + (if n.row.wide then 8 else 4) ∧
      (off - n.row.off) % n.row.stride = if hi then 4 else 0 := by
  induction l with
  | nil => simp [findReg] at h
  | cons r l ih =>
    have later (h : findReg off l = some (n, k, hi)) := by
      obtain ⟨hmem, hrest⟩ := ih h
      exact And.intro (List.mem_cons_of_mem r hmem) hrest
    rw [findReg] at h
    dsimp only at h
    by_cases hrange : r.row.off ≤ off ∧ off < r.row.off + r.row.stride * (r.row.count - 1) + (if r.row.wide then 8 else 4)
    case neg =>
      rw [if_neg hrange] at h
      exact later h
    rw [if_pos hrange] at h
    obtain ⟨hstart, hend⟩ := hrange
    by_cases hlow : (off - r.row.off) % r.row.stride = 0
    · rw [if_pos hlow] at h
      cases h
      exact ⟨List.mem_cons_self, hstart, hend, hlow⟩
    rw [if_neg hlow] at h
    by_cases hhigh : (off - r.row.off) % r.row.stride = 4 ∧ r.row.wide = true
    · rw [if_pos hhigh] at h
      cases h
      exact ⟨List.mem_cons_self, hstart, hend, hhigh.1⟩
    · rw [if_neg hhigh] at h
      exact later h

/-- A row of the page index map that lists another kind. -/
theorem page_row_ne_ev {c : Prop} [Decidable c] {k : PageKind} {j i : Nat} {e : Option (PageKind × Nat)} (hk : k ≠ .ev)
    (he : e ≠ some (.ev, i)) : (if c then some (k, j) else e) ≠ some (.ev, i) := by
  split
  · simp [hk]
  · exact he

theorem pageOf_ev {pg i : Nat} (h : pageOf pg = some (.ev, i)) : pg = 3 := by
  by_contra hne
  revert h
  simp only [pageOf, if_neg hne]
  repeat refine page_row_ne_ev (by decide) ?_
  simp

theorem piccMask_kind (k : PageKind) (h : RegName.EV_PICC_MASK ∈ k.regs) : k = .ev := by
  revert h
  cases k <;> decide

/-- EV_PICC_MASK lies in the EV page alone. -/
theorem regAt_piccMask {a k : Nat} {hi : Bool} (h : regAt (a / 4096) (a % 4096) = some (.EV_PICC_MASK, k, hi)) :
    a = loc .EV_PICC_MASK := by
  have hrow : RegName.row .EV_PICC_MASK = ⟨0x414, 4, 1, false, 0, 0xffffffff, 0, 0, 0⟩ := rfl
  have hloc : loc .EV_PICC_MASK = 3 * 4096 + 0x414 := by decide
  unfold regAt at h
  split at h
  case isTrue =>
    obtain ⟨hmem, -⟩ := findReg_mem h
    exact absurd hmem (by decide)
  case isFalse =>
    split at h
    case h_2 => cases h
    case h_1 kind inst hpage =>
      split at h
      case h_2 => cases h
      case h_1 n i b hfind =>
        split_ifs at h
        cases h
        obtain ⟨hmem, hlow, hhigh, hword⟩ := findReg_mem hfind
        have hev := piccMask_kind kind hmem
        subst hev
        have hpg := pageOf_ev hpage
        simp only [hrow] at hlow hhigh hword
        cases hi <;> simp at hhigh hword <;> omega

/-! ## What a flag register becomes -/

/-- A flag register takes the word given. -/
theorem rd_putFlags_same {a k : Nat} {n : RegName} {hi : Bool} (v : Nat) (s : State)
    (hreg : regAt (a / 4096) (a % 4096) = some (n, k, hi)) : rd a (putFlags n a v s) = v % 2 ^ 32 := by
  unfold putFlags
  split
  case isTrue hn =>
    subst hn
    rw [regAt_piccMask hreg]
    exact rd_wr_same ..
  case isFalse => exact rd_wr_same ..

theorem clearAlias_eq {a k : Nat} {n : RegName} {hi : Bool} (v hw : Nat) (s : State)
    (hreg : regAt (a / 4096) (a % 4096) = some (n, k, hi)) (hn : n ≠ .PC_WRAP) : clearAlias a v hw s =
      putFlags n a ((rd a s ^^^ (rd a s &&& v &&& (n.row.rw ||| n.row.sticky))) ||| (hw &&& n.row.sticky)) s := by
  simp [clearAlias, hreg, hn]

theorem setAlias_eq {a k : Nat} {n : RegName} {hi : Bool} (v : Nat) (s : State)
    (hreg : regAt (a / 4096) (a % 4096) = some (n, k, hi)) :
    setAlias a v s = putFlags n a (rd a s ||| (v &&& n.row.rw)) s := by
  simp [setAlias, hreg]

theorem bit_mod_word (v : Nat) {i : Nat} (hi : i < 32) : bit (v % 2 ^ 32) i = bit v i := by
  rw [bit_eq_testBit, bit_eq_testBit, Nat.testBit_mod_two_pow]
  simp [hi]

/-- A write of the clear aliases clears the bits written that can be cleared, but for those the hardware sets in the same cycle
(R94). -/
theorem bit_clearAlias {a k i : Nat} {n : RegName} {hi : Bool} (v hw : Nat) (s : State)
    (hreg : regAt (a / 4096) (a % 4096) = some (n, k, hi)) (hn : n ≠ .PC_WRAP) (hi : i < 32) :
    bit (rd a (clearAlias a v hw s)) i = ((bit (rd a s) i && !(bit v i && bit (n.row.rw ||| n.row.sticky) i)) ||
      (bit hw i && bit n.row.sticky i)) := by
  rw [clearAlias_eq v hw s hreg hn, rd_putFlags_same _ s hreg, bit_mod_word _ hi]
  simp only [bit_eq_testBit, Nat.testBit_or, Nat.testBit_xor, Nat.testBit_and]
  cases (rd a s).testBit i <;> simp

/-- A write of the set aliases sets the bits written that are not sticky (R93). -/
theorem bit_setAlias {a k i : Nat} {n : RegName} {hi : Bool} (v : Nat) (s : State)
    (hreg : regAt (a / 4096) (a % 4096) = some (n, k, hi)) (hi : i < 32) :
    bit (rd a (setAlias a v s)) i = (bit (rd a s) i || (bit v i && bit n.row.rw i)) := by
  rw [setAlias_eq v s hreg, rd_putFlags_same _ s hreg, bit_mod_word _ hi]
  simp only [bit_eq_testBit, Nat.testBit_or, Nat.testBit_and]

/-! ## The hardware's bits of a cycle in which they are cleared (R94) -/

/-- Setting the hardware's bits before a clear and with it is setting them with it. -/
theorem clear_after_set (old set v mask : Nat) :
    ((old ||| set) ^^^ ((old ||| set) &&& v &&& mask)) ||| set = (old ^^^ (old &&& v &&& mask)) ||| set := by
  refine Nat.eq_of_testBit_eq fun i => ?_
  simp only [Nat.testBit_or, Nat.testBit_xor, Nat.testBit_and]
  cases set.testBit i <;> simp

/-- Which sources EV_PICC_MASK has masked before a write counts the bits of its word once. -/
theorem masked_again (was word v : Nat) :
    ((((was ||| word) ^^^ ((was ||| word) &&& word)) ||| word) ^^^
      ((((was ||| word) ^^^ ((was ||| word) &&& word)) ||| word) &&& v)) = (was ||| word) ^^^ ((was ||| word) &&& v) := by
  refine Nat.eq_of_testBit_eq fun i => ?_
  simp only [Nat.testBit_or, Nat.testBit_xor, Nat.testBit_and]
  cases word.testBit i <;> simp

/-- EV_PICC_MASK written as it reads, and then with `v`. -/
theorem setPiccMask_again (v : Nat) (s : State) :
    setPiccMask v (setPiccMask (rd (loc .EV_PICC_MASK) s) s) = setPiccMask v s := by
  have hword : rd (loc .EV_PICC_MASK) (setPiccMask (rd (loc .EV_PICC_MASK) s) s) = rd (loc .EV_PICC_MASK) s :=
    (rd_wr_same ..).trans (Nat.mod_eq_of_lt (rd_lt ..))
  have hmasked := masked_again s.ev.piccMasked (rd (loc .EV_PICC_MASK) s) v
  simp only [setPiccMask] at hword ⊢
  rw [hword, hmasked]
  simp only [wr, rput, sput_sput_same]

/-- A flag register written with the hardware's bits set, and then with `v`. -/
theorem putFlags_again {b k set : Nat} {n : RegName} {hi : Bool} (v : Nat) (s : State)
    (hreg : regAt (b / 4096) (b % 4096) = some (n, k, hi)) (hset : n = .EV_PICC_MASK → set = 0) :
    putFlags n b v (putFlags n b (rd b s ||| set) s) = putFlags n b v s := by
  unfold putFlags
  split
  case isTrue hn =>
    subst hn
    rw [hset rfl, Nat.or_zero, regAt_piccMask hreg]
    exact setPiccMask_again v s
  case isFalse => exact wr_wr_same ..

/-- A clear finds the hardware's bits of its cycle set, and sets them all the same (R94). -/
theorem clearAlias_again {b hw : Nat} (v : Nat) (s : State) (hhw : hw < 2 ^ 32) :
    clearAlias b v hw (clearAlias b 0 hw s) = clearAlias b v hw s := by
  cases hreg : regAt (b / 4096) (b % 4096) with
  | none => simp [clearAlias, hreg]
  | some r =>
    obtain ⟨n, k, hi⟩ := r
    by_cases hn : n = .PC_WRAP
    · subst hn
      have hzero : bit 0 0 = false := by decide
      simp [clearAlias, hreg, hzero]
    have hset : clearAlias b 0 hw s = putFlags n b (rd b s ||| (hw &&& n.row.sticky)) s := by
      rw [clearAlias_eq 0 hw s hreg hn, Nat.and_zero, Nat.zero_and, Nat.xor_zero]
    have hlt : rd b s ||| (hw &&& n.row.sticky) < 2 ^ 32 :=
      Nat.or_lt_two_pow (rd_lt b s) (Nat.lt_of_le_of_lt Nat.and_le_left hhw)
    have hword : rd b (clearAlias b 0 hw s) = rd b s ||| (hw &&& n.row.sticky) := by
      rw [hset, rd_putFlags_same _ s hreg, Nat.mod_eq_of_lt hlt]
    have hpicc : n = .EV_PICC_MASK → hw &&& n.row.sticky = 0 := by
      rintro rfl
      exact Nat.and_zero hw
    rw [clearAlias_eq v hw _ hreg hn, hword, clear_after_set, hset, putFlags_again _ s hreg hpicc,
      clearAlias_eq v hw s hreg hn]

/-! ## The checks of an access beside a change of a flag register -/

/-- Two states alike in what the checks of an access read: ports, pins, islands, the profile, and every register that is no
flag register. -/
structure SameChecks (s t : State) : Prop where
  ctl : t.ctl = s.ctl
  pins : t.pins = s.pins
  isl : t.isl = s.isl
  prof : t.prof = s.prof
  regs : ∀ b, b % 4096 < 0x400 ∨ 0x800 ≤ b % 4096 → rd b t = rd b s

theorem headerReg_pageAutowake : HeaderReg .PAGE_AUTOWAKE := by unfold HeaderReg; decide

section
variable {s t : State} (h : SameChecks s t)
include h

theorem SameChecks.header {n : RegName} (hn : HeaderReg n) (pg : Nat) : rd (hdrLoc n pg) t = rd (hdrLoc n pg) s := by
  obtain ⟨-, hoff, -⟩ := hdrLoc_split hn pg
  obtain ⟨hlow, -⟩ := hn
  exact h.regs _ (by omega)

theorem SameChecks.romOff (pg off : Nat) : romOff pg off t = romOff pg off s := by
  have hblock : blockState t = blockState s := fg_congr _ (h.regs _ (by decide))
  simp only [Machine.romOff, h.pins, hblock]

theorem SameChecks.rightsOf (m : Master) (pg : Nat) : rightsOf m pg t = rightsOf m pg s := by
  have hacl (f : Fld) := fg_congr f (h.header headerReg_pageAcl pg)
  have hdebug : fb (loc .BT_DEBUG) F.BT_DEBUG_UNLOCKED t = fb (loc .BT_DEBUG) F.BT_DEBUG_UNLOCKED s :=
    fb_congr _ (h.regs _ (by decide))
  cases m <;> simp only [Machine.rightsOf, hacl, hdebug]

theorem SameChecks.tableCheck (m : Master) (w : Bool) (pg off d : Nat) :
    tableCheck m w pg off d t = tableCheck m w pg off d s := by
  have hgated : stwGated m pg t = stwGated m pg s := by
    rw [stwGated, stwGated, fb_congr _ (h.regs (loc .BT_STATUS) (by decide))]
  have hrecovery : recoveryWrite m pg off d t = recoveryWrite m pg off d s := by
    rw [recoveryWrite, recoveryWrite, inRecovery, inRecovery, fg_congr _ (h.regs (loc .BT_STATUS) (by decide))]
  have hpresence : presence t = presence s := fb_congr _ (h.regs _ (by decide))
  simp only [Machine.tableCheck, h.rightsOf, hgated, hrecovery, hpresence]

theorem SameChecks.gate (m : Master) (pg off : Nat) : gate m pg off t = gate m pg off s := by
  have hisl (c : Nat) : Machine.isl c t = Machine.isl c s := by rw [Machine.isl, Machine.isl, h.isl]
  have hwake : autoWake m pg t = autoWake m pg s := by
    rw [autoWake, autoWake, fg_congr _ (h.header headerReg_pageAutowake pg)]
  have hclock (c : Nat) : clocked c t = clocked c s := by rw [clocked, clocked, h.pins]
  simp only [Machine.gate, h.romOff, h.pins, hisl, hwake, hclock]

theorem SameChecks.locked {a d : Nat} (ha : 0x800 ≤ a % 4096) :
    locked (a / 4096) (a % 4096) d t = locked (a / 4096) (a % 4096) d s := by
  have hword : rd (a / 4096 * 4096 + a % 4096) t = rd (a / 4096 * 4096 + a % 4096) s := h.regs _ (by omega)
  simp only [Machine.locked, fb_congr _ (h.header headerReg_pageLock (a / 4096)), hword]

/-- A write outside the flags that its checks let through is let through beside a change of a flag register. -/
theorem SameChecks.writeOpen {m : Master} {a d : Nat} (ha : 0x800 ≤ a % 4096) (hopen : WriteOpen m a d s) :
    WriteOpen m a d t := by
  have hqueue : ctlQueue m t = ctlQueue m s := by rw [ctlQueue, ctlQueue, h.ctl]
  have hreset : resetHolds a t = resetHolds a s := by
    rw [resetHolds, resetHolds, coldHeld, coldHeld, h.pins]
  rw [WriteOpen, hqueue, hreset, h.romOff, h.tableCheck, h.gate, h.locked ha]
  exact hopen

theorem SameChecks.clientPcs (a : Nat) : clientPcs a t = clientPcs a s := by
  simp only [Machine.clientPcs, isClient, h.prof]

end

theorem SameChecks.refl (s : State) : SameChecks s s := ⟨rfl, rfl, rfl, rfl, fun _ _ => rfl⟩

theorem wr_sameChecks {b : Nat} (v : Nat) (s : State) (hlow : 0x400 ≤ b % 4096) (hhigh : b % 4096 < 0x800) :
    SameChecks s (wr b v s) :=
  { SameChecks.refl s with regs := fun c hc => rd_wr_other b c v s (by rintro rfl; omega) }

theorem putFlags_sameChecks {b : Nat} (n : RegName) (v : Nat) (s : State) (hlow : 0x400 ≤ b % 4096)
    (hhigh : b % 4096 < 0x800) : SameChecks s (putFlags n b v s) := by
  unfold putFlags
  split
  case isTrue =>
    have hwr := wr_sameChecks (b := loc .EV_PICC_MASK) v s (by decide) (by decide)
    exact { hwr with }
  case isFalse => exact wr_sameChecks v s hlow hhigh

theorem clearAlias_sameChecks {b : Nat} (v hw : Nat) (s : State) (hlow : 0x400 ≤ b % 4096) (hhigh : b % 4096 < 0x800) :
    SameChecks s (clearAlias b v hw s) := by
  unfold clearAlias
  split
  case h_1 =>
    split
    · split
      · exact { SameChecks.refl s with }
      · exact .refl s
    · exact putFlags_sameChecks _ _ s hlow hhigh
  case h_2 => exact .refl s

/-! ## Writes of the aliases (R93, R94) -/

/-- The page and the offset of a flag word's address. -/
theorem alias_page {pg w off : Nat} (hw : w < 256) (hoff : off ≤ 0xC00) :
    (pg * 4096 + off + 4 * w) / 4096 = pg ∧ (pg * 4096 + off + 4 * w) % 4096 = off + 4 * w := by omega

theorem exec_flagSetAlias {m : Master} {pg w : BitVec 8} {d : W32} {s : State} (hpage : (pageOf pg.toNat).isSome = true)
    (hpcs : clientPcs (pg.toNat * 4096 + 0x800 + 4 * w.toNat) s = false) :
    Writes (.flagSetAlias m pg w d) m (pg.toNat * 4096 + 0x800 + 4 * w.toNat) d.toNat s
      (setAlias (pg.toNat * 4096 + 0x400 + 4 * w.toNat) d.toNat s) := by
  intro hopen
  have hpg := pg.isLt
  have hw := w.isLt
  obtain ⟨hdiv, hmod⟩ := alias_page (pg := pg.toNat) (off := 0x800) hw (by decide)
  have hflag : pg.toNat * 4096 + 0x800 + 4 * w.toNat - 0x400 = pg.toNat * 4096 + 0x400 + 4 * w.toNat := by omega
  have heff : writeEffect m (pg.toNat * 4096 + 0x800 + 4 * w.toNat) d.toNat s =
      some (setAlias (pg.toNat * 4096 + 0x400 + 4 * w.toNat) d.toNat s) := by
    have hclear : ¬ 0xC00 ≤ 0x800 + 4 * w.toNat := by omega
    have hset : 0x800 ≤ 0x800 + 4 * w.toNat := by omega
    rw [writeEffect]
    dsimp only
    rw [if_neg (by simp [hpcs]), hmod, if_neg hclear, if_pos hset, hflag]
  exact done_eq (runReq_page_write (by omega) (by omega) (by rw [hdiv]; exact hpage) hopen heff)

/-- The bits that the hardware sets in the cycle of a clear are set outside reset, and change no check. -/
theorem exec_flagClearAlias {m : Master} {pg w : BitVec 8} {d hw : W32} {s : State}
    (hpage : (pageOf pg.toNat).isSome = true)
    (hpcs : clientPcs (pg.toNat * 4096 + 0xC00 + 4 * w.toNat) s = false) :
    Writes (.flagClearAlias m pg w d hw) m (pg.toNat * 4096 + 0xC00 + 4 * w.toNat) d.toNat s
      (clearAlias (pg.toNat * 4096 + 0x400 + 4 * w.toNat) d.toNat hw.toNat s) := by
  intro hopen
  have hw256 := w.isLt
  obtain ⟨-, hmod⟩ := alias_page (pg := pg.toNat) (off := 0xC00) hw256 (by decide)
  obtain ⟨-, hflagmod⟩ := alias_page (pg := pg.toNat) (off := 0x400) hw256 (by decide)
  have hflag : pg.toNat * 4096 + 0xC00 + 4 * w.toNat - 0x800 = pg.toNat * 4096 + 0x400 + 4 * w.toNat := by omega
  have hsame := clearAlias_sameChecks (b := pg.toNat * 4096 + 0x400 + 4 * w.toNat) 0 hw.toNat s (by omega) (by omega)
  have hnone : (pageOf pg.toNat).isNone = false := by rw [← Option.not_isSome, hpage]; rfl
  by_cases hres : inReset s = true
  · refine done_eq ?_
    simp only [hnone, hres, hflag, Bool.true_or, if_true, if_neg Bool.false_ne_true]
    exact ctlWrite_open hopen (by rw [if_neg (by simp [hpcs])])
  · refine done_eq ?_
    have hset : (inReset s || clientPcs (pg.toNat * 4096 + 0xC00 + 4 * w.toNat) s) = false := by simp [hres, hpcs]
    simp only [hnone, hset, hflag, if_neg Bool.false_ne_true]
    refine ctlWrite_open (hsame.writeOpen (by omega) hopen) ?_
    rw [hsame.clientPcs, if_neg (by simp [hpcs]), clearAlias_again _ s hw.isLt]

/-! ## The two words of SC_PFC_BANDS (R96) -/

theorem bands_regAt : regAt (loc .SC_PFC_BANDS 0 / 4096) (loc .SC_PFC_BANDS 0 % 4096) = some (.SC_PFC_BANDS, 0, false) := by
  decide

theorem bandsHigh_regAt : regAt ((loc .SC_PFC_BANDS 0 + 4) / 4096) ((loc .SC_PFC_BANDS 0 + 4) % 4096) =
    some (.SC_PFC_BANDS, 0, true) := by decide

theorem bands_clientPcs (s : State) :
    clientPcs (loc .SC_PFC_BANDS 0) s = false ∧ clientPcs (loc .SC_PFC_BANDS 0 + 4) s = false := by
  have hlow : decide (loc .SC_PFC_BANDS 0 / 4096 < 0x80) = false := by decide
  have hhigh : decide ((loc .SC_PFC_BANDS 0 + 4) / 4096 < 0x80) = false := by decide
  simp [clientPcs, hlow, hhigh]

/-- A read below the flag aliases of a word of a 64-bit register. -/
theorem readEffect_wide {m : Master} {a i : Nat} {n : RegName} {hi : Bool} {s : State} (halias : a % 4096 < 0x800)
    (hpcs : clientPcs a s = false) (hreg : regAt (a / 4096) (a % 4096) = some (n, i, hi)) (hwide : n.row.wide = true)
    (hte : tePacketOnly n = false) : readEffect m a s = readWide m a hi false s := by
  have hclear : ¬ 0xC00 ≤ a % 4096 := by omega
  have hset : ¬ 0x800 ≤ a % 4096 := by omega
  simp [readEffect, hpcs, hclear, hset, hreg, hwide, hte]

/-- A write below the flag aliases of a word of a 64-bit register. -/
theorem writeEffect_wide {m : Master} {a data i : Nat} {n : RegName} {hi : Bool} {s : State} (halias : a % 4096 < 0x800)
    (hpcs : clientPcs a s = false) (hreg : regAt (a / 4096) (a % 4096) = some (n, i, hi)) (hwide : n.row.wide = true) :
    writeEffect m a data s =
      writeWide m n (4 * pageInstance (a / 4096) + i) (if hi then a - 4 else a) hi data s := by
  have hclear : ¬ 0xC00 ≤ a % 4096 := by omega
  have hset : ¬ 0x800 ≤ a % 4096 := by omega
  simp [writeEffect, hpcs, hclear, hset, hreg, hwide]

/-- A read whose turn it is, of an aligned word of a listed page. -/
theorem runReq_page_read {m : Master} {a : Nat} {s : State} (halign : a % 4 = 0) (ha : a < 0x100000)
    (hpage : (pageOf (a / 4096)).isSome = true) (hopen : ReadOpen m a s) :
    runReq m (rreq a) s = respond m .ok false (readEffect m a s).1 (readEffect m a s).2 := by
  obtain ⟨hq, hr, -⟩ := id hopen
  obtain ⟨pg, hpg⟩ := Option.isSome_iff_exists.mp hpage
  have hregion : region a = .page (a / 4096) (a % 4096) := by simp [region, ha, hpg]
  calc runReq m (rreq a) s
      = ctlRead m a (readEffect m a) s := by simp [runReq, runReqNow, inTurn, rreq, hq, hr, halign, hregion]
    _ = _ := ctlRead_open hopen

/-- A low word is staged. -/
theorem writeWide_bands_low (m : Master) (ch a d : Nat) (s : State) :
    writeWide m .SC_PFC_BANDS ch a false d s = some (stageLow m a d s) := by
  simp [writeWide, wideRefused]

/-- A high word is written with the staged low word of its register. -/
theorem writeWide_bands_high {m : Master} {a : Nat} {lo hi : W32} {s : State} (ch : Nat)
    (hst : sget none s.ctl.staged m.code = some (a, lo)) :
    writeWide m .SC_PFC_BANDS ch a true hi.toNat s = some (unstage m a (wr64 a (lo.toNat + hi.toNat * 2 ^ 32) s)) := by
  have hlo := lo.isLt
  have hhi := hi.isLt
  have hrw : (RegName.row .SC_PFC_BANDS).rw = 2 ^ 64 - 1 := rfl
  have hlow := rd_lt a s
  have hhigh := rd_lt (a + 4) s
  have hold : rd64 a s &&& (2 ^ 64 - 1) = rd64 a s := by
    rw [Nat.and_two_pow_sub_one_eq_mod, Nat.mod_eq_of_lt]
    rw [rd64]
    omega
  have hnew : (lo.toNat + hi.toNat * 2 ^ 32) &&& (2 ^ 64 - 1) = lo.toNat + hi.toNat * 2 ^ 32 := by
    rw [Nat.and_two_pow_sub_one_eq_mod, Nat.mod_eq_of_lt (by omega)]
  have hstaged : stagedLow m a s = lo.toNat := by simp [stagedLow, hst]
  simp only [writeWide, wideRefused, hrw, hold, hnew, hstaged, Nat.xor_self, Nat.zero_or]
  simp

/-- The two words of a 64-bit register read as they were written. -/
theorem rd_wr64_words (a : Nat) (lo hi : W32) (s : State) : rd a (wr64 a (lo.toNat + hi.toNat * 2 ^ 32) s) = lo.toNat ∧
    rd (a + 4) (wr64 a (lo.toNat + hi.toNat * 2 ^ 32) s) = hi.toNat := by
  have hlo := lo.isLt
  have hhi := hi.isLt
  constructor
  · rw [wr64, rd_wr_other _ _ _ _ (by omega), rd_wr_same]
    omega
  · rw [wr64, rd_wr_same]
    omega

theorem wr64_ctl (a v : Nat) (s : State) : (wr64 a v s).ctl = s.ctl := rfl

theorem rd_unstage (b : Nat) (m : Master) (a : Nat) (s : State) : rd b (unstage m a s) = rd b s := by
  unfold unstage
  split
  · split <;> rfl
  · rfl

/-- A staged word that has been used is no longer staged. -/
theorem staged_unstage {m : Master} {a : Nat} {w : W32} {s : State} (h : sget none s.ctl.staged m.code = some (a, w)) :
    sget none (unstage m a s).ctl.staged m.code = none := by
  simp [unstage, h, sget_sput_same]

/-- Settles O44. -/
theorem aliasesAndWideRegisters : Obligations.AliasesAndWideRegisters := by
  refine ⟨?setWrite, ?clearWrite, ?clearBits, ?setBits, ?lowRead, ?lowWrite, ?highWrite⟩
  case setWrite => exact fun m pg w d s hpage hpcs => exec_flagSetAlias hpage hpcs
  case clearWrite => exact fun m pg w d hw s hpage hpcs => exec_flagClearAlias hpage hpcs
  case clearBits => exact fun a v hw i k n s hreg hn hi => bit_clearAlias v hw s hreg hn hi
  case setBits => exact fun a v i k n s hreg hi => bit_setAlias v s hreg hi
  case lowRead =>
    intro m a s ha hopen
    rw [ha] at hopen ⊢
    obtain ⟨hpcs, -⟩ := bands_clientPcs s
    have hread : readEffect m (loc .SC_PFC_BANDS 0) s = readWide m (loc .SC_PFC_BANDS 0) false false s :=
      readEffect_wide (by decide) hpcs bands_regAt rfl rfl
    refine done_eq ?_
    rw [ha, runReq_page_read (by decide) (by decide) (by decide) hopen, hread]
    rfl
  case lowWrite =>
    intro m a d s ha hopen
    rw [ha] at hopen ⊢
    obtain ⟨hpcs, -⟩ := bands_clientPcs s
    refine done_eq ?_
    rw [ha]
    exact runReq_page_write (by decide) (by decide) (by decide) hopen
      ((writeEffect_wide (by decide) hpcs bands_regAt rfl).trans (writeWide_bands_low ..))
  case highWrite =>
    intro m a lo hi s ha hst hopen
    rw [ha] at hopen ⊢
    obtain ⟨-, hpcs⟩ := bands_clientPcs s
    have heff : writeEffect m (loc .SC_PFC_BANDS 0 + 4) hi.toNat s = some (unstage m (loc .SC_PFC_BANDS 0)
        (wr64 (loc .SC_PFC_BANDS 0) (lo.toNat + hi.toNat * 2 ^ 32) s)) :=
      (writeEffect_wide (by decide) hpcs bandsHigh_regAt rfl).trans (writeWide_bands_high _ hst)
    obtain ⟨hlow, hhigh⟩ := rd_wr64_words (loc .SC_PFC_BANDS 0) lo hi s
    refine ⟨_, done_eq ?_, (rd_unstage ..).trans hlow, (rd_unstage ..).trans hhigh,
      staged_unstage (w := lo) (by rw [wr64_ctl]; exact hst)⟩
    rw [ha]
    exact runReq_page_write (by decide) (by decide) (by decide) hopen heff

end Sys2Proof.Machine
end

section
/-!
PROOFS. Registers of the lane pages, and the total of a lane's coefficients (O39).
-/

namespace Sys2Proof.Machine

/-! ## Registers of the lane pages -/

/-- Register `n` lies in the page of lane `k`, for the 18 lanes. -/
def LaneReg (n : RegName) : Prop :=
  n.row.wide = false ∧ n.row.off < 0x800 ∧ ∀ k < 18, loc n k % 4 = 0 ∧ loc n k < 0x100000 ∧ loc n k % 4096 = n.row.off ∧
    loc n k / 4096 < 0x40 ∧ pageInstance (loc n k / 4096) = k ∧ (pageOf (loc n k / 4096)).isSome = true ∧
    regAt (loc n k / 4096) (loc n k % 4096) = some (n, 0, false)

theorem laneReg_txeq : LaneReg .LN_TXEQ := by unfold LaneReg; decide

theorem writeEffect_laneReg {n : RegName} {k : Nat} (h : LaneReg n) (hk : k < 18) (m : Master) (d : Nat) (s : State) :
    writeEffect m (loc n k) d s = writeReg m n k 0 (loc n k) d s := by
  obtain ⟨hwide, hlow, hlane⟩ := h
  obtain ⟨-, -, hoff, hpage, hinst, -, hreg⟩ := hlane k hk
  have hpcs : clientPcs (loc n k) s = false := by simp [clientPcs, Nat.not_le.mpr hpage]
  have hclear : ¬ 0xC00 ≤ loc n k % 4096 := by omega
  have hset : ¬ 0x800 ≤ loc n k % 4096 := by omega
  simp [writeEffect, hpcs, hclear, hset, hreg, hwide, hinst]

theorem runReq_laneReg_write {n : RegName} {k : Nat} {m : Master} {d : W32} {s t : State} (h : LaneReg n) (hk : k < 18)
    (hopen : WriteOpen m (loc n k) d.toNat s) (heff : writeReg m n k 0 (loc n k) d.toNat s = some t) :
    runReq m (wreq (loc n k) d.toNat) s = respond m .ok true 0 (journalConfig (loc n k) d.toNat t) := by
  obtain ⟨-, -, hlane⟩ := id h
  obtain ⟨halign, hlt, -, -, -, hpage, -⟩ := hlane k hk
  exact runReq_page_write halign hlt hpage hopen ((writeEffect_laneReg h hk ..).trans heff)

theorem runReq_laneReg_refused {n : RegName} {k : Nat} {m : Master} {d : W32} {s : State} (h : LaneReg n) (hk : k < 18)
    (hopen : WriteOpen m (loc n k) d.toNat s) (heff : writeReg m n k 0 (loc n k) d.toNat s = none)
    (hmiss : writeMiss (loc n k) d.toNat s = s) :
    runReq m (wreq (loc n k) d.toNat) s = refusePage m true (loc n k / 4096) (loc n k % 4096) 7 s := by
  obtain ⟨hq, hr, -⟩ := id hopen
  obtain ⟨-, -, hlane⟩ := id h
  obtain ⟨halign, hlt, -, -, -, hpage, -⟩ := hlane k hk
  rw [runReq_page halign hlt hpage hq hr, ctlWrite_refused hopen ((writeEffect_laneReg h hk ..).trans heff), hmiss]

/-! ## What a lane's stored changes leave alone (R131) -/

theorem laneStored_regs (n : Nat) (s : State) : (laneStored n s).regs = s.regs := by
  unfold laneStored
  split <;> rfl

/-- Settles O39. -/
theorem coefficientTotal : Obligations.CoefficientTotal := by
  refine ⟨?above, ?within⟩
  case above =>
    intro m n a d s hn ha hsum hopen
    have hmiss : writeMiss (loc .LN_TXEQ n) d.toNat s = s := by
      obtain ⟨-, -, hlane⟩ := laneReg_txeq
      obtain ⟨-, -, -, -, -, -, hreg⟩ := hlane n hn
      simp [writeMiss, hreg]
    refine done_eq ?_
    rw [ha]
    exact runReq_laneReg_refused laneReg_txeq hn hopen (if_pos hsum) hmiss
  case within =>
    intro m n a d s hn ha hsum hopen
    refine ⟨laneStored n (wr (loc .LN_TXEQ n) (d.toNat % 2 ^ 30) s), done_eq ?_, ?_⟩
    · rw [ha]
      exact runReq_laneReg_write laneReg_txeq hn hopen (if_neg (Nat.not_lt.mpr hsum))
    · rw [rd_congr _ (laneStored_regs ..), rd_wr_same]
      omega

end Sys2Proof.Machine
end

section
/-!
PROOFS. What the way of a frame and the change of a port's link leave alone: the registers of every other unit and the wear state
(R124, R177, R185, R380).
-/

namespace Sys2Proof.Machine

/-! ## What leaves named registers and the wear state alone -/

/-- The registers that `K` names read as before, and the wear state is as before. -/
structure Kept (K : Nat → Prop) (s t : State) : Prop where
  regs : ∀ a, K a → rd a t = rd a s
  sv : t.sv = s.sv

section
variable {K : Nat → Prop}

theorem Kept.refl (s : State) : Kept K s s := ⟨fun _ _ => rfl, rfl⟩

theorem Kept.trans {s t u : State} (h : Kept K s t) (k : Kept K t u) : Kept K s u :=
  ⟨fun a ha => (k.regs a ha).trans (h.regs a ha), k.sv.trans h.sv⟩

/-- Composition from the last step back. -/
theorem Kept.after {s t u : State} (k : Kept K t u) (h : Kept K s t) : Kept K s u := h.trans k

theorem Kept.of_same {s t : State} (h : t.regs = s.regs ∧ t.sv = s.sv) : Kept K s t := ⟨fun _ _ => rd_congr _ h.1, h.2⟩

/-- What follows and writes no register. -/
theorem Kept.beside {s t u : State} (h : Kept K s t) (hu : u.regs = t.regs ∧ u.sv = t.sv) : Kept K s u :=
  h.trans (.of_same hu)

theorem Kept.forEach {α : Type} {f : α → State → State} (hf : ∀ a s, Kept K s (f a s)) (l : List α) (s : State) :
    Kept K s (forEach l f s) := forEach_rel (R := Kept K) .refl (fun _ _ _ => .trans) hf l s

theorem Kept.doIf {f : State → State} (hf : ∀ s, Kept K s (f s)) (c : Bool) (s : State) : Kept K s (doIf c f s) := by
  cases c
  · exact .refl s
  · exact hf s

theorem Kept.ite {c : Prop} [Decidable c] {s t u : State} (ht : Kept K s t) (hu : Kept K s u) :
    Kept K s (if c then t else u) := by
  split
  · exact ht
  · exact hu

/-- Of fewer registers. -/
theorem Kept.mono {J : Nat → Prop} {s t : State} (h : Kept K s t) (hJ : ∀ a, J a → K a) : Kept J s t :=
  ⟨fun a ha => h.regs a (hJ a ha), h.sv⟩

theorem wr_kept {a : Nat} (ha : ¬ K a) (v : Nat) (s : State) : Kept K s (wr a v s) :=
  ⟨fun _ hb => rd_wr_other _ _ v s fun e => ha (e ▸ hb), rfl⟩

end

/-! ## Registers that frames and links leave alone -/

/-- The registers of ports and schedulers that a frame's way or a change of a link may write. -/
def trafficRows : List RegName :=
  [.MP_RX_PAUSE_STATE, .SC_EVENT, .MP_TX_EVENT, .MP_TX_STATE, .MP_MM_STATUS, .MP_PCS_EVENT]

/-- The single registers that they may write. -/
def trafficRegs : List Nat := loc .WQ_EVENT :: settleRegs

/-- The address is none of theirs. -/
def Quiet (a : Nat) : Prop := a ∉ trafficRegs ∧ ∀ n ∈ trafficRows, ∀ k, a ≠ loc n k

/-- Registers that no frame and no link writes read as before. -/
abbrev TrafficKept : State → State → Prop := Kept Quiet

theorem loc_eq (n : RegName) (k : Nat) : loc n k = (n.kind.first + k) * 4096 + n.row.off := by simp [loc, locAt]

theorem loc_mod (n : RegName) (k : Nat) : loc n k % 4096 = n.row.off % 4096 := by simp [loc_eq]

/-- Registers that lie at different offsets of their pages are different registers. -/
theorem loc_ne_of_off {n r : RegName} (h : n.row.off % 4096 ≠ r.row.off % 4096) (k j : Nat) : loc n k ≠ loc r j := by
  intro e
  have hk := loc_mod n k
  have hj := loc_mod r j
  rw [e] at hk
  omega

/-- An address at another offset, or below the first page of its kind. -/
theorem quiet_of {a : Nat} (ha : a ∉ trafficRegs)
    (hrow : ∀ n ∈ trafficRows, a % 4096 ≠ n.row.off % 4096 ∨ a < n.kind.first * 4096) : Quiet a := by
  refine ⟨ha, fun n hn k e => ?_⟩
  have hmod := loc_mod n k
  have heq := loc_eq n k
  have := hrow n hn
  rw [← e] at hmod heq
  omega

/-- An address at an offset of none of these registers. -/
theorem quiet_of_off {a r : Nat} (ha : a % 4096 = r) (hreg : ∀ b ∈ trafficRegs, b % 4096 ≠ r)
    (hrow : ∀ n ∈ trafficRows, n.row.off % 4096 ≠ r) : Quiet a :=
  quiet_of (fun hmem => hreg a hmem ha) fun n hn => .inl fun e => hrow n hn (e.symm.trans ha)

theorem row_trafficKept {n : RegName} (hn : n ∈ trafficRows) (k v : Nat) (s : State) : TrafficKept s (wr (loc n k) v s) :=
  wr_kept (fun h => h.2 n hn k rfl) v s

theorem fs_trafficKept {n : RegName} (hn : n ∈ trafficRows) (k : Nat) (f : Fld) (v : Nat) (s : State) :
    TrafficKept s (fs (loc n k) f v s) := row_trafficKept hn k _ s

theorem setFlag_trafficKept {n : RegName} (hn : n ∈ trafficRows) (k : Nat) (f : Fld) (s : State) :
    TrafficKept s (setFlag (loc n k) f s) := row_trafficKept hn k _ s

theorem reg_trafficKept {a : Nat} (ha : a ∈ trafficRegs) (v : Nat) (s : State) : TrafficKept s (wr a v s) :=
  wr_kept (fun h => h.1 ha) v s

theorem wqFlag_trafficKept (f : Fld) (s : State) : TrafficKept s (setFlag (loc .WQ_EVENT) f s) :=
  reg_trafficKept (by decide) _ s

theorem Settling.trafficKept {s t : State} (h : Settling s t) : TrafficKept s t :=
  ⟨fun a ha => h.regs a fun hmem => ha.1 (List.mem_cons_of_mem _ hmem), h.sv⟩

/-! ### Counters, accesses and the records of completion queues -/

theorem bumpBy_trafficKept (i n : Nat) (s : State) : TrafficKept s (bumpBy i n s) := by
  unfold bumpBy
  split
  · exact .refl s
  dsimp only
  split
  · exact .of_same ⟨rfl, rfl⟩
  · exact .after (reg_trafficKept (by decide) ..) (.after (reg_trafficKept (by decide) ..) (.of_same ⟨rfl, rfl⟩))

theorem bump_trafficKept (i : Nat) (s : State) : TrafficKept s (bump i s) := bumpBy_trafficKept i 1 s

theorem occur_trafficKept (i : Nat) (s : State) : TrafficKept s (occur i s) := by
  unfold occur
  split
  · exact .refl s
  · exact bump_trafficKept i s

theorem access_trafficKept (a : Acc) (s : State) : TrafficKept s (access a s) := .of_same ⟨rfl, rfl⟩

theorem cqRecord_trafficKept (c status kind obj info : Nat) (dom : Option Nat) (s : State) :
    TrafficKept s (cqRecord c status kind obj info dom s) := (cqRecord_settling ..).trafficKept

theorem cqScanStart_trafficKept (c : Nat) (s : State) : TrafficKept s (cqScanStart c s) := by
  unfold cqScanStart
  dsimp only
  split
  · exact .refl s
  split
  · exact .of_same ⟨rfl, rfl⟩
  split
  · exact .refl s
  · exact .of_same ⟨rfl, rfl⟩

theorem drainBacklog_trafficKept (c n : Nat) (s : State) : TrafficKept s (drainBacklog c n s) := by
  induction n generalizing s with
  | zero => exact .refl s
  | succ n ih =>
    unfold drainBacklog
    dsimp only
    split
    · exact .refl s
    split
    · exact .refl s
    refine .after (ih _) ?_
    split
    · refine .after (cqScanStart_trafficKept c _) (.after (access_trafficKept ..) ?_)
      split <;> exact .of_same ⟨rfl, rfl⟩
    · refine .after (access_trafficKept ..) ?_
      split <;> exact .of_same ⟨rfl, rfl⟩

theorem createCompletions_trafficKept (q n : Nat) (s : State) : TrafficKept s (createCompletions q n s) := by
  induction n generalizing s with
  | zero => exact .refl s
  | succ n ih =>
    unfold createCompletions
    split
    · exact .refl s
    split
    · exact .refl s
    split
    · exact .refl s
    · exact .after (ih _) (.after (drainBacklog_trafficKept ..) (.of_same ⟨rfl, rfl⟩))

theorem finishExec_trafficKept (x : Nat) (b : Bytes) (s : State) : TrafficKept s (finishExec x b s) := by
  unfold finishExec
  split
  · split
    · exact .refl s
    · exact .after (createCompletions_trafficKept ..) (.of_same ⟨rfl, rfl⟩)
  · exact .refl s

theorem episodeStart_trafficKept (c status : Nat) (s : State) : TrafficKept s (episodeStart c status s) := by
  unfold episodeStart
  dsimp only
  split
  · exact .refl s
  · exact .after (cqRecord_trafficKept ..) (.after (wqFlag_trafficKept ..) (.after (bump_trafficKept ..)
      (.of_same ⟨rfl, rfl⟩)))

theorem reservePlace_trafficKept (c : Nat) (s : State) : TrafficKept s (reservePlace c s).2.2 := by
  unfold reservePlace
  dsimp only
  split
  · exact .refl s
  split
  · exact .of_same ⟨rfl, rfl⟩
  split
  · exact episodeStart_trafficKept ..
  split
  · exact .of_same ⟨rfl, rfl⟩
  · exact .after (episodeStart_trafficKept ..) (wqFlag_trafficKept ..)

/-! ### Received frames (R169 to R173, R265) -/

theorem fcChange_trafficKept (p : Nat) (old s : State) : TrafficKept s (fcChange p old s) := by
  unfold fcChange
  dsimp only
  split <;> exact .of_same ⟨rfl, rfl⟩

theorem xoffEval_trafficKept (p : Nat) (s : State) : TrafficKept s (xoffEval p s) := by
  unfold xoffEval
  dsimp only
  split
  · exact .refl s
  · exact .after (fcChange_trafficKept ..) (fs_trafficKept (by decide) ..)

theorem reap_trafficKept (f : Nat) (s : State) : TrafficKept s (reap f s) := by
  unfold reap
  split
  · dsimp only
    split_ifs
    · exact .of_same ⟨rfl, rfl⟩
    · exact .of_same ⟨rfl, rfl⟩
    · exact .refl s
  · exact .refl s

theorem dropF_trafficKept (f : Nat) (s : State) : TrafficKept s (dropF f s) := by
  unfold dropF
  split
  · exact .after (reap_trafficKept ..) (.after (xoffEval_trafficKept ..) (.of_same ⟨rfl, rfl⟩))
  · exact .refl s

theorem rxFinish_trafficKept (x : Nat) (s : State) : TrafficKept s (rxFinish x s) := by
  unfold rxFinish
  split
  · exact .refl s
  split
  · exact .refl s
  split
  · exact .after (dropF_trafficKept ..) (finishExec_trafficKept ..)
  · exact .refl s

theorem rxAdvance_trafficKept (x : Nat) (s : State) : TrafficKept s (rxAdvance x s) := by
  unfold rxAdvance
  split
  · exact .refl s
  split
  · exact .refl s
  split
  · exact .refl s
  · exact .after (rxFinish_trafficKept ..) (.after (.forEach (fun _ _ => access_trafficKept ..) ..) (.of_same ⟨rfl, rfl⟩))

theorem readTable_trafficKept (x : Nat) (s : State) : TrafficKept s (readTable x s) := by
  unfold readTable
  split
  · exact .refl s
  · exact .after (.forEach (fun _ _ => access_trafficKept ..) ..) (.of_same ⟨rfl, rfl⟩)

theorem rxStart_trafficKept (q n : Nat) (s : State) : TrafficKept s (rxStart q n s) := by
  induction n generalizing s with
  | zero => exact .refl s
  | succ n ih =>
    have hplace (e : Exec) (c : Nat) :
        TrafficKept s (if e.placed = true then (true, e.fromPool, s) else reservePlace c s).2.2 := by
      split
      · exact .refl s
      · exact reservePlace_trafficKept c s
    unfold rxStart
    dsimp only
    split
    · exact .refl s
    split
    · exact .refl s
    split
    · exact .refl s
    · next e _ =>
      have hp := hplace e (getSq q s).cq
      generalize (if e.placed = true then (true, e.fromPool, s) else reservePlace (getSq q s).cq s) = r at hp ⊢
      split
      · exact hp
      · refine .after (ih _) ?_
        split
        · refine .after (readTable_trafficKept ..) (.trans hp ?_)
          split <;> exact .of_same ⟨rfl, rfl⟩
        · refine .after (rxAdvance_trafficKept ..) (.trans hp ?_)
          split <;> exact .of_same ⟨rfl, rfl⟩

theorem rxKick_trafficKept (q : Nat) (s : State) : TrafficKept s (rxKick q s) := rxStart_trafficKept q _ s

theorem copyDropped_trafficKept (f : Nat) (s : State) : TrafficKept s (copyDropped f s) := by
  unfold copyDropped
  split
  · exact bump_trafficKept ..
  · exact .refl s

theorem holdDrop_trafficKept (q f : Nat) (s : State) : TrafficKept s (holdDrop q f s) := by
  have hcount (i j : Nat) (g : Fld) (t : State) (h : t.regs = s.regs ∧ t.sv = s.sv) :
      TrafficKept s (setFlag (loc .WQ_EVENT) g (bump i (bump j t))) :=
    .after (wqFlag_trafficKept ..) (.after (bump_trafficKept ..) (.after (bump_trafficKept ..) (.of_same h)))
  exact .after (dropF_trafficKept ..) (.after (cqRecord_trafficKept ..) (.after (copyDropped_trafficKept ..)
    (.ite (hcount _ _ _ _ ⟨rfl, rfl⟩) (hcount _ _ _ _ ⟨rfl, rfl⟩))))

theorem deliverTo_trafficKept (g f : Nat) (s : State) : TrafficKept s (deliverTo g f s) := by
  unfold deliverTo
  split
  · exact .refl s
  split
  · exact .after (dropF_trafficKept ..) (.after (bump_trafficKept ..) (copyDropped_trafficKept ..))
  · next fr _ q _ =>
    have hkick (t : State) (h : t.regs = s.regs ∧ t.sv = s.sv) : TrafficKept s (rxKick q t) :=
      .after (rxKick_trafficKept ..) (.of_same h)
    dsimp only
    split
    · split
      · exact .after (holdDrop_trafficKept ..) (hkick _ ⟨rfl, rfl⟩)
      · exact .after (occur_trafficKept ..) (hkick _ ⟨rfl, rfl⟩)
    · exact hkick _ ⟨rfl, rfl⟩

/-! ### Frames in transmission (R353, R372, R384) -/

theorem scEvent_trafficKept (p i : Nat) (s : State) : TrafficKept s (scEvent p i s) := row_trafficKept (by decide) ..

theorem forwardTo_trafficKept (l f : Nat) (s : State) : TrafficKept s (forwardTo l f s).2 := by
  unfold forwardTo
  dsimp only
  split_ifs
  · exact .of_same ⟨rfl, rfl⟩
  · exact .after (dropF_trafficKept ..) (.after (scEvent_trafficKept ..) (bump_trafficKept ..))

theorem mirrorCopy_trafficKept (f : Frame) (m : Nat) (s : State) : TrafficKept s (mirrorCopy f m s) := by
  have hforward (l g : Nat) (t : State) (h : t.regs = s.regs ∧ t.sv = s.sv) : TrafficKept s (forwardTo l g t).2 :=
    .after (forwardTo_trafficKept ..) (.of_same h)
  exact .ite (bump_trafficKept ..) (.ite (.ite (hforward _ _ _ ⟨rfl, rfl⟩)
    (.after (bump_trafficKept ..) (hforward _ _ _ ⟨rfl, rfl⟩)))
    (.after (deliverTo_trafficKept ..) (.of_same ⟨rfl, rfl⟩)))

theorem sendMirror_trafficKept (g : Frame) (s : State) : TrafficKept s (sendMirror g s) := by
  unfold sendMirror
  split
  · exact mirrorCopy_trafficKept ..
  · exact .refl s

theorem chargeNode_same (n : Int) (c : Nat) (s : State) :
    (chargeNode n c s).regs = s.regs ∧ (chargeNode n c s).sv = s.sv := by
  unfold chargeNode
  dsimp only
  split <;> split <;> exact ⟨rfl, rfl⟩

theorem adjustCharge_trafficKept (p f : Nat) (n : Int) (s : State) : TrafficKept s (adjustCharge p f n s) := by
  unfold adjustCharge
  split
  · exact .refl s
  · next x _ =>
    have hcharge : TrafficKept s (forEach x.path (chargeNode (n - x.charge)) s) :=
      .forEach (fun c t => .of_same (chargeNode_same _ c t)) ..
    exact hcharge.beside ⟨rfl, rfl⟩

theorem returnCharge_trafficKept (p f : Nat) (s : State) : TrafficKept s (returnCharge p f s) :=
  (adjustCharge_trafficKept p f 0 s).beside ⟨rfl, rfl⟩

theorem killTx_trafficKept (f : Nat) (s : State) : TrafficKept s (killTx f s) := by
  unfold killTx
  split
  · exact .after (dropF_trafficKept ..) (returnCharge_trafficKept ..)
  · exact .refl s

theorem forgetTx_trafficKept (f : Frame) (s : State) : TrafficKept s (forgetTx f s) := by
  unfold forgetTx
  dsimp only
  split
  · exact .after (dropF_trafficKept ..) (.of_same ⟨rfl, rfl⟩)
  · exact .of_same ⟨rfl, rfl⟩

theorem endTx_trafficKept (f : Frame) (status : Nat) (ts : Option Nat) (s : State) : TrafficKept s (endTx f status ts s) := by
  unfold endTx
  dsimp only
  split
  · exact .after (finishExec_trafficKept ..) (forgetTx_trafficKept ..)
  · exact forgetTx_trafficKept ..

theorem countAbove_trafficKept (p n : Nat) (s : State) : TrafficKept s (countAbove p n s) := by
  unfold countAbove
  dsimp only
  split
  · exact bumpBy_trafficKept ..
  · exact .refl s

theorem lineOut_trafficKept (p : Nat) (k : LineKind) (b : Bytes) (s : State) : TrafficKept s (lineOut p k b s) :=
  .of_same ⟨rfl, rfl⟩

theorem rateAdd_trafficKept (p : Nat) (tx : Bool) (n : Nat) (s : State) : TrafficKept s (rateAdd p tx n s) :=
  .of_same ⟨rfl, rfl⟩

theorem setTx_trafficKept (p : Nat) (v : TxPort) (s : State) : TrafficKept s (setTx p v s) := .of_same ⟨rfl, rfl⟩

theorem forgetRx_trafficKept (f : Nat) (s : State) : TrafficKept s (forgetRx f s) := .of_same ⟨rfl, rfl⟩

theorem showTx_trafficKept (p : Nat) (s : State) : TrafficKept s (showTx p s) :=
  .after (fs_trafficKept (by decide) ..) (fs_trafficKept (by decide) ..)

theorem flushCut_trafficKept (p : Nat) (s : State) : TrafficKept s (flushCut p s) := by
  unfold flushCut
  dsimp only
  split
  · split <;> exact .of_same ⟨rfl, rfl⟩
  · exact .refl s

theorem flushMm_trafficKept (p : Nat) (s : State) : TrafficKept s (flushMm p s) := by
  have hverify : TrafficKept s (if (getTx p s).verifyDue = true then bump (cPort p 58) (lineOut p .verify [] s) else s) := by
    split
    · exact .after (bump_trafficKept ..) (.of_same ⟨rfl, rfl⟩)
    · exact .refl s
  unfold flushMm
  dsimp only
  split
  · exact .refl s
  split
  · exact .of_same ⟨rfl, rfl⟩
  · generalize (if (getTx p s).verifyDue = true then bump (cPort p 58) (lineOut p .verify [] s) else s) = t at hverify ⊢
    split <;> exact hverify.beside ⟨rfl, rfl⟩

theorem idleTx_trafficKept (p : Nat) (s : State) : TrafficKept s (idleTx p s) :=
  .after (flushMm_trafficKept ..) (.after (flushCut_trafficKept ..) (.after (showTx_trafficKept ..) (.of_same ⟨rfl, rfl⟩)))

theorem cutTx_trafficKept (p status : Nat) (s : State) : TrafficKept s (cutTx p status s) := by
  unfold cutTx
  split
  · exact .refl s
  split
  · exact idleTx_trafficKept ..
  · exact .after (endTx_trafficKept ..) (.after (rateAdd_trafficKept ..) (.after (idleTx_trafficKept ..)
      (.after (countAbove_trafficKept ..) (lineOut_trafficKept ..))))

theorem underrun_trafficKept (p status : Nat) (s : State) : TrafficKept s (underrun p status s) :=
  .after (cutTx_trafficKept ..) (.after (bump_trafficKept ..) (setFlag_trafficKept (by decide) ..))

theorem cutOpened_trafficKept (p status : Nat) (s : State) : TrafficKept s (cutOpened p status s) := by
  unfold cutOpened
  split
  · exact .refl s
  · next c _ =>
    have hcut (t : State) (h : t.regs = s.regs ∧ t.sv = s.sv) :
        TrafficKept s (rateAdd p true c.sent (showTx p (flushCut p t))) :=
      .after (rateAdd_trafficKept ..) (.after (showTx_trafficKept ..) (.after (flushCut_trafficKept ..) (.of_same h)))
    dsimp only
    split
    · exact .after (endTx_trafficKept ..) (hcut _ ⟨rfl, rfl⟩)
    · exact hcut _ ⟨rfl, rfl⟩

theorem loseOpened_trafficKept (p status : Nat) (s : State) : TrafficKept s (loseOpened p status s) :=
  .after (cutOpened_trafficKept ..) (.after (bump_trafficKept ..) (setFlag_trafficKept (by decide) ..))

theorem forwardLost_trafficKept (f : Nat) (late : Bool) (s : State) : TrafficKept s (forwardLost f late s) :=
  .forEach (fun _ _ => .ite (underrun_trafficKept ..) (.ite (loseOpened_trafficKept ..) (killTx_trafficKept ..))) ..

theorem forwardMore_trafficKept (g : Frame) (s : State) : TrafficKept s (forwardMore g s) := by
  refine .forEach (fun t u => ?_) ..
  dsimp only
  split
  · exact .after (adjustCharge_trafficKept ..) (.of_same ⟨rfl, rfl⟩)
  · exact .of_same ⟨rfl, rfl⟩

theorem rxMore_trafficKept (f : Nat) (s : State) : TrafficKept s (rxMore f s) := by
  have hmore (g : Frame) := forwardMore_trafficKept g s
  unfold rxMore
  split
  · dsimp only
    split
    · split
      · exact .after (rxAdvance_trafficKept ..) (hmore _)
      · exact hmore _
    · exact hmore _
  · exact .refl s

/-! ### The loss of a link (R177, R185, R380) -/

theorem dropEverywhere_trafficKept (f : Nat) (s : State) : TrafficKept s (dropEverywhere f s) :=
  .after (dropF_trafficKept ..) (.after (forwardLost_trafficKept ..) (.of_same ⟨rfl, rfl⟩))

theorem endEarly_trafficKept (g : Frame) (status : Nat) (s : State) : TrafficKept s (endEarly g status s) := by
  have hmirror (b : Bool) (h t : Frame) : TrafficKept s (doIf b (sendMirror h) (setF t s)) :=
    .after (.doIf (fun _ => sendMirror_trafficKept ..) ..) (.of_same ⟨rfl, rfl⟩)
  unfold endEarly
  dsimp only
  split
  · exact .after (rxMore_trafficKept ..) (.after (forwardLost_trafficKept ..) (hmirror ..))
  · exact .after (dropEverywhere_trafficKept ..) (hmirror ..)

theorem countChecks_trafficKept (g : Frame) (code : Bool) (s : State) : TrafficKept s (countChecks g code s) :=
  .after (.doIf (fun _ => bump_trafficKept ..) ..) (.after (.doIf (fun _ => bump_trafficKept ..) ..)
    (.doIf (fun _ => bump_trafficKept ..) ..))

theorem discardEnd_trafficKept (g : Frame) (s : State) : TrafficKept s (discardEnd g s) :=
  .after (forgetRx_trafficKept ..) (.ite (bump_trafficKept ..) (.ite (bump_trafficKept ..) (.refl s)))

theorem cutFrame_trafficKept (f : Nat) (s : State) : TrafficKept s (cutFrame f s) := by
  unfold cutFrame
  split
  · exact .refl s
  · next g _ =>
    have hrate : TrafficKept s (if 64 ≤ g.len then rateAdd g.port false g.len s else s) := by
      split <;> exact .of_same ⟨rfl, rfl⟩
    have hcount (t : State) :
        TrafficKept t (if g.len < 64 then bump (cPort g.port 2) t else countChecks g g.code (bump (cPort g.port 6) t)) := by
      split
      · exact bump_trafficKept ..
      · exact .after (countChecks_trafficKept ..) (bump_trafficKept ..)
    dsimp only
    generalize (if 64 ≤ g.len then rateAdd g.port false g.len s else s) = t at hrate ⊢
    refine .trans hrate ?_
    split
    · exact discardEnd_trafficKept ..
    split
    · exact .after (forgetRx_trafficKept ..) (hcount t)
    · exact .after (endEarly_trafficKept ..) (hcount t)

theorem pauseExpireAll_trafficKept (p : Nat) (s : State) : TrafficKept s (pauseExpireAll p s) :=
  .after (fs_trafficKept (by decide) ..) (.after (fs_trafficKept (by decide) ..) (.of_same ⟨rfl, rfl⟩))

theorem rxLinkDown_trafficKept (p : Nat) (s : State) : TrafficKept s (rxLinkDown p s) := by
  have hcur (c : Option Nat) (t : State) : TrafficKept t (match c with
      | some f => cutFrame f t
      | none => t) := by
    split
    · exact cutFrame_trafficKept ..
    · exact .refl t
  have hasm (c : Option (Nat × Nat × Nat)) (t : State) : TrafficKept t (match c with
      | some (f, _, _) => cutFrame f t
      | none => t) := by
    split
    · exact cutFrame_trafficKept ..
    · exact .refl t
  exact .after (pauseExpireAll_trafficKept ..) (.after (hasm _ _) (.after (hcur _ _) (.of_same ⟨rfl, rfl⟩)))

theorem mmDisable_trafficKept (p : Nat) (s : State) : TrafficKept s (mmDisable p s) :=
  .after (fs_trafficKept (by decide) ..) (.after (fs_trafficKept (by decide) ..) (.of_same ⟨rfl, rfl⟩))

theorem openDown_trafficKept (p : Nat) (s : State) : TrafficKept s (openDown p s) := by
  unfold openDown
  split
  · next c _ =>
    have hdrop (t : State) (h : t.regs = s.regs ∧ t.sv = s.sv) :
        TrafficKept s (rateAdd p true c.sent (setFlag (loc .MP_TX_EVENT p) F.MP_TX_EVENT_LINK_DROP t)) :=
      .after (rateAdd_trafficKept ..) (.after (setFlag_trafficKept (by decide) ..) (.of_same h))
    dsimp only
    split
    · exact .after (showTx_trafficKept ..) (.after (endTx_trafficKept ..) (hdrop _ ⟨rfl, rfl⟩))
    · exact .after (showTx_trafficKept ..) (hdrop _ ⟨rfl, rfl⟩)
  · exact .refl s

theorem txLinkDown_trafficKept (p : Nat) (s : State) : TrafficKept s (txLinkDown p s) := by
  unfold txLinkDown
  refine .after (mmDisable_trafficKept ..) (.after (showTx_trafficKept ..)
    (.after (setTx_trafficKept ..) (.after (openDown_trafficKept ..) ?_)))
  split
  · exact .after (cutTx_trafficKept ..) (.after (setFlag_trafficKept (by decide) ..) (.of_same ⟨rfl, rfl⟩))
  · exact .refl s

theorem txLinkUpNow_trafficKept (p : Nat) (s : State) : TrafficKept s (txLinkUpNow p s) := setTx_trafficKept ..

/-- A change of a port's link, with the frames it ends, writes no other register (R124). -/
theorem linkCheck_trafficKept (p : Nat) (s : State) : TrafficKept s (linkCheck p s) := by
  have hevent (c : Bool) (f : Fld) (t : State) : TrafficKept t (doIf c (setFlag (loc .MP_PCS_EVENT p) f) t) :=
    .doIf (fun _ => setFlag_trafficKept (by decide) ..) ..
  unfold linkCheck
  dsimp only
  split
  · exact .refl s
  split
  · exact .after (txLinkUpNow_trafficKept ..) (.after (hevent ..) (.of_same ⟨rfl, rfl⟩))
  · exact .after (txLinkDown_trafficKept ..) (.after (rxLinkDown_trafficKept ..) (.after (hevent ..)
      (.of_same ⟨rfl, rfl⟩)))

end Sys2Proof.Machine
end

section
/-!
PROOFS. The link state machine of a plain port (O16).
-/

namespace Sys2Proof.Machine

/-! ## The fields of MP_PCS_STATE -/

/-- The register of a port's link state machine. -/
def IsPcsState (a : Nat) : Prop := ∃ p, a = loc .MP_PCS_STATE p

/-- The register of each port's link state machine reads as before. -/
abbrev PcsKept : State → State → Prop := Kept IsPcsState

theorem pcsState_quiet (a : Nat) (ha : IsPcsState a) : Quiet a := by
  obtain ⟨p, rfl⟩ := ha
  exact quiet_of_off (loc_mod _ p) (by decide) (by decide)

theorem laneStatus_not_pcsState (n : Nat) : ¬ IsPcsState (loc .LN_STATUS n) :=
  fun ⟨p, e⟩ => loc_ne_of_off (n := .LN_STATUS) (by decide) n p e

theorem PcsKept.fg {s t : State} (h : PcsKept s t) (p : Nat) (f : Fld) :
    fg (loc .MP_PCS_STATE p) f t = fg (loc .MP_PCS_STATE p) f s := fg_congr f (h.regs _ ⟨p, rfl⟩)

/-- Of MP_PCS_STATE, a receive fault changes RX_FAULT. -/
theorem fg_setRxFault_beside {f : Fld} (p v : Nat) (s : State)
    (hf : f.hi < F.MP_PCS_STATE_RX_FAULT.lo ∨ F.MP_PCS_STATE_RX_FAULT.hi < f.lo) :
    fg (loc .MP_PCS_STATE p) f (setRxFault p v s) = fg (loc .MP_PCS_STATE p) f s := by
  have hevent (c : Bool) (t : State) :
      PcsKept t (doIf c (setFlag (loc .MP_PCS_EVENT p) F.MP_PCS_EVENT_REMOTE_FAULT) t) :=
    (Kept.doIf (fun _ => setFlag_trafficKept (by decide) ..) ..).mono pcsState_quiet
  exact ((hevent _ _).fg p f).trans (fg_fs_beside _ v s (by decide) (by decide) hf)

theorem pcsState_setPcs (p : Nat) {v : Nat} (s : State) (hv : v < 8) : pcsState p (setPcs p v s) = v :=
  (fg_fs_same _ _ _ (by decide) (by decide)).trans (Nat.mod_eq_of_lt hv)

/-- Of MP_PCS_STATE, a change of state changes STATE. -/
theorem fg_setPcs_beside {f : Fld} (p v : Nat) (s : State) (hf : F.MP_PCS_STATE_STATE.hi < f.lo) :
    fg (loc .MP_PCS_STATE p) f (setPcs p v s) = fg (loc .MP_PCS_STATE p) f s :=
  fg_fs_beside _ v s (by decide) (by decide) (.inr hf)

theorem pcsState_setRxFault (p v : Nat) (s : State) : pcsState p (setRxFault p v s) = pcsState p s :=
  fg_setRxFault_beside p v s (by decide)

/-! ## The states of the machine (R122, R123) -/

theorem pcsState_enterAlign (p : Nat) (s : State) : pcsState p (enterAlign p s) = 3 :=
  (pcsState_setRxFault p 1 _).trans
    ((fg_fs_beside _ _ _ (by decide) (by decide) (by decide)).trans (pcsState_setPcs p s (by decide)))

theorem setLn_pcsKept (f : Fld) (v n : Nat) (s : State) : PcsKept s (setLn f v n s) :=
  wr_kept (laneStatus_not_pcsState n) ..

theorem applyLane_pcsKept (n : Nat) (s : State) : PcsKept s (applyLane n s) := .of_same ⟨rfl, rfl⟩

theorem pcsState_enterTrain (p : Nat) (s : State) : pcsState p (enterTrain p s) = 2 := by
  have hlanes : PcsKept (setPcs p 2 s) (enterTrain p s) :=
    .forEach (fun _ _ => .after (setLn_pcsKept ..) (.after (setLn_pcsKept ..) (applyLane_pcsKept ..))) ..
  exact (hlanes.fg p _).trans (pcsState_setPcs p s (by decide))

/-- The link mode in force of a port: a bypass port without mode trains (R122). -/
def modeInForce (p : Nat) (s : State) : Nat :=
  if portBypass s.prof.cur p = true ∧ fg (loc .MP_PCS_CTRL p) F.MP_PCS_CTRL_LINK_MODE s = 0 then 1
  else fg (loc .MP_PCS_CTRL p) F.MP_PCS_CTRL_LINK_MODE s

/-- Bring-up ends in the state of the mode in force. -/
theorem bringUp_eq (p : Nat) (s : State) : ∃ t, bringUp p s =
    if modeInForce p s = 0 then setPcs p 1 t else if modeInForce p s = 1 then enterTrain p t
    else enterAlign p (forEach (portPhys p t) applyLane t) := ⟨_, rfl⟩

theorem pcsState_bringUp {p : Nat} {s : State} (hmode : fg (loc .MP_PCS_CTRL p) F.MP_PCS_CTRL_LINK_MODE s < 3) :
    pcsState p (bringUp p s) =
      if portBypass s.prof.cur p = true ∧ fg (loc .MP_PCS_CTRL p) F.MP_PCS_CTRL_LINK_MODE s = 0 then 2
      else fg (loc .MP_PCS_CTRL p) F.MP_PCS_CTRL_LINK_MODE s + 1 := by
  have hforce : modeInForce p s < 3 ∧ modeInForce p s + 1 =
      if portBypass s.prof.cur p = true ∧ fg (loc .MP_PCS_CTRL p) F.MP_PCS_CTRL_LINK_MODE s = 0 then 2
      else fg (loc .MP_PCS_CTRL p) F.MP_PCS_CTRL_LINK_MODE s + 1 := by
    unfold modeInForce
    split
    · exact ⟨by decide, rfl⟩
    · exact ⟨hmode, rfl⟩
  obtain ⟨hlt, hnext⟩ := hforce
  obtain ⟨t, ht⟩ := bringUp_eq p s
  rw [ht, ← hnext]
  split
  case isTrue h0 => rw [h0, pcsState_setPcs p t (by decide)]
  case isFalse h0 =>
    split
    case isTrue h1 => rw [h1, pcsState_enterTrain]
    case isFalse h1 =>
      rw [pcsState_enterAlign]
      omega

/-- A port that leaves UP, ALIGN or TRAIN shows the state it goes to, and the fields it has no part in. -/
theorem fg_unalign (p v : Nat) (s : State) :
    (v < 8 → pcsState p (unalign p v s) = v) ∧ fg (loc .MP_PCS_STATE p) F.MP_PCS_STATE_RETRIES (unalign p v s) =
      fg (loc .MP_PCS_STATE p) F.MP_PCS_STATE_RETRIES s := by
  have hlink : PcsKept _ (unalign p v s) := (linkCheck_trafficKept p (setRxFault p 1
    (fs (loc .MP_PCS_STATE p) F.MP_PCS_STATE_FEC_ON 0 (setPcs p v s)))).mono pcsState_quiet
  constructor
  · intro hv
    calc pcsState p (unalign p v s)
        = pcsState p (setRxFault p 1 (fs (loc .MP_PCS_STATE p) F.MP_PCS_STATE_FEC_ON 0 (setPcs p v s))) := hlink.fg p _
      _ = pcsState p (fs (loc .MP_PCS_STATE p) F.MP_PCS_STATE_FEC_ON 0 (setPcs p v s)) := pcsState_setRxFault ..
      _ = pcsState p (setPcs p v s) := fg_fs_beside _ _ _ (by decide) (by decide) (by decide)
      _ = v := pcsState_setPcs p s hv
  · calc fg (loc .MP_PCS_STATE p) F.MP_PCS_STATE_RETRIES (unalign p v s)
        = fg (loc .MP_PCS_STATE p) F.MP_PCS_STATE_RETRIES (fs (loc .MP_PCS_STATE p) F.MP_PCS_STATE_FEC_ON 0 (setPcs p v s)) :=
          (hlink.fg p _).trans (fg_setRxFault_beside p 1 _ (by decide))
      _ = fg (loc .MP_PCS_STATE p) F.MP_PCS_STATE_RETRIES (setPcs p v s) :=
          fg_fs_beside _ _ _ (by decide) (by decide) (by decide)
      _ = _ := fg_setPcs_beside p v s (by decide)

/-- RETRY counts the retries up to 255 (R123). -/
theorem toRetry_fields (p : Nat) (s : State) : pcsState p (toRetry p s) = 5 ∧
    fg (loc .MP_PCS_STATE p) F.MP_PCS_STATE_RETRIES (toRetry p s) =
      min 255 (fg (loc .MP_PCS_STATE p) F.MP_PCS_STATE_RETRIES s + 1) := by
  obtain ⟨hstate, hretries⟩ := fg_unalign p 5 (fs (loc .MP_PCS_STATE p) F.MP_PCS_STATE_RETRIES
    (min 255 (fg (loc .MP_PCS_STATE p) F.MP_PCS_STATE_RETRIES s + 1)) s)
  refine ⟨hstate (by decide), hretries.trans ((fg_fs_same _ _ _ (by decide) (by decide)).trans (Nat.mod_eq_of_lt ?_))⟩
  simp only [F.MP_PCS_STATE_RETRIES]
  omega

/-! ## The commands of the link state machine -/

/-- A fold is the same for functions that agree on its list. -/
theorem forEach_congr {α : Type} {f g : α → State → State} {l : List α} (h : ∀ a ∈ l, ∀ s, f a s = g a s) (s : State) :
    forEach l f s = forEach l g s := by
  induction l generalizing s with
  | nil => rfl
  | cons a l ih =>
    calc forEach (a :: l) f s = forEach l f (g a s) := congrArg (forEach l f) (h a List.mem_cons_self s)
      _ = forEach (a :: l) g s := ih (fun b hb => h b (List.mem_cons_of_mem a hb)) (g a s)

/-- A command that names a port by its low six bits. -/
theorem done_port {f : Nat → State → State} {p : Nat} {s t : State} (hp : p < 64) (h : f p s = t) :
    done (f (p % 64) s) = .next (settle t) := by
  rw [Nat.mod_eq_of_lt hp]
  exact done_eq h

theorem trainDone_eq {p : Nat} {es : List Nat} {bs : List Bool} {s : State} (hplain : isPlain p s = true)
    (hstate : pcsState p s = 2) (href : s.pins.refclk = true) (hes : es.length = (portPhys p s).length) :
    trainDone p es bs s = enterAlign p (forEach (List.range (portPhys p s).length)
      (fun i => laneTrained ((portPhys p s).getD i 0) (es.getD i 0) (bs.getD i false)) s) := by
  have hlane : ∀ i ∈ List.range (portPhys p s).length, ∀ d, es.getD i d = es.getD i 0 := by
    intro i hi d
    have hlt : i < es.length := by rw [hes]; exact List.mem_range.mp hi
    rw [List.getD_eq_getElem _ d hlt, List.getD_eq_getElem _ 0 hlt]
  refine (if_pos ⟨hplain, hstate, href⟩).trans (congrArg (enterAlign p) (forEach_congr (fun i hi t => ?_) s))
  dsimp only
  rw [hlane i hi]

/-- Settles O16. -/
theorem linkStateMachine : Obligations.LinkStateMachine := by
  refine ⟨?enable, ?bringUp, ?agreed, ?noCommon, ?trained, ?trainTimeout, ?lock, ?alignTimeout, ?loss, ?retry, ?expiry,
    ?disable⟩
  case enable =>
    intro p s hp hplain hstate hhold hsubst href hport hlanes
    exact done_port (f := portEnable) hp (if_pos ⟨hplain, hstate, hhold, hsubst, href, hport, hlanes⟩)
  case bringUp => exact fun p s _ hmode => pcsState_bringUp hmode
  case agreed => exact fun p s hp hplain hstate href => done_port (f := anAgreed) hp (if_pos ⟨hplain, hstate, href⟩)
  case noCommon =>
    exact fun p fec s hp hplain hstate => done_port (f := fun p => anNoCommon p fec) hp (if_pos ⟨hplain, hstate⟩)
  case trained =>
    exact fun p es bs s hp hplain hstate href hes _ => done_eq ((if_pos hp).trans (trainDone_eq hplain hstate href hes))
  case trainTimeout =>
    intro p mask s hp hplain hstate ⟨i, hi, hbit⟩
    have hbad : (List.range (portPhys p s).length).filter (bit mask) ≠ [] :=
      List.ne_nil_of_mem (List.mem_filter.mpr ⟨List.mem_range.mpr hi, hbit⟩)
    exact done_port (f := fun p => trainTimeout p mask) hp (if_pos ⟨hplain, hstate, hbad⟩)
  case lock =>
    rintro p skew t s hp hplain hstate href rfl
    refine done_eq ((if_pos hp).trans ((if_pos ⟨hplain, hstate, href⟩).trans ?_))
    by_cases hskew : skew ≤ 180000
    · exact (if_neg (Nat.not_lt.mpr hskew)).trans (if_pos hskew).symm
    · exact (if_pos (Nat.not_le.mp hskew)).trans (if_neg hskew).symm
  case alignTimeout => exact fun p s hp hplain hstate => done_port (f := alignTimeout) hp (if_pos ⟨hplain, hstate⟩)
  case loss =>
    exact fun p i what s hp hplain hstate hi hwhat =>
      done_eq ((if_pos hp).trans (if_pos ⟨hplain, hstate, hwhat, hi⟩))
  case retry => exact fun p s _ => toRetry_fields p s
  case expiry => exact fun p s hp hplain hstate href => done_port (f := retryExpiry) hp (if_pos ⟨hplain, hstate, href⟩)
  case disable => exact fun p s hp hplain hstate => done_port (f := portDisable) hp (if_pos ⟨hplain, hstate⟩)

end Sys2Proof.Machine
end

section
/-!
PROOFS. Faults, FEC windows, locks of the bypass format, recalibration and TEST (O17).
-/

namespace Sys2Proof.Machine

/-! ## Faults (R125) -/

theorem faultDeclare_plain {p : Nat} {s : State} (remote : Bool) (hplain : isPlain p s = true) (hup : pcsState p s = 4) :
    faultDeclare p remote s = linkCheck p (setRxFault p (if remote then 2 else 1) s) := if_pos ⟨hplain, hup⟩

theorem faultClear_plain {p : Nat} {s : State} (hplain : isPlain p s = true) (hup : pcsState p s = 4) :
    faultClear p s = linkCheck p (setRxFault p 0 s) := if_pos ⟨hplain, hup⟩

theorem faultDeclare_client {p : Nat} {s : State} (remote : Bool) (hplain : isPlain p s = false)
    (hclient : isClient p s = true) :
    faultDeclare p remote s = linkCheck p (setLink p { getLink p s with rs := if remote then 2 else 1 } s) := by
  simp [faultDeclare, hplain, hclient]

theorem faultClear_client {p : Nat} {s : State} (hplain : isPlain p s = false) (hclient : isClient p s = true) :
    faultClear p s = linkCheck p (setLink p { getLink p s with rs := 0 } s) := by
  simp [faultClear, hplain, hclient]

/-! ## FEC windows (R126, R418) -/

/-- Counting changes the counters, and of the registers PC_EVENT and PC_WRAP_LAST alone. -/
structure CountsOnly (s t : State) : Prop where
  phy : t.phy = s.phy
  regs : ∀ b, b ≠ loc .PC_EVENT → b ≠ loc .PC_WRAP_LAST → rd b t = rd b s

theorem CountsOnly.refl (s : State) : CountsOnly s s := ⟨rfl, fun _ _ _ => rfl⟩

theorem CountsOnly.trans {s t u : State} (h : CountsOnly s t) (k : CountsOnly t u) : CountsOnly s u :=
  ⟨k.phy.trans h.phy, fun b he hl => (k.regs b he hl).trans (h.regs b he hl)⟩

theorem bumpBy_countsOnly (i n : Nat) (s : State) : CountsOnly s (bumpBy i n s) := by
  unfold bumpBy
  split
  · exact .refl s
  dsimp only
  split
  · exact ⟨rfl, fun _ _ _ => rfl⟩
  · exact ⟨rfl, fun b he hl => (rd_fs_other _ b _ _ _ hl).trans (rd_setFlag_other _ b _ _ he)⟩

/-- The two FEC lanes of a physical lane count their corrected symbols. -/
def countSymbols (n : Nat) (x : Nat × Nat) (s : State) : State := bumpBy (cLane n 1) x.2 (bumpBy (cLane n 0) x.1 s)

theorem countSymbols_countsOnly (n : Nat) (x : Nat × Nat) (s : State) : CountsOnly s (countSymbols n x s) :=
  (bumpBy_countsOnly ..).trans (bumpBy_countsOnly ..)

/-- A window's counts: its codewords at the port, its symbols at the port's lanes. -/
def windowCounts (p corr uncorr : Nat) (xs : List (Nat × Nat)) (s : State) : State :=
  forEach (List.range (portPhys p s).length) (fun i => countSymbols ((portPhys p s).getD i 0) (xs.getD i (0, 0)))
    (bumpBy (cPort p 40) uncorr (bumpBy (cPort p 39) corr s))

theorem windowCounts_countsOnly (p corr uncorr : Nat) (xs : List (Nat × Nat)) (s : State) :
    CountsOnly s (windowCounts p corr uncorr xs s) :=
  ((bumpBy_countsOnly ..).trans (bumpBy_countsOnly ..)).trans
    (forEach_rel (R := CountsOnly) .refl (fun _ _ _ => .trans) (fun _ _ => countSymbols_countsOnly ..) _ _)

theorem foldl_symbols (xs : List (Nat × Nat)) (a : Nat) :
    xs.foldl (fun a x => a + x.1 + x.2) a = a + (xs.map (fun x => x.1 + x.2)).sum := by
  induction xs generalizing a with
  | nil => rfl
  | cons x xs ih => rw [List.foldl_cons, ih, List.map_cons, List.sum_cons]; omega

/-- The end of a FEC window of a plain port, its thresholds read before the counts. -/
theorem fecWindow_eq {p : Nat} {s : State} (corr uncorr : Nat) (xs : List (Nat × Nat)) (hplain : isPlain p s = true)
    (hon : fb (loc .MP_PCS_STATE p) F.MP_PCS_STATE_FEC_ON s = true) : fecWindow p corr uncorr xs s =
      if fb (loc .MP_PCS_CTRL p) F.MP_PCS_CTRL_FEC_DEG_EN s = false then windowCounts p corr uncorr xs s
      else if (getLink p s).fecDeg = false ∧
          64 * fg (loc .MP_FEC_DEG p) F.MP_FEC_DEG_SET s ≤ (xs.map (fun x => x.1 + x.2)).sum then
        setFlag (loc .MP_PCS_EVENT p) F.MP_PCS_EVENT_FEC_DEG_SET
          (setLink p { getLink p s with fecDeg := true } (windowCounts p corr uncorr xs s))
      else if (getLink p s).fecDeg = true ∧
          (xs.map (fun x => x.1 + x.2)).sum ≤ 64 * fg (loc .MP_FEC_DEG p) F.MP_FEC_DEG_CLR s then
        setFlag (loc .MP_PCS_EVENT p) F.MP_PCS_EVENT_FEC_DEG_CLR
          (setLink p { getLink p s with fecDeg := false } (windowCounts p corr uncorr xs s))
      else windowCounts p corr uncorr xs s := by
  obtain ⟨hphy, hregs⟩ := windowCounts_countsOnly p corr uncorr xs s
  have htotal : xs.foldl (fun a x => a + x.1 + x.2) 0 = (xs.map (fun x => x.1 + x.2)).sum := by
    rw [foldl_symbols, Nat.zero_add]
  have hlink : getLink p (windowCounts p corr uncorr xs s) = getLink p s := by rw [getLink, getLink, hphy]
  have hen : rd (loc .MP_PCS_CTRL p) (windowCounts p corr uncorr xs s) = rd (loc .MP_PCS_CTRL p) s :=
    hregs _ (loc_ne_of_off (by decide) _ _) (loc_ne_of_off (by decide) _ _)
  have hdeg : rd (loc .MP_FEC_DEG p) (windowCounts p corr uncorr xs s) = rd (loc .MP_FEC_DEG p) s :=
    hregs _ (loc_ne_of_off (by decide) _ _) (loc_ne_of_off (by decide) _ _)
  rw [← fb_congr F.MP_PCS_CTRL_FEC_DEG_EN hen, ← fg_congr F.MP_FEC_DEG_SET hdeg, ← fg_congr F.MP_FEC_DEG_CLR hdeg,
    ← hlink, ← htotal]
  exact if_pos ⟨hplain, hon⟩

theorem laneFec_eq {n : Nat} {s : State} (x : Nat × Nat) (hrole : laneRole n s = 3) (hbypass : laneBypass n s = false)
    (hlock : fb (loc .LN_STATUS n) F.LN_STATUS_AM_LOCK s = true) : laneFec n [x] s = countSymbols n x s :=
  if_pos ⟨hrole, hbypass, hlock⟩

/-! ## Locks of the bypass format (R120) -/

theorem laneLost_marker (n : Nat) (s : State) : laneLost n 8 s = fs (loc .LN_STATUS n) F.LN_STATUS_AM_LOCK 0 s := rfl

theorem bypassLoss_slotted {n : Nat} {s : State} (hbypass : laneBypass n s = true) (hplain : lanePlain n s = false)
    (hlock : fb (loc .LN_STATUS n) F.LN_STATUS_AM_LOCK s = true) :
    bypassLoss n s = fs (loc .LN_STATUS n) F.LN_STATUS_AM_LOCK 0 s := by
  simp [bypassLoss, hbypass, hlock, hplain, laneLost_marker]

theorem bypassLoss_plain {n p : Nat} {s : State} (hbypass : laneBypass n s = true) (hplain : lanePlain n s = true)
    (hport : lanePort (laneLogical n s) s = some p) (hlock : fb (loc .LN_STATUS n) F.LN_STATUS_AM_LOCK s = true)
    (hup : pcsState p s = 4) : bypassLoss n s = toRetry p (fs (loc .LN_STATUS n) F.LN_STATUS_AM_LOCK 0 s) := by
  have hkept : pcsState p (fs (loc .LN_STATUS n) F.LN_STATUS_AM_LOCK 0 s) = 4 :=
    ((setLn_pcsKept F.LN_STATUS_AM_LOCK 0 n s).fg p _).trans hup
  simp [bypassLoss, hbypass, hlock, hplain, hport, hkept, laneLost_marker]

theorem highBer_plain {n p : Nat} {s : State} (hbypass : laneBypass n s = true) (hplain : lanePlain n s = true)
    (hport : lanePort (laneLogical n s) s = some p) (hup : pcsState p s = 4) : highBer n s = toRetry p s := by
  simp [highBer, hbypass, hplain, hport, hup]

/-! ## Recalibration (R127, R128) -/

theorem recalRequest_idle {n : Nat} {s : State} (hp : fb (loc .LN_CAL n) F.LN_CAL_CAL_PENDING s = false)
    (hr : fb (loc .LN_CAL n) F.LN_CAL_CAL_RUN s = false) :
    recalRequest n s = recalStart n (fs (loc .LN_CAL n) F.LN_CAL_CAL_PENDING 1 s) := by
  simp [recalRequest, hp, hr]

/-- Requests merge into the recalibration that waits or runs. -/
theorem recalRequest_merged {n : Nat} {s : State} (h : fb (loc .LN_CAL n) F.LN_CAL_CAL_PENDING s = true ∨
    fb (loc .LN_CAL n) F.LN_CAL_CAL_RUN s = true) : recalRequest n s = s := by
  rcases h with h | h <;> simp [recalRequest, h]

theorem outOfReset_none {f : State → State} {s : State} (h : f s = s) : outOfReset f s = s := by
  unfold outOfReset
  split
  · rfl
  · exact h

/-- A command that names a lane. -/
theorem done_lane {f : Nat → State → State} {n : Nat} {s t : State} (hn : n < 18) (h : f n s = t) :
    done (f (n % 18) s) = .next (settle t) := by
  rw [Nat.mod_eq_of_lt hn]
  exact done_eq h

/-- The registers of a recalibration are none that the end of a command writes. -/
theorem cal_settles : ∀ n < 18, loc .LN_CAL n ∉ settleRegs ∧ loc .LN_EVENT n ∉ settleRegs := by decide

/-- LN_CAL at the end of a recalibration. -/
def calEnded (n temp : Nat) (s : State) : State :=
  fs (loc .LN_CAL n) F.LN_CAL_CAL_COUNT ((fg (loc .LN_CAL n) F.LN_CAL_CAL_COUNT s + 1) % 256)
    (fs (loc .LN_CAL n) F.LN_CAL_CAL_TEMP (temp % 256) (fs (loc .LN_CAL n) F.LN_CAL_CAL_RUN 0 s))

theorem calEnded_fields {n temp : Nat} (s : State) (ht : temp < 256) :
    fb (loc .LN_CAL n) F.LN_CAL_CAL_RUN (calEnded n temp s) = false ∧
    fg (loc .LN_CAL n) F.LN_CAL_CAL_TEMP (calEnded n temp s) = temp ∧
    fg (loc .LN_CAL n) F.LN_CAL_CAL_COUNT (calEnded n temp s) = (fg (loc .LN_CAL n) F.LN_CAL_CAL_COUNT s + 1) % 256 := by
  have hrun : fg (loc .LN_CAL n) F.LN_CAL_CAL_RUN (calEnded n temp s) = 0 :=
    (fg_fs_beside _ _ _ (by decide) (by decide) (by decide)).trans
      ((fg_fs_beside _ _ _ (by decide) (by decide) (by decide)).trans (fg_fs_same _ _ _ (by decide) (by decide)))
  have htemp : fg (loc .LN_CAL n) F.LN_CAL_CAL_TEMP (calEnded n temp s) = temp % 256 % 256 :=
    (fg_fs_beside _ _ _ (by decide) (by decide) (by decide)).trans (fg_fs_same _ _ _ (by decide) (by decide))
  have hcount : fg (loc .LN_CAL n) F.LN_CAL_CAL_COUNT (calEnded n temp s) =
      (fg (loc .LN_CAL n) F.LN_CAL_CAL_COUNT s + 1) % 256 % 256 := fg_fs_same _ _ _ (by decide) (by decide)
  refine ⟨by rw [fb, hrun]; rfl, ?_, ?_⟩ <;> omega

theorem recalDone_eq {n : Nat} {s : State} (temp : Nat) (hrun : fb (loc .LN_CAL n) F.LN_CAL_CAL_RUN s = true) :
    recalDone n temp s = bump (cLane n 6) (setFlag (loc .LN_EVENT n) F.LN_EVENT_CAL_DONE (calEnded n temp s)) := if_pos hrun

/-- After the end of a recalibration and of its command, LN_CAL shows the end and LN_EVENT its event. -/
theorem rd_recalDone {n : Nat} {s : State} (temp : Nat) (hn : n < 18) (hrun : fb (loc .LN_CAL n) F.LN_CAL_CAL_RUN s = true) :
    rd (loc .LN_CAL n) (settle (recalDone n temp s)) = rd (loc .LN_CAL n) (calEnded n temp s) ∧
    fb (loc .LN_EVENT n) F.LN_EVENT_CAL_DONE (settle (recalDone n temp s)) = true := by
  obtain ⟨hcal, hevent⟩ := cal_settles n hn
  have hsettle : Settling (setFlag (loc .LN_EVENT n) F.LN_EVENT_CAL_DONE (calEnded n temp s)) (settle (recalDone n temp s)) := by
    rw [recalDone_eq temp hrun]
    exact (bump_settling ..).trans (settle_settling _)
  constructor
  · exact (hsettle.regs _ hcal).trans (rd_setFlag_other _ _ _ _ (loc_ne_of_off (by decide) _ _))
  · rw [fb_congr _ (hsettle.regs _ hevent)]
    exact fb_setFlag_same _ _ rfl (by decide)

/-! ## Writes of the lane registers (R128, R131) -/

theorem writes_of_ctlWrite {c : Instr} {m : Master} {a d : Nat} {eff : State → Option State} {s t : State}
    (hc : exec c s = done (ctlWrite m a d eff s)) (heff : eff s = some t) : Writes c m a d s t := by
  intro hopen
  rw [hc]
  exact done_eq (ctlWrite_open hopen heff)

theorem exec_calReq (m : Master) {n : Nat} (d : W32) (s : State) (hn : n < 18) : exec (.calReq m n d) s =
    done (ctlWrite m (loc .LN_CAL n) d.toNat (fun t => some (writeCal n d.toNat t)) s) := by
  calc exec (.calReq m n d) s = execCalReq m n d s := rfl
    _ = _ := by rw [execCalReq, Nat.mod_eq_of_lt hn]

theorem exec_laneTestWrite (m : Master) {n : Nat} (d : W32) (s : State) (hn : n < 18) : exec (.laneTestWrite m n d) s =
    done (ctlWrite m (loc .LN_CTRL n) d.toNat (writeLnCtrl n d.toNat) s) := by
  calc exec (.laneTestWrite m n d) s = execLaneTestWrite m n d s := rfl
    _ = _ := by rw [execLaneTestWrite, Nat.mod_eq_of_lt hn]

theorem laneRole_laneStored (k n : Nat) (s : State) : laneRole k (laneStored n s) = laneRole k s :=
  fg_congr _ (rd_congr _ (laneStored_regs n s))

theorem laneRole_setRole (n : Nat) {r : Nat} (s : State) (hr : r < 8) : laneRole n (setRole n r s) = r :=
  (fg_fs_same _ _ _ (by decide) (by decide)).trans (Nat.mod_eq_of_lt hr)

/-- A lane that is no spare is not put to rest. -/
theorem spareRest_other {n : Nat} {s : State} (h : laneRole n s ≠ 1) : spareRest n s = s := if_neg fun k => h k.1

/-- TEST = 1 takes an unused or spare lane to TEST, its role remembered. -/
theorem writeLnCtrl_test {n d : Nat} {s : State} (htest : bit d 1 = true) (hrole : laneRole n s = 0 ∨ laneRole n s = 1) :
    writeLnCtrl n d s = some (laneStored n (setRole n 5 (setLane n { getLane n s with prior := laneRole n s }
      (wr (loc .LN_CTRL n) (d &&& 0xFFFE) s)))) := by
  have hmay : ¬ (bit d 1 = true ∧ laneRole n s ≠ 0 ∧ laneRole n s ≠ 1) := fun h => hrole.elim h.2.1 h.2.2
  have hrest (t : State) : spareRest n (laneStored n (setRole n 5 t)) = laneStored n (setRole n 5 t) :=
    spareRest_other (by rw [laneRole_laneStored, laneRole_setRole n t (by decide)]; decide)
  rw [writeLnCtrl]
  dsimp only
  rw [if_neg hmay, if_pos htest, hrest]
  rfl

/-- Settles O17. -/
theorem laneAndLinkEvents : Obligations.LaneAndLinkEvents := by
  refine ⟨?declare, ?clear, ?client, ?window, ?slottedWindow, ?lock, ?slottedLoss, ?plainLoss, ?ber, ?timer, ?merged,
    ?thermal, ?request, ?ends, ?test⟩
  case declare =>
    exact fun p remote s hp hplain hup =>
      done_port (f := fun p => faultDeclare p remote) hp (faultDeclare_plain remote hplain hup)
  case clear => exact fun p s hp hplain hup => done_port (f := faultClear) hp (faultClear_plain hplain hup)
  case client =>
    exact fun p remote s hp hplain hclient =>
      ⟨done_port (f := fun p => faultDeclare p remote) hp (faultDeclare_client remote hplain hclient),
        done_port (f := faultClear) hp (faultClear_client hplain hclient)⟩
  case window =>
    rintro p corr uncorr xs t s hp hplain hon - rfl
    exact done_eq ((if_pos hp).trans (fecWindow_eq corr uncorr xs hplain hon))
  case slottedWindow =>
    intro n corr uncorr x y s hn hrole hbypass hlock
    have hlane : (64 + n) % 64 % 18 = n := by omega
    refine done_eq ((if_neg (by omega)).trans ?_)
    rw [hlane]
    exact laneFec_eq (x, y) hrole hbypass hlock
  case lock => exact fun n s hn hbypass => done_lane (f := bypassLock) hn (if_pos hbypass)
  case slottedLoss =>
    exact fun n s hn hbypass hplain hlock => done_lane (f := bypassLoss) hn (bypassLoss_slotted hbypass hplain hlock)
  case plainLoss =>
    exact fun n p s hn hbypass hplain hport hlock hup =>
      done_lane (f := bypassLoss) hn (bypassLoss_plain hbypass hplain hport hlock hup)
  case ber =>
    exact fun n p s hn hbypass hplain hport hup => done_lane (f := highBer) hn (highBer_plain hbypass hplain hport hup)
  case timer =>
    intro n s hn hres hauto hpend hrun
    refine done_lane (f := fun n => outOfReset (recalTimer n)) hn ((outOfReset_running _ hres).trans ?_)
    exact (if_pos hauto).trans (recalRequest_idle hpend hrun)
  case merged =>
    intro n s hn h
    have hsame : recalTimer n s = s := by rw [recalTimer, recalRequest_merged h, ite_self]
    exact done_lane (f := fun n => outOfReset (recalTimer n)) hn (outOfReset_none hsame)
  case thermal =>
    intro n temp s hn hres hauto hpend hrun
    refine done_lane (f := fun n => outOfReset (recalThermal n temp)) hn ((outOfReset_running _ hres).trans ?_)
    simp [recalThermal, hauto, recalRequest_idle hpend hrun]
  case request =>
    intro m n d s hn hreq hpend hrun
    exact writes_of_ctlWrite (exec_calReq m d s hn)
      (congrArg some ((if_pos hreq).trans (recalRequest_idle hpend hrun)))
  case ends =>
    intro n temp s hn ht hrun
    obtain ⟨hcal, hevent⟩ := rd_recalDone temp hn hrun
    obtain ⟨hstopped, htemp, hcount⟩ := calEnded_fields (n := n) s ht
    exact ⟨_, done_lane (f := fun n => recalDone n temp) hn rfl, (fb_congr _ hcal).trans hstopped,
      (fg_congr _ hcal).trans htemp, (fg_congr _ hcal).trans hcount, hevent⟩
  case test =>
    intro m n d s hn htest hrole
    have hrole' : laneRole n s = 0 ∨ laneRole n s = 1 := by simpa using hrole
    exact writes_of_ctlWrite (exec_laneTestWrite m d s hn) (writeLnCtrl_test htest hrole')

end Sys2Proof.Machine
end

section
/-!
PROOFS. Maps, repairs and substitutions: what a write or an event of the wear unit does, case by case (O15).
-/

namespace Sys2Proof.Machine

/-! ## The channel map and a port move (R317, R479) -/

/-- A channel's field of a written map word. -/
theorem chanMap_written {w j : Nat} (d : W32) (s : State) (hj : j < 16) :
    chanMap (16 * w + j) (wr (loc .HP_CHMAP 0 w) d.toNat s) = bits d.toNat (2 * j + 1) (2 * j) := by
  have hw : (16 * w + j) / 16 = w := by omega
  have hr : (16 * w + j) % 16 = j := by omega
  have hd : d.toNat % 2 ^ 32 = d.toNat := Nat.mod_eq_of_lt d.isLt
  simp only [chanMap, hw, hr, rd_wr_same, hd]

/-- The word maps a channel of the running move back to the worn port. -/
def givesBack (w : Nat) (d : W32) (o sp : Nat) (s : State) : Prop :=
  ∃ j, j < 16 ∧ chanMap (16 * w + j) s = sp ∧ bits d.toNat (2 * j + 1) (2 * j) = o

theorem givesBack_iff {w : Nat} {d : W32} {o sp : Nat} {s : State} : givesBack w d o sp s ↔
    (List.range 16).any (fun j => chanMap (16 * w + j) s == sp &&
      chanMap (16 * w + j) (wr (loc .HP_CHMAP 0 w) d.toNat s) == o) = true := by
  simp only [List.any_eq_true, List.mem_range, Bool.and_eq_true, beq_iff_eq, givesBack]
  constructor
  · intro ⟨j, hj, hsp, ho⟩
    exact ⟨j, hj, hsp, (chanMap_written d s hj).trans ho⟩
  · intro ⟨j, hj, hsp, ho⟩
    exact ⟨j, hj, hsp, (chanMap_written d s hj).symm.trans ho⟩

theorem writeChmap_kept {w : Nat} {d : W32} {s : State}
    (h : ∀ o sp, s.sv.hmp = some (o, sp) → ¬ givesBack w d o sp s) :
    writeChmap w d.toNat s = wr (loc .HP_CHMAP 0 w) d.toNat s := by
  unfold writeChmap
  split
  · next o sp hmp => exact if_neg fun hany => h o sp hmp (givesBack_iff.mpr hany)
  · rfl

theorem exec_chmapWrite (m : Master) {w : Nat} (d : W32) (s : State) (hw : w < 4) : exec (.chmapWrite m w d) s =
    done (ctlWrite m (loc .HP_CHMAP 0 w) d.toNat (fun t => some (writeChmap w d.toNat t)) s) := by
  calc exec (.chmapWrite m w d) s = execChmapWrite m w d s := rfl
    _ = _ := by rw [execChmapWrite, Nat.mod_eq_of_lt hw]

/-- A channel with no request outstanding shows the port of its map. -/
theorem chmapEffect_idle {n : Nat} {s : State} (hmp : s.sv.hmp = none) (hout : teOut n s = []) :
    chmapEffect n s = fs (teLoc .TE_STATE n) F.TE_STATE_PORT (chanMap n s) s := by
  simp [chmapEffect, chmapTake, hmp, hout]

theorem chmapEffect_busy {n : Nat} {s : State} (hmp : s.sv.hmp = none) (hout : teOut n s ≠ []) : chmapEffect n s = s := by
  simp [chmapEffect, chmapTake, hmp, hout]

/-- The moving channel, once quiet, takes the spare port, and the next channel moves. -/
theorem chmapEffect_moving {n o sp : Nat} {s : State} (hmp : s.sv.hmp = some (o, sp)) (hchan : s.sv.hmpChan = some n)
    (hquiet : hmpQuiet n s = true) (hmap : chanMap n s = o) :
    chmapEffect n s = hmpNext (hmpRelease n (chmapTake n (putChmap n sp s))) := by
  simp [chmapEffect, hmp, hchan, hquiet, hmap]

theorem hmpTimeout_eq {n : Nat} {s : State} (hchan : s.sv.hmpChan = some n) :
    hmpTimeout s = hmpNext (hmpRelease n (setSv { s.sv with hmpKept := s.sv.hmpKept ++ [n] } s)) := by
  simp [hmpTimeout, hchan]

/-- A command that names a channel. -/
theorem done_chan {f : Nat → State → State} {n : Nat} {s t : State} (hn : n < 64) (h : f n s = t) :
    done (f (n % 64) s) = .next (settle t) := by
  rw [Nat.mod_eq_of_lt hn]
  exact done_eq h

/-! ## The lane map and the repairs (R476, R477, R480) -/

theorem exec_lmapWrite (m : Master) {w : Nat} (d : W32) (s : State) (hw : w < 5) : exec (.lmapWrite m w d) s =
    done (ctlWrite m (lmapLoc w) d.toNat (writeLmap w d.toNat) s) := by
  calc exec (.lmapWrite m w d) s = execLmapWrite m w d s := rfl
    _ = _ := by rw [execLmapWrite, Nat.mod_eq_of_lt hw]

theorem writeLmap_retired {data : Nat} {s : State} (hrel : fb (loc .BT_STATUS) F.BT_STATUS_RELEASED s = false)
    (hbad : lmapBad (fs (loc .SV_RETIRED) F.SV_RETIRED_RETIRED (data % 2 ^ 18) s) = false) :
    writeLmap 4 data s = some (fs (loc .SV_RETIRED) F.SV_RETIRED_RETIRED (data % 2 ^ 18) s) :=
  if_neg (not_or.mpr ⟨ne_true_of_eq_false hrel, ne_true_of_eq_false hbad⟩)

theorem writeLmap_lanes {w data : Nat} {s : State} (hw : w < 4)
    (hrel : fb (loc .BT_STATUS) F.BT_STATUS_RELEASED s = false)
    (hbad : lmapBad (forEach (List.range (if w = 3 then 3 else 5))
      (fun j t => mapLane (5 * w + j) (bits data (6 * j + 4) (6 * j)) t) s) = false) :
    writeLmap w data s = some (forEach (List.range (if w = 3 then 3 else 5))
      (fun j t => mapLane (5 * w + j) (bits data (6 * j + 4) (6 * j)) t) s) := by
  have hne : w ≠ 4 := by omega
  simp [writeLmap, hne, hrel, hbad]

/-- The state in which a write of SV_REPAIR_CMD acts: INDEX is stored. -/
def repairIndexed (data : Nat) (s : State) : State := fs (loc .SV_REPAIR_CMD) F.SV_REPAIR_CMD_INDEX (data % 1024) s

theorem writeRepair_apply {data : Nat} {s t : State} (hbusy : fb (loc .SV_REPAIR_CMD) F.SV_REPAIR_CMD_BUSY s = false)
    (happly : bit data 31 = true) (hread : bit data 30 = false)
    (hstart : repairStart (rd (loc .SV_REPAIR_DATA) (repairIndexed data s)) true (repairIndexed data s) = some t) :
    writeRepair data s =
      some (fs (loc .SV_REPAIR_CMD) F.SV_REPAIR_CMD_FAIL 0 (fs (loc .SV_REPAIR_CMD) F.SV_REPAIR_CMD_BUSY 1 t)) := by
  unfold repairIndexed at hstart
  simp [writeRepair, hbusy, happly, hread, hstart]

theorem writeRepair_noSpare {data : Nat} {s : State} (hbusy : fb (loc .SV_REPAIR_CMD) F.SV_REPAIR_CMD_BUSY s = false)
    (happly : bit data 31 = true) (hread : bit data 30 = false)
    (hstart : repairStart (rd (loc .SV_REPAIR_DATA) (repairIndexed data s)) true (repairIndexed data s) = none) :
    writeRepair data s = some (fs (loc .SV_REPAIR_CMD) F.SV_REPAIR_CMD_FAIL 1 (repairIndexed data s)) := by
  unfold repairIndexed at hstart ⊢
  simp [writeRepair, hbusy, happly, hread, hstart]

theorem writeRepair_read {data : Nat} {s : State} (hbusy : fb (loc .SV_REPAIR_CMD) F.SV_REPAIR_CMD_BUSY s = false)
    (happly : bit data 31 = false) (hread : bit data 30 = true) :
    writeRepair data s = some (wr (loc .SV_REPAIR_DATA) (s.sv.fixed.getD (data % 1024) 0) (repairIndexed data s)) := by
  have hsv : (repairIndexed data s).sv = s.sv := rfl
  simp only [writeRepair, hbusy, happly, hread, Bool.false_eq_true, ↓reduceIte]
  rw [← hsv]
  rfl

/-! ## Substitutions of lanes and engines (R129, R221, R475) -/

/-- A step before the last: its effect is taken, and the next step begins. -/
theorem substStep_next {n : Nat} {x : Subst} {s : State} (hx : substOf n s = some x) (hpower : x.power = false)
    (hbegun : x.begun = true) (hwaits : substWaits x s = false) (href : x.step = 0 → s.pins.refclk = true)
    (hswitch : x.slotted = true → x.step = 3 → substSwitched x s = (true, true)) (hstep : x.step < 4)
    (hpark : (substEffect x s).1.parked = false) :
    substStep n s = substBegin { (substEffect x s).1 with step := x.step + 1, begun := false }
      (setSubst { (substEffect x s).1 with step := x.step + 1, begun := false } (substEffect x s).2) := by
  have hclock : ¬ (x.step = 0 ∧ s.pins.refclk = false) := fun ⟨h0, hoff⟩ => by simp [href h0] at hoff
  have hended : ¬ (x.slotted = true ∧ x.step = 3 ∧ (substSwitched x s).1 = false) := fun ⟨hs, h3, hf⟩ => by
    simp [hswitch hs h3] at hf
  have hok : ¬ (x.slotted = true ∧ x.step = 3 ∧ (substSwitched x s).2 = false) := fun ⟨hs, h3, hf⟩ => by
    simp [hswitch hs h3] at hf
  have hlast : x.step ≠ 4 := by omega
  unfold substStep
  rw [hx]
  dsimp only
  rw [if_neg (by simp [hpower, hbegun]), if_neg (by simp [hwaits, hclock]), if_neg hended, if_neg hok, if_neg hlast,
    hpark]
  rfl

theorem substDone_waits {cl : Nat} {x : EngSub} {s : State} (hx : s.dp.subst.find? (fun y => y.cluster == cl) = some x)
    (hctx : ∃ c, c ∈ s.dp.ctxs ∧ ctxCluster c.id = cl ∧ ctxEngine c.id = x.engine) : substDone cl s = s := by
  have hany : s.dp.ctxs.any (fun c => ctxCluster c.id == cl && ctxEngine c.id == x.engine) = true := by
    obtain ⟨c, hc, hcl, he⟩ := hctx
    exact List.any_eq_true.mpr ⟨c, hc, by simp [hcl, he]⟩
  unfold substDone
  rw [hx]
  exact if_pos hany

theorem engineDone_waits {cl : Nat} {x : EngSub} {s : State} (hx : s.dp.subst.find? (fun y => y.cluster == cl) = some x)
    (hctx : ∃ c, c ∈ s.dp.ctxs ∧ ctxCluster c.id = cl ∧ ctxEngine c.id = x.engine) (hbusy : substBusy cl s = true) :
    engineDone cl s = s := by
  unfold engineDone
  rw [substDone_waits hx hctx]
  exact if_pos hbusy

theorem exec_engineFault {cl e : Nat} {s : State} (hcl : cl < 24) (he : e < 17) (hres : inReset s = false) :
    exec (.engineFault cl e) s = .next (settle (engineFaulted cl e s)) := by
  calc exec (.engineFault cl e) s = execEngineFault cl e s := rfl
    _ = .next (settle (engineFaulted cl e s)) := by
      rw [execEngineFault, Nat.mod_eq_of_lt hcl, Nat.mod_eq_of_lt he, outOfReset_running _ hres]
      rfl

theorem engineFaulted_spare {cl e : Nat} {s : State} (hbusy : substBusy cl s = false) (hspare : spareEng cl s ≠ 0x1F) :
    engineFaulted cl e s = svLast 2 3 outRunning (17 * cl + e)
      (setFlag (loc .SV_EVENT) F.SV_EVENT_SUBST_START
        (setSv { (engineFault cl e s).sv with engActs := (engineFault cl e s).sv.engActs ++ [(17 * cl + e, 3)] }
          (engineFault cl e s))) := if_pos ⟨hbusy, hspare⟩

theorem engineFaulted_noSpare {cl e : Nat} {s : State} (h : substBusy cl s = true ∨ spareEng cl s = 0x1F) :
    engineFaulted cl e s = svLast 2 3 outNoSpare (17 * cl + e) (engineFault cl e s) := by
  refine if_neg fun ⟨hbusy, hspare⟩ => ?_
  rcases h with h | h
  · simp [hbusy] at h
  · exact hspare h

end Sys2Proof.Machine
end

section
/-!
PROOFS. What the transfer engine does when a hold ends, and the end of a port move (O15).
-/

namespace Sys2Proof.Machine

/-! ## What a transfer engine's channel leaves alone when a hold ends (R331, R339) -/

/-- The address lies on no page of a transfer engine's channels. -/
def OutsideTe (a : Nat) : Prop := a < 0xC0000 ∨ 0xD0000 ≤ a

/-- The registers outside the transfer engine read as before. -/
abbrev TeKept : State → State → Prop := Kept OutsideTe

theorem teLoc_inside : ∀ n < 64, ∀ r ∈ [RegName.TE_STATE, .TE_PROG_ELEM, .TE_PROG_SRC, .TE_PROG_DST],
    ¬ OutsideTe (teLoc r n) := by
  unfold OutsideTe
  decide

theorem Kept.forEach_mem {K : Nat → Prop} {α : Type} {f : α → State → State} {l : List α}
    (hf : ∀ a ∈ l, ∀ s, Kept K s (f a s)) (s : State) : Kept K s (Machine.forEach l f s) := by
  induction l generalizing s with
  | nil => exact .refl s
  | cons a l ih => exact (hf a List.mem_cons_self s).trans (ih (fun b hb => hf b (List.mem_cons_of_mem a hb)) _)

theorem access_teKept (a : Acc) (s : State) : TeKept s (access a s) := .of_same ⟨rfl, rfl⟩

theorem setTe_teKept (n : Nat) (v : Te) (s : State) : TeKept s (setTe n v s) := .of_same ⟨rfl, rfl⟩

theorem teIssueReads_teKept (n k : Nat) (s : State) : TeKept s (teIssueReads n k s) := by
  induction k generalizing s with
  | zero => exact .refl s
  | succ k ih =>
    unfold teIssueReads
    dsimp only
    split
    · exact .ite (.refl s) (.after (ih _) (.after (access_teKept ..) (setTe_teKept ..)))
    · exact .refl s

theorem teIssueWrites_teKept (n k : Nat) (s : State) : TeKept s (teIssueWrites n k s) := by
  induction k generalizing s with
  | zero => exact .refl s
  | succ k ih =>
    unfold teIssueWrites
    dsimp only
    split
    · exact .ite (.refl s) (.after (ih _) (.after (access_teKept ..) (setTe_teKept ..)))
    · exact .refl s

theorem teStatusWrite_teKept (n : Nat) (s : State) : TeKept s (teStatusWrite n s) :=
  .ite (.refl s) (.ite (.refl s) (access_teKept ..))

theorem teFinish_teKept (n status : Nat) (side : Bool) (s : State) : TeKept s (teFinish n status side s) :=
  .after (teStatusWrite_teKept ..) (setTe_teKept ..)

theorem tePump_teKept (n : Nat) (s : State) : TeKept s (tePump n s) := by
  have hburst (k j : Nat) : TeKept s (teIssueWrites n k (teIssueReads n j (teIssueWrites n k (teIssueReads n j s)))) :=
    .after (teIssueWrites_teKept ..) (.after (teIssueReads_teKept ..) (.after (teIssueWrites_teKept ..)
      (teIssueReads_teKept ..)))
  exact .ite (.refl s) (.ite (.ite (teFinish_teKept ..) (.refl s)) (.ite (.refl s)
    (.ite (.ite (.after (teFinish_teKept ..) (hburst ..)) (hburst ..)) (.ite (teIssueWrites_teKept ..) (.refl s)))))

theorem teReadList_teKept (n : Nat) (dst : Bool) (s : State) : TeKept s (teReadList n dst s) :=
  .after (.forEach (fun _ _ => access_teKept ..) ..) (setTe_teKept ..)

theorem teData_teKept (n : Nat) (src dst : Bytes) (s : State) : TeKept s (teData n src dst s) :=
  .ite (teFinish_teKept ..) (.after (tePump_teKept ..) (setTe_teKept ..))

theorem teLists_teKept (n : Nat) (s : State) : TeKept s (teLists n s) :=
  .ite (teReadList_teKept ..) (.ite (teReadList_teKept ..) (teData_teKept ..))

theorem teScanNext_teKept (n : Nat) (s : State) : TeKept s (teScanNext n s) :=
  .ite (setTe_teKept ..) (.ite (setTe_teKept ..) (.after (access_teKept ..) (setTe_teKept ..)))

theorem teScanMore_teKept (n : Nat) (s : State) : TeKept s (teScanMore n s) :=
  .ite (.refl s) (.ite (.after (.ite (setTe_teKept ..) (teScanNext_teKept ..)) (setTe_teKept ..))
    (.ite (teScanNext_teKept ..) (.refl s)))

theorem teTakeFence_teKept (d : Bytes) (s : State) : TeKept s (teTakeFence d s).2 := by
  unfold teTakeFence
  split
  · exact .of_same ⟨rfl, rfl⟩
  · exact .refl s

section
variable {n : Nat} (hn : n < 64)
include hn

theorem setTeState_teKept (v : Nat) (s : State) : TeKept s (setTeState n v s) :=
  wr_kept (teLoc_inside n hn _ (by decide)) ..

theorem setHoldBit_teKept (f : Fld) (v : Bool) (s : State) : TeKept s (setHoldBit n f v s) :=
  wr_kept (teLoc_inside n hn _ (by decide)) ..

theorem clearProg_teKept (s : State) : TeKept s (clearProg n s) :=
  .after (wr_kept (teLoc_inside n hn _ (by decide)) ..) (.after (wr_kept (teLoc_inside n hn _ (by decide)) ..)
    (wr_kept (teLoc_inside n hn _ (by decide)) ..))

theorem teStart_teKept (s : State) : TeKept s (teStart n s) := by
  unfold teStart
  dsimp only
  split
  · exact .refl s
  split
  · exact .ite (.refl s) (setTeState_teKept hn ..)
  · next d _ _ =>
    have hbegun (v : Te) : TeKept s (setTeState n 2 (setTe n v (teTakeFence d s).2)) :=
      .after (setTeState_teKept hn ..) (.after (setTe_teKept ..) (teTakeFence_teKept d s))
    exact .ite (.after (teFinish_teKept ..) (hbegun _)) (.after (teLists_teKept ..) (hbegun _))

theorem teResume_teKept (s : State) : TeKept s (teResume n s) := by
  have hstate (v : Nat) (w : Te) : TeKept s (setTeState n v (clearProg n (setTe n w s))) :=
    .after (setTeState_teKept hn ..) (.after (clearProg_teKept hn _) (setTe_teKept ..))
  unfold teResume
  dsimp only
  split
  · exact .refl s
  split
  · exact .after (teScanMore_teKept ..) (.after (teStart_teKept hn _) (hstate ..))
  · exact .after (teScanMore_teKept ..) (.after (teLists_teKept ..) (hstate ..))
  · exact .after (teScanMore_teKept ..) (.after (tePump_teKept ..) (hstate ..))
  · exact .after (teScanMore_teKept ..) (hstate ..)

theorem teUnhold_teKept (f : Fld) (s : State) : TeKept s (teUnhold n f s) :=
  .after (teResume_teKept hn _) (setHoldBit_teKept hn ..)

end

/-- The end of a power hold concerns the transfer engine alone. -/
theorem powerUnhold_teKept (c : Nat) (s : State) : TeKept s (powerUnhold c s) := by
  refine .forEach_mem (fun n hn t => ?_) s
  have hlt : n < 64 := List.mem_range.mp (List.mem_filter.mp hn).1
  exact .ite (.after (teUnhold_teKept hlt ..) (setTe_teKept ..)) (setTe_teKept ..)

/-! ## The end of a port move (R479) -/

/-- What ends a channel's move writes no register but those of traffic and of the transfer engine. -/
theorem hmpRelease_kept (n : Nat) (s : State) :
    Kept (fun a => Quiet a ∧ OutsideTe a) (setSv { s.sv with hmpChan := none } s) (hmpRelease n s) :=
  .ite ((powerUnhold_teKept ..).mono fun _ h => h.2)
    ((Kept.forEach (fun q t => rxKick_trafficKept q t) ..).mono fun _ h => h.1)

@[simp] theorem svLast_sv (kind cause outcome obj : Nat) (s : State) : (svLast kind cause outcome obj s).sv = s.sv := wr_sv ..

@[simp] theorem setFlag_sv (a : Nat) (f : Fld) (s : State) : (setFlag a f s).sv = s.sv := wr_sv ..

/-- SV_LAST shows the kind and the outcome of the last action. -/
theorem svLast_fields {kind cause outcome obj : Nat} (s : State) (hkind : kind < 16) (hcause : cause < 4)
    (hout : outcome < 4) : fg (loc .SV_LAST) F.SV_LAST_KIND (svLast kind cause outcome obj s) = kind ∧
      fg (loc .SV_LAST) F.SV_LAST_OUTCOME (svLast kind cause outcome obj s) = outcome := by
  have hobj : obj % 2 ^ 17 < 2 ^ 17 := Nat.mod_lt _ (by decide)
  simp only [fg, svLast, rd_wr_same, bits, F.SV_LAST_KIND, F.SV_LAST_OUTCOME]
  generalize obj % 2 ^ 17 = o at hobj ⊢
  omega

/-- The state of an aborted move before its channel is released. -/
def moveAborted (w : Nat) (d : W32) (o : Nat) (s : State) : State :=
  setFlag (loc .SV_EVENT) F.SV_EVENT_SUBST_DONE (svLast 5 0 outAborted (0x40 + o)
    (setSv { s.sv with hmp := none, hmpKept := [] } (wr (loc .HP_CHMAP 0 w) d.toNat s)))

theorem writeChmap_back {w o sp : Nat} {d : W32} {s : State} (hmp : s.sv.hmp = some (o, sp)) (hback : givesBack w d o sp s) :
    writeChmap w d.toNat s =
      (s.sv.hmpChan).elim (moveAborted w d o s) (fun n => hmpRelease n (moveAborted w d o s)) := by
  have hany := givesBack_iff.mp hback
  unfold writeChmap
  rw [hmp]
  dsimp only
  rw [if_pos hany]
  cases hchan : s.sv.hmpChan with
  | none => simp [moveAborted, hchan, svLast, setFlag, setFlags, wr, setSv]
  | some n => simp [moveAborted, hchan, svLast, setFlag, setFlags, wr, setSv]

/-- The map words and the registers of the outcome are none that the release writes. -/
theorem moveRegs_kept : ∀ w < 4, ∀ a ∈ [loc .HP_CHMAP 0 w, loc .SV_EVENT, loc .SV_LAST], Quiet a ∧ OutsideTe a := by
  have hreg : ∀ w < 4, ∀ a ∈ [loc .HP_CHMAP 0 w, loc .SV_EVENT, loc .SV_LAST], a ∉ trafficRegs ∧
      (∀ n ∈ trafficRows, a % 4096 ≠ n.row.off % 4096 ∨ a < n.kind.first * 4096) ∧ (a < 0xC0000 ∨ 0xD0000 ≤ a) := by
    decide
  intro w hw a ha
  obtain ⟨htraffic, hrow, hte⟩ := hreg w hw a ha
  exact ⟨quiet_of htraffic hrow, hte⟩

/-- The write that gives a channel back ends in the aborted move, its channel released. -/
theorem writeChmap_kept_moveAborted {w o sp : Nat} {d : W32} {s : State} (hmp : s.sv.hmp = some (o, sp))
    (hback : givesBack w d o sp s) : (writeChmap w d.toNat s).sv = { (moveAborted w d o s).sv with hmpChan := none } ∧
      ∀ a, Quiet a ∧ OutsideTe a → rd a (writeChmap w d.toNat s) = rd a (moveAborted w d o s) := by
  rw [writeChmap_back hmp hback]
  cases hchan : s.sv.hmpChan with
  | none =>
    have hnone : (moveAborted w d o s).sv.hmpChan = none := hchan
    exact ⟨by rw [Option.elim_none, ← hnone], fun _ _ => rfl⟩
  | some n =>
    obtain ⟨hregs, hsv⟩ := hmpRelease_kept n (moveAborted w d o s)
    exact ⟨hsv, hregs⟩

theorem moveAborted_regs {w : Nat} (d : W32) (o : Nat) (s : State) (hw : w < 4) :
    rd (loc .HP_CHMAP 0 w) (moveAborted w d o s) = d.toNat ∧
    fb (loc .SV_EVENT) F.SV_EVENT_SUBST_DONE (moveAborted w d o s) = true ∧
    fg (loc .SV_LAST) F.SV_LAST_OUTCOME (moveAborted w d o s) = 3 := by
  have hmap : ∀ w < 4, loc .HP_CHMAP 0 w ≠ loc .SV_EVENT ∧ loc .HP_CHMAP 0 w ≠ loc .SV_LAST := by decide
  obtain ⟨hevent, hlast⟩ := hmap w hw
  refine ⟨?_, fb_setFlag_same _ _ (by decide) (by decide), ?_⟩
  · calc rd (loc .HP_CHMAP 0 w) (moveAborted w d o s)
        = rd (loc .HP_CHMAP 0 w) (wr (loc .HP_CHMAP 0 w) d.toNat s) :=
          (rd_setFlag_other _ _ _ _ hevent).trans (rd_wr_other _ _ _ _ hlast)
      _ = d.toNat := (rd_wr_same ..).trans (Nat.mod_eq_of_lt d.isLt)
  · refine (fg_setFlag_other _ _ _ (by decide)).trans ?_
    exact (svLast_fields (kind := 5) (cause := 0) (outcome := outAborted) _ (by decide) (by decide) (by decide)).2

end Sys2Proof.Machine
end

section
/-!
PROOFS. The ends of commands, of repairs and of substitutions, and the registers that an island at rest keeps (O15).
-/

namespace Sys2Proof.Machine

/-! ## What the end of an administration command leaves alone (R278, R290) -/

/-- `t` differs from `s` in administration pairs, accesses to host memory and outputs under way alone. -/
structure CommandOnly (s t : State) : Prop where
  regs : t.regs = s.regs
  sv : t.sv = s.sv
  dp : t.dp = s.dp
  cqs : t.wq.cqs = s.wq.cqs

theorem CommandOnly.refl (s : State) : CommandOnly s s := ⟨rfl, rfl, rfl, rfl⟩

theorem CommandOnly.trans {s t u : State} (h : CommandOnly s t) (k : CommandOnly t u) : CommandOnly s u :=
  ⟨k.regs.trans h.regs, k.sv.trans h.sv, k.dp.trans h.dp, k.cqs.trans h.cqs⟩

theorem CommandOnly.after {s t u : State} (k : CommandOnly t u) (h : CommandOnly s t) : CommandOnly s u := h.trans k

theorem CommandOnly.ite {c : Prop} [Decidable c] {s t u : State} (ht : CommandOnly s t) (hu : CommandOnly s u) :
    CommandOnly s (if c then t else u) := by
  split
  · exact ht
  · exact hu

theorem CommandOnly.kept {K : Nat → Prop} {s t : State} (h : CommandOnly s t) : Kept K s t := .of_same ⟨h.regs, h.sv⟩

theorem access_commandOnly (a : Acc) (s : State) : CommandOnly s (access a s) := ⟨rfl, rfl, rfl, rfl⟩

theorem setPair_commandOnly (p : Nat) (v : Pair) (s : State) : CommandOnly s (setPair p v s) := ⟨rfl, rfl, rfl, rfl⟩

theorem setCmd_commandOnly (p : Nat) (c : Cmd) (s : State) : CommandOnly s (setCmd p c s) := setPair_commandOnly ..

theorem endOut_commandOnly (o : Nat) (s : State) : CommandOnly s (endOut o s) := ⟨rfl, rfl, rfl, rfl⟩

theorem newOut_commandOnly (s : State) : CommandOnly s (newOut s).2 := ⟨rfl, rfl, rfl, rfl⟩

theorem admCqScanStart_commandOnly (p : Nat) (s : State) : CommandOnly s (admCqScanStart p s) :=
  .ite (.refl s) (.ite (setPair_commandOnly ..) (.ite (.refl s) (.after (access_commandOnly ..) (setPair_commandOnly ..))))

theorem writeCmdCpl_commandOnly (p k : Nat) (s : State) : CommandOnly s (writeCmdCpl p k s) := by
  have hwrite (v : Pair) (c : Cmd) (a : Acc) : CommandOnly s (access a (setCmd p c (setPair p v s))) :=
    .after (access_commandOnly ..) (.after (setCmd_commandOnly ..) (setPair_commandOnly ..))
  unfold writeCmdCpl
  split
  · exact .refl s
  · exact .ite (.after (endOut_commandOnly ..) (setPair_commandOnly ..))
      (.ite (.after (admCqScanStart_commandOnly ..) (hwrite ..)) (hwrite ..))

theorem writeFinished_commandOnly (p n : Nat) (s : State) : CommandOnly s (writeFinished p n s) := by
  induction n generalizing s with
  | zero => exact .refl s
  | succ n ih =>
    unfold writeFinished
    split
    · exact .refl s
    · exact .after (ih _) (writeCmdCpl_commandOnly ..)

theorem finishCmd_commandOnly (p k status r0 r1 : Nat) (s : State) : CommandOnly s (finishCmd p k status r0 r1 s) := by
  have hset (c : Cmd) : CommandOnly s (setCmd p c (newOut s).2) := .after (setCmd_commandOnly ..) (newOut_commandOnly s)
  unfold finishCmd
  split
  · exact .refl s
  · exact .ite (.refl s) (.ite (.after (writeFinished_commandOnly ..) (hset _)) (hset _))

theorem finishOpt_commandOnly (c : Option (Nat × Nat)) (status r0 : Nat) (s : State) :
    CommandOnly s (finishOpt c status r0 s) := by
  unfold finishOpt
  split
  · exact finishCmd_commandOnly ..
  · exact .refl s

/-! ## The registers of an island that comes to rest (R441, R445) -/

/-- The register lies in another island. -/
def ServedElsewhere (c a : Nat) : Prop := servedBy (a / 4096) (a % 4096) ≠ c

theorem sget_filter_key {α : Type} (d : α) (m : Smap α) (p : Nat → Bool) {k : Nat} (hk : p k = true) :
    sget d (m.filter (fun e => p e.1)) k = sget d m k := by
  induction m with
  | nil => rfl
  | cons e m ih =>
    obtain ⟨i, v⟩ := e
    by_cases hp : p i = true
    · simp [hp, sget, ih]
    · have hne : i ≠ k := fun h => hp (h ▸ hk)
      simp [hp, sget, ih, hne]

theorem laneRegs_served : ∀ c < 0x22, 0x10 ≤ c →
    servedBy (loc .LN_STATUS (c - 0x10) / 4096) (loc .LN_STATUS (c - 0x10) % 4096) = c ∧
    servedBy (loc .LN_SUBST (c - 0x10) / 4096) (loc .LN_SUBST (c - 0x10) % 4096) = c := by decide

/-- An island that loses its state loses its own registers alone. -/
theorem islandLost_kept (c : Nat) (s : State) : Kept (ServedElsewhere c) s (islandLost c s) := by
  have hfilter : Kept (ServedElsewhere c) s { s with regs := s.regs.filter (fun e =>
      !(decide (0x80 ≤ e.1 % 4096) && servedBy (e.1 / 4096) (e.1 % 4096) == c)) } := by
    refine ⟨fun a ha => ?_, rfl⟩
    have hkeep : (!(decide (0x80 ≤ a % 4096) && servedBy (a / 4096) (a % 4096) == c)) = true := by
      simp [beq_eq_false_iff_ne.mpr ha]
    exact congrArg BitVec.toNat (sget_filter_key _ _ (fun b => !(decide (0x80 ≤ b % 4096) &&
      servedBy (b / 4096) (b % 4096) == c)) hkeep)
  unfold islandLost
  dsimp only
  split
  · next hlane =>
    obtain ⟨hlo, hhi⟩ : 0x10 ≤ c ∧ c < 0x22 := by simpa [isLaneIsl] using hlane
    obtain ⟨hstatus, hsubst⟩ := laneRegs_served c hhi hlo
    refine .after (wr_kept (fun h => h hsubst) ..) (.after (wr_kept (fun h => h hstatus) ..)
      (.after (wr_kept (fun h => h hstatus) ..) (hfilter.beside ⟨rfl, rfl⟩)))
  split
  · exact hfilter.beside ⟨rfl, rfl⟩
  · exact hfilter

theorem putIslands_sv (cs : List Nat) (st : PState) (s : State) : (putIslands cs st s).sv = s.sv := by
  induction cs generalizing s with
  | nil => rfl
  | cons c cs ih => exact ih _

/-- The register keeps its value when the island comes to rest. -/
def OutlastsRest (c a : Nat) : Prop := aloneIsl c = true → ServedElsewhere c a

theorem restIsland_kept (c : Nat) (st : PState) (s : State) : Kept (OutlastsRest c) s (restIsland c st s) := by
  have hput : Kept (OutlastsRest c) s (putIslands [c] st s) := .of_same ⟨putIslands_regs .., putIslands_sv ..⟩
  refine .ite (.of_same ⟨rfl, rfl⟩) (.trans hput ?_)
  unfold settleIsland
  cases hlost : (st == .off && aloneIsl c)
  · exact .refl _
  · exact (islandLost_kept c _).mono fun _ (ha : OutlastsRest c _) => ha (Bool.and_eq_true_iff.mp hlost).2

/-- An island that loses its state at rest serves no register of the block's own pages. -/
theorem alone_ge {c : Nat} (h : aloneIsl c = true) : 0x10 ≤ c := by
  simp only [aloneIsl, isLaneIsl, isGroupIsl, isHmpIsl, Bool.or_eq_true, Bool.and_eq_true, decide_eq_true_eq] at h
  omega

theorem outlastsRest_of_low {a c : Nat} (ha : servedBy (a / 4096) (a % 4096) < 0x10) : OutlastsRest c a := fun h e => by
  have := alone_ge h
  omega

theorem laneIsland_isLaneIsl : ∀ n < 18, isLaneIsl (laneIsland n) = true := by decide

/-- A lane whose state is lost keeps its role, but for the role TEST (R131). -/
theorem laneRole_islandLost {n : Nat} {s : State} (hn : n < 18) (hrole : laneRole n s = 4) :
    laneRole n (islandLost (laneIsland n) s) = 4 := by
  have hlane : isLaneIsl (laneIsland n) = true := laneIsland_isLaneIsl n hn
  have hidx : laneIsland n - 0x10 = n := by simp [laneIsland]
  have hsubst : loc .LN_STATUS n ≠ loc .LN_SUBST n := loc_ne_of_off (by decide) n n
  unfold islandLost
  dsimp only
  rw [if_pos hlane, hidx, hrole]
  refine (fg_wr_other _ _ _ hsubst).trans ((fg_fs_beside _ _ _ (by decide) (by decide) (by decide)).trans ?_)
  exact (fg_fs_same _ _ _ (by decide) (by decide)).trans rfl

theorem laneRole_restIsland {n : Nat} {s : State} (st : PState) (hn : n < 18) (hrole : laneRole n s = 4) :
    laneRole n (restIsland (laneIsland n) st s) = 4 := by
  have hput : laneRole n (putIslands [laneIsland n] st s) = 4 :=
    (fg_congr _ (rd_congr _ (putIslands_regs ..))).trans hrole
  unfold restIsland settleIsland
  split
  · exact hrole
  · cases hlost : (st == .off && aloneIsl (laneIsland n))
    · exact hput
    · exact laneRole_islandLost hn hput

/-! ## The end of a repair (R476, R477) -/

/-- A flag written 0 reads 0. -/
theorem fb_fs_clear (a : Nat) {f : Fld} (s : State) (hf : f.lo ≤ f.hi) (hw : f.hi < 32) : fb a f (fs a f 0 s) = false := by
  simp [fb, fg_fs_same a 0 s hf hw]

/-- The word of the field repair list that shows a repair. -/
def repairWord (r : Repair) : Nat := r.data % 2 ^ 31 + 2 ^ 31

/-- The island's first repair is over: it has left the list, and the list of field repairs holds it. -/
def repairEnded (r : Repair) (rest : List Repair) (s : State) : State :=
  doIf r.byApply (fs (loc .SV_REPAIR_CMD) F.SV_REPAIR_CMD_BUSY 0)
    (fs (loc .SV_REPAIR_CMD) F.SV_REPAIR_CMD_COUNT (s.sv.fixed ++ [repairWord r]).length
      (setSv { s.sv with repairs := rest, fixed := s.sv.fixed ++ [repairWord r] } s))

theorem repairDone_eq {i : Nat} {r : Repair} {rest : List Repair} {s : State}
    (hr : takeFirst (fun x : Repair => x.isl == i) s.sv.repairs = (some r, rest)) (hroom : s.sv.fixed.length < 1024) :
    repairDone i s = setFlag (loc .SV_EVENT) F.SV_EVENT_REPAIR_DONE (svLast (if repCol r.data then 4 else 3) 2 outDone
      (macroKey (repIsl r.data) (repMacro r.data)) (doIf ((isl i s).entering && (seqWith i s).isNone)
        (restIsland i (isl i s).target) (repairEnded r rest s))) := by
  unfold repairDone
  rw [hr]
  dsimp only
  rw [if_pos hroom]
  unfold repairEnded repairWord
  rfl

theorem repairEnded_fields {r : Repair} {s : State} (rest : List Repair) (hroom : s.sv.fixed.length < 1024) :
    fg (loc .SV_REPAIR_CMD) F.SV_REPAIR_CMD_COUNT (repairEnded r rest s) = s.sv.fixed.length + 1 ∧
    (r.byApply = true → fb (loc .SV_REPAIR_CMD) F.SV_REPAIR_CMD_BUSY (repairEnded r rest s) = false) := by
  have hcount (t : State) : fg (loc .SV_REPAIR_CMD) F.SV_REPAIR_CMD_COUNT (fs (loc .SV_REPAIR_CMD)
      F.SV_REPAIR_CMD_COUNT (s.sv.fixed ++ [repairWord r]).length t) = s.sv.fixed.length + 1 := by
    refine (fg_fs_same _ _ _ (by decide) (by decide)).trans ?_
    rw [List.length_append, List.length_singleton]
    exact Nat.mod_eq_of_lt (by simp only [F.SV_REPAIR_CMD_COUNT]; omega)
  unfold repairEnded
  cases r.byApply
  · exact ⟨hcount _, fun h => absurd h (by decide)⟩
  · refine ⟨(fg_fs_beside _ _ _ (by decide) (by decide) (by decide)).trans (hcount _), fun _ => ?_⟩
    exact fb_fs_clear _ _ (by decide) (by decide)

/-- A repair's end, kept through the rest of its island. -/
theorem repairDone_fields {i : Nat} {r : Repair} {rest : List Repair} {s : State}
    (hr : takeFirst (fun x : Repair => x.isl == i) s.sv.repairs = (some r, rest)) (hroom : s.sv.fixed.length < 1024) :
    (repairDone i s).sv = { s.sv with repairs := rest, fixed := s.sv.fixed ++ [repairWord r] } ∧
    fg (loc .SV_REPAIR_CMD) F.SV_REPAIR_CMD_COUNT (repairDone i s) = s.sv.fixed.length + 1 ∧
    (r.byApply = true → fb (loc .SV_REPAIR_CMD) F.SV_REPAIR_CMD_BUSY (repairDone i s) = false) ∧
    fb (loc .SV_EVENT) F.SV_EVENT_REPAIR_DONE (repairDone i s) = true ∧
    fg (loc .SV_LAST) F.SV_LAST_KIND (repairDone i s) = (if repCol r.data then 4 else 3) ∧
    fg (loc .SV_LAST) F.SV_LAST_OUTCOME (repairDone i s) = 0 := by
  obtain ⟨hcount, hbusy⟩ := repairEnded_fields (r := r) rest hroom
  have hrest : Kept (OutlastsRest i) (repairEnded r rest s) (doIf ((isl i s).entering && (seqWith i s).isNone)
      (restIsland i (isl i s).target) (repairEnded r rest s)) := .doIf (fun t => restIsland_kept i _ t) ..
  rw [repairDone_eq hr hroom]
  generalize doIf ((isl i s).entering && (seqWith i s).isNone) (restIsland i (isl i s).target) (repairEnded r rest s) = t
    at hrest ⊢
  have hcmd : rd (loc .SV_REPAIR_CMD) t = rd (loc .SV_REPAIR_CMD) (repairEnded r rest s) :=
    hrest.regs _ (outlastsRest_of_low (by decide))
  have hsv : (repairEnded r rest s).sv =
      { s.sv with repairs := rest, fixed := s.sv.fixed ++ [repairWord r] } := by
    unfold repairEnded
    cases r.byApply <;> rfl
  have hlast : ∀ b : Bool, (if b then 4 else 3) < 16 := by decide
  obtain ⟨hkind, hout⟩ := svLast_fields (cause := 2) (outcome := outDone)
    (obj := macroKey (repIsl r.data) (repMacro r.data)) t (hlast (repCol r.data)) (by decide) (by decide)
  have hother (a : Nat) (u : State) (he : a ≠ loc .SV_EVENT) (hl : a ≠ loc .SV_LAST) : rd a (setFlag (loc .SV_EVENT)
      F.SV_EVENT_REPAIR_DONE (svLast (if repCol r.data then 4 else 3) 2 outDone
        (macroKey (repIsl r.data) (repMacro r.data)) u)) = rd a u :=
    (rd_setFlag_other _ _ _ _ he).trans (rd_wr_other _ _ _ _ hl)
  have hkept := (hother (loc .SV_REPAIR_CMD) t (by decide) (by decide)).trans hcmd
  exact ⟨(setFlag_sv ..).trans ((svLast_sv ..).trans (hrest.sv.trans hsv)), (fg_congr _ hkept).trans hcount,
    fun hby => (fb_congr _ hkept).trans (hbusy hby),
    fb_setFlag_same _ _ (by decide) (by decide), (fg_setFlag_other _ _ _ (by decide)).trans hkind,
    (fg_setFlag_other _ _ _ (by decide)).trans hout⟩

/-! ## The last step of a lane substitution (R129, R159) -/

/-- The old lane is RETIRED and at rest; `s` is the state in which its member has left. -/
def laneRetired (n : Nat) (s : State) : State :=
  fs (loc .SV_RETIRED) F.SV_RETIRED_RETIRED (fg (loc .SV_RETIRED) F.SV_RETIRED_RETIRED s ||| 2 ^ n)
    (restIsland (laneIsland n) .off (setLn F.LN_STATUS_LOGICAL 0x1F n (setRole n 4 s)))

/-- The spare has its role and shows the end of its substitution. -/
def spareInPlace (x : Subst) (s : State) : State :=
  setFlag (loc .LN_EVENT x.spare) F.LN_EVENT_SUBST_DONE (dropSubst x.from_
    (showSubst { x with step := 5, parked := false, power := false, begun := false }
      (setLn F.LN_STATUS_LOGICAL x.logical x.spare (setRole x.spare (if x.slotted then 3 else 2) s))))

/-- The member of a slotted substitution has left its group. -/
def memberLeft (x : Subst) (s : State) : State :=
  if x.slotted then moveLogical x.logical x.spare (leaveMember x.group x.member s) else s

theorem substFinish_eq (x : Subst) (s : State) : substFinish x s = linkCheckAll (finishOpt x.cmd St.ok x.spare
    (doIf x.auto (fun t => svLast 1 x.cause outDone (laneIsland x.from_) (setFlag (loc .SV_EVENT) F.SV_EVENT_SUBST_DONE t))
      (spareInPlace x (laneRetired x.from_ (memberLeft x s))))) := rfl

/-- A register that the reports of a substitution's end leave alone. -/
def ReportsNot (a : Nat) : Prop := Quiet a ∧ a ≠ loc .SV_EVENT ∧ a ≠ loc .SV_LAST

theorem substFinish_kept (x : Subst) (s : State) :
    Kept ReportsNot (spareInPlace x (laneRetired x.from_ (memberLeft x s))) (substFinish x s) := by
  have hauto (t : State) : Kept ReportsNot t (doIf x.auto (fun t => svLast 1 x.cause outDone (laneIsland x.from_)
      (setFlag (loc .SV_EVENT) F.SV_EVENT_SUBST_DONE t)) t) :=
    .doIf (fun _ => .after (wr_kept (fun h => h.2.2 rfl) ..) (wr_kept (fun h => h.2.1 rfl) ..)) ..
  have hlinks (t : State) : Kept ReportsNot t (linkCheckAll t) :=
    (Kept.forEach (fun p u => linkCheck_trafficKept p u) ..).mono fun _ h => h.1
  rw [substFinish_eq]
  exact .after (hlinks _) (.after (finishOpt_commandOnly ..).kept (hauto _))

theorem laneRetired_fields {n : Nat} (s : State) (hn : n < 18) : laneRole n (laneRetired n s) = 4 ∧
    bit (fg (loc .SV_RETIRED) F.SV_RETIRED_RETIRED (laneRetired n s)) n = true := by
  have hrole : laneRole n (setLn F.LN_STATUS_LOGICAL 0x1F n (setRole n 4 s)) = 4 :=
    (fg_fs_beside _ _ _ (by decide) (by decide) (by decide)).trans
      ((fg_fs_same _ _ _ (by decide) (by decide)).trans rfl)
  have hretired : loc .LN_STATUS n ≠ loc .SV_RETIRED := loc_ne_of_off (by decide) n 0
  constructor
  · exact (fg_wr_other _ _ _ hretired).trans (laneRole_restIsland .off hn hrole)
  · unfold laneRetired
    rw [fg_fs_same _ _ _ (by decide) (by decide), bit_eq_testBit, Nat.testBit_mod_two_pow, Nat.testBit_or,
      Nat.testBit_two_pow_self, Bool.or_true, Bool.and_true, decide_eq_true_eq]
    exact hn

theorem dropSubst_regs (n : Nat) (s : State) : (dropSubst n s).regs = s.regs := rfl

theorem spareInPlace_fields {x : Subst} (s : State) (hslot : x.spare ≠ x.from_) :
    laneRole x.from_ (spareInPlace x s) = laneRole x.from_ s ∧
    laneRole x.spare (spareInPlace x s) = (if x.slotted then 3 else 2) ∧
    fb (loc .LN_EVENT x.spare) F.LN_EVENT_SUBST_DONE (spareInPlace x s) = true ∧
    fg (loc .SV_RETIRED) F.SV_RETIRED_RETIRED (spareInPlace x s) = fg (loc .SV_RETIRED) F.SV_RETIRED_RETIRED s := by
  have hother {a : Nat} (he : a ≠ loc .LN_EVENT x.spare) (hs : a ≠ loc .LN_SUBST x.spare) : rd a (spareInPlace x s) =
      rd a (setLn F.LN_STATUS_LOGICAL x.logical x.spare (setRole x.spare (if x.slotted then 3 else 2) s)) :=
    (rd_setFlag_other _ _ _ _ he).trans ((rd_congr _ (dropSubst_regs ..)).trans (rd_wr_other _ _ _ _ hs))
  have hstatus {a : Nat} (h : a ≠ loc .LN_STATUS x.spare) (r : Nat) :
      rd a (setLn F.LN_STATUS_LOGICAL x.logical x.spare (setRole x.spare r s)) = rd a s :=
    (rd_fs_other _ _ _ _ _ h).trans (rd_fs_other _ _ _ _ _ h)
  have hevent (n : Nat) : loc .LN_STATUS n ≠ loc .LN_EVENT x.spare := loc_ne_of_off (by decide) _ _
  have hsubst (n : Nat) : loc .LN_STATUS n ≠ loc .LN_SUBST x.spare := loc_ne_of_off (by decide) _ _
  have hlanes : loc .LN_STATUS x.from_ ≠ loc .LN_STATUS x.spare := by
    rw [loc_eq, loc_eq]
    omega
  have hrole : (if x.slotted then 3 else 2) % 2 ^ (2 + 1 - 0) = if x.slotted then 3 else 2 := by cases x.slotted <;> rfl
  refine ⟨fg_congr _ ((hother (hevent _) (hsubst _)).trans (hstatus hlanes _)), ?_,
    fb_setFlag_same _ _ (by decide) (by decide), fg_congr _ ((hother ?_ ?_).trans (hstatus ?_ _))⟩
  · refine (fg_congr _ (hother (hevent _) (hsubst _))).trans
      ((fg_fs_beside _ _ _ (by decide) (by decide) (by decide)).trans ?_)
    exact (fg_fs_same _ _ _ (by decide) (by decide)).trans hrole
  · exact loc_ne_of_off (n := .SV_RETIRED) (by decide) 0 _
  · exact loc_ne_of_off (n := .SV_RETIRED) (by decide) 0 _
  · exact loc_ne_of_off (n := .SV_RETIRED) (by decide) 0 _

theorem laneRegs_reportsNot : ∀ n < 18, ∀ a ∈ [loc .LN_STATUS n, loc .LN_EVENT n, loc .SV_RETIRED], ReportsNot a := by
  have hreg : ∀ n < 18, ∀ a ∈ [loc .LN_STATUS n, loc .LN_EVENT n, loc .SV_RETIRED], a ∉ trafficRegs ∧
      (∀ r ∈ trafficRows, a % 4096 ≠ r.row.off % 4096 ∨ a < r.kind.first * 4096) ∧
      a ≠ loc .SV_EVENT ∧ a ≠ loc .SV_LAST := by
    decide
  intro n hn a ha
  obtain ⟨htraffic, hrow, hevent, hlast⟩ := hreg n hn a ha
  exact ⟨quiet_of htraffic hrow, hevent, hlast⟩

/-- The last step leaves the old lane RETIRED and the spare with its role (R129). -/
theorem substFinish_fields {x : Subst} (s : State) (hslot : x.spare ≠ x.from_) (hspare : x.spare < 18)
    (hfrom : x.from_ < 18) :
    laneRole x.from_ (substFinish x s) = 4 ∧
    laneRole x.spare (substFinish x s) = (if x.slotted then 3 else 2) ∧
    fb (loc .LN_EVENT x.spare) F.LN_EVENT_SUBST_DONE (substFinish x s) = true ∧
    bit (fg (loc .SV_RETIRED) F.SV_RETIRED_RETIRED (substFinish x s)) x.from_ = true := by
  obtain ⟨hold, hbit⟩ := laneRetired_fields (memberLeft x s) hfrom
  obtain ⟨hfromRole, hspareRole, hevent, hretired⟩ :=
    spareInPlace_fields (laneRetired x.from_ (memberLeft x s)) hslot
  have hkept {n a : Nat} (hn : n < 18) (ha : a ∈ [loc .LN_STATUS n, loc .LN_EVENT n, loc .SV_RETIRED]) :
      rd a (substFinish x s) = rd a (spareInPlace x (laneRetired x.from_ (memberLeft x s))) :=
    (substFinish_kept x s).regs a (laneRegs_reportsNot n hn a ha)
  refine ⟨(fg_congr _ (hkept hfrom (by simp))).trans (hfromRole.trans hold),
    (fg_congr _ (hkept hspare (by simp))).trans hspareRole, (fb_congr _ (hkept hspare (by simp))).trans hevent, ?_⟩
  rw [fg_congr _ (hkept hfrom (by simp)), hretired]
  exact hbit

theorem substOf_from {n : Nat} {x : Subst} {s : State} (hx : substOf n s = some x) : x.from_ = n := by
  simpa using List.find?_some hx

theorem substStep_last {n : Nat} {x : Subst} {s : State} (hx : substOf n s = some x) (hpower : x.power = false)
    (hbegun : x.begun = true) (hstep : x.step = 4) : substStep n s = substFinish x s := by
  unfold substStep
  rw [hx]
  simp [hpower, hbegun, hstep, substWaits]

/-! ## The end of an engine substitution (R221, R475) -/

theorem substDone_fields {cl : Nat} {x : EngSub} {s : State}
    (hx : s.dp.subst.find? (fun y => y.cluster == cl) = some x)
    (hctx : ∀ c, c ∈ s.dp.ctxs → ctxCluster c.id = cl → ctxEngine c.id ≠ x.engine) :
    (substDone cl s).sv = s.sv ∧ (substDone cl s).dp.subst = s.dp.subst.filter (fun y => y.cluster != cl) ∧
    substBusy cl (substDone cl s) = false ∧ fb (loc .RE_CL_EVENT cl) F.RE_CL_EVENT_SUBST_DONE (substDone cl s) = true := by
  have hnone : s.dp.ctxs.any (fun c => ctxCluster c.id == cl && ctxEngine c.id == x.engine) = false := by
    rw [List.any_eq_false]
    intro c hc h
    obtain ⟨hcluster, hengine⟩ := Bool.and_eq_true_iff.mp h
    exact hctx c hc (beq_iff_eq.mp hcluster) (beq_iff_eq.mp hengine)
  unfold substDone
  rw [hx]
  dsimp only
  rw [if_neg (ne_true_of_eq_false hnone)]
  obtain ⟨hregs, hsv, hdp, -⟩ := finishOpt_commandOnly x.cmd St.ok 0 (setFlag (loc .RE_CL_EVENT cl) F.RE_CL_EVENT_SUBST_DONE
    (fs (loc .RE_CL_SUBST cl) F.RE_CL_SUBST_BUSY 0
      { s with dp := { s.dp with subst := s.dp.subst.filter (fun y => y.cluster != cl) } }))
  have hne : loc .RE_CL_SUBST cl ≠ loc .RE_CL_EVENT cl := loc_ne_of_off (by decide) _ _
  have hown (t : State) : (setFlag (loc .RE_CL_EVENT cl) F.RE_CL_EVENT_SUBST_DONE
      (fs (loc .RE_CL_SUBST cl) F.RE_CL_SUBST_BUSY 0 t)).sv = t.sv ∧ (setFlag (loc .RE_CL_EVENT cl)
        F.RE_CL_EVENT_SUBST_DONE (fs (loc .RE_CL_SUBST cl) F.RE_CL_SUBST_BUSY 0 t)).dp = t.dp :=
    ⟨(wr_sv ..).trans (wr_sv ..), (wr_dp ..).trans (wr_dp ..)⟩
  refine ⟨hsv.trans (hown _).1, (congrArg Dp.subst (hdp.trans (hown _).2)).trans rfl, ?_, ?_⟩
  · exact (fb_congr _ (rd_congr _ hregs)).trans ((fb_congr _ (rd_setFlag_other _ _ _ _ hne)).trans
      (fb_fs_clear _ _ (by decide) (by decide)))
  · exact (fb_congr _ (rd_congr _ hregs)).trans (fb_setFlag_same _ _ (by decide) (by decide))

end Sys2Proof.Machine
end

section
/-!
PROOFS. The end of an engine's action, and the monitors (O15).
-/

namespace Sys2Proof.Machine

/-! ## Actions that wait (R472, R474) -/

/-- With no action waiting, nothing is tried again. -/
theorem retryActs_none {s : State} (f : Act → Bool) (h : s.sv.acts = []) : retryActs f s = s := by
  have hsv : { s.sv with acts := [] } = s.sv := by rw [← h]
  calc retryActs f s = setSv { s.sv with acts := [] } s := by simp [retryActs, h, sortBy, forEach]
    _ = s := by rw [hsv]; rfl

/-- The action of an engine's substitution is over: SV_EVENT and SV_LAST show it. -/
def engActEnded (e cause : Nat) (s : State) : State :=
  svLast 2 cause outDone e (setFlag (loc .SV_EVENT) F.SV_EVENT_SUBST_DONE
    (setSv { s.sv with engActs := s.sv.engActs.filter (fun y => y.1 != e) } s))

theorem engineDone_eq {cl : Nat} {x : EngSub} {s : State} (hx : s.dp.subst.find? (fun y => y.cluster == cl) = some x)
    (hbusy : substBusy cl (substDone cl s) = false) : engineDone cl s =
      retryActs (fun a => a.kind == 2 && a.obj / 17 == cl)
        (((substDone cl s).sv.engActs.find? (fun y => y.1 == 17 * cl + x.engine)).elim (substDone cl s)
          (fun y => engActEnded (17 * cl + x.engine) y.2 (substDone cl s))) := by
  unfold engineDone
  rw [hx]
  dsimp only [Option.map_some]
  rw [if_neg (ne_true_of_eq_false hbusy)]
  cases (substDone cl s).sv.engActs.find? (fun y => y.1 == 17 * cl + x.engine) <;> rfl

theorem engActEnded_fields (e cause : Nat) (s : State) : (engActEnded e cause s).sv.acts = s.sv.acts ∧
    (engActEnded e cause s).dp = s.dp ∧
    ∀ a, a ≠ loc .SV_EVENT → a ≠ loc .SV_LAST → rd a (engActEnded e cause s) = rd a s := by
  refine ⟨?_, (wr_dp ..).trans (wr_dp ..), fun a he hl => ?_⟩
  · exact (congrArg Sv.acts ((svLast_sv ..).trans (setFlag_sv ..))).trans rfl
  · exact (rd_wr_other _ _ _ _ hl).trans (rd_setFlag_other _ _ _ _ he)

/-- The end of an engine's substitution whose contexts are free. -/
theorem engineDone_fields {cl : Nat} {x : EngSub} {s : State} (hcl : cl < 24)
    (hx : s.dp.subst.find? (fun y => y.cluster == cl) = some x)
    (hctx : ∀ c, c ∈ s.dp.ctxs → ctxCluster c.id = cl → ctxEngine c.id ≠ x.engine) (hacts : s.sv.acts = []) :
    substBusy cl (engineDone cl s) = false ∧ fb (loc .RE_CL_EVENT cl) F.RE_CL_EVENT_SUBST_DONE (engineDone cl s) = true ∧
    (engineDone cl s).dp.subst = s.dp.subst.filter (fun y => y.cluster != cl) := by
  obtain ⟨hsv, hdp, hbusy, hevent⟩ := substDone_fields hx hctx
  have hregs : ∀ cl < 24, ∀ a ∈ [loc .RE_CL_SUBST cl, loc .RE_CL_EVENT cl], a ≠ loc .SV_EVENT ∧
      a ≠ loc .SV_LAST := by
    decide
  have hidle : (substDone cl s).sv.acts = [] := (congrArg Sv.acts hsv).trans hacts
  rw [engineDone_eq hx hbusy]
  cases (substDone cl s).sv.engActs.find? (fun y => y.1 == 17 * cl + x.engine) with
  | none =>
    rw [Option.elim_none, retryActs_none _ hidle]
    exact ⟨hbusy, hevent, hdp⟩
  | some y =>
    obtain ⟨hkeep, hsame, hrd⟩ := engActEnded_fields (17 * cl + x.engine) y.2 (substDone cl s)
    have hother (a : Nat) (ha : a ∈ [loc .RE_CL_SUBST cl, loc .RE_CL_EVENT cl]) :=
      hrd a (hregs cl hcl a ha).1 (hregs cl hcl a ha).2
    rw [Option.elim_some, retryActs_none _ (hkeep.trans hidle)]
    exact ⟨(fb_congr _ (hother _ (by simp))).trans hbusy, (fb_congr _ (hother _ (by simp))).trans hevent,
      (congrArg Dp.subst hsame).trans hdp⟩

/-! ## Monitors (R470, R472) -/

theorem eyeRefresh_within {n h w : Nat} {s : State} (hh : h < 65536) (hw : w < 65536)
    (hlock : fb (loc .LN_STATUS n) F.LN_STATUS_CDR_LOCK s = true) (hrun : isRun (laneIsland n) s = true)
    (hmin : fg (loc .SV_EYE_THR) F.SV_EYE_THR_EYE_H_MIN s ≤ h) (wmin : fg (loc .SV_EYE_THR) F.SV_EYE_THR_EYE_W_MIN s ≤ w) :
    eyeRefresh n h w s = setSv { s.sv with
      eyeLow := sput 0 s.sv.eyeLow n 0, acted := s.sv.acted.filter (· != monKey 3 n) }
        (wr (loc .LN_EYE n) (h * 65536 + w) s) := by
  have hlow : (decide (h % 2 ^ 16 < fg (loc .SV_EYE_THR) F.SV_EYE_THR_EYE_H_MIN s) ||
      decide (w % 2 ^ 16 < fg (loc .SV_EYE_THR) F.SV_EYE_THR_EYE_W_MIN s)) = false := by
    simp only [Bool.or_eq_false_iff, decide_eq_false_iff_not]
    omega
  unfold eyeRefresh
  rw [if_neg (by simp [hlock, hrun])]
  simp only [hlow]
  simp [doIf, Nat.mod_eq_of_lt hh, Nat.mod_eq_of_lt hw]

/-- An island's sensor reads `v`, below ACT; `warn` says whether from WARN on. -/
def belowAct (c v : Nat) (warn : Bool) (s : State) : State :=
  doIf (warn && !s.sv.warned.contains (monKey 0 c)) (setFlag (loc .SV_EVENT) F.SV_EVENT_WARN) (setSv { s.sv with
    mon := sput 0 s.sv.mon (monKey 0 c) (v % 2 ^ 16)
    warned := if warn then (if s.sv.warned.contains (monKey 0 c) then s.sv.warned else monKey 0 c :: s.sv.warned)
              else s.sv.warned.filter (· != monKey 0 c)
    acted := s.sv.acted.filter (· != monKey 0 c)
    started := s.sv.started.filter (· != monKey 0 c) } s)

theorem islandMonitor_belowAct {c v : Nat} {s : State} (hisl : islandCodes.contains c = true) (hrun : isRun c s = true)
    (hact : v < fg (loc .SV_RO_THR) F.SV_RO_THR_ACT s) :
    islandMonitor (c, v) s = belowAct c v (decide (fg (loc .SV_RO_THR) F.SV_RO_THR_WARN s ≤ v)) s := by
  have hhit : decide (roAct s ≤ v) = false := decide_eq_false (Nat.not_le.mpr hact)
  unfold islandMonitor
  rw [if_neg (not_or.mpr ⟨ne_false_of_eq_true hisl, ne_false_of_eq_true hrun⟩)]
  dsimp only
  rw [hhit]
  rfl

theorem belowAct_sv (c v : Nat) (warn : Bool) (s : State) : (belowAct c v warn s).sv = { s.sv with
    mon := sput 0 s.sv.mon (monKey 0 c) (v % 2 ^ 16)
    warned := if warn then (if s.sv.warned.contains (monKey 0 c) then s.sv.warned else monKey 0 c :: s.sv.warned)
              else s.sv.warned.filter (· != monKey 0 c)
    acted := s.sv.acted.filter (· != monKey 0 c)
    started := s.sv.started.filter (· != monKey 0 c) } := by
  unfold belowAct doIf
  split
  · exact (setFlag_sv ..).trans rfl
  · rfl

/-- The end of a monitor read that lists no SRAM. -/
def readEnded (t : State) : State := setSv { (sramQuiet [] t).sv with hmpKept := [] } (sramQuiet [] t)

/-- A reading of one island's sensor, of no engine and of no SRAM. -/
theorem wearRead_one {c v : Nat} {s : State} (hcold : coldHeld s = false) (hcore : (isl 0 s).st = .run)
    (hacts : s.sv.acts = []) (hmp : s.sv.hmp = none) (hisl : islandCodes.contains c = true) (hrun : isRun c s = true)
    (hact : v < fg (loc .SV_RO_THR) F.SV_RO_THR_ACT s) : wearRead [(c, v)] [] [] s =
      readEnded (belowAct c v (decide (fg (loc .SV_RO_THR) F.SV_RO_THR_WARN s ≤ v)) s) := by
  have hnone (t : State) (h : t.sv.hmp = none) : hmpNext t = t := by
    unfold hmpNext
    rw [h]
  unfold wearRead
  rw [if_neg (by simp [hcold, hcore])]
  simp only [retryActs_none _ hacts, sortBy, List.foldr, insertBy, forEach, List.foldl, islandMonitor_belowAct hisl hrun hact]
  exact hnone _ ((congrArg Sv.hmp (belowAct_sv ..)).trans hmp)

theorem readEnded_fields (c v : Nat) (warn : Bool) (s : State) :
    sget 0 (readEnded (belowAct c v warn s)).sv.mon (monKey 0 c) = v % 2 ^ 16 ∧
    (readEnded (belowAct c v warn s)).sv.warned = (if warn then
      (if s.sv.warned.contains (monKey 0 c) then s.sv.warned else monKey 0 c :: s.sv.warned)
      else s.sv.warned.filter (· != monKey 0 c)) ∧
    monKey 0 c ∉ (readEnded (belowAct c v warn s)).sv.acted ∧
    (readEnded (belowAct c v warn s)).sv.acts = s.sv.acts ∧
    (readEnded (belowAct c v warn s)).regs = (belowAct c v warn s).regs := by
  have hsv := belowAct_sv c v warn s
  refine ⟨?_, congrArg Sv.warned hsv, fun hmem => ?_, (congrArg Sv.acts hsv).trans rfl, rfl⟩
  · have hkey : (!(decide (monKey 0 c / 2 ^ 17 = 2) && isRun (monKey 0 c % 2 ^ 17 / 512) (belowAct c v warn s))) = true := by
      have hlow : monKey 0 c / 2 ^ 17 ≠ 2 := by simp only [monKey]; omega
      rw [decide_eq_false hlow]
      rfl
    calc sget 0 (readEnded (belowAct c v warn s)).sv.mon (monKey 0 c)
        = sget 0 (belowAct c v warn s).sv.mon (monKey 0 c) :=
          sget_filter_key _ _ (fun k => !(decide (k / 2 ^ 17 = 2) && isRun (k % 2 ^ 17 / 512) (belowAct c v warn s))) hkey
      _ = v % 2 ^ 16 := by rw [hsv]; exact sget_sput_same ..
  · have hin : monKey 0 c ∈ (belowAct c v warn s).sv.acted := (List.mem_filter.mp hmem).1
    rw [hsv] at hin
    simp at hin

/-- WARN is reported once: at the first reading from WARN on. -/
theorem belowAct_warn (c v : Nat) (s : State) :
    (monKey 0 c ∉ s.sv.warned → fb (loc .SV_EVENT) F.SV_EVENT_WARN (belowAct c v true s) = true) ∧
    (monKey 0 c ∈ s.sv.warned → rd (loc .SV_EVENT) (belowAct c v true s) = rd (loc .SV_EVENT) s) := by
  constructor
  · intro hnew
    have hflag : (true && !s.sv.warned.contains (monKey 0 c)) = true := by simp [hnew]
    unfold belowAct
    rw [hflag]
    exact fb_setFlag_same _ _ (by decide) (by decide)
  · intro hold
    have hflag : (true && !s.sv.warned.contains (monKey 0 c)) = false := by simp [hold]
    unfold belowAct
    rw [hflag]
    rfl

end Sys2Proof.Machine
end

section
/-!
PROOFS. The stop of a completion queue, and the retirement of entries (O15).
-/

namespace Sys2Proof.Machine

/-! ## The stop of a completion queue (R275, R277) -/

/-- The state and the error of every completion queue are as before, so is the wear state, and QUEUE_ERROR stays set. -/
structure QueuesKept (s t : State) : Prop where
  flag : fb (loc .WQ_EVENT) F.WQ_EVENT_QUEUE_ERROR s = true → fb (loc .WQ_EVENT) F.WQ_EVENT_QUEUE_ERROR t = true
  sv : t.sv = s.sv
  state : ∀ c, (getCq c t).state = (getCq c s).state
  err : ∀ c, (getCq c t).err = (getCq c s).err

theorem QueuesKept.refl (s : State) : QueuesKept s s := ⟨id, rfl, fun _ => rfl, fun _ => rfl⟩

theorem QueuesKept.trans {s t u : State} (h : QueuesKept s t) (k : QueuesKept t u) : QueuesKept s u :=
  ⟨fun hs => k.flag (h.flag hs), k.sv.trans h.sv, fun c => (k.state c).trans (h.state c),
    fun c => (k.err c).trans (h.err c)⟩

theorem QueuesKept.after {s t u : State} (k : QueuesKept t u) (h : QueuesKept s t) : QueuesKept s u := h.trans k

theorem QueuesKept.ite {c : Prop} [Decidable c] {s t u : State} (ht : QueuesKept s t) (hu : QueuesKept s u) :
    QueuesKept s (if c then t else u) := by
  split
  · exact ht
  · exact hu

theorem QueuesKept.forEach {α : Type} {f : α → State → State} (hf : ∀ a s, QueuesKept s (f a s)) (l : List α)
    (s : State) : QueuesKept s (forEach l f s) := forEach_rel (R := QueuesKept) .refl (fun _ _ _ => .trans) hf l s

theorem Settling.queuesKept {s t : State} (h : Settling s t) : QueuesKept s t :=
  ⟨fun hs => (fb_congr _ (h.regs _ (by decide))).trans hs, h.sv, fun c => by rw [h.cqs c], fun c => by rw [h.cqs c]⟩

theorem CommandOnly.queuesKept {s t : State} (h : CommandOnly s t) : QueuesKept s t := by
  have hget (c : Nat) : getCq c t = getCq c s := by rw [getCq, getCq, h.cqs]
  exact ⟨fun hs => (fb_congr _ (rd_congr _ h.regs)).trans hs, h.sv, fun c => by rw [hget], fun c => by rw [hget]⟩

theorem wqFlag_queuesKept (f : Fld) (s : State) : QueuesKept s (setFlag (loc .WQ_EVENT) f s) :=
  ⟨fb_setFlag_keeps f (by decide) (by decide), rfl, fun _ => rfl, fun _ => rfl⟩

theorem setSq_queuesKept (q : Nat) (v : Sq) (s : State) : QueuesKept s (setSq q v s) :=
  ⟨id, rfl, fun _ => rfl, fun _ => rfl⟩

theorem endOut_queuesKept (o : Nat) (s : State) : QueuesKept s (endOut o s) := (endOut_commandOnly o s).queuesKept

theorem whoEnded_settling (who : Nat) (s : State) : Settling s (whoEnded who s) := by
  unfold whoEnded
  split
  · exact .refl s
  split
  · exact setPair_settling rfl
  · exact setCq_settling rfl

theorem endReqs_queuesKept (p : Purpose → Bool) (s : State) : QueuesKept s (endReqs p s) := by
  refine .after (.forEach (fun q t => .after (whoEnded_settling ..).queuesKept ?_) ..)
    ⟨id, rfl, fun _ => rfl, fun _ => rfl⟩
  cases outOf q.purpose s with
  | none => exact .refl t
  | some o => exact endOut_queuesKept o t

theorem sqStop_queuesKept (q status : Nat) (s : State) : QueuesKept s (sqStop q status s) :=
  .ite (.after (cqRecord_settling ..).queuesKept (.after (wqFlag_queuesKept ..) (.after (endReqs_queuesKept ..)
    (setSq_queuesKept ..)))) (.refl s)

theorem setExecs_queuesKept (l : List Exec) (s : State) : QueuesKept s { s with wq := { s.wq with execs := l } } :=
  ⟨id, rfl, fun _ => rfl, fun _ => rfl⟩

theorem dropExecs_queuesKept (q : Nat) (s : State) : QueuesKept s (dropExecs q s) :=
  .after (.forEach endOut_queuesKept ..) (.after (setExecs_queuesKept ..) (endReqs_queuesKept ..))

theorem abortOnStop_queuesKept (q : Nat) (s : State) : QueuesKept s (abortOnStop q s) :=
  .ite (.after (dropExecs_queuesKept ..) (.after (setSq_queuesKept ..) (endReqs_queuesKept ..))) (.refl s)

/-- A completion queue that keeps its state and error keeps those of all. -/
theorem setCq_queuesKept {c : Nat} {v : Cq} {s : State} (hstate : v.state = (getCq c s).state)
    (herr : v.err = (getCq c s).err) : QueuesKept s (setCq c v s) := by
  have hget (d : Nat) : getCq d (setCq c v s) = if d = c then v else getCq d s := by
    split
    · next h => rw [h, getCq_setCq_same]
    · next h => exact sget_sput_other _ _ _ _ _ _ h
  refine ⟨id, rfl, fun d => ?_, fun d => ?_⟩
  · rw [hget]
    split
    · next h => rw [h, hstate]
    · rfl
  · rw [hget]
    split
    · next h => rw [h, herr]
    · rfl

/-- A completion queue in STOPPED, its scans and writes forgotten. -/
def cqStopped (c status : Nat) (s : State) : State :=
  setCq c { getCq c s with state := .stopped, err := status, scan := false, rescan := false, armed := false,
                           armPending := false, outWrites := 0 } s

/-- After a completion queue has stopped, its requests end, QUEUE_ERROR is set, and its submission queues stop. -/
theorem cqStop_queuesKept {c : Nat} {s : State} (status : Nat) (hact : (getCq c s).state = .active) :
    QueuesKept (setFlag (loc .WQ_EVENT) F.WQ_EVENT_QUEUE_ERROR (endReqs (fun p => ofCqRead c p || ofCq c p)
      (cqStopped c status s))) (cqStop c status s) := by
  unfold cqStop
  dsimp only
  rw [if_pos hact]
  exact .after (.forEach (fun _ _ => .ite (sqStop_queuesKept ..) (.refl _)) ..) (cqRecord_settling ..).queuesKept

theorem cqStop_fields {c : Nat} {s : State} (status : Nat) (hact : (getCq c s).state = .active) :
    (getCq c (cqStop c status s)).state = .stopped ∧ (getCq c (cqStop c status s)).err = status ∧
    fb (loc .WQ_EVENT) F.WQ_EVENT_QUEUE_ERROR (cqStop c status s) = true ∧ (cqStop c status s).sv = s.sv := by
  have hkept := cqStop_queuesKept status hact
  have hflag := wqFlag_queuesKept F.WQ_EVENT_QUEUE_ERROR (endReqs (fun p => ofCqRead c p || ofCq c p) (cqStopped c status s))
  have hall := (endReqs_queuesKept (fun p => ofCqRead c p || ofCq c p) (cqStopped c status s)).trans (hflag.trans hkept)
  have hown : getCq c (cqStopped c status s) = _ := getCq_setCq_same ..
  exact ⟨(hall.state c).trans (congrArg Cq.state hown), (hall.err c).trans (congrArg Cq.err hown),
    hkept.flag (fb_setFlag_same _ _ (by decide) (by decide)), hall.sv⟩

/-- What follows the stop ends the queue's commands and writes. -/
theorem stopCq_queuesKept {c : Nat} {s : State} (status : Nat) (hact : (getCq c s).state = .active) :
    QueuesKept (cqStop c status s) (stopCq c status s) := by
  unfold stopCq
  rw [if_neg (not_not_intro hact)]
  exact .after (finishOpt_commandOnly ..).queuesKept (.after (setCq_queuesKept rfl rfl)
    (.after (.forEach (fun _ _ => .ite (abortOnStop_queuesKept ..) (.refl _)) ..) (.forEach endOut_queuesKept ..)))

/-! ## The retirement of an entry (R469) -/

/-- The record of the last action is one register's write. -/
theorem svLast_eq_wr (kind cause outcome obj : Nat) (s : State) :
    ∃ v, svLast kind cause outcome obj s = wr (loc .SV_LAST) v s := ⟨_, rfl⟩

/-- The state in which an entry of a completion queue's backlog is gone. -/
def backlogLost (q i : Nat) (e : Nat × Bytes) (s : State) : State :=
  dropX e.1 ((getX e.1 s).elim (setCq q { getCq q s with backlog := (getCq q s).backlog.eraseIdx i } s)
    (fun x => endOut x.oid (setCq q { getCq q s with
      backlog := (getCq q s).backlog.eraseIdx i, pool := (getCq q s).pool - b2n x.fromPool } s)))

theorem entryRetire_backlog {q i : Nat} {s : State} (hi : i < (getCq q s).backlog.length) : ∃ e,
    entryRetire false q i s = svLast 6 3 (if s.sv.poolRet < 4096 then outDone else outNoSpare) 0
      (setSv { (stopCq q St.hostReadError (backlogLost q i e s)).sv with
        poolRet := (stopCq q St.hostReadError (backlogLost q i e s)).sv.poolRet + 1 }
        (stopCq q St.hostReadError (backlogLost q i e s))) := by
  refine ⟨(getCq q s).backlog[i], ?_⟩
  simp only [entryRetire, Bool.false_eq_true, ↓reduceIte, List.getElem?_eq_getElem hi, backlogLost]
  cases getX (getCq q s).backlog[i].1 s <;> rfl

theorem backlogLost_queuesKept (q i : Nat) (e : Nat × Bytes) (s : State) : QueuesKept s (backlogLost q i e s) := by
  refine .after (setExecs_queuesKept ..) ?_
  cases getX e.1 s with
  | none => exact setCq_queuesKept rfl rfl
  | some x => exact .after (endOut_queuesKept ..) (setCq_queuesKept rfl rfl)

/-- The loss of a backlog entry stops its queue with HOST_READ_ERROR. -/
theorem entryRetire_stops {q i : Nat} {s : State} (hact : (getCq q s).state = .active)
    (hi : i < (getCq q s).backlog.length) :
    (getCq q (entryRetire false q i s)).state = .stopped ∧
    (getCq q (entryRetire false q i s)).err = St.hostReadError ∧
    fb (loc .WQ_EVENT) F.WQ_EVENT_QUEUE_ERROR (entryRetire false q i s) = true ∧
    (entryRetire false q i s).sv.poolRet = s.sv.poolRet + 1 := by
  obtain ⟨e, he⟩ := entryRetire_backlog hi
  have hlost := backlogLost_queuesKept q i e s
  have hstill : (getCq q (backlogLost q i e s)).state = .active := (hlost.state q).trans hact
  obtain ⟨hstate, herr, hflag, hsv⟩ := cqStop_fields St.hostReadError hstill
  have hstop := stopCq_queuesKept St.hostReadError hstill
  obtain ⟨v, hv⟩ := svLast_eq_wr 6 3 (if s.sv.poolRet < 4096 then outDone else outNoSpare) 0
    (setSv { (stopCq q St.hostReadError (backlogLost q i e s)).sv with
      poolRet := (stopCq q St.hostReadError (backlogLost q i e s)).sv.poolRet + 1 }
      (stopCq q St.hostReadError (backlogLost q i e s)))
  rw [he, hv]
  refine ⟨(hstop.state q).trans hstate, (hstop.err q).trans herr, ?_, ?_⟩
  · exact (fb_congr _ (rd_wr_other _ _ _ _ (by decide))).trans (hstop.flag hflag)
  · exact congrArg (fun v => v.poolRet + 1) (hstop.sv.trans (hsv.trans hlost.sv))

/-- The loss of an entry of the learn queue (R469). -/
theorem entryRetire_learn {q i : Nat} {s : State} (hi : i < s.tab.learnQ.length) :
    (entryRetire true q i s).tab = { s.tab with learnQ := s.tab.learnQ.eraseIdx i } ∧
    (entryRetire true q i s).sv = { s.sv with learnRet := s.sv.learnRet + 1 } := by
  have hcount := bump_settling (cTable 2) (setTab { s.tab with learnQ := s.tab.learnQ.eraseIdx i } s)
  have heq : entryRetire true q i s = svLast 7 3 (if s.sv.learnRet < 128 then outDone else outNoSpare) 0
      (setSv { (bump (cTable 2) (setTab { s.tab with learnQ := s.tab.learnQ.eraseIdx i } s)).sv with
        learnRet := (bump (cTable 2) (setTab { s.tab with learnQ := s.tab.learnQ.eraseIdx i } s)).sv.learnRet + 1 }
        (bump (cTable 2) (setTab { s.tab with learnQ := s.tab.learnQ.eraseIdx i } s))) := by
    simp [entryRetire, hi, doIf]
  generalize bump (cTable 2) (setTab { s.tab with learnQ := s.tab.learnQ.eraseIdx i } s) = t at hcount heq
  obtain ⟨v, hv⟩ := svLast_eq_wr 7 3 (if s.sv.learnRet < 128 then outDone else outNoSpare) 0
    (setSv { t.sv with learnRet := t.sv.learnRet + 1 } t)
  rw [heq, hv]
  exact ⟨hcount.tab, congrArg (fun v : Sv => { v with learnRet := v.learnRet + 1 }) hcount.sv⟩

end Sys2Proof.Machine
end

section
/-!
PROOFS. Channel and lane maps, repairs, substitutions, monitors and retired entries (O15).
-/

namespace Sys2Proof.Machine

theorem exec_entryRetire {learn : Bool} {q i : Nat} {s : State} (hres : inReset s = false) :
    exec (.entryRetire learn q i) s = .next (settle (entryRetire learn q i s)) :=
  done_eq (outOfReset_running (entryRetire learn q i) hres)

theorem exec_engineSubstDone {cl : Nat} {s t : State} (hcl : cl < 24) (h : engineDone cl s = t) :
    exec (.engineSubstDone cl) s = .next (settle t) := by
  calc exec (.engineSubstDone cl) s = done (engineDone (cl % 24) s) := rfl
    _ = .next (settle t) := by rw [Nat.mod_eq_of_lt hcl]; exact done_eq h

/-- The registers of an eye are none that the end of a command writes. -/
theorem eye_settles : ∀ n < 18, loc .LN_EYE n ∉ settleRegs := by decide

/-- Settles O15. -/
theorem sparesMapsAndMonitors : Obligations.SparesMapsAndMonitors := by
  refine ⟨?mapKept, ?mapBack, ?effect, ?effectWaits, ?effectMoves, ?moveTimeout, ?retired, ?lanes, ?apply, ?applyFails,
    ?read, ?repaired, ?step, ?lastStep, ?engineWaits, ?engineEnds, ?fault, ?faultNoSpare, ?eye, ?sensorLow, ?sensorWarn,
    ?learn, ?backlog⟩
  case mapKept =>
    intro m w d s hw hkeep
    refine writes_of_ctlWrite (exec_chmapWrite m d s hw) (congrArg some (writeChmap_kept fun o sp hmp hback => ?_))
    obtain ⟨j, hj, hsp, ho⟩ := hback
    exact hkeep o sp hmp j hj hsp ho
  case mapBack =>
    intro m w j o sp d s hw hmp hj hsp ho hopen
    obtain ⟨hsv, hregs⟩ := writeChmap_kept_moveAborted hmp ⟨j, hj, hsp, ho⟩
    obtain ⟨hmap, hevent, hlast⟩ := moveAborted_regs d o s hw
    have hkept (a : Nat) (ha : a ∈ [loc .HP_CHMAP 0 w, loc .SV_EVENT, loc .SV_LAST]) := hregs a (moveRegs_kept w hw a ha)
    refine ⟨writeChmap w d.toNat s, writes_of_ctlWrite (exec_chmapWrite m d s hw) rfl hopen,
      (hkept _ (by simp)).trans hmap, ?_, ?_, (fb_congr _ (hkept _ (by simp))).trans hevent,
      (fg_congr _ (hkept _ (by simp))).trans hlast⟩
    · exact (congrArg Sv.hmp hsv).trans rfl
    · exact congrArg Sv.hmpChan hsv
  case effect => exact fun n s hn hmp hout => done_chan (f := chmapEffect) hn (chmapEffect_idle hmp hout)
  case effectWaits => exact fun n s hn hmp hout => done_chan (f := chmapEffect) hn (chmapEffect_busy hmp hout)
  case effectMoves =>
    exact fun n o sp s hn hmp hchan hquiet hmap =>
      done_chan (f := chmapEffect) hn (chmapEffect_moving hmp hchan hquiet hmap)
  case moveTimeout => exact fun n s hchan => done_eq (hmpTimeout_eq hchan)
  case retired =>
    exact fun m d s hrel hbad => writes_of_ctlWrite (exec_lmapWrite m d s (by decide)) (writeLmap_retired hrel hbad)
  case lanes =>
    intro m w d t s hw hrel ht hbad
    subst ht
    have hloc : lmapLoc w = loc .SV_LMAP 0 w := if_neg (by omega)
    rw [← hloc]
    exact writes_of_ctlWrite (exec_lmapWrite m d s (by omega)) (writeLmap_lanes hw hrel hbad)
  case apply =>
    exact fun m d t s hbusy happly hread hstart =>
      writes_of_ctlWrite (eff := writeRepair d.toNat) rfl (writeRepair_apply hbusy happly hread hstart)
  case applyFails =>
    exact fun m d s hbusy happly hread hstart =>
      writes_of_ctlWrite (eff := writeRepair d.toNat) rfl (writeRepair_noSpare hbusy happly hread hstart)
  case read =>
    exact fun m d s hbusy happly hread =>
      writes_of_ctlWrite (eff := writeRepair d.toNat) rfl (writeRepair_read hbusy happly hread)
  case repaired =>
    intro i r rest s hr hroom
    obtain ⟨hsv, hcount, hbusy, hevent, hkind, hout⟩ := repairDone_fields hr hroom
    exact ⟨repairDone i s, rfl, congrArg Sv.repairs hsv, congrArg Sv.fixed hsv, hcount, hevent, hbusy, hkind, hout⟩
  case step =>
    exact fun n x s hx hpower hbegun hwaits href hswitch hstep hpark =>
      done_eq (substStep_next hx hpower hbegun hwaits href hswitch hstep hpark)
  case lastStep =>
    intro n x s hx hpower hbegun hstep hn hspare hne
    obtain rfl := substOf_from hx
    obtain ⟨hold, hnew, hevent, hretired⟩ := substFinish_fields s hne hspare hn
    exact ⟨substFinish x s, done_eq (substStep_last hx hpower hbegun hstep), hold, hnew, hevent, hretired⟩
  case engineWaits => exact fun cl x s hcl hx hctx hbusy => exec_engineSubstDone hcl (engineDone_waits hx hctx hbusy)
  case engineEnds =>
    exact fun cl x s hcl hx hctx hacts =>
      ⟨engineDone cl s, exec_engineSubstDone hcl rfl, engineDone_fields hcl hx hctx hacts⟩
  case fault =>
    intro cl e s hcl he hres hbusy hspare
    rw [exec_engineFault hcl he hres, engineFaulted_spare hbusy hspare]
  case faultNoSpare =>
    intro cl e s hcl he hres h
    rw [exec_engineFault hcl he hres, engineFaulted_noSpare h]
  case eye =>
    intro n h w s hn hh hw hlock hrun hmin wmin
    refine ⟨_, done_lane (f := fun n => eyeRefresh n h w) hn (eyeRefresh_within hh hw hlock hrun hmin wmin), ?_, ?_, ?_⟩
    · refine (rd_settle (eye_settles n hn) _).trans ((rd_wr_same ..).trans (Nat.mod_eq_of_lt ?_))
      omega
    · rw [(settle_settling _).sv]
      exact sget_sput_same 0 s.sv.eyeLow n 0
    · rw [(settle_settling _).sv]
      simp
  case sensorLow =>
    intro c v s hcold hcore hacts hmp hisl hrun hwarn hact
    obtain ⟨hmon, hwarned, hacted, hkept, -⟩ :=
      readEnded_fields c v (decide (fg (loc .SV_RO_THR) F.SV_RO_THR_WARN s ≤ v)) s
    refine ⟨_, done_eq (wearRead_one hcold hcore hacts hmp hisl hrun hact), ?_⟩
    rw [(settle_settling _).sv]
    refine ⟨hmon, ?_, hacted, hkept.trans hacts⟩
    rw [hwarned, decide_eq_false (Nat.not_le.mpr hwarn)]
    simp
  case sensorWarn =>
    intro c v s hcold hcore hacts hmp hisl hrun hwarn hact
    have hone := wearRead_one hcold hcore hacts hmp hisl hrun hact
    rw [decide_eq_true hwarn] at hone
    obtain ⟨hmon, hwarned, hacted, -, hregs⟩ := readEnded_fields c v true s
    obtain ⟨hnew, hold⟩ := belowAct_warn c v s
    refine ⟨_, done_eq hone, hmon, ?_, hacted, fun h => (fb_congr _ (rd_congr _ hregs)).trans (hnew h),
      fun h => (rd_congr _ hregs).trans (hold h)⟩
    rw [hwarned, if_pos rfl]
    split
    · next h => exact List.contains_iff_mem.mp h
    · exact List.mem_cons_self
  case learn =>
    intro q i s hres hi _
    obtain ⟨htab, hsv⟩ := entryRetire_learn (q := q) hi
    have hset := settle_settling (entryRetire true q i s)
    exact ⟨_, exec_entryRetire hres, hset.tab.trans htab, hset.sv.trans hsv⟩
  case backlog =>
    intro q i s hres hact hi _
    exact ⟨entryRetire false q i s, exec_entryRetire hres, entryRetire_stops hact hi⟩

end Sys2Proof.Machine
end

section
/-!
PROOFS. Alignment, defects, map cycles, page switches and connection memory of slot groups (O18).
-/

namespace Sys2Proof.Machine

/-! ## The registers of a group -/

/-- OS_CFG or OS_SW_STATE of a group. -/
def IsGroupReg (a : Nat) : Prop := ∃ g < 16, a = loc .OS_CFG g ∨ a = loc .OS_SW_STATE g

/-- What decides how a group follows and switches reads as before. -/
abbrev GroupKept : State → State → Prop := Kept IsGroupReg

theorem GroupKept.fg_swState {s t : State} (h : GroupKept s t) {g : Nat} (hg : g < 16) (f : Fld) :
    fg (loc .OS_SW_STATE g) f t = fg (loc .OS_SW_STATE g) f s := fg_congr f (h.regs _ ⟨g, hg, .inr rfl⟩)

theorem groupReg_quiet {a : Nat} (ha : IsGroupReg a) : Quiet a := by
  have hlow : ∀ g < 16, ∀ b ∈ [loc .OS_CFG g, loc .OS_SW_STATE g], b ∉ trafficRegs ∧
      ∀ n ∈ trafficRows, b % 4096 ≠ n.row.off % 4096 ∨ b < n.kind.first * 4096 := by decide
  obtain ⟨g, hg, h⟩ := ha
  obtain ⟨hreg, hrow⟩ := hlow g hg a (by simpa using h)
  exact quiet_of hreg hrow

/-- The end of a command writes no register that frames and links leave alone. -/
theorem Quiet.settles {a : Nat} (h : Quiet a) : a ∉ settleRegs := fun hmem => h.1 (List.mem_cons_of_mem _ hmem)

theorem linkCheck_groupKept (p : Nat) (s : State) : GroupKept s (linkCheck p s) :=
  (linkCheck_trafficKept p s).mono fun _ => groupReg_quiet

/-- The registers of the slot groups lie above those that the end of a command writes. -/
theorem slotReg_settles {a : Nat} (ha : 0x30000 ≤ a) : a ∉ settleRegs := by
  have hlow : ∀ b ∈ settleRegs, b < 0x30000 := by decide
  exact fun h => Nat.not_lt.mpr ha (hlow a h)

theorem memberReg_eq (g k : Nat) : loc .OS_MEMBER g k = 0x30100 + 4096 * g + 4 * k := by
  change (0x30 + g) * 4096 + 0x100 + 4 * k = _
  omega

theorem eventReg_eq (g : Nat) : loc .OS_EVENT g = 0x30400 + 4096 * g := by
  change (0x30 + g) * 4096 + 0x400 + 4 * 0 = _
  omega

/-- A member in use has one of 17 indices. -/
theorem usable_lt {g k : Nat} {s : State} (hk : k ∈ usable g s) : k < 17 :=
  List.mem_range.mp (List.mem_filter.mp (List.mem_filter.mp hk).1).1

theorem memberReg_other {g k : Nat} (hk : k < 17) : ¬ IsGroupReg (loc .OS_MEMBER g k) := by
  have hmember := memberReg_eq g k
  rintro ⟨j, -, h | h⟩
  · have hcfg : loc .OS_CFG j % 4096 = 0x80 := loc_mod .OS_CFG j
    omega
  · have hswitch : loc .OS_SW_STATE j % 4096 = 0x88 := loc_mod .OS_SW_STATE j
    omega

theorem eventReg_other (g : Nat) : ¬ IsGroupReg (loc .OS_EVENT g) := by
  rintro ⟨j, -, h⟩
  exact h.elim (loc_ne_of_off (by decide) g j) (loc_ne_of_off (by decide) g j)

/-- A command that names a group by its low four bits. -/
theorem done_group {f : Nat → State → State} {g : Nat} {s t : State} (hg : g < 16) (h : f g s = t) :
    done (f (g % 16) s) = .next (settle t) := by
  rw [Nat.mod_eq_of_lt hg]
  exact done_eq h

/-! ## Overhead blocks (R144, R146, R157) -/

theorem overheadIn_member {n g k : Nat} {s : State} (hdr pos skew : Nat) (b : Bytes) (h : laneMember n s = some (g, k)) :
    overheadIn n hdr pos skew b s = memberBlock g k hdr pos skew b s := by rw [overheadIn, h]

theorem overheadIn_spare {n : Nat} {s : State} (hdr pos skew : Nat) (b : Bytes) (h : laneMember n s = none)
    (hspare : laneRole n s = 1) : overheadIn n hdr pos skew b s = spareBlock n hdr pos skew b s := by
  rw [overheadIn, h]
  exact if_pos hspare

section
variable {g k hdr pos skew : Nat} {b : Bytes} {s : State}

/-- The next good overhead at the expected position is taken. -/
theorem memberBlock_good (hin : inFrame g k (setSkew g k skew s) = true) (hpos : pos % 40961 = (getMem g k s).pos)
    (hseed : overSeed hdr b = true) (hnum : (overOf b).fnum = ((getMem g k s).fnum + 1) % 32) :
    memberBlock g k hdr pos skew b s = goodOverhead g k (overOf b) (discardCount g k (setSkew g k skew s)) :=
  (if_pos hin).trans ((if_neg (not_not_intro hpos)).trans (if_pos ⟨hseed, hnum⟩))

/-- Another block at the expected position is a bad overhead. -/
theorem memberBlock_bad (hin : inFrame g k (setSkew g k skew s) = true) (hpos : pos % 40961 = (getMem g k s).pos)
    (hbad : overSeed hdr b = false ∨ (overOf b).fnum ≠ ((getMem g k s).fnum + 1) % 32) :
    memberBlock g k hdr pos skew b s = memUpdate g k (badOverhead g k (overType hdr b && !overCrc b)
      (discardCount g k (setSkew g k skew s))) := by
  have hnot : ¬ (overSeed hdr b = true ∧ (overOf b).fnum = ((getMem g k s).fnum + 1) % 32) :=
    fun h => hbad.elim (fun hseed => absurd h.1 (by simp [hseed])) (fun hnum => hnum h.2)
  exact (if_pos hin).trans ((if_neg (not_not_intro hpos)).trans (if_neg hnot))

/-- In frame, a block away from the expected position is none of the member's overheads. -/
theorem memberBlock_elsewhere (hin : inFrame g k (setSkew g k skew s) = true)
    (hpos : pos % 40961 ≠ (getMem g k s).pos) :
    memberBlock g k hdr pos skew b s = memUpdate g k (setSkew g k skew s) := (if_pos hin).trans (if_pos hpos)

end

/-! ## LOS (R146, R147) -/

theorem losDeclare_member {n g k what : Nat} {s : State} (h : laneMember n s = some (g, k))
    (hlos : fb (loc .OS_MEMBER g k) F.OS_MEMBER_LOS s = false) (hwhat : what &&& 0xB ≠ 0) :
    losDeclare n what s = doIf (inFrame g k s && (getMem g k s).fnum == 31) (rxPageUpdate g) (memUpdate g k (hunt g k
      (setDefect g k F.OS_MEMBER_LOS F.OS_EVENT_LOS 9 true (laneLost n (what &&& 0xB) s)))) := by
  rw [losDeclare, h]
  exact if_neg (by simp [hlos, hwhat])

theorem losClear_member {n g k : Nat} {s : State} (h : laneMember n s = some (g, k))
    (hlos : fb (loc .OS_MEMBER g k) F.OS_MEMBER_LOS s = true) :
    losClear n s = memUpdate g k (setDefect g k F.OS_MEMBER_LOS F.OS_EVENT_LOS 9 false
      (setLn F.LN_STATUS_AM_LOCK 1 n (setLn F.LN_STATUS_CDR_LOCK 1 n (setLn F.LN_STATUS_SIG_DET 1 n s)))) := by
  rw [losClear, h]
  exact if_pos hlos

/-! ## Map comparison (R149) -/

theorem occur_settling (i : Nat) (s : State) : Settling s (occur i s) := by
  unfold occur
  split
  · exact .refl s
  · exact bump_settling i s

/-- A flag that is set stays set when the hardware sets a flag of any register, its own among them. -/
theorem fb_setFlag_stays {a : Nat} (b : Nat) {f : Fld} (e : Fld) {s : State} (hf : f.hi = f.lo) (hw : f.lo < 32)
    (h : fb a f s = true) : fb a f (setFlag b e s) = true := by
  by_cases hab : a = b
  · subst hab
    exact fb_setFlag_keeps e hf hw h
  · exact (fb_congr f (rd_setFlag_other b a e s hab)).trans h

/-- A map mismatch that is new sets its event and counts. -/
def mismatchShown (g : Nat) (s : State) : State :=
  occur (cGroup g 6) (setFlag (loc .OS_EVENT g) F.OS_EVENT_MAP_MISMATCH s)

theorem mismatchShown_groupKept (g : Nat) (s : State) : GroupKept s (mismatchShown g s) :=
  .after ((occur_trafficKept ..).mono fun _ => groupReg_quiet) (wr_kept (eventReg_other g) ..)

/-- The clients that two maps name where they differ. -/
def mapNamed (peer own : List Nat) : List Nat := (peer.zip own).flatMap (fun x => if x.1 = x.2 then [] else [x.1, x.2])

/-- A member after a cycle that is not its first to differ. -/
def mismatched (g k : Nat) (s : State) : Member := { getMem g k s with
  mapBad := (getMem g k s).mapBad + 1, mapGood := 0
  mmClients := mapNamed (getMem g k s).map (ownMap g k (getMem g k s).mapPage s) }

section
variable {g k : Nat} {s : State}

/-- A member whose cycle is not complete, or was sent with SW_REQ = 1, is not compared. -/
theorem mapCompare_skipped (h : (getMem g k s).mapDone = false ∨ (getMem g k s).mapReq = true) : mapCompare g k s = s :=
  if_pos h

/-- The first cycle that matches changes no register. -/
theorem mapCompare_matchesFirst (h : ¬ ((getMem g k s).mapDone = false ∨ (getMem g k s).mapReq = true))
    (hmap : (getMem g k s).map = ownMap g k (getMem g k s).mapPage s) (hgood : ¬ 1 ≤ (getMem g k s).mapGood) :
    mapCompare g k s = setMem g k { getMem g k s with mapGood := (getMem g k s).mapGood + 1, mapBad := 0 } s :=
  (if_neg h).trans ((if_pos hmap).trans (if_neg (by omega)))

/-- A further cycle that matches clears the mismatch. -/
theorem mapCompare_matches (h : ¬ ((getMem g k s).mapDone = false ∨ (getMem g k s).mapReq = true))
    (hmap : (getMem g k s).map = ownMap g k (getMem g k s).mapPage s) (hgood : 1 ≤ (getMem g k s).mapGood) :
    mapCompare g k s = fs (loc .OS_MEMBER g k) F.OS_MEMBER_MAP_MM 0 (setMem g k
      { getMem g k s with mapGood := (getMem g k s).mapGood + 1, mapBad := 0, mmClients := [] } s) :=
  (if_neg h).trans ((if_pos hmap).trans (if_pos (by omega)))

/-- The first cycle that differs changes no register. -/
theorem mapCompare_differsFirst (h : ¬ ((getMem g k s).mapDone = false ∨ (getMem g k s).mapReq = true))
    (hmap : (getMem g k s).map ≠ ownMap g k (getMem g k s).mapPage s) (hbad : ¬ 1 ≤ (getMem g k s).mapBad) :
    mapCompare g k s = setMem g k { getMem g k s with mapBad := (getMem g k s).mapBad + 1, mapGood := 0 } s :=
  (if_neg h).trans ((if_neg hmap).trans (if_neg (by omega)))

/-- A further cycle that differs declares the mismatch, with its event where it is new. -/
theorem mapCompare_differs (h : ¬ ((getMem g k s).mapDone = false ∨ (getMem g k s).mapReq = true))
    (hmap : (getMem g k s).map ≠ ownMap g k (getMem g k s).mapPage s) (hbad : 1 ≤ (getMem g k s).mapBad) :
    mapCompare g k s = doIf (!fb (loc .OS_MEMBER g k) F.OS_MEMBER_MAP_MM s) (mismatchShown g)
      (fs (loc .OS_MEMBER g k) F.OS_MEMBER_MAP_MM 1 (setMem g k (mismatched g k s) s)) :=
  (if_neg h).trans ((if_neg hmap).trans (if_pos (by omega)))

/-- A declared mismatch shows in OS_MEMBER, names its clients, and where it is new sets its event. -/
theorem mapCompare_declares (h : ¬ ((getMem g k s).mapDone = false ∨ (getMem g k s).mapReq = true))
    (hmap : (getMem g k s).map ≠ ownMap g k (getMem g k s).mapPage s) (hbad : 1 ≤ (getMem g k s).mapBad) :
    fb (loc .OS_MEMBER g k) F.OS_MEMBER_MAP_MM (mapCompare g k s) = true ∧
    (getMem g k (mapCompare g k s)).mmClients = mapNamed (getMem g k s).map (ownMap g k (getMem g k s).mapPage s) ∧
    (fb (loc .OS_MEMBER g k) F.OS_MEMBER_MAP_MM s = false →
      fb (loc .OS_EVENT g) F.OS_EVENT_MAP_MISMATCH (mapCompare g k s) = true) := by
  have hmember : loc .OS_MEMBER g k ∉ settleRegs := slotReg_settles (by rw [memberReg_eq]; omega)
  have hevent : loc .OS_EVENT g ∉ settleRegs := slotReg_settles (by rw [eventReg_eq]; omega)
  generalize hu : fs (loc .OS_MEMBER g k) F.OS_MEMBER_MAP_MM 1 (setMem g k (mismatched g k s) s) = u
  have hset : fb (loc .OS_MEMBER g k) F.OS_MEMBER_MAP_MM u = true := by
    rw [fb, ← hu, fg_fs_same _ _ _ (by decide) (by decide)]
    rfl
  have hos : getMem g k u = mismatched g k s := by
    rw [← hu]
    exact sget_sput_same ..
  rw [mapCompare_differs h hmap hbad, hu]
  cases fb (loc .OS_MEMBER g k) F.OS_MEMBER_MAP_MM s with
  | true => exact ⟨hset, congrArg Member.mmClients hos, nofun⟩
  | false =>
    have hshown : Settling (setFlag (loc .OS_EVENT g) F.OS_EVENT_MAP_MISMATCH u) (mismatchShown g u) := occur_settling ..
    refine ⟨?_, ?_, fun _ => ?_⟩
    · exact (fb_congr _ (hshown.regs _ hmember)).trans (fb_setFlag_stays _ F.OS_EVENT_MAP_MISMATCH rfl (by decide) hset)
    · exact (congrArg (fun o : Os => (sget Member.reset o.members (memKey g k)).mmClients) hshown.os).trans
        (congrArg Member.mmClients hos)
    · exact (fb_congr _ (hshown.regs _ hevent)).trans (fb_setFlag_same _ _ rfl (by decide))

theorem mapCompare_groupKept (hk : k < 17) : GroupKept s (mapCompare g k s) := by
  have hmm (v : Nat) (m : Member) : GroupKept s (fs (loc .OS_MEMBER g k) F.OS_MEMBER_MAP_MM v (setMem g k m s)) :=
    .after (wr_kept (memberReg_other hk) ..) (.of_same ⟨rfl, rfl⟩)
  by_cases h : (getMem g k s).mapDone = false ∨ (getMem g k s).mapReq = true
  · rw [mapCompare_skipped h]
    exact .refl s
  by_cases hmap : (getMem g k s).map = ownMap g k (getMem g k s).mapPage s
  · by_cases hgood : 1 ≤ (getMem g k s).mapGood
    · rw [mapCompare_matches h hmap hgood]
      exact hmm ..
    · rw [mapCompare_matchesFirst h hmap hgood]
      exact .of_same ⟨rfl, rfl⟩
  · by_cases hbad : 1 ≤ (getMem g k s).mapBad
    · rw [mapCompare_differs h hmap hbad]
      exact .after (.doIf (mismatchShown_groupKept g) ..) (hmm ..)
    · rw [mapCompare_differsFirst h hmap hbad]
      exact .of_same ⟨rfl, rfl⟩

end

theorem follow_off {g : Nat} {s : State} (h : fb (loc .OS_CFG g) F.OS_CFG_FOLLOW s = false) : follow g s = s :=
  if_neg fun hon => absurd (h.symm.trans hon.1) (by decide)

theorem switchAck_other {g : Nat} {s : State} (h : swState g s ≠ 2) : switchAck g s = s := if_neg fun hreq => h hreq.1

/-- A map cycle of a group that neither follows nor switches compares the maps of the usable members. -/
theorem mapCycle_compares {g : Nat} {s : State} (hg : g < 16) (hfollow : fb (loc .OS_CFG g) F.OS_CFG_FOLLOW s = false)
    (hidle : swState g s = 0) : mapCycle g s = forEach (clientPorts g s) linkCheck
      (forEach (usable g s) (fun k t => setMem g k { getMem g k t with mapDone := false } t)
        (forEach (usable g s) (mapCompare g) s)) := by
  generalize hc : forEach (usable g s) (mapCompare g) s = c
  have hkept : GroupKept s c := by
    rw [← hc]
    exact .forEach_mem (fun k hk _ => mapCompare_groupKept (usable_lt hk)) s
  have hstate : swState g c = 0 := (hkept.fg_swState hg _).trans hidle
  have hnone : follow g c = c := follow_off ((fb_congr _ (hkept.regs _ ⟨g, hg, .inl rfl⟩)).trans hfollow)
  rw [mapCycle]
  dsimp only
  rw [hc, hnone, if_neg (by simp [hstate]), switchAck_other (by simp [hstate])]

/-! ## Page switches (R154, R155) -/

theorem scLoc_other (p : Nat) : ¬ IsGroupReg (scLoc .SC_PRATE p) := by
  have hrate : 0xB0000 ≤ scLoc .SC_PRATE p := by
    change 0xB0000 ≤ (0xB0 + p / 4) * 4096 + 0x104 + 64 * (p % 4)
    omega
  have hlow : ∀ g < 16, loc .OS_CFG g < 0xB0000 ∧ loc .OS_SW_STATE g < 0xB0000 := by decide
  rintro ⟨g, hg, h⟩
  have := hlow g hg
  omega

theorem paceClients_groupKept (g pg : Nat) (f : Nat → Nat → Bool) (s : State) : GroupKept s (paceClients g pg f s) := by
  refine .forEach (fun c t => ?_) ..
  dsimp only
  split
  · exact .ite (.after (wr_kept (scLoc_other _) ..) (.of_same ⟨rfl, rfl⟩)) (.refl t)
  · exact .refl t

theorem swState_setSw (g : Nat) {v : Nat} (s : State) (hv : v < 8) : swState g (setSw g v s) = v :=
  (fg_fs_same _ _ _ (by decide) (by decide)).trans (Nat.mod_eq_of_lt hv)

/-- The state of a switch lies below the other fields of OS_SW_STATE. -/
theorem fg_setSw_beside (g v : Nat) (s : State) {f : Fld} (hf : 2 < f.lo) :
    fg (loc .OS_SW_STATE g) f (setSw g v s) = fg (loc .OS_SW_STATE g) f s :=
  fg_fs_beside _ _ _ (by decide) (by decide) (.inr hf)

/-- From REQ an acknowledgement goes to ACKED, and nothing else moves the state. -/
theorem swState_switchAck {g : Nat} {s : State} (hg : g < 16) (h : swState g s = 2) :
    swState g (switchAck g s) = 2 ∨ swState g (switchAck g s) = 3 := by
  unfold switchAck
  split
  · exact .inr (((paceClients_groupKept ..).fg_swState hg _).trans (swState_setSw g _ (by decide)))
  · exact .inl h

/-- The transmit frame 0 of a switch from REQ to COMMITTED advertises the target. -/
theorem txFrame0_running {g : Nat} {a : Bool} {s t : State} (ht : switchFrame0 g a s = t) (hlow : 2 ≤ swState g t)
    (hhigh : swState g t ≤ 4) : txFrame0 g a s = setGrp g { getGrp g t with adv := swTarget g t } t := by
  rw [txFrame0]
  dsimp only
  rw [ht, if_pos (by simp [hlow, hhigh])]

/-- An armed switch requests. -/
theorem switchFrame0_armed {g : Nat} {a : Bool} {s : State} (hclear : (getGrp g s).clear = false)
    (hstate : swState g s = 1) :
    switchFrame0 g a s = switchAck g (setSw g 2 (setGrp g { getGrp g s with swReq := true } s)) := by
  simp [switchFrame0, hclear, hstate]

/-- The group as an acknowledged switch commits. -/
def switchCommitted (g : Nat) (s : State) : State :=
  forEach (clientPorts g s) linkCheck (paceClients g (swTarget g s) (fun a b => a != b)
    (setSw g 4 (fs (loc .OS_SW_STATE g) F.OS_SW_STATE_TX_PAGE (swTarget g s) s)))

/-- An acknowledged switch commits where the peer has acknowledged. -/
theorem switchFrame0_acked {g : Nat} {s : State} (hclear : (getGrp g s).clear = false) (hstate : swState g s = 3)
    (hpeer : peerAck g s = true) : switchFrame0 g true s = switchSettle g (switchCommitted g s) := by
  simp [switchFrame0, hclear, hstate, hpeer, switchCommitted]

theorem switchCommitted_fields {g : Nat} {s : State} (hg : g < 16) (htarget : swTarget g s < 2) :
    swState g (switchCommitted g s) = 4 ∧ txPage g (switchCommitted g s) = swTarget g s ∧
    rxPage g (switchCommitted g s) = rxPage g s ∧ swTarget g (switchCommitted g s) = swTarget g s := by
  have hkept : GroupKept _ (switchCommitted g s) := .after (.forEach linkCheck_groupKept ..) (paceClients_groupKept ..)
  have hbeside {f : Fld} (hf : 2 < f.lo) (hpage : f.hi < 8 ∨ 8 < f.lo) :
      fg (loc .OS_SW_STATE g) f (switchCommitted g s) = fg (loc .OS_SW_STATE g) f s :=
    (hkept.fg_swState hg f).trans ((fg_setSw_beside _ _ _ hf).trans (fg_fs_beside _ _ _ (by decide) (by decide) hpage))
  refine ⟨?_, ?_, hbeside (by decide) (by decide), hbeside (by decide) (by decide)⟩
  · exact (hkept.fg_swState hg _).trans (swState_setSw g _ (by decide))
  · calc txPage g (switchCommitted g s)
        = txPage g (fs (loc .OS_SW_STATE g) F.OS_SW_STATE_TX_PAGE (swTarget g s) s) :=
          (hkept.fg_swState hg _).trans (fg_setSw_beside _ _ _ (by decide))
      _ = swTarget g s % 2 := fg_fs_same _ _ _ (by decide) (by decide)
      _ = swTarget g s := Nat.mod_eq_of_lt htarget

/-- A switch waits for RX_PAGE. -/
theorem switchSettle_waits {g : Nat} {s : State} (h : rxPage g s ≠ swTarget g s) : switchSettle g s = s :=
  if_neg fun hend => h hend.2

/-- A transmit frame 0 that commits leaves the switch COMMITTED on its target until the peer's page follows. -/
theorem txFrame0_commits {g : Nat} {s : State} (hg : g < 16) (hclear : (getGrp g s).clear = false)
    (hstate : swState g s = 3) (hpeer : peerAck g s = true) (hrx : rxPage g s ≠ swTarget g s)
    (htarget : swTarget g s < 2) : swState g (settle (txFrame0 g true s)) = 4 ∧
      txPage g (settle (txFrame0 g true s)) = swTarget g s := by
  obtain ⟨hfour, htx, hrxKept, htargetKept⟩ := switchCommitted_fields hg htarget
  have hframe : switchFrame0 g true s = switchCommitted g s :=
    (switchFrame0_acked hclear hstate hpeer).trans (switchSettle_waits (by rw [hrxKept, htargetKept]; exact hrx))
  have hsettles : loc .OS_SW_STATE g ∉ settleRegs := (groupReg_quiet ⟨g, hg, .inr rfl⟩).settles
  have hrd : rd (loc .OS_SW_STATE g) (settle (txFrame0 g true s)) = rd (loc .OS_SW_STATE g) (switchCommitted g s) := by
    rw [rd_settle hsettles, txFrame0_running hframe (by omega) (by omega)]
    rfl
  exact ⟨(fg_congr _ hrd).trans hfour, (fg_congr _ hrd).trans htx⟩

/-- A time-out ends a switch with the status of the state it is in. -/
theorem switchTimeout_ends {g : Nat} {s : State} (h : swState g s ∈ [2, 3, 4]) :
    switchTimeout g s = switchEnd g (if swState g s = 2 then (if peerReq g s then 0x49 else 0x48)
      else if swState g s = 3 then 0x4A else 0x4B) s := by
  simp only [List.mem_cons, List.not_mem_nil, or_false] at h
  rcases h with h | h | h <;> simp [switchTimeout, h]

/-! ## Connection memory and clients (R153, R160) -/

theorem exec_cmDataWrite (m : Master) {g : Nat} (d : W32) (s : State) (hg : g < 16) : exec (.cmDataWrite m g d) s =
    done (ctlWrite m (loc .OS_CM_DATA g) d.toNat (writeCm g d.toNat) s (cmAdvance g)) := by
  calc exec (.cmDataWrite m g d) s = execCmDataWrite m g d s := rfl
    _ = _ := by rw [execCmDataWrite, Nat.mod_eq_of_lt hg]

theorem exec_cmCopy (m : Master) {g : Nat} (d : W32) (s : State) (hg : g < 16) : exec (.cmCopy m g d) s =
    done (ctlWrite m (loc .OS_SW_CTRL g) d.toNat (writeSwCtrl g d.toNat) s) := by
  calc exec (.cmCopy m g d) s = execCmCopy m g d s := rfl
    _ = _ := by rw [execCmCopy, Nat.mod_eq_of_lt hg]

theorem exec_osClientWrite (m : Master) {g c : Nat} (d : W32) (s : State) (hg : g < 16) (hc : c < 63) :
    exec (.osClientWrite m g c d) s =
      done (ctlWrite m (loc .OS_CLIENT g c) d.toNat (writeClient g c d.toNat) s) := by
  calc exec (.osClientWrite m g c d) s = execOsClientWrite m g c d s := rfl
    _ = _ := by rw [execOsClientWrite, Nat.mod_eq_of_lt hg, Nat.mod_eq_of_lt hc]

/-- A slot of the group is written in a page not in use, and the pointer advances. -/
theorem writeCm_standby {g : Nat} {s : State} (d : Nat) (htx : (cmPtr g s).1 ≠ txPage g s)
    (hrx : (cmPtr g s).1 ≠ rxPage g s) (hidle : swState g s = 0) (hslot : (grpSlots g s).contains (cmPtr g s).2 = true) :
    writeCm g d s = some (cmAdvance g (cmPut (cmPtr g s).1 (cmPtr g s).2 (d % 64) s)) :=
  if_neg (by rw [hslot, hidle]; simp [htx, hrx])

/-- COPY takes the page in use into the other. -/
theorem writeSwCtrl_copies {g d : Nat} {s : State} (hcopy : bit d 31 = true) (hpage : txPage g s = rxPage g s)
    (hidle : swState g s = 0) :
    writeSwCtrl g d s = some (cmCopy g (txPage g s) (wr (loc .OS_SW_CTRL g) (d % 256) s)) :=
  (if_neg (by simp [hpage, hidle])).trans (congrArg some (if_pos hcopy))

/-- A client entry that is free, and carries no slot, takes a slotted port of its group. -/
theorem writeClient_new {g c d : Nat} {s : State} (hfree : fb (loc .OS_CLIENT g c) F.OS_CLIENT_VALID s = false)
    (hvalid : bit d 31 = true) (htx : clientSlots g c (txPage g s) s = 0) (hrx : clientSlots g c (rxPage g s) s = 0)
    (hidle : swState g s = 0) (hport : isClient (bits d 29 24) s = true)
    (hgroup : portGroup s.prof.cur (bits d 29 24) = g) :
    writeClient g c d s = some (linkCheck (bits d 29 24) (linkCheck (fg (loc .OS_CLIENT g c) F.OS_CLIENT_PORT s)
      (wr (loc .OS_CLIENT g c) (2 ^ 31 + bits d 29 24 * 2 ^ 24) s))) := by
  have hchange : ¬ (bit d 31 = fb (loc .OS_CLIENT g c) F.OS_CLIENT_VALID s ∧
      bits d 29 24 = fg (loc .OS_CLIENT g c) F.OS_CLIENT_PORT s) := by simp [hfree, hvalid]
  have hword : b2n (bit d 31) * 2 ^ 31 + bits d 29 24 * 2 ^ 24 = 2 ^ 31 + bits d 29 24 * 2 ^ 24 := by
    rw [hvalid]
    rfl
  rw [writeClient]
  dsimp only
  rw [if_neg hchange, if_neg (by simp [htx, hrx, hidle, hport, hgroup]), hword]

/-- Settles O18: each command meets the branch its hypotheses name, and what decides a group's switch (`GroupKept`) outlasts
the map comparisons, the pacing and the link changes on the way. -/
theorem slotGroups : Obligations.SlotGroups := by
  refine ⟨?member, ?spare, ?good, ?bad, ?elsewhere, ?los, ?losEnds, ?cycle, ?mapMatches, ?mapDiffers, ?request, ?commit,
    ?timeout, ?entry, ?copy, ?client⟩
  case member =>
    exact fun n g k hdr pos skew b s hn h =>
      done_lane (f := fun n => overheadIn n hdr pos skew b) hn (overheadIn_member hdr pos skew b h)
  case spare =>
    exact fun n hdr pos skew b s hn h hrole =>
      done_lane (f := fun n => overheadIn n hdr pos skew b) hn (overheadIn_spare hdr pos skew b h hrole)
  case good => exact fun g k hdr pos skew b s => memberBlock_good
  case bad => exact fun g k hdr pos skew b s => memberBlock_bad
  case elsewhere => exact fun g k hdr pos skew b s => memberBlock_elsewhere
  case los =>
    exact fun n g k what s hn h hlos hwhat =>
      done_lane (f := fun n => losDeclare n what) hn (losDeclare_member h hlos hwhat)
  case losEnds => exact fun n g k s hn h hlos => done_lane (f := losClear) hn (losClear_member h hlos)
  case cycle => exact fun g s hg hfollow hidle => done_group (f := mapCycle) hg (mapCycle_compares hg hfollow hidle)
  case mapMatches => exact fun g k s hdone hreq => mapCompare_matches (by simp [hdone, hreq])
  case mapDiffers => exact fun g k s hdone hreq => mapCompare_declares (by simp [hdone, hreq])
  case request =>
    intro g b s hg hclear hstate
    have hrun := swState_switchAck hg (swState_setSw g (setGrp g { getGrp g s with swReq := true } s) (by decide))
    exact done_group (f := fun g => txFrame0 g b) hg
      (txFrame0_running (switchFrame0_armed hclear hstate) (by omega) (by omega))
  case commit =>
    exact fun g s hg hclear hstate hpeer hrx htarget =>
      ⟨_, done_group (f := fun g => txFrame0 g true) hg rfl, txFrame0_commits hg hclear hstate hpeer hrx htarget⟩
  case timeout => exact fun g s hg h => done_group (f := switchTimeout) hg (switchTimeout_ends h)
  case entry =>
    intro m g d s hg htx hrx hidle hslot hopen
    rw [exec_cmDataWrite m d s hg]
    exact done_eq (ctlWrite_open hopen (writeCm_standby d.toNat htx hrx hidle hslot))
  case copy =>
    exact fun m g d s hg hcopy hpage hidle =>
      writes_of_ctlWrite (exec_cmCopy m d s hg) (writeSwCtrl_copies hcopy hpage hidle)
  case client =>
    exact fun m g c d s hg hc hfree hvalid htx hrx hidle hport hgroup =>
      writes_of_ctlWrite (exec_osClientWrite m d s hg hc) (writeClient_new hfree hvalid htx hrx hidle hport hgroup)

end Sys2Proof.Machine
end

section
/-!
PROOFS. Received frames from their first cell to their end, and the pause timers (O19).
-/

namespace Sys2Proof.Machine

/-! ## Ports of the receive MAC -/

theorem getRx_setRx_same (p : Nat) (v : RxPort) (s : State) : getRx p (setRx p v s) = v := sget_sput_same ..

theorem getRx_setRx_other {p q : Nat} (v : RxPort) (s : State) (hq : q ≠ p) : getRx q (setRx p v s) = getRx q s :=
  sget_sput_other _ _ _ _ _ _ hq

theorem getRx_congr {s t : State} (p : Nat) (h : t.dp = s.dp) : getRx p t = getRx p s := by rw [getRx, getRx, h]

theorem getRx_settle (p : Nat) (s : State) : getRx p (settle s) = getRx p s := getRx_congr p (settle_settling s).dp

/-- The end of a command writes no register at another offset of its page. -/
theorem reg_settles {n : RegName} (hoff : ∀ a ∈ settleRegs, a % 4096 ≠ n.row.off % 4096) (k : Nat) :
    loc n k ∉ settleRegs := fun h => hoff _ h (loc_mod n k)

/-- What may pass a crossing passes (R21). -/
theorem crossing_passes {ok : Bool} (i : Instr) (f : State → State) (s : State) (h : ok = true) :
    crossing ok i f s = f s := if_pos h

/-! ## Cells (R161, R163) -/

theorem exec_rxCellTaken {p : Nat} {b : List Byte} {code : Bool} {s t : State} (hp : p < 64) (hpass : rxPasses p s = true)
    (h : cellTaken p b code s = t) : exec (.rxCellTaken p b code) s = .next (settle t) := by
  calc exec (.rxCellTaken p b code) s = done (cellItem p b code s) := rfl
    _ = .next (settle t) := by
      rw [cellItem, Nat.mod_eq_of_lt hp, crossing_passes _ _ _ hpass]
      exact done_eq h

section
variable {p : Nat} {b : Bytes} (code : Bool) {s : State} (hrecv : receives p s = true) (hb : b ≠ []) (hlen : b.length ≤ 256)
include hrecv hb hlen

theorem cellTaken_opens (hcur : (getRx p s).cur = none) : cellTaken p b code s =
    noteCode s.dp.nextFrame code (rxBytes s.dp.nextFrame b
      (setRx p { getRx p (rxOpen p false s).2 with cur := some s.dp.nextFrame } (rxOpen p false s).2)) := by
  rw [cellTaken, if_neg (by simp [hrecv, hb]), List.take_of_length_le hlen, hcur]
  rfl

theorem cellTaken_joins {f : Nat} (hcur : (getRx p s).cur = some f) :
    cellTaken p b code s = noteCode f code (rxBytes f b s) := by
  rw [cellTaken, if_neg (by simp [hrecv, hb]), List.take_of_length_le hlen, hcur]

end

/-! ## The end of a frame (R162 to R165, R184, R186) -/

theorem exec_rxFrameEnd {p f : Nat} {code : Bool} {s t : State} (hp : p < 64) (hpass : rxPasses p s = true)
    (hcur : (getRx p s).cur = some f) (h : rxEnd f code (setRx p { getRx p s with cur := none } s) = t) :
    exec (.rxFrameEnd p code) s = .next (settle t) := by
  have hend : frameEnd p code s = t := by rw [frameEnd, hcur]; exact h
  calc exec (.rxFrameEnd p code) s = done (endItem p code s) := rfl
    _ = .next (settle t) := by
      rw [endItem, Nat.mod_eq_of_lt hp, crossing_passes _ _ _ hpass]
      exact done_eq hend

/-- A frame whose bytes are all there, with the check sequence of the others at its end, passes the checks of its length and
of its FCS. -/
theorem passes_of_fcs {g : Frame} (hlen : g.data.length = g.len)
    (hfcs : fcs (g.data.take (g.len - 4)) = Bytes.toNat (g.data.drop (g.len - 4))) :
    tooLong g = false ∧ badFcs g = false := by
  have hwhole : tooLong g = false := by simp [tooLong, hlen]
  exact ⟨hwhole, by simp [badFcs, hwhole, hlen, hfcs]⟩

/-- Of the failed checks, a code error comes before the length and the length before the FCS (R165). -/
theorem firstFail_of_failed {code long bad : Bool} (h : (code || bad) = true) :
    firstFail code long bad = if code then stRxCode else if long then stRxLong else stRxFcs := by
  cases code
  · obtain rfl : bad = true := h
    rfl
  · rfl

theorem firstFail_ne_zero {code long bad : Bool} (h : (code || bad) = true) : (firstFail code long bad == 0) = false := by
  rw [firstFail_of_failed h]
  cases code <;> cases long <;> rfl

section
variable {f : Nat} {g : Frame} {t : State} (code : Bool) (hg : getF f t = some g)
include hg

theorem rxEnd_disabled (hdiscard : g.discard = 1) : rxEnd f code t =
    forgetRx g.id (bump (cPort g.port 38) (doIf (64 ≤ g.len) (rateAdd g.port false g.len) t)) := by
  simp [rxEnd, hg, hdiscard, discardEnd, doIf]

theorem rxEnd_asleep (hdiscard : g.discard = 2) : rxEnd f code t =
    doIf (decide (64 ≤ g.len) && !badFcs g) (wakeFrame g.port g.data)
      (forgetRx g.id (bump (cPort g.port 37) (doIf (64 ≤ g.len) (rateAdd g.port false g.len) t))) := by
  simp [rxEnd, hg, hdiscard, discardEnd, doIf]

theorem rxEnd_runt (hdiscard : g.discard = 0) (hlen : g.len < 64) : rxEnd f code t =
    if g.space = 0 then forgetRx f (bump (cPort g.port 2) t) else dropEverywhere f (bump (cPort g.port 2) t) := by
  simp [rxEnd, hg, hdiscard, hlen, Nat.not_le.mpr hlen]

/-- A frame that is kept and no runt is counted by its checks; it acts where it is a control frame that passes them, and it
completes, or is forgotten where the MAC consumes it. -/
theorem rxEnd_checked (hdiscard : g.discard = 0) (hlen : 64 ≤ g.len) {fail : Nat}
    (hfail : firstFail (code || g.code) (tooLong g) (badFcs g) = fail) {u : State}
    (hu : doIf ((g.ctrl || g.consumed) && fail == 0) (controlAct g.port g.data)
      (doIf (fail == 0) (fun v => bumpBy (cPort g.port 1) g.len (bump (cPort g.port 0) v))
        (countChecks g (code || g.code) (rateAdd g.port false g.len t))) = u) :
    rxEnd f code t = if g.consumed then forgetRx f u
      else rxComplete f (setF { g with len := g.data.length, fail := fail, ended := true } u) := by
  subst hfail hu
  simp [rxEnd, hg, hdiscard, Nat.not_lt.mpr hlen, hlen, doIf]

/-- A frame that passes its checks is counted as good. -/
theorem rxEnd_good (hdiscard : g.discard = 0) (hlen : 64 ≤ g.len) (hcode : (code || g.code) = false)
    (hwhole : g.data.length = g.len)
    (hfcs : fcs (g.data.take (g.len - 4)) = Bytes.toNat (g.data.drop (g.len - 4))) :
    rxEnd f code t = if g.consumed
      then forgetRx f (controlAct g.port g.data
        (bumpBy (cPort g.port 1) g.len (bump (cPort g.port 0) (rateAdd g.port false g.len t))))
      else rxComplete f (setF { g with fail := 0, ended := true } (doIf g.ctrl (controlAct g.port g.data)
        (bumpBy (cPort g.port 1) g.len (bump (cPort g.port 0) (rateAdd g.port false g.len t))))) := by
  obtain ⟨hlong, hgood⟩ := passes_of_fcs hwhole hfcs
  have hfail : firstFail (code || g.code) (tooLong g) (badFcs g) = 0 := by rw [hcode, hlong, hgood]; rfl
  rw [rxEnd_checked code hg hdiscard hlen hfail rfl, hwhole, hcode]
  cases hconsumed : g.consumed <;> simp [hlong, hgood, countChecks, doIf]

/-- A frame that fails a check is counted by each and acts on nothing. -/
theorem rxEnd_failed (hdiscard : g.discard = 0) (hlen : 64 ≤ g.len) (hkept : g.consumed = false)
    (hfailed : (code || g.code || badFcs g) = true) :
    rxEnd f code t = rxComplete f (setF { g with
      len := g.data.length, ended := true
      fail := if code || g.code then stRxCode else if tooLong g then stRxLong else stRxFcs }
      (countChecks g (code || g.code) (rateAdd g.port false g.len t))) := by
  rw [rxEnd_checked code hg hdiscard hlen rfl rfl, firstFail_ne_zero hfailed, firstFail_of_failed hfailed, hkept]
  simp [doIf]

end

/-! ## Control frames (R167, R175) -/

theorem controlAct_pause {p : Nat} {b : Bytes} {s : State} (hop : be16 b 14 = 1) (hmode : fcMode p s = 1)
    (hdest : Bytes.toNat (b.take 6).reverse = 0x0180C2000001) :
    controlAct p b s = occur (cPort p 7) (setPauseAll p (be16 b 16) s) := by
  simp [controlAct, hop, hmode, hdest]

theorem controlAct_pfc {p : Nat} {b : Bytes} {s : State} (hop : be16 b 14 = 0x0101) (hmode : fcMode p s = 2)
    (hdest : Bytes.toNat (b.take 6).reverse = 0x0180C2000001) : controlAct p b s =
      forEach ((List.range 8).filter (bit (be16 b 16 &&& fg (loc .MP_RX_CFG p) F.MP_RX_CFG_PFC_RX_EN s)))
        (fun i t => occur (cPort p (8 + i)) (setPausePrio p i (be16 b (18 + 2 * i)) t)) s := by
  simp [controlAct, hop, hmode, hdest]

/-- A frame of a kind that the port's FC_MODE does not take is counted and does nothing else. -/
theorem controlAct_wrongKind {p : Nat} {b : Bytes} {s : State}
    (h : be16 b 14 = 1 ∧ fcMode p s ≠ 1 ∨ be16 b 14 = 0x0101 ∧ fcMode p s ≠ 2) :
    controlAct p b s = setFlag (loc .MP_RX_EVENT p) F.MP_RX_EVENT_CTRL_WRONG_KIND (bump (cPort p 16) s) := by
  rcases h with ⟨hop, hmode⟩ | ⟨hop, hmode⟩ <;> simp [controlAct, hop, hmode]

theorem controlAct_unknown {p : Nat} {b : Bytes} {s : State} (hpause : be16 b 14 ≠ 1) (hpfc : be16 b 14 ≠ 0x0101) :
    controlAct p b s = bump (cPort p 17) s := by
  simp [controlAct, hpause, hpfc]

/-! ## Pause timers (R175, R176) -/

/-- The number whose bit `q` shows `c q`, for the first `n` numbers. -/
def maskOf (c : Nat → Bool) (n : Nat) : Nat := (List.range n).foldl (fun a q => a + b2n (c q) * 2 ^ q) 0

theorem maskOf_succ (c : Nat → Bool) (n : Nat) : maskOf c (n + 1) = maskOf c n + b2n (c n) * 2 ^ n := by
  simp [maskOf, List.range_succ]

theorem maskOf_lt (c : Nat → Bool) (n : Nat) : maskOf c n < 2 ^ n := by
  induction n with
  | zero => exact Nat.one_pos
  | succ n ih =>
    rw [maskOf_succ]
    cases c n <;> simp [b2n] <;> omega

theorem testBit_maskOf (c : Nat → Bool) {n i : Nat} (hi : i < n) : (maskOf c n).testBit i = c i := by
  induction n with
  | zero => exact absurd hi (Nat.not_lt_zero i)
  | succ n ih =>
    rw [maskOf_succ, Nat.add_comm, Nat.mul_comm, Nat.testBit_two_pow_mul_add _ (maskOf_lt c n)]
    by_cases h : i < n
    · rw [if_pos h, ih h]
    · obtain rfl : i = n := by omega
      cases c i <;> simp [b2n]

theorem showPause_dp (p : Nat) (s : State) : (showPause p s).dp = s.dp := rfl

theorem pauseAll_showPause (p : Nat) (s : State) :
    fb (loc .MP_RX_PAUSE_STATE p) F.MP_RX_PAUSE_STATE_PAUSE_ALL (showPause p s) = ((getRx p s).pauseAll != 0) := by
  have hbeside : fg (loc .MP_RX_PAUSE_STATE p) F.MP_RX_PAUSE_STATE_PAUSE_ALL (showPause p s) =
      b2n ((getRx p s).pauseAll != 0) % 2 :=
    (fg_fs_beside _ _ _ (by decide) (by decide) (by decide)).trans (fg_fs_same _ _ _ (by decide) (by decide))
  rw [fb, hbeside]
  cases (getRx p s).pauseAll != 0 <;> rfl

theorem paused_showPause (p : Nat) {i : Nat} (s : State) (hi : i < 8) :
    bit (fg (loc .MP_RX_PAUSE_STATE p) F.MP_RX_PAUSE_STATE_PAUSED (showPause p s)) i = (sget 0 (getRx p s).pause i != 0) := by
  have hmask : fg (loc .MP_RX_PAUSE_STATE p) F.MP_RX_PAUSE_STATE_PAUSED (showPause p s) =
      maskOf (fun q => sget 0 (getRx p s).pause q != 0) 8 :=
    (fg_fs_same _ _ _ (by decide) (by decide)).trans (Nat.mod_eq_of_lt (maskOf_lt ..))
  rw [hmask, bit_eq_testBit, testBit_maskOf _ hi]

/-- What the expiry of a timer leaves: the port as `v` has it, every other port as it was. -/
theorem getRx_showPause (p : Nat) (v : RxPort) (s : State) : getRx p (settle (showPause p (setRx p v s))) = v ∧
    ∀ q, q ≠ p → getRx q (settle (showPause p (setRx p v s))) = getRx q s := by
  have hport (q : Nat) : getRx q (settle (showPause p (setRx p v s))) = getRx q (setRx p v s) :=
    (getRx_settle ..).trans (getRx_congr q (showPause_dp ..))
  exact ⟨(hport p).trans (getRx_setRx_same ..), fun q hq => (hport q).trans (getRx_setRx_other v s hq)⟩

/-- Settles O19: each command meets the branch its hypotheses name. -/
theorem receivedFramesAndPauses : Obligations.ReceivedFramesAndPauses := by
  refine ⟨?opens, ?joins, ?discarded, ?checked, ?pause, ?pfc, ?wrongKind, ?unknown, ?allExpires, ?prioExpires⟩
  case opens =>
    exact fun p b code s hp hpass hrecv hb hlen hcur => exec_rxCellTaken hp hpass (cellTaken_opens code hrecv hb hlen hcur)
  case joins =>
    exact fun p f b code s hp hpass hrecv hb hlen hcur =>
      exec_rxCellTaken hp hpass (cellTaken_joins code hrecv hb hlen hcur)
  case discarded =>
    rintro p f c g t s hp hpass hcur rfl hg rfl
    exact ⟨fun h => exec_rxFrameEnd hp hpass hcur (rxEnd_disabled c hg h),
      fun h => exec_rxFrameEnd hp hpass hcur (rxEnd_asleep c hg h),
      fun h hlen => exec_rxFrameEnd hp hpass hcur (rxEnd_runt c hg h hlen)⟩
  case checked =>
    rintro p f c g t s hp hpass hcur hg rfl hlen hdiscard rfl
    refine ⟨fun hcode hwhole hfcs hkept => ?good, fun hcode hwhole hfcs hconsumed => ?consumed,
      fun hkept hfailed => ?failed⟩
    case good =>
      exact exec_rxFrameEnd hp hpass hcur
        ((rxEnd_good c hg hdiscard hlen hcode hwhole hfcs).trans (if_neg (by simp [hkept])))
    case consumed =>
      exact exec_rxFrameEnd hp hpass hcur ((rxEnd_good c hg hdiscard hlen hcode hwhole hfcs).trans (if_pos hconsumed))
    case failed =>
      have hfailed' : (c || g.code || badFcs g) = true := (Bool.or_assoc ..).symm.trans hfailed
      refine exec_rxFrameEnd hp hpass hcur ((rxEnd_failed c hg hdiscard hlen hkept hfailed').trans ?_)
      simp [tooLong, countChecks, badFcs]
  case pause => exact fun p b s => controlAct_pause
  case pfc => exact fun p b s => controlAct_pfc
  case wrongKind =>
    intro p op b s hop hmode
    refine controlAct_wrongKind ?_
    simp only [List.mem_cons, List.not_mem_nil, or_false, Prod.mk.injEq] at hmode
    omega
  case unknown => exact fun p b s => controlAct_unknown
  case allExpires =>
    intro p s hp
    obtain ⟨hport, -⟩ := getRx_showPause p { getRx p s with pauseAll := 0 } s
    refine ⟨_, done_port (f := fun p => pauseExpire p 8) hp rfl, congrArg RxPort.pauseAll hport, ?_⟩
    refine (fb_congr _ (rd_settle (reg_settles (by decide) p) _)).trans ((pauseAll_showPause ..).trans ?_)
    rw [getRx_setRx_same]
    rfl
  case prioExpires =>
    intro p i s hp hi
    have hprio : pauseExpire p i s = showPause p (setRx p { getRx p s with pause := sput 0 (getRx p s).pause i 0 } s) := by
      rw [pauseExpire]
      exact congrArg (fun v => showPause p (setRx p v s)) (if_neg (by omega))
    obtain ⟨hport, hothers⟩ := getRx_showPause p { getRx p s with pause := sput 0 (getRx p s).pause i 0 } s
    have hzero : sget 0 (sput 0 (getRx p s).pause i 0) i = 0 := sget_sput_same ..
    refine ⟨_, done_port (f := fun p => pauseExpire p i) hp hprio, ?_, ?_, hothers⟩
    · rw [hport]
      exact hzero
    · rw [fg_congr _ (rd_settle (reg_settles (by decide) p) _), paused_showPause _ _ hi, getRx_setRx_same]
      exact bne_eq_false_iff_eq.mpr hzero

end Sys2Proof.Machine
end

section
/-!
PROOFS. MAC merge receive, flow-control frames and the verification of MAC merge (O20).
-/

namespace Sys2Proof.Machine

/-! ## Ports of the transmit MAC -/

theorem getTx_setTx_same (p : Nat) (v : TxPort) (s : State) : getTx p (setTx p v s) = v := sget_sput_same ..

theorem getTx_congr {s t : State} (p : Nat) (h : t.dp = s.dp) : getTx p t = getTx p s := by rw [getTx, getTx, h]

@[simp] theorem bumpBy_dp (i n : Nat) (s : State) : (bumpBy i n s).dp = s.dp := by
  unfold bumpBy
  split
  · rfl
  dsimp only
  split <;> rfl

@[simp] theorem bump_dp (i : Nat) (s : State) : (bump i s).dp = s.dp := bumpBy_dp i 1 s

@[simp] theorem occur_dp (i : Nat) (s : State) : (occur i s).dp = s.dp := by
  unfold occur
  split
  · rfl
  · exact bump_dp i s

@[simp] theorem countAbove_dp (p n : Nat) (s : State) : (countAbove p n s).dp = s.dp := by
  unfold countAbove
  dsimp only
  split
  · exact bumpBy_dp ..
  · rfl

@[simp] theorem rateAdd_dp (p : Nat) (tx : Bool) (n : Nat) (s : State) : (rateAdd p tx n s).dp = s.dp := rfl

/-! ## mPackets (R178, R179) -/

section
variable {p smd frag : Nat} {b : List Byte} {final bad code : Bool} {s : State} (hp : p < 64)
  (hpass : rxPasses p s = true) (hrecv : receives p s = true)

include hp hpass in
theorem exec_mmFragmentReceive {t : State} (h : fragment p smd frag b code final bad s = t) :
    exec (.mmFragmentReceive p smd frag b final bad code) s = .next (settle t) := by
  calc exec (.mmFragmentReceive p smd frag b final bad code) s = done (fragmentItem p smd frag b code final bad s) := rfl
    _ = .next (settle t) := by
      rw [fragmentItem, Nat.mod_eq_of_lt hp, crossing_passes _ _ _ hpass]
      exact done_eq h

include hp hpass hrecv

theorem mmFragmentReceive_disabled (hoff : fb (loc .MP_RX_CFG p) F.MP_RX_CFG_MM_RX_EN s = false) :
    exec (.mmFragmentReceive p smd frag b final bad code) s = .next (settle (bump (cPort p 36) s)) :=
  exec_mmFragmentReceive hp hpass (by simp [fragment, hrecv, hoff])

variable (hon : fb (loc .MP_RX_CFG p) F.MP_RX_CFG_MM_RX_EN s = true)
include hon

theorem mmFragmentReceive_verify : exec (.mmFragmentReceive p 8 frag b final bad code) s =
    .next (settle (flushMm p (setTx p { getTx p s with respondDue := true } s))) :=
  exec_mmFragmentReceive hp hpass (by simp [fragment, hrecv, hon])

theorem mmFragmentReceive_start (hsmd : smd < 4) : exec (.mmFragmentReceive p smd frag b final bad code) s =
    .next (settle (
      let o := rxOpen p true (asmError p (bump (cPort p 34) s))
      asmTake p o.1 b code final bad (setRx p { getRx p o.2 with asm := some (o.1, smd, 0) } o.2))) := by
  have hverify : smd ≠ 8 := by omega
  have hrespond : smd ≠ 9 := by omega
  exact exec_mmFragmentReceive hp hpass (by simp [fragment, hrecv, hon, hsmd, hverify, hrespond])

variable (hlow : 4 ≤ smd) (hhigh : smd < 8)
include hlow hhigh

theorem mmFragmentReceive_alone (hasm : (getRx p s).asm = none) :
    exec (.mmFragmentReceive p smd frag b final bad code) s =
      .next (settle (bump (cPort p 36) (bump (cPort p 34) s))) := by
  have hverify : smd ≠ 8 := by omega
  have hrespond : smd ≠ 9 := by omega
  have hasm' : (getRx p (bump (cPort p 34) s)).asm = none := by rw [getRx_congr p (bump_dp ..), hasm]
  exact exec_mmFragmentReceive hp hpass
    (by simp [fragment, hrecv, hon, Nat.not_lt.mpr hlow, hverify, hrespond, hasm'])

theorem mmFragmentReceive_continues {f n c : Nat} (hasm : (getRx p s).asm = some (f, n, c)) :
    exec (.mmFragmentReceive p smd frag b final bad code) s = .next (settle (
      if smd - 4 = n ∧ frag % 4 = c then
        asmTake p f b code final bad (setRx p { getRx p s with asm := some (f, n, (c + 1) % 4) } (bump (cPort p 34) s))
      else asmError p (bump (cPort p 34) s))) := by
  have hverify : smd ≠ 8 := by omega
  have hrespond : smd ≠ 9 := by omega
  have hport : getRx p (bump (cPort p 34) s) = getRx p s := getRx_congr p (bump_dp ..)
  exact exec_mmFragmentReceive hp hpass
    (by simp [fragment, hrecv, hon, Nat.not_lt.mpr hlow, hverify, hrespond, hport, hasm])

end

/-- A frame that is the only one of its number is put back as it was. -/
theorem setF_self {g : Frame} {s : State} (hone : ∀ h ∈ s.dp.frames, h.id = g.id → h = g) : setF g s = s := by
  have hframes : s.dp.frames.map (fun h => if h.id = g.id then g else h) = s.dp.frames := by
    refine (List.map_congr_left fun h hh => ?_).trans (List.map_id _)
    split
    · next hid => exact (hone h hh hid).symm
    · rfl
  rw [setF, hframes]

/-- An mPacket without an error control block, to a frame that is the only one of its number: the final one ends the frame,
and one with a bad mCRC the reassembly. -/
theorem asmTake_clean {p f : Nat} {b : Bytes} {s : State} {g : Frame} (final bad : Bool)
    (hg : getF f (feed f (b.length + 1) b s) = some g)
    (hone : ∀ h ∈ (feed f (b.length + 1) b s).dp.frames, h.id = f → h = g) :
    asmTake p f b false final bad s =
      if final then rxEnd f false (setRx p { getRx p (feed f (b.length + 1) b s) with asm := none }
        (feed f (b.length + 1) b s))
      else if bad then asmError p (feed f (b.length + 1) b s) else feed f (b.length + 1) b s := by
  have hid : g.id = f := by simpa using List.find?_some hg
  have hsame : setF { g with code := g.code || false } (feed f (b.length + 1) b s) = feed f (b.length + 1) b s := by
    rw [Bool.or_false]
    exact setF_self (hid ▸ hone)
  simp only [asmTake, hg, hsame]

/-! ## Flow-control frames (R377, R378) -/

section
variable {p : Nat} {s : State}

/-- The state from which a flow-control frame is put out: it is due no longer. -/
def fcTaken (p : Nat) (s : State) : State := setTx p { getTx p s with fcDue := false, left := 0 } s

/-- After the end of the command that put a flow-control frame out, it is the last frame out and none is due. -/
theorem fcTaken_lineOut {k : LineKind} {t : State} (h : ∃ b, t.dp = (lineOut p k b (fcTaken p s)).dp) :
    (getTx p (settle t)).fcDue = false ∧
    ((settle t).dp.out.getLast?.map fun o => (o.port, o.kind)) = some (p, k) := by
  obtain ⟨b, hb⟩ := h
  have hdp : (settle t).dp = (lineOut p k b (fcTaken p s)).dp := (settle_settling t).dp.trans hb
  constructor
  · rw [getTx_congr p hdp]
    exact congrArg TxPort.fcDue (getTx_setTx_same p { getTx p s with fcDue := false, left := 0 } s)
  · rw [hdp]
    simp [lineOut]

theorem sendFc_pfc (hmode : fcMode p s = 2) :
    (∃ b, (sendFc p s).dp = (lineOut p .pfcFrame b (fcTaken p s)).dp) ∧
    fg (loc .MP_TX_STATE p) F.MP_TX_STATE_XOFF_SENT (sendFc p s) = xoffOrForced p s % 256 := by
  rw [sendFc, hmode]
  constructor
  · apply Exists.intro
    refine (forEach_keeps (·.dp) _ (fun _ _ _ => occur_dp ..) _).trans ?_
    rw [countAbove_dp, rateAdd_dp]
    rfl
  · exact fg_fs_same _ _ _ (by decide) (by decide)

theorem sendFc_pause (hmode : fcMode p s = 1) :
    (∃ b, (sendFc p s).dp = (lineOut p .pauseFrame b (fcTaken p s)).dp) ∧
    fb (loc .MP_TX_STATE p) F.MP_TX_STATE_PAUSE_SENT (sendFc p s) =
      (pauseWanted p s && fg (loc .MP_TX_FC p) F.MP_TX_FC_QUANTA s != 0) := by
  rw [sendFc, hmode]
  constructor
  · apply Exists.intro
    refine (occur_dp ..).trans ?_
    rw [countAbove_dp, rateAdd_dp]
    rfl
  · refine (congrArg (· == 1) (fg_fs_same _ _ _ (by decide) (by decide))).trans ?_
    cases pauseWanted p s && fg (loc .MP_TX_FC p) F.MP_TX_FC_QUANTA s != 0 <;> rfl

theorem fcSend_due (hdue : (getTx p s).fcDue = true) (hcur : (getTx p s).cur = none) (hmay : fcMay p s = true) :
    fcSend p s = sendFc p s := by
  simp [fcSend, hdue, hcur, hmay]

/-- The end of a command does not write MP_TX_STATE. -/
theorem txState_settles (p : Nat) : loc .MP_TX_STATE p ∉ settleRegs := reg_settles (by decide) p

/-- A PFC frame that is due is sent, and XOFF_SENT shows what it asks for. -/
theorem flowControlFrameSend_pfc (hp : p < 64) (hdue : (getTx p s).fcDue = true) (hcur : (getTx p s).cur = none)
    (hmay : fcMay p s = true) (hmode : fcMode p s = 2) :
    ∃ t, exec (.flowControlFrameSend p) s = .next t ∧ (getTx p t).fcDue = false ∧
      fg (loc .MP_TX_STATE p) F.MP_TX_STATE_XOFF_SENT t = xoffOrForced p s % 256 ∧
      (t.dp.out.getLast?.map (fun o => (o.port, o.kind))) = some (p, .pfcFrame) := by
  obtain ⟨hout, hsent⟩ := sendFc_pfc hmode
  obtain ⟨htaken, hlast⟩ := fcTaken_lineOut hout
  exact ⟨_, done_port (f := fcSend) hp (fcSend_due hdue hcur hmay), htaken,
    (fg_congr _ (rd_settle (txState_settles p) _)).trans hsent, hlast⟩

/-- A PAUSE frame that is due is sent, and PAUSE_SENT shows what it asks for. -/
theorem flowControlFrameSend_pause (hp : p < 64) (hdue : (getTx p s).fcDue = true) (hcur : (getTx p s).cur = none)
    (hmay : fcMay p s = true) (hmode : fcMode p s = 1) :
    ∃ t, exec (.flowControlFrameSend p) s = .next t ∧ (getTx p t).fcDue = false ∧
      fb (loc .MP_TX_STATE p) F.MP_TX_STATE_PAUSE_SENT t =
        (pauseWanted p s && fg (loc .MP_TX_FC p) F.MP_TX_FC_QUANTA s != 0) ∧
      (t.dp.out.getLast?.map (fun o => (o.port, o.kind))) = some (p, .pauseFrame) := by
  obtain ⟨hout, hsent⟩ := sendFc_pause hmode
  obtain ⟨htaken, hlast⟩ := fcTaken_lineOut hout
  exact ⟨_, done_port (f := fcSend) hp (fcSend_due hdue hcur hmay), htaken,
    (fb_congr _ (rd_settle (txState_settles p) _)).trans hsent, hlast⟩

/-- A refresh sends the frame again while its cause holds: at once, or after the frame on the line. -/
theorem fcRefresh_held (hp : p < 64) (hmay : fcMay p s = true) (hon : fg (loc .MP_TX_FC p) F.MP_TX_FC_REFRESH s ≠ 0)
    (hcause : fcMode p s = 2 ∧ xoffOrForced p s ≠ 0 ∨ fcMode p s = 1 ∧ pauseWanted p s = true) :
    exec (.fcRefresh p) s = .next (settle (
      if (getTx p s).cur.isNone then sendFc p s else setTx p { getTx p s with fcDue := true } s)) := by
  refine done_port (f := fcRefresh) hp ?_
  rcases hcause with ⟨hmode, hheld⟩ | ⟨hmode, hheld⟩ <;> simp [fcRefresh, hmode, hheld, hon, hmay]

/-! ## Verification (R381) -/

theorem mmEnable_skips (hp : p < 64) (hon : fb (loc .MP_MM_CTRL p) F.MP_MM_CTRL_MM_TX_EN s = true)
    (hup : linkUp p s = true) (hstate : mmState p s = 0)
    (hdis : fb (loc .MP_MM_CTRL p) F.MP_MM_CTRL_VERIFY_DIS s = true) :
    exec (.mmEnable p) s = .next (settle (setMm p 2 1 s)) :=
  done_port (f := mmEnable) hp (by simp [mmEnable, hon, hup, hstate, hdis])

/-- The state in which the first verify mPacket of a verification is asked for. -/
def verifyBegun (p : Nat) (s : State) : State := fs (loc .MP_MM_STATUS p) F.MP_MM_STATUS_ATTEMPTS 1 (setMm p 1 0 s)

theorem mmEnable_verifies (hon : fb (loc .MP_MM_CTRL p) F.MP_MM_CTRL_MM_TX_EN s = true) (hup : linkUp p s = true)
    (hstate : mmState p s = 0) (hdis : fb (loc .MP_MM_CTRL p) F.MP_MM_CTRL_VERIFY_DIS s = false) :
    mmEnable p s = sendVerify p (verifyBegun p s) := by
  simp [mmEnable, verifyBegun, hon, hup, hstate, hdis]

theorem fs_dp (a : Nat) (f : Fld) (v : Nat) (s : State) : (fs a f v s).dp = s.dp := wr_dp ..

theorem verifyBegun_dp (p : Nat) (s : State) : (verifyBegun p s).dp = s.dp := by
  rw [verifyBegun, fs_dp, setMm, fs_dp, fs_dp]

theorem mmState_verifyBegun (p : Nat) (s : State) : mmState p (verifyBegun p s) = 1 :=
  calc mmState p (verifyBegun p s) = mmState p (setMm p 1 0 s) := fg_fs_beside _ _ _ (by decide) (by decide) (by decide)
    _ = mmState p (fs (loc .MP_MM_STATUS p) F.MP_MM_STATUS_VERIFY_STATE 1 s) :=
      fg_fs_beside _ _ _ (by decide) (by decide) (by decide)
    _ = 1 := fg_fs_same _ _ _ (by decide) (by decide)

theorem attempts_verifyBegun (p : Nat) (s : State) :
    fg (loc .MP_MM_STATUS p) F.MP_MM_STATUS_ATTEMPTS (verifyBegun p s) = 1 := fg_fs_same _ _ _ (by decide) (by decide)

theorem duRole_verifyBegun (p : Nat) (s : State) : duRole (verifyBegun p s) = duRole s := by
  have hother : loc .DU_STATUS ≠ loc .MP_MM_STATUS p := loc_ne_of_off (by decide) 0 p
  exact fg_congr _ ((rd_fs_other _ _ _ _ _ hother).trans
    ((rd_fs_other _ _ _ _ _ hother).trans (rd_fs_other _ _ _ _ _ hother)))

/-- Between frames, a block that is no STANDBY sends the verify mPacket, and the respond that is due with it. -/
theorem sendVerify_sends (hcur : (getTx p s).cur = none) (hrole : duRole s ≠ 2) :
    (sendVerify p s).dp.out = s.dp.out ++ [{ port := p, kind := .verify, bytes := [] }] ++
      (if (getTx p s).respondDue then [{ port := p, kind := .respond, bytes := [] }] else []) ∧
    rd (loc .MP_MM_STATUS p) (sendVerify p s) = rd (loc .MP_MM_STATUS p) s := by
  have hidle (v : TxPort) : idleOnly (setTx p v s) = false := by
    have hkept : duRole (setTx p v s) = duRole s := rfl
    simp [idleOnly, hkept, hrole]
  have hcount (t : State) : rd (loc .MP_MM_STATUS p) (bump (cPort p 58) t) = rd (loc .MP_MM_STATUS p) t :=
    rd_bump_other _ _ (loc_ne_of_off (by decide) p 0) (loc_ne_of_off (by decide) p 0)
  have hrd (v : TxPort) (t : State) : rd (loc .MP_MM_STATUS p) (setTx p v t) = rd (loc .MP_MM_STATUS p) t := rfl
  have hline (k : LineKind) (t : State) : rd (loc .MP_MM_STATUS p) (lineOut p k [] t) = rd (loc .MP_MM_STATUS p) t := rfl
  have hout (v : TxPort) (t : State) : (setTx p v t).dp.out = t.dp.out := rfl
  have hadd (k : LineKind) (t : State) :
      (lineOut p k [] t).dp.out = t.dp.out ++ [{ port := p, kind := k, bytes := [] }] := rfl
  cases hrespond : (getTx p s).respondDue <;>
    simp [sendVerify, flushMm, getTx_setTx_same, hcur, hidle, hrespond, hrd, hline, hout, hadd, hcount]

theorem mmEnable_sends (hp : p < 64) (hon : fb (loc .MP_MM_CTRL p) F.MP_MM_CTRL_MM_TX_EN s = true)
    (hup : linkUp p s = true) (hstate : mmState p s = 0)
    (hdis : fb (loc .MP_MM_CTRL p) F.MP_MM_CTRL_VERIFY_DIS s = false) (hcur : (getTx p s).cur = none)
    (hrole : duRole s ≠ 2) :
    ∃ t, exec (.mmEnable p) s = .next t ∧ mmState p t = 1 ∧ fg (loc .MP_MM_STATUS p) F.MP_MM_STATUS_ATTEMPTS t = 1 ∧
      t.dp.out = s.dp.out ++ [{ port := p, kind := .verify, bytes := [] }] ++
        (if (getTx p s).respondDue then [{ port := p, kind := .respond, bytes := [] }] else []) := by
  have hrole' : duRole (verifyBegun p s) ≠ 2 := by rwa [duRole_verifyBegun]
  have hport : getTx p (verifyBegun p s) = getTx p s := getTx_congr p (verifyBegun_dp p s)
  obtain ⟨hout, hstatus⟩ := sendVerify_sends (by rw [hport, hcur]) hrole'
  rw [hport, verifyBegun_dp] at hout
  have hrd : rd (loc .MP_MM_STATUS p) (settle (sendVerify p (verifyBegun p s))) =
      rd (loc .MP_MM_STATUS p) (verifyBegun p s) := (rd_settle (reg_settles (by decide) p) _).trans hstatus
  exact ⟨_, done_port (f := mmEnable) hp (mmEnable_verifies hon hup hstate hdis),
    (fg_congr _ hrd).trans (mmState_verifyBegun p s), (fg_congr _ hrd).trans (attempts_verifyBegun p s),
    (congrArg Dp.out (settle_settling _).dp).trans hout⟩

theorem mmRespondReceived_ends (hp : p < 64) (h : mmState p s = 1) : exec (.mmRespondReceived p) s =
    .next (settle (setFlag (loc .MP_TX_EVENT p) F.MP_TX_EVENT_MM_VERIFY_OK (setMm p 2 1 s))) :=
  done_port (f := mmResponded) hp (if_pos h)

theorem mmVerifyTimeout_fails (hp : p < 64) (h : mmState p s = 1)
    (hlimit : max 1 (fg (loc .MP_MM_CTRL p) F.MP_MM_CTRL_VERIFY_LIMIT s) ≤
      fg (loc .MP_MM_STATUS p) F.MP_MM_STATUS_ATTEMPTS s) : exec (.mmVerifyTimeout p) s =
    .next (settle (setFlag (loc .MP_TX_EVENT p) F.MP_TX_EVENT_MM_VERIFY_FAIL (setMm p 3 0 s))) :=
  done_port (f := mmTimeout) hp ((if_neg (not_not.mpr h)).trans (if_neg (Nat.not_lt.mpr hlimit)))

theorem mmVerifyTimeout_repeats (hp : p < 64) (h : mmState p s = 1)
    (hlimit : fg (loc .MP_MM_STATUS p) F.MP_MM_STATUS_ATTEMPTS s <
      max 1 (fg (loc .MP_MM_CTRL p) F.MP_MM_CTRL_VERIFY_LIMIT s)) : exec (.mmVerifyTimeout p) s =
    .next (settle (sendVerify p
      (fs (loc .MP_MM_STATUS p) F.MP_MM_STATUS_ATTEMPTS (fg (loc .MP_MM_STATUS p) F.MP_MM_STATUS_ATTEMPTS s + 1) s))) :=
  done_port (f := mmTimeout) hp ((if_neg (not_not.mpr h)).trans (if_pos hlimit))

end

/-! ## An mPacket for a number that two frames bear -/

/-- Two frames of number 0 in the store, on different ports. -/
def frameTwice : State :=
  { State.reset with dp := { State.reset.dp with frames := [freshFrame 0 0 false, freshFrame 0 1 false] } }

/-- Refutes O20: its clause on an mPacket's bytes takes stores in which a number stands for several frames. An mPacket of no
bytes for frame 0 of `frameTwice` writes the first of its two frames over the second (`setF`), where the clause says that
nothing changes. The model gives each frame it opens a new number (`addF`), and where the frame is the only one of its number
the clause holds (`asmTake_clean`). Every other clause holds of every state: the theorems `mmFragmentReceive_…`,
`flowControlFrameSend_…`, `fcRefresh_held`, `mmEnable_skips`, `mmEnable_sends`, `mmRespondReceived_ends` and
`mmVerifyTimeout_…` of this file. -/
theorem not_mergeFlowControlAndVerification : ¬ Obligations.MergeFlowControlAndVerification := by
  rintro ⟨-, -, -, -, -, hclean, -⟩
  have hsame : asmTake 0 0 [] false false false frameTwice = frameTwice :=
    hclean 0 0 [] false false frameTwice frameTwice rfl ⟨freshFrame 0 0 false, rfl, rfl⟩
  have hports : (asmTake 0 0 [] false false false frameTwice).dp.frames.map Frame.port = [0, 0] := by decide
  rw [hsame] at hports
  exact absurd hports (by decide)

end Sys2Proof.Machine
end

section
/-!
PROOFS. What an instruction of a Reed engine does once it issues, and what it answers where registers are pending (R197, R200,
R211, R215, R217).
-/

namespace Sys2Proof.Machine

/-! ## Issue (R197, R211) -/

/-- What an issued instruction leaves of the state: a stall leaves all of it, a fault ends the program at the instruction, and
what it does to its context is stored. -/
def Issue.outcome (c : Ctx) (s : State) : Issue → State
  | .stall => s
  | .fault k => ctxFault k { c with issued := c.issued + 1 } s
  | .next d t => setCtx d t
  | .stop t => t

section
variable {o : Op} {i : Nat} {c : Ctx} {s : State} {op : Ctx → Nat → State → Issue}

theorem psCorrected_clean (h : CleanFetch c) : psCorrected c s = s := by
  obtain ⟨hcorr, -⟩ := h
  simp [psCorrected, hcorr]

/-- An instruction that may issue acts on the context past it. -/
theorem issue_eq (h : MayIssue o i c s) : issue o i op s = (op (past c) (fetch c s) s).outcome c s := by
  obtain ⟨hctx, hop, hclean, hcap⟩ := h
  obtain ⟨-, hfatal⟩ := id hclean
  simp only [issue, hctx, hop, psCorrected_clean hclean]
  rw [if_neg (by simp), if_neg (Nat.not_le.mpr hcap), if_neg (by simp [hfatal]), if_neg (by simp)]
  rfl

theorem issue_stall (h : MayIssue o i c s) (hop : op (past c) (fetch c s) s = .stall) : issue o i op s = s := by
  rw [issue_eq h, hop, Issue.outcome]

theorem issue_fault {k : Nat} (h : MayIssue o i c s) (hop : op (past c) (fetch c s) s = .fault k) :
    issue o i op s = ctxFault k { c with issued := c.issued + 1 } s := by
  rw [issue_eq h, hop, Issue.outcome]

theorem issue_next {d : Ctx} {t : State} (h : MayIssue o i c s) (hop : op (past c) (fetch c s) s = .next d t) :
    issue o i op s = setCtx d t := by
  rw [issue_eq h, hop, Issue.outcome]

theorem issue_stop {t : State} (h : MayIssue o i c s) (hop : op (past c) (fetch c s) s = .stop t) :
    issue o i op s = t := by
  rw [issue_eq h, hop, Issue.outcome]

/-- A word that encodes no instruction is a fault, whichever row is commanded. -/
theorem issue_badOpcode (hctx : getCtx i s = some c) (hop : opOf (fetch c s) = none) (hclean : CleanFetch c)
    (hcap : c.issued < issueCap s) :
    issue o i op s = ctxFault Kind.badOpcode { c with issued := c.issued + 1 } s := by
  obtain ⟨-, hfatal⟩ := id hclean
  simp [issue, hctx, hop, hfatal, Nat.not_le.mpr hcap, psCorrected_clean hclean]

/-- An uncorrectable word is a fault that disables the cluster, whatever it encodes. -/
theorem issue_fatal (hctx : getCtx i s = some c) (hecc : (c.issued, true) ∈ c.ecc) (hcap : c.issued < issueCap s) :
    issue o i op s = psFatal c s := by
  simp [issue, hctx, hecc, Nat.not_le.mpr hcap]

/-- An instruction past the budget does not issue. -/
theorem issue_overrun (hctx : getCtx i s = some c) (hop : opOf (fetch c s) = some o) (hcap : issueCap s ≤ c.issued) :
    issue o i op s = ctxFault Kind.overrun c s := by
  simp [issue, hctx, hop, hcap]

end

/-! ## Registers of a context (R199, R200) -/

theorem past_reg (c : Ctx) (r : Nat) : (past c).reg r = (gReg c r).toNat := rfl

theorem setReg_withReg (c : Ctx) (r v : Nat) : c.setReg r v = withReg c r (BitVec.ofNat 64 v) := rfl

theorem past_waits (c : Ctx) (r : Nat) : (past c).waits r = c.waits r := rfl

/-- An instruction whose registers are free goes on. -/
theorem regOp_free {regs : List Nat} {c : Ctx} {s : State} {f : Ctx → Ctx} (h : ∀ r ∈ regs, c.waits r = false) :
    regOp regs c s f = .next (f c) s := if_neg (by simpa using h)

end Sys2Proof.Machine
end

section
/-!
PROOFS. NOP, SYNC, CNT, the branches, END, and the faults that every row can meet (O23).
-/

namespace Sys2Proof.Machine

/-! ## Branches (R198) -/

section
variable {c : Ctx} {w : Nat} {s : State}

theorem signed64_toNat (x : BitVec 64) : signed64 x.toNat = x.toInt := by
  rw [signed64, BitVec.toInt_eq_toNat_cond]
  split <;> split <;> omega

/-- The comparison CC of BR on the bits of two registers. -/
def brHolds (cc : Nat) (x y : BitVec 64) : Bool :=
  match cc with
  | 0 => x == y
  | 1 => x != y
  | 2 => x.ult y
  | 3 => y.ule x
  | 4 => x.slt y
  | _ => y.sle x

theorem brTest_toNat (cc : Nat) (x y : BitVec 64) : brTest cc x.toNat y.toNat = brHolds cc x y := by
  have heq : (x.toNat == y.toNat) = (x == y) := Bool.eq_iff_iff.mpr (by simp [BitVec.toNat_inj])
  match cc with
  | 0 => exact heq
  | 1 => exact congrArg not heq
  | 2 => rfl
  | 3 => rfl
  | 4 =>
    rw [brTest, signed64_toNat, signed64_toNat]
    rfl
  | _ + 5 =>
    rw [brTest, signed64_toNat, signed64_toNat]
    · rfl
    all_goals omega

theorem opBr_free (hs : c.waits (bits w 25 22) = false) (ht : c.waits (bits w 21 18) = false) :
    opBr (past c) w s = .next { past c with
      pc := if brHolds (bits w 17 15) (gReg c (bits w 25 22)) (gReg c (bits w 21 18)) then bits w 11 0
        else (c.pc + 1) % 4096 } s := by
  rw [opBr, regOp_free (by simp [past_waits, hs, ht]), past_reg, past_reg, brTest_toNat]
  split <;> rfl

theorem opBrh_free (hs : c.waits (bits w 25 23) = false) :
    opBrh (past c) w s = .next { past c with
      pc := if ((gReg c (bits w 25 23)).toNat % 65536 = bits w 15 0) ↔ (bit w 22 = false)
        then ((c.pc + 1) % 4096 + bits w 21 16) % 4096 else (c.pc + 1) % 4096 } s := by
  have htest : (xor ((gReg c (bits w 25 23)).toNat % 65536 == bits w 15 0) (bit w 22)) = true ↔
      (((gReg c (bits w 25 23)).toNat % 65536 = bits w 15 0) ↔ (bit w 22 = false)) := by
    cases bit w 22 <;> simp
  rw [opBrh, regOp_free (by simp [past_waits, hs]), past_reg]
  simp only [htest]
  split <;> rfl

theorem opBb_free (hs : c.waits (bits w 25 22) = false) :
    opBb (past c) w s = .next { past c with
      pc := if (gReg c (bits w 25 22)).getLsbD (bits w 20 15) = bit w 21 then bits w 11 0
        else (c.pc + 1) % 4096 } s := by
  have hbit : bit (gReg c (bits w 25 22)).toNat (bits w 20 15) = (gReg c (bits w 25 22)).getLsbD (bits w 20 15) := by
    rw [bit_eq_testBit, BitVec.testBit_toNat]
  rw [opBb, regOp_free (by simp [past_waits, hs]), past_reg, hbit]
  split <;> rfl

theorem opJmpr_free (hs : c.waits (bits w 21 18) = false) :
    opJmpr (past c) w s = .next { past c with pc := (gReg c (bits w 21 18)).toNat % 4096 } s := by
  rw [opJmpr, regOp_free (by simp [past_waits, hs]), past_reg]

theorem opCall_room (h : c.ret.length < 4) : opCall (past c) w s =
    .next { past c with ret := (c.pc + 1) % 4096 :: c.ret, pc := bits w 11 0 } s := if_neg (Nat.not_le.mpr h)

theorem opCall_full (h : 4 ≤ c.ret.length) : opCall (past c) w s = .fault Kind.stack := if_pos h

theorem opRet_pops {a : Nat} {r : List Nat} (h : c.ret = a :: r) :
    opRet (past c) w s = .next { past c with ret := r, pc := a } s := by
  have hret : (past c).ret = a :: r := h
  rw [opRet, hret]

theorem opRet_empty (h : c.ret = []) : opRet (past c) w s = .fault Kind.stack := by
  have hret : (past c).ret = [] := h
  rw [opRet, hret]

/-! ## SYNC (R202) -/

/-- With no result pending, SYNC without FEND goes on. -/
theorem opSync_done (hpend : c.pend = []) (hfend : bit w 0 = false) : opSync (past c) w s = .next (past c) s := by
  have hpast : (past c).pend = [] := hpend
  simp [opSync, hpast, hfend]

/-- With a result pending, SYNC with ASYNC waits. -/
theorem opSync_waits (hpend : c.pend ≠ []) (hasync : bit w 1 = true) : opSync (past c) w s = .stall := by
  have hpast : (past c).pend ≠ [] := hpend
  simp [opSync, hpast, hasync]

/-! ## END (R202, R207) -/

theorem opEnd_waits (hpend : c.pend ≠ []) : opEnd (past c) w s = .stall := if_pos hpend

/-- A frame at its END with a verdict: out of its context, with the address of its END. -/
def endedFrame (c : Ctx) (w : Nat) (k : VKind) (f : Frame) : Frame :=
  { resolvePend f with
    verdict := some { kind := k, mirror := if bit w 22 then some (bits w 13 10) else none, mark := bit w 21 }
    ctx := none
    endAt := ctxEngine c.id * 4096 + c.pc % 4096 }

/-- What END leaves before the learn requests go: its context is free, the frame has its verdict, and a drop is counted. -/
def endTaken (c : Ctx) (w : Nat) (k : VKind) (f : Frame) (s : State) : State :=
  (if k = .drop then bump (cClus (ctxCluster c.id) 7) else id)
    (setF (endedFrame c w k f) (freeCtx { c with issued := c.issued + 1 } s))

variable {f : Frame} (hpend : c.pend = []) (hf : getF c.frame s = some f)
include hpend hf

theorem opEnd_verdict {k : VKind}
    (hk : verdictOf (bits w 25 23) ((gReg c (bits w 17 14)).toNat % 2 ^ 32) (resolvePend f) = some k)
    (hhead : headBad (resolvePend f) = false) :
    opEnd (past c) w s = .stop (releaseLearns (resolvePend f).id (endTaken c w k f s)) := by
  have hpast : ¬ (past c).pend ≠ [] := not_not_intro hpend
  have hframe : getF (past c).frame s = some f := hf
  have hpc : ((past c).pc + 4095) % 4096 = c.pc % 4096 := by
    change ((c.pc + 1) % 4096 + 4095) % 4096 = c.pc % 4096
    omega
  have hfree : freeCtx (past c) s = freeCtx { c with issued := c.issued + 1 } s := rfl
  have hid : (past c).id = c.id := rfl
  rw [opEnd, if_neg hpast, hframe]
  simp only [past_reg, hk, hhead, hpc, hfree, hid, endTaken, endedFrame]
  by_cases hdrop : k = .drop <;> simp [hdrop]

theorem opEnd_noVerdict
    (hk : verdictOf (bits w 25 23) ((gReg c (bits w 17 14)).toNat % 2 ^ 32) (resolvePend f) = none) :
    opEnd (past c) w s = .fault Kind.badVerdict := by
  have hpast : ¬ (past c).pend ≠ [] := not_not_intro hpend
  have hframe : getF (past c).frame s = some f := hf
  rw [opEnd, if_neg hpast, hframe]
  simp only [past_reg, hk]

theorem opEnd_headBad {k : VKind}
    (hk : verdictOf (bits w 25 23) ((gReg c (bits w 17 14)).toNat % 2 ^ 32) (resolvePend f) = some k)
    (hhead : headBad (resolvePend f) = true) : opEnd (past c) w s = .fault Kind.badVerdict := by
  have hpast : ¬ (past c).pend ≠ [] := not_not_intro hpend
  have hframe : getF (past c).frame s = some f := hf
  rw [opEnd, if_neg hpast, hframe]
  simp only [past_reg, hk, hhead, if_true]

end

/-! ## Faults of every row (R215, R217) -/

/-- The rows of the instruction table, as commands. -/
def reedRows : List (Nat → Instr) :=
  [.nop, .endFrame, .sync, .cnt, .alu, .alui, .movw, .ext, .ins, .ld, .st, .br, .brh, .bb, .jmp, .call, .ret, .jmpr, .lkp,
    .mtr, .hasha, .hashf, .csumIp4h, .csumIp4g, .csumL4]

/-- The command of every row issues its instruction. -/
theorem exec_reedRow {r : Nat → Instr} (hr : r ∈ reedRows) (i : Nat) (s : State) :
    ∃ o op, exec (r i) s = .next (settle (issue o i op s)) := by
  unfold reedRows at hr
  fin_cases hr <;> exact ⟨_, _, rfl⟩

/-- An uncorrectable word disables its cluster, with its event. -/
theorem psFatal_disables (c : Ctx) (s : State) :
    fb (loc .RE_CL_STATUS (ctxCluster c.id)) F.RE_CL_STATUS_DISABLED (psFatal c s) = true ∧
    fb (loc .RE_CL_EVENT (ctxCluster c.id)) F.RE_CL_EVENT_PS_ECC_FATAL (psFatal c s) = true := by
  constructor
  · rw [psFatal, fb, fg_setFlag_other _ _ _ (loc_ne_of_off (by decide) _ _), fg_fs_same _ _ _ (by decide) (by decide)]
    rfl
  · exact fb_setFlag_same _ _ rfl (by decide)

theorem contextTimeout_faults {i : Nat} {c : Ctx} {s : State} (hctx : getCtx i s = some c) :
    execContextTimeout i s = .next (settle (ctxFault Kind.timeout c s)) := by
  rw [execContextTimeout, hctx, done]

/-- Settles O23, row by row, each from what its instruction answers to the context past it. -/
theorem reedBranchesAndEnds : Obligations.ReedBranchesAndEnds := by
  refine ⟨?nop, ?sync, ?syncWaits, ?cnt, ?br, ?brh, ?bb, ?jmp, ?call, ?ret, ?jmpr, ?stack, ?endVerdict, ?endNoVerdict,
    ?endHead, ?endWaits, ?received, ?transmitted, ?badOpcode, ?fatal, ?overrun, ?timeout⟩
  case nop => exact fun i c s h => done_eq (issue_next h rfl)
  case sync => exact fun i c s h hpend hfend => done_eq (issue_next h (opSync_done hpend hfend))
  case syncWaits => exact fun i c s h hpend hasync => done_eq (issue_stall h (opSync_waits hpend hasync))
  case cnt => exact fun i c s h => done_eq (issue_next h rfl)
  case br => exact fun i c s h hs ht => done_eq (issue_next h (opBr_free hs ht))
  case brh => exact fun i c s h hs => done_eq (issue_next h (opBrh_free hs))
  case bb => exact fun i c s h hs => done_eq (issue_next h (opBb_free hs))
  case jmp => exact fun i c s h => done_eq (issue_next h rfl)
  case call => exact fun i c s h hroom => done_eq (issue_next h (opCall_room hroom))
  case ret => exact fun i a r c s h hret => done_eq (issue_next h (opRet_pops hret))
  case jmpr => exact fun i c s h hs => done_eq (issue_next h (opJmpr_free hs))
  case stack =>
    exact fun i c s => ⟨fun h hfull => done_eq (issue_fault h (opCall_full hfull)),
      fun h hempty => done_eq (issue_fault h (opRet_empty hempty))⟩
  case endVerdict =>
    exact fun i k c f s h hpend hf hk hhead =>
      ⟨endTaken c (fetch c s) k f s, done_eq (issue_stop h (opEnd_verdict hpend hf hk hhead)), rfl⟩
  case endNoVerdict =>
    exact fun i c f s h hpend hf hk => done_eq (issue_fault h (opEnd_noVerdict hpend hf hk))
  case endHead =>
    exact fun i k c f s h hpend hf hk hhead => done_eq (issue_fault h (opEnd_headBad hpend hf hk hhead))
  case endWaits => exact fun i c s h hpend => done_eq (issue_stall h (opEnd_waits hpend))
  case received => exact fun t f htx => ⟨rfl, rfl, by simp [verdictOf, htx], by simp [verdictOf, htx]⟩
  case transmitted => exact fun t f htx => ⟨by simp [verdictOf, htx], by simp [verdictOf, htx]⟩
  case badOpcode =>
    intro i c s hctx hop hclean hcap r hr
    obtain ⟨o, op, hrow⟩ := exec_reedRow hr i s
    rw [hrow, issue_badOpcode hctx hop hclean hcap]
  case fatal =>
    intro i c s hctx hecc hcap
    exact ⟨psFatal c s, done_eq (issue_fatal hctx hecc hcap), psFatal_disables c s⟩
  case overrun => exact fun i c s hctx hop hcap => done_eq (issue_overrun hctx hop hcap)
  case timeout => exact fun i c s hctx => contextTimeout_faults hctx

end Sys2Proof.Machine
end

section
/-!
PROOFS. The checksum instructions (O25).
-/

namespace Sys2Proof.Machine

/-! ## Stores into the window (R193) -/

/-- What a run of stores leaves at a byte: the last byte stored there, else what was there. -/
theorem sget_stores (a k : Nat) (b : Bytes) (n : Nat) (m : Smap (Option Byte)) :
    sget none ((List.range n).foldl (fun m i => sput none m (a + i) (some (b.getD i 0))) m) k =
      if a ≤ k ∧ k < a + n then some (b.getD (k - a) 0) else sget none m k := by
  induction n with
  | zero => simp
  | succ n ih =>
    rw [List.range_succ, List.foldl_append, List.foldl_cons, List.foldl_nil]
    by_cases hk : k = a + n
    · subst hk
      simp [sget_sput_same]
    · rw [sget_sput_other _ _ _ _ _ _ hk, ih]
      have hsame : (a ≤ k ∧ k < a + n) ↔ (a ≤ k ∧ k < a + (n + 1)) := by omega
      simp only [hsame]

/-- A window byte after a store. -/
theorem winByte_storeWin (a k : Nat) (b : Bytes) (f : Frame) : winByte (storeWin a b f) k =
    if a ≤ k ∧ k < a + b.length then b.getD (k - a) 0 else winByte f k := by
  have hwin := sget_stores a k b b.length f.prog.win
  unfold winByte
  rw [storeWin]
  dsimp only
  rw [hwin]
  by_cases hk : a ≤ k ∧ k < a + b.length
  · simp only [if_pos hk]
  · simp only [if_neg hk]

/-- The window holds the bytes that were stored. -/
theorem winBytes_storeWin (a : Nat) (b : Bytes) (f : Frame) : winBytes (storeWin a b f) a b.length = b := by
  refine List.ext_getElem (by simp [winBytes]) fun i hi hb => ?_
  simp [winBytes, winByte_storeWin, hb]

/-- Bytes outside a store stay. -/
theorem winByte_storeWin_other {a k : Nat} {b : Bytes} (f : Frame) (h : ¬ (a ≤ k ∧ k < a + b.length)) :
    winByte (storeWin a b f) k = winByte f k := by rw [winByte_storeWin, if_neg h]

theorem length_bytesLE (n v : Nat) : (bytesLE n v).length = n := by
  induction n generalizing v with
  | zero => rfl
  | succ n ih => simp [bytesLE, ih]

theorem length_bytesBE (n v : Nat) : (bytesBE n v).length = n := by rw [bytesBE, List.length_reverse, length_bytesLE]

/-! ## The instructions once their bytes have arrived (R205, R206) -/

section
variable {c : Ctx} {w : Nat} {s : State} {f : Frame} (hf : getF c.frame s = some f)
  (hs : c.waits (bits w 19 16) = false)
include hf hs

section
variable (harrived : ip4Waits f ((gReg c (bits w 19 16)).toNat % 512) = false)
include harrived

theorem opIp4h_header {n : Nat} (hd : c.waits (bits w 23 20) = false)
    (hheader : ip4Header f ((gReg c (bits w 19 16)).toNat % 512) = some n) :
    opIp4h (past c) w s = .next (withReg (past c) (bits w 23 20)
      (if fold16 (sum16 (winBytes f ((gReg c (bits w 19 16)).toNat % 512) n)) = 65535 then 0 else 1)) s := by
  have hframe : getF (past c).frame s = some f := hf
  have hval (p : Prop) [Decidable p] : BitVec.ofNat 64 (if p then 0 else 1) = if p then 0 else 1 := by split <;> rfl
  rw [opIp4h, past_waits, past_waits, hd, hs, hframe, past_reg]
  simp only [harrived, hheader]
  exact congrArg (fun v => Issue.next (withReg (past c) (bits w 23 20) v) s) (hval _)

theorem opIp4h_noHeader (hd : c.waits (bits w 23 20) = false)
    (hheader : ip4Header f ((gReg c (bits w 19 16)).toNat % 512) = none) :
    opIp4h (past c) w s = .next (withReg (past c) (bits w 23 20) 2) s := by
  have hframe : getF (past c).frame s = some f := hf
  rw [opIp4h, past_waits, past_waits, hd, hs, hframe]
  simp only [past_reg, harrived, hheader]
  rfl

theorem opIp4g_header {n : Nat} (hheader : ip4Header f ((gReg c (bits w 19 16)).toNat % 512) = some n) :
    opIp4g (past c) w s = .next (past c) (setF (storeWin ((gReg c (bits w 19 16)).toNat % 512 + 10)
      (bytesBE 2 (65535 - fold16 (sum16 (putBytes (winBytes f ((gReg c (bits w 19 16)).toNat % 512) n) 10 [0, 0])))) f)
      s) := by
  have hframe : getF (past c).frame s = some f := hf
  rw [opIp4g, past_waits, hs, hframe]
  simp only [past_reg, harrived, hheader]
  rfl

theorem opIp4g_noHeader (hheader : ip4Header f ((gReg c (bits w 19 16)).toNat % 512) = none) :
    opIp4g (past c) w s = .fault Kind.badOperand := by
  have hframe : getF (past c).frame s = some f := hf
  rw [opIp4g, past_waits, hs, hframe]
  simp only [past_reg, harrived, hheader]
  rfl

end

/-- The slot that CSUM_L4 registers. -/
def slotOf (c : Ctx) (w : Nat) : Csum :=
  { udp := bit w 10, ip := (gReg c (bits w 19 16)).toNat % 2 ^ 14, l4 := (gReg c (bits w 15 12)).toNat % 2 ^ 14 }

theorem opL4_registers (ht : c.waits (bits w 15 12) = false) : opL4 (past c) w s = .next (past c) (setF { f with
    prog := if bit w 11 then { f.prog with slot1 := some (slotOf c w) }
      else { f.prog with slot0 := some (slotOf c w) } } s) := by
  have hframe : getF (past c).frame s = some f := hf
  rw [opL4, past_waits, past_waits, hs, ht, hframe]
  rfl

end

/-- Settles O25: the header instructions read the window, and a store leaves every other window byte. -/
theorem reedChecksums : Obligations.ReedChecksums := by
  refine ⟨?good, ?none, ?store, ?fault, ?slot1, ?slot0⟩
  case good =>
    exact fun i n c f s h hf harrived hd hs hheader =>
      done_eq (issue_next h (opIp4h_header hf hs harrived hd hheader))
  case none =>
    exact fun i c f s h hf harrived hd hs hheader =>
      done_eq (issue_next h (opIp4h_noHeader hf hs harrived hd hheader))
  case store =>
    intro i n c f s h hf harrived hs hheader
    refine ⟨_, done_eq (issue_next h (opIp4g_header hf hs harrived hheader)), rfl, ?_, fun k hlow hhigh => ?_⟩
    · exact winBytes_storeWin ..
    · refine winByte_storeWin_other f ?_
      rw [length_bytesBE]
      omega
  case fault =>
    exact fun i c f s h hf harrived hs hheader => done_eq (issue_fault h (opIp4g_noHeader hf hs harrived hheader))
  case slot1 =>
    intro i c f s h hf hs ht hslot
    have hop := opL4_registers hf hs ht
    rw [hslot] at hop
    exact done_eq (issue_next h hop)
  case slot0 =>
    intro i c f s h hf hs ht hslot
    have hop := opL4_registers hf hs ht
    rw [hslot] at hop
    exact done_eq (issue_next h hop)

end Sys2Proof.Machine
end

section
/-!
PROOFS. What the instructions that touch registers, the accumulator and pending operations leave alone (O27).
-/

namespace Sys2Proof.Machine

/-! ## Contexts and frames by their numbers -/

/-- A change of elements that a search passes over, and that it passes over once changed, does not change what it finds. -/
theorem find?_map_unseen {α : Type} {p : α → Bool} {f : α → α} (h : ∀ x, f x = x ∨ p x = false ∧ p (f x) = false)
    (l : List α) : (l.map f).find? p = l.find? p := by
  induction l with
  | nil => rfl
  | cons x l ih =>
    rw [List.map_cons, List.find?_cons, List.find?_cons, ih]
    rcases h x with hsame | ⟨hx, hfx⟩
    · rw [hsame]
    · rw [hx, hfx]

theorem id_of_getCtx {i : Nat} {c : Ctx} {s : State} (h : getCtx i s = some c) : c.id = i := by
  simpa using List.find?_some h

theorem id_of_getF {n : Nat} {f : Frame} {s : State} (h : getF n s = some f) : f.id = n := by
  simpa using List.find?_some h

theorem getCtx_setCtx_other {j : Nat} {c : Ctx} (s : State) (hj : j ≠ c.id) : getCtx j (setCtx c s) = getCtx j s := by
  refine find?_map_unseen (fun d => ?_) s.dp.ctxs
  split
  · next hd => exact .inr ⟨by simp [hd, hj.symm], by simp [hj.symm]⟩
  · exact .inl rfl

theorem getF_setF_other {n : Nat} {f : Frame} (s : State) (hn : n ≠ f.id) : getF n (setF f s) = getF n s := by
  refine find?_map_unseen (fun d => ?_) s.dp.frames
  split
  · next hd => exact .inr ⟨by simp [hd, hn.symm], by simp [hn.symm]⟩
  · exact .inl rfl

theorem bumpBy_regs_pc_only (k n : Nat) (s : State) :
    bumpBy k n s = { s with regs := (bumpBy k n s).regs, pc := (bumpBy k n s).pc } := by
  unfold bumpBy
  split
  · rfl
  · dsimp only
    split <;> rfl

theorem getCtx_freeCtx_other {j : Nat} {c : Ctx} (s : State) (hj : j ≠ c.id) : getCtx j (freeCtx c s) = getCtx j s := by
  have hpick : (fun d : Ctx => decide ((d.id != c.id) = true ∧ (d.id == j) = true)) = fun d => d.id == j := by
    funext d
    by_cases hd : d.id = j
    · simp [hd, hj]
    · simp [hd]
  rw [freeCtx, getCtx, bumpBy_dp]
  exact (List.find?_filter ..).trans (congrArg (s.dp.ctxs.find? ·) hpick)

theorem getF_freeCtx (n : Nat) (c : Ctx) (s : State) : getF n (freeCtx c s) = getF n s := by
  rw [freeCtx, getF, bumpBy_dp]
  rfl

/-! ## What a program's step may change -/

/-- Registers that an instruction in a context of cluster `cl` may write: those of a recorded fault, of the cluster's errors
and of a wrapped counter. -/
def engineRegs (cl : Nat) : List Nat :=
  [loc .RE_FAULT_LAST cl, loc .RE_CL_EVENT cl, loc .RE_CL_STATUS cl, loc .PC_EVENT, loc .PC_WRAP_LAST]

/-- Everything but context `i`, the frames whose numbers `N` names, the cluster's own registers and the counters is as it
was. -/
structure EngineKept (i : Nat) (N : Nat → Prop) (s e : State) : Prop where
  regs : ∀ a, a ∉ engineRegs (i / 34) → rd a e = rd a s
  ctxs : ∀ j, j ≠ i → getCtx j e = getCtx j s
  frames : ∀ f, ¬ N f → getF f e = getF f s
  rest : e = { s with regs := e.regs, pc := e.pc, dp := e.dp }

section
variable {i : Nat} {N : Nat → Prop}

theorem EngineKept.refl (s : State) : EngineKept i N s s := ⟨fun _ _ => rfl, fun _ _ => rfl, fun _ _ => rfl, rfl⟩

theorem EngineKept.trans {s t u : State} (h : EngineKept i N s t) (k : EngineKept i N t u) : EngineKept i N s u where
  regs a ha := (k.regs a ha).trans (h.regs a ha)
  ctxs j hj := (k.ctxs j hj).trans (h.ctxs j hj)
  frames f hf := (k.frames f hf).trans (h.frames f hf)
  rest := k.rest.trans (congrArg (fun v : State => { v with regs := u.regs, pc := u.pc, dp := u.dp }) h.rest)

theorem EngineKept.ite {p : Prop} [Decidable p] {s t u : State} (ht : EngineKept i N s t) (hu : EngineKept i N s u) :
    EngineKept i N s (if p then t else u) := by
  split
  · exact ht
  · exact hu

/-- Composition from the last step back. -/
theorem EngineKept.after {s t u : State} (k : EngineKept i N t u) (h : EngineKept i N s t) : EngineKept i N s u := h.trans k

theorem wr_engineKept {a : Nat} (ha : a ∈ engineRegs (i / 34)) (v : Nat) (s : State) : EngineKept i N s (wr a v s) :=
  { EngineKept.refl s with regs := fun b hb => rd_wr_other a b v s fun e => hb (e ▸ ha), rest := rfl }

theorem bumpBy_engineKept (k m : Nat) (s : State) : EngineKept i N s (bumpBy k m s) where
  regs a ha := (bumpBy_countsOnly k m s).regs a (fun e => ha (by simp [engineRegs, e])) fun e => ha (by simp [engineRegs, e])
  ctxs _ _ := by rw [getCtx, bumpBy_dp, getCtx]
  frames f _ := by rw [getF, bumpBy_dp, getF]
  rest := by
    rw [bumpBy_dp]
    exact bumpBy_regs_pc_only k m s

theorem bump_engineKept (k : Nat) (s : State) : EngineKept i N s (bump k s) := bumpBy_engineKept k 1 s

theorem setCtx_engineKept {c : Ctx} (hc : c.id = i) (s : State) : EngineKept i N s (setCtx c s) :=
  { EngineKept.refl s with ctxs := fun _ hj => getCtx_setCtx_other s (hc ▸ hj), rest := rfl }

theorem setF_engineKept {f : Frame} (hf : N f.id) (s : State) : EngineKept i N s (setF f s) :=
  { EngineKept.refl (N := N) s with frames := fun _ hg => getF_setF_other s fun e => hg (e ▸ hf), rest := rfl }

theorem freeCtx_engineKept {c : Ctx} (hc : c.id = i) (s : State) : EngineKept i N s (freeCtx c s) where
  regs a ha := (bumpBy_engineKept (i := i) (N := N) ..).regs a ha
  ctxs _ hj := getCtx_freeCtx_other s (hc ▸ hj)
  frames f _ := getF_freeCtx f c s
  rest := (bumpBy_engineKept (i := i) (N := N) ..).rest

theorem noteFault_engineKept (eng kind pc : Nat) (f : Frame) (s : State) :
    EngineKept i N s (noteFault (i / 34) eng kind pc f s) := by
  have hlast : loc .RE_FAULT_LAST (i / 34) ∈ engineRegs (i / 34) := by simp [engineRegs]
  have hevent : loc .RE_CL_EVENT (i / 34) ∈ engineRegs (i / 34) := by simp [engineRegs]
  unfold noteFault
  split
  · exact .after (bump_engineKept ..) (.after (wr_engineKept hevent ..) (wr_engineKept hlast ..))
  · exact .after (bump_engineKept ..) (.after (wr_engineKept hevent ..) (wr_engineKept hlast ..))

section
variable {c : Ctx} (hc : c.id = i) (hn : N c.frame)
include hc hn

/-- A fault ends the program of its context and gives its frame a verdict. -/
theorem ctxFault_engineKept (kind : Nat) (s : State) : EngineKept i N s (ctxFault kind c s) := by
  unfold ctxFault
  split
  · exact freeCtx_engineKept hc s
  · next f hf =>
    have hid : N (faultVerdict kind f).id := (id_of_getF hf).symm ▸ hn
    have hcl : ctxCluster c.id = i / 34 := congrArg (· / 34) hc
    rw [hcl]
    exact .after (noteFault_engineKept ..) (.after (setF_engineKept hid _) (freeCtx_engineKept hc s))

theorem psFatal_engineKept (s : State) : EngineKept i N s (psFatal c s) := by
  have hcl : ctxCluster c.id = i / 34 := congrArg (· / 34) hc
  unfold psFatal
  dsimp only
  rw [hcl]
  exact .after (wr_engineKept (by simp [engineRegs]) ..) (.after (wr_engineKept (by simp [engineRegs]) ..)
    (ctxFault_engineKept hc hn _ s))

omit hn in
theorem psCorrected_engineKept (s : State) : EngineKept i N s (psCorrected c s) := by
  have hcl : ctxCluster c.id = i / 34 := congrArg (· / 34) hc
  unfold psCorrected
  rw [hcl]
  split
  · exact .after (bump_engineKept ..) (wr_engineKept (by simp [engineRegs]) ..)
  · exact .refl s

end

/-! ## Instructions that change their own context only -/

/-- What an instruction answers changes its own context, and at most counts beside. -/
def OwnContext (c : Ctx) (s : State) : Issue → Prop
  | .stall => True
  | .fault _ => True
  | .next d t => d.id = c.id ∧ ∀ i N, EngineKept i N s t
  | .stop _ => False

/-- The frame of context `i` has number `f`. -/
def FrameOf (i : Nat) (s : State) (f : Nat) : Prop := ∃ c, getCtx i s = some c ∧ c.frame = f

/-- An instruction that changes its own context only leaves the rest alone, whatever becomes of its issue. -/
theorem issue_engineKept {o : Op} {op : Ctx → Nat → State → Issue} {s : State}
    (hown : ∀ c w t, OwnContext c t (op c w t)) :
    EngineKept i (FrameOf i s) s (issue o i op s) := by
  unfold issue
  split
  · exact .refl s
  · next c hctx =>
    have hid : c.id = i := id_of_getCtx hctx
    have hframe : FrameOf i s c.frame := ⟨c, hctx, rfl⟩
    have hcorr := psCorrected_engineKept (N := FrameOf i s) hid s
    have hop := hown { c with issued := c.issued + 1, pc := (c.pc + 1) % 4096 } (fetch c s) (psCorrected c s)
    refine .ite (.refl s) (.ite (ctxFault_engineKept hid hframe _ s) (.ite (psFatal_engineKept hid hframe s)
      (.ite (.trans hcorr (ctxFault_engineKept (c := { c with issued := c.issued + 1 }) hid hframe _ _)) ?_)))
    dsimp only
    split
    · exact .refl s
    · exact .trans hcorr (ctxFault_engineKept (c := { c with issued := c.issued + 1 }) hid hframe _ _)
    · next d t hnext =>
      rw [hnext] at hop
      obtain ⟨hd, ht⟩ := hop
      exact .after (setCtx_engineKept (hd.trans hid) t) (hcorr.trans (ht ..))
    · next t hstop =>
      rw [hstop] at hop
      exact hop.elim

end

section
variable {c : Ctx} {w : Nat} {s : State}

theorem ownContext_next {d : Ctx} (hd : d.id = c.id) : OwnContext c s (.next d s) := ⟨hd, fun _ _ => .refl s⟩

theorem ownContext_ite {p : Prop} [Decidable p] {a b : Issue} (ha : OwnContext c s a) (hb : OwnContext c s b) :
    OwnContext c s (if p then a else b) := by
  split
  · exact ha
  · exact hb

theorem regOp_own {regs : List Nat} {f : Ctx → Ctx} (hf : (f c).id = c.id) : OwnContext c s (regOp regs c s f) :=
  ownContext_ite trivial (ownContext_next hf)

theorem opNop_own : OwnContext c s (opNop c w s) := ownContext_next rfl

theorem opSync_own : OwnContext c s (opSync c w s) := ownContext_ite trivial (ownContext_next rfl)

theorem opCnt_own : OwnContext c s (opCnt c w s) := ⟨rfl, fun _ _ => bump_engineKept ..⟩

theorem opAlu_own : OwnContext c s (opAlu c w s) := by
  unfold opAlu
  exact regOp_own rfl

theorem opAlui_own : OwnContext c s (opAlui c w s) := by
  unfold opAlui
  exact regOp_own rfl

theorem opMovw_own : OwnContext c s (opMovw c w s) := by
  unfold opMovw
  exact regOp_own rfl

theorem opExt_own : OwnContext c s (opExt c w s) := ownContext_ite trivial (regOp_own rfl)

theorem opIns_own : OwnContext c s (opIns c w s) := ownContext_ite trivial (regOp_own rfl)

theorem opLd_own : OwnContext c s (opLd c w s) := by
  refine ownContext_ite trivial ?_
  split
  · exact ownContext_next rfl
  · exact ownContext_ite (ownContext_ite trivial (ownContext_ite trivial (ownContext_next rfl)))
      (ownContext_ite trivial (ownContext_ite trivial (ownContext_next rfl)))

theorem opBr_own : OwnContext c s (opBr c w s) := by
  unfold opBr
  refine regOp_own ?_
  split <;> rfl

theorem opBrh_own : OwnContext c s (opBrh c w s) := by
  unfold opBrh
  refine regOp_own ?_
  split <;> rfl

theorem opBb_own : OwnContext c s (opBb c w s) := by
  unfold opBb
  refine regOp_own ?_
  split <;> rfl

theorem opJmp_own : OwnContext c s (opJmp c w s) := ownContext_next rfl

theorem opCall_own : OwnContext c s (opCall c w s) := ownContext_ite trivial (ownContext_next rfl)

theorem opRet_own : OwnContext c s (opRet c w s) := by
  unfold opRet
  split
  · trivial
  · exact ownContext_next rfl

theorem opJmpr_own : OwnContext c s (opJmpr c w s) := by
  unfold opJmpr
  exact regOp_own rfl

theorem opLkp_own : OwnContext c s (opLkp c w s) :=
  ownContext_ite trivial (ownContext_ite trivial (ownContext_ite trivial (ownContext_ite trivial (ownContext_next rfl))))

theorem opMtr_own : OwnContext c s (opMtr c w s) :=
  ownContext_ite trivial (ownContext_ite trivial (ownContext_ite trivial (ownContext_next rfl)))

theorem opHasha_own : OwnContext c s (opHasha c w s) := by
  refine ownContext_ite (ownContext_ite trivial (ownContext_ite trivial (ownContext_ite trivial (ownContext_next rfl))))
    (ownContext_ite trivial (ownContext_ite trivial ?_))
  split
  · exact ownContext_next rfl
  · exact ownContext_ite trivial (ownContext_ite trivial (ownContext_next rfl))

theorem opHashf_own : OwnContext c s (opHashf c w s) :=
  ownContext_ite trivial (ownContext_ite trivial (ownContext_ite trivial (ownContext_next rfl)))

theorem opIp4h_own : OwnContext c s (opIp4h c w s) := by
  refine ownContext_ite trivial ?_
  split
  · exact ownContext_next rfl
  refine ownContext_ite trivial ?_
  split <;> exact ownContext_next rfl

end

/-- The rows that touch registers, the accumulator and pending operations. -/
def registerRows : List (Nat → Instr) :=
  [.nop, .sync, .cnt, .alu, .alui, .movw, .ext, .ins, .ld, .br, .brh, .bb, .jmp, .call, .ret, .jmpr, .lkp, .mtr, .hasha,
    .hashf, .csumIp4h]

/-- Each of these rows issues an instruction that changes its own context only. -/
theorem exec_registerRow {r : Nat → Instr} (hr : r ∈ registerRows) (i : Nat) (s : State) :
    ∃ o op, exec (r i) s = .next (settle (issue o i op s)) ∧ ∀ c w t, OwnContext c t (op c w t) := by
  unfold registerRows at hr
  fin_cases hr
  · exact ⟨_, _, rfl, fun _ _ _ => opNop_own⟩
  · exact ⟨_, _, rfl, fun _ _ _ => opSync_own⟩
  · exact ⟨_, _, rfl, fun _ _ _ => opCnt_own⟩
  · exact ⟨_, _, rfl, fun _ _ _ => opAlu_own⟩
  · exact ⟨_, _, rfl, fun _ _ _ => opAlui_own⟩
  · exact ⟨_, _, rfl, fun _ _ _ => opMovw_own⟩
  · exact ⟨_, _, rfl, fun _ _ _ => opExt_own⟩
  · exact ⟨_, _, rfl, fun _ _ _ => opIns_own⟩
  · exact ⟨_, _, rfl, fun _ _ _ => opLd_own⟩
  · exact ⟨_, _, rfl, fun _ _ _ => opBr_own⟩
  · exact ⟨_, _, rfl, fun _ _ _ => opBrh_own⟩
  · exact ⟨_, _, rfl, fun _ _ _ => opBb_own⟩
  · exact ⟨_, _, rfl, fun _ _ _ => opJmp_own⟩
  · exact ⟨_, _, rfl, fun _ _ _ => opCall_own⟩
  · exact ⟨_, _, rfl, fun _ _ _ => opRet_own⟩
  · exact ⟨_, _, rfl, fun _ _ _ => opJmpr_own⟩
  · exact ⟨_, _, rfl, fun _ _ _ => opLkp_own⟩
  · exact ⟨_, _, rfl, fun _ _ _ => opMtr_own⟩
  · exact ⟨_, _, rfl, fun _ _ _ => opHasha_own⟩
  · exact ⟨_, _, rfl, fun _ _ _ => opHashf_own⟩
  · exact ⟨_, _, rfl, fun _ _ _ => opIp4h_own⟩

/-- Settles O27: each row issues an instruction that changes its own context only. -/
theorem reedFrame : Obligations.ReedFrame := by
  intro r hr i s t h
  obtain ⟨o, op, hrow, hown⟩ := exec_registerRow hr i s
  obtain ⟨hregs, hctxs, hframes, hrest⟩ := issue_engineKept (o := o) (i := i) (s := s) hown
  refine ⟨issue o i op s, Host.Outcome.next.inj (h.symm.trans hrow), hregs, hctxs, fun f hf => ?_, ?_⟩
  · exact hframes f fun ⟨c, hctx, hc⟩ => hf c hctx hc
  · rw [hrest]
    exact ⟨rfl, rfl, rfl, rfl, rfl, rfl, rfl, rfl, rfl, rfl, rfl, rfl, rfl, rfl, rfl, rfl⟩

end Sys2Proof.Machine
end

section
/-!
PROOFS. Dispatch of frames to contexts, and the effects of verdicts (O28).
-/

namespace Sys2Proof.Machine

/-! ## The cluster with most free contexts (R190) -/

theorem le_foldl_max {α : Type} (f : α → Nat) (l : List α) (a : Nat) :
    a ≤ l.foldl (fun m x => max m (f x)) a ∧ ∀ x ∈ l, f x ≤ l.foldl (fun m x => max m (f x)) a := by
  induction l generalizing a with
  | nil => exact ⟨Nat.le_refl a, nofun⟩
  | cons x l ih =>
    obtain ⟨hstart, hrest⟩ := ih (max a (f x))
    rw [List.foldl_cons]
    refine ⟨by omega, fun y hy => ?_⟩
    rcases List.mem_cons.mp hy with rfl | hy
    · omega
    · exact hrest y hy

/-- The clusters in the order of a choice, from the one after the last chosen. -/
def clusterOrder (s : State) : List Nat := (List.range 24).map (fun k => (s.dp.lastCluster + 1 + k) % 24)

theorem mem_clusterOrder {k : Nat} {s : State} : k ∈ clusterOrder s ↔ k < 24 := by
  constructor
  · intro h
    obtain ⟨j, -, rfl⟩ := List.mem_map.mp h
    omega
  · intro h
    exact List.mem_map.mpr ⟨(k + 24 - (s.dp.lastCluster + 1) % 24) % 24, List.mem_range.mpr (by omega), by omega⟩

/-- The cluster picked has a free context, and none has more. -/
theorem pickCluster_most {cl : Nat} {s : State} (h : pickCluster s = some cl) :
    cl < 24 ∧ 0 < freeCount cl s ∧ ∀ k, k < 24 → freeCount k s ≤ freeCount cl s := by
  obtain ⟨-, hmost⟩ := le_foldl_max (fun c => freeCount c s) (clusterOrder s) 0
  unfold pickCluster at h
  dsimp only at h
  split at h
  · exact absurd h (by simp)
  next hbest =>
    have hcount := List.find?_some h
    rw [beq_iff_eq] at hcount
    rw [hcount]
    exact ⟨mem_clusterOrder.mp (List.mem_of_find?_eq_some h), Nat.pos_of_ne_zero hbest,
      fun k hk => hmost k (mem_clusterOrder.mpr hk)⟩

/-! ## Dispatch (R189 to R191, R213) -/

theorem getF_setF_same {f g : Frame} {s : State} (h : getF f.id s = some g) : getF f.id (setF f s) = some f := by
  have hpick : ((fun d : Frame => d.id == f.id) ∘ fun d => if d.id = f.id then f else d) = fun d => d.id == f.id := by
    funext d
    by_cases hd : d.id = f.id <;> simp [hd]
  have hid : g.id = f.id := id_of_getF h
  have hfind : s.dp.frames.find? (fun d => d.id == f.id) = some g := h
  rw [getF, setF]
  dsimp only
  rw [List.find?_map, hpick, hfind, Option.map_some, if_pos hid]

/-- The oldest frame of a line that is not dispatched is a frame of the store. -/
theorem getF_of_line {l : List Nat} {f : Frame} {s : State}
    (h : (l.filterMap (fun x => getF x s)).find? (fun x => !x.dispatched) = some f) : getF f.id s = some f := by
  obtain ⟨x, -, hx⟩ := List.mem_filterMap.mp (List.mem_of_find?_eq_some h)
  rw [id_of_getF hx, hx]

section
variable {p : Nat} {tx : Bool} {f : Frame} {s : State} (ecc : List (Nat × Bool))
  (hline : ((lineOf p tx s).filterMap (fun x => getF x s)).find? (fun x => !x.dispatched) = some f)
  (hready : dispatchable f = true) (hrun : islRun 2 s = true)
include hline hready hrun

theorem dispatch_places {cl i : Nat} (hfirst : ∀ w, firstWaiter s = some w → w = f.id)
    (hcl : pickCluster s = some cl) (hctx : pickCtx cl s = some i) : dispatch p tx ecc s = place f cl i ecc s := by
  have hturn : (firstWaiter s).any (· != f.id) = false := by
    cases hw : firstWaiter s with
    | none => rfl
    | some w => simp [hfirst w hw]
  simp [dispatch, hline, hready, hrun, hturn, hcl, hctx]

theorem dispatch_waits (hwait : (∃ w, firstWaiter s = some w ∧ w ≠ f.id) ∨ pickCluster s = none) :
    dispatch p tx ecc s = joinWaiters f s := by
  rcases hwait with ⟨w, hw, hne⟩ | hnone
  · simp [dispatch, hline, hready, hrun, hw, hne]
  · simp [dispatch, hline, hready, hrun, hnone]

end

/-- A frame that begins to wait waits last, is marked, and sets CTX_WAIT. -/
theorem joinWaiters_shows {f : Frame} {s : State} (hf : getF f.id s = some f) (hnew : f.waited = false) :
    (joinWaiters f s).dp.waiters = s.dp.waiters ++ [f.id] ∧
    fb (loc .RE_EVENT) F.RE_EVENT_CTX_WAIT (joinWaiters f s) = true ∧
    getF f.id (joinWaiters f s) = some { f with waited := true } := by
  have hstore (t : State) (h : t.dp.frames = s.dp.frames) :
      getF f.id (setF { f with waited := true } t) = some { f with waited := true } :=
    getF_setF_same (f := { f with waited := true }) ((congrArg (List.find? _) h).trans hf)
  have hother : loc .RE_EVENT ≠ loc .PC_EVENT ∧ loc .RE_EVENT ≠ loc .PC_WRAP_LAST := by decide
  obtain ⟨hevent, hlast⟩ := hother
  rw [joinWaiters, if_neg (by simp [hnew])]
  refine ⟨congrArg Dp.waiters (bump_dp ..), ?_, ?_⟩
  · exact (fb_congr _ (rd_bump_other _ _ hevent hlast)).trans (fb_setFlag_same _ _ rfl (by decide))
  · rw [getF, bump_dp]
    exact hstore _ rfl

/-! ## Verdicts (R192, R207, R208, R210) -/

section
variable {p i : Nat} {tx : Bool} {l : List Nat} {g : Frame} {s : State} (hline : lineOf p tx s = i :: l)
  (hg : getF i s = some g)
include hline hg

theorem verdictEffect_none (hv : g.verdict = none) : verdictEffect p tx s = s := by
  simp only [verdictEffect, hline, hg, hv]

variable {v : Verdict} (hv : g.verdict = some v) (hdead : g.dead = false)
include hv hdead

theorem verdictEffect_live : verdictEffect p tx s =
    if tx && txWaits g v then s
    else if tx then takeTx g v (setLine p tx l s)
    else takeRx g v (drainLearns p (setLine p tx l s)) := by
  simp [verdictEffect, hline, hg, hv, hdead]

end

section
variable {v : Verdict} {g : Frame} {s : State}

/-- A transmitted frame waits where a copy or a loopback needs data that is not there. -/
theorem txWaits_eq_true (hended : g.ended = false) (hneeds : v.mirror.isSome = true ∨ ∃ q, v.kind = .deliver q) :
    txWaits g v = true := by
  rcases hneeds with hmirror | ⟨q, hq⟩
  · simp [txWaits, hended, hmirror]
  · simp [txWaits, hended, hq]

theorem txWaits_eq_false (h : g.ended = true ∨ (v.mirror = none ∧ ∀ q, v.kind ≠ .deliver q)) : txWaits g v = false := by
  rcases h with hended | ⟨hmirror, hkind⟩
  · simp [txWaits, hended]
  · unfold txWaits
    rw [hmirror]
    split
    · next q hq => exact absurd hq (hkind q)
    · simp

/-- A fault of the frame's edits replaces its verdict. -/
theorem takeRx_late (hended : g.ended = true) (hlate : lateFault g ≠ 0) : takeRx g v s =
    rxFault g (kindStatus (lateFault g)) (noteLate g (lateFault g) (setF { g with effective := true } s)) := by
  simp [takeRx, hended, hlate]

/-- Otherwise the verdict takes effect, after the mirror copy of a frame that has ended. -/
theorem takeRx_effect {t : State} (hlate : g.ended = true → lateFault g = 0)
    (ht : t = setF { g with effective := true } s) : takeRx g v s =
    rxEffect { g with effective := true } v
      (if g.ended then (v.mirror.map (fun m => mirrorCopy g m t)).getD t else t) := by
  have hnone : (if g.ended then lateFault g else 0) = 0 := by
    split
    · next hended => exact hlate hended
    · rfl
  subst ht
  simp only [takeRx, hnone]
  cases v.mirror with
  | none => simp
  | some m => rfl

/-- A transmitted frame whose verdict takes effect, and its mirror copy. -/
def txMirrored (g : Frame) (v : Verdict) (s : State) : State :=
  (v.mirror.map (fun m => mirrorCopy g m (setF { g with effective := true } s))).getD (setF { g with effective := true } s)

theorem takeTx_drop (hk : v.kind = .drop) :
    takeTx g v s = endTx g St.txProgramDrop none (returnCharge g.port g.id (txMirrored g v s)) := by
  obtain ⟨k, mirror, mark⟩ := v
  obtain rfl : k = .drop := hk
  cases mirror <;> rfl

theorem takeTx_deliver {q : Nat} (hk : v.kind = .deliver q) :
    takeTx g v s = loopback g q (returnCharge g.port g.id (txMirrored g v s)) := by
  obtain ⟨k, mirror, mark⟩ := v
  obtain rfl : k = .deliver q := hk
  cases mirror <;> rfl

/-- A frame to be sent has its charge adjusted to what is emitted, and is then refused or ready. -/
theorem takeTx_send {w : State} {x : Sel} (hk : v.kind = .send)
    (hw : w = adjustCharge g.port g.id (chargeNow g.port g.id (emitLen g) (txMirrored g v s)) (txMirrored g v s))
    (hx : selOf g.port g.id w = some x) :
    takeTx g v s = if refusal g w = 0 then setSel g.port { x with ready := true } w
      else endTx g (refusal g w) none (returnCharge g.port g.id (countRefused g (refusal g w) w)) := by
  obtain ⟨k, mirror, mark⟩ := v
  obtain rfl : k = .send := hk
  have hsend : takeTx g ⟨.send, mirror, mark⟩ s = if refusal g w ≠ 0 then refuseTx g (refusal g w) w
      else match selOf g.port g.id w with
        | some y => setSel g.port { y with ready := true } w
        | none => w := by
    rw [hw]
    cases mirror <;> rfl
  rw [hsend, hx, ite_not]
  rfl

end

/-- Settles O28: one lemma for each outcome of a dispatch and of a verdict whose turn it is. -/
theorem dispatchAndVerdicts : Obligations.DispatchAndVerdicts := by
  refine ⟨?placed, ?waits, ?cluster, ?noVerdict, ?received, ?dataWaited, ?transmitted⟩
  case placed =>
    exact fun p cl i tx ecc f s hp hline hready hrun hfirst hcl hctx =>
      done_port (f := fun p => dispatch p tx ecc) hp (dispatch_places ecc hline hready hrun hfirst hcl hctx)
  case waits =>
    exact fun p tx ecc f s hp hline hready hrun hwait hnew =>
      ⟨joinWaiters f s, done_port (f := fun p => dispatch p tx ecc) hp (dispatch_waits ecc hline hready hrun hwait),
        joinWaiters_shows (getF_of_line hline) hnew⟩
  case cluster => exact fun cl s h => pickCluster_most h
  case noVerdict =>
    exact fun p i tx g l s hp hline hg hv =>
      done_port (f := fun p => verdictEffect p tx) hp (verdictEffect_none hline hg hv)
  case received =>
    intro p i v g l t w s hp hline hg hv hdead ht
    have htake := verdictEffect_live hline hg hv hdead
    refine ⟨fun hended hlate => ?_, fun hlate hw => ?_⟩
    · refine done_port (f := fun p => verdictEffect p false) hp (htake.trans ?_)
      rw [ht]
      exact takeRx_late hended hlate
    · refine done_port (f := fun p => verdictEffect p false) hp (htake.trans ?_)
      rw [hw]
      exact takeRx_effect hlate ht
  case dataWaited =>
    intro p i v g l s hp hline hg hv hdead hended hneeds
    refine done_port (f := fun p => verdictEffect p true) hp ((verdictEffect_live hline hg hv hdead).trans ?_)
    rw [txWaits_eq_true hended hneeds]
    rfl
  case transmitted =>
    intro p i v g l t s hp hline hg hv hdead hdata ht
    have htake : verdictEffect p true s = takeTx g v (setLine p true l s) := by
      rw [verdictEffect_live hline hg hv hdead, txWaits_eq_false hdata]
      rfl
    have hexec {u : State} (hu : takeTx g v (setLine p true l s) = u) :
        exec (.verdictTakeEffect p true) s = .next (settle u) :=
      done_port (f := fun p => verdictEffect p true) hp (htake.trans hu)
    subst ht
    exact ⟨fun hk => hexec (takeTx_drop hk), fun q hk => hexec (takeTx_deliver hk),
      fun w x hk hw hx => hexec (takeTx_send hk hw hx)⟩

end Sys2Proof.Machine
end

section
/-!
PROOFS. The program store, the substitution of engines and the rates of a millisecond (O29).
-/

namespace Sys2Proof.Machine

/-! ## Writes of the store (R217, R218) -/

section
variable {d : Nat} {s : State} (hdrained : drained s = true) (hfree : progRuns s = false)
include hdrained hfree

theorem psWrite_word (hspace : fb (loc .RE_PS_ADDR) F.RE_PS_ADDR_SPACE s = false) : psWrite d s =
    some (psAdvance (putStore (standbyBank s) (fg (loc .RE_PS_ADDR) F.RE_PS_ADDR_INDEX s) d s)) := by
  simp [psWrite, hdrained, hfree, hspace]

theorem psWrite_entry (hspace : fb (loc .RE_PS_ADDR) F.RE_PS_ADDR_SPACE s = true)
    (hindex : fg (loc .RE_PS_ADDR) F.RE_PS_ADDR_INDEX s < 128) : psWrite d s =
    some (psAdvance (putEntry (standbyBank s) (fg (loc .RE_PS_ADDR) F.RE_PS_ADDR_INDEX s) d s)) := by
  simp [psWrite, hdrained, hfree, hspace, hindex]

theorem psCtrl_switches (hswitch : bit d 31 = true) : psCtrl d s = some (bankSwitch s) := by
  simp [psCtrl, hdrained, hfree, hswitch]

end

theorem psCtrl_plain {d : Nat} (s : State) (h : bit d 31 = false) : psCtrl d s = some s := by
  rw [psCtrl, if_pos h]

/-! ## Switches (R217, R219) -/

/-- The state once the standby bank is active and drains. -/
def bankSwitched (s : State) : State :=
  fs (loc .RE_PS_CTRL) F.RE_PS_CTRL_DRAINED 0 (fs (loc .RE_PS_CTRL) F.RE_PS_CTRL_ACTIVE (standbyBank s) s)

/-- A cluster returns to dispatch. -/
def enableCluster (c : Nat) (s : State) : State := fs (loc .RE_CL_STATUS c) F.RE_CL_STATUS_DISABLED 0 s

/-- Enabling clusters leaves every register beside their states alone. -/
theorem rd_enableClusters {a : Nat} {l : List Nat} (ha : ∀ c ∈ l, a ≠ loc .RE_CL_STATUS c) (s : State) :
    rd a (forEach l enableCluster s) = rd a s :=
  forEach_keeps (rd a) l (fun c hc t => rd_fs_other _ a _ _ t (ha c hc)) s

theorem clusterStatus_injective {c x : Nat} (h : loc .RE_CL_STATUS c = loc .RE_CL_STATUS x) : c = x := by
  rw [loc_eq, loc_eq] at h
  omega

/-- Enabling one cluster enables it, and disables none. -/
theorem enableCluster_enabled {c x : Nat} {s : State}
    (h : c = x ∨ fb (loc .RE_CL_STATUS c) F.RE_CL_STATUS_DISABLED s = false) :
    fb (loc .RE_CL_STATUS c) F.RE_CL_STATUS_DISABLED (enableCluster x s) = false := by
  by_cases hx : c = x
  · rw [hx]
    exact fb_fs_clear _ s (by decide) (by decide)
  · exact (fb_congr _ (rd_fs_other _ _ _ _ s fun e => hx (clusterStatus_injective e))).trans (h.resolve_left hx)

/-- Every cluster of a list is enabled once all are, and so is one that was enabled. -/
theorem enableClusters_enabled {c : Nat} {l : List Nat} {s : State}
    (h : c ∈ l ∨ fb (loc .RE_CL_STATUS c) F.RE_CL_STATUS_DISABLED s = false) :
    fb (loc .RE_CL_STATUS c) F.RE_CL_STATUS_DISABLED (forEach l enableCluster s) = false := by
  induction l generalizing s with
  | nil =>
    rw [forEach, List.foldl_nil]
    exact h.resolve_left nofun
  | cons x l ih =>
    rw [forEach, List.foldl_cons, ← forEach]
    refine ih ?_
    rcases h with hmem | hclear
    · exact (List.mem_cons.mp hmem).symm.imp_right fun hx => enableCluster_enabled (.inl hx)
    · exact .inr (enableCluster_enabled (.inr hclear))

theorem bankSwitch_eq (s : State) : bankSwitch s = forEach (List.range 24) enableCluster (bankSwitched s) := rfl

/-- A switch makes the standby bank active, begins to drain the other, and enables every cluster. -/
theorem bankSwitch_shows (s : State) : activeBank (bankSwitch s) = standbyBank s ∧ drained (bankSwitch s) = false ∧
    ∀ c, c < 24 → fb (loc .RE_CL_STATUS c) F.RE_CL_STATUS_DISABLED (bankSwitch s) = false := by
  have hctrl : rd (loc .RE_PS_CTRL) (forEach (List.range 24) enableCluster (bankSwitched s)) =
      rd (loc .RE_PS_CTRL) (bankSwitched s) := rd_enableClusters (by decide) _
  rw [bankSwitch_eq]
  refine ⟨?_, ?_, fun c hc => enableClusters_enabled (.inl (List.mem_range.mpr hc))⟩
  · calc fg (loc .RE_PS_CTRL) F.RE_PS_CTRL_ACTIVE (forEach (List.range 24) enableCluster (bankSwitched s))
      _ = fg (loc .RE_PS_CTRL) F.RE_PS_CTRL_ACTIVE (bankSwitched s) := fg_congr _ hctrl
      _ = fg (loc .RE_PS_CTRL) F.RE_PS_CTRL_ACTIVE (fs (loc .RE_PS_CTRL) F.RE_PS_CTRL_ACTIVE (standbyBank s) s) :=
        fg_fs_beside _ _ _ (by decide) (by decide) (by decide)
      _ = standbyBank s % 2 := fg_fs_same _ _ _ (by decide) (by decide)
      _ = standbyBank s := Nat.mod_eq_of_lt (by unfold standbyBank; omega)
  · exact (fb_congr _ hctrl).trans (fb_fs_clear _ _ (by decide) (by decide))

theorem psDrained_waits {s : State} (h : ∃ c, c ∈ s.dp.ctxs ∧ c.bank = standbyBank s) : psDrained s = s := by
  obtain ⟨c, hc, hbank⟩ := h
  have hruns : s.dp.ctxs.any (fun c => c.bank == standbyBank s) = true := List.any_eq_true.mpr ⟨c, hc, by simp [hbank]⟩
  exact if_pos (by rw [hruns, Bool.or_true])

theorem psDrained_completes {e s : State} (hdrains : drained s = false)
    (hnone : ∀ c, c ∈ s.dp.ctxs → c.bank ≠ standbyBank s)
    (he : e = setFlag (loc .RE_EVENT) F.RE_EVENT_SWITCH_DONE (fs (loc .RE_PS_CTRL) F.RE_PS_CTRL_DRAINED 1 s)) :
    psDrained s = progKick (finishOpt s.dp.progCmd St.ok 0 { e with dp := { e.dp with progCmd := none } }) := by
  have hquiet : s.dp.ctxs.any (fun c => c.bank == standbyBank s) = false := by simpa using hnone
  rw [psDrained, hdrains, hquiet, he]
  rfl

/-! ## Substitution of engines (R220) -/

theorem writeSubst_stores (cl : Nat) {d : Nat} (s : State) (h : bit d 31 = false) :
    writeSubst cl d s = some (fs (loc .RE_CL_SUBST cl) F.RE_CL_SUBST_ENGINE (d % 32) s) := by
  simp [writeSubst, h]

theorem writeSubst_starts {cl d : Nat} {s t : State} (h : bit d 31 = true)
    (ht : substEngine cl (d % 32) none (fs (loc .RE_CL_SUBST cl) F.RE_CL_SUBST_ENGINE (d % 32) s) = some t) :
    writeSubst cl d s = some t := by
  simp [writeSubst, h, ht]

theorem writes_engineSubst {m : Master} {cl : Nat} {d : W32} {s t : State} (hcl : cl < 24)
    (h : writeSubst cl d.toNat s = some t) :
    Writes (.engineSubstRequest m cl d) m (loc .RE_CL_SUBST cl) d.toNat s t := by
  intro hopen
  have hrow : exec (.engineSubstRequest m cl d) s =
      done (ctlWrite m (loc .RE_CL_SUBST (cl % 24)) d.toNat (writeSubst (cl % 24) d.toNat) s) := rfl
  rw [hrow, Nat.mod_eq_of_lt hcl]
  exact done_eq (ctlWrite_open hopen h)

/-! ## Rates (R214) -/

/-- The engines of the block that dispatch. -/
def engineCount (s : State) : Nat := (List.range 24).foldl (fun a c => a + (dispatching c s).length) 0

/-- RE_RATE and RE_ELAPSED with three values, each saturated at its 16 bits. -/
def ratesWritten (issue sustain elapsed : Nat) (s : State) : State :=
  fs (loc .RE_ELAPSED) F.RE_ELAPSED_MEAN_ELAPSED (min elapsed 65535)
    (fs (loc .RE_RATE) F.RE_RATE_SUSTAIN (min sustain 65535)
      (fs (loc .RE_RATE) F.RE_RATE_MEAN_ISSUE (min issue 65535) s))

/-- The state in which they show these values, and the totals begin anew. -/
def ratesShown (issue sustain elapsed : Nat) (s : State) : State :=
  { ratesWritten issue sustain elapsed s with
    dp := { (ratesWritten issue sustain elapsed s).dp with msFrames := 0, msIssue := 0, msElapsed := 0 } }

theorem ratesWritten_dp (issue sustain elapsed : Nat) (s : State) : (ratesWritten issue sustain elapsed s).dp = s.dp := by
  rw [ratesWritten, fs_dp, fs_dp, fs_dp]

theorem ratesWritten_shows (issue sustain elapsed : Nat) (s : State) :
    fg (loc .RE_RATE) F.RE_RATE_MEAN_ISSUE (ratesWritten issue sustain elapsed s) = min issue 65535 ∧
    fg (loc .RE_RATE) F.RE_RATE_SUSTAIN (ratesWritten issue sustain elapsed s) = min sustain 65535 ∧
    fg (loc .RE_ELAPSED) F.RE_ELAPSED_MEAN_ELAPSED (ratesWritten issue sustain elapsed s) = min elapsed 65535 := by
  have hother : loc .RE_RATE ≠ loc .RE_ELAPSED := by decide
  have hwidth (n : Nat) : min n 65535 % 2 ^ 16 = min n 65535 := Nat.mod_eq_of_lt (by omega)
  unfold ratesWritten
  refine ⟨?_, ?_, ?_⟩
  · rw [fg_congr _ (rd_fs_other _ _ _ _ _ hother), fg_fs_beside _ _ _ (by decide) (by decide) (by decide),
      fg_fs_same _ _ _ (by decide) (by decide)]
    exact hwidth issue
  · rw [fg_congr _ (rd_fs_other _ _ _ _ _ hother), fg_fs_same _ _ _ (by decide) (by decide)]
    exact hwidth sustain
  · rw [fg_fs_same _ _ _ (by decide) (by decide)]
    exact hwidth elapsed

theorem rateUpdate_busy {s : State} (hframes : s.dp.msFrames ≠ 0) (hissue : s.dp.msIssue ≠ 0) (helapsed : s.dp.msElapsed ≠ 0) :
    rateUpdate s = ratesShown (s.dp.msIssue * 16 / s.dp.msFrames)
      (min (engineCount s * 1600 * s.dp.msFrames / s.dp.msIssue) (2 * engineCount s * 1600 * s.dp.msFrames / s.dp.msElapsed))
      (s.dp.msElapsed * 16 / s.dp.msFrames) s := by
  have hbusy : ¬ (s.dp.msFrames = 0 ∨ s.dp.msIssue = 0 ∨ s.dp.msElapsed = 0) := by omega
  simp only [rateUpdate, if_neg hframes, if_neg hbusy]
  rfl

theorem rateUpdate_idle {s : State} (hframes : s.dp.msFrames = 0) :
    rateUpdate s = ratesShown (Config.idleRate 0) (Config.idleRate 2) (Config.idleRate 1) s := by
  simp only [rateUpdate, if_pos hframes, if_pos (Or.inl hframes : s.dp.msFrames = 0 ∨ s.dp.msIssue = 0 ∨ s.dp.msElapsed = 0)]
  rfl

/-- What the registers show once the command has ended. -/
theorem ratesShown_settled (issue sustain elapsed : Nat) (s : State) :
    fg (loc .RE_RATE) F.RE_RATE_MEAN_ISSUE (settle (ratesShown issue sustain elapsed s)) = min issue 65535 ∧
    fg (loc .RE_RATE) F.RE_RATE_SUSTAIN (settle (ratesShown issue sustain elapsed s)) = min sustain 65535 ∧
    fg (loc .RE_ELAPSED) F.RE_ELAPSED_MEAN_ELAPSED (settle (ratesShown issue sustain elapsed s)) = min elapsed 65535 ∧
    (settle (ratesShown issue sustain elapsed s)).dp = { s.dp with msFrames := 0, msIssue := 0, msElapsed := 0 } := by
  have hrd {a : Nat} (ha : a ∉ settleRegs) : rd a (settle (ratesShown issue sustain elapsed s)) =
      rd a (ratesWritten issue sustain elapsed s) := (rd_settle ha _).trans (rd_congr a rfl)
  have hrate : loc .RE_RATE ∉ settleRegs := by decide
  have helapsed : loc .RE_ELAPSED ∉ settleRegs := by decide
  have hdp : (ratesShown issue sustain elapsed s).dp = { s.dp with msFrames := 0, msIssue := 0, msElapsed := 0 } := by
    rw [ratesShown, ratesWritten_dp]
  obtain ⟨hissue, hsustain, hmean⟩ := ratesWritten_shows issue sustain elapsed s
  exact ⟨(fg_congr _ (hrd hrate)).trans hissue, (fg_congr _ (hrd hrate)).trans hsustain,
    (fg_congr _ (hrd helapsed)).trans hmean, (settle_settling _).dp.trans hdp⟩

/-- Settles O29: what each write has for effect, what a switch leaves in its registers, and what the rates show. -/
theorem programStoreAndEngines : Obligations.ProgramStoreAndEngines := by
  refine ⟨?word, ?entry, ?switch, ?plain, ?drained, ?running, ?engine, ?subst, ?rates, ?idle⟩
  case word =>
    exact fun m d s hdrained hfree hspace hopen => done_eq (ctlWrite_open hopen (psWrite_word hdrained hfree hspace))
  case entry =>
    exact fun m d s hdrained hfree hspace hindex hopen =>
      done_eq (ctlWrite_open hopen (psWrite_entry hdrained hfree hspace hindex))
  case switch =>
    exact fun m d s hdrained hfree hswitch hopen =>
      ⟨bankSwitch s, done_eq (ctlWrite_open hopen (psCtrl_switches hdrained hfree hswitch)), bankSwitch_shows s⟩
  case plain => exact fun m d s h hopen => done_eq (ctlWrite_open hopen (psCtrl_plain s h))
  case drained => exact fun e s hdrains hnone he => done_eq (psDrained_completes hdrains hnone he)
  case running => exact fun s h => done_eq (psDrained_waits h)
  case engine => exact fun m cl d s hcl h => writes_engineSubst hcl (writeSubst_stores cl s h)
  case subst => exact fun m cl d t s hcl h ht => writes_engineSubst hcl (writeSubst_starts h ht)
  case rates =>
    intro s hframes hissue helapsed
    obtain ⟨hshown, hsustain, hmean, hdp⟩ := ratesShown_settled (s.dp.msIssue * 16 / s.dp.msFrames)
      (min (engineCount s * 1600 * s.dp.msFrames / s.dp.msIssue) (2 * engineCount s * 1600 * s.dp.msFrames / s.dp.msElapsed))
      (s.dp.msElapsed * 16 / s.dp.msFrames) s
    exact ⟨_, done_eq (rateUpdate_busy hframes hissue helapsed), hshown, hmean, hsustain, hdp⟩
  case idle => exact fun s hframes => ⟨_, done_eq (rateUpdate_idle hframes), ratesShown_settled ..⟩

end Sys2Proof.Machine
end

section
/-!
PROOFS. The ways of the steering table, and the relocation walk (O48).
-/

namespace Sys2Proof.Machine

/-! ## Ways (R222) -/

theorem getWay_setWay_same (w : Nat) (e : Option Ent) (t : Tab) : getWay w (setWay w e t) = e := sget_sput_same ..

theorem getWay_setWay_other {v w : Nat} (e : Option Ent) (t : Tab) (h : v ≠ w) :
    getWay v (setWay w e t) = getWay v t := sget_sput_other _ _ _ _ _ _ h

/-- Every way of a location lies in that location. -/
theorem wayLoc_of_mem {w l : Nat} (h : w ∈ locWays l) : wayLoc w = l := by
  unfold locWays at h
  split at h <;> obtain ⟨i, hi, rfl⟩ := List.mem_map.mp h <;> rw [List.mem_range] at hi <;> unfold wayLoc
  · rw [if_pos (by unfold ovBase; omega)]
    omega
  · rw [if_neg (by omega)]
    omega

theorem locWays_nodup (l : Nat) : (locWays l).Nodup := by
  unfold locWays
  split <;> exact List.nodup_range.map (fun i j h => by simpa using h)

theorem mem_locWays_of_free {w l : Nat} {t : Tab} (h : w ∈ (freeIn l t).head?) : w ∈ locWays l :=
  (List.mem_filter.mp (List.mem_of_mem_head? h)).1

theorem empty_of_free {w l : Nat} {t : Tab} (h : w ∈ (freeIn l t).head?) : getWay w t = none := by
  simpa using (List.mem_filter.mp (List.mem_of_mem_head? h)).2

/-! ## Moves of entries (R234) -/

/-- Only the ways and the rotating pointer differ. -/
structure WaysOnly (t u : Tab) : Prop where
  eq : u = { t with ways := u.ways, ptr := u.ptr }

theorem WaysOnly.refl (t : Tab) : WaysOnly t t := ⟨rfl⟩

theorem WaysOnly.trans {t u v : Tab} (h : WaysOnly t u) (k : WaysOnly u v) : WaysOnly t v :=
  ⟨k.eq.trans (congrArg (fun x : Tab => { x with ways := v.ways, ptr := v.ptr }) h.eq)⟩

theorem setWay_waysOnly (w : Nat) (e : Option Ent) (t : Tab) : WaysOnly t (setWay w e t) := ⟨rfl⟩

/-- The table holds an entry in some way. -/
def Holds (e : Ent) (t : Tab) : Prop := ∃ w, getWay w t = some e

/-- The entry of one way moves to another: one move of R234. -/
def moveWay (v dst : Nat) (t : Tab) : Tab := setWay v none (setWay dst (getWay v t) t)

theorem getWay_moveWay_from (v dst : Nat) (t : Tab) : getWay v (moveWay v dst t) = none := getWay_setWay_same ..

theorem getWay_moveWay_to {v dst : Nat} (t : Tab) (h : dst ≠ v) : getWay dst (moveWay v dst t) = getWay v t :=
  (getWay_setWay_other _ _ h).trans (getWay_setWay_same ..)

theorem getWay_moveWay_other {v dst w : Nat} (t : Tab) (hv : w ≠ v) (hd : w ≠ dst) :
    getWay w (moveWay v dst t) = getWay w t :=
  (getWay_setWay_other _ _ hv).trans (getWay_setWay_other _ _ hd)

/-- A move to an empty way neither loses nor makes an entry. -/
theorem holds_moveWay {v dst : Nat} {t : Tab} (h : dst ≠ v) (hempty : getWay dst t = none) (e : Ent) :
    Holds e (moveWay v dst t) ↔ Holds e t := by
  constructor
  · rintro ⟨w, hw⟩
    by_cases hv : w = v
    · rw [hv, getWay_moveWay_from] at hw
      cases hw
    by_cases hd : w = dst
    · rw [hd, getWay_moveWay_to t h] at hw
      exact ⟨v, hw⟩
    · rw [getWay_moveWay_other t hv hd] at hw
      exact ⟨w, hw⟩
  · rintro ⟨w, hw⟩
    by_cases hv : w = v
    · exact ⟨dst, (getWay_moveWay_to t h).trans (hv ▸ hw)⟩
    have hd : w ≠ dst := fun e => by rw [e, hempty] at hw; cases hw
    exact ⟨w, (getWay_moveWay_other t hv hd).trans hw⟩

theorem moveBack_cons (v : Nat) (vs : List Nat) (dst : Nat) (t : Tab) :
    moveBack (v :: vs) dst t = moveBack vs v (moveWay v dst t) := rfl

theorem moveBack_waysOnly (vs : List Nat) (dst : Nat) (t : Tab) : WaysOnly t (moveBack vs dst t).2 := by
  induction vs generalizing dst t with
  | nil => exact .refl t
  | cons v vs ih => exact .trans ((setWay_waysOnly ..).trans (setWay_waysOnly ..)) (ih v (moveWay v dst t))

/-- The way that a chain of moves leaves empty is the last one it moved from. -/
theorem moveBack_way (vs : List Nat) (dst : Nat) (t : Tab) : (dst :: vs).getLast? = some (moveBack vs dst t).1 := by
  induction vs generalizing dst t with
  | nil => rfl
  | cons v vs ih => rw [moveBack_cons, List.getLast?_cons_cons, ih]

/-- A chain of moves between distinct ways, into an empty one, keeps every entry and leaves the way it answers empty. -/
theorem moveBack_keeps {vs : List Nat} {dst : Nat} {t : Tab} (hn : (dst :: vs).Nodup) (hempty : getWay dst t = none) :
    getWay (moveBack vs dst t).1 (moveBack vs dst t).2 = none ∧ ∀ e, Holds e (moveBack vs dst t).2 ↔ Holds e t := by
  induction vs generalizing dst t with
  | nil => exact ⟨hempty, fun e => Iff.rfl⟩
  | cons v vs ih =>
    obtain ⟨hdst, hvs⟩ := List.nodup_cons.mp hn
    have hne : dst ≠ v := fun e => hdst (e ▸ List.mem_cons_self)
    obtain ⟨hway, hkept⟩ := ih hvs (getWay_moveWay_from v dst t)
    exact ⟨hway, fun e => (hkept e).trans (holds_moveWay hne hempty e)⟩

/-! ## The walk (R233) -/

theorem places_b0_lt (seeds : Nat × Nat) (k : Nat) : (places seeds k).b0 < 524288 := Nat.mod_lt _ (by decide)

theorem places_b1_lt (seeds : Nat × Nat) (k : Nat) : (places seeds k).b1 < 524288 := Nat.mod_lt _ (by decide)

/-- The victim of a walk is a way of its bucket. -/
theorem mem_locWays_of_victim {seeds : Nat × Nat} {b v : Nat} {t : Tab} (h : victim seeds b t = some v) : v ∈ locWays b := by
  have hfound := List.find?_some h
  have hmem := List.mem_of_find?_eq_some h
  simp only [List.mem_map, List.mem_range] at hmem
  obtain ⟨i, -, rfl⟩ := hmem
  have hb : b < 524288 := by
    split at hfound
    · next e _ =>
      simp only [Bool.and_eq_true, Bool.or_eq_true, beq_iff_eq] at hfound
      rcases hfound.2 with h0 | h1
      · exact h0 ▸ places_b0_lt seeds e.key
      · exact h1 ▸ places_b1_lt seeds e.key
    · cases hfound
  simp only [locWays, hb, if_true, List.mem_map, List.mem_range]
  exact ⟨(t.ptr + i) % 4, Nat.mod_lt _ (by decide), rfl⟩

/-- What a walk from bucket `b` finds, beside the victims it came with: distinct ways of buckets not seen before, from `b` on, and
at their end an empty one. -/
structure Walked (b : Nat) (seen ws : List Nat) (dst : Nat) (t : Tab) : Prop where
  distinct : (ws ++ [dst]).Nodup
  fresh : ∀ w ∈ ws ++ [dst], wayLoc w ∉ seen
  start : ∀ w ∈ (ws ++ [dst]).head?, w ∈ locWays b
  empty : getWay dst t = none

/-- The walk goes on from a victim of a bucket not seen before. -/
theorem Walked.cons {b c v dst : Nat} {seen ws : List Nat} {t : Tab} (h : Walked c (b :: seen) ws dst t)
    (hv : v ∈ locWays b) (hb : b ∉ seen) : Walked b seen (v :: ws) dst t where
  distinct := List.nodup_cons.mpr ⟨fun hmem => h.fresh v hmem (wayLoc_of_mem hv ▸ List.mem_cons_self), h.distinct⟩
  fresh w hw hmem := by
    rcases List.mem_cons.mp hw with rfl | hw
    · exact hb (wayLoc_of_mem hv ▸ hmem)
    · exact h.fresh w hw (List.mem_cons_of_mem _ hmem)
  start w hw := by
    have : v = w := by simpa using hw
    exact this ▸ hv
  empty := h.empty

theorem walk_walked {seeds : Nat × Nat} {t : Tab} {n b dst : Nat} {seen path vs : List Nat}
    (h : walk seeds t n b seen path = some (vs, dst)) : ∃ ws, vs = path.reverse ++ ws ∧ Walked b seen ws dst t := by
  induction n generalizing b seen path with
  | zero => cases h
  | succ n ih =>
    unfold walk at h
    split at h
    · cases h
    next hseen =>
    have hb : b ∉ seen := by simpa using hseen
    split at h
    · next w hfree =>
      cases h
      have hmem := mem_locWays_of_free hfree
      refine ⟨[], by simp, ?_⟩
      exact { distinct := by simp, fresh := by simpa [wayLoc_of_mem hmem] using hb, start := by simpa using hmem,
              empty := empty_of_free hfree }
    · split at h
      · cases h
      split at h
      · cases h
      next v hv =>
      split at h
      · cases h
      · obtain ⟨ws, rfl, hw⟩ := ih h
        exact ⟨v :: ws, by simp, hw.cons (mem_locWays_of_victim hv) hb⟩

/-! ## Relocation (R233, R234) -/

/-- Every walk advances the rotating pointer. -/
def advancePtr (t : Tab) : Tab := { t with ptr := (t.ptr + 1) % 4 }

theorem advancePtr_waysOnly (t : Tab) : WaysOnly t (advancePtr t) := ⟨rfl⟩

/-- What a relocation can do: nothing, or the moves of the walk it found. -/
theorem relocate_cases (seeds : Nat × Nat) (b : Nat) (t : Tab) :
    relocate seeds b t = { tab := advancePtr t, way := none, moves := [] } ∨
    ∃ vs dst, Walked b [] vs dst t ∧ relocate seeds b t = {
      tab := (moveBack vs.reverse dst (advancePtr t)).2
      way := some (moveBack vs.reverse dst (advancePtr t)).1
      moves := vs } := by
  unfold relocate
  dsimp only
  split
  · exact .inl rfl
  · next vs dst h =>
    obtain ⟨ws, hvs, hw⟩ := walk_walked h
    have hvs : vs = ws := by simpa using hvs
    exact .inr ⟨vs, dst, hvs ▸ hw, rfl⟩

theorem relocate_waysOnly (seeds : Nat × Nat) (b : Nat) (t : Tab) : WaysOnly t (relocate seeds b t).tab := by
  rcases relocate_cases seeds b t with h | ⟨vs, dst, -, h⟩ <;> rw [h]
  · exact advancePtr_waysOnly t
  · exact (advancePtr_waysOnly t).trans (moveBack_waysOnly ..)

/-- The way that a relocation answers is one of the bucket it set out from. -/
theorem mem_locWays_of_relocate {seeds : Nat × Nat} {b w : Nat} {t : Tab} (hw : (relocate seeds b t).way = some w) :
    w ∈ locWays b := by
  rcases relocate_cases seeds b t with h | ⟨vs, dst, hwalk, h⟩ <;> rw [h] at hw
  · cases hw
  · have hlast := moveBack_way vs.reverse dst (advancePtr t)
    have hrev : dst :: vs.reverse = (vs ++ [dst]).reverse := by simp
    rw [hrev, List.getLast?_reverse] at hlast
    exact hwalk.start w (hlast.trans hw)

/-- Settles O48. -/
theorem relocationKeepsEntries : Obligations.RelocationKeepsEntries := by
  intro seeds b t
  have hpend : (relocate seeds b t).tab.pend = t.pend := by rw [(relocate_waysOnly seeds b t).eq]
  rcases relocate_cases seeds b t with h | ⟨vs, dst, hwalk, h⟩
  · rw [h] at hpend ⊢
    refine ⟨fun e => Iff.rfl, ?_, hpend⟩
    intro w hw
    cases hw
  · have hdistinct : (dst :: vs.reverse).Nodup := by simpa using List.nodup_reverse.mpr hwalk.distinct
    obtain ⟨hway, hkept⟩ := moveBack_keeps (t := advancePtr t) hdistinct hwalk.empty
    rw [h] at hpend ⊢
    exact ⟨hkept, fun w hw => Option.some.inj hw ▸ hway, hpend⟩

end Sys2Proof.Machine
end

section
/-!
PROOFS. The placement of entries, lookups of keys, insertions and deletions (O47).
-/

namespace Sys2Proof.Machine

/-! ## Placement (R232) -/

theorem Places.b0_mem (p : Places) : p.b0 ∈ p.locs := by
  unfold Places.locs
  split <;> simp

theorem Places.b1_mem (p : Places) : p.b1 ∈ p.locs := by
  unfold Places.locs
  split <;> simp [*]

theorem Places.set_mem (p : Places) : 524288 + p.set ∈ p.locs := by simp [Places.locs]

/-- The way that a bucket of the key offers is one of the key's places. -/
theorem mem_places_of_bucketWay {p : Places} {w : Nat} {t : Tab} (h : bucketWay p t = some w) :
    ∃ l ∈ p.locs, w ∈ locWays l := by
  have hfirst (h0 : (freeIn p.b0 t).head? = some w) : ∃ l ∈ p.locs, w ∈ locWays l :=
    ⟨p.b0, p.b0_mem, mem_locWays_of_free h0⟩
  unfold bucketWay at h
  by_cases hone : p.b1 = p.b0
  · simp only [if_pos hone, List.length_nil, Nat.not_lt_zero, if_false] at h
    exact hfirst h
  · simp only [if_neg hone] at h
    split at h
    · exact ⟨p.b1, p.b1_mem, mem_locWays_of_free h⟩
    · exact hfirst h

/-- Step 2 of R232: a relocation from the first bucket, and from the second where it is another and the first gave no way. -/
def relocateBoth (seeds : Nat × Nat) (p : Places) (t : Tab) : Place :=
  let r := relocate seeds p.b0 t
  if r.way.isSome = true ∨ p.b1 = p.b0 then r else relocate seeds p.b1 r.tab

/-- The three steps of R232 in their order. -/
theorem findPlace_eq (seeds : Nat × Nat) (key : Nat) (t : Tab) : findPlace seeds key t =
    match bucketWay (places seeds key) t with
    | some w => { tab := t, way := some w, moves := [] }
    | none =>
      if (relocateBoth seeds (places seeds key) t).way.isSome = true then relocateBoth seeds (places seeds key) t
      else { tab := (relocateBoth seeds (places seeds key) t).tab, moves := []
             way := (freeIn (524288 + (places seeds key).set) (relocateBoth seeds (places seeds key) t).tab).head? } := by
  unfold findPlace
  dsimp only
  cases bucketWay (places seeds key) t with
  | some w => rfl
  | none =>
    by_cases hway : (relocate seeds (places seeds key).b0 t).way.isSome = true
    · simp [relocateBoth, hway]
    · by_cases hone : (places seeds key).b1 = (places seeds key).b0
      · simp [relocateBoth, hway, hone]
      · simp [relocateBoth, hway, hone]

theorem relocateBoth_waysOnly (seeds : Nat × Nat) (p : Places) (t : Tab) : WaysOnly t (relocateBoth seeds p t).tab := by
  have hfirst := relocate_waysOnly seeds p.b0 t
  unfold relocateBoth
  dsimp only
  split
  · exact hfirst
  · exact hfirst.trans (relocate_waysOnly ..)

theorem mem_places_of_relocateBoth {seeds : Nat × Nat} {p : Places} {w : Nat} {t : Tab}
    (h : (relocateBoth seeds p t).way = some w) : ∃ l ∈ p.locs, w ∈ locWays l := by
  unfold relocateBoth at h
  dsimp only at h
  split at h
  · exact ⟨p.b0, p.b0_mem, mem_locWays_of_relocate h⟩
  · exact ⟨p.b1, p.b1_mem, mem_locWays_of_relocate h⟩

/-- A way found for a key is one of its places. -/
theorem mem_places_of_findPlace {seeds : Nat × Nat} {key w : Nat} {t : Tab} (h : (findPlace seeds key t).way = some w) :
    ∃ l ∈ (places seeds key).locs, w ∈ locWays l := by
  rw [findPlace_eq] at h
  split at h
  · next v hv => exact mem_places_of_bucketWay (hv.trans h)
  split at h
  · exact mem_places_of_relocateBoth h
  · exact ⟨_, Places.set_mem _, mem_locWays_of_free h⟩

theorem findPlace_waysOnly (seeds : Nat × Nat) (key : Nat) (t : Tab) : WaysOnly t (findPlace seeds key t).tab := by
  have hboth := relocateBoth_waysOnly seeds (places seeds key) t
  rw [findPlace_eq]
  split
  · exact .refl t
  split
  · exact hboth
  · exact hboth

/-! ## What placements leave alone -/

/-- The registers that a placement may write. -/
def placementRegs : List Nat := [loc .ST_MOVE_SEQ, loc .PC_EVENT, loc .PC_WRAP_LAST]

/-- Entries have been placed: of the table only the ways, the pending list, the rotating pointer and the windows differ. -/
structure Placed (s t : State) : Prop where
  regs : ∀ a, a ∉ placementRegs → rd a t = rd a s
  tab : t.tab = { s.tab with ways := t.tab.ways, pend := t.tab.pend, ptr := t.tab.ptr, win := t.tab.win }
  adm : t.adm = s.adm

theorem Placed.refl (s : State) : Placed s s := ⟨fun _ _ => rfl, rfl, rfl⟩

theorem Placed.trans {s t u : State} (h : Placed s t) (k : Placed t u) : Placed s u where
  regs a ha := (k.regs a ha).trans (h.regs a ha)
  tab := k.tab.trans (congrArg (fun x : Tab =>
    { x with ways := u.tab.ways, pend := u.tab.pend, ptr := u.tab.ptr, win := u.tab.win }) h.tab)
  adm := k.adm.trans h.adm

/-- Composition from the last step back. -/
theorem Placed.after {s t u : State} (k : Placed t u) (h : Placed s t) : Placed s u := h.trans k

@[simp] theorem bumpBy_tab (i n : Nat) (s : State) : (bumpBy i n s).tab = s.tab := by rw [bumpBy_regs_pc_only]

@[simp] theorem bump_tab (i : Nat) (s : State) : (bump i s).tab = s.tab := bumpBy_tab i 1 s

theorem bumpBy_placed (i n : Nat) (s : State) : Placed s (bumpBy i n s) where
  regs a ha := by
    simp only [placementRegs, List.mem_cons, not_or] at ha
    exact (bumpBy_countsOnly i n s).regs a ha.2.1 ha.2.2.1
  tab := by rw [bumpBy_tab]
  adm := by rw [bumpBy_regs_pc_only]

theorem moveSeq_placed (n : Nat) (s : State) : Placed s (moveSeq n s) :=
  ⟨fun a ha => rd_wr_other _ a _ s fun e => ha (e ▸ List.mem_cons_self), rfl, rfl⟩

theorem noteMove_placed (f : Sum Nat Nat → Bool) (s : State) : Placed s (noteMove f s) := ⟨fun _ _ => rfl, rfl, rfl⟩

theorem setTab_placed {t : Tab} {s : State} (h : WaysOnly s.tab t) : Placed s (setTab t s) :=
  ⟨fun _ _ => rfl, congrArg (fun x : Tab => { x with pend := t.pend, win := t.win }) h.eq, rfl⟩

theorem getWay_noteMove (w : Nat) (f : Sum Nat Nat → Bool) (s : State) :
    getWay w (noteMove f s).tab = getWay w s.tab := rfl

theorem countMoves_placed (n : Nat) (s : State) : Placed s (countMoves n s) :=
  .after (bumpBy_placed ..) (moveSeq_placed n s)

@[simp] theorem countMoves_tab (n : Nat) (s : State) : (countMoves n s).tab = s.tab := bumpBy_tab ..

theorem placeEnt_placed (seeds : Nat × Nat) (e : Ent) (s : State) : Placed s (placeEnt seeds e s).2 := by
  have hways := findPlace_waysOnly seeds e.key s.tab
  unfold placeEnt
  dsimp only
  split
  · dsimp only
    exact .after (countMoves_placed ..) (.after (noteMove_placed ..) (setTab_placed (hways.trans (setWay_waysOnly ..))))
  · exact setTab_placed hways

theorem curSeeds_congr {s t : State} (h0 : rd (loc .ST_SEED_CUR 0 0) t = rd (loc .ST_SEED_CUR 0 0) s)
    (h1 : rd (loc .ST_SEED_CUR 0 1) t = rd (loc .ST_SEED_CUR 0 1) s) : curSeeds t = curSeeds s := by
  rw [curSeeds, curSeeds, h0, h1]

theorem Placed.curSeeds {s t : State} (h : Placed s t) : curSeeds t = curSeeds s :=
  curSeeds_congr (h.regs _ (by decide)) (h.regs _ (by decide))

theorem Placed.newSeeds {s t : State} (h : Placed s t) : t.tab.newSeeds = s.tab.newSeeds := by rw [h.tab]

/-- An entry that has been placed stands in a way of its key's places. -/
theorem placeEnt_some {seeds : Nat × Nat} {e : Ent} {w : Nat} {s : State} (h : (placeEnt seeds e s).1 = some w) :
    getWay w (placeEnt seeds e s).2.tab = some e ∧ ∃ l ∈ (places seeds e.key).locs, w ∈ locWays l := by
  unfold placeEnt at h ⊢
  dsimp only at h ⊢
  cases hv : (findPlace seeds e.key s.tab).way with
  | none =>
    rw [hv] at h
    cases h
  | some v =>
    rw [hv] at h
    cases h
    dsimp only
    rw [countMoves_tab, getWay_noteMove, setTab_tab]
    exact ⟨getWay_setWay_same .., mem_places_of_findPlace hv⟩

/-! ## Lookups (R227) -/

/-- The places of a key under the target generation are searched. -/
theorem mem_searchWays_of_target {key l w : Nat} {s : State} (hl : l ∈ (places (tgtSeeds s) key).locs)
    (hw : w ∈ locWays l) : w ∈ searchWays key s := by
  refine List.mem_flatMap.mpr ⟨l, ?_, hw⟩
  rw [List.mem_append]
  unfold tgtSeeds at hl
  split at hl
  · exact .inl hl
  · cases hn : s.tab.newSeeds with
    | none => exact .inl (by simpa [hn] using hl)
    | some n => exact .inr (by simpa [hn] using hl)

theorem Placed.searchWays {s t : State} (h : Placed s t) (key : Nat) : searchWays key t = searchWays key s := by
  unfold Machine.searchWays
  rw [h.curSeeds, h.newSeeds]

theorem findKey_isSome_of_way {e : Ent} {w : Nat} {s : State} (hw : w ∈ searchWays e.key s)
    (he : getWay w s.tab = some e) : (findKey e.key s).isSome = true := by
  have hfound : (findWay e.key s).isSome = true := by
    unfold findWay
    rw [List.find?_isSome]
    exact ⟨w, hw, by rw [he]; exact beq_self_eq_true e.key⟩
  obtain ⟨v, hv⟩ := Option.isSome_iff_exists.mp hfound
  unfold findKey
  rw [hv]
  rfl

theorem findKey_isSome_of_pend {e : Ent} {i : Nat} {s : State} (h : (i, e) ∈ s.tab.pend) :
    (findKey e.key s).isSome = true := by
  have hfound : (s.tab.pend.find? (fun p => p.2.key == e.key)).isSome = true :=
    List.find?_isSome.mpr ⟨(i, e), h, beq_self_eq_true e.key⟩
  obtain ⟨p, hp⟩ := Option.isSome_iff_exists.mp hfound
  unfold findKey
  split
  · rfl
  · rw [hp]
    rfl

/-- Where no place holds a key, it is not found. -/
theorem findKey_eq_none {key : Nat} {s : State} (hways : ∀ w e, getWay w s.tab = some e → e.key ≠ key)
    (hpend : ∀ p ∈ s.tab.pend, p.2.key ≠ key) : findKey key s = none := by
  have hway : findWay key s = none := by
    unfold findWay
    rw [List.find?_eq_none]
    intro w _
    cases he : getWay w s.tab with
    | none => simp
    | some e => simpa using hways w e he
  have hlist : s.tab.pend.find? (fun p => p.2.key == key) = none :=
    List.find?_eq_none.mpr fun p hp => by simpa using hpend p hp
  unfold findKey
  rw [hway, hlist]

/-! ## Insertions (R232, R242, R249) -/

theorem toPending_pend (e : Ent) (s : State) :
    (toPending e s).tab.pend = s.tab.pend ++ [(pendSlot s.tab, e)] := by
  unfold toPending
  dsimp only
  split <;> rfl

@[simp] theorem fs_tab (a : Nat) (f : Fld) (v : Nat) (s : State) : (fs a f v s).tab = s.tab := wr_tab ..

@[simp] theorem setFlag_tab (a : Nat) (f : Fld) (s : State) : (setFlag a f s).tab = s.tab := wr_tab ..

@[simp] theorem drawSeeds_tab (s : State) : (drawSeeds s).2.tab = s.tab := rfl

@[simp] theorem rehashStart_tab (seeds : Nat × Nat) (s : State) : (rehashStart seeds s).tab = { s.tab with
    newSeeds := some seeds, finishing := false, powerPark := false, softParked := false, stepDue := false } := by
  simp [rehashStart]

theorem rehashAuto_pend (s : State) : (rehashAuto s).tab.pend = s.tab.pend := by
  unfold rehashAuto
  split
  · simp
  · rfl

/-- What an insertion can do: it finds no room, places the entry in a way, or puts it into the pending list. -/
theorem insertNew_cases (e : Ent) (s : State) :
    (insertNew e s).status = 0x72 ∨
    (∃ w, (placeEnt (tgtSeeds s) e s).1 = some w ∧ (insertNew e s).st = (placeEnt (tgtSeeds s) e s).2) ∨
    ∃ i, (i, e) ∈ (insertNew e s).st.tab.pend := by
  unfold insertNew
  split
  · exact .inl rfl
  dsimp only
  split
  · next w hw => exact .inr (.inl ⟨w, hw, rfl⟩)
  split
  · refine .inr (.inr ?_)
    generalize hu : ite (assured (placeEnt (tgtSeeds s) e s).2 = true) _ _ = u
    have hmem : (pendSlot u.tab, e) ∈ (toPending e u).tab.pend := by simp [toPending_pend]
    refine ⟨pendSlot u.tab, ?_⟩
    dsimp only
    split
    · rwa [rehashAuto_pend]
    · exact hmem
  split <;> exact .inl rfl

/-- The key of an insertion that answers OK or PENDING is found. -/
theorem findKey_insertNew {e : Ent} {s : State} (h : (insertNew e s).status = St.ok ∨ (insertNew e s).status = 0x71) :
    (findKey e.key (insertNew e s).st).isSome = true := by
  rcases insertNew_cases e s with hfull | ⟨w, hw, hst⟩ | ⟨i, hi⟩
  · rw [hfull] at h
    exact absurd h (by decide)
  · obtain ⟨hway, l, hl, hmem⟩ := placeEnt_some hw
    rw [hst]
    refine findKey_isSome_of_way ?_ hway
    rw [(placeEnt_placed ..).searchWays]
    exact mem_searchWays_of_target hl hmem
  · exact findKey_isSome_of_pend hi

/-! ## Deletions (R236) -/

/-- An element that is not the default stands in the list. -/
theorem mem_of_sget {α : Type} {m : Smap (Option α)} {k : Nat} {v : α} (h : sget none m k = some v) : (k, some v) ∈ m := by
  induction m with
  | nil => cases h
  | cons p m ih =>
    obtain ⟨i, x⟩ := p
    unfold sget at h
    split at h
    · next hi => rw [hi, h]; exact List.mem_cons_self
    · exact List.mem_cons_of_mem _ (ih h)

/-- What a filter keeps reads as before. -/
theorem sget_filter_keeps {α : Type} {m : Smap (Option α)} {k : Nat} {v : α} {f : Nat × Option α → Bool}
    (h : sget none m k = some v) (hf : f (k, some v) = true) : sget none (m.filter f) k = some v := by
  induction m with
  | nil => cases h
  | cons p m ih =>
    obtain ⟨i, x⟩ := p
    unfold sget at h
    split at h
    · next hi => rw [hi, h, List.filter_cons_of_pos hf]; simp [sget]
    · next hi =>
      by_cases hp : f (i, x) = true
      · rw [List.filter_cons_of_pos hp]
        simpa [sget, hi] using ih h
      · rw [List.filter_cons_of_neg hp]
        exact ih h

theorem findKey_deleteKey (k : Nat) (s : State) : findKey k (deleteKey k s) = none := by
  refine findKey_eq_none (fun w e he => ?_) fun p hp => ?_
  · have hmem := mem_of_sget he
    rw [deleteKey, setTab_tab, List.mem_filter] at hmem
    simpa using hmem.2
  · rw [deleteKey, setTab_tab, List.mem_filter] at hp
    simpa using hp.2

theorem getWay_deleteKey_other {k w : Nat} {e : Ent} {s : State} (he : getWay w s.tab = some e) (hk : e.key ≠ k) :
    getWay w (deleteKey k s).tab = some e := by
  rw [getWay, deleteKey, setTab_tab]
  exact sget_filter_keeps he (by simpa using hk)

/-- Settles O47. -/
theorem insertionsAndDeletionsAreFound : Obligations.InsertionsAndDeletionsAreFound := by
  refine ⟨?insert, ?deleted, ?others, ?delete, ?present⟩
  case insert => exact fun e s h => findKey_insertNew h
  case deleted => exact findKey_deleteKey
  case others => exact fun k w e s he hk => getWay_deleteKey_other he hk
  case delete =>
    intro p k key s h
    obtain ⟨q, hq⟩ := Option.isSome_iff_exists.mp h
    unfold applyChange
    dsimp only
    rw [hq]
  case present =>
    intro p k e w s h
    unfold applyChange
    dsimp only
    rw [h]

end Sys2Proof.Machine
end

section
/-!
PROOFS. ECC findings, the learn arbiter, the change unit and the ageing scan (O49).
-/

namespace Sys2Proof.Machine

/-! ## ECC findings (R225) -/

/-- A read without uncorrectable errors counts the words it corrected. -/
theorem eccRead_corrected (corr : Nat) (s : State) : eccRead corr [] s = if corr = 0 then s
    else setFlag (loc .ST_EVENT) F.ST_EVENT_ECC_CORR (bumpBy (cTable 13) corr s) := by
  unfold eccRead
  exact if_pos rfl

theorem eccRead_clean (s : State) : eccRead 0 [] s = s := by rw [eccRead_corrected, if_pos rfl]

/-- An uncorrectable error in a way that holds an entry empties it. -/
theorem eccRead_fatal {w : Nat} {e : Ent} {s : State} (hw : w < pendBase) (he : getWay w s.tab = some e) :
    eccRead 0 [w] s = setFlag (loc .ST_EVENT) F.ST_EVENT_ECC_FATAL (bumpBy (cTable 14) 1
      { s with tab := setWay w none s.tab }) := by
  have hbad : [w].dedup.filter (fun w => placeHeld w s.tab) = [w] := by simp [placeHeld, hw, he]
  have hpend (t : Tab) : t.pend.filter (fun p => !([w].contains (pendBase + p.1))) = t.pend := by
    refine List.filter_eq_self.mpr fun p _ => ?_
    have hne : pendBase + p.1 ≠ w := by omega
    simp [hne]
  have heach : forEach [w] (fun w t => if w < pendBase then setTab (setWay w none t.tab) t else t) s =
      setTab (setWay w none s.tab) s := if_pos hw
  unfold eccRead
  dsimp only
  rw [hbad, if_neg (List.cons_ne_nil w []), if_pos rfl, heach, hpend]
  rfl

theorem tableOp_ready {ready : Bool} {corr : Nat} {fatal : List Nat} {f : State → State} {s : State} (h : ready = true)
    (hrun : islRun 5 s = true) : tableOp ready corr fatal f s = f (eccRead corr fatal s) := by
  simp [tableOp, h, hrun]

theorem tableOp_not_ready {ready : Bool} (corr : Nat) (fatal : List Nat) (f : State → State) (s : State)
    (h : ready = false) : tableOp ready corr fatal f s = s := by
  simp [tableOp, h]

/-- An operation that does nothing without errors does nothing, whether or not it is ready. -/
theorem tableOp_idle {ready : Bool} {f : State → State} {s : State} (h : f s = s) : tableOp ready 0 [] f s = s := by
  rw [tableOp, eccRead_clean, h, ite_self]

/-! ## The learn arbiter (R237 to R239) -/

/-- A lookup sees the seeds, the ways and the pending list. -/
theorem findKey_congr (key : Nat) {s t : State} (hc : curSeeds t = curSeeds s) (hn : t.tab.newSeeds = s.tab.newSeeds)
    (hw : t.tab.ways = s.tab.ways) (hp : t.tab.pend = s.tab.pend) : findKey key t = findKey key s := by
  unfold findKey findWay searchWays getWay
  rw [hc, hn, hw, hp]

/-- The oldest request has left the learn queue. -/
def learnTaken (ls : List Learn) (s : State) : State := { s with tab := { s.tab with learnQ := ls } }

theorem findKey_learnTaken (key : Nat) (ls : List Learn) (s : State) : findKey key (learnTaken ls s) = findKey key s :=
  findKey_congr key rfl rfl rfl rfl

/-- What the arbiter does with the oldest request, whose key has none under way. -/
def arbitrated (l : Learn) (ls : List Learn) (s : State) : State :=
  let offer : State := if learnsUnderWay s = [] ∧ s.tab.stuck = none then
    { s with tab := { s.tab with learnQ := ls, offered := [l] } } else s
  if fb (loc .ST_LEARN_CFG) F.ST_LEARN_CFG_LEARN_EN s = false then bump (cTable 3) (learnTaken ls s)
  else if keyType l.key % 2 = 0 ∨ 65536 ≤ l.target then bump (cTable 4) (learnTaken ls s)
  else match findKey l.key s with
    | none => offer
    | some p =>
      match entAt p s with
      | none => learnTaken ls s
      | some e =>
        if e.target = l.target then learnTaken ls s
        else if e.static = true then bump (cTable 6) (learnTaken ls s)
        else if held l.key s = true then learnConflict l (learnTaken ls s)
        else offer

theorem learnArbitrate_cons {l : Learn} {ls : List Learn} {s : State} (hq : s.tab.learnQ = l :: ls) :
    learnArbitrate s = if (learnsUnderWay s).any (fun m => m.key == l.key) = true then s else arbitrated l ls s := by
  unfold learnArbitrate
  rw [hq]
  dsimp only
  rw [show setTab { s.tab with learnQ := ls } s = learnTaken ls s from rfl, findKey_learnTaken]
  rfl

section
variable {l : Learn} {ls : List Learn} {s : State}

theorem exec_learnArbitrate {corr : Nat} {fatal : List Nat} (hq : s.tab.learnQ ≠ []) (hrun : islRun 5 s = true) :
    exec (.learnArbitrate corr fatal) s = .next (settle (learnArbitrate (eccRead corr fatal s))) :=
  done_eq (tableOp_ready (bne_iff_ne.mpr hq) hrun)

variable (hq : s.tab.learnQ = l :: ls) (hrun : islRun 5 s = true)
include hq hrun

theorem exec_learnArbitrate_waits (hwait : (learnsUnderWay s).any (fun m => m.key == l.key) = true) :
    exec (.learnArbitrate 0 []) s = .next (settle s) := by
  rw [exec_learnArbitrate (hq ▸ List.cons_ne_nil l ls) hrun, eccRead_clean, learnArbitrate_cons hq, if_pos hwait]

theorem exec_learnArbitrate_decides (hfree : (learnsUnderWay s).any (fun m => m.key == l.key) = false) :
    exec (.learnArbitrate 0 []) s = .next (settle (arbitrated l ls s)) := by
  rw [exec_learnArbitrate (hq ▸ List.cons_ne_nil l ls) hrun, eccRead_clean, learnArbitrate_cons hq,
    if_neg (Bool.eq_false_iff.mp hfree)]

end

section
variable {l : Learn} (ls : List Learn) {s : State}

theorem arbitrated_off (hen : fb (loc .ST_LEARN_CFG) F.ST_LEARN_CFG_LEARN_EN s = false) :
    arbitrated l ls s = bump (cTable 3) (learnTaken ls s) := if_pos hen

variable (hen : fb (loc .ST_LEARN_CFG) F.ST_LEARN_CFG_LEARN_EN s = true)
include hen

theorem arbitrated_bad (hbad : keyType l.key % 2 = 0 ∨ 65536 ≤ l.target) :
    arbitrated l ls s = bump (cTable 4) (learnTaken ls s) := by
  unfold arbitrated
  dsimp only
  rw [if_neg (by simp [hen]), if_pos hbad]

variable (hkey : keyType l.key % 2 = 1) (htarget : l.target < 65536)
include hkey htarget

theorem arbitrated_absent (hnone : findKey l.key s = none) (hfree : learnsUnderWay s = []) (hstuck : s.tab.stuck = none) :
    arbitrated l ls s = { s with tab := { s.tab with learnQ := ls, offered := [l] } } := by
  unfold arbitrated
  dsimp only
  rw [if_neg (by simp [hen]), if_neg (by omega), hnone]
  exact if_pos ⟨hfree, hstuck⟩

theorem arbitrated_present {p : Sum Nat Nat} {e : Ent} (hp : findKey l.key s = some p) (he : entAt p s = some e) :
    arbitrated l ls s =
      if e.target = l.target then learnTaken ls s
      else if e.static = true then bump (cTable 6) (learnTaken ls s)
      else if held l.key s = true then learnConflict l (learnTaken ls s)
      else if learnsUnderWay s = [] ∧ s.tab.stuck = none then { s with tab := { s.tab with learnQ := ls, offered := [l] } }
      else s := by
  unfold arbitrated
  dsimp only
  rw [if_neg (by simp [hen]), if_neg (by omega), hp]
  dsimp only
  rw [he]

end

/-! ## Journalled changes (R231, R488) -/

/-- A journal record changes the Duo's state alone. -/
theorem journal_du_only (r : JRec) (s : State) : journal r s = { s with du := (journal r s).du } := by
  unfold journal
  split
  · dsimp only
    unfold placeJournal
    split
    · rfl
    · rw [sendFlit_only]
  · rfl

@[simp] theorem journal_tab (r : JRec) (s : State) : (journal r s).tab = s.tab := by rw [journal_du_only]

theorem forEach_journal_tab (rs : List JRec) (s : State) : (forEach rs journal s).tab = s.tab :=
  forEach_keeps (fun s => s.tab) rs (fun r _ s => journal_tab r s) s

/-- What waits for the acknowledgement of a record waits for its number. -/
theorem journalWait_waits (r : JRec) (w : DuWait) (s : State) :
    (journalWait r w s).du.waits.getLast? = some ((journalWait r w s).du.txSeq, w) := by
  simp [journalWait]

theorem journalWait_tab (r : JRec) (w : DuWait) (s : State) : (journalWait r w s).tab = s.tab := journal_tab r s

/-- With a partner a change that alters the table waits for the acknowledgement of its last record. -/
theorem submitChange_waits {c : Change} {s : State} (hj : journaling s = true) (hr : changeRecords c s ≠ []) :
    (submitChange c s).tab = { s.tab with acking := some (c, (submitChange c s).du.txSeq) } ∧
    (submitChange c s).du.waits.getLast? = some ((submitChange c s).du.txSeq, .table) := by
  unfold submitChange
  rw [if_pos hj]
  dsimp only
  rw [List.getLast?_eq_some_getLast hr]
  dsimp only
  generalize hu : journalWait _ DuWait.table _ = u
  have htab : u.tab = s.tab := by rw [← hu, journalWait_tab, forEach_journal_tab]
  have hwaits : u.du.waits.getLast? = some (u.du.txSeq, .table) := hu ▸ journalWait_waits ..
  rw [setTab_tab, setTab_du, htab]
  exact ⟨rfl, hwaits⟩

theorem submitChange_alone {c : Change} {s : State} (hj : journaling s = false) : submitChange c s = runChange c s := by
  unfold submitChange
  rw [if_neg (by simp [hj])]

/-! ## The change unit (R229, R249) -/

theorem exec_tableChangeApply {corr : Nat} {fatal : List Nat} {s : State} (hfree : unitFree s = true)
    (hrun : islRun 5 s = true) :
    exec (.tableChangeApply corr fatal) s = .next (settle (changeUnit (eccRead corr fatal s))) :=
  done_eq (tableOp_ready hfree hrun)

theorem exec_tableChangeApply_clean {s : State} (hfree : unitFree s = true) (hrun : islRun 5 s = true) :
    exec (.tableChangeApply 0 []) s = .next (settle (changeUnit s)) := exec_tableChangeApply hfree hrun

/-- An insertion that waits is tried again, unless software has parked the rehash. -/
theorem changeUnit_stuck {c : Change} {s : State} (hfree : unitFree s = true) (hstuck : s.tab.stuck = some c) :
    changeUnit s = if rhState s = 2 ∧ s.tab.softParked = true then s else runChange c (retryAll s) := by
  unfold changeUnit
  rw [if_neg (by simp [hfree]), hstuck]

theorem changeUnit_next {c : Change} {s t : State} (hfree : unitFree s = true) (hstuck : s.tab.stuck = none)
    (hnext : nextChange s = some (c, t)) : changeUnit s = submitChange c t := by
  unfold changeUnit
  rw [if_neg (by simp [hfree]), hstuck]
  dsimp only
  rw [hnext]

/-- While a change awaits its acknowledgement the unit takes none. -/
theorem unitFree_of_acking {s : State} (h : s.tab.acking.isSome = true) : unitFree s = false := by
  simp [unitFree, Option.isNone_eq_false_iff.mpr h]

/-- A kind of change that is there has its turn first. -/
theorem nextChange_first {x : Change × State} {s : State} (h : changeOf (s.tab.turn % 3) s = some x) :
    nextChange s = some x := by
  unfold nextChange
  dsimp only
  rw [h]
  rfl

theorem changeOf_software {c : Change} {cs : List Change} {s : State} (h : s.tab.changes = c :: cs) :
    changeOf 0 s = some (c, { s with tab := { s.tab with changes := cs, turn := 1 } }) := by
  unfold changeOf
  dsimp only
  rw [h]
  rfl

theorem changeOf_software_none {s : State} (h : s.tab.changes = []) : changeOf 0 s = none := by
  unfold changeOf
  dsimp only
  rw [h]
  rfl

theorem changeOf_learn {l : Learn} {ls : List Learn} {s : State} (h : s.tab.offered = l :: ls) :
    changeOf 1 s = some (.learn l, { s with tab := { s.tab with offered := ls, turn := 2 } }) := by
  unfold changeOf
  dsimp only
  rw [h]
  rfl

theorem changeOf_learn_none {s : State} (h : s.tab.offered = []) : changeOf 1 s = none := by
  unfold changeOf
  dsimp only
  rw [h]
  rfl

/-- The state once the next ageing step has been taken. -/
def ageTaken (s : State) : State := { s with tab := { s.tab with
  ageDue := s.tab.ageDue - 1, agePos := (s.tab.agePos + 1) % 528384, turn := 0 } }

theorem changeOf_age {s : State} (hdue : s.tab.ageDue ≠ 0) (hperiod : agePeriod s ≠ 0) :
    changeOf 2 s = some (.age s.tab.agePos, ageTaken s) := if_neg (by simp [hdue, hperiod])

/-- An ageing step that is due takes its turn where no other change waits. -/
theorem nextChange_age {s : State} (hchanges : s.tab.changes = []) (hoffered : s.tab.offered = []) (hdue : s.tab.ageDue ≠ 0)
    (hperiod : agePeriod s ≠ 0) : nextChange s = some (.age s.tab.agePos, ageTaken s) := by
  have h0 := changeOf_software_none hchanges
  have h1 := changeOf_learn_none hoffered
  have h2 := changeOf_age hdue hperiod
  have hturn : s.tab.turn % 3 = 0 ∧ (s.tab.turn + 1) % 3 = 1 ∧ (s.tab.turn + 2) % 3 = 2 ∨
      s.tab.turn % 3 = 1 ∧ (s.tab.turn + 1) % 3 = 2 ∨ s.tab.turn % 3 = 2 := by omega
  unfold nextChange
  dsimp only
  rcases hturn with ⟨ht, ht1, ht2⟩ | ⟨ht, ht1⟩ | ht
  · rw [ht, ht1, ht2, h0, h1, h2]
    rfl
  · rw [ht, ht1, h1, h2]
    rfl
  · rw [ht, h2]
    rfl

/-! ## The ageing scan (R229, R241, R488) -/

theorem exec_ageStep {corr : Nat} {fatal : List Nat} {s : State} (hreset : inReset s = false) (hperiod : agePeriod s ≠ 0)
    (hrun : islRun 5 s = true) : exec (.ageStep corr fatal) s = .next (settle (ageStep (eccRead corr fatal s))) :=
  done_eq (tableOp_ready (by simp [hreset, hperiod]) hrun)

theorem exec_ageStep_clean {s : State} (hreset : inReset s = false) (hperiod : agePeriod s ≠ 0)
    (hrun : islRun 5 s = true) : exec (.ageStep 0 []) s = .next (settle (ageStep s)) :=
  exec_ageStep hreset hperiod hrun

theorem exec_ageStep_stopped {corr : Nat} {fatal : List Nat} {s : State} (hperiod : agePeriod s = 0) :
    exec (.ageStep corr fatal) s = .next (settle s) :=
  done_eq (tableOp_not_ready _ _ _ _ (by simp [hperiod]))

/-- A standby ages by the records of the active alone. -/
theorem exec_ageStep_standby {s : State} (hrole : duRole s = 2) : exec (.ageStep 0 []) s = .next (settle s) :=
  done_eq (tableOp_idle (if_pos (.inr hrole)))

/-- One more ageing step is due. -/
def ageWaits (s : State) : State := { s with tab := { s.tab with ageDue := s.tab.ageDue + 1 } }

theorem ageStep_eq {s : State} (hperiod : agePeriod s ≠ 0) (hrole : duRole s ≠ 2) : ageStep s =
    if unitFree s = false ∨ s.tab.stuck.isSome = true then ageWaits s
    else match nextChange (ageWaits s) with
      | some (.age l, t) => submitChange (.age l) t
      | _ => ageWaits s := by
  unfold ageStep
  rw [if_neg (by simp [hperiod, hrole])]
  rfl

/-- A step that is the only change waiting is taken at once. -/
theorem ageStep_takes {s : State} (hperiod : agePeriod s ≠ 0) (hrole : duRole s ≠ 2) (hfree : unitFree s = true)
    (hstuck : s.tab.stuck = none) (hchanges : s.tab.changes = []) (hoffered : s.tab.offered = []) :
    ageStep s = submitChange (.age s.tab.agePos) (ageTaken (ageWaits s)) := by
  have hnext : nextChange (ageWaits s) = some (.age s.tab.agePos, ageTaken (ageWaits s)) :=
    nextChange_age hchanges hoffered (Nat.succ_ne_zero _) hperiod
  rw [ageStep_eq hperiod hrole, if_neg (by simp [hfree, hstuck]), hnext]

/-- One way of an ageing step. -/
def ageWay (w : Nat) (s : State) : State :=
  match getWay w s.tab with
  | some e =>
    if e.moving then s
    else if e.hit then setTab (setWay w (some { e with hit := false }) s.tab) s
    else if e.static then s
    else setTab (setWay w none s.tab) s |> bump (cTable 12) |> tableNotify 2 (wayCode w)
  | none => s

theorem ageLoc_eq (l : Nat) (s : State) : ageLoc l s = forEach (locWays l) ageWay s := rfl

/-- What an ageing step makes of an entry. -/
def aged (e : Ent) : Option Ent :=
  if e.moving then some e else if e.hit then some { e with hit := false } else if e.static then some e else none

theorem tableNotify_tab (what code : Nat) (s : State) : (tableNotify what code s).tab = s.tab := by
  unfold tableNotify
  dsimp only
  split
  · split
    · exact (report_settling ..).tab
    · rfl
  · rfl

theorem getWay_ageWay_same {w : Nat} {e : Ent} {s : State} (h : getWay w s.tab = some e) :
    getWay w (ageWay w s).tab = aged e := by
  unfold ageWay aged
  rw [h]
  dsimp only
  split
  · exact h
  split
  · exact getWay_setWay_same ..
  split
  · exact h
  · rw [tableNotify_tab, bump_tab, setTab_tab, getWay_setWay_same]

theorem getWay_ageWay_other {v w : Nat} (s : State) (h : v ≠ w) : getWay v (ageWay w s).tab = getWay v s.tab := by
  unfold ageWay
  split
  · split
    · rfl
    split
    · exact getWay_setWay_other _ _ h
    split
    · rfl
    · rw [tableNotify_tab, bump_tab, setTab_tab, getWay_setWay_other _ _ h]
  · rfl

theorem getWay_forEach_ageWay_other {v : Nat} {ws : List Nat} (s : State) (h : v ∉ ws) :
    getWay v (forEach ws ageWay s).tab = getWay v s.tab :=
  forEach_keeps (fun s => getWay v s.tab) ws (fun _ hw s => getWay_ageWay_other s fun e => h (e ▸ hw)) s

theorem getWay_forEach_ageWay_mem {w : Nat} {e : Ent} {ws : List Nat} {s : State} (hn : ws.Nodup) (hw : w ∈ ws)
    (he : getWay w s.tab = some e) : getWay w (forEach ws ageWay s).tab = aged e := by
  induction ws generalizing s with
  | nil => cases hw
  | cons v ws ih =>
    obtain ⟨hv, hws⟩ := List.nodup_cons.mp hn
    rw [show forEach (v :: ws) ageWay s = forEach ws ageWay (ageWay v s) from rfl]
    rcases List.mem_cons.mp hw with rfl | hmem
    · rw [getWay_forEach_ageWay_other _ hv, getWay_ageWay_same he]
    · have hne : w ≠ v := fun e => hv (e ▸ hmem)
      exact ih hws hmem ((getWay_ageWay_other s hne).trans he)

/-! ## Reads with errors (R225) -/

theorem exec_rehashStep {corr : Nat} {fatal : List Nat} {s : State} (hready : stepReady s = true) (hrun : islRun 5 s = true) :
    exec (.rehashStep corr fatal) s = .next (settle (rehashStep (eccRead corr fatal s))) := done_eq (tableOp_ready hready hrun)

theorem exec_rehashFinish {corr : Nat} {fatal : List Nat} {s : State} (hfin : s.tab.finishing = true)
    (hrun : islRun 5 s = true) : exec (.rehashFinish corr fatal) s = .next (settle (rehashFinish (eccRead corr fatal s))) :=
  done_eq (tableOp_ready hfin hrun)

section
variable {k : BitVec 4} {corr : Nat} {fatal : List Nat} {s : State} (hrun : islRun 5 s = true)
include hrun

theorem exec_readKey (h : (getWin k.toNat s).busy = some 0) :
    exec (.readKey k corr fatal) s = .next (settle (readKey k.toNat (eccRead corr fatal s))) :=
  done_eq (tableOp_ready (beq_iff_eq.mpr h) hrun)

theorem exec_readLoc (h : (getWin k.toNat s).busy = some 1) :
    exec (.readLoc k corr fatal) s = .next (settle (readLoc k.toNat (eccRead corr fatal s))) :=
  done_eq (tableOp_ready (beq_iff_eq.mpr h) hrun)

theorem exec_readNext (h : (getWin k.toNat s).busy = some 2) :
    exec (.readNext k corr fatal) s = .next (settle (readNext k.toNat (eccRead corr fatal s))) :=
  done_eq (tableOp_ready (beq_iff_eq.mpr h) hrun)

end

/-- Settles O49: the learn arbiter, the change unit, the ageing scan and the ECC findings, each by its own lemmas. -/
theorem learningChangesAndAgeing : Obligations.LearningChangesAndAgeing := by
  refine ⟨?off, ?bad, ?absent, ?present, ?waits, ?stuck, ?acked, ?alone, ?acking, ?turns, ?hold, ?age, ?due, ?stopped,
    ?standby, ?aged, ?others, ?reads, ?corrected, ?fatal⟩
  case off =>
    intro l ls s hq hrun hfree hen
    rw [exec_learnArbitrate_decides hq hrun hfree, arbitrated_off ls hen]
    rfl
  case bad =>
    intro l ls s hq hrun hfree hen hbad
    rw [exec_learnArbitrate_decides hq hrun hfree, arbitrated_bad ls hen hbad]
    rfl
  case absent =>
    intro l ls s hq hrun hfree hstuck hen hkey htarget hnone
    rw [exec_learnArbitrate_decides hq hrun (by rw [hfree]; rfl), arbitrated_absent ls hen hkey htarget hnone hfree hstuck]
  case present =>
    intro l ls p e s hq hrun hfree hen hkey htarget hp he
    rw [exec_learnArbitrate_decides hq hrun hfree, arbitrated_present ls hen hkey htarget hp he]
    rfl
  case waits => exact fun l ls s hq hrun hwait => exec_learnArbitrate_waits hq hrun hwait
  case stuck =>
    intro c s hfree hrun hstuck
    rw [exec_tableChangeApply_clean hfree hrun, changeUnit_stuck hfree hstuck]
    exact ⟨fun hpark hsoft => by rw [if_pos ⟨hpark, hsoft⟩], fun hpark => by rw [if_neg fun h => hpark h.1]⟩
  case acked =>
    intro c s t hfree hrun hstuck hnext hj hr
    obtain ⟨htab, hwaits⟩ := submitChange_waits hj hr
    exact ⟨submitChange c t, by rw [exec_tableChangeApply_clean hfree hrun, changeUnit_next hfree hstuck hnext], htab, hwaits⟩
  case alone =>
    intro c s t hfree hrun hstuck hnext hj
    rw [exec_tableChangeApply_clean hfree hrun, changeUnit_next hfree hstuck hnext, submitChange_alone hj]
  case acking => exact fun corr fatal s h => done_eq (tableOp_not_ready _ _ _ _ (unitFree_of_acking h))
  case turns =>
    intro c cs l ls s hchanges hoffered hdue hperiod
    refine ⟨fun ht => nextChange_first ?_, fun ht => nextChange_first ?_, fun ht => nextChange_first ?_⟩ <;> rw [ht]
    · exact changeOf_software hchanges
    · exact changeOf_learn hoffered
    · exact changeOf_age hdue hperiod
  case hold => exact fun k s => done_eq rfl
  case age =>
    intro s hreset hrun hperiod hrole hfree hstuck hchanges hoffered hdue hj
    have htaken : ageTaken (ageWaits s) =
        { s with tab := { s.tab with agePos := (s.tab.agePos + 1) % 528384, turn := 0 } } := by
      simp [ageTaken, ageWaits, hdue]
    rw [exec_ageStep_clean hreset hperiod hrun, ageStep_takes hperiod hrole hfree hstuck hchanges hoffered,
      submitChange_alone (by exact hj), htaken]
  case due =>
    intro s hreset hrun hperiod hrole hbusy
    rw [exec_ageStep_clean hreset hperiod hrun, ageStep_eq hperiod hrole, if_pos hbusy]
    rfl
  case stopped => exact fun corr fatal s h => exec_ageStep_stopped h
  case standby => exact fun s h => exec_ageStep_standby h
  case aged =>
    intro l w e s hw he
    rw [ageLoc_eq, getWay_forEach_ageWay_mem (locWays_nodup l) hw he]
    rfl
  case others =>
    intro l w s hw
    rw [ageLoc_eq, getWay_forEach_ageWay_other s hw]
  case reads =>
    exact fun corr fatal s hrun => ⟨fun hq => exec_learnArbitrate hq hrun, fun hfree => exec_tableChangeApply hfree hrun,
      fun hreset hperiod => exec_ageStep hreset hperiod hrun, fun hready => exec_rehashStep hready hrun,
      fun hfin => exec_rehashFinish hfin hrun,
      fun k => ⟨exec_readKey hrun, exec_readLoc hrun, exec_readNext hrun⟩⟩
  case corrected => exact fun corr s h => (eccRead_corrected corr s).trans (if_neg h)
  case fatal => exact fun w e s hw he => eccRead_fatal hw he

end Sys2Proof.Machine
end

section
/-!
PROOFS. Accesses to the registers of the steering table and of the meters, and the hidden seeds (O40).
-/

namespace Sys2Proof.Machine

/-! ## Registers of the table's and the meters' pages -/

/-- Element `i` of register `n` in the `k`-th page of its kind is a plain word of a page of the table or of the meters. -/
def TableWord (n : RegName) (k i : Nat) : Prop :=
  n.row.wide = false ∧ loc n k i % 4 = 0 ∧ loc n k i < 0x100000 ∧ loc n k i % 4096 < 0x800 ∧ 0x80 ≤ loc n k i / 4096 ∧
    pageInstance (loc n k i / 4096) = k ∧ (pageOf (loc n k i / 4096)).isSome = true ∧
    regAt (loc n k i / 4096) (loc n k i % 4096) = some (n, i, false)

theorem tableWord_rhCtrl : TableWord .ST_RH_CTRL 0 0 := by unfold TableWord; decide

theorem tableWord_mtCtrl : ∀ k < 4, TableWord .MT_CTRL k 0 := by unfold TableWord; decide

theorem tableWord_seedCur : ∀ i < 2, TableWord .ST_SEED_CUR 0 i := by unfold TableWord; decide

theorem tableWord_seedNew : ∀ i < 2, TableWord .ST_SEED_NEW 0 i := by unfold TableWord; decide

section
variable {n : RegName} {k i : Nat} (h : TableWord n k i)
include h

theorem clientPcs_tableWord (s : State) : clientPcs (loc n k i) s = false := by
  obtain ⟨-, -, -, -, hpage, -, -, -⟩ := h
  simp [clientPcs, Nat.not_lt.mpr hpage]

theorem readEffect_tableWord (m : Master) (s : State) : readEffect m (loc n k i) s = readReg m n k i (loc n k i) s := by
  have hpcs := clientPcs_tableWord h s
  obtain ⟨hwide, -, -, hlow, -, hinst, -, hreg⟩ := h
  have hclear : ¬ 0xC00 ≤ loc n k i % 4096 := by omega
  have hset : ¬ 0x800 ≤ loc n k i % 4096 := by omega
  simp [readEffect, hpcs, hclear, hset, hreg, hwide, hinst]

theorem writeEffect_tableWord (m : Master) (d : Nat) (s : State) :
    writeEffect m (loc n k i) d s = writeReg m n k i (loc n k i) d s := by
  have hpcs := clientPcs_tableWord h s
  obtain ⟨hwide, -, -, hlow, -, hinst, -, hreg⟩ := h
  have hclear : ¬ 0xC00 ≤ loc n k i % 4096 := by omega
  have hset : ¬ 0x800 ≤ loc n k i % 4096 := by omega
  simp [writeEffect, hpcs, hclear, hset, hreg, hwide, hinst]

theorem runReq_tableWord_read {m : Master} {s : State} (hopen : ReadOpen m (loc n k i) s) :
    runReq m (rreq (loc n k i)) s =
      respond m .ok false (readReg m n k i (loc n k i) s).1 (readReg m n k i (loc n k i) s).2 := by
  have hread := readEffect_tableWord h m s
  obtain ⟨-, halign, hlt, -, -, -, hlisted, -⟩ := h
  rw [runReq_page_read halign hlt hlisted hopen, hread]

/-- A write that is open to its master and that the register takes. -/
theorem runReq_tableWord_write {m : Master} {d : Nat} {s t : State} (hd : d < 2 ^ 32) (hopen : WriteOpen m (loc n k i) d s)
    (heff : writeReg m n k i (loc n k i) d s = some t) :
    done (runReq m (wreq (loc n k i) d) s) = .next (written m (loc n k i) d t) := by
  have hword : (BitVec.ofNat 32 d).toNat = d := Nat.mod_eq_of_lt hd
  have hwrite := (writeEffect_tableWord h m d s).trans heff
  obtain ⟨-, halign, hlt, -, -, -, hlisted, -⟩ := h
  have hrun := runReq_page_write (d := BitVec.ofNat 32 d) (t := t) halign hlt hlisted (hword.symm ▸ hopen)
    (hword.symm ▸ hwrite)
  rw [hword] at hrun
  exact done_eq hrun

/-- A write that is open to its master and that the register refuses in the present state. -/
theorem runReq_tableWord_refused {m : Master} {d : Nat} {s : State} (hd : d < 2 ^ 32) (hopen : WriteOpen m (loc n k i) d s)
    (heff : writeReg m n k i (loc n k i) d s = none) (hmiss : writeMiss (loc n k i) d s = s) :
    done (runReq m (wreq (loc n k i) d) s) = .next (refusedWrite m (loc n k i) 7 s) := by
  have hword : (BitVec.ofNat 32 d).toNat = d := Nat.mod_eq_of_lt hd
  have hwrite := (writeEffect_tableWord h m d s).trans heff
  obtain ⟨hq, hr, -⟩ := id hopen
  obtain ⟨-, halign, hlt, -, -, -, hlisted, -⟩ := h
  have hrun := runReq_page (d := BitVec.ofNat 32 d) halign hlt hlisted hq hr
  rw [hword, ctlWrite_refused hopen hwrite, hmiss] at hrun
  exact done_eq hrun

end

/-! ## The seeds (R250) -/

theorem readReg_seedCur {m : Master} (hm : m ≠ .stw) (k i a : Nat) (s : State) :
    readReg m .ST_SEED_CUR k i a s = (0, s) := congrArg (fun v => (v, s)) (if_neg hm)

theorem readReg_seedNew {m : Master} (hm : m ≠ .stw) (k i a : Nat) (s : State) :
    readReg m .ST_SEED_NEW k i a s = (0, s) := congrArg (fun v => (v, s)) (if_neg hm)

/-- Settles O40. -/
theorem seedsHidden : Obligations.SeedsHidden := by
  intro m a s hm ha hopen
  have hcur (i : Nat) (hi : i < 2) (hopen : ReadOpen m (loc .ST_SEED_CUR 0 i) s) :
      runReq m (rreq (loc .ST_SEED_CUR 0 i)) s = respond m .ok false 0 s := by
    rw [runReq_tableWord_read (tableWord_seedCur i hi) hopen, readReg_seedCur hm]
  have hnew (i : Nat) (hi : i < 2) (hopen : ReadOpen m (loc .ST_SEED_NEW 0 i) s) :
      runReq m (rreq (loc .ST_SEED_NEW 0 i)) s = respond m .ok false 0 s := by
    rw [runReq_tableWord_read (tableWord_seedNew i hi) hopen, readReg_seedNew hm]
  simp only [List.mem_cons, List.not_mem_nil, or_false] at ha
  rcases ha with rfl | rfl | rfl | rfl
  · exact hcur 0 (by decide) hopen
  · exact hcur 1 (by decide) hopen
  · exact hnew 0 (by decide) hopen
  · exact hnew 1 (by decide) hopen

end Sys2Proof.Machine
end

section
/-!
PROOFS. Start, park, steps and finish of a rehash (O50).
-/

namespace Sys2Proof.Machine

/-! ## The state of the rehash (ST_RH_STATE) -/

@[simp] theorem rd_setTab (a : Nat) (t : Tab) (s : State) : rd a (setTab t s) = rd a s := rfl

theorem rhState_congr {s t : State} (h : rd (loc .ST_RH_STATE) t = rd (loc .ST_RH_STATE) s) : rhState t = rhState s :=
  fg_congr _ h

theorem gen_congr {s t : State} (h : rd (loc .ST_CFG) t = rd (loc .ST_CFG) s) : gen t = gen s := fg_congr _ h

/-- While the rehash goes back, its target is the current generation (R247). -/
theorem tgtSeeds_reverse {s : State} (h : rhReverse s = true) : tgtSeeds s = curSeeds s := if_pos h

/-- What START leaves (R243). -/
theorem rehashStart_shows (seeds : Nat × Nat) (s : State) :
    rhState (rehashStart seeds s) = 1 ∧ rhCursor (rehashStart seeds s) = 0 ∧
    rhReverse (rehashStart seeds s) = false ∧ tgtSeeds (rehashStart seeds s) = seeds := by
  have hrev : rhReverse (rehashStart seeds s) = false := by
    simp (disch := decide) [rhReverse, fb, rehashStart, fg_fs_same, fg_fs_beside]
  refine ⟨?_, ?_, hrev, ?_⟩
  · simp (disch := decide) [rhState, rehashStart, fg_fs_same, fg_fs_beside]
  · simp (disch := decide) [rhCursor, rehashStart, fg_fs_same]
  · simp [tgtSeeds, hrev]

/-- What RESUME leaves (R246). -/
theorem rehashResume_shows (s : State) : rhState (rehashOp 2 s) = 1 ∧
    fb (loc .ST_RH_STATE) F.ST_RH_STATE_STUCK (rehashOp 2 s) = false ∧ rhCursor (rehashOp 2 s) = rhCursor s ∧
    rhReverse (rehashOp 2 s) = rhReverse s := by
  refine ⟨?_, ?_, ?_, ?_⟩
  · simp (disch := decide) [rhState, rehashOp, fg_fs_same, fg_fs_beside]
  · simp (disch := decide) [fb, rehashOp, fg_fs_same]
  · simp (disch := decide) only [rhCursor, rehashOp, fg_fs_beside]
    rfl
  · simp (disch := decide) only [rhReverse, fb, rehashOp, fg_fs_beside]
    rfl

/-- What CANCEL leaves (R247). -/
theorem rehashCancel_shows (s : State) : rhState (rehashOp 3 s) = 1 ∧ rhReverse (rehashOp 3 s) = true ∧
    rhCursor (rehashOp 3 s) = 0 ∧ tgtSeeds (rehashOp 3 s) = curSeeds s := by
  have hrev : rhReverse (rehashOp 3 s) = true := by
    simp (disch := decide) [rhReverse, fb, rehashOp, fg_fs_same, fg_fs_beside]
  refine ⟨?_, hrev, ?_, ?_⟩
  · simp (disch := decide) [rhState, rehashOp, fg_fs_same, fg_fs_beside]
  · simp (disch := decide) [rhCursor, rehashOp, fg_fs_same]
  · rw [tgtSeeds_reverse hrev]
    exact curSeeds_congr (by simp (disch := decide) [rehashOp, rd_fs_other])
      (by simp (disch := decide) [rehashOp, rd_fs_other])

/-! ## Writes of ST_RH_CTRL (R243 to R247) -/

section
variable {m : Master} {d : Nat} {s t : State} (hd : d < 2 ^ 32) (hopen : WriteOpen m (loc .ST_RH_CTRL) d s)
include hd hopen

theorem rhCtrl_write (heff : writeRhCtrl d s = some t) :
    done (runReq m (wreq (loc .ST_RH_CTRL) d) s) = .next (written m (loc .ST_RH_CTRL) d t) :=
  runReq_tableWord_write tableWord_rhCtrl hd hopen heff

theorem rhCtrl_refused (heff : writeRhCtrl d s = none) :
    done (runReq m (wreq (loc .ST_RH_CTRL) d) s) = .next (refusedWrite m (loc .ST_RH_CTRL) 7 s) := by
  obtain ⟨-, -, -, -, -, -, -, hreg⟩ := tableWord_rhCtrl
  exact runReq_tableWord_refused tableWord_rhCtrl hd hopen heff (by simp [writeMiss, hreg])

end

/-- START with written seeds that differ from each other and are not the current ones. -/
theorem writeRhCtrl_start {s : State} (hidle : rhState s = 0) (hrandom : fb (loc .ST_CFG) F.ST_CFG_SEED_RANDOM s = false)
    (hdiffer : rd (loc .ST_SEED_NEW 0 0) s ≠ rd (loc .ST_SEED_NEW 0 1) s)
    (hnew : (rd (loc .ST_SEED_NEW 0 0) s, rd (loc .ST_SEED_NEW 0 1) s) ≠ curSeeds s) :
    writeRhCtrl (2 ^ 31) s = some (rehashStart (rd (loc .ST_SEED_NEW 0 0) s, rd (loc .ST_SEED_NEW 0 1) s) s) := by
  have hcommand : rehashCommand s =
      some (rehashStart (rd (loc .ST_SEED_NEW 0 0) s, rd (loc .ST_SEED_NEW 0 1) s) s) := by
    unfold rehashCommand
    rw [if_neg (Bool.eq_false_iff.mp hrandom)]
    exact if_neg (not_or.mpr ⟨hdiffer, hnew⟩)
  exact (if_neg (by simp [rehashBusy, hidle])).trans hcommand

theorem writeRhCtrl_start_busy {s : State} (h : rhState s ≠ 0) : writeRhCtrl (2 ^ 31) s = none :=
  if_pos (bne_iff_ne.mpr h)

theorem writeRhCtrl_park {s : State} (hrun : rhState s = 1) (hfin : s.tab.finishing = false) :
    writeRhCtrl (2 ^ 30) s = some (rehashOp 1 s) := if_neg (by simp [rehashBusy, hrun, hfin])

theorem writeRhCtrl_resume {s : State} (hpark : rhState s = 2) : writeRhCtrl (2 ^ 29) s = some (rehashOp 2 s) :=
  if_neg (by simp [rehashBusy, hpark])

theorem writeRhCtrl_cancel {s : State} (hrun : rhState s ≠ 0) (hfin : s.tab.finishing = false) (hrev : rhReverse s = false) :
    writeRhCtrl (2 ^ 28) s = some (rehashOp 3 s) := if_neg (by simp [rehashBusy, hrun, hfin, hrev])

/-! ## Steps (R244) -/

section
variable {s t : State} (hready : stepReady s = true)
include hready

/-- A step that re-places its location, short of the last one, advances CURSOR. -/
theorem rehashStep_advances (hcursor : rhCursor s < 528383) (h : replaceWays (locWays (rhCursor s)) s = (true, t)) :
    rehashStep s = fs (loc .ST_RH_STATE) F.ST_RH_STATE_CURSOR (rhCursor s + 1)
      (bump (cTable 16) (setTab { t.tab with stepDue := false } t)) := by
  unfold rehashStep
  rw [if_neg (by simp [hready])]
  dsimp only
  rw [h, if_pos rfl, if_neg (by omega)]

/-- A step that finds the pending list full parks the rehash. -/
theorem rehashStep_stuck (h : replaceWays (locWays (rhCursor s)) s = (false, t)) :
    rehashStep s = setFlag (loc .ST_EVENT) F.ST_EVENT_REHASH_STUCK (fs (loc .ST_RH_STATE) F.ST_RH_STATE_STUCK 1
      (fs (loc .ST_RH_STATE) F.ST_RH_STATE_STATE 2 (setTab { t.tab with stepDue := false } t))) := by
  unfold rehashStep
  rw [if_neg (by simp [hready])]
  dsimp only
  rw [h]
  rfl

theorem rehashStep_stuck_shows (h : replaceWays (locWays (rhCursor s)) s = (false, t)) : rhState (rehashStep s) = 2 ∧
    fb (loc .ST_RH_STATE) F.ST_RH_STATE_STUCK (rehashStep s) = true ∧
    fb (loc .ST_EVENT) F.ST_EVENT_REHASH_STUCK (rehashStep s) = true := by
  rw [rehashStep_stuck hready h]
  refine ⟨?_, ?_, fb_setFlag_same _ _ rfl (by decide)⟩
  · simp (disch := decide) only [rhState, fg_setFlag_other, fg_fs_same, fg_fs_beside]
    rfl
  · simp (disch := decide) [fb, fg_setFlag_other, fg_fs_same]

end

/-! ## The finish (R245, R247, R249) -/

/-- A pending entry that found a way leaves the list by a move. -/
theorem pendMoved_placed (pend : List (Nat × Ent)) (f : Sum Nat Nat → Bool) (s : State) :
    Placed s (moveSeq 1 (noteMove f (setTab { s.tab with pend := pend } s))) :=
  .after (moveSeq_placed ..) (.after (noteMove_placed ..) ⟨fun _ _ => rfl, rfl, rfl⟩)

theorem retryPending_placed (es : List (Nat × Ent)) (s : State) : Placed s (retryPending es s) := by
  induction es generalizing s with
  | nil => exact .refl s
  | cons p es ih =>
    obtain ⟨i, e⟩ := p
    have hplaced := placeEnt_placed (tgtSeeds s) e s
    -- One unfolding of the recursion by evaluation: its equation lemmas would evaluate the placement itself.
    conv =>
      arg 2
      whnf
    split
    · exact .after (ih _) (hplaced.trans (pendMoved_placed ..))
    · exact .after (ih _) hplaced

theorem retryAll_placed (s : State) : Placed s (retryAll s) := retryPending_placed ..

/-- Where no command of an opcode is in flight, none is finished. -/
theorem finishWhere_none {op : Nat} {s : State} (f : Cmd → Bool) (status r0 : Nat)
    (h : ∀ p c, c ∈ (getPair p s).cmds → c.opcode ≠ op) : finishWhere op f status r0 s = s := by
  have hnone (p : Nat) : (getPair p s).cmds.filter (fun c => c.active && c.opcode == op && f c) = [] :=
    List.filter_eq_nil_iff.mpr fun c hc => by simp [h p c hc]
  have hpair (p : Nat) : forEach (((getPair p s).cmds.filter (fun c => c.active && c.opcode == op && f c)).map (·.id))
      (fun k t => finishCmd p k status r0 0 t) s = s := by rw [hnone p]; rfl
  calc finishWhere op f status r0 s
      = forEach [2] (fun p t =>
          forEach (((getPair p t).cmds.filter (fun c => c.active && c.opcode == op && f c)).map (·.id))
            (fun k t => finishCmd p k status r0 0 t) t) s := congrArg _ (hpair 1)
    _ = s := hpair 2

/-- A rehash that was not cancelled makes its seeds current and advances GEN. -/
def seedsTaken (s : State) : State :=
  if rhReverse s then s
  else fs (loc .ST_CFG) F.ST_CFG_GEN (gen s + 1) (wr (loc .ST_SEED_CUR 0 1) (s.tab.newSeeds.getD (curSeeds s)).2
    (wr (loc .ST_SEED_CUR 0 0) (s.tab.newSeeds.getD (curSeeds s)).1 s))

/-- The rehash is over: its registers before the pending entries are tried again. -/
def rehashEnded (rev : Bool) (s : State) : State :=
  setTab { s.tab with newSeeds := none, finishing := false, stepDue := false } s
    |> fs (loc .ST_RH_STATE) F.ST_RH_STATE_STATE 0
    |> fs (loc .ST_RH_STATE) F.ST_RH_STATE_REVERSE 0
    |> fs (loc .ST_RH_STATE) F.ST_RH_STATE_STUCK 0
    |> fs (loc .ST_RH_STATE) F.ST_RH_STATE_CURSOR 0
    |> fs (loc .ST_RH_STATE) F.ST_RH_STATE_LAST (if rev then 2 else 1)

/-- The state that the finish leaves where nothing waits for it. -/
def rehashDone (s : State) : State :=
  setFlag (loc .ST_EVENT) F.ST_EVENT_REHASH_DONE (retryAll (rehashEnded (rhReverse s) (seedsTaken s)))

theorem rehashEnded_tab (rev : Bool) (s : State) :
    (rehashEnded rev s).tab = { s.tab with newSeeds := none, finishing := false, stepDue := false } := by
  simp [rehashEnded]

theorem fs_adm (a : Nat) (f : Fld) (v : Nat) (s : State) : (fs a f v s).adm = s.adm := wr_adm ..

theorem rehashEnded_adm (rev : Bool) (s : State) : (rehashEnded rev s).adm = s.adm := by
  simp [rehashEnded, fs_adm]

theorem seedsTaken_tab (s : State) : (seedsTaken s).tab = s.tab := by
  unfold seedsTaken
  split
  · rfl
  · simp

theorem seedsTaken_adm (s : State) : (seedsTaken s).adm = s.adm := by
  unfold seedsTaken
  split <;> rfl

theorem rehashDone_tab (s : State) : (rehashDone s).tab.stuck = s.tab.stuck ∧ (rehashDone s).tab.newSeeds = none := by
  have htab := (retryAll_placed (rehashEnded (rhReverse s) (seedsTaken s))).tab
  rw [rehashEnded_tab, seedsTaken_tab] at htab
  rw [rehashDone, setFlag_tab, htab]
  exact ⟨rfl, rfl⟩

theorem rehashDone_adm (s : State) : (rehashDone s).adm = s.adm :=
  ((retryAll_placed _).adm.trans (rehashEnded_adm ..)).trans (seedsTaken_adm s)

theorem rehashFinish_eq {s : State} (hfin : s.tab.finishing = true) (hstuck : s.tab.stuck = none)
    (hcmds : ∀ p c, c ∈ (getPair p s).cmds → c.opcode ≠ 0x13) : rehashFinish s = rehashDone s := by
  have hcmds : ∀ p c, c ∈ (getPair p (rehashDone s)).cmds → c.opcode ≠ 0x13 := by
    simpa [getPair, rehashDone_adm] using hcmds
  have hnone := (rehashDone_tab s).1.trans hstuck
  calc rehashFinish s
      = (let s4 := finishWhere 0x13 (fun c => u c.raw 8 1 % 4 == 0) (if rhReverse s then St.aborted else St.ok)
            (gen (rehashDone s)) (rehashDone s)
          if s4.tab.stuck.isSome && decide (256 ≤ s4.tab.pend.length) then rehashAuto s4 else s4) := by
        unfold rehashFinish
        rw [if_neg (by simp [hfin])]
        rfl
    _ = rehashDone s := by
        dsimp only
        rw [finishWhere_none _ _ _ hcmds, hnone]
        rfl

/-- The finish keeps every register but those of the placements, ST_EVENT and ST_RH_STATE as the new seeds leave them. -/
theorem rd_rehashDone {a : Nat} (s : State) (hp : a ∉ placementRegs) (he : a ≠ loc .ST_EVENT) (hr : a ≠ loc .ST_RH_STATE) :
    rd a (rehashDone s) = rd a (seedsTaken s) := by
  rw [rehashDone, rd_setFlag_other _ _ _ _ he, (retryAll_placed _).regs a hp]
  simp only [rehashEnded, rd_fs_other _ a _ _ _ hr, rd_setTab]

theorem rhState_rehashDone (s : State) : rhState (rehashDone s) = 0 := by
  have hkept : rd (loc .ST_RH_STATE) (rehashDone s) =
      rd (loc .ST_RH_STATE) (rehashEnded (rhReverse s) (seedsTaken s)) :=
    (rd_setFlag_other _ _ _ _ (by decide)).trans ((retryAll_placed _).regs _ (by decide))
  rw [rhState_congr hkept]
  simp (disch := decide) [rhState, rehashEnded, fg_fs_same, fg_fs_beside]

theorem curSeeds_rehashDone (s : State) : curSeeds (rehashDone s) = curSeeds (seedsTaken s) :=
  curSeeds_congr (rd_rehashDone s (by decide) (by decide) (by decide)) (rd_rehashDone s (by decide) (by decide) (by decide))

theorem gen_rehashDone (s : State) : gen (rehashDone s) = gen (seedsTaken s) :=
  gen_congr (rd_rehashDone s (by decide) (by decide) (by decide))

theorem seedsTaken_reverse {s : State} (h : rhReverse s = true) : seedsTaken s = s := if_pos h

section
variable {n : Nat × Nat} {s : State} (hrev : rhReverse s = false) (hn : s.tab.newSeeds = some n)
include hrev hn

theorem seedsTaken_forward : seedsTaken s = fs (loc .ST_CFG) F.ST_CFG_GEN (gen s + 1)
    (wr (loc .ST_SEED_CUR 0 1) n.2 (wr (loc .ST_SEED_CUR 0 0) n.1 s)) := by
  simp [seedsTaken, hrev, hn]

theorem curSeeds_seedsTaken (h1 : n.1 < 2 ^ 32) (h2 : n.2 < 2 ^ 32) : curSeeds (seedsTaken s) = n := by
  rw [seedsTaken_forward hrev hn]
  simp (disch := decide) only [curSeeds, rd_fs_other, rd_wr_other, rd_wr_same, Nat.mod_eq_of_lt h1, Nat.mod_eq_of_lt h2]

theorem gen_seedsTaken : gen (seedsTaken s) = (gen s + 1) % 256 := by
  rw [seedsTaken_forward hrev hn]
  exact fg_fs_same _ _ _ (by decide) (by decide)

end

/-- Settles O50. -/
theorem rehash : Obligations.Rehash := by
  refine ⟨?start, ?busy, ?started, ?park, ?resume, ?cancel, ?step, ?stuck, ?finish, ?cancelled⟩
  case start =>
    exact fun m s hidle hrandom hdiffer hnew hopen =>
      rhCtrl_write (by decide) hopen (writeRhCtrl_start hidle hrandom hdiffer hnew)
  case busy => exact fun m s hbusy hopen => rhCtrl_refused (by decide) hopen (writeRhCtrl_start_busy hbusy)
  case started => exact rehashStart_shows
  case park => exact fun m s hrun hfin hopen => rhCtrl_write (by decide) hopen (writeRhCtrl_park hrun hfin)
  case resume =>
    exact fun m s hpark hopen => ⟨_, rhCtrl_write (by decide) hopen (writeRhCtrl_resume hpark), rehashResume_shows s⟩
  case cancel =>
    exact fun m s hrun hfin hrev hopen =>
      ⟨_, rhCtrl_write (by decide) hopen (writeRhCtrl_cancel hrun hfin hrev), rehashCancel_shows s⟩
  case step =>
    intro s t hready hrun hcursor h
    rw [exec_rehashStep hready hrun, eccRead_clean, rehashStep_advances hready hcursor h]
    rfl
  case stuck =>
    intro s t hready hrun h
    obtain ⟨hstate, hflag, hevent⟩ := rehashStep_stuck_shows hready h
    refine ⟨settle (rehashStep s), by rw [exec_rehashStep hready hrun, eccRead_clean], ?_, ?_, ?_⟩
    · exact (rhState_congr (rd_settle (by decide) _)).trans hstate
    · exact (fb_congr _ (rd_settle (by decide) _)).trans hflag
    · exact (fb_congr _ (rd_settle (by decide) _)).trans hevent
  case finish =>
    intro n s hfin hrun hrev hn hstuck h1 h2 hcmds
    refine ⟨rehashDone s, ?_, ?_, rhState_rehashDone s, ?_, (rehashDone_tab s).2, fb_setFlag_same _ _ rfl (by decide)⟩
    · rw [exec_rehashFinish hfin hrun, eccRead_clean, rehashFinish_eq hfin hstuck hcmds]
    · rw [curSeeds_rehashDone, curSeeds_seedsTaken hrev hn h1 h2]
    · rw [gen_rehashDone, gen_seedsTaken hrev hn]
  case cancelled =>
    intro s hfin hrun hrev hstuck hcmds
    refine ⟨rehashDone s, ?_, ?_, rhState_rehashDone s, ?_⟩
    · rw [exec_rehashFinish hfin hrun, eccRead_clean, rehashFinish_eq hfin hstuck hcmds]
    · rw [curSeeds_rehashDone, seedsTaken_reverse hrev]
    · rw [gen_rehashDone, seedsTaken_reverse hrev]

end Sys2Proof.Machine
end

section
/-!
PROOFS. The commands of an indirect window, and the meters (O51).
-/

namespace Sys2Proof.Machine

/-! ## Locations (R254) -/

/-- Way `r` of bucket `i`. -/
theorem locPlace_bucket {i r : Nat} (hi : i < 2 ^ 19) (hr : r < 4) : locPlace (r * 2 ^ 24 + i) = some (.inl (4 * i + r)) := by
  have hspace : (r * 2 ^ 24 + i) / 2 ^ 30 = 0 := by omega
  have hway : (r * 2 ^ 24 + i) / 2 ^ 24 = r := by omega
  have hindex : (r * 2 ^ 24 + i) % 2 ^ 19 = i := by omega
  unfold locPlace
  dsimp only
  rw [hspace, hway, hindex, Nat.mod_eq_of_lt (by omega : r < 8), if_pos ⟨rfl, hr⟩]

/-- Way `r` of overflow set `i`. -/
theorem locPlace_overflow {i r : Nat} (hi : i < 4096) (hr : r < 8) :
    locPlace (2 ^ 30 + r * 2 ^ 24 + i) = some (.inl (ovBase + 8 * i + r)) := by
  have hspace : (2 ^ 30 + r * 2 ^ 24 + i) / 2 ^ 30 = 1 := by omega
  have hway : (2 ^ 30 + r * 2 ^ 24 + i) / 2 ^ 24 = 64 + r := by omega
  have hlow : (64 + r) % 8 = r := by omega
  have hindex : (2 ^ 30 + r * 2 ^ 24 + i) % 2 ^ 19 = i := by omega
  unfold locPlace
  dsimp only
  rw [hspace, hway, hindex, hlow, if_neg (by omega), if_pos ⟨rfl, hi⟩]

/-- The code of a way names that way. -/
theorem locPlace_wayCode {w : Nat} (hw : w < 2129920) : locPlace (wayCode w) = some (.inl w) := by
  unfold wayCode
  split
  · next hlow =>
    unfold ovBase at hlow
    rw [locPlace_bucket (by omega) (by omega), Nat.div_add_mod]
  · next hhigh =>
    have hplace : ovBase + 8 * ((w - ovBase) / 8) + (w - ovBase) % 8 = w := by omega
    unfold ovBase at hhigh
    rw [locPlace_overflow (by unfold ovBase; omega) (by omega), hplace]

/-- The code of an index of the pending list names that index. -/
theorem locPlace_pendCode {i : Nat} (hi : i < 256) : locPlace (pendCode i) = some (.inr i) := by
  unfold locPlace pendCode
  dsimp only
  rw [if_neg (by omega), if_neg (by omega), if_pos (by omega)]
  congr 2
  omega

/-! ## Commands of a window (R254, R255) -/

section
variable {k : Nat} {s : State}

theorem readKey_found {p : Sum Nat Nat} {e : Ent} (hp : findKey (u (getWin k s).entry 0 10) s = some p)
    (he : entAt p s = some e) :
    readKey k s = setWin k { getWin k s with entry := e.bytes, loc := foundCode p, result := 0, busy := none } s := by
  unfold readKey
  dsimp only
  rw [hp]
  dsimp only
  rw [he]

theorem readKey_miss (hp : findKey (u (getWin k s).entry 0 10) s = none) :
    readKey k s = setWin k { getWin k s with result := 1, busy := none } s := by
  unfold readKey
  dsimp only
  rw [hp]

theorem readLoc_bad (hp : locPlace (getWin k s).loc = none) :
    readLoc k s = setWin k { getWin k s with result := 5, busy := none } s := by
  unfold readLoc
  dsimp only
  rw [hp]

theorem readLoc_held {p : Sum Nat Nat} {e : Ent} (hp : locPlace (getWin k s).loc = some p) (he : entAt p s = some e) :
    readLoc k s = setWin k { getWin k s with
      entry := e.bytes, result := if e.moving || (getWin k s).moved then 2 else 0, busy := none } s := by
  unfold readLoc
  dsimp only
  rw [hp]
  dsimp only
  rw [he]

theorem readLoc_empty {p : Sum Nat Nat} (hp : locPlace (getWin k s).loc = some p) (he : entAt p s = none) :
    readLoc k s = setWin k { getWin k s with
      entry := List.replicate 16 0, result := if (getWin k s).moved then 2 else 3, busy := none } s := by
  unfold readLoc
  dsimp only
  rw [hp]
  dsimp only
  rw [he]

theorem readNext_bad (hp : locPlace (getWin k s).loc = none) :
    readNext k s = setWin k { getWin k s with result := 5, busy := none } s := by
  unfold readNext
  dsimp only
  rw [hp]

/-- The next entry after a way is that of the next way that holds one. -/
theorem readNext_way {w n : Nat} {e : Ent} (hp : locPlace (getWin k s).loc = some (.inl w))
    (hn : s.tab.ways.find? (fun p => decide (w < p.1)) = some (n, some e)) :
    readNext k s = setWin k { getWin k s with entry := e.bytes, loc := wayCode n, result := 0, busy := none } s := by
  unfold readNext
  dsimp only
  rw [hp]
  dsimp only
  rw [hn]

/-- The next entry after an index of the pending list is that of the lowest index above it that has one. -/
theorem readNext_pend {i j : Nat} {e : Ent} (hp : locPlace (getWin k s).loc = some (.inr i)) (hij : i < j) (hj : j < 256)
    (he : pendAt j s.tab = some e) (hfirst : ∀ m, i < m → m < j → pendAt m s.tab = none) :
    readNext k s = setWin k { getWin k s with entry := e.bytes, loc := pendCode j, result := 0, busy := none } s := by
  have hfind : (List.range 256).find? (fun m => decide (i + 1 ≤ m) && (pendAt m s.tab).isSome) = some j := by
    rw [List.find?_range_eq_some]
    refine ⟨by simpa [he] using hij, List.mem_range.mpr hj, fun m hm => ?_⟩
    by_cases him : i < m
    · simp [hfirst m him hm]
    · simp [him]
  unfold readNext
  dsimp only
  rw [hp]
  dsimp only
  rw [hfind]
  dsimp only
  rw [he]
  rfl

theorem readNext_end {i : Nat} (hp : locPlace (getWin k s).loc = some (.inr i))
    (hnone : ∀ m, i < m → m < 256 → pendAt m s.tab = none) :
    readNext k s = setWin k { getWin k s with result := 4, busy := none } s := by
  have hfind : (List.range 256).find? (fun m => decide (i + 1 ≤ m) && (pendAt m s.tab).isSome) = none := by
    rw [List.find?_eq_none]
    intro m hm
    by_cases him : i < m
    · simp [hnone m him (List.mem_range.mp hm)]
    · simp [him]
  unfold readNext
  dsimp only
  rw [hp]
  dsimp only
  rw [hfind]

end

/-! ## Colours (R252) -/

/-- A meter of the first kind that takes no colour from the packet. -/
theorem colour_first {b : Nat} {m : Meter} (hkind : bit (u m.cfg 3 1) 0 = true) (haware : bit (u m.cfg 3 1) 1 = false) :
    m.colour b 0 = (if b * 65536 ≤ m.lvlC then (0, { m with lvlC := m.lvlC - b * 65536 })
      else if b * 65536 ≤ m.lvlX then (1, { m with lvlX := m.lvlX - b * 65536 }) else (2, m)) := by
  simp [Meter.colour, hkind, haware]

/-- A meter of the second kind, for a packet that is not red before. -/
theorem colour_second {b i : Nat} {m : Meter} (hkind : bit (u m.cfg 3 1) 0 = false) (hi : i ≠ 2) :
    m.colour b i = (if m.lvlX < b * 65536 then (2, m)
      else if (i = 1 ∧ bit (u m.cfg 3 1) 1 = true) ∨ m.lvlC < b * 65536 then (1, { m with lvlX := m.lvlX - b * 65536 })
      else (0, { m with lvlX := m.lvlX - b * 65536, lvlC := m.lvlC - b * 65536 })) := by
  cases haware : bit (u m.cfg 3 1) 1 with
  | false => simp [Meter.colour, hkind, haware]
  | true => simp [Meter.colour, hkind, haware, hi]

/-! ## MT_CTRL (R253) -/

theorem getMeter_setMeter_same (n : Nat) (m : Meter) (s : State) : getMeter n (setMeter n m s) = m := sget_sput_same ..

theorem getMeter_setMeter_other {j n : Nat} (m : Meter) (s : State) (h : j ≠ n) :
    getMeter j (setMeter n m s) = getMeter j s := sget_sput_other _ _ _ _ _ _ h

/-- The configuration that MT_REC holds. -/
def mtRecord (k : Nat) (s : State) : Bytes := (List.range 5).flatMap (fun w => bytesLE 4 (rd (loc .MT_REC k w) s))

theorem length_mtRecord (k : Nat) (s : State) : (mtRecord k s).length = 20 := by
  simp [mtRecord, List.length_flatMap, length_bytesLE]

/-- The meter that MT_PTR names. -/
def mtIndex (k : Nat) (s : State) : Nat := 16384 * k + fg (loc .MT_PTR k) F.MT_PTR_INDEX s

/-- AUTOINC advances MT_PTR after a write or a read. -/
def mtAdvance (k : Nat) (s t : State) : State :=
  if fb (loc .MT_PTR k) F.MT_PTR_AUTOINC s then fs (loc .MT_PTR k) F.MT_PTR_INDEX (fg (loc .MT_PTR k) F.MT_PTR_INDEX s + 1) t
  else t

theorem mtAdvance_tab (k : Nat) (s t : State) : (mtAdvance k s t).tab = t.tab := by
  unfold mtAdvance
  split
  · exact fs_tab ..
  · rfl

theorem rd_mtAdvance_other {k a : Nat} (s t : State) (ha : a ≠ loc .MT_PTR k) : rd a (mtAdvance k s t) = rd a t := by
  unfold mtAdvance
  split
  · exact rd_fs_other _ _ _ _ _ ha
  · rfl

/-- The bits of a write of WRITE, with or without FILL. -/
theorem bits_mtWrite (fill : Bool) : bit (2 ^ 31 + b2n fill * 2 ^ 29) 31 = true ∧
    bit (2 ^ 31 + b2n fill * 2 ^ 29) 30 = false ∧ bit (2 ^ 31 + b2n fill * 2 ^ 29) 29 = fill := by
  cases fill <;> decide

theorem mtWrite_lt (fill : Bool) : 2 ^ 31 + b2n fill * 2 ^ 29 < 2 ^ 32 := by cases fill <;> decide

theorem mtCtrl_write {k : Nat} {fill : Bool} {s : State} (hgood : meterBad (mtRecord k s) = false) :
    mtCtrl k (2 ^ 31 + b2n fill * 2 ^ 29) s =
      some (mtAdvance k s (meterWrite (mtIndex k s) (mtRecord k s) fill s)) := by
  obtain ⟨hwrite, hread, hfill⟩ := bits_mtWrite fill
  rw [mtRecord] at hgood
  simp only [mtCtrl, hwrite, hread, hfill, hgood, Bool.and_false, Bool.true_or, Bool.true_and, if_true, if_false,
    Bool.false_eq_true]
  rfl

theorem mtCtrl_refused {k : Nat} {fill : Bool} {s : State} (hbad : meterBad (mtRecord k s) = true) :
    mtCtrl k (2 ^ 31 + b2n fill * 2 ^ 29) s = none := by
  obtain ⟨hwrite, -, -⟩ := bits_mtWrite fill
  rw [mtRecord] at hbad
  exact if_pos (by rw [hwrite, hbad]; rfl)

/-- The written record replaces the meter's, and FILL fills its buckets. -/
theorem meterWrite_shows {n : Nat} {cfg : Bytes} (fill : Bool) (s : State) (hlen : cfg.length = 20) :
    (getMeter n (meterWrite n cfg fill s)).cfg = cfg ∧
    (fill = true → (getMeter n (meterWrite n cfg fill s)).lvlC = u cfg 8 3 * 65536 ∧
      (getMeter n (meterWrite n cfg fill s)).lvlX = u cfg 12 3 * 65536) ∧
    ∀ j, j ≠ n → getMeter j (meterWrite n cfg fill s) = getMeter j s := by
  unfold meterWrite
  dsimp only
  rw [getMeter_setMeter_same]
  refine ⟨List.take_of_length_le (Nat.le_of_eq hlen), ?_, fun j hj => getMeter_setMeter_other _ _ hj⟩
  rintro rfl
  exact ⟨rfl, rfl⟩

/-- A record is shown in the words of MT_REC. -/
def mtShow (k : Nat) (v : Bytes) (s : State) : State :=
  forEach (List.range 7) (fun w t => wr (loc .MT_REC k w) (u v (4 * w) 4) t) s

theorem mtCtrl_read (k : Nat) (s : State) :
    mtCtrl k (2 ^ 30) s = some (mtAdvance k s (mtShow k (meterView (mtIndex k s) s) s)) := by
  have hwrite : bit (2 ^ 30) 31 = false := by decide
  have hread : bit (2 ^ 30) 30 = true := by decide
  simp only [mtCtrl, hwrite, hread, Bool.false_and, Bool.false_or, Bool.true_and, if_true, if_false, Bool.false_eq_true]
  rfl

theorem mtShow_tab (k : Nat) (v : Bytes) (s : State) : (mtShow k v s).tab = s.tab :=
  forEach_keeps (fun s => s.tab) _ (fun _ _ s => wr_tab _ _ s) s

/-- The words written to distinct registers read as written. -/
theorem rd_forEach_wr {f g : Nat → Nat} (hf : Function.Injective f) {ws : List Nat} {w : Nat} (s : State) (hn : ws.Nodup)
    (hw : w ∈ ws) : rd (f w) (forEach ws (fun v t => wr (f v) (g v) t) s) = g w % 2 ^ 32 := by
  induction ws generalizing s with
  | nil => cases hw
  | cons v ws ih =>
    obtain ⟨hv, hws⟩ := List.nodup_cons.mp hn
    rcases List.mem_cons.mp hw with rfl | hmem
    · calc rd (f w) (forEach (w :: ws) (fun v t => wr (f v) (g v) t) s)
          = rd (f w) (wr (f w) (g w) s) :=
            forEach_keeps (rd (f w)) ws (fun x hx t => rd_wr_other _ _ _ _ fun e => hv (hf e ▸ hx)) _
        _ = g w % 2 ^ 32 := rd_wr_same ..
    · exact ih _ hws hmem

theorem loc_mtRec_injective (k : Nat) : Function.Injective (fun w => loc .MT_REC k w) := by
  intro i j h
  simp only [loc, locAt, show (RegName.MT_REC).row.stride = 4 from rfl] at h
  omega

theorem rd_mtShow {k w : Nat} (v : Bytes) (s : State) (hw : w < 7) :
    rd (loc .MT_REC k w) (mtShow k v s) = u v (4 * w) 4 :=
  (rd_forEach_wr (loc_mtRec_injective k) s List.nodup_range (List.mem_range.mpr hw)).trans
    (Nat.mod_eq_of_lt (u_lt v (4 * w) 4))

theorem writeMiss_mtCtrl {k : Nat} (hk : k < 4) (d : Nat) (s : State) : writeMiss (loc .MT_CTRL k) d s = s := by
  obtain ⟨-, -, -, -, -, -, -, hreg⟩ := tableWord_mtCtrl k hk
  simp [writeMiss, hreg]

theorem mtRec_ne_mtPtr (k w : Nat) : loc .MT_REC k w ≠ loc .MT_PTR k := by
  intro h
  simp only [loc, locAt, show (RegName.MT_REC).row.off = 0x90 from rfl, show (RegName.MT_PTR).row.off = 0x80 from rfl,
    show (RegName.MT_REC).kind.first = (RegName.MT_PTR).kind.first from rfl, Nat.mul_zero] at h
  omega

/-- Settles O51. -/
theorem indirectWindowsAndMeters : Obligations.IndirectWindowsAndMeters := by
  refine ⟨?key, ?miss, ?way, ?pend, ?empty, ?next, ?nextPend, ?last, ?bad, ?first, ?second, ?write, ?refused, ?read⟩
  case key =>
    intro k p e s hbusy hrun hp he
    rw [exec_readKey hrun hbusy, eccRead_clean, readKey_found hp he]
  case miss =>
    intro k s hbusy hrun hp
    rw [exec_readKey hrun hbusy, eccRead_clean, readKey_miss hp]
  case way =>
    intro k w e s hbusy hrun hw hloc he
    rw [exec_readLoc hrun hbusy, eccRead_clean, readLoc_held (p := .inl w) (hloc ▸ locPlace_wayCode hw) he]
  case pend =>
    intro k i e s hbusy hrun hi hloc he
    rw [exec_readLoc hrun hbusy, eccRead_clean, readLoc_held (p := .inr i) (hloc ▸ locPlace_pendCode hi) he]
  case empty =>
    intro k w s hbusy hrun hw hloc he
    rw [exec_readLoc hrun hbusy, eccRead_clean, readLoc_empty (p := .inl w) (hloc ▸ locPlace_wayCode hw) he]
  case next =>
    intro k w n e s hbusy hrun hw hloc hn
    rw [exec_readNext hrun hbusy, eccRead_clean, readNext_way (hloc ▸ locPlace_wayCode hw) hn]
  case nextPend =>
    intro k i j e s hbusy hrun hi hloc hij hj he hfirst
    rw [exec_readNext hrun hbusy, eccRead_clean, readNext_pend (hloc ▸ locPlace_pendCode hi) hij hj he hfirst]
  case last =>
    intro k i s hbusy hrun hi hloc hnone
    rw [exec_readNext hrun hbusy, eccRead_clean, readNext_end (hloc ▸ locPlace_pendCode hi) hnone]
  case bad =>
    intro k s hrun hloc
    refine ⟨fun hbusy => ?_, fun hbusy => ?_⟩
    · rw [exec_readLoc hrun hbusy, eccRead_clean, readLoc_bad hloc]
    · rw [exec_readNext hrun hbusy, eccRead_clean, readNext_bad hloc]
  case first => exact fun b m => colour_first
  case second => exact fun b i m => colour_second
  case write =>
    rintro m k fill _ _ s rfl hgood rfl hopen
    obtain ⟨hcfg, hfill, hothers⟩ := meterWrite_shows (n := mtIndex k.toNat s) fill s (length_mtRecord k.toNat s)
    have htab (j : Nat) : getMeter j (mtAdvance k.toNat s (meterWrite (mtIndex k.toNat s) (mtRecord k.toNat s) fill s)) =
        getMeter j (meterWrite (mtIndex k.toNat s) (mtRecord k.toNat s) fill s) := by
      rw [getMeter, mtAdvance_tab, getMeter]
    refine ⟨_, runReq_tableWord_write (tableWord_mtCtrl _ k.isLt) (mtWrite_lt fill) hopen (mtCtrl_write hgood), ?_, ?_, ?_⟩
    · exact (congrArg Meter.cfg (htab _)).trans hcfg
    · intro h
      exact ⟨(congrArg Meter.lvlC (htab _)).trans (hfill h).1, (congrArg Meter.lvlX (htab _)).trans (hfill h).2⟩
    · exact fun j hj => (htab j).trans (hothers j hj)
  case refused =>
    exact fun m k fill s hbad hopen => runReq_tableWord_refused (tableWord_mtCtrl _ k.isLt) (mtWrite_lt fill) hopen
      (mtCtrl_refused hbad) (writeMiss_mtCtrl k.isLt _ s)
  case read =>
    intro m k w s hw hopen
    refine ⟨_, runReq_tableWord_write (tableWord_mtCtrl _ k.isLt) (by decide) hopen (mtCtrl_read k.toNat s), ?_, ?_⟩
    · rw [mtAdvance_tab, mtShow_tab]
    · rw [rd_mtAdvance_other _ _ (mtRec_ne_mtPtr _ w), rd_mtShow _ _ hw]
      rfl

end Sys2Proof.Machine
end

section
/-!
PROOFS. What an admin command that has passed its checks does, and what the queue commands make of their queues (O53).
-/

namespace Sys2Proof.Machine

/-! ## The commands of a pair (R287) -/

/-- A replaced command is found by its number. -/
theorem find_replaced {cs : List Cmd} {c d : Cmd} (h : cs.find? (fun x => x.id == c.id) = some d) :
    (cs.map (fun x => if x.id = c.id then c else x)).find? (fun x => x.id == c.id) = some c := by
  induction cs with
  | nil => cases h
  | cons x cs ih =>
    by_cases hx : x.id = c.id
    · simp [hx]
    · simp only [List.map_cons, List.find?_cons, hx, ↓reduceIte, beq_eq_false_iff_ne.mpr hx] at h ⊢
      exact ih h

theorem getCmd_setCmd_same {p k : Nat} {c d : Cmd} {s : State} (hk : c.id = k) (h : getCmd p k s = some d) :
    getCmd p k (setCmd p c s) = some c := by
  subst hk
  rw [getCmd, setCmd, getPair_setPair_same]
  exact find_replaced h

/-- A command is found alike in two states with the same pairs. -/
theorem getCmd_congr {p k : Nat} {s t : State} (h : t.adm = s.adm) : getCmd p k t = getCmd p k s := by
  rw [getCmd, getCmd, getPair, getPair, h]

@[simp] theorem journal_adm (r : JRec) (s : State) : (journal r s).adm = s.adm := by rw [journal_du_only]

@[simp] theorem journal_regs (r : JRec) (s : State) : (journal r s).regs = s.regs := by rw [journal_du_only]

/-- Two states with one register file journal alike. -/
theorem journaling_congr {s t : State} (h : t.regs = s.regs) : journaling t = journaling s := by
  simp only [journaling, duRole, duPair, fg_congr _ (rd_congr _ h)]

/-! ## The start of an accepted command (R287, R288, R289) -/

/-- The command that the pair of operand `p` makes of an entry. -/
def acceptedCmd (p : Nat) (e : AdmEntry) (s : State) : Cmd :=
  newCmd (cmdNo p s) (e.pos % 2 ^ admSqLog (pairOf p) s) (entryBytes e)

section
variable {op sub p : Nat} {e : AdmEntry} {s : State}

/-- The accepted command is the one of its number. -/
theorem getCmd_takenCmd (h : Accepts op sub p e s) :
    getCmd (pairOf p) (cmdNo p s) (takenCmd p e s) = some (acceptedCmd p e s) := by
  have hnone : (getPair (pairOf p) s).cmds.find? (fun c => c.id == cmdNo p s) = none :=
    List.find?_eq_none.mpr fun c hc => by simp [h.fresh c hc]
  rw [takenCmd, admAccept, getCmd_congr (journal_adm ..), getCmd, getPair_setPair_same]
  simp only [List.find?_append, hnone, Option.none_or]
  exact List.find?_cons_of_pos (by simp [newCmd, cmdNo])

theorem getCmd_runningCmd (h : Accepts op sub p e s) :
    getCmd (pairOf p) (cmdNo p s) (runningCmd p e s) = some { acceptedCmd p e s with phase := .running } :=
  getCmd_setCmd_same rfl (getCmd_takenCmd h)

theorem journaling_runningCmd : journaling (runningCmd p e s) = journaling s :=
  journaling_congr (journal_regs ..)

/-- A row whose entry is accepted starts the command. -/
theorem admRow_accepted (h : Accepts op sub p e s) :
    admRow op sub (pairOf p) e s = startCmd (pairOf p) (cmdNo p s) (takenCmd p e s) :=
  (if_pos ⟨h.active, h.opcode, h.sub, h.room, h.role⟩).trans (if_pos h.turn)

/-- The command runs where its checks pass, and finishes with the status of the first that fails otherwise. -/
theorem startCmd_accepted (h : Accepts op sub p e s) :
    startCmd (pairOf p) (cmdNo p s) (takenCmd p e s) = flushFinished (pairOf p)
      (if startCheck (pairOf p) (entryBytes e) (takenCmd p e s) = St.ok then
        runCmd (pairOf p) (cmdNo p s) (runningCmd p e s)
      else finishCmd (pairOf p) (cmdNo p s) (startCheck (pairOf p) (entryBytes e) (takenCmd p e s)) 0 0
        (runningCmd p e s)) := by
  rw [startCmd, getCmd_takenCmd h]
  rfl

/-- An admin row leaves what its command, once it runs, leaves. -/
theorem runs_of_runCmd {c : Instr} {t : State} (hexec : exec c s = done (admRow op sub (pairOf p) e s))
    (hrun : ∀ d, getCmd (pairOf p) (cmdNo p s) (runningCmd p e s) = some d → d.opcode = op →
      u (entryBytes e) 0 1 = op → d.raw = entryBytes e → runCmd (pairOf p) (cmdNo p s) (runningCmd p e s) = t) :
    Runs c op sub p e s t := by
  intro h hck
  rw [hexec, admRow_accepted h, startCmd_accepted h, if_pos hck,
    hrun _ (getCmd_runningCmd h) h.opcode h.opcode rfl]
  rfl

end

/-! ## Commands that apply at once (R298 to R300) -/

/-- A block that does not journal applies a command's effect at once. -/
theorem commit_applies {p k : Nat} {s : State} (hj : journaling s = false) : commit p k s = applyCmd p k s := by
  unfold commit applyCmd
  cases getCmd p k s <;> simp [hj]

/-- The creates, the reset of a completion queue and the settings go straight to their effect. -/
theorem runCmd_commits {p k : Nat} {c : Cmd} {s : State} (hc : getCmd p k s = some c)
    (hop : c.opcode ∈ [0x01, 0x02, 0x06, 0x07, 0x08, 0x0B, 0x0C]) : runCmd p k s = commit p k s := by
  simp only [List.mem_cons, List.not_mem_nil, or_false] at hop
  unfold runCmd
  rw [hc]
  rcases hop with h | h | h | h | h | h | h <;> simp only [h]

/-- The destroy of a completion queue first takes its scans and arming from it. -/
theorem runCmd_cqDestroy {p k : Nat} {c : Cmd} {s : State} (hc : getCmd p k s = some c) (hop : c.opcode = 0x04) :
    runCmd p k s = commit p k (cancelCq (qnum c.raw) (setCq (qnum c.raw) { getCq (qnum c.raw) s with
      state := .destroying, scan := false, rescan := false, armed := false, armPending := false } s)) := by
  unfold runCmd
  rw [hc]
  simp only [hop]

/-- A command whose work its effect is completes OK with it. -/
theorem applyCmd_completes {p k : Nat} {c : Cmd} {s : State} (hc : getCmd p k s = some c)
    (hop : c.opcode ∈ [0x01, 0x04, 0x08, 0x0B, 0x0C]) :
    applyCmd p k s = finishCmd p k St.ok 0 0 (admEffect p k c.raw c.data s) := by
  simp only [List.mem_cons, List.not_mem_nil, or_false] at hop
  unfold applyCmd
  rw [hc]
  rcases hop with h | h | h | h | h <;> simp only [h]

/-- A command that needs nothing but its effect completes OK with it in a block that does not journal. -/
theorem runCmd_completes {p k : Nat} {c : Cmd} {s : State} (hj : journaling s = false) (hc : getCmd p k s = some c)
    (hop : c.opcode ∈ [0x01, 0x08, 0x0B, 0x0C]) :
    runCmd p k s = finishCmd p k St.ok 0 0 (admEffect p k c.raw c.data s) := by
  simp only [List.mem_cons, List.not_mem_nil, or_false] at hop
  rw [runCmd_commits hc (by simp only [List.mem_cons]; omega), commit_applies hj,
    applyCmd_completes hc (by simp only [List.mem_cons]; omega)]

/-! ## The end of a completion queue's reads (R13, R271, R275) -/

/-- A read of a completion queue's slots makes no output visible and is no record. -/
theorem outOf_ofCqRead {c : Nat} {q : Purpose} (h : ofCqRead c q = true) (s : State) : outOf q s = none ∧ whoOf q = 0 := by
  unfold ofCqRead at h
  split at h
  · exact ⟨rfl, rfl⟩
  · exact ⟨rfl, rfl⟩
  · cases h

/-- What is left of an access when the reads of completion queue `c` end. -/
def endedRead (c : Nat) (q : Req) : Option Req :=
  if ofCqRead c q.purpose then (if q.isOut then some { q with purpose := .gone none 0, tail := none } else none) else some q

/-- What is left of a flip of the Duo partner. -/
def endedFlip (c : Nat) (f : Nat × Purpose) : Nat × Purpose := if ofCqRead c f.2 then (f.1, .gone none 0) else f

theorem endedRead_eq (c : Nat) (q : Req) (s : State) :
    (if (ofCqRead c q.purpose && (match q.purpose with
        | .gone _ _ => false
        | _ => true)) = true then
      (if q.isOut then some { q with purpose := .gone (outOf q.purpose s) (whoOf q.purpose), tail := none } else none)
    else some q) = endedRead c q := by
  unfold endedRead
  cases q.purpose <;> simp [ofCqRead, outOf, whoOf]

theorem endedFlip_eq (c : Nat) (f : Nat × Purpose) (s : State) :
    (if ofCqRead c f.2 then (f.1, Purpose.gone (outOf f.2 s) (whoOf f.2)) else f) = endedFlip c f := by
  unfold endedFlip
  split
  case isTrue h => rw [(outOf_ofCqRead h s).1, (outOf_ofCqRead h s).2]
  case isFalse => rfl

/-- The end of the reads changes the accesses and flips of those reads alone. -/
theorem cancelCq_eq (c : Nat) (s : State) : cancelCq c s = { s with
    host := { s.host with reqs := s.host.reqs.filterMap (endedRead c) }
    du := { s.du with flips := s.du.flips.map (endedFlip c) } } := by
  have hended (q : Req) (t : State) (hq : ofCqRead c q.purpose = true) :
      whoEnded (whoOf q.purpose) ((outOf q.purpose s).elim t (fun o => endOut o t)) = t := by
    simp [(outOf_ofCqRead hq s).1, (outOf_ofCqRead hq s).2, whoEnded]
  refine (forEach_keeps id _ (fun q hq t => hended q t ?_) _).trans ?_
  · have hmine := (List.mem_filter.mp hq).2
    simp only [Bool.and_eq_true] at hmine
    exact hmine.1.1
  · have hreqs := List.filterMap_congr (l := s.host.reqs) (g := endedRead c) fun q _ => endedRead_eq c q s
    have hflips := List.map_congr_left (l := s.du.flips) (g := endedFlip c) fun f _ => endedFlip_eq c f s
    rw [← hreqs, ← hflips]
    rfl

theorem endedRead_again {c : Nat} {q r : Req} (h : endedRead c q = some r) : endedRead c r = some r := by
  unfold endedRead at h
  split at h
  · split at h
    · cases h
      rfl
    · cases h
  · next hq =>
    cases h
    exact if_neg hq

/-- What has ended stays as it is. -/
theorem cancelCq_cancelCq (c : Nat) (s : State) : cancelCq c (cancelCq c s) = cancelCq c s := by
  have hreqs (l : List Req) : (l.filterMap (endedRead c)).filterMap (endedRead c) = l.filterMap (endedRead c) := by
    rw [List.filterMap_filterMap]
    congr 1
    funext q
    cases h : endedRead c q with
    | none => rfl
    | some r => exact endedRead_again h
  have hflips (l : List (Nat × Purpose)) : (l.map (endedFlip c)).map (endedFlip c) = l.map (endedFlip c) := by
    rw [List.map_map]
    congr 1
    funext f
    unfold endedFlip Function.comp
    split <;> simp_all [ofCqRead]
  simp only [cancelCq_eq, hreqs, hflips]

theorem cancelCq_setCq (c d : Nat) (v : Cq) (s : State) : cancelCq c (setCq d v s) = setCq d v (cancelCq c s) := by
  simp only [cancelCq_eq]
  rfl

theorem setCq_setCq_same (c : Nat) (v w : Cq) (s : State) : setCq c w (setCq c v s) = setCq c w s :=
  congrArg (fun l => { s with wq := { s.wq with cqs := l } }) (sput_sput_same ..)

/-- A destroy leaves nothing of what was written of the queue before. -/
theorem destroyCq_closed (c : Nat) (v : Cq) (s : State) : destroyCq c (cancelCq c (setCq c v s)) = destroyCq c s := by
  rw [destroyCq, destroyCq, cancelCq_cancelCq, cancelCq_setCq, setCq_setCq_same]

/-- A destroyed completion queue is gone at once in a block that does not journal. -/
theorem runCmd_cqDestroy_completes {p k : Nat} {c : Cmd} {s : State} (hj : journaling s = false)
    (hc : getCmd p k s = some c) (hop : c.opcode = 0x04) (hraw : u c.raw 0 1 = 0x04) :
    runCmd p k s = finishCmd p k St.ok 0 0 (destroyCq (qnum c.raw) s) := by
  have hclosed (v : Cq) : getCmd p k (cancelCq (qnum c.raw) (setCq (qnum c.raw) v s)) = some c := by
    rw [cancelCq_eq]
    exact hc
  have heff (t : State) : admEffect p k c.raw c.data t = destroyCq (qnum c.raw) t := by simp only [admEffect, hraw]
  rw [runCmd_cqDestroy hc hop, commit_applies (by rw [cancelCq_eq]; exact hj),
    applyCmd_completes (hclosed _) (by simp [hop]), heff, destroyCq_closed]

/-! ## What becomes of the queues (R257, R282, R298 to R300) -/

theorem getCq_setCq_other {c d : Nat} (v : Cq) (s : State) (h : d ≠ c) : getCq d (setCq c v s) = getCq d s :=
  sget_sput_other _ _ _ _ _ _ h

theorem getSq_setSq_other {q r : Nat} (v : Sq) (s : State) (h : r ≠ q) : getSq r (setSq q v s) = getSq r s :=
  sget_sput_other _ _ _ _ _ _ h

/-- The leaf of a transmit queue is made in the scheduler alone. -/
theorem makeLeaf_wq (n parent band : Nat) (s : State) : (makeLeaf n parent band s).wq = s.wq := by
  unfold makeLeaf
  dsimp only
  split <;> rfl

theorem getSq_createSq (q : Nat) (b : Bytes) (s : State) : getSq q (createSq b s) = getSq q (setSq (qnum b) { Sq.none with
    state := .active, rx := bit (u b 14 1) 0, base := u b 16 8, logSize := u b 15 1, func := u b 10 2, handle := u b 12 2
    cq := u b 24 2, hold := u b 26 2, snoop := bit (u b 14 1) 1, parent := u b 28 2, band := u b 30 1 } s) := by
  unfold createSq
  dsimp only
  split
  · rfl
  · rw [getSq, makeLeaf_wq]
    rfl

theorem getCq_cancelCq (c d : Nat) (s : State) : getCq d (cancelCq c s) = getCq d s := by
  rw [cancelCq_eq]
  rfl

/-- Member pool entry `j` as a state holds it. -/
def memberAt (j : Nat) (s : State) : Bool × Nat := sget (false, 0) s.wq.members j

/-- The entries of a POOL_SET stand in the pool from its base on. -/
theorem memberAt_poolSet (b : Bytes) {i : Nat} (s : State) (hi : i < u b 14 1) : memberAt (u b 8 4 + i) (poolSet b s) =
    (bit (u b (16 + 2 * i) 2) 15, u b (16 + 2 * i) 2 % 2 ^ 15) := by
  unfold poolSet
  generalize u b 14 1 = n at hi
  induction n with
  | zero => cases hi
  | succ n ih =>
    rw [List.range_succ, forEach, List.foldl_append, List.foldl_cons, List.foldl_nil]
    by_cases hin : i = n
    · subst hin
      exact sget_sput_same ..
    · exact (sget_sput_other _ _ _ _ _ _ (by omega)).trans (ih (by omega))

/-- CNT_PERM gives the permission to its function, or takes it, and leaves every other function's. -/
theorem mem_cntPerm (b : Bytes) (g : Nat) (s : State) : g ∈ (cntPerm b s).pc.cntPerm ↔
    (g = u b 8 2 ∧ bit (u b 10 1) 0 = true) ∨ (g ≠ u b 8 2 ∧ g ∈ s.pc.cntPerm) := by
  cases hbit : bit (u b 10 1) 0 <;> simp only [cntPerm, hbit] <;> by_cases hg : g = u b 8 2 <;> simp [hg]

/-- Settles O53: the commands by the branch their opcode takes, and the queues by what each effect writes. -/
theorem queueCommandsAndTheirQueues : Obligations.QueueCommandsAndTheirQueues := by
  refine ⟨?apply, ?cqCreate, ?silCreate, ?start, ?cqBind, ?silBind, ?sq, ?cq, ?gone, ?cqReset, ?sqReset, ?pool, ?group,
    ?perm⟩
  case apply =>
    intro p e s hj
    have hrun : journaling (runningCmd p e s) = false := journaling_runningCmd.trans hj
    refine ⟨?sqCreate, ?cqDestroy, ?reset, ?silDestroy, ?groupSet, ?poolSet⟩
    case cqDestroy =>
      exact runs_of_runCmd rfl fun d hd hop hraw hb => by
        rw [runCmd_cqDestroy_completes hrun hd hop (hb ▸ hraw), hb, okCmd]
    case reset =>
      refine runs_of_runCmd rfl fun d hd hop hraw hb => ?_
      rw [runCmd_commits hd (by simp [hop]), commit_applies hrun]
      simp only [applyCmd, hd, hop, admEffect, hraw, hb, okCmd]
    all_goals
      refine runs_of_runCmd rfl fun d hd hop hraw hb => ?_
      rw [runCmd_completes hrun hd (by simp [hop])]
      simp only [admEffect, hraw, hb, okCmd]
  case cqCreate =>
    rintro p _ e s _ hj rfl rfl
    refine runs_of_runCmd rfl fun d hd hop hraw hb => ?_
    rw [runCmd_commits hd (by simp [hop]), commit_applies (journaling_runningCmd.trans hj)]
    simp only [applyCmd, hd, hop, admEffect, hraw, hb]
  case silCreate =>
    rintro p _ e s _ hj rfl rfl
    refine runs_of_runCmd rfl fun d hd hop hraw hb => ?_
    rw [runCmd_commits hd (by simp [hop]), commit_applies (journaling_runningCmd.trans hj)]
    simp only [applyCmd, hd, hop, admEffect, hraw, hb]
  case start =>
    intro p e s
    refine ⟨?_, ?_, ?_⟩ <;>
      exact runs_of_runCmd rfl fun d hd hop hraw hb => by simp only [runCmd, hd, hop, hb]
  case cqBind =>
    rintro p e _ s _ rfl rfl
    exact runs_of_runCmd rfl fun d hd hop hraw hb => by simp only [runCmd, hd, hop, hb]
  case silBind =>
    rintro p e _ s _ rfl rfl
    exact runs_of_runCmd rfl fun d hd hop hraw hb => by simp only [runCmd, hd, hop, hb]
  case sq =>
    exact fun b s => ⟨(getSq_createSq ..).trans (getSq_setSq_same ..),
      fun q hq => (getSq_createSq ..).trans (getSq_setSq_other _ _ hq)⟩
  case cq => exact fun b s => ⟨getCq_setCq_same .., fun c hc => getCq_setCq_other _ _ hc⟩
  case gone =>
    exact fun c s => ⟨getCq_setCq_same .., fun d hd => (getCq_setCq_other _ _ hd).trans (getCq_cancelCq ..)⟩
  case cqReset =>
    intro c s
    simp only [resetCq, getCq_setCq_same, and_self]
  case sqReset =>
    intro q s
    simp only [resetSq, getSq_setSq_same, and_self]
  case pool => exact fun b i s hi => memberAt_poolSet b s hi
  case group => exact fun b s => sget_sput_same ..
  case perm => exact mem_cntPerm

end Sys2Proof.Machine
end

section
/-!
PROOFS. The commands and the ring positions of the admin pairs, which frames and links leave alone (R124, R185, R380).
-/

namespace Sys2Proof.Machine

/-- Every pair has the commands, and the position of its submission ring, that it had. -/
structure WorkKept (s t : State) : Prop where
  cmds : ∀ p, (getPair p t).cmds = (getPair p s).cmds
  sqPos : ∀ p, (getPair p t).sqPos = (getPair p s).sqPos

theorem WorkKept.of_adm {s t : State} (h : t.adm = s.adm) : WorkKept s t := by
  have hp (p : Nat) : getPair p t = getPair p s := congrArg (fun m => sget Pair.off m p) h
  exact ⟨fun p => congrArg Pair.cmds (hp p), fun p => congrArg Pair.sqPos (hp p)⟩

theorem WorkKept.refl (s : State) : WorkKept s s := .of_adm rfl

theorem WorkKept.trans {s t u : State} (h : WorkKept s t) (k : WorkKept t u) : WorkKept s u :=
  ⟨fun p => (k.cmds p).trans (h.cmds p), fun p => (k.sqPos p).trans (h.sqPos p)⟩

/-- Composition from the last step back. -/
theorem WorkKept.after {s t u : State} (k : WorkKept t u) (h : WorkKept s t) : WorkKept s u := h.trans k

/-- What follows and changes no pair. -/
theorem WorkKept.beside {s t u : State} (h : WorkKept s t) (hu : u.adm = t.adm) : WorkKept s u := h.trans (.of_adm hu)

theorem WorkKept.forEach {α : Type} {f : α → State → State} (hf : ∀ a s, WorkKept s (f a s)) (l : List α) (s : State) :
    WorkKept s (forEach l f s) := forEach_rel (R := WorkKept) .refl (fun _ _ _ => .trans) hf l s

theorem WorkKept.doIf {f : State → State} (hf : ∀ s, WorkKept s (f s)) (c : Bool) (s : State) : WorkKept s (doIf c f s) := by
  cases c
  · exact .refl s
  · exact hf s

theorem WorkKept.ite {c : Prop} [Decidable c] {s t u : State} (ht : WorkKept s t) (hu : WorkKept s u) :
    WorkKept s (if c then t else u) := by
  split
  · exact ht
  · exact hu

theorem Settling.workKept {s t : State} (h : Settling s t) : WorkKept s t :=
  ⟨fun p => by rw [h.adm p], fun p => by rw [h.adm p]⟩

theorem wr_workKept (a v : Nat) (s : State) : WorkKept s (wr a v s) := .of_adm rfl

theorem fs_workKept (a : Nat) (f : Fld) (v : Nat) (s : State) : WorkKept s (fs a f v s) := wr_workKept ..

theorem setFlag_workKept (a : Nat) (f : Fld) (s : State) : WorkKept s (setFlag a f s) := wr_workKept ..

/-! ### Counters, accesses and the records of completion queues -/

theorem bumpBy_workKept (i n : Nat) (s : State) : WorkKept s (bumpBy i n s) := by
  unfold bumpBy
  split
  · exact .refl s
  dsimp only
  split
  · exact .of_adm rfl
  · exact .after (wr_workKept ..) (.after (wr_workKept ..) (.of_adm rfl))

theorem bump_workKept (i : Nat) (s : State) : WorkKept s (bump i s) := bumpBy_workKept i 1 s

theorem occur_workKept (i : Nat) (s : State) : WorkKept s (occur i s) := by
  unfold occur
  split
  · exact .refl s
  · exact bump_workKept i s

theorem access_workKept (a : Acc) (s : State) : WorkKept s (access a s) := .of_adm rfl

theorem cqRecord_workKept (c status kind obj info : Nat) (dom : Option Nat) (s : State) :
    WorkKept s (cqRecord c status kind obj info dom s) := (cqRecord_settling ..).workKept

theorem cqScanStart_workKept (c : Nat) (s : State) : WorkKept s (cqScanStart c s) := by
  unfold cqScanStart
  dsimp only
  split
  · exact .refl s
  split
  · exact .of_adm rfl
  split
  · exact .refl s
  · exact .of_adm rfl

theorem drainBacklog_workKept (c n : Nat) (s : State) : WorkKept s (drainBacklog c n s) := by
  induction n generalizing s with
  | zero => exact .refl s
  | succ n ih =>
    unfold drainBacklog
    dsimp only
    split
    · exact .refl s
    split
    · exact .refl s
    refine .after (ih _) ?_
    split
    · refine .after (cqScanStart_workKept c _) (.after (access_workKept ..) ?_)
      split <;> exact .of_adm rfl
    · refine .after (access_workKept ..) ?_
      split <;> exact .of_adm rfl

theorem createCompletions_workKept (q n : Nat) (s : State) : WorkKept s (createCompletions q n s) := by
  induction n generalizing s with
  | zero => exact .refl s
  | succ n ih =>
    unfold createCompletions
    split
    · exact .refl s
    split
    · exact .refl s
    split
    · exact .refl s
    · exact .after (ih _) (.after (drainBacklog_workKept ..) (.of_adm rfl))

theorem finishExec_workKept (x : Nat) (b : Bytes) (s : State) : WorkKept s (finishExec x b s) := by
  unfold finishExec
  split
  · split
    · exact .refl s
    · exact .after (createCompletions_workKept ..) (.of_adm rfl)
  · exact .refl s

theorem episodeStart_workKept (c status : Nat) (s : State) : WorkKept s (episodeStart c status s) := by
  unfold episodeStart
  dsimp only
  split
  · exact .refl s
  · exact .after (cqRecord_workKept ..) (.after (setFlag_workKept ..) (.after (bump_workKept ..)
      (.of_adm rfl)))

theorem reservePlace_workKept (c : Nat) (s : State) : WorkKept s (reservePlace c s).2.2 := by
  unfold reservePlace
  dsimp only
  split
  · exact .refl s
  split
  · exact .of_adm rfl
  split
  · exact episodeStart_workKept ..
  split
  · exact .of_adm rfl
  · exact .after (episodeStart_workKept ..) (setFlag_workKept ..)

/-! ### Received frames (R169 to R173, R265) -/

theorem fcChange_workKept (p : Nat) (old s : State) : WorkKept s (fcChange p old s) := by
  unfold fcChange
  dsimp only
  split <;> exact .of_adm rfl

theorem xoffEval_workKept (p : Nat) (s : State) : WorkKept s (xoffEval p s) := by
  unfold xoffEval
  dsimp only
  split
  · exact .refl s
  · exact .after (fcChange_workKept ..) (fs_workKept ..)

theorem reap_workKept (f : Nat) (s : State) : WorkKept s (reap f s) := by
  unfold reap
  split
  · dsimp only
    split_ifs
    · exact .of_adm rfl
    · exact .of_adm rfl
    · exact .refl s
  · exact .refl s

theorem dropF_workKept (f : Nat) (s : State) : WorkKept s (dropF f s) := by
  unfold dropF
  split
  · exact .after (reap_workKept ..) (.after (xoffEval_workKept ..) (.of_adm rfl))
  · exact .refl s

theorem rxFinish_workKept (x : Nat) (s : State) : WorkKept s (rxFinish x s) := by
  unfold rxFinish
  split
  · exact .refl s
  split
  · exact .refl s
  split
  · exact .after (dropF_workKept ..) (finishExec_workKept ..)
  · exact .refl s

theorem rxAdvance_workKept (x : Nat) (s : State) : WorkKept s (rxAdvance x s) := by
  unfold rxAdvance
  split
  · exact .refl s
  split
  · exact .refl s
  split
  · exact .refl s
  · exact .after (rxFinish_workKept ..) (.after (.forEach (fun _ _ => access_workKept ..) ..) (.of_adm rfl))

theorem readTable_workKept (x : Nat) (s : State) : WorkKept s (readTable x s) := by
  unfold readTable
  split
  · exact .refl s
  · exact .after (.forEach (fun _ _ => access_workKept ..) ..) (.of_adm rfl)

theorem rxStart_workKept (q n : Nat) (s : State) : WorkKept s (rxStart q n s) := by
  induction n generalizing s with
  | zero => exact .refl s
  | succ n ih =>
    have hplace (e : Exec) (c : Nat) :
        WorkKept s (if e.placed = true then (true, e.fromPool, s) else reservePlace c s).2.2 := by
      split
      · exact .refl s
      · exact reservePlace_workKept c s
    unfold rxStart
    dsimp only
    split
    · exact .refl s
    split
    · exact .refl s
    split
    · exact .refl s
    · next e _ =>
      have hp := hplace e (getSq q s).cq
      generalize (if e.placed = true then (true, e.fromPool, s) else reservePlace (getSq q s).cq s) = r at hp ⊢
      split
      · exact hp
      · refine .after (ih _) ?_
        split
        · refine .after (readTable_workKept ..) (.trans hp ?_)
          split <;> exact .of_adm rfl
        · refine .after (rxAdvance_workKept ..) (.trans hp ?_)
          split <;> exact .of_adm rfl

theorem rxKick_workKept (q : Nat) (s : State) : WorkKept s (rxKick q s) := rxStart_workKept q _ s

theorem copyDropped_workKept (f : Nat) (s : State) : WorkKept s (copyDropped f s) := by
  unfold copyDropped
  split
  · exact bump_workKept ..
  · exact .refl s

theorem holdDrop_workKept (q f : Nat) (s : State) : WorkKept s (holdDrop q f s) := by
  have hcount (i j : Nat) (g : Fld) (t : State) (h : t.adm = s.adm) :
      WorkKept s (setFlag (loc .WQ_EVENT) g (bump i (bump j t))) :=
    .after (setFlag_workKept ..) (.after (bump_workKept ..) (.after (bump_workKept ..) (.of_adm h)))
  exact .after (dropF_workKept ..) (.after (cqRecord_workKept ..) (.after (copyDropped_workKept ..)
    (.ite (hcount _ _ _ _ rfl) (hcount _ _ _ _ rfl))))

theorem deliverTo_workKept (g f : Nat) (s : State) : WorkKept s (deliverTo g f s) := by
  unfold deliverTo
  split
  · exact .refl s
  split
  · exact .after (dropF_workKept ..) (.after (bump_workKept ..) (copyDropped_workKept ..))
  · next fr _ q _ =>
    have hkick (t : State) (h : t.adm = s.adm) : WorkKept s (rxKick q t) :=
      .after (rxKick_workKept ..) (.of_adm h)
    dsimp only
    split
    · split
      · exact .after (holdDrop_workKept ..) (hkick _ rfl)
      · exact .after (occur_workKept ..) (hkick _ rfl)
    · exact hkick _ rfl

/-! ### Frames in transmission (R353, R372, R384) -/

theorem scEvent_workKept (p i : Nat) (s : State) : WorkKept s (scEvent p i s) := wr_workKept ..

theorem forwardTo_workKept (l f : Nat) (s : State) : WorkKept s (forwardTo l f s).2 := by
  unfold forwardTo
  dsimp only
  split_ifs
  · exact .of_adm rfl
  · exact .after (dropF_workKept ..) (.after (scEvent_workKept ..) (bump_workKept ..))

theorem mirrorCopy_workKept (f : Frame) (m : Nat) (s : State) : WorkKept s (mirrorCopy f m s) := by
  have hforward (l g : Nat) (t : State) (h : t.adm = s.adm) : WorkKept s (forwardTo l g t).2 :=
    .after (forwardTo_workKept ..) (.of_adm h)
  exact .ite (bump_workKept ..) (.ite (.ite (hforward _ _ _ rfl)
    (.after (bump_workKept ..) (hforward _ _ _ rfl)))
    (.after (deliverTo_workKept ..) (.of_adm rfl)))

theorem sendMirror_workKept (g : Frame) (s : State) : WorkKept s (sendMirror g s) := by
  unfold sendMirror
  split
  · exact mirrorCopy_workKept ..
  · exact .refl s

theorem chargeNode_workKept (n : Int) (c : Nat) (s : State) : WorkKept s (chargeNode n c s) := by
  unfold chargeNode
  dsimp only
  split <;> split <;> exact .of_adm rfl

theorem adjustCharge_workKept (p f : Nat) (n : Int) (s : State) : WorkKept s (adjustCharge p f n s) := by
  unfold adjustCharge
  split
  · exact .refl s
  · next x _ =>
    have hcharge : WorkKept s (forEach x.path (chargeNode (n - x.charge)) s) :=
      .forEach (fun c t => chargeNode_workKept _ c t) ..
    exact hcharge.beside rfl

theorem returnCharge_workKept (p f : Nat) (s : State) : WorkKept s (returnCharge p f s) :=
  (adjustCharge_workKept p f 0 s).beside rfl

theorem killTx_workKept (f : Nat) (s : State) : WorkKept s (killTx f s) := by
  unfold killTx
  split
  · exact .after (dropF_workKept ..) (returnCharge_workKept ..)
  · exact .refl s

theorem forgetTx_workKept (f : Frame) (s : State) : WorkKept s (forgetTx f s) := by
  unfold forgetTx
  dsimp only
  split
  · exact .after (dropF_workKept ..) (.of_adm rfl)
  · exact .of_adm rfl

theorem endTx_workKept (f : Frame) (status : Nat) (ts : Option Nat) (s : State) : WorkKept s (endTx f status ts s) := by
  unfold endTx
  dsimp only
  split
  · exact .after (finishExec_workKept ..) (forgetTx_workKept ..)
  · exact forgetTx_workKept ..

theorem countAbove_workKept (p n : Nat) (s : State) : WorkKept s (countAbove p n s) := by
  unfold countAbove
  dsimp only
  split
  · exact bumpBy_workKept ..
  · exact .refl s

theorem lineOut_workKept (p : Nat) (k : LineKind) (b : Bytes) (s : State) : WorkKept s (lineOut p k b s) :=
  .of_adm rfl

theorem rateAdd_workKept (p : Nat) (tx : Bool) (n : Nat) (s : State) : WorkKept s (rateAdd p tx n s) :=
  .of_adm rfl

theorem setTx_workKept (p : Nat) (v : TxPort) (s : State) : WorkKept s (setTx p v s) := .of_adm rfl

theorem forgetRx_workKept (f : Nat) (s : State) : WorkKept s (forgetRx f s) := .of_adm rfl

theorem showTx_workKept (p : Nat) (s : State) : WorkKept s (showTx p s) :=
  .after (fs_workKept ..) (fs_workKept ..)

theorem flushCut_workKept (p : Nat) (s : State) : WorkKept s (flushCut p s) := by
  unfold flushCut
  dsimp only
  split
  · split <;> exact .of_adm rfl
  · exact .refl s

theorem flushMm_workKept (p : Nat) (s : State) : WorkKept s (flushMm p s) := by
  have hverify : WorkKept s (if (getTx p s).verifyDue = true then bump (cPort p 58) (lineOut p .verify [] s) else s) := by
    split
    · exact .after (bump_workKept ..) (.of_adm rfl)
    · exact .refl s
  unfold flushMm
  dsimp only
  split
  · exact .refl s
  split
  · exact .of_adm rfl
  · generalize (if (getTx p s).verifyDue = true then bump (cPort p 58) (lineOut p .verify [] s) else s) = t at hverify ⊢
    split <;> exact hverify.beside rfl

theorem idleTx_workKept (p : Nat) (s : State) : WorkKept s (idleTx p s) :=
  .after (flushMm_workKept ..) (.after (flushCut_workKept ..) (.after (showTx_workKept ..) (.of_adm rfl)))

theorem cutTx_workKept (p status : Nat) (s : State) : WorkKept s (cutTx p status s) := by
  unfold cutTx
  split
  · exact .refl s
  split
  · exact idleTx_workKept ..
  · exact .after (endTx_workKept ..) (.after (rateAdd_workKept ..) (.after (idleTx_workKept ..)
      (.after (countAbove_workKept ..) (lineOut_workKept ..))))

theorem underrun_workKept (p status : Nat) (s : State) : WorkKept s (underrun p status s) :=
  .after (cutTx_workKept ..) (.after (bump_workKept ..) (setFlag_workKept ..))

theorem cutOpened_workKept (p status : Nat) (s : State) : WorkKept s (cutOpened p status s) := by
  unfold cutOpened
  split
  · exact .refl s
  · next c _ =>
    have hcut (t : State) (h : t.adm = s.adm) :
        WorkKept s (rateAdd p true c.sent (showTx p (flushCut p t))) :=
      .after (rateAdd_workKept ..) (.after (showTx_workKept ..) (.after (flushCut_workKept ..) (.of_adm h)))
    dsimp only
    split
    · exact .after (endTx_workKept ..) (hcut _ rfl)
    · exact hcut _ rfl

theorem loseOpened_workKept (p status : Nat) (s : State) : WorkKept s (loseOpened p status s) :=
  .after (cutOpened_workKept ..) (.after (bump_workKept ..) (setFlag_workKept ..))

theorem forwardLost_workKept (f : Nat) (late : Bool) (s : State) : WorkKept s (forwardLost f late s) :=
  .forEach (fun _ _ => .ite (underrun_workKept ..) (.ite (loseOpened_workKept ..) (killTx_workKept ..))) ..

theorem forwardMore_workKept (g : Frame) (s : State) : WorkKept s (forwardMore g s) := by
  refine .forEach (fun t u => ?_) ..
  dsimp only
  split
  · exact .after (adjustCharge_workKept ..) (.of_adm rfl)
  · exact .of_adm rfl

theorem rxMore_workKept (f : Nat) (s : State) : WorkKept s (rxMore f s) := by
  have hmore (g : Frame) := forwardMore_workKept g s
  unfold rxMore
  split
  · dsimp only
    split
    · split
      · exact .after (rxAdvance_workKept ..) (hmore _)
      · exact hmore _
    · exact hmore _
  · exact .refl s

/-! ### The loss of a link (R177, R185, R380) -/

theorem dropEverywhere_workKept (f : Nat) (s : State) : WorkKept s (dropEverywhere f s) :=
  .after (dropF_workKept ..) (.after (forwardLost_workKept ..) (.of_adm rfl))

theorem endEarly_workKept (g : Frame) (status : Nat) (s : State) : WorkKept s (endEarly g status s) := by
  have hmirror (b : Bool) (h t : Frame) : WorkKept s (doIf b (sendMirror h) (setF t s)) :=
    .after (.doIf (fun _ => sendMirror_workKept ..) ..) (.of_adm rfl)
  unfold endEarly
  dsimp only
  split
  · exact .after (rxMore_workKept ..) (.after (forwardLost_workKept ..) (hmirror ..))
  · exact .after (dropEverywhere_workKept ..) (hmirror ..)

theorem countChecks_workKept (g : Frame) (code : Bool) (s : State) : WorkKept s (countChecks g code s) :=
  .after (.doIf (fun _ => bump_workKept ..) ..) (.after (.doIf (fun _ => bump_workKept ..) ..)
    (.doIf (fun _ => bump_workKept ..) ..))

theorem discardEnd_workKept (g : Frame) (s : State) : WorkKept s (discardEnd g s) :=
  .after (forgetRx_workKept ..) (.ite (bump_workKept ..) (.ite (bump_workKept ..) (.refl s)))

theorem cutFrame_workKept (f : Nat) (s : State) : WorkKept s (cutFrame f s) := by
  unfold cutFrame
  split
  · exact .refl s
  · next g _ =>
    have hrate : WorkKept s (if 64 ≤ g.len then rateAdd g.port false g.len s else s) := by
      split <;> exact .of_adm rfl
    have hcount (t : State) :
        WorkKept t (if g.len < 64 then bump (cPort g.port 2) t else countChecks g g.code (bump (cPort g.port 6) t)) := by
      split
      · exact bump_workKept ..
      · exact .after (countChecks_workKept ..) (bump_workKept ..)
    dsimp only
    generalize (if 64 ≤ g.len then rateAdd g.port false g.len s else s) = t at hrate ⊢
    refine .trans hrate ?_
    split
    · exact discardEnd_workKept ..
    split
    · exact .after (forgetRx_workKept ..) (hcount t)
    · exact .after (endEarly_workKept ..) (hcount t)

theorem pauseExpireAll_workKept (p : Nat) (s : State) : WorkKept s (pauseExpireAll p s) :=
  .after (fs_workKept ..) (.after (fs_workKept ..) (.of_adm rfl))

theorem rxLinkDown_workKept (p : Nat) (s : State) : WorkKept s (rxLinkDown p s) := by
  have hcur (c : Option Nat) (t : State) : WorkKept t (match c with
      | some f => cutFrame f t
      | none => t) := by
    split
    · exact cutFrame_workKept ..
    · exact .refl t
  have hasm (c : Option (Nat × Nat × Nat)) (t : State) : WorkKept t (match c with
      | some (f, _, _) => cutFrame f t
      | none => t) := by
    split
    · exact cutFrame_workKept ..
    · exact .refl t
  exact .after (pauseExpireAll_workKept ..) (.after (hasm _ _) (.after (hcur _ _) (.of_adm rfl)))

theorem mmDisable_workKept (p : Nat) (s : State) : WorkKept s (mmDisable p s) :=
  .after (fs_workKept ..) (.after (fs_workKept ..) (.of_adm rfl))

theorem openDown_workKept (p : Nat) (s : State) : WorkKept s (openDown p s) := by
  unfold openDown
  split
  · next c _ =>
    have hdrop (t : State) (h : t.adm = s.adm) :
        WorkKept s (rateAdd p true c.sent (setFlag (loc .MP_TX_EVENT p) F.MP_TX_EVENT_LINK_DROP t)) :=
      .after (rateAdd_workKept ..) (.after (setFlag_workKept ..) (.of_adm h))
    dsimp only
    split
    · exact .after (showTx_workKept ..) (.after (endTx_workKept ..) (hdrop _ rfl))
    · exact .after (showTx_workKept ..) (hdrop _ rfl)
  · exact .refl s

theorem txLinkDown_workKept (p : Nat) (s : State) : WorkKept s (txLinkDown p s) := by
  unfold txLinkDown
  refine .after (mmDisable_workKept ..) (.after (showTx_workKept ..)
    (.after (setTx_workKept ..) (.after (openDown_workKept ..) ?_)))
  split
  · exact .after (cutTx_workKept ..) (.after (setFlag_workKept ..) (.of_adm rfl))
  · exact .refl s

theorem txLinkUpNow_workKept (p : Nat) (s : State) : WorkKept s (txLinkUpNow p s) := setTx_workKept ..

/-- A change of a port's link, with the frames it ends, writes no other register (R124). -/
theorem linkCheck_workKept (p : Nat) (s : State) : WorkKept s (linkCheck p s) := by
  have hevent (c : Bool) (f : Fld) (t : State) : WorkKept t (doIf c (setFlag (loc .MP_PCS_EVENT p) f) t) :=
    .doIf (fun _ => setFlag_workKept ..) ..
  unfold linkCheck
  dsimp only
  split
  · exact .refl s
  split
  · exact .after (txLinkUpNow_workKept ..) (.after (hevent ..) (.of_adm rfl))
  · exact .after (txLinkDown_workKept ..) (.after (rxLinkDown_workKept ..) (.after (hevent ..)
      (.of_adm rfl)))end Sys2Proof.Machine
end

section
/-!
PROOFS. A pair that is OFF and empty, which no other pair, no link and no restart of the steward wakes (R78, R283, R461).
-/

namespace Sys2Proof.Machine

/-! ## What a change does to one pair alone -/

/-- `t` differs from `s` in no register and in no other pair than `q`. -/
structure PairOnly (q : Nat) (s t : State) : Prop where
  regs : t.regs = s.regs
  others : ∀ p, p ≠ q → getPair p t = getPair p s

section
variable {q : Nat}

theorem PairOnly.of_adm {s t : State} (hregs : t.regs = s.regs) (hadm : t.adm = s.adm) : PairOnly q s t :=
  ⟨hregs, fun p _ => congrArg (fun m => sget Pair.off m p) hadm⟩

theorem PairOnly.refl (s : State) : PairOnly q s s := .of_adm rfl rfl

theorem PairOnly.trans {s t u : State} (h : PairOnly q s t) (k : PairOnly q t u) : PairOnly q s u :=
  ⟨k.regs.trans h.regs, fun p hp => (k.others p hp).trans (h.others p hp)⟩

/-- Composition from the last step back. -/
theorem PairOnly.after {s t u : State} (k : PairOnly q t u) (h : PairOnly q s t) : PairOnly q s u := h.trans k

theorem PairOnly.ite {c : Prop} [Decidable c] {s t u : State} (ht : PairOnly q s t) (hu : PairOnly q s u) :
    PairOnly q s (if c then t else u) := by
  split
  · exact ht
  · exact hu

theorem PairOnly.forEach {α : Type} {f : α → State → State} (hf : ∀ a s, PairOnly q s (f a s)) (l : List α) (s : State) :
    PairOnly q s (forEach l f s) := forEach_rel (R := PairOnly q) .refl (fun _ _ _ => .trans) hf l s

theorem setPair_pairOnly (v : Pair) (s : State) : PairOnly q s (setPair q v s) :=
  ⟨rfl, fun _ hp => sget_sput_other _ _ _ _ _ _ hp⟩

theorem setCmd_pairOnly (c : Cmd) (s : State) : PairOnly q s (setCmd q c s) := setPair_pairOnly ..

theorem access_pairOnly (a : Acc) (s : State) : PairOnly q s (access a s) := .of_adm rfl rfl

theorem admCqScanStart_pairOnly (s : State) : PairOnly q s (admCqScanStart q s) :=
  .ite (.refl s) (.ite (setPair_pairOnly ..) (.ite (.refl s) (.after (access_pairOnly ..) (setPair_pairOnly ..))))

theorem writeCmdCpl_pairOnly (k : Nat) (s : State) : PairOnly q s (writeCmdCpl q k s) := by
  have hwrite (v : Pair) (c : Cmd) (a : Acc) : PairOnly q s (access a (setCmd q c (setPair q v s))) :=
    .after (access_pairOnly ..) (.after (setCmd_pairOnly ..) (setPair_pairOnly ..))
  unfold writeCmdCpl
  split
  · exact .refl s
  · have hdropped : PairOnly q s (dropCmd q k s) := setPair_pairOnly ..
    exact .ite (hdropped.trans (.of_adm rfl rfl))
      (.ite (.after (admCqScanStart_pairOnly ..) (hwrite ..)) (hwrite ..))

theorem writeFinished_pairOnly (n : Nat) (s : State) : PairOnly q s (writeFinished q n s) := by
  induction n generalizing s with
  | zero => exact .refl s
  | succ n ih =>
    unfold writeFinished
    split
    · exact .refl s
    · exact .after (ih _) (writeCmdCpl_pairOnly ..)

theorem finishCmd_pairOnly (k status r0 r1 : Nat) (s : State) : PairOnly q s (finishCmd q k status r0 r1 s) := by
  have hset (c : Cmd) : PairOnly q s (setCmd q c (newOut s).2) := .after (setCmd_pairOnly ..) (.of_adm rfl rfl)
  unfold finishCmd
  split
  · exact .refl s
  · exact .ite (.refl s) (.ite (.after (writeFinished_pairOnly ..) (hset _)) (hset _))

theorem admAbort_pairOnly (k : Nat) (s : State) : PairOnly q s (admAbort q k s) := by
  unfold admAbort
  split
  · exact .after (writeFinished_pairOnly ..) (.after (finishCmd_pairOnly ..) (setCmd_pairOnly ..))
  · exact .refl s

theorem admFinalNext_pairOnly (pos : Nat) (s : State) : PairOnly q s (admFinalNext q pos s) :=
  .ite (setPair_pairOnly ..) (.after (access_pairOnly ..) (setPair_pairOnly ..))

theorem admDrainMore_pairOnly (s : State) : PairOnly q s (admDrainMore q s) := by
  have haborts : PairOnly q s (forEach ((getPair q s).cmds.map (·.id)) (admAbort q) s) := .forEach admAbort_pairOnly ..
  exact .ite (.refl s) (.ite haborts (.after (admFinalNext_pairOnly ..) haborts))

end

/-! ## A pair that is OFF and empty -/

/-- The pair is OFF, at position 0, without a command. -/
structure AtRest (p : Nat) (s : State) : Prop where
  off : admState p s = 0
  sqPos : (getPair p s).sqPos = 0
  cmds : (getPair p s).cmds = []

/-- A pair that is OFF and empty in `s` is so in `t`. -/
structure RestKept (p : Nat) (s t : State) : Prop where
  atRest : AtRest p s → AtRest p t

theorem admCfg_quiet (k : Nat) : Quiet (loc .WQ_ADM_CFG k) := by
  refine quiet_of (fun hmem => ?_) fun n hn => .inl ?_
  · have hlow : ∀ b ∈ trafficRegs, b < 0xD1000 := by decide
    have hb := hlow _ hmem
    have hat : loc .WQ_ADM_CFG k = (0xD1 + k) * 4096 + 0x80 := loc_eq ..
    omega
  · have hrow : ∀ n ∈ trafficRows, 0x80 ≠ n.row.off % 4096 := by decide
    exact (loc_mod .WQ_ADM_CFG k).trans_ne (hrow n hn)

theorem admCfg_outlasts {p : Nat} (hp : p = 1 ∨ p = 2) (c : Nat) : OutlastsRest c (loc .WQ_ADM_CFG (p - 1)) := by
  apply outlastsRest_of_low
  rcases hp with rfl | rfl <;> decide

section
variable {p : Nat}

theorem RestKept.refl (s : State) : RestKept p s s := ⟨id⟩

theorem RestKept.trans {s t u : State} (h : RestKept p s t) (k : RestKept p t u) : RestKept p s u :=
  ⟨fun hs => k.atRest (h.atRest hs)⟩

/-- Composition from the last step back. -/
theorem RestKept.after {s t u : State} (k : RestKept p t u) (h : RestKept p s t) : RestKept p s u := h.trans k

theorem RestKept.forEach_mem {α : Type} {f : α → State → State} {l : List α} (hf : ∀ a ∈ l, ∀ s, RestKept p s (f a s))
    (s : State) : RestKept p s (forEach l f s) := by
  induction l generalizing s with
  | nil => exact .refl s
  | cons a l ih => exact .after (ih (fun b hb => hf b (List.mem_cons_of_mem a hb)) (f a s)) (hf a List.mem_cons_self s)

theorem RestKept.forEach {α : Type} {f : α → State → State} (hf : ∀ a s, RestKept p s (f a s)) (l : List α) (s : State) :
    RestKept p s (forEach l f s) := .forEach_mem (fun a _ => hf a) s

theorem RestKept.doIf {f : State → State} (hf : ∀ s, RestKept p s (f s)) (c : Bool) (s : State) :
    RestKept p s (doIf c f s) := by
  cases c
  · exact .refl s
  · exact hf s

theorem RestKept.ite {c : Prop} [Decidable c] {s t u : State} (ht : RestKept p s t) (hu : RestKept p s u) :
    RestKept p s (if c then t else u) := by
  split
  · exact ht
  · exact hu

/-- What keeps the state of the pair, and the commands and positions of every pair. -/
theorem RestKept.of_state {s t : State} (hst : admState p s = 0 → admState p t = 0) (hw : WorkKept s t) : RestKept p s t :=
  ⟨fun h => ⟨hst h.off, (hw.sqPos p).trans h.sqPos, (hw.cmds p).trans h.cmds⟩⟩

/-- What keeps the pair's register. -/
theorem RestKept.of_reg {s t : State} (hreg : rd (loc .WQ_ADM_CFG (p - 1)) t = rd (loc .WQ_ADM_CFG (p - 1)) s)
    (hw : WorkKept s t) : RestKept p s t := .of_state (fun h => (fg_congr _ hreg).trans h) hw

theorem RestKept.of_traffic {s t : State} (h : TrafficKept s t) (hw : WorkKept s t) : RestKept p s t :=
  .of_reg (h.regs _ (admCfg_quiet _)) hw

theorem RestKept.of_same {s t : State} (h : t.regs = s.regs ∧ t.adm = s.adm) : RestKept p s t :=
  .of_reg (rd_congr _ h.1) (.of_adm h.2)

theorem Settling.restKept {s t : State} (h : Settling s t) : RestKept p s t := .of_traffic h.trafficKept h.workKept

theorem PairOnly.restKept {q : Nat} {s t : State} (h : PairOnly q s t) (hq : p ≠ q) : RestKept p s t :=
  ⟨fun hs => ⟨(fg_congr _ (rd_congr _ h.regs)).trans hs.off, by rw [h.others p hq, hs.sqPos],
    by rw [h.others p hq, hs.cmds]⟩⟩

/-! ### Registers -/

theorem wr_restKept {a : Nat} (ha : loc .WQ_ADM_CFG (p - 1) ≠ a) (v : Nat) (s : State) : RestKept p s (wr a v s) :=
  .of_reg (rd_wr_other _ _ _ _ ha) (wr_workKept ..)

/-- A register at another offset of its page. -/
theorem row_restKept {n : RegName} (hn : n.row.off % 4096 ≠ 0x80) (k v : Nat) (s : State) :
    RestKept p s (wr (loc n k) v s) := wr_restKept (loc_ne_of_off (n := .WQ_ADM_CFG) hn.symm _ k) v s

theorem fs_restKept {n : RegName} (hn : n.row.off % 4096 ≠ 0x80) (k : Nat) (f : Fld) (v : Nat) (s : State) :
    RestKept p s (fs (loc n k) f v s) := row_restKept hn ..

theorem setFlag_restKept {n : RegName} (hn : n.row.off % 4096 ≠ 0x80) (k : Nat) (f : Fld) (s : State) :
    RestKept p s (setFlag (loc n k) f s) := row_restKept hn ..

/-- A register below the pages of the pairs. -/
theorem low_restKept {a : Nat} (ha : a < 0xD1000) (v : Nat) (s : State) : RestKept p s (wr a v s) := by
  have hat : loc .WQ_ADM_CFG (p - 1) = (0xD1 + (p - 1)) * 4096 + 0x80 := loc_eq ..
  exact wr_restKept (by omega) v s

/-- A cleared register shows OFF where it is the pair's. -/
theorem clear_restKept (a : Nat) (s : State) : RestKept p s (wr a 0 s) := by
  refine .of_state (fun h => ?_) (wr_workKept ..)
  by_cases ha : loc .WQ_ADM_CFG (p - 1) = a
  · rw [admState, ha, fg, rd_wr_same]
    rfl
  · exact (fg_wr_other _ _ _ ha).trans h

/-- A field of any register that lies beside STATE. -/
theorem beside_restKept (a : Nat) {f : Fld} (v : Nat) (s : State) (hf : f.lo ≤ f.hi) (hw : f.hi < 32)
    (hst : F.WQ_ADM_CFG_STATE.hi < f.lo ∨ f.hi < F.WQ_ADM_CFG_STATE.lo) : RestKept p s (fs a f v s) := by
  refine .of_state (fun h => ?_) (fs_workKept ..)
  by_cases ha : loc .WQ_ADM_CFG (p - 1) = a
  · subst ha
    exact (fg_fs_beside _ _ _ hf hw hst).trans h
  · exact (fg_wr_other _ _ _ ha).trans h

/-! ### Commands, accesses and links -/

theorem linkCheck_restKept (k : Nat) (s : State) : RestKept p s (linkCheck k s) :=
  .of_traffic (linkCheck_trafficKept k s) (linkCheck_workKept k s)

theorem bump_restKept (i : Nat) (s : State) : RestKept p s (bump i s) := .of_traffic (bump_trafficKept i s) (bump_workKept i s)

theorem access_restKept (a : Acc) (s : State) : RestKept p s (access a s) := .of_same ⟨rfl, rfl⟩

theorem endReqs_restKept (f : Purpose → Bool) (s : State) : RestKept p s (endReqs f s) := by
  refine .after (.forEach (fun q t => .after (whoEnded_settling ..).restKept ?_) ..) (.of_same ⟨rfl, rfl⟩)
  cases outOf q.purpose s
  · exact .refl t
  · exact .of_same ⟨rfl, rfl⟩

/-- A pair without commands has none to finish. -/
theorem finishCmd_restKept (q k status r0 r1 : Nat) (s : State) : RestKept p s (finishCmd q k status r0 r1 s) := by
  by_cases hq : p = q
  · refine ⟨fun h => ?_⟩
    have hnone : getCmd q k s = none := by rw [getCmd, ← hq, h.cmds]; rfl
    rwa [finishCmd, hnone]
  · exact (finishCmd_pairOnly ..).restKept hq

theorem finishOpt_restKept (c : Option (Nat × Nat)) (status r0 : Nat) (s : State) :
    RestKept p s (finishOpt c status r0 s) := by
  unfold finishOpt
  split
  · exact finishCmd_restKept ..
  · exact .refl s

/-! ## What the cancel of a command ends (R139, R154, R288) -/

theorem setPrate_restKept (k : Nat) (s : State) : RestKept p s (setPrate k s) := by
  refine wr_restKept (fun h => ?_) ..
  have hat : loc .WQ_ADM_CFG (p - 1) = (0xD1 + (p - 1)) * 4096 + 0x80 := loc_eq ..
  have hrate : scLoc .SC_PRATE k = (0xB0 + k / 4) * 4096 + 0x104 + 64 * (k % 4) := rfl
  omega

theorem paceClients_restKept (g pg : Nat) (f : Nat → Nat → Bool) (s : State) : RestKept p s (paceClients g pg f s) := by
  refine .forEach (fun c t => ?_) ..
  exact .ite (.ite (.after (setPrate_restKept ..) (.of_same ⟨rfl, rfl⟩)) (.refl t)) (.refl t)

theorem setGrp_restKept (g : Nat) (v : Slots) (s : State) : RestKept p s (setGrp g v s) := .of_same ⟨rfl, rfl⟩

theorem setSw_restKept (g v : Nat) (s : State) : RestKept p s (setSw g v s) := fs_restKept (by decide) ..

theorem swClear_restKept (g : Nat) (s : State) : RestKept p s (swClear g s) := setGrp_restKept ..

theorem switchEnd_restKept (g status : Nat) (s : State) : RestKept p s (switchEnd g status s) := by
  have hended (w : Slots) : RestKept p s (setGrp g w _) :=
    .after (setGrp_restKept ..) (.after (paceClients_restKept g (txPage g s) (fun a b => a != b) _)
      (.after (swClear_restKept g _) (.after (bump_restKept (cGroup g (if (status == St.ok) = true then 7 else 8)) _)
        (.after (setFlag_restKept (n := .OS_EVENT) (by decide) g
            (if (status == St.ok) = true then F.OS_EVENT_SW_DONE else F.OS_EVENT_SW_FAIL) _)
          (.after (fs_restKept (n := .OS_SW_STATE) (by decide) g F.OS_SW_STATE_LAST_STATUS status _)
            (setSw_restKept g 0 s))))))
  unfold switchEnd
  dsimp only
  split
  · exact .after (finishCmd_restKept ..) (hended _)
  · exact hended _

theorem switchCancel_restKept (g : Nat) (s : State) : RestKept p s ((switchCancel g s).getD s) := by
  unfold switchCancel
  split
  · exact switchEnd_restKept ..
  · exact .refl s

theorem rehashOp_restKept (s : State) : RestKept p s (rehashOp 3 s) :=
  .after (fs_restKept (by decide) ..) (.after (fs_restKept (by decide) ..) (.after (fs_restKept (by decide) ..)
    (.after (fs_restKept (by decide) ..) (.of_same ⟨rfl, rfl⟩))))

/-! ### Ports and islands (R122, R441) -/

theorem setRxFault_restKept (k v : Nat) (s : State) : RestKept p s (setRxFault k v s) :=
  .after (.doIf (fun _ => setFlag_restKept (by decide) ..) ..) (fs_restKept (by decide) ..)

theorem unalign_restKept (k v : Nat) (s : State) : RestKept p s (unalign k v s) :=
  .after (linkCheck_restKept ..) (.after (setRxFault_restKept ..) (.after (fs_restKept (by decide) ..)
    (fs_restKept (by decide) ..)))

theorem setLn_restKept (f : Fld) (v n : Nat) (s : State) : RestKept p s (setLn f v n s) := fs_restKept (by decide) ..

theorem applyLane_restKept (n : Nat) (s : State) : RestKept p s (applyLane n s) := .of_same ⟨rfl, rfl⟩

theorem setPcs_restKept (k v : Nat) (s : State) : RestKept p s (setPcs k v s) := fs_restKept (by decide) ..

theorem enterTrain_restKept (k : Nat) (s : State) : RestKept p s (enterTrain k s) :=
  .after (.forEach (fun _ _ => .after (setLn_restKept ..) (.after (setLn_restKept ..) (applyLane_restKept ..))) ..)
    (setPcs_restKept ..)

theorem enterAlign_restKept (k : Nat) (s : State) : RestKept p s (enterAlign k s) :=
  .after (setRxFault_restKept ..) (.after (fs_restKept (by decide) ..) (setPcs_restKept ..))

theorem bringUp_restKept (k : Nat) (s : State) : RestKept p s (bringUp k s) := by
  have hlink (l : Link) (v : Nat) : RestKept p s (fs (loc .MP_PCS_STATE k) F.MP_PCS_STATE_AN_RESULT v (setRxFault k 1
      (forEach (portPhys k s) (fun n t => setLn F.LN_STATUS_AM_LOCK 0 n (setLn F.LN_STATUS_BLOCK_LOCK 0 n t))
        (setLink k l s)))) :=
    .after (fs_restKept (by decide) ..) (.after (setRxFault_restKept ..) (.after
      (.forEach (fun _ _ => .after (setLn_restKept ..) (setLn_restKept ..)) ..) (.of_same ⟨rfl, rfl⟩)))
  exact .ite (.after (setPcs_restKept ..) (hlink ..)) (.ite (.after (enterTrain_restKept ..) (hlink ..))
    (.after (enterAlign_restKept ..) (.after (.forEach applyLane_restKept ..) (hlink ..))))

theorem portDisable_restKept (k : Nat) (s : State) : RestKept p s (portDisable k s) :=
  .ite (unalign_restKept ..) (.refl s)

theorem portEnable_restKept (k : Nat) (s : State) : RestKept p s (portEnable k s) :=
  .ite (.after (bringUp_restKept ..) (fs_restKept (by decide) ..)) (.refl s)

theorem islandLost_workKept (c : Nat) (s : State) : WorkKept s (islandLost c s) := by
  unfold islandLost
  dsimp only
  split
  · exact .after (wr_workKept ..) (.after (fs_workKept ..) (.after (fs_workKept ..) (.of_adm rfl)))
  · split <;> exact .of_adm rfl

theorem restIsland_restKept (hp : p = 1 ∨ p = 2) (c : Nat) (st : PState) (s : State) :
    RestKept p s (restIsland c st s) := by
  refine .of_reg ((restIsland_kept c st s).regs _ (admCfg_outlasts hp c)) (.ite (.of_adm rfl) ?_)
  have hput : WorkKept s (putIslands [c] st s) := .of_adm rfl
  exact .after (.doIf (islandLost_workKept c) ..) hput

/-! ### Substitutions (R139, R474) -/

theorem leaveMember_restKept (g k : Nat) (s : State) : RestKept p s (leaveMember g k s) :=
  .after (beside_restKept _ _ _ (by decide) (by decide) (by decide)) (.after (clear_restKept ..) (.of_same ⟨rfl, rfl⟩))

theorem mapLane_restKept (l n : Nat) (s : State) : RestKept p s (mapLane l n s) := .of_same ⟨rfl, rfl⟩

theorem setRole_restKept (n r : Nat) (s : State) : RestKept p s (setRole n r s) := setLn_restKept ..

/-- What a substitution has begun is undone. -/
theorem substUndone_restKept (x : Subst) (s : State) : RestKept p s
    (if x.slotted then
      if 2 ≤ x.step then leaveMember x.group x.newMember
        (if x.step = 3 then (switchCancel x.group s).getD s else s)
      else if x.step = 3 then (switchCancel x.group s).getD s else s
    else if 3 ≤ x.step then setLn F.LN_STATUS_LOGICAL 0x1F x.spare (setLn F.LN_STATUS_LOGICAL x.logical x.from_
      (doIf (x.back != 0x1F) (mapLane x.back x.spare) (mapLane x.logical x.from_ (portDisable x.port s))))
    else s) := by
  have hswitch : RestKept p s (if x.step = 3 then (switchCancel x.group s).getD s else s) :=
    .ite (switchCancel_restKept ..) (.refl s)
  refine .ite (.ite (.after (leaveMember_restKept ..) hswitch) hswitch) (.ite ?_ (.refl s))
  exact .after (setLn_restKept ..) (.after (setLn_restKept ..) (.after (.doIf (fun _ => mapLane_restKept ..) ..)
    (.after (mapLane_restKept ..) (portDisable_restKept ..))))

theorem dropSubst_restKept (fr : Nat) (s : State) : RestKept p s (dropSubst fr s) := .of_same ⟨rfl, rfl⟩

theorem svLast_restKept (kind cause outcome obj : Nat) (s : State) : RestKept p s (svLast kind cause outcome obj s) :=
  row_restKept (n := .SV_LAST) (by decide) ..

theorem linkCheckAll_restKept (s : State) : RestKept p s (linkCheckAll s) := .forEach linkCheck_restKept ..

theorem substCancel_restKept (hp : p = 1 ∨ p = 2) (fr : Nat) (s : State) :
    RestKept p s ((substCancel fr s).getD s) := by
  have hended (x : Subst) (st : PState) (t : State) : RestKept p t (linkCheckAll (portEnable x.port
      (finishOpt x.cmd St.aborted x.spare (doIf x.auto (svLast 1 x.cause outAborted (laneIsland fr))
        (wr (loc .LN_SUBST x.spare) 0 (restIsland (laneIsland x.spare) st (setRole x.spare 1 (dropSubst fr t)))))))) :=
    .after (linkCheckAll_restKept _) (.after (portEnable_restKept ..) (.after (finishOpt_restKept ..)
      (.after (.doIf (fun _ => svLast_restKept ..) ..) (.after (clear_restKept ..)
        (.after (restIsland_restKept hp ..) (.after (setRole_restKept ..) (dropSubst_restKept ..)))))))
  unfold substCancel
  split
  · exact .refl s
  · next x _ =>
    dsimp only
    split
    · exact .refl s
    · rw [Option.getD_some]
      exact .after (hended x _ _) (substUndone_restKept x s)

/-! ### The drain of the other pair, and a restart (R78, R461) -/

theorem admCancel_restKept (hp : p = 1 ∨ p = 2) (c : Cmd) (s : State) : RestKept p s (admCancel c s) := by
  unfold admCancel
  split
  · split
    · exact .ite (.refl s) (rehashOp_restKept s)
    · exact switchCancel_restKept ..
    · exact substCancel_restKept hp ..
    · exact .refl s
  · exact .refl s

theorem setAdmState_restKept {q : Nat} (hp : p = 1 ∨ p = 2) (hq : q = 1 ∨ q = 2) (hne : p ≠ q) (v : Nat) (s : State) :
    RestKept p s (setAdmState q v s) := by
  have hpat := loc_eq .WQ_ADM_CFG (p - 1)
  have hqat := loc_eq .WQ_ADM_CFG (q - 1)
  exact wr_restKept (by omega) ..

/-- A pair that is OFF does not drain, and the drain of the other pair leaves it OFF. -/
theorem admDrain_restKept {q : Nat} (hp : p = 1 ∨ p = 2) (hq : q = 1 ∨ q = 2) (s : State) :
    RestKept p s (admDrain q s) := by
  by_cases hne : p = q
  · refine ⟨fun h => ?_⟩
    rwa [admDrain, if_neg (by rw [← hne, h.off]; decide)]
  · refine .ite ?_ (.refl s)
    exact .after ((admDrainMore_pairOnly _).restKept hne) (.after (.forEach (admCancel_restKept hp) ..)
      (.after ((setPair_pairOnly ..).restKept hne) (.after (endReqs_restKept ..) (setAdmState_restKept hp hq hne ..))))

theorem drainPair_restKept {q : Nat} (hp : p = 1 ∨ p = 2) (hq : q = 1 ∨ q = 2) (s : State) :
    RestKept p s (drainPair q s) :=
  .after (admDrain_restKept hp hq _) (beside_restKept _ _ _ (by decide) (by decide) (by decide))

theorem releaseSems_restKept (s : State) : RestKept p s (releaseSems s) :=
  .forEach (fun _ t => .ite (clear_restKept ..) (.refl t)) ..

theorem btStatus_restKept (f : Fld) (v : Nat) (s : State) : RestKept p s (fs (loc .BT_STATUS) f v s) :=
  low_restKept (by decide) ..

theorem boot_restKept (v : Boot) (s : State) : RestKept p s { s with boot := v } := .of_same ⟨rfl, rfl⟩

theorem bcbRead_restKept (s : State) : RestKept p s (bcbRead s) := by
  have hlatch : RestKept p s (latchBcb s) := boot_restKept _ s
  unfold bcbRead
  dsimp only
  generalize latchBcb s = t at hlatch ⊢
  exact .after (access_restKept ..) (.after (boot_restKept _ t) hlatch)

theorem mem_stewardPairs {q : Nat} {s : State} (h : q ∈ stewardPairs s) : q = 1 ∨ q = 2 := by
  simpa using (List.mem_filter.mp h).1

/-- A restart of the steward leaves a pair OFF that is so. -/
theorem restartCheck_restKept (hp : p = 1 ∨ p = 2) (s : State) : RestKept p s (restartCheck s) := by
  have hdrained : RestKept p s (forEach (stewardPairs s) drainPair s) :=
    .forEach_mem (fun q hq => drainPair_restKept hp (mem_stewardPairs hq)) s
  have hrestarted (v : Nat) (t : State) : RestKept p t (bcbRead (fs (loc .BT_STATUS) F.BT_STATUS_GATED 1
      (fs (loc .BT_STATUS) F.BT_STATUS_TRIED 0 (setBootState 0 (setFlag (loc .BT_EVENT) F.BT_EVENT_RESTARTED
        (fs (loc .BT_STATUS) F.BT_STATUS_RESTARTS v (releaseSems t))))))) :=
    .after (bcbRead_restKept _) (.after (btStatus_restKept ..) (.after (btStatus_restKept ..)
      (.after (btStatus_restKept ..) (.after (setFlag_restKept (by decide) ..) (.after (btStatus_restKept ..)
        (releaseSems_restKept t))))))
  unfold restartCheck
  dsimp only
  split
  · exact .refl s
  split
  · exact .after (hrestarted _ _) (hdrained.trans (.of_same ⟨rfl, rfl⟩))
  · exact hdrained

end

end Sys2Proof.Machine
end

section
/-!
PROOFS. The admin pairs from ENABLE to OFF, and the abort sequence of a queue (O55).
-/

namespace Sys2Proof.Machine

/-! ## The words written to WQ_ADM_CFG (R283) -/

/-- The fields of a pair lie below STATE. -/
theorem admFields_mod (v : Nat) : admFields (v % 2 ^ 28) = admFields v := by
  refine Nat.eq_of_testBit_eq fun i => ?_
  simp only [admFields, Nat.testBit_and, Nat.testBit_mod_two_pow]
  by_cases hi : i < 28
  · simp [hi]
  · have hmask : (0x0FFF0FFF : Nat).testBit i = false :=
      Nat.testBit_lt_two_pow ((by decide : 0x0FFF0FFF < 2 ^ 28).trans_le (Nat.pow_le_pow_right (by decide) (by omega)))
    rw [hmask, Bool.and_false, Bool.and_false]

theorem admFields_congr {v w : Nat} (h : v % 2 ^ 28 = w % 2 ^ 28) : admFields v = admFields w := by
  rw [← admFields_mod v, h, admFields_mod]

/-- The word of a write with ENABLE = 1. -/
theorem enableWord (d : Nat) : bit (d % 2 ^ 31 + 2 ^ 31) 31 = true ∧ admFields (d % 2 ^ 31 + 2 ^ 31) = admFields d := by
  refine ⟨?_, admFields_congr (by omega)⟩
  simp [bit]

/-- The word of a write with ENABLE = 0. -/
theorem drainWord (d : Nat) : bit (d % 2 ^ 31) 31 = false ∧ admFields (d % 2 ^ 31) = admFields d := by
  refine ⟨?_, admFields_congr (by omega)⟩
  simp [bit]

/-! ## A write of WQ_ADM_CFG (R283, R296) -/

/-- A pair is as it was set whatever its STATE becomes. -/
theorem getPair_setAdmState_setPair (p v : Nat) (k : Pair) (s : State) :
    getPair p (setAdmState p v (setPair p k s)) = k :=
  (congrArg (fun m => sget Pair.off m p) (fs_adm ..)).trans (getPair_setPair_same ..)

theorem admState_setAdmState (p : Nat) {v : Nat} (s : State) (hv : v < 8) : admState p (setAdmState p v s) = v :=
  (fg_fs_same _ _ _ (by decide) (by decide)).trans (Nat.mod_eq_of_lt hv)

/-- The pair as an ENABLE opens it. -/
def pairOpened (p word : Nat) (s : State) : State :=
  let s1 := wr (loc .WQ_ADM_CFG (p - 1)) word s
  setAdmState p 1 (setPair p { Pair.off with nextCmd := (getPair p s).nextCmd }
    { s1 with host := { s1.host with bypassFixed := true } })

section
variable {p d : Nat} {s : State}

/-- An ENABLE of a pair that is OFF opens it and reads its credits. -/
theorem writeAdmCfg_enable (hen : bit d 31 = true) (hst : admState p s = 0) (hsq : admSqBase p s % 512 = 0)
    (hcq : admCqBase p s % 512 = 0) :
    writeAdmCfg p d s = some (admCqScanStart p (pairOpened p (2 ^ 31 + admFields d) s)) := by
  simp [writeAdmCfg, pairOpened, hen, hst, hsq, hcq, b2n]

/-- A pair that drains cannot be enabled. -/
theorem writeAdmCfg_draining (hen : bit d 31 = true) (hst : admState p s = 3) : writeAdmCfg p d s = none :=
  if_pos (.inr ⟨hen, .inl hst⟩)

/-- The fields of a pair that is not OFF do not change. -/
theorem writeAdmCfg_fields (hst : admState p s ≠ 0) (hf : admFields d ≠ admFields (rd (loc .WQ_ADM_CFG (p - 1)) s)) :
    writeAdmCfg p d s = none := if_pos (.inl ⟨hst, hf.symm⟩)

/-- An ENABLE of a pair that is enabled writes the register alone. -/
theorem writeAdmCfg_again (hen : bit d 31 = true) (hst : admState p s = 1)
    (hf : admFields d = admFields (rd (loc .WQ_ADM_CFG (p - 1)) s)) (hsq : admSqBase p s % 512 = 0)
    (hcq : admCqBase p s % 512 = 0) :
    writeAdmCfg p d s = some (wr (loc .WQ_ADM_CFG (p - 1)) (2 ^ 31 + 2 ^ 28 + admFields d) s) := by
  simp [writeAdmCfg, hen, hst, hf.symm, hsq, hcq, b2n]

/-- A write with ENABLE = 0 drains the pair. -/
theorem writeAdmCfg_drain (hen : bit d 31 = false) (hf : admFields d = admFields (rd (loc .WQ_ADM_CFG (p - 1)) s)) :
    writeAdmCfg p d s = some (admDrain p (wr (loc .WQ_ADM_CFG (p - 1)) (admState p s * 2 ^ 28 + admFields d) s)) := by
  simp [writeAdmCfg, hen, hf.symm, b2n]

end

/-- The pair's positions and commands, and the setting of host memory bypass, are as before. -/
structure PlaceKept (p : Nat) (s t : State) : Prop where
  sqPos : (getPair p t).sqPos = (getPair p s).sqPos
  cqProd : (getPair p t).cqProd = (getPair p s).cqProd
  cmds : (getPair p t).cmds = (getPair p s).cmds
  bypassFixed : t.host.bypassFixed = s.host.bypassFixed

theorem access_placeKept (p : Nat) (a : Acc) (s : State) : PlaceKept p s (access a s) := ⟨rfl, rfl, rfl, rfl⟩

theorem admCqScanRead_placeKept (p : Nat) (s : State) : PlaceKept p s (admCqScanRead p s) := access_placeKept ..

theorem PlaceKept.after {p : Nat} {s t u : State} (k : PlaceKept p t u) (h : PlaceKept p s t) : PlaceKept p s u :=
  ⟨k.sqPos.trans h.sqPos, k.cqProd.trans h.cqProd, k.cmds.trans h.cmds, k.bypassFixed.trans h.bypassFixed⟩

/-- A scan for credits moves no position and no command. -/
theorem admCqScanStart_placeKept (p : Nat) (s : State) : PlaceKept p s (admCqScanStart p s) := by
  have hscan (a b : Bool) : PlaceKept p s (setPair p { getPair p s with cqScan := a, cqRescan := b } s) :=
    ⟨by rw [getPair_setPair_same], by rw [getPair_setPair_same], by rw [getPair_setPair_same], rfl⟩
  unfold admCqScanStart
  dsimp only
  split_ifs
  · exact ⟨rfl, rfl, rfl, rfl⟩
  · exact hscan (getPair p s).cqScan true
  · exact ⟨rfl, rfl, rfl, rfl⟩
  · exact .after (admCqScanRead_placeKept ..) (hscan true (getPair p s).cqRescan)

/-- An opened pair is ENABLED at position 0, without a command, and host memory bypass is fixed. -/
theorem pairOpened_fields (p word : Nat) (s : State) : admState p (pairOpened p word s) = 1 ∧
    (getPair p (pairOpened p word s)).sqPos = 0 ∧ (getPair p (pairOpened p word s)).cqProd = 0 ∧
    (getPair p (pairOpened p word s)).cmds = [] ∧ (pairOpened p word s).host.bypassFixed = true := by
  have hpair : getPair p (pairOpened p word s) = { Pair.off with nextCmd := (getPair p s).nextCmd } :=
    getPair_setAdmState_setPair ..
  rw [hpair]
  refine ⟨admState_setAdmState p _ (by decide), rfl, rfl, rfl, ?_⟩
  exact congrArg HostSt.bypassFixed (fs_host ..)

theorem admState_admCqScanStart (p q : Nat) (s : State) : admState q (admCqScanStart p s) = admState q s :=
  fg_congr _ (rd_congr _ (admCqScanStart_commandOnly ..).regs)

/-! ## The writes of a master's row -/

theorem pairOf_pred {p : Nat} (hp : p < 2) : pairOf p - 1 = p := by
  rw [pairOf]
  omega

theorem exec_adminPairEnable (m : Master) {p : Nat} (d : W32) (s : State) (hp : p < 2) :
    exec (.adminPairEnable m p d) s = done (ctlWrite m (loc .WQ_ADM_CFG p) (d.toNat % 2 ^ 31 + 2 ^ 31)
      (writeAdmCfg (pairOf p) (d.toNat % 2 ^ 31 + 2 ^ 31)) s) := by
  calc exec (.adminPairEnable m p d) s = execAdminPairEnable m p d s := rfl
    _ = _ := by rw [execAdminPairEnable, Nat.mod_eq_of_lt hp]

theorem exec_adminPairDrain (m : Master) {p : Nat} (d : W32) (s : State) (hp : p < 2) :
    exec (.adminPairDrain m p d) s = done (ctlWrite m (loc .WQ_ADM_CFG p) (d.toNat % 2 ^ 31)
      (writeAdmCfg (pairOf p) (d.toNat % 2 ^ 31)) s) := by
  calc exec (.adminPairDrain m p d) s = execAdminPairDrain m p d s := rfl
    _ = _ := by rw [execAdminPairDrain, Nat.mod_eq_of_lt hp]

theorem exec_adminSqDoorbell (m : Master) {p : Nat} (s : State) (hp : p < 2) : exec (.adminSqDoorbell m p) s =
    done (ctlWrite m (loc .WQ_ADM_DB p) 1 (fun t => some (writeAdmDb (pairOf p) 1 t)) s) := by
  calc exec (.adminSqDoorbell m p) s = execAdminSqDoorbell m p s := rfl
    _ = _ := by rw [execAdminSqDoorbell, Nat.mod_eq_of_lt hp]

theorem exec_adminCqDoorbell (m : Master) {p : Nat} (s : State) (hp : p < 2) : exec (.adminCqDoorbell m p) s =
    done (ctlWrite m (loc .WQ_ADM_DB p) 2 (fun t => some (writeAdmDb (pairOf p) 2 t)) s) := by
  calc exec (.adminCqDoorbell m p) s = execAdminCqDoorbell m p s := rfl
    _ = _ := by rw [execAdminCqDoorbell, Nat.mod_eq_of_lt hp]

/-- A row whose write the register refuses answers ACCESS, reason STATE. -/
theorem exec_refused {c : Instr} {m : Master} {a d : Nat} {eff : State → Option State} {s : State}
    (hc : exec c s = done (ctlWrite m a d eff s)) (hopen : WriteOpen m a d s) (heff : eff s = none) :
    exec c s = .next (refusedWrite m a 7 s) := by
  rw [hc, ctlWrite_refused hopen heff]
  rfl

/-! ## The next command, and the completions of those that have finished (R285 to R288) -/

/-- The command that starts waits, and those before it permit it. -/
theorem nextStart_some {p : Nat} {c : Cmd} {s : State} (h : nextStart p s = some c) :
    c ∈ (getPair p s).cmds ∧ c.phase = .waiting ∧
    (∀ d, d ∈ (getPair p s).cmds → d.id < c.id → d.phase = .running → immediate d.opcode = false) ∧
    (c.serial = true → ∀ d, d ∈ (getPair p s).cmds → d.id < c.id → d.phase = .releasing) := by
  unfold nextStart at h
  dsimp only at h
  split at h
  · cases h
  · next e he =>
    split at h
    · cases h
    · next hfree =>
      cases h
      simp only [Bool.or_eq_true, Bool.and_eq_true, List.any_eq_true, List.mem_filter, decide_eq_true_eq, not_or,
        not_and, not_exists, and_imp] at hfree
      obtain ⟨hturn, hserial⟩ := hfree
      refine ⟨List.mem_of_find?_eq_some he, ?_, fun d hd hlt hrun => ?_, fun hs d hd hlt => ?_⟩
      · simpa using List.find?_some he
      · have := hturn d hd hlt
        simpa [Cmd.active, hrun] using this
      · have := hserial hs d hd hlt
        simpa [Cmd.inFlight] using this

/-- Where none is next, none has finished. -/
theorem nextFinished_none {cs : List Cmd} (h : nextFinished cs = none) (c : Cmd) (hc : c ∈ cs) : c.phase ≠ .finished := by
  induction cs with
  | nil => cases hc
  | cons x cs ih =>
    unfold nextFinished at h
    split at h
    · next hn =>
      split at h
      · cases h
      · next hx =>
        rcases List.mem_cons.mp hc with rfl | hc
        · exact hx
        · exact ih hn hc
    · split at h <;> cases h

section
variable {p : Nat} {s : State}

theorem flushFinished_none (h : nextFinished (getPair p s).cmds = none) : flushFinished p s = s := by
  unfold flushFinished
  cases (getPair p s).cmds.length with
  | zero => rfl
  | succ n => rw [writeFinished, h]

theorem longComplete_none (h : nextFinished (getPair p s).cmds = none) : longComplete p s = s := by
  have hks : (getPair p s).cmds.filter (fun c => c.phase == .finished) = [] :=
    List.filter_eq_nil_iff.mpr fun c hc => by simpa using nextFinished_none h c hc
  rw [longComplete, hks, flushFinished_none h]
  rfl

/-- A completion that is written leaves its command in the pair until the write is done. -/
theorem getCmd_writeCmdCpl {k : Nat} {c : Cmd} (hc : getCmd p k s = some c) (hk : c.id = k)
    (hs : admSilent p s = false) : getCmd p k (writeCmdCpl p k s) = some { c with phase := .writing } := by
  have hset (v : Pair) (hv : v.cmds = (getPair p s).cmds) (a : Acc) :
      getCmd p k (access a (setCmd p { c with phase := .writing } (setPair p v s))) = some { c with phase := .writing } := by
    rw [getCmd_congr (t := access a _) rfl]
    refine getCmd_setCmd_same (d := c) hk ?_
    rwa [getCmd, getPair_setPair_same, hv]
  unfold writeCmdCpl
  rw [hc]
  dsimp only
  rw [if_neg (by simp [hs])]
  split
  · rw [getCmd, (admCqScanStart_placeKept ..).cmds]
    exact hset _ (by rfl) _
  · exact hset _ (by rfl) _

/-- One command that has finished: its completion is written. -/
theorem longComplete_one {c : Cmd} (h : (getPair p s).cmds = [c]) (hf : c.phase = .finished)
    (hs : admSilent p s = false) : longComplete p s = writeCmdCpl p c.id s := by
  have hget : getCmd p c.id s = some c := by simp [getCmd, h]
  have hflush : flushFinished p s = writeCmdCpl p c.id s := by
    simp [flushFinished, h, writeFinished, nextFinished, hf]
  have hfin : ((getPair p s).cmds.filter (fun c => c.phase == .finished)).map (·.id) = [c.id] := by simp [h, hf]
  rw [longComplete, hfin, hflush]
  refine if_neg ?_
  simp [getCmd_writeCmdCpl hget rfl hs]

/-! ## The end of a drain (R283) -/

/-- A pair whose last completion is written, with no command, goes to OFF. -/
theorem admDrainDone_atRest (hst : admState p s = 3) (hdone : (getPair p s).finalDone = true)
    (hcmds : (getPair p s).cmds = []) : AtRest p (admDrainDone p s) := by
  have hflush : flushFinished p s = s := flushFinished_none (by rw [hcmds]; rfl)
  have hmore : admDrainMore p s = s := by
    unfold admDrainMore
    simp [hcmds, hdone, forEach]
  have hdrained : admDrained p s = true := by simp [admDrained, hst, hdone, hcmds]
  have hoff (v : Pair) (t : State) (hpos : v.sqPos = 0) (hnone : v.cmds = []) :
      AtRest p (setAdmState p 0 (setPair p v t)) := by
    have hpair := getPair_setAdmState_setPair p 0 v t
    exact ⟨admState_setAdmState p _ (by decide), hpair.symm ▸ hpos, hpair.symm ▸ hnone⟩
  rw [admDrainDone, hflush, hmore]
  dsimp only
  rw [if_pos hdrained]
  exact (fs_restKept (n := .WQ_ADM_ERR) (by decide) ..).atRest (hoff _ _ rfl rfl)

/-- A drain that is not done waits. -/
theorem admDrainDone_waits (hmore : admDrainMore p s = s) (hdrained : admDrained p s = false)
    (hfin : nextFinished (getPair p s).cmds = none) : admDrainDone p s = s := by
  rw [admDrainDone, flushFinished_none hfin, hmore]
  exact if_neg (by simp [hdrained])

theorem restartCheck_none (h : s.boot.restart = false) : restartCheck s = s := if_pos (.inl h)

end

/-! ## The abort sequence of a queue (R280, R281) -/

section
variable {q : Nat} {s : State}

theorem exec_abortSequenceDone (s : State) (hq : q < 32768) :
    exec (.abortSequenceDone q) s = .next (settle (abortCheck q s)) := by
  calc exec (.abortSequenceDone q) s = done (abortCheck (q % 32768) s) := rfl
    _ = _ := by rw [Nat.mod_eq_of_lt hq]; rfl

/-- An abort that has nothing left hands its command on. -/
theorem abortCheck_done (h : abortDone q (abortOnStop q s) = true) :
    abortCheck q s = commit (getSq q (abortOnStop q s)).cmd.1 (getSq q (abortOnStop q s)).cmd.2
      (setSq q { getSq q (abortOnStop q s) with finalDone := false } (abortOnStop q s)) := if_pos h

theorem abortCheck_waits (h : abortDone q (abortOnStop q s) = false) : abortCheck q s = abortOnStop q s :=
  if_neg (by simp [h])

theorem abortOnStop_active (h : (getCq (getSq q s).cq s).state = .active) : abortOnStop q s = s :=
  if_neg fun hstop => hstop.2 h

end

/-- Settles O55: the writes by the branch of the register they take, and the end of a drain by what leaves a pair OFF. -/
theorem adminPairs : Obligations.AdminPairs := by
  refine ⟨?enable, ?enableDraining, ?enableAgain, ?fieldsChange, ?drain, ?sqDoorbell, ?cqDoorbell, ?start, ?startNone,
    ?startOrder, ?longNone, ?longOne, ?drainDone, ?drainWaits, ?drainOther, ?abort, ?abortWaits, ?abortStopped⟩
  case enable =>
    intro m p d s hp hst hsq hcq hopen
    obtain ⟨hen, -⟩ := enableWord d.toNat
    obtain ⟨hon, hpos, hprod, hcmds, hfixed⟩ := pairOpened_fields (pairOf p)
      (2 ^ 31 + admFields (d.toNat % 2 ^ 31 + 2 ^ 31)) s
    obtain ⟨kpos, kprod, kcmds, kfixed⟩ := admCqScanStart_placeKept (pairOf p)
      (pairOpened (pairOf p) (2 ^ 31 + admFields (d.toNat % 2 ^ 31 + 2 ^ 31)) s)
    exact ⟨_, writes_of_ctlWrite (exec_adminPairEnable m d s hp) (writeAdmCfg_enable hen hst hsq hcq) hopen,
      (admState_admCqScanStart ..).trans hon, kpos.trans hpos, kprod.trans hprod, kcmds.trans hcmds, kfixed.trans hfixed⟩
  case enableDraining =>
    intro m p d s hp hst hopen
    exact exec_refused (exec_adminPairEnable m d s hp) hopen (writeAdmCfg_draining (enableWord _).1 hst)
  case enableAgain =>
    intro m p d s hp hst hf hsq hcq
    obtain ⟨hen, hword⟩ := enableWord d.toNat
    have hw := writeAdmCfg_again (p := pairOf p) hen hst (by rw [hword, pairOf_pred hp]; exact hf) hsq hcq
    rw [hword, pairOf_pred hp] at hw
    exact writes_of_ctlWrite (exec_adminPairEnable m d s hp) hw
  case fieldsChange =>
    rintro m p _ d s hp rfl hst hf hopen
    refine exec_refused (exec_adminPairDrain m d s hp) hopen (writeAdmCfg_fields hst ?_)
    rw [(drainWord _).2, pairOf_pred hp]
    exact hf
  case drain =>
    rintro m p _ d s hp rfl - hf
    obtain ⟨hen, hword⟩ := drainWord d.toNat
    have hw := writeAdmCfg_drain (p := pairOf p) (s := s) hen (by rw [hword, pairOf_pred hp]; exact hf)
    rw [hword, pairOf_pred hp] at hw
    exact writes_of_ctlWrite (exec_adminPairDrain m d s hp) hw
  case sqDoorbell => exact fun m p s hp => writes_of_ctlWrite (exec_adminSqDoorbell m s hp) rfl
  case cqDoorbell =>
    intro m p s hp hst
    exact writes_of_ctlWrite (exec_adminCqDoorbell m s hp) (congrArg some (if_pos hst))
  case start =>
    intro p c s hst hnext
    refine done_eq (t := startCmd (pairOf p) c.id s) ?_
    rw [admStart, if_pos hst, hnext]
  case startNone =>
    intro p s hnext
    refine done_eq ?_
    rw [admStart, hnext]
    exact ite_self _
  case startOrder => exact fun p c s h => nextStart_some h
  case longNone => exact fun p s h => done_eq (longComplete_none h)
  case longOne => exact fun p c s h hf hs => done_eq (longComplete_one h hf hs)
  case drainDone =>
    intro p s hp hst hdone hcmds
    have hpair : pairOf p = 1 ∨ pairOf p = 2 := by
      rw [pairOf]
      omega
    have hrest := (restartCheck_restKept hpair _).atRest (admDrainDone_atRest hst hdone hcmds)
    obtain ⟨hoff, hpos, hnone⟩ := (settle_settling _).restKept.atRest hrest
    exact ⟨_, rfl, hoff, hpos, hnone⟩
  case drainWaits =>
    intro p c s hst hc hphase hfin hrestart
    have hbusy : (getPair (pairOf p) s).cmds.any (fun c => c.phase != .waiting) = true :=
      List.any_eq_true.mpr ⟨c, hc, by simpa using hphase⟩
    have hnot : admDrained (pairOf p) s = false := by
      simp [admDrained, List.ne_nil_of_mem hc]
    refine done_eq ?_
    rw [admDrainDone_waits (if_pos (.inr (.inr hbusy))) hnot hfin, restartCheck_none hrestart]
  case drainOther =>
    intro p s hst hfin hrestart
    refine done_eq ?_
    rw [admDrainDone_waits (if_pos (.inl hst)) (by simp [admDrained, hst]) hfin, restartCheck_none hrestart]
  case abort =>
    intro q s hq hcq hdone
    rw [exec_abortSequenceDone s hq, abortCheck_done (by rwa [abortOnStop_active hcq]), abortOnStop_active hcq]
  case abortWaits =>
    intro q s hq hcq hdone
    rw [exec_abortSequenceDone s hq, abortCheck_waits (by rwa [abortOnStop_active hcq]), abortOnStop_active hcq]
  case abortStopped =>
    intro q s t hq hstate hcq ht
    have hstop : abortOnStop q s = t := ht ▸ if_pos ⟨hstate, hcq⟩
    rw [exec_abortSequenceDone s hq]
    refine ⟨fun hdone => ?_, fun hdone => ?_⟩
    · rw [abortCheck_done (by rwa [hstop]), hstop]
    · rw [abortCheck_waits (by rwa [hstop]), hstop]

end Sys2Proof.Machine
end

section
/-!
PROOFS. The admin commands that fail a check (O52), and the table, shaper, spare, page, profile, dump, power and Duo commands
that pass their checks (O54).
-/

namespace Sys2Proof.Machine

/-! ## Failed checks (R289) -/

/-- Each admin command is the row of its opcode and operation. -/
theorem exec_admRows {r : Nat × Nat × (Nat → AdmEntry → Instr)} (hr : r ∈ admRows) (p : Nat) (e : AdmEntry) (s : State) :
    exec (r.2.2 p e) s = done (admRow r.1 r.2.1 (pairOf p) e s) := by
  fin_cases hr <;> rfl

/-- Settles O52: the row accepts and starts its entry, and the start takes the branch of the failed check. -/
theorem failedChecksHaveNoEffect : Obligations.FailedChecksHaveNoEffect := by
  intro r p e st s hr hst hacc hck
  rw [exec_admRows hr, admRow_accepted hacc, startCmd_accepted hacc, hck, if_neg hst]
  rfl

/-! ## Settings (R303, R304, R311) -/

section
variable {p k : Nat} {c : Cmd} {s : State}

/-- METER_SET, SHAPER_SET and DUMP_CFG complete OK with their effect in a block that does not journal. -/
theorem runCmd_setting (hj : journaling s = false) (hc : getCmd p k s = some c) (hop : c.opcode ∈ [0x14, 0x20, 0x40]) :
    runCmd p k s = finishCmd p k St.ok 0 0 (admEffect p k c.raw c.data s) := by
  simp only [List.mem_cons, List.not_mem_nil, or_false] at hop
  have hcommit : runCmd p k s = commit p k s := by
    unfold runCmd
    rw [hc]
    rcases hop with h | h | h <;> simp only [h]
  rw [hcommit, commit_applies hj, applyCmd, hc]
  rcases hop with h | h | h <;> simp only [h]

/-- A GATE_SET without a calendar completes OK with its effect in a block that does not journal (R305). -/
theorem runCmd_gateRemove (hj : journaling s = false) (hc : getCmd p k s = some c) (hop : c.opcode = 0x21)
    (hraw : u c.raw 0 1 = 0x21) (hoff : bit (u c.raw 10 1) 0 = false) :
    runCmd p k s = finishCmd p k St.ok 0 0 (gateRemove (u c.raw 8 1) s) := by
  have hcommit : runCmd p k s = commit p k s := by simp [runCmd, hc, hop, hoff]
  rw [hcommit, commit_applies hj]
  simp [applyCmd, hc, hop, hoff, admEffect, hraw]

/-! ## Parkable commands (R302, R306, R307) -/

/-- START of a parkable command goes on as `parkStart` says. -/
theorem runCmd_parkStart (hc : getCmd p k s = some c) (hop : c.opcode ∈ [0x13, 0x30, 0x31]) (hsub : parkOp c.raw = 0) :
    runCmd p k s = parkStart p k c.raw s := by
  simp only [List.mem_cons, List.not_mem_nil, or_false] at hop
  unfold runCmd
  rw [hc]
  rcases hop with h | h | h <;> simp only [h, hsub, ↓reduceIte]

/-- PARK, RESUME and CANCEL complete OK with their effect. -/
theorem runCmd_parkEffect (hc : getCmd p k s = some c) (hop : c.opcode ∈ [0x13, 0x30, 0x31]) (hsub : parkOp c.raw ≠ 0) :
    runCmd p k s = finishCmd p k St.ok 0 0 (parkEffect c.raw s) := by
  simp only [List.mem_cons, List.not_mem_nil, or_false] at hop
  unfold runCmd
  rw [hc]
  rcases hop with h | h | h <;> simp only [h, hsub, ↓reduceIte]

end

section
variable {op sub p : Nat} {e : AdmEntry} {i : Instr} {s t : State}

/-- A parkable command with START leaves what its start leaves. -/
theorem runs_of_parkStart (hexec : exec i s = done (admRow op 0 (pairOf p) e s)) (hop : op ∈ [0x13, 0x30, 0x31])
    (hstart : u (entryBytes e) 0 1 = op → parkStart (pairOf p) (cmdNo p s) (entryBytes e) (runningCmd p e s) = t) :
    Runs i op 0 p e s t := fun hacc =>
  runs_of_runCmd hexec (fun d hd hdop hraw hb => by
    rw [runCmd_parkStart hd (hdop ▸ hop) (hb ▸ hacc.sub), hb, hstart hraw]) hacc

/-- A parkable command with another operation completes OK with its effect. -/
theorem runs_of_parkEffect (hexec : exec i s = done (admRow op sub (pairOf p) e s)) (hop : op ∈ [0x13, 0x30, 0x31])
    (hsub : sub ≠ 0) (heffect : u (entryBytes e) 0 1 = op → parkOp (entryBytes e) = sub →
      parkEffect (entryBytes e) (runningCmd p e s) = t) : Runs i op sub p e s (okCmd p s t) := fun hacc =>
  runs_of_runCmd hexec (fun d hd hdop hraw hb => by
    rw [runCmd_parkEffect hd (hdop ▸ hop) (by rw [hb, hacc.sub]; exact hsub), hb, heffect hraw hacc.sub, okCmd]) hacc

end

/-! ## The end of LOAD_PROFILE (R108, R109) -/

/-- `t` differs from `s` in registers alone. -/
def RegsOnly (s t : State) : Prop := t = { s with regs := t.regs }

theorem RegsOnly.trans {s t v : State} (h : RegsOnly s t) (k : RegsOnly t v) : RegsOnly s v :=
  Eq.trans k (congrArg (fun x : State => { x with regs := v.regs }) h)

theorem RegsOnly.forEach {α : Type} {f : α → State → State} (hf : ∀ a s, RegsOnly s (f a s)) (l : List α) (s : State) :
    RegsOnly s (forEach l f s) := forEach_rel (R := RegsOnly) (fun _ => rfl) (fun _ _ _ => .trans) hf l s

theorem fs_regsOnly (a : Nat) (f : Fld) (v : Nat) (s : State) : RegsOnly s (fs a f v s) := rfl

/-- A port that has lost its slots in group `g` is no client of it any more. -/
def dropClient (o n : Bytes) (g q : Nat) (s : State) : State :=
  if portShape o q = portShape n q ∨ wantSlots n g q ≠ 0 then s
  else match clientOf g q s with
    | some c => wr (loc .OS_CLIENT g c) 0 s
    | none => s

theorem dropClient_regsOnly (o n : Bytes) (g q : Nat) (s : State) : RegsOnly s (dropClient o n g q s) := by
  unfold dropClient
  split
  · rfl
  · cases clientOf g q s <;> rfl

/-- The groups that keep their members from profile `o` to profile `n`. -/
def keptGroups (o n : Bytes) : List Nat := (List.range 16).filter (fun g => !reforms o n g)

theorem mem_keptGroups {o n : Bytes} {g : Nat} : g ∈ keptGroups o n ↔ g < 16 ∧ reforms o n g = false := by
  simp [keptGroups]

/-- The block without the clients that have lost their slots. -/
def clientsDropped (o n : Bytes) (s : State) : State :=
  forEach (keptGroups o n) (fun g t => forEach (List.range 64) (dropClient o n g) t) s

theorem clientsDropped_regsOnly (o n : Bytes) (s : State) : RegsOnly s (clientsDropped o n s) :=
  .forEach (fun g => .forEach (dropClient_regsOnly o n g) _) _ s

/-- No profile is being loaded any more. -/
def loadEnded (s : State) : State := { s with prof := { s.prof with next := none } }

theorem RegsOnly.loadEnded {s t : State} (h : RegsOnly s t) : RegsOnly (loadEnded s) (loadEnded t) :=
  congrArg Machine.loadEnded h

/-- The block once a profile has been loaded, before the command finishes. -/
def profileLoaded (o n : Bytes) (s : State) : State :=
  loadEnded (clientsDropped o n s)
    |> fs (loc .GL_PROFILE) F.GL_PROFILE_LOADING 0
    |> fs (loc .GL_PROFILE) F.GL_PROFILE_ACTIVE (u n 2 1)

theorem profileLoaded_regsOnly (o n : Bytes) (s : State) : RegsOnly (loadEnded s) (profileLoaded o n s) :=
  (clientsDropped_regsOnly o n s).loadEnded.trans ((fs_regsOnly ..).trans (fs_regsOnly ..))

theorem profileLoaded_prof (o n : Bytes) (s : State) : (profileLoaded o n s).prof = { s.prof with next := none } :=
  congrArg State.prof (profileLoaded_regsOnly o n s)

theorem profileLoaded_rest (o n : Bytes) (s : State) :
    profileLoaded o n s = { s with regs := (profileLoaded o n s).regs, prof := (profileLoaded o n s).prof } := by
  rw [profileLoaded_prof]
  exact profileLoaded_regsOnly o n s

/-- LOADING falls; ACTIVE is a field beside it. -/
theorem profileLoaded_loading (o n : Bytes) (s : State) :
    fb (loc .GL_PROFILE) F.GL_PROFILE_LOADING (profileLoaded o n s) = false := by
  rw [fb, profileLoaded, fg_fs_beside _ _ _ (by decide) (by decide) (by decide)]
  exact fb_fs_clear _ _ (by decide) (by decide)

theorem loadDone_idle {s : State} (h : s.prof.next = none) : loadDone s = s := by rw [loadDone, h]

section
variable {o : Bytes} {p k : Nat} {s : State}

theorem loadDone_eq (h : s.prof.next = some (o, p, k)) : loadDone s =
    if (keptGroups o s.prof.cur).all (fun g => groupSettled o s.prof.cur g s) = true then
      finishCmd p k St.ok 0 0 (profileLoaded o s.prof.cur s)
    else forEach (keptGroups o s.prof.cur) (loadSwitch o s.prof.cur) s := by
  rw [loadDone, h]
  rfl

/-- The load completes once every group that is kept has its slots. -/
theorem loadDone_completes (h : s.prof.next = some (o, p, k))
    (hall : ∀ g, g < 16 → reforms o s.prof.cur g = false → groupSettled o s.prof.cur g s = true) :
    loadDone s = finishCmd p k St.ok 0 0 (profileLoaded o s.prof.cur s) := by
  rw [loadDone_eq h, if_pos]
  refine List.all_eq_true.mpr fun g hg => ?_
  obtain ⟨hlt, hkept⟩ := mem_keptGroups.mp hg
  exact hall g hlt hkept

/-- A kept group without its slots has the page switches start that are still needed. -/
theorem loadDone_switches {g : Nat} (h : s.prof.next = some (o, p, k)) (hlt : g < 16)
    (hkept : reforms o s.prof.cur g = false) (hopen : groupSettled o s.prof.cur g s = false) :
    loadDone s = forEach (keptGroups o s.prof.cur) (loadSwitch o s.prof.cur) s := by
  rw [loadDone_eq h, if_neg]
  intro hall
  exact Bool.false_ne_true (hopen.symm.trans (List.all_eq_true.mp hall g (mem_keptGroups.mpr ⟨hlt, hkept⟩)))

end

/-- Settles O54: the commands by the branch of their opcode and operation, and the end of a load by its groups. -/
theorem tableShaperAndBlockCommands : Obligations.TableShaperAndBlockCommands := by
  refine ⟨?change, ?badKey, ?rehashStart, ?rehash, ?records, ?gateSet, ?gateRemove, ?switchStart, ?switchPark,
    ?switchResume, ?switchCancel, ?substNamed, ?substFound, ?substPark, ?substResume, ?substCancel, ?engine, ?block,
    ?dumpCfg, ?loadIdle, ?loadDone, ?loadOpen⟩
  case change =>
    intro p e s hkey
    refine ⟨?_, ?_, ?_⟩ <;>
      exact runs_of_runCmd rfl fun d hd hop hraw hb => by simp [runCmd, hd, hop, hb, hkey]
  case badKey =>
    intro p e s hkey
    refine ⟨?_, ?_, ?_⟩ <;>
      exact runs_of_runCmd rfl fun d hd hop hraw hb => by simp [runCmd, hd, hop, hb, hkey]
  case rehashStart =>
    intro p e s t ht
    exact runs_of_parkStart rfl (by simp) fun hraw => by simp only [parkStart, hraw, ht, Option.getD_some]
  case rehash =>
    intro p e s
    refine ⟨?_, ?_, ?_⟩ <;>
      exact runs_of_parkEffect rfl (by simp) (by decide) fun hraw hsub => by simp only [parkEffect, hraw, hsub]
  case records =>
    intro p e s hj
    refine ⟨?_, ?_⟩ <;>
      exact runs_of_runCmd rfl fun d hd hop hraw hb => by
        rw [runCmd_setting (journaling_runningCmd.trans hj) hd (by simp [hop])]
        simp only [admEffect, hraw, hb, okCmd]
  case gateSet =>
    intro p e s hon
    exact runs_of_runCmd rfl fun d hd hop hraw hb => by simp only [runCmd, hd, hop, hb, hon, ↓reduceIte]
  case gateRemove =>
    intro p e s hoff hj
    exact runs_of_runCmd rfl fun d hd hop hraw hb => by
      rw [runCmd_gateRemove (journaling_runningCmd.trans hj) hd hop (hb ▸ hraw) (hb ▸ hoff), hb, okCmd]
  case switchStart =>
    intro p e s t ht
    exact runs_of_parkStart rfl (by simp) fun hraw => by simp only [parkStart, hraw, ht, Option.getD_some]
  case switchPark | switchResume | switchCancel | substPark | substResume | substCancel =>
    intro p e s t ht
    exact runs_of_parkEffect rfl (by simp) (by decide) fun hraw hsub => by
      simp only [parkEffect, hraw, hsub, ht, Option.getD_some]
  case substNamed =>
    intro p e s hnamed
    exact runs_of_parkStart rfl (by simp) fun hraw => by simp only [parkStart, hraw, hnamed, ↓reduceIte]
  case substFound =>
    intro p n e s hany hfound
    exact runs_of_parkStart rfl (by simp) fun hraw => by
      simp only [parkStart, hraw, hany, hfound, ↓reduceIte, Option.getD_some]
  case engine =>
    intro p e s t ht
    exact runs_of_runCmd rfl fun d hd hop hraw hb => by simp only [runCmd, hd, hop, hb, ht, Option.getD_some]
  case block =>
    intro p e s
    refine ⟨?_, ?_, ?_, ?_, ?_, ?_, ?_, ?_⟩ <;>
      exact runs_of_runCmd rfl fun d hd hop hraw hb => by simp only [runCmd, hd, hop, hb, okCmd]
  case dumpCfg =>
    rintro p e s _ hj rfl
    exact runs_of_runCmd rfl fun d hd hop hraw hb => by
      rw [runCmd_setting (journaling_runningCmd.trans hj) hd (by simp [hop])]
      simp only [admEffect, hraw, hb, okCmd]
  case loadIdle => exact fun s h => done_eq (loadDone_idle h)
  case loadDone =>
    intro o p k s h hall
    exact ⟨profileLoaded o s.prof.cur s, done_eq (loadDone_completes h hall), profileLoaded_prof .., profileLoaded_loading ..,
      profileLoaded_rest ..⟩
  case loadOpen => exact fun o p k g s h hlt hkept hopen => done_eq (loadDone_switches h hlt hkept hopen)

end Sys2Proof.Machine
end

section
/-!
PROOFS. A step and a tick of block time (O1, O2, O6), and the rollback count (O41).
-/

namespace Sys2Proof.Machine

/-! ## Steps -/

/-- Settles O1. -/
theorem stepRunsFrontCommand : Obligations.StepRunsFrontCommand := step_front

/-- Settles O6: a step is a tick or a command, and every command ends by settling. -/
theorem everyStepCompletes : Obligations.EveryStepCompletes := by
  have hexec : ∀ (c : Instr) (s : State), ∃ t, exec c s = .next t := fun c s =>
    let ⟨e, he⟩ := exec_settles c s
    ⟨settle e, he⟩
  refine ⟨fun s => ?_, hexec⟩
  cases hp : s.pending with
  | nil => exact ⟨_, step_empty s hp⟩
  | cons c q => rw [step_front c q s hp]; exact hexec c _

/-! ## Ticks (R406 to R411) -/

theorem tick_stopped {s : State} (h : timeRuns s = false) : tick s = s := if_pos h

/-- A running tick advances both clocks by the tick and the slew's part of it, which the slew loses. -/
theorem tick_running {s : State} {part : Int} (h : timeRuns s = true)
    (hpart : part = min (slewPart s : Int) s.tb.slew.natAbs * s.tb.slew.sign) :
    tick s = { s with tb := { advance (tickNum s + part) s.tb with slew := s.tb.slew - part, cycle := s.tb.cycle + 1 } } := by
  subst hpart
  simp [tick, h]

/-- An advance that does not go back adds its amount to the refill clock and the remainder it keeps. -/
theorem advance_refill {n : Int} (t : Tb) (hn : 0 ≤ n) :
    ((advance n t).refill * tickDen + (advance n t).rem : Int) = t.refill * tickDen + t.rem + n := by
  have hquot : 0 ≤ ((t.rem : Int) + n) / (tickDen : Int) := Int.ediv_nonneg (by omega) (by decide)
  have hrem : 0 ≤ ((t.rem : Int) + n) % (tickDen : Int) := Int.emod_nonneg _ (by decide)
  have hsum := Int.mul_ediv_add_emod ((t.rem : Int) + n) (tickDen : Int)
  simp only [advance]
  rw [Int.toNat_of_nonneg (by omega), Int.toNat_of_nonneg hrem, Int.add_mul, Int.mul_comm (_ / _)]
  omega

/-- Block time advances with the refill clock, modulo its wrap. -/
theorem advance_time {n : Int} (t : Tb) (hn : 0 ≤ n) :
    (advance n t).time = (t.time + ((advance n t).refill - t.refill)) % timeMod := by
  have hquot : 0 ≤ ((t.rem : Int) + n) / (tickDen : Int) := Int.ediv_nonneg (by omega) (by decide)
  obtain ⟨d, hd⟩ := Int.eq_ofNat_of_zero_le hquot
  have hrefill : (advance n t).refill = t.refill + d := by
    simp only [advance, hd]
    exact Int.toNat_natCast _
  have htime : (advance n t).time = (t.time + d) % timeMod := by
    simp only [advance, moveTime, hd]
    exact Int.toNat_natCast _
  rw [htime, hrefill, Nat.add_sub_cancel_left]

/-- Settles O2: the step is a tick, which stands still or advances both clocks. -/
theorem stepTicksWhenIdle : Obligations.StepTicksWhenIdle := by
  refine ⟨?tick, ?slew, ?awake, ?asleep⟩
  case tick =>
    intro s hp
    refine ⟨tick s, step_empty s hp, tick_tb_only s, fun hstop => by rw [tick_stopped hstop], fun hrun hslew => ?_⟩
    rw [tick_running (part := 0) hrun (by simp [hslew])]
    have hn : 0 ≤ (tickNum s + 0 : Int) := by omega
    have href := advance_refill s.tb hn
    refine ⟨?_, advance_time s.tb hn, by simp [hslew]⟩
    push_cast at href ⊢
    exact_mod_cast href
  case slew =>
    intro part s hp hrun hpart hn
    refine ⟨tick s, step_empty s hp, ?_⟩
    rw [tick_running hrun hpart]
    exact ⟨rfl, (advance_refill s.tb hn).trans (Int.add_assoc ..).symm⟩
  case awake =>
    intro s hf ha
    simp [tickNum, hf, ha, s32, tickDen]
  case asleep =>
    intro s hf ha
    simp [tickNum, hf, ha, s32, tickDen]

/-! ## The rollback count (R464) -/

/-- The run of 1 bits from bit 0, in at most `n` bits: its bits are 1, and the bit after it is 0 where the run ends early. -/
theorem onesFrom_run (n v : Nat) : (∀ i, i < onesFrom n v → bit v i = true) ∧ onesFrom n v ≤ n ∧
    (onesFrom n v < n → bit v (onesFrom n v) = false) := by
  induction n generalizing v with
  | zero => exact ⟨fun _ h => absurd h (Nat.not_lt_zero _), Nat.le_refl 0, fun h => absurd h (Nat.lt_irrefl 0)⟩
  | succ n ih =>
    have hshift : ∀ i, bit v (i + 1) = bit (v / 2) i := fun i => by
      rw [bit, bit, Nat.pow_succ', Nat.div_div_eq_div_mul]
    by_cases hodd : v % 2 = 1
    · obtain ⟨hones, hle, hzero⟩ := ih (v / 2)
      rw [onesFrom, if_pos hodd, Nat.add_comm 1]
      refine ⟨fun i hi => ?_, by omega, fun h => by rw [hshift, hzero (by omega)]⟩
      cases i with
      | zero => simp [bit, hodd]
      | succ i => rw [hshift, hones i (by omega)]
    · rw [onesFrom, if_neg hodd]
      exact ⟨fun _ h => absurd h (Nat.not_lt_zero _), Nat.zero_le _, fun _ => by simp [bit, hodd]⟩

/-- Settles O41. -/
theorem rollbackCount : Obligations.RollbackCount := fun s => onesFrom_run 64 (rollbackFuse s)

end Sys2Proof.Machine
end

section
/-!
PROOFS. Accord dumps: the header read, the latch, and PARK, RESUME and CANCEL (O13).
-/

namespace Sys2Proof.Machine

/-! ## The latch (R420) -/

/-- What adding to each element named once does: an element that is named gains the amount, every other stays. -/
theorem sget_foldl_add (n i : Nat) (l : List Nat) (hl : l.Nodup) (m : Smap Nat) :
    sget 0 (l.foldl (fun m k => sput 0 m k (sget 0 m k + n)) m) i = sget 0 m i + b2n (l.contains i) * n := by
  induction l generalizing m with
  | nil => simp [b2n]
  | cons k l ih =>
    obtain ⟨hk, hl⟩ := List.nodup_cons.mp hl
    rw [List.foldl_cons, ih hl]
    by_cases hi : i = k
    · subst hi
      simp [sget_sput_same, hk, b2n]
    · rw [sget_sput_other _ _ _ _ _ _ hi]
      simp [hi]

/-- A latched counter carries its WRAP bit in bit 48. -/
theorem sget_latchCounters (i : Nat) (s : State) :
    sget 0 (latchCounters s) i = sget 0 s.pc.val i + b2n (s.pc.wrap.contains i) * 2 ^ 48 := by
  rw [latchCounters, sget_foldl_add _ _ _ (List.nodup_dedup _)]
  simp

/-! ## What a dump keeps of its latch -/

theorem setDump_dump (d : Dump) (s : State) : (setDump d s).pc.dump = d := rfl

theorem dumpPlan_off {t : Nat} {s : State} (h : s.pc.dump.enable = false) : dumpPlan t s = s := if_neg (by simp [h])

theorem dumpPlan_on {t : Nat} {s : State} (h : s.pc.dump.enable = true) : dumpPlan t s =
    setDump { s.pc.dump with nextT := nextMultiple s.pc.dump.period s.tb.time t } s := if_pos h

theorem dumpPlan_shadow (t : Nat) (s : State) : (dumpPlan t s).pc.dump.shadow = s.pc.dump.shadow := by
  cases h : s.pc.dump.enable with
  | false => rw [dumpPlan_off h]
  | true => rw [dumpPlan_on h, setDump_dump]

theorem dumpNext_shadow (s : State) : (dumpNext s).pc.dump.shadow = s.pc.dump.shadow := by
  simp only [dumpNext]
  split
  · rfl
  split
  · rfl
  split <;> rfl

theorem dumpTake_shadow (t : Nat) (stepped : Bool) (s : State) :
    (dumpTake t stepped s).pc.dump.shadow = latchCounters s := by
  unfold dumpTake doIf
  split
  · exact dumpPlan_shadow ..
  · rfl

theorem dumpWrite_shadow (s : State) : (dumpWrite s).pc.dump.shadow = s.pc.dump.shadow := dumpNext_shadow _

/-- The dump unit is none of what the end of a command changes. -/
theorem dump_settle (s : State) : (settle s).pc.dump = s.pc.dump := by rw [(settle_settling s).pc]

/-! ## Commands (R421 to R426) -/

theorem dumpHeaderRead_begins {s : State} (hen : s.pc.dump.enable = true) (hidle : s.pc.dump.phase = .idle)
    (hcore : (isl 2 s).st = .run) (hrole : duRole s ≠ 2) : dumpHeaderRead s = dumpBegin 0 s.pc.dump.nextT s := by
  simp [dumpHeaderRead, dumpRuns, hen, hidle, hcore, hrole]

theorem dumpLatch_pending {s : State} (h : s.pc.dump.phase = .latchPending) :
    dumpLatch s = dumpWrite (dumpTake s.pc.dump.latchT false s) := by simp [dumpLatch, h]

theorem writeDumpCtrl_park {s : State} (hlive : s.pc.dump.phase = .writing) (hpark : s.pc.dump.parkPark = false)
    (hst : s.pc.dump.status = 0) : writeDumpCtrl (2 ^ 31) s = some (setDump { s.pc.dump with parkPark := true } s) := by
  simp only [writeDumpCtrl]
  rw [if_pos (by decide), if_pos ⟨.inl hlive, hpark, hst⟩]
  rfl

theorem writeDumpCtrl_resume {s : State} (hpark : s.pc.dump.parkPark = true) :
    writeDumpCtrl (2 ^ 30) s = some (dumpNext (setDump { s.pc.dump with parkPark := false } s)) := by
  simp only [writeDumpCtrl]
  rw [if_neg (by decide), Option.bind_some, if_pos (by decide), if_pos hpark]
  rfl

theorem writeDumpCtrl_cancel {s : State} (hlive : s.pc.dump.phase = .writing) (hst : s.pc.dump.status = 0)
    (hfault : s.pc.dump.parkFault = false) :
    writeDumpCtrl (2 ^ 29) s = some (dumpNext (setDump { s.pc.dump with status := St.aborted } s)) := by
  simp only [writeDumpCtrl]
  rw [if_neg (by decide), Option.bind_some, if_neg (by decide), Option.bind_some, if_pos (by decide),
    if_pos ⟨.inl hlive, hst⟩, if_neg (by simp [hfault])]

/-- Settles O13. -/
theorem counterDumps : Obligations.CounterDumps := by
  refine ⟨?header, ?latch, ?shadow, ?park, ?resume, ?cancel⟩
  case header => exact fun s hen hidle hcore hrole => done_eq (dumpHeaderRead_begins hen hidle hcore hrole)
  case latch => exact fun s h => done_eq (dumpLatch_pending h)
  case shadow =>
    intro s h
    refine ⟨_, done_eq (dumpLatch_pending h), fun i => ?_⟩
    rw [dump_settle, dumpWrite_shadow, dumpTake_shadow, sget_latchCounters]
  case park => exact fun m s hlive hpark hst => writes_of_ctlWrite rfl (writeDumpCtrl_park hlive hpark hst)
  case resume => exact fun m s _ hpark => writes_of_ctlWrite rfl (writeDumpCtrl_resume hpark)
  case cancel => exact fun m s hlive hst hfault => writes_of_ctlWrite rfl (writeDumpCtrl_cancel hlive hst hfault)

end Sys2Proof.Machine
end

section
/-!
PROOFS. The pulse per second, the time of day, the reference, steps and slews of block time, and its snapshot (O11).
-/

namespace Sys2Proof.Machine

/-! ## What the dump unit leaves of block time -/

/-- Block time, its set-up and its flags stay. -/
structure TimeKept (s t : State) : Prop where
  tb : t.tb = s.tb
  cfg : rd (loc .TB_CFG) t = rd (loc .TB_CFG) s
  event : rd (loc .TB_EVENT) t = rd (loc .TB_EVENT) s

theorem TimeKept.refl (s : State) : TimeKept s s := ⟨rfl, rfl, rfl⟩

theorem TimeKept.trans {s t u : State} (h : TimeKept s t) (k : TimeKept t u) : TimeKept s u :=
  ⟨k.tb.trans h.tb, k.cfg.trans h.cfg, k.event.trans h.event⟩

/-- Composition from the last step back. -/
theorem TimeKept.after {s t u : State} (k : TimeKept t u) (h : TimeKept s t) : TimeKept s u := h.trans k

theorem TimeKept.doIf {f : State → State} (hf : ∀ s, TimeKept s (f s)) (c : Bool) (s : State) : TimeKept s (doIf c f s) := by
  cases c with
  | false => exact .refl s
  | true => exact hf s

theorem TimeKept.ite {c : Prop} [Decidable c] {s t u : State} (ht : TimeKept s t) (hu : TimeKept s u) :
    TimeKept s (if c then t else u) := by
  split
  · exact ht
  · exact hu

theorem Settling.timeKept {s t : State} (h : Settling s t) : TimeKept s t :=
  ⟨h.tb, h.regs _ (by decide), h.regs _ (by decide)⟩

theorem setDump_timeKept (d : Dump) (s : State) : TimeKept s (setDump d s) := ⟨rfl, rfl, rfl⟩

theorem dumpPlan_timeKept (t : Nat) (s : State) : TimeKept s (dumpPlan t s) := by
  cases h : s.pc.dump.enable with
  | false => rw [dumpPlan_off h]; exact .refl s
  | true => rw [dumpPlan_on h]; exact setDump_timeKept ..

theorem dumpSkip_timeKept (s : State) : TimeKept s (dumpSkip s) :=
  (setDump_timeKept ..).trans (((bump_settling ..).trans (pcEvent_settling ..)).timeKept)

theorem dumpTake_timeKept (t : Nat) (stepped : Bool) (s : State) : TimeKept s (dumpTake t stepped s) :=
  (setDump_timeKept ..).trans (.doIf (dumpPlan_timeKept t) ..)

theorem dumpClose_timeKept (s : State) : TimeKept s (dumpClose s) :=
  (newOut_settling s).timeKept.trans ((setDump_timeKept ..).trans (access_settling ..).timeKept)

theorem dumpNext_timeKept (s : State) : TimeKept s (dumpNext s) :=
  .ite (.refl s) (.ite (dumpClose_timeKept s) (.ite (setDump_timeKept ..)
    ((newOut_settling s).timeKept.trans ((setDump_timeKept ..).trans (access_settling ..).timeKept))))

theorem dumpWrite_timeKept (s : State) : TimeKept s (dumpWrite s) := (setDump_timeKept ..).trans (dumpNext_timeKept _)

theorem dumpReadHeader_timeKept (s : State) : TimeKept s (dumpReadHeader s) := (ownRead_settling ..).timeKept

theorem dumpReplan_timeKept (first : Nat) (s : State) : TimeKept s (dumpReplan first s) :=
  .ite (.refl s) ((dumpPlan_timeKept 0 s).trans (.doIf dumpSkip_timeKept ..))

/-- A step of block time concerns the dump unit alone. -/
theorem dumpStep_timeKept (s : State) : TimeKept s (dumpStep s) := by
  unfold dumpStep
  extract_lets d now periodic latch defer
  have hperiodic (t : State) : TimeKept t (periodic t) :=
    .ite ((dumpSkip_timeKept t).trans (dumpReplan_timeKept ..)) (dumpReplan_timeKept ..)
  have hlatch (t : State) : TimeKept t (latch t) := by
    refine (dumpTake_timeKept now true t).trans ?_
    simp only [latch]
    split
    · exact hperiodic _
    · exact dumpReplan_timeKept ..
  have hdefer (t : State) : TimeKept t (defer t) := (dumpReplan_timeKept now t).trans (setDump_timeKept ..)
  refine .ite (dumpPlan_timeKept 0 s) ?_
  split
  case h_1 => exact .ite ((hlatch s).trans (dumpWrite_timeKept _)) (.ite (hdefer s) (hperiodic s))
  case h_2 => exact .ite ((hlatch s).trans (setDump_timeKept ..)) (.ite (hdefer s) (hperiodic s))
  case h_3 =>
    exact .ite ((setDump_timeKept ..).trans ((hlatch _).trans ((setDump_timeKept ..).trans (dumpReadHeader_timeKept _))))
      (hperiodic s)
  case h_4 => exact hperiodic s

/-! ## Pulses, the time of day and the reference (R77, R410) -/

theorem ppsIn_unarmed {s : State} (h : fb (loc .TB_CFG) F.TB_CFG_TOD_ARM s = false) : ppsIn s =
    setFlag (loc .TB_EVENT) F.TB_EVENT_PPS_IN (putTime .TB_PPS_CAP (time96 s.tb.time) s) := if_neg (by simp [h])

theorem putTime_tb (n : RegName) (v : Nat) (s : State) : (putTime n v s).tb = s.tb :=
  forEach_keeps (f := fun i t => wr (loc n 0 i) ((timeWords v).getD i 0) t) (·.tb) _ (fun _ _ _ => rfl) s

/-- What an armed edge leaves of `c` before the dump unit sees the new time: block time `b`, and the flags (R410). -/
def timeLoaded (b : Tb) (c : State) : State :=
  setFlag (loc .TB_EVENT) F.TB_EVENT_TOD_LOADED (fs (loc .TB_CFG) F.TB_CFG_TOD_ARM 0
    { setFlag (loc .TB_EVENT) F.TB_EVENT_PPS_IN c with tb := b })

theorem timeLoaded_tb (b : Tb) (c : State) : (timeLoaded b c).tb = b := rfl

theorem timeLoaded_flags (b : Tb) (c : State) :
    fb (loc .TB_CFG) F.TB_CFG_TOD_ARM (timeLoaded b c) = false ∧
    fb (loc .TB_EVENT) F.TB_EVENT_TOD_LOADED (timeLoaded b c) = true ∧
    fb (loc .TB_EVENT) F.TB_EVENT_PPS_IN (timeLoaded b c) = true := by
  refine ⟨?_, fb_setFlag_same _ _ (by decide) (by decide), fb_setFlag_keeps _ (by decide) (by decide) ?_⟩
  · rw [timeLoaded, fb_congr _ (rd_setFlag_other _ _ _ _ (by decide)), fb, fg_fs_same _ _ _ (by decide) (by decide)]
    rfl
  · rw [fb_congr _ (rd_fs_other _ _ _ _ _ (by decide))]
    exact fb_setFlag_same (loc .TB_EVENT) c (by decide) (by decide)

/-- An armed edge loads the staged time of day. -/
theorem ppsIn_armed {s : State} (h : fb (loc .TB_CFG) F.TB_CFG_TOD_ARM s = true) : ppsIn s =
    dumpStep (timeLoaded { s.tb with time := fromTime96 s.tb.tod } (putTime .TB_PPS_CAP (time96 s.tb.time) s)) := by
  have htb : (setFlag (loc .TB_EVENT) F.TB_EVENT_PPS_IN (putTime .TB_PPS_CAP (time96 s.tb.time) s)).tb = s.tb := by
    rw [setFlag, setFlags, wr_tb, putTime_tb]
  simp only [ppsIn, htb, h, if_true, timeLoaded]

theorem todShift_eq (b : Bool) (s : State) : todShift b s = putTime .TB_TOD_STAGE
    ((2 * s.tb.tod + b2n b) % 2 ^ 96) { s with tb := { s.tb with tod := (2 * s.tb.tod + b2n b) % 2 ^ 96 } } := by
  rw [Nat.mul_comm 2, todShift]

theorem refPhase_sampled (v : Nat) {s : State} (h : fg (loc .TB_CFG) F.TB_CFG_REF_SEL s ∈ [1, 2]) :
    refPhase v s = wr (loc .TB_REF_PHASE) v s := if_pos (by simpa using h)

theorem refLoss_shown {s : State} (h : fg (loc .TB_CFG) F.TB_CFG_REF_SEL s ≠ 0) :
    refLoss s = setFlag (loc .TB_EVENT) F.TB_EVENT_REF_LOSS s := if_neg h

theorem ppsMissing_shown {s : State} (h : fb (loc .TB_CFG) F.TB_CFG_TOD_ARM s = true) :
    ppsMissing s = setFlag (loc .TB_EVENT) F.TB_EVENT_PPS_MISSING s := if_pos h

/-! ## Steps and slews (R408, R409) -/

theorem slewDone_absorbed {s : State} (hbusy : fb (loc .TB_ADJ) F.TB_ADJ_BUSY s = true) (hslew : s.tb.slew = 0) :
    slewDone s = setFlag (loc .TB_EVENT) F.TB_EVENT_ADJ_DONE (fs (loc .TB_ADJ) F.TB_ADJ_BUSY 0 s) :=
  if_pos (by simp [slewing, hbusy, hslew])

theorem slewDone_open {s : State} (h : s.tb.slew ≠ 0) : slewDone s = s := if_neg (by simp [h])

/-- A register word read as a signed number. -/
theorem s32_toNat (d : W32) : s32 d.toNat = d.toInt := by
  rw [s32, BitVec.toInt_eq_toNat_cond]
  split <;> split <;> omega

theorem amount_ne_zero {d : W32} (h : d ≠ 0) : s32 d.toNat * 2 ^ 40 ≠ 0 := by
  have hd : d.toInt ≠ 0 := fun h0 => h (BitVec.eq_of_toInt_eq h0)
  rw [s32_toNat]
  omega

theorem writePhase_step {d : W32} {s : State} (hbusy : fb (loc .TB_ADJ) F.TB_ADJ_BUSY s = false)
    (hmode : fg (loc .TB_ADJ) F.TB_ADJ_MODE s = 0) (hd : d ≠ 0) : writePhase d.toNat s =
    some (dumpStep (setFlag (loc .TB_EVENT) F.TB_EVENT_ADJ_DONE
      { s with tb := { s.tb with time := moveTime s.tb.time (d.toInt * 2 ^ 40) } })) := by
  have hn := amount_ne_zero hd
  simp only [writePhase, slewing, hbusy, hmode]
  rw [if_neg Bool.false_ne_true, if_neg (fun h => absurd h.1 (by decide)), if_neg hn, s32_toNat]

theorem writePhase_slew {d : W32} {s : State} (hbusy : fb (loc .TB_ADJ) F.TB_ADJ_BUSY s = false)
    (hmode : fg (loc .TB_ADJ) F.TB_ADJ_MODE s = 1) (hd : d ≠ 0) : writePhase d.toNat s =
    some (fs (loc .TB_ADJ) F.TB_ADJ_BUSY 1 { s with tb := { s.tb with slew := d.toInt * 2 ^ 40 * tickDen } }) := by
  have hn := amount_ne_zero hd
  simp only [writePhase, slewing, hbusy, hmode]
  rw [if_neg Bool.false_ne_true, if_pos ⟨trivial, hn⟩, s32_toNat]

/-! ## The snapshot (R412) -/

theorem timeWords_first (v : Nat) : (timeWords v).getD 0 0 = v / 2 ^ 16 % 2 ^ 32 := by
  rw [timeWords, List.getD_cons_zero]

theorem readTime_first (s : State) : readTime 0 s =
    (time96 s.tb.time / 2 ^ 16 % 2 ^ 32, { s with tb := { s.tb with snap := time96 s.tb.time } }) := by
  rw [← timeWords_first]
  rfl

theorem exec_tbTimeRead {m : Master} {s : State} (hopen : ReadOpen m (loc .TB_TIME) s) :
    exec (.tbTimeRead m) s = .next (readBack m (time96 s.tb.time / 2 ^ 16 % 2 ^ 32)
      { s with tb := { s.tb with snap := time96 s.tb.time } }) := by
  calc exec (.tbTimeRead m) s = done (ctlRead m (loc .TB_TIME) (readTime 0) s) := rfl
    _ = _ := by rw [ctlRead_open hopen, readTime_first, done, readBack]

/-- Settles O11. -/
theorem blockTime : Obligations.BlockTime := by
  refine ⟨?ppsIn, ?ppsOut, ?ppsFall, ?tod, ?phase, ?loss, ?missing, ?slewEnds, ?slewOpen, ?load, ?freq, ?step, ?slew, ?read⟩
  case ppsIn => exact fun s hres harm => done_eq ((outOfReset_running _ hres).trans (ppsIn_unarmed harm))
  case ppsOut => exact fun s hres => done_eq (outOfReset_running _ hres)
  case ppsFall => exact fun s => rfl
  case tod => exact fun b s hres => done_eq ((outOfReset_running _ hres).trans (todShift_eq b s))
  case phase => exact fun v s h => done_eq (refPhase_sampled v h)
  case loss => exact fun s h => done_eq (refLoss_shown h)
  case missing => exact fun s h => done_eq (ppsMissing_shown h)
  case slewEnds => exact fun s hbusy hslew => done_eq (slewDone_absorbed hbusy hslew)
  case slewOpen => exact fun s h => done_eq (slewDone_open h)
  case load =>
    intro s hres harm
    obtain ⟨htb, hcfg, hevent⟩ := (dumpStep_timeKept (timeLoaded { s.tb with time := fromTime96 s.tb.tod }
      (putTime .TB_PPS_CAP (time96 s.tb.time) s))).trans (settle_settling _).timeKept
    obtain ⟨harmed, hloaded, hpps⟩ := timeLoaded_flags { s.tb with time := fromTime96 s.tb.tod }
      (putTime .TB_PPS_CAP (time96 s.tb.time) s)
    exact ⟨_, done_eq ((outOfReset_running _ hres).trans (ppsIn_armed harm)), htb.trans (timeLoaded_tb ..),
      (fb_congr _ hcfg).trans harmed, (fb_congr _ hevent).trans hloaded, (fb_congr _ hevent).trans hpps⟩
  case freq => exact fun _ _ _ => writes_of_ctlWrite rfl rfl
  case step => exact fun m d s hbusy hmode hd => writes_of_ctlWrite rfl (writePhase_step hbusy hmode hd)
  case slew => exact fun m d s hbusy hmode hd => writes_of_ctlWrite rfl (writePhase_slew hbusy hmode hd)
  case read => exact fun _ _ hopen => exec_tbTimeRead hopen

end Sys2Proof.Machine
end

section
/-!
PROOFS. Level intervals, the counters' modes and reads, the function windows and the byte-rate windows (O12).
-/

namespace Sys2Proof.Machine

/-! ## The mode of a counter (R414) -/

/-- An index without a level mode is selected and nothing else. -/
theorem writeSel_edge {d : Nat} (s : State) (h : isEL (d % 2 ^ 14) = false) :
    writeSel d s = wr (loc .PC_SEL) (d % 2 ^ 14) s := by
  simp only [writeSel, h, Bool.and_false]
  rw [if_neg fun k => Bool.false_ne_true k.1, b2n, if_neg Bool.false_ne_true, Nat.zero_mul, Nat.zero_add]

/-- A write that keeps the counter's LEVEL selects it. -/
theorem writeSel_same {d : Nat} {s : State} (h : isEL (d % 2 ^ 14) = true)
    (hlevel : s.pc.level.contains (d % 2 ^ 14) = bit d 31) :
    writeSel d s = wr (loc .PC_SEL) (b2n (bit d 31) * 2 ^ 31 + d % 2 ^ 14) s := by
  simp only [writeSel, h, Bool.and_true]
  rw [if_neg fun k => k.2 hlevel]

/-- The counters after a change of the LEVEL of counter `i` to `lv`, whose condition holds in the interval that begins where
`now` says so. -/
def levelChanged (i : Nat) (lv now : Bool) (c : Pc) : Pc :=
  { c with
    val := sput 0 c.val i 0, wrap := c.wrap.filter (· != i),
    held := (if lv && now then [i] else []) ++ c.held.filter (· != i),
    level := if lv then i :: c.level else c.level.filter (· != i) }

/-- A write that changes the counter's LEVEL selects it and starts it anew. -/
theorem writeSel_changes {d i : Nat} {s : State} (hi : i = d % 2 ^ 14) (h : isEL i = true)
    (hlevel : s.pc.level.contains i ≠ bit d 31) : writeSel d s =
    { wr (loc .PC_SEL) (b2n (bit d 31) * 2 ^ 31 + i) s with
      pc := levelChanged i (bit d 31) (levelHolds i s) s.pc } := by
  subst hi
  simp only [writeSel, h, Bool.and_true]
  rw [if_pos ⟨trivial, hlevel⟩, levelChanged, wr_pc]

theorem mem_levelChanged_level (i j : Nat) (lv now : Bool) (c : Pc) (hj : j ≠ i) :
    j ∈ (levelChanged i lv now c).level ↔ j ∈ c.level := by
  cases lv <;> simp [levelChanged, hj]

theorem levelChanged_level (i : Nat) (lv now : Bool) (c : Pc) : (levelChanged i lv now c).level.contains i = lv := by
  cases lv <;> simp [levelChanged]

/-- PC_SEL reads as it was written, whatever becomes of the counters. -/
theorem rd_selected {v : Nat} (hv : v < 2 ^ 32) (c : Pc) (s : State) :
    rd (loc .PC_SEL) { wr (loc .PC_SEL) v s with pc := c } = v :=
  (rd_wr_same (loc .PC_SEL) v s).trans (Nat.mod_eq_of_lt hv)

theorem exec_counterRead {m : Master} {s : State} (hopen : ReadOpen m (loc .PC_VAL_LO) s) : exec (.counterRead m) s =
    .next (readBack m (counterWord (fg (loc .PC_SEL) F.PC_SEL_INDEX s) s % 2 ^ 32)
      (setShadow m (counterWord (fg (loc .PC_SEL) F.PC_SEL_INDEX s) s / 2 ^ 32) s)) := by
  calc exec (.counterRead m) s = done (ctlRead m (loc .PC_VAL_LO) (readCounter m) s) := rfl
    _ = _ := by rw [ctlRead_open hopen, readCounter, done, readBack]

/-! ## The function windows (R428) -/

/-- An aligned read of a function's window whose turn it is, with the right and the core in RUN. -/
theorem exec_counterWindowRead {m : Master} {f off : Nat} {s : State} (hf : f < 4096) (hoff : off < 2048)
    (halign : off % 4 = 0) (hq : ctlQueue m s = []) (hres : inReset s = false)
    (hright : winRight F.GL_WINACL_CW_RD m s = true) (hgate : gate m 5 0x80 s = .go) :
    exec (.counterWindowRead m f off) s = .next (readBack m (readWindow m f off s).1 (readWindow m f off s).2) := by
  have haddr : 0x2000000 + 2048 * (f % 4096) + off % 2048 / 4 * 4 = 0x2000000 + 2048 * f + off := by omega
  have hfun : (0x2000000 + 2048 * f + off - 0x2000000) / 2048 % 4096 = f := by omega
  have hlow : (0x2000000 + 2048 * f + off) % 2048 = off := by omega
  have hgo : windowAccess m false (0x2000000 + 2048 * f + off) s =
      respond m .ok false (readWindow m f off s).1 (readWindow m f off s).2 := by
    simp only [windowAccess, resetHolds_out_of_reset _ hres, hright, hgate, hfun, hlow, Bool.false_eq_true, if_false,
      Bool.not_true, Bool.or_self]
  calc exec (.counterWindowRead m f off) s = execCounterWindowRead m f off s := rfl
    _ = done (windowAccess m false (0x2000000 + 2048 * f + off) s) := by
      simp only [execCounterWindowRead, haddr, inTurn, hq, if_true]
    _ = _ := by rw [hgo]; rfl

theorem readWindow_low {m : Master} {f : Nat} {s : State} (w : Nat) (h : s.pc.cntPerm.contains f = true) :
    readWindow m f (8 * w) s = (windowWord f w s % 2 ^ 32, setShadow m (windowWord f w s / 2 ^ 32) s) := by
  have hword : 8 * w / 8 = w := by omega
  rw [readWindow, if_neg (by simp only [h]; decide), if_neg (by omega), hword]

theorem readWindow_high {m : Master} {f : Nat} {s : State} (w : Nat) (h : s.pc.cntPerm.contains f = true) :
    readWindow m f (8 * w + 4) s = (getShadow m s, s) := by
  rw [readWindow, if_neg (by simp only [h]; decide), if_pos (by omega)]

theorem readWindow_denied {m : Master} {f off : Nat} {s : State} (hoff : off < 2048) (h : s.pc.cntPerm.contains f = false) :
    readWindow m f off s = (0, setFlag (loc .PC_EVENT) F.PC_EVENT_WIN_DENY
      (wr (loc .PC_WIN_DENY) (off * 2 ^ 12 + f) (bumpBy 0x33C2 1 s))) := by
  rw [readWindow, if_pos h, Nat.mod_eq_of_lt hoff]
  rfl

/-! ## Byte rates (R429, R430) -/

/-- The end of a window that no new length waits for passes its sum on. -/
theorem rateEnd_passes {k : Nat} {s : State} (h : (getRate k s).newWindow = 0) : rateEnd k s = setRate k
    { getRate k s with
      last := (getRate k s).sum % 2 ^ 48, min := min (getRate k s).min (getRate k s).sum,
      max := max (getRate k s).max (getRate k s).sum, windows := min 4095 ((getRate k s).windows + 1), sum := 0 } s := by
  rw [rateEnd, if_neg (not_not_intro h)]

theorem exec_rateWindowEnd {p : Nat} {tx : Bool} {s : State} (hp : p < 64) (hres : inReset s = false) :
    exec (.rateWindowEnd p tx) s = .next (settle (rateEnd (2 * p + b2n tx) s)) := by
  calc exec (.rateWindowEnd p tx) s = execRateWindowEnd p tx s := rfl
    _ = _ := by rw [execRateWindowEnd, outOfReset_running _ hres, Nat.mod_eq_of_lt hp, done]

/-- Settles O12. -/
theorem countersAndRates : Obligations.CountersAndRates := by
  refine ⟨?level, ?edge, ?same, ?changes, ?value, ?window, ?denied, ?rate, ?snapshot⟩
  case level => exact fun _ => rfl
  case edge => exact fun m d s h => writes_of_ctlWrite rfl (congrArg some (writeSel_edge s h))
  case same => exact fun m d s h hlevel => writes_of_ctlWrite rfl (congrArg some (writeSel_same h hlevel))
  case changes =>
    intro m d i s hi h hlevel hopen
    refine ⟨_, writes_of_ctlWrite rfl (congrArg some (writeSel_changes hi h hlevel)) hopen, sget_sput_same 0 s.pc.val i 0, ?_,
      levelChanged_level .., fun j hj => ⟨sget_sput_other 0 0 s.pc.val i j 0 hj, mem_levelChanged_level _ _ _ _ _ hj⟩, ?_⟩
    · simp [levelChanged]
    · have hword : b2n (bit d.toNat 31) * 2 ^ 31 + i < 2 ^ 32 := by
        have hbit : b2n (bit d.toNat 31) ≤ 1 := by
          unfold b2n
          split <;> decide
        omega
      exact rd_selected hword _ s
  case value => exact fun _ _ hopen => exec_counterRead hopen
  case window =>
    intro m f w s hf hw hq hres hright hgate hperm
    constructor
    · rw [exec_counterWindowRead hf (by omega) (by omega) hq hres hright hgate, readWindow_low w hperm]
    · rw [exec_counterWindowRead hf (by omega) (by omega) hq hres hright hgate, readWindow_high w hperm]
  case denied =>
    intro m f w s hf hw hq hres hright hgate hperm
    rw [exec_counterWindowRead hf (by omega) (by omega) hq hres hright hgate, readWindow_denied (by omega) hperm]
  case rate =>
    intro p tx s hp hres hnew
    rw [exec_rateWindowEnd hp hres, rateEnd_passes hnew]
  case snapshot => exact fun _ _ _ => writes_of_ctlWrite rfl rfl

end Sys2Proof.Machine
end

section
/-!
PROOFS. A field after a write of it, of a field beside it, and of another register; and what an edge of a privileged source
leaves alone.
-/

namespace Sys2Proof.Machine

section
variable (a : Nat) {f g : Fld} {v : Nat} (s : State)

/-- A value in its field's range reads back. -/
theorem fg_fs_of_lt (hf : f.lo ≤ f.hi) (hw : f.hi < 32) (hv : v < 2 ^ (f.hi + 1 - f.lo)) : fg a f (fs a f v s) = v :=
  (fg_fs_same a v s hf hw).trans (Nat.mod_eq_of_lt hv)

theorem fb_fs_other {b : Nat} (hb : b ≠ a) : fb b g (fs a f v s) = fb b g s := fb_congr g (rd_fs_other a b f v s hb)

theorem fb_fs_beside (hf : f.lo ≤ f.hi) (hw : f.hi < 32) (hg : g.hi < f.lo ∨ f.hi < g.lo) :
    fb a g (fs a f v s) = fb a g s := by
  rw [fb, fb, fg_fs_beside a v s hf hw hg]

theorem fb_setFlag_other {b : Nat} (hb : b ≠ a) : fb b g (setFlag a f s) = fb b g s := fb_congr g (rd_setFlag_other a b f s hb)

/-- A one-bit field reads as it was written. -/
theorem fb_fs_bool (c : Bool) (hf : f.hi = f.lo) (hw : f.hi < 32) : fb a f (fs a f (b2n c) s) = c := by
  rw [fb, fg_fs_same a _ s (Nat.le_of_eq hf.symm) hw, hf, Nat.add_sub_cancel_left]
  cases c <;> rfl

theorem fb_fs_one (hf : f.hi = f.lo) (hw : f.hi < 32) : fb a f (fs a f 1 s) = true := fb_fs_bool a s true hf hw

end

/-! ## Privileged sources (R387) -/

theorem privEdge_boot (i : Nat) (s : State) : (privEdge i s).boot = s.boot := by
  unfold privEdge
  split
  · rw [bump_regs_pc_only]
  · rfl

/-- An edge leaves every register alone but EV_PRIV and what a counter writes. -/
theorem fb_privEdge_other {b : Nat} (f : Fld) (i : Nat) (s : State) (hp : b ≠ loc .EV_PRIV) (he : b ≠ loc .PC_EVENT)
    (hl : b ≠ loc .PC_WRAP_LAST) : fb b f (privEdge i s) = fb b f s := fb_congr f (rd_privEdge_other i s hp he hl)

end Sys2Proof.Machine
end

section
/-!
PROOFS. Fuse programming and the debug unlock (O58).
-/

namespace Sys2Proof.Machine

/-! ## A program of a fuse word (R465, R466) -/

theorem bit_progWord {w : Nat} (hw : w < 2048) : bit (2 ^ 31 + w) 31 = true := by
  simp only [bit, beq_iff_eq]
  omega

/-- BT_FUSE_CTRL once a program of `w` runs. -/
def fusing (w d : Nat) (s : State) : State :=
  fs (loc .BT_FUSE_CTRL) F.BT_FUSE_CTRL_REFUSED 0 (fs (loc .BT_FUSE_CTRL) F.BT_FUSE_CTRL_BUSY 1
    (fs (loc .BT_FUSE_CTRL) F.BT_FUSE_CTRL_WORD w { s with boot := { s.boot with fusing := some (w, d) } }))

theorem fusing_fields {w : Nat} (d : Nat) (s : State) (hw : w < 2048) :
    fb (loc .BT_FUSE_CTRL) F.BT_FUSE_CTRL_BUSY (fusing w d s) = true ∧
    fg (loc .BT_FUSE_CTRL) F.BT_FUSE_CTRL_WORD (fusing w d s) = w ∧
    fb (loc .BT_FUSE_CTRL) F.BT_FUSE_CTRL_REFUSED (fusing w d s) = false := by
  refine ⟨?_, ?_, fb_fs_clear _ _ (by decide) (by decide)⟩
  · rw [fusing, fb_fs_beside _ _ (by decide) (by decide) (by decide)]
    exact fb_fs_one _ _ (by decide) (by decide)
  · rw [fusing, fg_fs_beside _ _ _ (by decide) (by decide) (by decide),
      fg_fs_beside _ _ _ (by decide) (by decide) (by decide)]
    exact fg_fs_of_lt _ _ (by decide) (by decide) hw

theorem writeFuseCtrl_starts {w : Nat} {s : State} (hw : w < 2048)
    (hbusy : fb (loc .BT_FUSE_CTRL) F.BT_FUSE_CTRL_BUSY s = false) (hok : fuseRefused w (rd (loc .BT_FUSE_DATA) s) s = false) :
    writeFuseCtrl (2 ^ 31 + w) s = some (fusing w (rd (loc .BT_FUSE_DATA) s) s) := by
  have hword : (2 ^ 31 + w) % 2048 = w := by omega
  simp only [writeFuseCtrl, bit_progWord hw, hword, hbusy, hok]
  rfl

theorem writeFuseCtrl_refused {w : Nat} {s : State} (hw : w < 2048)
    (hbad : fuseRefused w (rd (loc .BT_FUSE_DATA) s) s = true) : writeFuseCtrl (2 ^ 31 + w) s = none := by
  have hword : (2 ^ 31 + w) % 2048 = w := by omega
  simp only [writeFuseCtrl, bit_progWord hw, hword, hbad, Bool.or_true]
  rfl

theorem fuseMiss_refused {w : Nat} {s : State} (hw : w < 2048)
    (hbusy : fb (loc .BT_FUSE_CTRL) F.BT_FUSE_CTRL_BUSY s = false) (hbad : fuseRefused w (rd (loc .BT_FUSE_DATA) s) s = true) :
    fuseMiss (2 ^ 31 + w) s = fs (loc .BT_FUSE_CTRL) F.BT_FUSE_CTRL_REFUSED 1 s := by
  have hword : (2 ^ 31 + w) % 2048 = w := by omega
  simp only [fuseMiss, bit_progWord hw, hword, hbusy, hbad]
  rfl

theorem exec_fuseProg (m : Master) {w : Nat} (s : State) (hw : w < 2048) : exec (.fuseProg m w) s =
    done (ctlWrite m (loc .BT_FUSE_CTRL) (2 ^ 31 + w) (writeFuseCtrl (2 ^ 31 + w)) s (fuseMiss (2 ^ 31 + w))) := by
  calc exec (.fuseProg m w) s = execFuseProg m w s := rfl
    _ = _ := by rw [execFuseProg, Nat.mod_eq_of_lt hw]

theorem refusePage_boot (m : Master) (pg off reason : Nat) (s : State) : (refusePage m true pg off reason s).boot = s.boot := by
  rw [refusePage_only]

/-- REVOKE may not take the last key that is programmed. -/
theorem fuseRefused_lastKey {d : Nat} {s : State}
    (h : ∀ k, k < 4 → programmed k s = true → bit (fuseWord 0x30 s ||| d) k = true) : fuseRefused 0x30 d s = true := by
  have hnone : (List.range 4).any (fun k => programmed k s && !bit (fuseWord 0x30 s ||| d) k) = false := by
    rw [List.any_eq_false]
    intro k hk hleft
    obtain ⟨hprog, hclear⟩ := Bool.and_eq_true_iff.mp hleft
    rw [h k (List.mem_range.mp hk) hprog] at hclear
    cases hclear
  simp only [fuseRefused, hnone]
  rfl

/-- The low word of ROLLBACK may not leave a gap. -/
theorem fuseRefused_gap {d : Nat} {s : State}
    (h : thermometer ((fuseWord 0x32 s ||| d) + fuseWord 0x33 s * 2 ^ 32) = false) : fuseRefused 0x32 d s = true := by
  simp only [fuseRefused, ↓reduceIte, h, Bool.not_false, Bool.true_or, Bool.and_true]
  rfl

/-! ## The end of a program -/

/-- The fuses once word `w` reads `v`. -/
def fuseRead (w v : Nat) (s : State) : State :=
  { s with boot := { s.boot with array := sput 0 s.boot.array w v, fuse := sput 0 s.boot.fuse w v, fusing := none } }

/-- What the registers show of a program that ends, before its source reports. -/
def programShown (fail : Bool) (s : State) : State :=
  doIf fail (alert F.GL_ALERT_FUSE) (fs (loc .BT_FUSE_CTRL) F.BT_FUSE_CTRL_FAIL (b2n fail)
    (fs (loc .BT_FUSE_CTRL) F.BT_FUSE_CTRL_BUSY 0 s))

theorem doIf_alert_boot (c : Bool) (f : Fld) (s : State) : (doIf c (alert f) s).boot = s.boot := by cases c <;> rfl

theorem programShown_boot (fail : Bool) (s : State) : (programShown fail s).boot = s.boot := by
  rw [programShown, doIf_alert_boot, fs_boot, fs_boot]

theorem programShown_fields (fail : Bool) (s : State) :
    fb (loc .BT_FUSE_CTRL) F.BT_FUSE_CTRL_BUSY (programShown fail s) = false ∧
    fb (loc .BT_FUSE_CTRL) F.BT_FUSE_CTRL_FAIL (programShown fail s) = fail ∧
    (fail = true → fb (loc .GL_ALERT) F.GL_ALERT_FUSE (programShown fail s) = true) := by
  have hctrl : rd (loc .BT_FUSE_CTRL) (programShown fail s) = rd (loc .BT_FUSE_CTRL)
      (fs (loc .BT_FUSE_CTRL) F.BT_FUSE_CTRL_FAIL (b2n fail) (fs (loc .BT_FUSE_CTRL) F.BT_FUSE_CTRL_BUSY 0 s)) := by
    cases fail
    · rfl
    · exact rd_setFlag_other _ _ _ _ (by decide)
  refine ⟨?_, ?_, ?_⟩
  · rw [fb_congr _ hctrl, fb_fs_beside _ _ (by decide) (by decide) (by decide)]
    exact fb_fs_clear _ _ (by decide) (by decide)
  · rw [fb_congr _ hctrl]
    exact fb_fs_bool _ _ fail (by decide) (by decide)
  · rintro rfl
    exact fb_setFlag_same _ _ (by decide) (by decide)

theorem showFuses_boot (s : State) : (showFuses s).boot = s.boot := by rw [showFuses_regsIslPwOnly s]

/-- The block once a program of `w` that reads `v` has ended; `valid` is what GL_PROFILE then shows. -/
def programEnded (w v : Nat) (fail : Bool) (valid : Nat) (s : State) : State :=
  privEdge 3 (programShown fail (fs (loc .GL_PROFILE) F.GL_PROFILE_VALID valid (showFuses (fuseRead w v s))))

theorem programEnded_boot (w v : Nat) (fail : Bool) (valid : Nat) (s : State) :
    (programEnded w v fail valid s).boot = (fuseRead w v s).boot := by
  rw [programEnded, privEdge_boot, programShown_boot, fs_boot, showFuses_boot]

theorem programEnded_fields (w v : Nat) (fail : Bool) (valid : Nat) (s : State) :
    fb (loc .BT_FUSE_CTRL) F.BT_FUSE_CTRL_BUSY (programEnded w v fail valid s) = false ∧
    fb (loc .BT_FUSE_CTRL) F.BT_FUSE_CTRL_FAIL (programEnded w v fail valid s) = fail ∧
    (fail = true → fb (loc .GL_ALERT) F.GL_ALERT_FUSE (programEnded w v fail valid s) = true) := by
  simp only [programEnded]
  rw [fb_privEdge_other _ _ _ (by decide) (by decide) (by decide), fb_privEdge_other _ _ _ (by decide) (by decide) (by decide),
    fb_privEdge_other _ _ _ (by decide) (by decide) (by decide)]
  exact programShown_fields ..

/-- A program that ends shows the fuses as they read, and tells whether that is what they were to be. -/
theorem fuseProgDone_ends {v : W32} {w d : Nat} {s : State} (h : s.boot.fusing = some (w, d)) :
    ∃ valid, fuseProgDone v.toNat s = programEnded w v.toNat (v.toNat != (fuseWord w s ||| d)) valid s := by
  refine ⟨(List.range 4).foldl (fun x n => x + b2n (profValid (storedProfile n (fuseRead w v.toNat s)) n) * 2 ^ n) 0, ?_⟩
  simp only [fuseProgDone, h, Nat.mod_eq_of_lt v.isLt]
  rfl

theorem fuseProgDone_none {v : W32} {s : State} (h : s.boot.fusing = none) : fuseProgDone v.toNat s = s := by
  simp only [fuseProgDone, h]

/-! ## The debug unlock (R467) -/

/-- The block once debug is unlocked. -/
def unlocked (s : State) : State :=
  fs (loc .BT_STATUS) F.BT_STATUS_DEBUG_UNLOCKED 1 (fs (loc .BT_DEBUG) F.BT_DEBUG_UNLOCKED 1
    { s with pins := { s.pins with tapBypass := s.pins.tapIr == 0 } })

theorem writeBtDebug_unlocks {s : State} (h : fb (loc .BT_DEBUG) F.BT_DEBUG_DISABLED s = false) :
    writeBtDebug (2 ^ 31) s = some (unlocked s) := by
  rw [writeBtDebug, if_neg (by decide), if_neg (by simp [h])]
  rfl

theorem writeBtDebug_disabled {s : State} (h : fb (loc .BT_DEBUG) F.BT_DEBUG_DISABLED s = true) :
    writeBtDebug (2 ^ 31) s = none := by
  rw [writeBtDebug, if_neg (by decide), if_pos h]

theorem unlocked_shows (s : State) : fb (loc .BT_DEBUG) F.BT_DEBUG_UNLOCKED (unlocked s) = true ∧
    fb (loc .BT_STATUS) F.BT_STATUS_DEBUG_UNLOCKED (unlocked s) = true := by
  refine ⟨?_, fb_fs_one _ _ (by decide) (by decide)⟩
  rw [unlocked, fb_fs_other _ _ (by decide)]
  exact fb_fs_one _ _ (by decide) (by decide)

/-- Two writes of registers beside a change of the pins. -/
theorem fs_fs_regsPinsOnly (a b : Nat) (f g : Fld) (v w : Nat) (p : Pins) (s : State) :
    fs a f v (fs b g w { s with pins := p }) = { s with regs := (fs a f v (fs b g w { s with pins := p })).regs, pins := p } := rfl

/-- Settles O58. -/
theorem fusesAndDebug : Obligations.FusesAndDebug := by
  refine ⟨?starts, ?refused, ?lastKey, ?gap, ?ends, ?none, ?unlock, ?disabled⟩
  case starts =>
    intro m w s hw hbusy hok hopen
    exact ⟨_, (exec_fuseProg m s hw).trans (done_eq (ctlWrite_open hopen (writeFuseCtrl_starts hw hbusy hok))), rfl,
      fusing_fields _ s hw⟩
  case refused =>
    intro m w s hw hbusy hbad hopen
    refine ⟨_, (exec_fuseProg m s hw).trans (done_eq (ctlWrite_refused hopen (writeFuseCtrl_refused hw hbad))), ?_, ?_⟩
    · rw [(settle_settling _).boot, refusePage_boot, fuseMiss_refused hw hbusy hbad, fs_boot]
    · have hctrl (t : State) : rd (loc .BT_FUSE_CTRL) (settle (refusePage m true (loc .BT_FUSE_CTRL / 4096)
          (loc .BT_FUSE_CTRL % 4096) 7 t)) = rd (loc .BT_FUSE_CTRL) t :=
        (rd_settle (by decide) _).trans (rd_refusePage_other _ _ _ _ (by decide))
      rw [fb_congr _ (hctrl _), fb_congr _ (hctrl _), fuseMiss_refused hw hbusy hbad]
      exact ⟨fb_fs_one _ _ (by decide) (by decide), (fb_fs_beside _ _ (by decide) (by decide) (by decide)).trans hbusy⟩
  case lastKey => exact fun d s h => fuseRefused_lastKey h
  case gap => exact fun d s h => fuseRefused_gap h
  case ends =>
    intro v w d s h
    obtain ⟨valid, hends⟩ := fuseProgDone_ends (v := v) h
    obtain ⟨hbusy, hfail, halert⟩ := programEnded_fields w v.toNat (v.toNat != (fuseWord w s ||| d)) valid s
    refine ⟨_, done_eq hends, ?_⟩
    rw [fuseWord, (settle_settling _).boot, programEnded_boot, fb_congr _ (rd_settle (by decide) _), hbusy,
      fb_congr _ (rd_settle (by decide) _), hfail, fb_congr _ (rd_settle (by decide) _)]
    exact ⟨sget_sput_same .., sget_sput_same .., rfl, rfl, bne_iff_ne, fun hne => halert (bne_iff_ne.mpr hne)⟩
  case none => exact fun v s h => done_eq (fuseProgDone_none h)
  case unlock =>
    intro m s h hopen
    obtain ⟨hdebug, hstatus⟩ := unlocked_shows s
    exact ⟨_, writes_of_ctlWrite rfl (writeBtDebug_unlocks h) hopen, hdebug, hstatus, fs_fs_regsPinsOnly ..⟩
  case disabled => exact fun m s h hopen => exec_refused rfl hopen (writeBtDebug_disabled h)

end Sys2Proof.Machine
end

section
/-!
PROOFS. Failed loads, RECOVERY, the release, restarts of the steward, and the memory protection (O57).
-/

namespace Sys2Proof.Machine

/-! ## A failed load and RECOVERY (R458, R461) -/

/-- With the other slot not tried, a normal boot goes on with it. -/
theorem verdictFail_other {r : Nat} {s : State} (htried : bit (fg (loc .BT_STATUS) F.BT_STATUS_TRIED s) (1 - bootSlot s) = false)
    (hrecov : s.boot.recov = false) : ∃ t, verdictFail r s =
      startLoad (1 - bootSlot s) false false (setFlag (loc .BT_EVENT) F.BT_EVENT_SLOT_FAIL t) := by
  have hfg : fg (loc .BT_STATUS) F.BT_STATUS_TRIED (privEdge 2 (setReason r s)) = fg (loc .BT_STATUS) F.BT_STATUS_TRIED s :=
    (fg_congr _ (rd_privEdge_other 2 _ (by decide) (by decide) (by decide))).trans
      (fg_fs_beside _ _ _ (by decide) (by decide) (by decide))
  have hboot : (privEdge 2 (setReason r s)).boot = s.boot := (privEdge_boot ..).trans (fs_boot ..)
  refine ⟨bcbRecord (privEdge 2 (setReason r s)).boot.bcb (privEdge 2 (setReason r s)), ?_⟩
  simp only [verdictFail]
  rw [if_neg]
  simp [hfg, hboot, htried, hrecov]

theorem bootState_startLoad {k : Nat} (trial taken : Bool) (s : State) (hk : k < 2) :
    bootState (startLoad k trial taken s) = 1 ∧ bootSlot (startLoad k trial taken s) = k := by
  obtain ⟨hstate, hslot, -⟩ := loadStatus_fields (loadBegun k trial s) hk
  exact ⟨(fg_congr _ (rd_startLoad ..)).trans hstate, (fg_congr _ (rd_startLoad ..)).trans hslot⟩

/-- A load writes no register but BT_STATUS. -/
theorem rd_startLoad_other {a k : Nat} (trial taken : Bool) (s : State) (ha : a ≠ loc .BT_STATUS) :
    rd a (startLoad k trial taken s) = rd a s := by
  rw [rd_startLoad, loadStatus, setBootState, rd_fs_other _ _ _ _ _ ha, rd_fs_other _ _ _ _ _ ha, rd_fs_other _ _ _ _ _ ha,
    rd_fs_other _ _ _ _ _ ha]
  rfl

theorem bcbRecord_regs (b : Bytes) (s : State) : (bcbRecord b s).regs = s.regs := bcbWrite_regs ..

/-- RECOVERY: its state and its alert are shown over a datapath that is held in reset. -/
theorem enterRecovery_eq (s : State) : ∃ b t, enterRecovery s = bcbRecord b (alert F.GL_ALERT_BOOT (setBootState 4 t)) ∧
    t.pins.datapathUp = false := ⟨_, _, rfl, rfl⟩

theorem bcbRecord_pins (b : Bytes) (s : State) : (bcbRecord b s).pins = s.pins := rfl

theorem alert_pins (f : Fld) (s : State) : (alert f s).pins = s.pins := rfl

theorem bootState_setBootState {v : Nat} (s : State) (hv : v < 8) : bootState (setBootState v s) = v :=
  fg_fs_of_lt _ _ (by decide) (by decide) hv

/-! ## CONFIRM (R459) -/

/-- A trial confirmed in its time. -/
theorem writeBtCtrl_confirm {s : State} (hst : bootState s = 2) (htime : s.tb.refill < s.boot.trialEnd) : ∃ b,
    writeBtCtrl (2 ^ 31) s = some (bcbRecord b (setFlag (loc .BT_EVENT) F.BT_EVENT_CONFIRMED
      (setBootState 3 { s with boot := { s.boot with trialEnd := 0 } }))) := by
  refine ⟨bcbPut 4 (u s.boot.bcb 4 1 / 2 * 2 + bootSlot s) s.boot.bcb, ?_⟩
  have h31 : bit (2 ^ 31) 31 = true := by decide
  have h30 : bit (2 ^ 31) 30 = false := by decide
  have h29 : bit (2 ^ 31) 29 = false := by decide
  have h28 : bit (2 ^ 31) 28 = false := by decide
  have hopen : decide (s.boot.trialEnd ≤ s.tb.refill) = false := decide_eq_false (Nat.not_le.mpr htime)
  simp only [writeBtCtrl, h31, h30, h29, h28, hst, hopen, doIf, Bool.false_and, Bool.true_and, Bool.or_false, bne_self_eq_false,
    Bool.false_eq_true, if_false, if_true]

theorem writeBtCtrl_confirm_refused {s : State} (h : bootState s ≠ 2 ∨ s.boot.trialEnd ≤ s.tb.refill) :
    writeBtCtrl (2 ^ 31) s = none := by
  have h31 : bit (2 ^ 31) 31 = true := by decide
  refine if_pos ?_
  rw [h31]
  rcases h with h | h <;> simp [h]

/-! ## RELEASE and its time-out (R460) -/

theorem writeBtCtrl_release {s : State} (hst : bootState s = 2 ∨ bootState s = 3) (htaken : s.boot.relTaken = false) :
    writeBtCtrl (2 ^ 30) s = some (if fb (loc .BT_STATUS) F.BT_STATUS_RELEASED s then
      { s with boot := { s.boot with relTaken := true } } else release { s with boot := { s.boot with relTaken := true } }) := by
  have h31 : bit (2 ^ 30) 31 = false := by decide
  have h30 : bit (2 ^ 30) 30 = true := by decide
  have h29 : bit (2 ^ 30) 29 = false := by decide
  have h28 : bit (2 ^ 30) 28 = false := by decide
  have hruns : (bootState s == 2 || bootState s == 3) = true := by rcases hst with h | h <;> simp [h]
  simp only [writeBtCtrl, h31, h30, h29, h28, hruns, htaken, doIf, Bool.false_and, Bool.true_and, Bool.or_false, Bool.not_true,
    Bool.false_eq_true, if_false, if_true]
  rfl

theorem writeBtCtrl_release_refused {s : State} (h : s.boot.relTaken = true ∨ (bootState s ≠ 2 ∧ bootState s ≠ 3)) :
    writeBtCtrl (2 ^ 30) s = none := by
  have h30 : bit (2 ^ 30) 30 = true := by decide
  refine if_pos ?_
  rw [h30]
  rcases h with h | ⟨h2, h3⟩
  · simp [h]
  · simp [h2, h3]

/-- The end of a cold block's wake, where the strap's profile is applied in block OFF (R441). -/
def coldWoken (t : State) : State :=
  match (fs (loc .PW_STATE) F.PW_STATE_BLOCK_STATE 0 t).pw.seqs.find? (fun q => q.code == 0xFF) with
  | some q => wakeRecord q (endSeq 0xFF (fs (loc .PW_STATE) F.PW_STATE_BLOCK_STATE 0 t))
  | none => fs (loc .PW_STATE) F.PW_STATE_BLOCK_STATE 0 t

theorem bump_pins (i : Nat) (s : State) : (bump i s).pins = s.pins := by rw [bump_regs_pc_only]

theorem lastWake_eq (q : PSeq) (o : Nat) (s : State) : ∃ v w,
    lastWake q o s = wr64 (loc .PW_LAST_WAKE_TS) w (wr (loc .PW_LAST_WAKE) v s) := ⟨_, _, rfl⟩

theorem wakeRecord_keeps (q : PSeq) (s : State) :
    rd (loc .BT_STATUS) (wakeRecord q s) = rd (loc .BT_STATUS) s ∧ (wakeRecord q s).pins = s.pins := by
  obtain ⟨v, w, hlast⟩ := lastWake_eq q (b2n q.retried) s
  constructor
  · rw [wakeRecord, rd_setFlag_other _ _ _ _ (by decide), rd_bump_other _ _ (by decide) (by decide), hlast, wr64,
      rd_wr_other _ _ _ _ (by decide), rd_wr_other _ _ _ _ (by decide), rd_wr_other _ _ _ _ (by decide)]
  · rw [wakeRecord, setFlag, setFlags, wr_pins, bump_pins, hlast, wr64, wr_pins, wr_pins, wr_pins]

theorem endSeq_block_eq (s : State) : ∃ p, endSeq 0xFF s = fs (loc .PW_STATE) F.PW_STATE_STEP 0
    (fs (loc .PW_STATE) F.PW_STATE_PHASE 0 (fs (loc .PW_STATE) F.PW_STATE_CHANGING 0 { s with pw := p })) := ⟨_, rfl⟩

theorem endSeq_block_keeps (s : State) :
    rd (loc .BT_STATUS) (endSeq 0xFF s) = rd (loc .BT_STATUS) s ∧ (endSeq 0xFF s).pins = s.pins := by
  obtain ⟨p, h⟩ := endSeq_block_eq s
  constructor
  · rw [h, rd_fs_other _ _ _ _ _ (by decide), rd_fs_other _ _ _ _ _ (by decide), rd_fs_other _ _ _ _ _ (by decide)]
    exact rd_congr _ rfl
  · rw [h, fs_pins, fs_pins, fs_pins]

theorem coldWoken_keeps (t : State) :
    rd (loc .BT_STATUS) (coldWoken t) = rd (loc .BT_STATUS) t ∧ (coldWoken t).pins = t.pins := by
  have hrun : rd (loc .BT_STATUS) (fs (loc .PW_STATE) F.PW_STATE_BLOCK_STATE 0 t) = rd (loc .BT_STATUS) t :=
    rd_fs_other _ _ _ _ _ (by decide)
  unfold coldWoken
  split
  next q _ =>
    obtain ⟨hrec, hpins⟩ := wakeRecord_keeps q (endSeq 0xFF (fs (loc .PW_STATE) F.PW_STATE_BLOCK_STATE 0 t))
    obtain ⟨hend, hendPins⟩ := endSeq_block_keeps (fs (loc .PW_STATE) F.PW_STATE_BLOCK_STATE 0 t)
    exact ⟨hrec.trans (hend.trans hrun), hpins.trans (hendPins.trans (fs_pins ..))⟩
  next => exact ⟨hrun, fs_pins ..⟩

/-- The strap's profile applied: RELEASED, then the pins, then the end of a wake from block OFF. -/
theorem applyStrap_eq (s : State) : ∃ t p, applyStrap s = doIf (blockState s == 4) coldWoken
    { fs (loc .BT_STATUS) F.BT_STATUS_RELEASED 1 t with pins := p } ∧ p.profileApplied = true := ⟨_, _, rfl, rfl⟩

theorem applyStrap_releases (s : State) : fb (loc .BT_STATUS) F.BT_STATUS_RELEASED (applyStrap s) = true ∧
    (applyStrap s).pins.profileApplied = true := by
  obtain ⟨t, p, h, hp⟩ := applyStrap_eq s
  have hreleased : fb (loc .BT_STATUS) F.BT_STATUS_RELEASED
      { fs (loc .BT_STATUS) F.BT_STATUS_RELEASED 1 t with pins := p } = true := by
    rw [fb_congr _ (rd_withPins ..)]
    exact fb_fs_one _ _ (by decide) (by decide)
  rw [h, doIf]
  split
  · obtain ⟨hstatus, hpins⟩ := coldWoken_keeps { fs (loc .BT_STATUS) F.BT_STATUS_RELEASED 1 t with pins := p }
    rw [fb_congr _ hstatus, hpins]
    exact ⟨hreleased, hp⟩
  · exact ⟨hreleased, hp⟩

theorem release_releases (s : State) : fb (loc .BT_STATUS) F.BT_STATUS_RELEASED (release s) = true ∧
    (s.pins.warmN = true → (release s).pins.profileApplied = true) := by
  obtain ⟨hreleased, happlied⟩ := applyStrap_releases (keepBank0 s)
  cases hw : s.pins.warmN with
  | true => rw [release, if_pos hw]; exact ⟨hreleased, fun _ => happlied⟩
  | false =>
    rw [release, if_neg (by simp [hw])]
    exact ⟨fb_fs_one _ _ (by decide) (by decide), fun h => absurd h Bool.false_ne_true⟩

theorem releaseTimeout_verdict {s : State} (hcold : coldHeld s = false)
    (hrel : fb (loc .BT_STATUS) F.BT_STATUS_RELEASED s = false) (hv : s.pins.verdict = true) : releaseTimeout s = release s := by
  simp [releaseTimeout, hcold, hrel, hv]

theorem releaseTimeout_waits {s : State} (hcold : coldHeld s = false)
    (hrel : fb (loc .BT_STATUS) F.BT_STATUS_RELEASED s = false) (hv : s.pins.verdict = false) :
    releaseTimeout s = { s with boot := { s.boot with relDue := true } } := by
  simp [releaseTimeout, hcold, hrel, hv]

theorem releaseTimeout_released {s : State} (hrel : fb (loc .BT_STATUS) F.BT_STATUS_RELEASED s = true) : releaseTimeout s = s := by
  simp [releaseTimeout, hrel]

/-! ## RESTART and RECOV_GO (R461, R462) -/

theorem writeBtCtrl_restart {s : State} (hst : bootState s = 2 ∨ bootState s = 3) :
    writeBtCtrl (2 ^ 29) s = some (doIf (!s.boot.restart) (restart none) s) := by
  have h31 : bit (2 ^ 29) 31 = false := by decide
  have h30 : bit (2 ^ 29) 30 = false := by decide
  have h29 : bit (2 ^ 29) 29 = true := by decide
  have h28 : bit (2 ^ 29) 28 = false := by decide
  have hruns : (bootState s == 2 || bootState s == 3) = true := by rcases hst with h | h <;> simp [h]
  simp only [writeBtCtrl, h31, h30, h29, h28, hruns, doIf, Bool.false_and, Bool.true_and, Bool.or_false, Bool.not_true,
    Bool.false_eq_true, if_false]

theorem writeBtCtrl_restart_refused {s : State} (h2 : bootState s ≠ 2) (h3 : bootState s ≠ 3) :
    writeBtCtrl (2 ^ 29) s = none := by
  have h29 : bit (2 ^ 29) 29 = true := by decide
  refine if_pos ?_
  rw [h29]
  simp [h2, h3]

theorem recovBits {k : Nat} (hk : k < 2) : bit (2 ^ 28 + k) 31 = false ∧ bit (2 ^ 28 + k) 30 = false ∧
    bit (2 ^ 28 + k) 29 = false ∧ bit (2 ^ 28 + k) 28 = true ∧ (2 ^ 28 + k) % 2 = k := by
  simp only [bit, beq_iff_eq, beq_eq_false_iff_ne]
  omega

theorem writeBtCtrl_recov {k : Nat} {s : State} (hk : k < 2) (hst : bootState s = 4) :
    writeBtCtrl (2 ^ 28 + k) s = some (startLoad k true false
      (fs (loc .BT_STATUS) F.BT_STATUS_TRIED 0 (latchBcb { s with boot := { s.boot with recov := true } }))) := by
  obtain ⟨h31, h30, h29, h28, hslot⟩ := recovBits hk
  simp only [writeBtCtrl, h31, h30, h29, h28, hst, hslot, doIf, Bool.false_and, Bool.true_and, Bool.or_false,
    bne_self_eq_false, Bool.false_eq_true, if_false, if_true]

theorem writeBtCtrl_recov_refused {k : Nat} {s : State} (hk : k < 2) (hst : bootState s ≠ 4) :
    writeBtCtrl (2 ^ 28 + k) s = none := by
  obtain ⟨-, -, -, h28, -⟩ := recovBits hk
  refine if_pos ?_
  rw [h28]
  simp [hst]

theorem exec_recovGo (m : Master) {k : Nat} (s : State) (hk : k < 2) : exec (.recovGo m k) s =
    done (ctlWrite m (loc .BT_CTRL) (2 ^ 28 + k) (writeBtCtrl (2 ^ 28 + k)) s) := by
  calc exec (.recovGo m k) s = execRecovGo m k s := rfl
    _ = _ := by rw [execRecovGo, Nat.mod_eq_of_lt hk]

/-! ## A restart with nothing to wait for (R462) -/

/-- A semaphore's word after the round that releases what the steward holds. -/
def stwFreed (v : Nat) : Nat :=
  if (bits v F.GL_SEM_HELD.hi F.GL_SEM_HELD.lo == 1) = true ∧ bits v F.GL_SEM_MASTER.hi F.GL_SEM_MASTER.lo = 2 then 0 else v

theorem stwFreed_idem (v : Nat) : stwFreed (stwFreed v) = stwFreed v := by
  by_cases h : (bits v F.GL_SEM_HELD.hi F.GL_SEM_HELD.lo == 1) = true ∧ bits v F.GL_SEM_MASTER.hi F.GL_SEM_MASTER.lo = 2
  · rw [stwFreed.eq_1 v, if_pos h]
    rfl
  · have hv : stwFreed v = v := if_neg h
    rw [hv, hv]

/-- One semaphore's part of the round. -/
def freeSem (i : Nat) (t : State) : State :=
  if fb (loc .GL_SEM 0 i) F.GL_SEM_HELD t = true ∧ fg (loc .GL_SEM 0 i) F.GL_SEM_MASTER t = 2 then wr (loc .GL_SEM 0 i) 0 t else t

theorem releaseSems_eq (s : State) : releaseSems s = forEach (List.range 64) freeSem s := rfl

theorem rd_freeSem_same (n : Nat) (s : State) : rd (loc .GL_SEM 0 n) (freeSem n s) = stwFreed (rd (loc .GL_SEM 0 n) s) := by
  rw [freeSem, apply_ite (rd (loc .GL_SEM 0 n)), rd_wr_same]
  rfl

theorem rd_freeSem_other {a i : Nat} (s : State) (ha : a ≠ loc .GL_SEM 0 i) : rd a (freeSem i s) = rd a s := by
  unfold freeSem
  split
  · exact rd_wr_other _ _ _ _ ha
  · rfl

theorem rd_forEach_freeSem (l : List Nat) (n : Nat) (s : State) : rd (loc .GL_SEM 0 n) (forEach l freeSem s) =
    if n ∈ l then stwFreed (rd (loc .GL_SEM 0 n) s) else rd (loc .GL_SEM 0 n) s := by
  induction l generalizing s with
  | nil => rfl
  | cons i l ih =>
    have hcons : forEach (i :: l) freeSem s = forEach l freeSem (freeSem i s) := rfl
    rw [hcons, ih]
    by_cases hn : n = i
    · subst hn
      simp [rd_freeSem_same, stwFreed_idem]
    · have hloc : loc .GL_SEM 0 n ≠ loc .GL_SEM 0 i := by
        rw [loc_sem, loc_sem]
        omega
      simp [rd_freeSem_other s hloc, hn]

theorem releaseSems_boot (s : State) : (releaseSems s).boot = s.boot :=
  forEach_keeps (f := freeSem) State.boot _ (fun i _ t => by unfold freeSem; split <;> rfl) s

/-- The registers a restart leaves to the ROM, from the state whose semaphores are released. -/
def restartShown (n : Nat) (s : State) : State :=
  fs (loc .BT_STATUS) F.BT_STATUS_GATED 1 (fs (loc .BT_STATUS) F.BT_STATUS_TRIED 0 (setBootState 0
    (setFlag (loc .BT_EVENT) F.BT_EVENT_RESTARTED (fs (loc .BT_STATUS) F.BT_STATUS_RESTARTS n s))))

/-- The boot unit as a restart to `slot` begins. -/
def restartBegun (slot : Option Nat) (s : State) : State :=
  { s with boot := { s.boot with restart := false, forced := slot, entered := false, trialEnd := 0 } }

theorem restart_now {slot : Option Nat} {s : State} (hpairs : stewardPairs s = []) (hreqs : s.host.reqs = []) :
    restart slot s = bcbRead (restartShown (min 255 (fg (loc .BT_STATUS) F.BT_STATUS_RESTARTS s + 1))
      (releaseSems (restartBegun slot s))) := by
  have hpairs' : stewardPairs { s with boot := { s.boot with restart := true, forced := slot } } = [] := hpairs
  have hcount : fg (loc .BT_STATUS) F.BT_STATUS_RESTARTS { s with boot := { s.boot with restart := true, forced := slot } } =
      fg (loc .BT_STATUS) F.BT_STATUS_RESTARTS s := fg_congr _ rfl
  have hnone (t : State) : forEach [] drainPair t = t := rfl
  simp only [restart, restartCheck, hreqs, hpairs', hnone, hcount, List.any_nil, Bool.false_eq_true, Bool.true_eq_false,
    or_self, if_false, List.isEmpty_nil, if_true, restartShown, restartBegun]

theorem latchBcb_eq (s : State) : ∃ b, latchBcb s = { s with boot := { s.boot with bcbAt := b } } := ⟨_, rfl⟩

/-- The ROM's read of the boot control block changes no register, and of the boot unit the address and the phase. -/
theorem bcbRead_keeps (s : State) : (bcbRead s).regs = s.regs ∧
    ∃ b, (bcbRead s).boot = { s.boot with bcbAt := b, phase := .bcb } := by
  obtain ⟨b, h⟩ := latchBcb_eq s
  rw [bcbRead, h]
  exact ⟨rfl, b, rfl⟩

theorem restartShown_boot (n : Nat) (s : State) : (restartShown n s).boot = s.boot := by
  rw [restartShown, fs_boot, fs_boot, setBootState, fs_boot, setFlag, setFlags, wr_boot, fs_boot]

/-- BT_STATUS and BT_EVENT of a restart. -/
theorem restartShown_fields {n : Nat} (s : State) (hn : n < 256) :
    bootState (restartShown n s) = 0 ∧ fg (loc .BT_STATUS) F.BT_STATUS_RESTARTS (restartShown n s) = n ∧
    fb (loc .BT_EVENT) F.BT_EVENT_RESTARTED (restartShown n s) = true := by
  unfold restartShown
  refine ⟨?_, ?_, ?_⟩
  · rw [bootState, fg_fs_beside _ _ _ (by decide) (by decide) (by decide), fg_fs_beside _ _ _ (by decide) (by decide) (by decide)]
    exact bootState_setBootState _ (by decide)
  · rw [fg_fs_beside _ _ _ (by decide) (by decide) (by decide), fg_fs_beside _ _ _ (by decide) (by decide) (by decide),
      setBootState, fg_fs_beside _ _ _ (by decide) (by decide) (by decide), fg_setFlag_other _ _ _ (by decide)]
    exact fg_fs_of_lt _ _ (by decide) (by decide) hn
  · rw [fb_fs_other _ _ (by decide), fb_fs_other _ _ (by decide), setBootState, fb_fs_other _ _ (by decide)]
    exact fb_setFlag_same _ _ (by decide) (by decide)

theorem rd_restartShown_sem {k : Nat} (n : Nat) (s : State) (hk : k < 64) :
    rd (loc .GL_SEM 0 k) (restartShown n s) = rd (loc .GL_SEM 0 k) s := by
  have hpage : loc .GL_SEM 0 k < 0x1000 := by
    rw [loc_sem]
    omega
  have hstatus : loc .GL_SEM 0 k ≠ loc .BT_STATUS := Nat.ne_of_lt (Nat.lt_of_lt_of_le hpage (by decide))
  have hevent : loc .GL_SEM 0 k ≠ loc .BT_EVENT := Nat.ne_of_lt (Nat.lt_of_lt_of_le hpage (by decide))
  rw [restartShown, rd_fs_other _ _ _ _ _ hstatus, rd_fs_other _ _ _ _ _ hstatus, setBootState, rd_fs_other _ _ _ _ _ hstatus,
    rd_setFlag_other _ _ _ _ hevent, rd_fs_other _ _ _ _ _ hstatus]

/-! ## The trial watchdog (R458, R459) -/

/-- The block as the time of its trial is up. -/
def trialOver (s : State) : State := privEdge 1 (setReason 0x09 { s with boot := { s.boot with trialEnd := 0 } })

theorem trialOver_boot (s : State) : (trialOver s).boot = { s.boot with trialEnd := 0 } := (privEdge_boot ..).trans (fs_boot ..)

theorem trialExpiry_trial {s : State} (hst : bootState s = 2) (hrestart : s.boot.restart = false) : trialExpiry s =
    if s.boot.recov then enterRecovery (trialOver s) else restart (some (u s.boot.bcb 4 1 % 2)) (trialOver s) := by
  have hboot := trialOver_boot s
  simp only [trialOver] at hboot
  simp only [trialExpiry, hboot, trialOver]
  rw [if_neg (by simp [hst, hrestart])]

theorem trialExpiry_other {s : State} (h : bootState s ≠ 2 ∨ s.boot.restart = true) : trialExpiry s = s := if_pos h

/-! ## Memory protection (R447, R448) -/

theorem mpuViolation_restarts {a acc : Nat} {s : State} (hcold : coldHeld s = false) (hstep : 4 ≤ s.pins.coldStep)
    (hst : bootState s ≠ 4) (hrestart : s.boot.restart = false) (hright : stwRights a acc s = false)
    (hstall : stwStalls a acc s = false) : mpuViolation a acc s = restart none (setReason 0x0A s) := by
  have hrom : ¬ s.pins.coldStep < 4 := by omega
  simp [mpuViolation, hcold, hrom, hst, hrestart, hright, hstall]

theorem mpuViolation_allowed {a acc : Nat} {s : State} (hright : stwRights a acc s = true) : mpuViolation a acc s = s := by
  simp [mpuViolation, hright]

theorem stwRights_image {s : State} (a acc : Nat) (h : s.boot.entered = true) : stwRights a acc s = true ↔
    (stwRegion a = .image ∧ acc < 2 ∧ (a - 0x10000000) / 65536 ∈ s.boot.matched) ∨
      (stwRegion a = .data ∧ 1 ≤ acc) ∨ (stwRegion a = .fuses ∧ acc = 1) := by
  cases hr : stwRegion a <;> simp [stwRights, hr, h]

theorem stwRights_rom {s : State} (a acc : Nat) (h : s.boot.entered = false) : stwRights a acc s = true ↔
    (stwRegion a = .rom ∧ acc < 2) ∨ (stwRegion a = .image ∧ 1 ≤ acc) ∨ (stwRegion a = .data ∧ 1 ≤ acc) ∨
      (stwRegion a = .fuses ∧ acc = 1) := by
  cases hr : stwRegion a <;> simp [stwRights, hr, h]

/-- Settles O57. -/
theorem bootControl : Obligations.BootControl := by
  refine ⟨?failed, ?recovery, ?confirm, ?confirmRefused, ?release, ?releaseRefused, ?released, ?timeout, ?timeoutWaits,
    ?timeoutLate, ?restart, ?restarting, ?restartRefused, ?restartNow, ?recov, ?recovRefused, ?trialRecov, ?trialRestart,
    ?trialOther, ?mpu, ?mpuAllowed, ?image, ?rom⟩
  case failed =>
    intro r s htried hrecov
    obtain ⟨t, h⟩ := verdictFail_other (r := r) htried hrecov
    obtain ⟨hstate, hslot⟩ := bootState_startLoad false false (setFlag (loc .BT_EVENT) F.BT_EVENT_SLOT_FAIL t)
      (Nat.lt_succ_of_le (Nat.sub_le 1 (bootSlot s)))
    rw [h]
    refine ⟨hstate, hslot, ?_⟩
    rw [fb_congr _ (rd_startLoad_other _ _ _ (by decide))]
    exact fb_setFlag_same _ _ (by decide) (by decide)
  case recovery =>
    intro s
    obtain ⟨b, t, h, hpins⟩ := enterRecovery_eq s
    rw [h]
    refine ⟨?_, ?_, ?_⟩
    · rw [bootState, fg_congr _ (rd_congr _ (bcbRecord_regs ..)), alert, fg_setFlag_other _ _ _ (by decide)]
      exact bootState_setBootState t (by decide)
    · rw [bcbRecord_pins, alert_pins, setBootState, fs_pins, hpins]
    · rw [fb_congr _ (rd_congr _ (bcbRecord_regs ..))]
      exact fb_setFlag_same _ _ (by decide) (by decide)
  case confirm =>
    intro m s hst htime hopen
    obtain ⟨b, h⟩ := writeBtCtrl_confirm hst htime
    refine ⟨_, writes_of_ctlWrite rfl h hopen, ?_, ?_, ?_⟩
    · rw [bootState, fg_congr _ (rd_congr _ (bcbRecord_regs ..)), fg_setFlag_other _ _ _ (by decide)]
      exact bootState_setBootState _ (by decide)
    · rw [bcbRecord, bcbWrite_boot, setFlag, setFlags, wr_boot, setBootState, fs_boot]
    · rw [fb_congr _ (rd_congr _ (bcbRecord_regs ..))]
      exact fb_setFlag_same _ _ (by decide) (by decide)
  case confirmRefused => exact fun m s h hopen => exec_refused rfl hopen (writeBtCtrl_confirm_refused h)
  case release =>
    intro m s hst htaken
    have h := writeBtCtrl_release hst htaken
    refine ⟨fun hrel => writes_of_ctlWrite rfl (h.trans ?_), fun hrel => writes_of_ctlWrite rfl (h.trans ?_)⟩
    · rw [if_neg (by simp [hrel])]
    · rw [if_pos hrel]
  case releaseRefused => exact fun m s h hopen => exec_refused rfl hopen (writeBtCtrl_release_refused h)
  case released => exact release_releases
  case timeout => exact fun s hcold hrel hv => done_eq (releaseTimeout_verdict hcold hrel hv)
  case timeoutWaits => exact fun s hcold hrel hv => done_eq (releaseTimeout_waits hcold hrel hv)
  case timeoutLate => exact fun s hrel => done_eq (releaseTimeout_released hrel)
  case restart =>
    intro m s hst hrestart
    refine writes_of_ctlWrite rfl ((writeBtCtrl_restart hst).trans ?_)
    rw [hrestart]
    rfl
  case restarting =>
    intro m s hst hrestart
    refine writes_of_ctlWrite rfl ((writeBtCtrl_restart hst).trans ?_)
    rw [hrestart]
    rfl
  case restartRefused => exact fun m s h2 h3 hopen => exec_refused rfl hopen (writeBtCtrl_restart_refused h2 h3)
  case restartNow =>
    intro slot s hpairs hreqs
    have hcount : min 255 (fg (loc .BT_STATUS) F.BT_STATUS_RESTARTS s + 1) < 256 := by omega
    obtain ⟨hstate, hrestarts, hevent⟩ := restartShown_fields (releaseSems (restartBegun slot s)) hcount
    obtain ⟨hregs, b, hboot⟩ := bcbRead_keeps (restartShown (min 255 (fg (loc .BT_STATUS) F.BT_STATUS_RESTARTS s + 1))
      (releaseSems (restartBegun slot s)))
    rw [restartShown_boot, releaseSems_boot] at hboot
    rw [restart_now hpairs hreqs, bootState, fg_congr _ (rd_congr _ hregs), fg_congr _ (rd_congr _ hregs),
      fb_congr _ (rd_congr _ hregs), hboot]
    refine ⟨hstate, rfl, rfl, hrestarts, hevent, fun n hn hheld hmaster => ?_⟩
    rw [rd_congr _ hregs, rd_restartShown_sem _ _ hn, releaseSems_eq, rd_forEach_freeSem, if_pos (List.mem_range.mpr hn)]
    exact if_pos ⟨hheld, hmaster⟩
  case recov =>
    intro m k s hk hst hopen
    obtain ⟨hstate, hslot⟩ := bootState_startLoad true false
      (fs (loc .BT_STATUS) F.BT_STATUS_TRIED 0 (latchBcb { s with boot := { s.boot with recov := true } })) hk
    obtain ⟨b, hboot⟩ := startLoad_boot k true false
      (fs (loc .BT_STATUS) F.BT_STATUS_TRIED 0 (latchBcb { s with boot := { s.boot with recov := true } }))
    refine ⟨_, writes_of_ctlWrite (exec_recovGo m s hk) (writeBtCtrl_recov hk hst) hopen, hstate, hslot, ?_, ?_⟩
    · rw [hboot]
      rfl
    · rw [hboot]
      rfl
  case recovRefused =>
    exact fun m k s hk hst hopen => exec_refused (exec_recovGo m s hk) hopen (writeBtCtrl_recov_refused hk hst)
  case trialRecov =>
    intro s hst hrestart hrecov
    exact done_eq ((trialExpiry_trial hst hrestart).trans (if_pos hrecov))
  case trialRestart =>
    intro s hst hrestart hrecov
    exact done_eq ((trialExpiry_trial hst hrestart).trans (if_neg (by simp [hrecov])))
  case trialOther => exact fun s h => done_eq (trialExpiry_other h)
  case mpu =>
    exact fun a acc s hcold hstep hst hrestart hright hstall =>
      done_eq (mpuViolation_restarts hcold hstep hst hrestart hright hstall)
  case mpuAllowed => exact fun a acc s hright => done_eq (mpuViolation_allowed hright)
  case image => exact fun a acc s h => stwRights_image a acc h
  case rom => exact fun a acc s h => stwRights_rom a acc h

end Sys2Proof.Machine
end

section
/-!
PROOFS. The alert cause of a thermal trip, and a register file that is not canonical (O46).
-/

namespace Sys2Proof.Machine

/-! ## Writes of two words of a canonical register file -/

theorem sget_below {α : Type} [DecidableEq α] (d : Nat → α) {lo k : Nat} :
    ∀ m : Smap α, swf d lo m = true → k < lo → sget (d k) m k = d k
  | [], _, _ => rfl
  | (i, v) :: m, h, hk => by
    simp only [swf, Bool.and_eq_true, decide_eq_true_eq] at h
    obtain ⟨⟨hlo, -⟩, hm⟩ := h
    simp only [sget, if_neg (show i ≠ k by omega)]
    exact sget_below d m hm (by omega)

/-- Arrays in canonical form that read alike are one list. -/
theorem swf_ext {α : Type} [DecidableEq α] (d : Nat → α) {lo : Nat} : ∀ m n : Smap α, swf d lo m = true →
    swf d lo n = true → (∀ k, sget (d k) m k = sget (d k) n k) → m = n
  | [], [], _, _, _ => rfl
  | [], (i, v) :: n, _, hn, h => by
    have hread := h i
    simp [sget] at hread
    simp [swf, ← hread] at hn
  | (i, v) :: m, [], hm, _, h => by
    have hread := h i
    simp [sget] at hread
    simp [swf, hread] at hm
  | (i, v) :: m, (j, w) :: n, hm, hn, h => by
    simp only [swf, Bool.and_eq_true, decide_eq_true_eq] at hm hn
    obtain ⟨⟨-, hv⟩, hm⟩ := hm
    obtain ⟨⟨-, hw⟩, hn⟩ := hn
    rcases Nat.lt_trichotomy i j with hij | rfl | hji
    · have hread := h i
      simp only [sget, if_true, if_neg (show j ≠ i by omega), sget_below d n hn (by omega : i < j + 1)] at hread
      exact absurd hread hv
    · have hhead := h i
      simp only [sget, if_true] at hhead
      have htail : ∀ k, sget (d k) m k = sget (d k) n k := fun k => by
        by_cases hk : i = k
        · subst hk
          rw [sget_below d m hm (Nat.lt_succ_self i), sget_below d n hn (Nat.lt_succ_self i)]
        · simpa only [sget, if_neg hk] using h k
      rw [hhead, swf_ext d m n hm hn htail]
    · have hread := h j
      simp only [sget, if_true, if_neg (show i ≠ j by omega), sget_below d m hm (by omega : j < i + 1)] at hread
      exact absurd hread.symm hw

/-- Writes of two words of a canonical register file commute. -/
theorem wr_wr_comm {a b : Nat} (hab : a ≠ b) (v w : Nat) (s : State) (h : Regs.wf s = true) :
    wr a v (wr b w s) = wr b w (wr a v s) := by
  have hregs : (wr a v (wr b w s)).regs = (wr b w (wr a v s)).regs := by
    refine swf_ext resetWord _ _ (wr_wf a v _ (wr_wf b w s h)) (wr_wf b w _ (wr_wf a v s h)) fun k => ?_
    by_cases ha : k = a
    · subst ha
      simp only [wr, rput, sget_sput_same, sget_sput_other _ _ _ _ _ _ hab]
    · by_cases hb : k = b
      · subst hb
        simp only [wr, rput, sget_sput_same, sget_sput_other _ _ _ _ _ _ ha]
      · simp only [wr, rput, sget_sput_other _ _ _ _ _ _ ha, sget_sput_other _ _ _ _ _ _ hb]
  exact congrArg (fun regs => { s with regs := regs }) hregs

/-- On a canonical register file the alert cause of a thermal trip and its source's bit are set in either order. -/
theorem alert_privEdge_comm (s : State) (h : Regs.wf s = true) (hclear : bit (rd (loc .EV_PRIV) s) 6 = false) :
    alert F.GL_ALERT_THERMAL (privEdge 6 s) = privEdge 6 (alert F.GL_ALERT_THERMAL s) := by
  have hne : loc .GL_ALERT ≠ loc .EV_PRIV := by decide
  have hpriv : rd (loc .EV_PRIV) (alert F.GL_ALERT_THERMAL s) = rd (loc .EV_PRIV) s := rd_setFlag_other _ _ _ s hne.symm
  have halert : rd (loc .GL_ALERT) (setFlags (loc .EV_PRIV) (2 ^ 6) s) = rd (loc .GL_ALERT) s := rd_wr_other _ _ _ s hne
  rw [privEdge, privEdge, hpriv, hclear]
  simp only [Bool.false_eq_true, if_false]
  rw [alert, setFlag, setFlags, halert, setFlags, setFlags, hpriv]
  exact wr_wr_comm hne _ _ s h

/-! ## A register file that is not canonical -/

/-- The block held by WARM_RST_N alone, its register file out of order: EV_PRIV, with bit 6 clear, stands before a word of a
lower address. -/
def privFirst : State :=
  { State.reset with
    regs := [(loc .EV_PRIV, 1), (0, 1)]
    pins := { Pins.reset with rstN := true, warmN := false, collapsed := false } }

/-- The addresses of the register file's words, in its order. -/
def listedRegs (s : State) : List Nat := s.regs.map Prod.fst

theorem listedRegs_trip_edge_first :
    listedRegs (settle (alert F.GL_ALERT_THERMAL (privEdge 6 privFirst))) = [0, loc .GL_ALERT, loc .EV_PRIV] := by decide

theorem listedRegs_trip_alert_first :
    listedRegs (settle (privEdge 6 (alert F.GL_ALERT_THERMAL privFirst))) = [loc .GL_ALERT, 0, loc .EV_PRIV] := by decide

/-- Refutes O46: the statement takes register files that are not canonical, and its clause on a thermal trip sets GL_ALERT
THERMAL before the bit of EV_PRIV where the model sets it after. From `privFirst` the two orders leave the words of the
register file in different orders, so the states differ; on a canonical file they agree (`alert_privEdge_comm`, where the
bit is 0). -/
theorem not_sourcesMessagesAndSillageScans : ¬ Obligations.SourcesMessagesAndSillageScans := by
  rintro ⟨-, -, htrip, -⟩
  have hmodel : exec (.privSourceEdge 6) privFirst =
      .next (settle (alert F.GL_ALERT_THERMAL (privEdge 6 privFirst))) := rfl
  have hsame := Host.Outcome.next.inj (hmodel.symm.trans (htrip privFirst rfl))
  have hlisted := listedRegs_trip_edge_first.symm.trans ((congrArg listedRegs hsame).trans listedRegs_trip_alert_first)
  exact absurd hlisted (by decide)

end Sys2Proof.Machine
end

section
/-!
PROOFS. The general channels of the transfer engine: their commands, a descriptor's checks, and an element (O32).
-/

namespace Sys2Proof.Machine

/-! ## What a channel's work leaves alone -/

/-- The registers that the end of a command does not write read as before. -/
abbrev RegsKept : State → State → Prop := Kept (· ∉ settleRegs)

theorem access_regsKept (a : Acc) (s : State) : RegsKept s (access a s) := .of_same ⟨rfl, rfl⟩

theorem setTe_regsKept (n : Nat) (v : Te) (s : State) : RegsKept s (setTe n v s) := .of_same ⟨rfl, rfl⟩

theorem Settling.regsKept {s t : State} (h : Settling s t) : RegsKept s t := ⟨h.regs, h.sv⟩

theorem teIssueReads_regsKept (n k : Nat) (s : State) : RegsKept s (teIssueReads n k s) := by
  induction k generalizing s with
  | zero => exact .refl s
  | succ k ih =>
    unfold teIssueReads
    dsimp only
    split
    · exact .ite (.refl s) (.after (ih _) (.after (access_regsKept ..) (setTe_regsKept ..)))
    · exact .refl s

theorem teIssueWrites_regsKept (n k : Nat) (s : State) : RegsKept s (teIssueWrites n k s) := by
  induction k generalizing s with
  | zero => exact .refl s
  | succ k ih =>
    unfold teIssueWrites
    dsimp only
    split
    · exact .ite (.refl s) (.after (ih _) (.after (access_regsKept ..) (setTe_regsKept ..)))
    · exact .refl s

theorem teStatusWrite_regsKept (n : Nat) (s : State) : RegsKept s (teStatusWrite n s) :=
  .ite (.refl s) (.ite (.refl s) (access_regsKept ..))

theorem teFinish_regsKept (n status : Nat) (side : Bool) (s : State) : RegsKept s (teFinish n status side s) :=
  .after (teStatusWrite_regsKept ..) (setTe_regsKept ..)

theorem tePump_regsKept (n : Nat) (s : State) : RegsKept s (tePump n s) := by
  have hburst (k j : Nat) : RegsKept s (teIssueWrites n k (teIssueReads n j (teIssueWrites n k (teIssueReads n j s)))) :=
    .after (teIssueWrites_regsKept ..) (.after (teIssueReads_regsKept ..) (.after (teIssueWrites_regsKept ..)
      (teIssueReads_regsKept ..)))
  exact .ite (.refl s) (.ite (.ite (teFinish_regsKept ..) (.refl s)) (.ite (.refl s)
    (.ite (.ite (.after (teFinish_regsKept ..) (hburst ..)) (hburst ..)) (.ite (teIssueWrites_regsKept ..) (.refl s)))))

theorem teScanNext_regsKept (n : Nat) (s : State) : RegsKept s (teScanNext n s) :=
  .ite (setTe_regsKept ..) (.ite (setTe_regsKept ..) (.after (access_regsKept ..) (setTe_regsKept ..)))

theorem teScanMore_regsKept (n : Nat) (s : State) : RegsKept s (teScanMore n s) :=
  .ite (.refl s) (.ite (.after (.ite (setTe_regsKept ..) (teScanNext_regsKept ..)) (setTe_regsKept ..))
    (.ite (teScanNext_regsKept ..) (.refl s)))

theorem teWithdraw_regsKept (n p : Nat) (s : State) : RegsKept s (teWithdraw n p s) :=
  .ite (.of_same ⟨rfl, rfl⟩) (.of_same ⟨rfl, rfl⟩)

theorem endReqs_regsKept (p : Purpose → Bool) (s : State) : RegsKept s (endReqs p s) := by
  refine .after (.forEach (fun q t => .after (whoEnded_settling ..).regsKept ?_) ..) (.of_same ⟨rfl, rfl⟩)
  cases outOf q.purpose s
  · exact .refl t
  · exact .of_same ⟨rfl, rfl⟩

theorem endReqs_te (p : Purpose → Bool) (s : State) : (endReqs p s).te = s.te := by
  refine forEach_keeps State.te _ (fun q _ t => ((whoEnded_settling ..).te).trans ?_) _
  cases outOf q.purpose s <;> rfl

theorem getTe_congr {n : Nat} {s t : State} (h : t.te = s.te) : getTe n t = getTe n s := by rw [getTe, getTe, h]

@[simp] theorem getTe_setTe_same (n : Nat) (v : Te) (s : State) : getTe n (setTe n v s) = v := sget_sput_same ..

theorem teStatusWrite_te (n : Nat) (s : State) : (teStatusWrite n s).te = s.te := by
  simp only [teStatusWrite]
  split
  · rfl
  split <;> rfl

/-- A descriptor that finishes waits for its status write. -/
theorem getTe_teFinish (n status : Nat) (side : Bool) (s : State) : getTe n (teFinish n status side s) =
    { getTe n s with phase := .status, status := status, side := side, src := [], dst := [], listBytes := [],
                     pieces := [], issued := 0, wrote := 0, park := none } :=
  (getTe_congr (teStatusWrite_te ..)).trans (getTe_setTe_same ..)

/-! ## The registers of a general channel -/

/-- The registers beside TE_STATE that a channel's commands write. -/
def besideState (n : Nat) : List Nat :=
  [teLoc .TE_CTRL n, teLoc .TE_CFG n, teLoc .TE_PROG_ELEM n, teLoc .TE_PROG_SRC n, teLoc .TE_PROG_DST n, teLoc .TE_FAULT n,
   teLoc .TE_FAULT_ADDR n, teLoc .TE_FAULT_ADDR n + 4, loc .TE_EVENT (n / 4)]

theorem besideState_ne : ∀ n < 16, ∀ a ∈ besideState (48 + n), teLoc .TE_STATE (48 + n) ≠ a := by decide

theorem teConfig_ne : ∀ n < 16, ∀ a ∈ [teLoc .TE_STATE (48 + n), teLoc .TE_PROG_ELEM (48 + n), teLoc .TE_PROG_SRC (48 + n),
    teLoc .TE_PROG_DST (48 + n), teLoc .TE_FAULT (48 + n), teLoc .TE_FAULT_ADDR (48 + n), teLoc .TE_FAULT_ADDR (48 + n) + 4],
    teLoc .TE_CFG (48 + n) ≠ a := by decide

theorem teCtrl_ne : ∀ n < 16, teLoc .TE_CTRL (48 + n) ≠ teLoc .TE_STATE (48 + n) ∧
    teLoc .TE_CTRL (48 + n) ≠ teLoc .TE_CFG (48 + n) := by decide

theorem teRegs_settle : ∀ n < 16, teLoc .TE_STATE (48 + n) ∉ settleRegs ∧ teLoc .TE_CFG (48 + n) ∉ settleRegs ∧
    loc .TE_EVENT ((48 + n) / 4) ∉ settleRegs := by decide

section
variable (n v : Nat) (s : State)

theorem teState_setTeState (hv : v < 8) : teState n (setTeState n v s) = v := fg_fs_of_lt _ _ (by decide) (by decide) hv

theorem teState_setTePos : teState n (setTePos n v s) = teState n s :=
  fg_fs_beside _ _ _ (by decide) (by decide) (.inr (by decide))

theorem tePos_setHoldBit {f : Fld} (c : Bool) (hf : f.lo ≤ f.hi) (hw : f.hi < 32) (hpos : F.TE_STATE_POS.hi < f.lo) :
    tePos n (setHoldBit n f c s) = tePos n s := fg_fs_beside _ _ _ hf hw (.inl hpos)

theorem tePos_setTePos (hv : v < 2 ^ 16) : tePos n (setTePos n v s) = v := fg_fs_of_lt _ _ (by decide) (by decide) hv

theorem teHeld_setTeState : teHeld n (setTeState n v s) = teHeld n s := by
  have hbit (f : Fld) (hf : f.hi < F.TE_STATE_STATE.lo) : teHoldBit n f (setTeState n v s) = teHoldBit n f s :=
    fb_fs_beside _ _ (by decide) (by decide) (.inl hf)
  rw [teHeld, hbit _ (by decide), hbit _ (by decide), hbit _ (by decide)]
  rfl

theorem teHoldBit_setHoldBit_same {f : Fld} (c : Bool) (hf : f.hi = f.lo) (hw : f.hi < 32) :
    teHoldBit n f (setHoldBit n f c s) = c := fb_fs_bool _ _ c hf hw

theorem teHoldBit_setHoldBit_other {f g : Fld} (c : Bool) (hf : f.lo ≤ f.hi) (hw : f.hi < 32)
    (hg : g.hi < f.lo ∨ f.hi < g.lo) : teHoldBit n g (setHoldBit n f c s) = teHoldBit n g s :=
  fb_fs_beside _ _ hf hw hg

theorem teState_setHoldBit {f : Fld} (c : Bool) (hf : f.lo ≤ f.hi) (hst : f.hi < F.TE_STATE_STATE.lo) :
    teState n (setHoldBit n f c s) = teState n s :=
  fg_fs_beside _ _ _ hf (hst.trans (by decide)) (.inr hst)

end

section
variable (k n : Nat) (s : State)

@[simp] theorem getTe_wr (a v : Nat) : getTe k (wr a v s) = getTe k s := getTe_congr rfl

@[simp] theorem getTe_fs (a : Nat) (f : Fld) (v : Nat) : getTe k (fs a f v s) = getTe k s := getTe_wr ..

@[simp] theorem getTe_setTeState (v : Nat) : getTe k (setTeState n v s) = getTe k s := getTe_fs ..

@[simp] theorem getTe_setHoldBit (f : Fld) (c : Bool) : getTe k (setHoldBit n f c s) = getTe k s := getTe_fs ..

@[simp] theorem getTe_clearProg : getTe k (clearProg n s) = getTe k s := by simp only [clearProg, getTe_wr]

end

theorem genChan_eq {n : Nat} (hn : n < 16) : genChan n = 48 + n := by rw [genChan, Nat.mod_eq_of_lt hn]

/-- The word of a doorbell or of an opening has bit 31, and the operand's bits below. -/
theorem doorbell_bits (d : Nat) : bit (d % 2 ^ 31 + 2 ^ 31) 29 = bit d 29 ∧ bit (d % 2 ^ 31 + 2 ^ 31) 30 = bit d 30 ∧
    bit (d % 2 ^ 31 + 2 ^ 31) 31 = true := by
  have hlow : d % 2 ^ 31 < 2 ^ 31 := Nat.mod_lt _ (by decide)
  simp only [bit_eq_testBit]
  rw [Nat.add_comm, Nat.testBit_two_pow_add_gt (by decide), Nat.testBit_two_pow_add_gt (by decide),
    Nat.testBit_two_pow_add_eq, Nat.testBit_mod_two_pow, Nat.testBit_mod_two_pow, Nat.testBit_lt_two_pow hlow]
  simp

theorem disable_bit (d : Nat) : bit (d % 2 ^ 31) 31 = false := by
  rw [bit_eq_testBit, Nat.testBit_mod_two_pow]
  simp

/-! ## A channel whose word TE_STATE reads alike -/

section
variable {n : Nat} {s t : State} (h : rd (teLoc .TE_STATE n) t = rd (teLoc .TE_STATE n) s)
include h

theorem teState_congr : teState n t = teState n s := fg_congr _ h

theorem tePos_congr : tePos n t = tePos n s := fg_congr _ h

theorem teHoldBit_congr (f : Fld) : teHoldBit n f t = teHoldBit n f s := fb_congr _ h

theorem teHeld_congr : teHeld n t = teHeld n s := by
  rw [teHeld, teHoldBit_congr h, teHoldBit_congr h, teHoldBit_congr h]
  rfl

end

/-- A hold that arises in an idle or a running channel makes it drain. -/
theorem teHold_eq {k : Nat} {cause : Fld} (point : Option Nat) {s : State}
    (hst : teState k (setHoldBit k cause true s) = 1 ∨ teState k (setHoldBit k cause true s) = 2) :
    ∃ p v, teHold k cause point s =
      tePump k (teWithdraw k p (setTeState k 3 (setTe k v (setHoldBit k cause true s)))) :=
  ⟨_, _, if_pos hst⟩

theorem teCancel_aborts (n : Nat) (s : State) : (getTe n (teCancel n s)).phase = .status ∧
    (getTe n (teCancel n s)).status = St.aborted := by
  simp only [teCancel, getTe_teFinish, and_self]

theorem bit_rd_setFlags {a b : Nat} (hb : b < 32) (s : State) : bit (rd a (setFlags a (2 ^ b) s)) b = true := by
  rw [setFlags, rd_wr_same, bit_mod_word _ hb, bit_eq_testBit, Nat.testBit_or, Nat.testBit_two_pow_self, Bool.or_true]

/-- What a channel keeps of its work as its drain ends: nothing received beyond the park point (R330). -/
def drainedTo (n : Nat) (s : State) : Te :=
  let t := getTe n s
  { t with pieces := [], issued := t.park.getD 0 * dSew t.raw, wrote := t.park.getD 0 * dDew t.raw }

/-- TE_CFG with PRIO, WEIGHT and RA written. -/
def arbSet (n d : Nat) (s : State) : State :=
  let a := teLoc .TE_CFG n
  fs a F.TE_CFG_PRIO (bits d 26 24) s |> fs a F.TE_CFG_WEIGHT (bits d 23 20) |> fs a F.TE_CFG_RA (bits d 14 8)

/-- TE_CFG with ENABLE written too. -/
def enableSet (n v d : Nat) (s : State) : State := fs (teLoc .TE_CFG n) F.TE_CFG_ENABLE v (arbSet n d s)

/-- No write of the bypass settings follows any more. -/
def fixBypass (s : State) : State := { s with host := { s.host with bypassFixed := true } }

/-- A channel that a write of TE_CFG opens (R320). -/
def opened (n d : Nat) (s : State) : State :=
  fixBypass (setTePos n 0 (setTeState n 1 (enableSet n 1 d s)))

/-- A channel whose closing begins while nothing of its descriptors is under way (R333). -/
def closingBegun (n d : Nat) (s : State) : State :=
  let t := getTe n s
  endReqs (fun p => teOf p == some n && p != .teStatus n && p != .teRelease n)
    (setTe n { t with closing := true, scanning := false, rescan := false, stopRoom := false } (enableSet n 0 d s))

/-- The holds that a channel takes as it is opened: PAUSE, and POWER of its island (R331, R340). -/
def holdsArise (n : Nat) (s : State) : State :=
  let t := if fb (teLoc .TE_CTRL n) F.TE_CTRL_PAUSE s then teHold n F.TE_STATE_HOLD_PAUSE none s else s
  if (getTe n t).power = [] then t else teHold n F.TE_STATE_HOLD_POWER none t

theorem writeTeCfg_enable {m : Master} {n d : Nat} {s : State} (hn : 48 ≤ n) (hopen : teForeign m n s = false)
    (hd : bit d 31 = true) (hoff : fb (teLoc .TE_CFG n) F.TE_CFG_ENABLE s = false) (hst : teState n s = 0)
    (hlow : 3 ≤ teLog n s) (hhigh : teLog n s ≤ 16) :
    writeTeCfg m n d s = some (teScanMore n (holdsArise n (opened n d s))) := by
  have hgo : ¬ (n < 48) := by omega
  have hring : ¬ (teState n s ≠ 0 ∨ teLog n s < 3 ∨ 16 < teLog n s) := by omega
  unfold writeTeCfg
  rw [if_neg hgo, if_neg (by rw [hopen]; decide), if_pos ⟨hd, hoff⟩, if_neg hring]
  rfl

theorem getTe_fixBypass (k : Nat) (s : State) : getTe k (fixBypass s) = getTe k s := rfl

theorem rd_fixBypass (a : Nat) (s : State) : rd a (fixBypass s) = rd a s := rfl

theorem teState_fixBypass (n : Nat) (s : State) : teState n (fixBypass s) = teState n s := fg_congr _ (rd_fixBypass ..)

theorem tePos_fixBypass (n : Nat) (s : State) : tePos n (fixBypass s) = tePos n s := fg_congr _ (rd_fixBypass ..)

@[simp] theorem getTe_arbSet (k n d : Nat) (s : State) : getTe k (arbSet n d s) = getTe k s := by
  simp only [arbSet, getTe_fs]

@[simp] theorem getTe_enableSet (k n v d : Nat) (s : State) : getTe k (enableSet n v d s) = getTe k s := by
  rw [enableSet, getTe_fs, getTe_arbSet]

theorem getTe_opened (k n d : Nat) (s : State) : getTe k (opened n d s) = getTe k s := by
  rw [opened, getTe_fixBypass, setTePos, getTe_fs, getTe_setTeState, getTe_enableSet]

theorem getTe_closingBegun (n d : Nat) (s : State) : getTe n (closingBegun n d s) =
    { getTe n s with closing := true, scanning := false, rescan := false, stopRoom := false } :=
  (getTe_congr (endReqs_te ..)).trans (getTe_setTe_same ..)

theorem closingBegun_regsKept (n d : Nat) (s : State) : RegsKept (enableSet n 0 d s) (closingBegun n d s) := by
  unfold closingBegun
  exact .after (endReqs_regsKept ..) (setTe_regsKept ..)

/-- A channel that closes and has found its final scan's end not yet goes on closing, and writes no register. -/
theorem teCloseNext_goes_on {n : Nat} {s : State} (hclosing : (getTe n s).closing = true)
    (hphase : (getTe n s).phase = .none) (hfinal : (getTe n s).finalDone = false) :
    RegsKept s (teCloseNext n s) ∧ (getTe n (teCloseNext n s)).closing = true := by
  have hgo : ¬ ((getTe n s).closing = false ∨ (getTe n s).phase ≠ .none) := by simp [hclosing, hphase]
  unfold teCloseNext
  rw [if_neg hgo]
  split
  · exact ⟨.after (teFinish_regsKept ..) (setTe_regsKept ..), by rw [getTe_teFinish, getTe_setTe_same]; exact hclosing⟩
  · rw [if_neg (by rw [hfinal]; decide)]
    exact ⟨.after (access_regsKept ..) (setTe_regsKept ..),
      (congrArg Te.closing (getTe_setTe_same ..)).trans hclosing⟩

/-- What a channel keeps when it goes OFF: a remembered doorbell, and the causes of POWER holds (R333). -/
def offWork (n : Nat) (s : State) : Te := { Te.off with rescan := (getTe n s).rescan, power := (getTe n s).power }

theorem teOff_eq (n : Nat) (s : State) : teOff n s =
    wr64 (teLoc .TE_FAULT_ADDR n) 0 (wr (teLoc .TE_FAULT n) 0 (setHoldBit n F.TE_STATE_HOLD_POWER false
      (setHoldBit n F.TE_STATE_HOLD_FAULT false (clearProg n (setTePos n 0 (setTeState n 0
        (setTe n (offWork n s) (teCancelAll n s)))))))) := rfl

theorem getTe_teOff (n : Nat) (s : State) : getTe n (teOff n s) = offWork n s := by
  rw [teOff_eq, wr64, getTe_wr, getTe_wr, getTe_wr, getTe_setHoldBit, getTe_setHoldBit, getTe_clearProg, setTePos, getTe_fs,
    getTe_setTeState, getTe_setTe_same]

/-- What a parked channel goes on with: everything from the park point on is read again (R331). -/
def unparked (n : Nat) (s : State) : Te :=
  let t := getTe n s
  { t with park := none, issued := t.park.getD 0 * dSew t.raw, wrote := t.park.getD 0 * dDew t.raw, pieces := [] }

theorem teStart_idle {n : Nat} {s : State} (hphase : (getTe n s).phase = .none) (hst : teState n s = 1)
    (hcache : (getTe n s).cache = []) (hclosing : (getTe n s).closing = false) : teStart n s = setTeState n 1 s := by
  simp [teStart, hphase, hst, hcache, hclosing]

theorem teScanMore_none {n : Nat} {s : State} (hclosing : (getTe n s).closing = false)
    (hrescan : (getTe n s).rescan = false) (hroom : (getTe n s).stopRoom = false) : teScanMore n s = s := by
  simp [teScanMore, hclosing, hrescan, hroom]

theorem teResume_none {n : Nat} {s : State} (hst : teState n s = 4) (hheld : teHeld n s = false)
    (hphase : (getTe n s).phase = .none) :
    teResume n s = teScanMore n (teStart n (setTeState n 1 (clearProg n (setTe n (unparked n s) s)))) := by
  have hgo : ¬ (teState n s ≠ 4 ∨ teHeld n s = true) := by simp [hst, hheld]
  unfold teResume
  rw [if_neg hgo]
  dsimp only
  split
  · rfl
  all_goals simp_all

/-- What a resumed channel with nothing to do becomes: idle, with nothing remembered. -/
theorem teResume_idle {n : Nat} {s : State} (hst : teState n s = 4) (hheld : teHeld n s = false)
    (hphase : (getTe n s).phase = .none) (hcache : (getTe n s).cache = [])
    (hclosing : (getTe n s).closing = false) (hrescan : (getTe n s).rescan = false)
    (hroom : (getTe n s).stopRoom = false) :
    teResume n s = setTeState n 1 (setTeState n 1 (clearProg n (setTe n (unparked n s) s))) := by
  have hte : getTe n (setTeState n 1 (clearProg n (setTe n (unparked n s) s))) = unparked n s :=
    by simp only [getTe_setTeState, getTe_clearProg, getTe_setTe_same]
  have hstart := teStart_idle (n := n) (s := setTeState n 1 (clearProg n (setTe n (unparked n s) s)))
    (by rw [hte]; exact hphase) (teState_setTeState _ _ _ (by decide)) (by rw [hte]; exact hcache)
    (by rw [hte]; exact hclosing)
  have hmore := teScanMore_none (n := n)
    (s := setTeState n 1 (setTeState n 1 (clearProg n (setTe n (unparked n s) s))))
    (by rw [getTe_setTeState, hte]; exact hclosing) (by rw [getTe_setTeState, hte]; exact hrescan)
    (by rw [getTe_setTeState, hte]; exact hroom)
  rw [teResume_none hst hheld hphase, hstart, hmore]

section
variable {n : Nat} (hn : n < 16)
include hn

theorem RegsKept.teWord {s t : State} (h : RegsKept s t) :
    rd (teLoc .TE_STATE (48 + n)) t = rd (teLoc .TE_STATE (48 + n)) s := h.regs _ (teRegs_settle n hn).1

theorem rd_teState_wr {a : Nat} (ha : a ∈ besideState (48 + n)) (v : Nat) (s : State) :
    rd (teLoc .TE_STATE (48 + n)) (wr a v s) = rd (teLoc .TE_STATE (48 + n)) s :=
  rd_wr_other _ _ v s (besideState_ne n hn a ha)

theorem rd_teState_clearProg (s : State) :
    rd (teLoc .TE_STATE (48 + n)) (clearProg (48 + n) s) = rd (teLoc .TE_STATE (48 + n)) s := by
  rw [clearProg, rd_teState_wr hn (by simp [besideState]), rd_teState_wr hn (by simp [besideState]),
    rd_teState_wr hn (by simp [besideState])]

/-! ## TE_CTRL: doorbell, PAUSE and CANCEL (R320, R329, R331, R332) -/

/-- TE_CTRL with PAUSE written. -/
def pauseSet (n : Nat) (c : Bool) (s : State) : State := fs (teLoc .TE_CTRL n) F.TE_CTRL_PAUSE (b2n c) s

theorem rd_teState_pauseSet (c : Bool) (s : State) :
    rd (teLoc .TE_STATE (48 + n)) (pauseSet (48 + n) c s) = rd (teLoc .TE_STATE (48 + n)) s :=
  rd_teState_wr hn (by simp [besideState]) ..

/-- A write of TE_CTRL that does not cancel writes PAUSE, holds or resumes, and rings where it says so. -/
theorem writeTeCtrl_plain {m : Master} {d : Nat} {s : State} (hopen : teForeign m (48 + n) s = false)
    (hcancel : bit d 29 = false) : writeTeCtrl m (48 + n) d s =
      (let t := pauseSet (48 + n) (bit d 30) s
       let was := fb (teLoc .TE_CTRL (48 + n)) F.TE_CTRL_PAUSE s
       let u := if bit d 30 = true ∧ was = false then teHold (48 + n) F.TE_STATE_HOLD_PAUSE none t
         else if bit d 30 = false ∧ was = true then teUnhold (48 + n) F.TE_STATE_HOLD_PAUSE t else t
       some (if bit d 31 = true ∧ teState (48 + n) u ≠ 0 then teScanStart (48 + n) u else u)) := by
  simp only [writeTeCtrl, hcancel, hopen, Bool.false_eq_true, false_and, or_self, if_false, pauseSet]
  exact if_neg (by omega)

theorem writeTeCtrl_doorbell {m : Master} {d : Nat} {s : State} (hopen : teForeign m (48 + n) s = false)
    (hon : teState (48 + n) s ≠ 0) (hcancel : bit d 29 = false) (hring : bit d 31 = true)
    (hsame : bit d 30 = fb (teLoc .TE_CTRL (48 + n)) F.TE_CTRL_PAUSE s) :
    writeTeCtrl m (48 + n) d s = some (teScanStart (48 + n) (pauseSet (48 + n) (bit d 30) s)) := by
  have hon' : teState (48 + n) (pauseSet (48 + n) (bit d 30) s) ≠ 0 :=
    (teState_congr (rd_teState_pauseSet hn ..)).trans_ne hon
  rw [writeTeCtrl_plain hn hopen hcancel, ← hsame]
  simp only [hring]
  cases hd : bit d 30 <;> simp [hd] at hon' ⊢ <;> simp [hon']


/-- A hold whose bit is `cause` makes a channel drain that is idle or runs (R329). -/
theorem teHold_drains {cause : Fld} (point : Option Nat) {s : State} (hf : cause.hi = cause.lo)
    (hcause : cause.hi < F.TE_STATE_STATE.lo) (hst : teState (48 + n) s = 1 ∨ teState (48 + n) s = 2) :
    teState (48 + n) (teHold (48 + n) cause point s) = 3 ∧
      teHoldBit (48 + n) cause (teHold (48 + n) cause point s) = true := by
  have hstate := teState_setHoldBit (48 + n) s (f := cause) true (by omega) hcause
  obtain ⟨p, v, heq⟩ := teHold_eq point (k := 48 + n) (cause := cause) (s := s) (by rwa [hstate])
  have hword := RegsKept.teWord hn (.after (tePump_regsKept (48 + n) _) (teWithdraw_regsKept (48 + n) p
    (setTeState (48 + n) 3 (setTe (48 + n) v (setHoldBit (48 + n) cause true s)))))
  rw [← heq] at hword
  refine ⟨(teState_congr hword).trans (teState_setTeState _ _ _ (by decide)), (teHoldBit_congr hword _).trans ?_⟩
  exact (fb_fs_beside _ _ (by decide) (by decide) (.inl hcause)).trans
    (teHoldBit_setHoldBit_same (48 + n) s true hf (hcause.trans (by decide)))

theorem tePause_drains {m : Master} {s : State} (hopen : teForeign m (48 + n) s = false)
    (hst : teState (48 + n) s = 1 ∨ teState (48 + n) s = 2) (hrun : fb (teLoc .TE_CTRL (48 + n)) F.TE_CTRL_PAUSE s = false) :
    ∃ e, writeTeCtrl m (48 + n) (2 ^ 30) s = some e ∧ teState (48 + n) e = 3 ∧
      teHoldBit (48 + n) F.TE_STATE_HOLD_PAUSE e = true := by
  have hset := teState_congr (rd_teState_pauseSet hn true s)
  refine ⟨_, ?_, teHold_drains hn none (by decide) (by decide) (s := pauseSet (48 + n) true s) (by rwa [hset])⟩
  have hd : bit (2 ^ 30) 29 = false ∧ bit (2 ^ 30) 30 = true ∧ bit (2 ^ 30) 31 = false := by decide
  obtain ⟨h29, h30, h31⟩ := hd
  rw [writeTeCtrl_plain hn hopen h29, h30, h31]
  simp [hrun]

theorem teUnpause_idle {m : Master} {s : State} (hopen : teForeign m (48 + n) s = false) (hst : teState (48 + n) s = 4)
    (hpaused : fb (teLoc .TE_CTRL (48 + n)) F.TE_CTRL_PAUSE s = true)
    (hfault : teHoldBit (48 + n) F.TE_STATE_HOLD_FAULT s = false)
    (hpower : teHoldBit (48 + n) F.TE_STATE_HOLD_POWER s = false)
    (hphase : (getTe (48 + n) s).phase = .none) (hcache : (getTe (48 + n) s).cache = [])
    (hclosing : (getTe (48 + n) s).closing = false) (hrescan : (getTe (48 + n) s).rescan = false)
    (hroom : (getTe (48 + n) s).stopRoom = false) :
    ∃ e, writeTeCtrl m (48 + n) 0 s = some e ∧ teState (48 + n) e = 1 ∧ teHeld (48 + n) e = false := by
  obtain ⟨u, hu⟩ : ∃ u, u = setHoldBit (48 + n) F.TE_STATE_HOLD_PAUSE false (pauseSet (48 + n) false s) := ⟨_, rfl⟩
  have hword := rd_teState_pauseSet hn false s
  have hte : getTe (48 + n) u = getTe (48 + n) s := by rw [hu, getTe_setHoldBit, pauseSet, getTe_fs]
  have hustate : teState (48 + n) u = 4 := by
    rw [hu, teState_setHoldBit _ _ _ (by decide) (by decide), teState_congr hword, hst]
  have hbeside (f : Fld) (hf : f.hi < F.TE_STATE_HOLD_PAUSE.lo) : teHoldBit (48 + n) f u = teHoldBit (48 + n) f s := by
    rw [hu, teHoldBit_setHoldBit_other _ _ _ (by decide) (by decide) (.inl hf), teHoldBit_congr hword]
  have hheld : teHeld (48 + n) u = false := by
    rw [teHeld, hbeside F.TE_STATE_HOLD_FAULT (by decide), hbeside F.TE_STATE_HOLD_POWER (by decide), hfault, hpower, hu,
      teHoldBit_setHoldBit_same _ _ _ (by decide) (by decide)]
    rfl
  have hres := teResume_idle hustate hheld (by rwa [hte]) (by rwa [hte]) (by rwa [hte]) (by rwa [hte]) (by rwa [hte])
  refine ⟨teResume (48 + n) u, ?_, ?_, ?_⟩
  · have hd : bit 0 29 = false ∧ bit 0 30 = false ∧ bit 0 31 = false := by decide
    obtain ⟨h29, h30, h31⟩ := hd
    rw [writeTeCtrl_plain hn hopen h29, h30, h31, hu]
    simp [hpaused, teUnhold]
  · rw [hres]
    exact teState_setTeState _ _ _ (by decide)
  · rw [hres, teHeld_setTeState, teHeld_setTeState, teHeld_congr (rd_teState_clearProg hn _)]
    exact hheld

/-! ### CANCEL (R332) -/

theorem writeTeCtrl_cancel {m : Master} {pause : Bool} {s : State} (hopen : teForeign m (48 + n) s = false)
    (hst : teState (48 + n) s = 4) (hphase : (getTe (48 + n) s).phase = .data ∨ (getTe (48 + n) s).phase = .lists)
    (hsame : fb (teLoc .TE_CTRL (48 + n)) F.TE_CTRL_PAUSE s = pause) :
    writeTeCtrl m (48 + n) (2 ^ 29 + b2n pause * 2 ^ 30) s = some (teCancel (48 + n) (pauseSet (48 + n) pause s)) := by
  have hd : ∀ c : Bool, bit (2 ^ 29 + b2n c * 2 ^ 30) 29 = true ∧ bit (2 ^ 29 + b2n c * 2 ^ 30) 30 = c ∧
      bit (2 ^ 29 + b2n c * 2 ^ 30) 31 = false := by decide
  obtain ⟨h29, h30, h31⟩ := hd pause
  have hgo : ¬ (48 + n < 48) := by omega
  simp only [writeTeCtrl, h29, h30, h31, hopen, hst, hsame, if_neg hgo]
  rcases hphase with hphase | hphase <;> cases pause <;> simp [hphase, pauseSet]

theorem writeTeCtrl_cancel_refused {m : Master} {pause : Bool} {s : State} (hst : teState (48 + n) s ≠ 4) :
    writeTeCtrl m (48 + n) (2 ^ 29 + b2n pause * 2 ^ 30) s = none := by
  have hd : ∀ c : Bool, bit (2 ^ 29 + b2n c * 2 ^ 30) 29 = true := by decide
  have hgo : ¬ (48 + n < 48) := by omega
  simp only [writeTeCtrl, hd pause, if_neg hgo]
  exact if_pos (.inr ⟨trivial, .inl hst⟩)

/-! ## The end of a drain (R330) -/

theorem rd_teState_showProg (s : State) :
    rd (teLoc .TE_STATE (48 + n)) (showProg (48 + n) s) = rd (teLoc .TE_STATE (48 + n)) s := by
  have hmem : teLoc .TE_PROG_ELEM (48 + n) ∈ besideState (48 + n) ∧ teLoc .TE_PROG_SRC (48 + n) ∈ besideState (48 + n) ∧
      teLoc .TE_PROG_DST (48 + n) ∈ besideState (48 + n) := by simp [besideState]
  obtain ⟨helem, hsrc, hdst⟩ := hmem
  simp only [showProg]
  split
  · rw [rd_teState_wr hn hdst, rd_teState_wr hn hsrc, rd_teState_wr hn helem]
  · split
    · exact rd_teState_wr hn helem ..
    · rfl

theorem rd_teState_teFlag (b : Nat) (s : State) :
    rd (teLoc .TE_STATE (48 + n)) (teFlag (48 + n) b s) = rd (teLoc .TE_STATE (48 + n)) s :=
  rd_teState_wr hn (by simp [besideState]) ..

/-- The drain of a channel that no fault holds ends with it parked and its hold shown. -/
theorem teDrainEnd_parks {s : State} (hst : teState (48 + n) s = 3) (hdrained : teDrained (48 + n) s = true)
    (hheld : teHeld (48 + n) s = true) (hfault : teHoldBit (48 + n) F.TE_STATE_HOLD_FAULT s = false) :
    teDrainEnd (48 + n) s =
      teFlag (48 + n) 3 (showProg (48 + n) (setTeState (48 + n) 4 (setTe (48 + n) (drainedTo (48 + n) s) s))) := by
  have hword : rd (teLoc .TE_STATE (48 + n))
      (teFlag (48 + n) 3 (showProg (48 + n) (setTeState (48 + n) 4 (setTe (48 + n) (drainedTo (48 + n) s) s)))) =
        rd (teLoc .TE_STATE (48 + n)) (setTeState (48 + n) 4 s) :=
    (rd_teState_teFlag hn ..).trans (rd_teState_showProg hn _)
  have hheld' := (teHeld_congr hword).trans ((teHeld_setTeState ..).trans hheld)
  have hfault' := (teHoldBit_congr hword F.TE_STATE_HOLD_FAULT).trans
    ((fb_fs_beside _ _ (by decide) (by decide) (.inl (by decide))).trans hfault)
  unfold teDrainEnd
  rw [if_pos ⟨hst, hdrained⟩]
  dsimp only
  rw [if_neg (by rw [Bool.not_eq_true]; exact hfault')]
  exact if_pos (.inr hheld')

theorem teDrainEnd_shows {s : State} (hst : teState (48 + n) s = 3) (hdrained : teDrained (48 + n) s = true)
    (hheld : teHeld (48 + n) s = true) (hfault : teHoldBit (48 + n) F.TE_STATE_HOLD_FAULT s = false) :
    teState (48 + n) (settle (teDrainEnd (48 + n) s)) = 4 ∧
      bit (rd (loc .TE_EVENT ((48 + n) / 4)) (settle (teDrainEnd (48 + n) s))) (8 * ((48 + n) % 4) + 3) = true := by
  obtain ⟨hstate, -, hevent⟩ := teRegs_settle n hn
  rw [teDrainEnd_parks hn hst hdrained hheld hfault, rd_settle hevent]
  refine ⟨?_, bit_rd_setFlags (by omega) _⟩
  refine (teState_congr (rd_settle hstate _)).trans ((teState_congr (rd_teState_teFlag hn ..)).trans ?_)
  exact (teState_congr (rd_teState_showProg hn _)).trans (teState_setTeState _ _ _ (by decide))

/-! ## TE_CFG: ENABLE (R320, R333) -/

theorem rd_teCtrl_opened (d : Nat) (s : State) :
    rd (teLoc .TE_CTRL (48 + n)) (opened (48 + n) d s) = rd (teLoc .TE_CTRL (48 + n)) s := by
  obtain ⟨hstate, hcfg⟩ := teCtrl_ne n hn
  have harb : rd (teLoc .TE_CTRL (48 + n)) (arbSet (48 + n) d s) = rd (teLoc .TE_CTRL (48 + n)) s :=
    (rd_fs_other _ _ _ _ _ hcfg).trans ((rd_fs_other _ _ _ _ _ hcfg).trans (rd_fs_other _ _ _ _ _ hcfg))
  rw [opened, rd_fixBypass, setTePos, rd_fs_other _ _ _ _ _ hstate, setTeState, rd_fs_other _ _ _ _ _ hstate,
    enableSet, rd_fs_other _ _ _ _ _ hcfg, harb]

/-- A channel with a ring that nothing holds is opened, and a scan remembered goes on. -/
theorem writeTeCfg_opens {m : Master} {d : Nat} {s : State} (hopen : teForeign m (48 + n) s = false)
    (hd : bit d 31 = true) (hst : teState (48 + n) s = 0) (hoff : fb (teLoc .TE_CFG (48 + n)) F.TE_CFG_ENABLE s = false)
    (hlow : 3 ≤ teLog (48 + n) s) (hhigh : teLog (48 + n) s ≤ 16)
    (hrun : fb (teLoc .TE_CTRL (48 + n)) F.TE_CTRL_PAUSE s = false) (hpower : (getTe (48 + n) s).power = []) :
    writeTeCfg m (48 + n) d s = some (teScanMore (48 + n) (opened (48 + n) d s)) := by
  have hrun' : fb (teLoc .TE_CTRL (48 + n)) F.TE_CTRL_PAUSE (opened (48 + n) d s) = false :=
    (fb_congr _ (rd_teCtrl_opened hn d s)).trans hrun
  have hpower' : (getTe (48 + n) (opened (48 + n) d s)).power = [] := (congrArg Te.power (getTe_opened ..)).trans hpower
  rw [writeTeCfg_enable (by omega) hopen hd hoff hst hlow hhigh]
  simp only [holdsArise, hrun', Bool.false_eq_true, if_false, hpower', if_true]

theorem teOpened_shows (d : Nat) (s : State) :
    teState (48 + n) (teScanMore (48 + n) (opened (48 + n) d s)) = 1 ∧
      tePos (48 + n) (teScanMore (48 + n) (opened (48 + n) d s)) = 0 ∧
      fb (teLoc .TE_CFG (48 + n)) F.TE_CFG_ENABLE (teScanMore (48 + n) (opened (48 + n) d s)) = true := by
  have hmore := teScanMore_regsKept (48 + n) (opened (48 + n) d s)
  obtain ⟨-, hcfg, -⟩ := teRegs_settle n hn
  have hne : teLoc .TE_CFG (48 + n) ≠ teLoc .TE_STATE (48 + n) := teConfig_ne n hn _ (by simp)
  refine ⟨(teState_congr (hmore.teWord hn)).trans ?_, (tePos_congr (hmore.teWord hn)).trans ?_,
    (fb_congr _ (hmore.regs _ hcfg)).trans ?_⟩
  · rw [opened, teState_fixBypass, teState_setTePos]
    exact teState_setTeState _ _ _ (by decide)
  · rw [opened, tePos_fixBypass]
    exact tePos_setTePos _ _ _ (by decide)
  · rw [opened, fb_congr _ (rd_fixBypass ..), setTePos, fb_fs_other _ _ hne, setTeState, fb_fs_other _ _ hne]
    exact fb_fs_one _ _ (by decide) (by decide)

theorem writeTeCfg_runs {m : Master} {d : Nat} {s : State} (hd : bit d 31 = false)
    (hst : teState (48 + n) s = 2 ∨ teState (48 + n) s = 3) (hon : fb (teLoc .TE_CFG (48 + n)) F.TE_CFG_ENABLE s = true) :
    writeTeCfg m (48 + n) d s = none := by
  have hgo : ¬ (48 + n < 48) := by omega
  unfold writeTeCfg
  rw [if_neg hgo]
  rcases hst with hst | hst <;> simp [hd, hst, hon]

/-- ENABLE = 0 closes a stopped channel. -/
theorem writeTeCfg_closes {m : Master} {d : Nat} {s : State} (hopen : teForeign m (48 + n) s = false)
    (hd : bit d 31 = false) (hst : teState (48 + n) s = 5) :
    writeTeCfg m (48 + n) d s = some (teOff (48 + n) (enableSet (48 + n) 0 d s)) := by
  have hgo : ¬ (48 + n < 48) := by omega
  unfold writeTeCfg
  rw [if_neg hgo]
  simp only [hopen, hd, hst]
  simp [enableSet, arbSet]

/-- ENABLE = 0 starts the closing of an idle channel (R333). -/
theorem writeTeCfg_starts_closing {m : Master} {d : Nat} {s : State} (hopen : teForeign m (48 + n) s = false)
    (hd : bit d 31 = false) (hst : teState (48 + n) s = 1) (hon : fb (teLoc .TE_CFG (48 + n)) F.TE_CFG_ENABLE s = true)
    (hphase : (getTe (48 + n) s).phase = .none) :
    writeTeCfg m (48 + n) d s = some (teCloseNext (48 + n) (closingBegun (48 + n) d s)) := by
  have hgo : ¬ (48 + n < 48) := by omega
  unfold writeTeCfg
  rw [if_neg hgo]
  simp only [hopen, hd, hst, hon, hphase]
  simp [enableSet, arbSet, closingBegun, hphase]

/-- What the closing of an idle channel leaves: it goes on, and ENABLE reads 0. -/
theorem teCloseNext_closes (d : Nat) {s : State} (hphase : (getTe (48 + n) s).phase = .none)
    (hfinal : (getTe (48 + n) s).finalDone = false) :
    fb (teLoc .TE_CFG (48 + n)) F.TE_CFG_ENABLE (teCloseNext (48 + n) (closingBegun (48 + n) d s)) = false ∧
      (getTe (48 + n) (teCloseNext (48 + n) (closingBegun (48 + n) d s))).closing = true := by
  obtain ⟨-, hcfg, -⟩ := teRegs_settle n hn
  obtain ⟨hkept, hclosing⟩ := teCloseNext_goes_on (n := 48 + n) (s := closingBegun (48 + n) d s)
    (by rw [getTe_closingBegun]) (by rw [getTe_closingBegun]; exact hphase) (by rw [getTe_closingBegun]; exact hfinal)
  refine ⟨(fb_congr _ (hkept.regs _ hcfg)).trans ?_, hclosing⟩
  exact (fb_congr _ ((closingBegun_regsKept ..).regs _ hcfg)).trans (fb_fs_clear _ _ (by decide) (by decide))

theorem rd_teCfg_teOff (s : State) :
    rd (teLoc .TE_CFG (48 + n)) (teOff (48 + n) s) = rd (teLoc .TE_CFG (48 + n)) s := by
  obtain ⟨-, hcfg, -⟩ := teRegs_settle n hn
  have hne := teConfig_ne n hn
  have hkept : RegsKept s (setTe (48 + n) (offWork (48 + n) s) (teCancelAll (48 + n) s)) :=
    .after (setTe_regsKept ..) (endReqs_regsKept ..)
  rw [teOff_eq, wr64, rd_wr_other _ _ _ _ (hne _ (by simp)), rd_wr_other _ _ _ _ (hne _ (by simp)),
    rd_wr_other _ _ _ _ (hne _ (by simp)), setHoldBit, rd_fs_other _ _ _ _ _ (hne _ (by simp)), setHoldBit,
    rd_fs_other _ _ _ _ _ (hne _ (by simp)), clearProg, rd_wr_other _ _ _ _ (hne _ (by simp)),
    rd_wr_other _ _ _ _ (hne _ (by simp)), rd_wr_other _ _ _ _ (hne _ (by simp)), setTePos,
    rd_fs_other _ _ _ _ _ (hne _ (by simp)), setTeState, rd_fs_other _ _ _ _ _ (hne _ (by simp))]
  exact hkept.regs _ hcfg

/-- A channel that is off stands at position 0. -/
theorem teOff_shows (s : State) : teState (48 + n) (teOff (48 + n) s) = 0 ∧ tePos (48 + n) (teOff (48 + n) s) = 0 := by
  have hfault : teLoc .TE_FAULT (48 + n) ∈ besideState (48 + n) := by simp [besideState]
  have hlow : teLoc .TE_FAULT_ADDR (48 + n) ∈ besideState (48 + n) := by simp [besideState]
  have hhigh : teLoc .TE_FAULT_ADDR (48 + n) + 4 ∈ besideState (48 + n) := by simp [besideState]
  obtain ⟨v, t, hv⟩ : ∃ v t, v = setTePos (48 + n) 0 (setTeState (48 + n) 0 t) ∧
      rd (teLoc .TE_STATE (48 + n)) (teOff (48 + n) s) = rd (teLoc .TE_STATE (48 + n))
        (setHoldBit (48 + n) F.TE_STATE_HOLD_POWER false
          (setHoldBit (48 + n) F.TE_STATE_HOLD_FAULT false (clearProg (48 + n) v))) :=
    ⟨_, _, rfl, by rw [teOff_eq, wr64, rd_teState_wr hn hhigh, rd_teState_wr hn hlow, rd_teState_wr hn hfault]⟩
  obtain ⟨rfl, hword⟩ := hv
  constructor
  · rw [teState_congr hword, teState_setHoldBit _ _ _ (by decide) (by decide),
      teState_setHoldBit _ _ _ (by decide) (by decide), teState_congr (rd_teState_clearProg hn _), teState_setTePos]
    exact teState_setTeState _ _ _ (by decide)
  · rw [tePos_congr hword, tePos_setHoldBit _ _ _ (by decide) (by decide) (by decide),
      tePos_setHoldBit _ _ _ (by decide) (by decide) (by decide), tePos_congr (rd_teState_clearProg hn _)]
    exact tePos_setTePos _ _ _ (by decide)

/-! ## The commands -/

section
variable (m : Master) (d : W32) (pause : Bool) (s : State)

theorem exec_teDoorbell : exec (.teDoorbell m n d) s = done (ctlWrite m (teLoc .TE_CTRL (48 + n)) (d.toNat % 2 ^ 31 + 2 ^ 31)
    (writeTeCtrl m (48 + n) (d.toNat % 2 ^ 31 + 2 ^ 31)) s) :=
  congrArg (fun c => done (ctlWrite m (teLoc .TE_CTRL c) (d.toNat % 2 ^ 31 + 2 ^ 31) (writeTeCtrl m c _) s)) (genChan_eq hn)

theorem exec_tePause : exec (.tePause m n) s =
    done (ctlWrite m (teLoc .TE_CTRL (48 + n)) (2 ^ 30) (writeTeCtrl m (48 + n) (2 ^ 30)) s) :=
  congrArg (fun c => done (ctlWrite m (teLoc .TE_CTRL c) (2 ^ 30) (writeTeCtrl m c _) s)) (genChan_eq hn)

theorem exec_teUnpause : exec (.teUnpause m n) s =
    done (ctlWrite m (teLoc .TE_CTRL (48 + n)) 0 (writeTeCtrl m (48 + n) 0) s) :=
  congrArg (fun c => done (ctlWrite m (teLoc .TE_CTRL c) 0 (writeTeCtrl m c 0) s)) (genChan_eq hn)

theorem exec_teCancel : exec (.teCancel m n pause) s = done (ctlWrite m (teLoc .TE_CTRL (48 + n))
    (2 ^ 29 + b2n pause * 2 ^ 30) (writeTeCtrl m (48 + n) (2 ^ 29 + b2n pause * 2 ^ 30)) s) :=
  congrArg (fun c => done (ctlWrite m (teLoc .TE_CTRL c) (2 ^ 29 + b2n pause * 2 ^ 30) (writeTeCtrl m c _) s)) (genChan_eq hn)

theorem exec_teEnable : exec (.teEnable m n d) s = done (ctlWrite m (teLoc .TE_CFG (48 + n)) (d.toNat % 2 ^ 31 + 2 ^ 31)
    (writeTeCfg m (48 + n) (d.toNat % 2 ^ 31 + 2 ^ 31)) s) :=
  congrArg (fun c => done (ctlWrite m (teLoc .TE_CFG c) (d.toNat % 2 ^ 31 + 2 ^ 31) (writeTeCfg m c _) s)) (genChan_eq hn)

theorem exec_teDisable : exec (.teDisable m n d) s =
    done (ctlWrite m (teLoc .TE_CFG (48 + n)) (d.toNat % 2 ^ 31) (writeTeCfg m (48 + n) (d.toNat % 2 ^ 31)) s) :=
  congrArg (fun c => done (ctlWrite m (teLoc .TE_CFG c) (d.toNat % 2 ^ 31) (writeTeCfg m c _) s)) (genChan_eq hn)

theorem exec_teDrainEnd : exec (.teDrainEnd n) s = .next (settle (teDrainEnd (48 + n) s)) :=
  congrArg (fun c => Host.Outcome.next (settle (teDrainEnd c s))) (genChan_eq hn)

end

end

/-! ## A descriptor's first checks (R322) and an element (R323) -/

section
variable {d : List Byte}

theorem descCheck_badOpcode (h : 1 < u d 0 1) : descCheck d = St.badOpcode := if_pos h

theorem descCheck_reserved (hop : u d 0 1 ≤ 1)
    (h : descReserved d = false ∨ bits (u d 2 1) 2 0 = 7 ∨ bits (u d 2 1) 6 4 = 7) :
    descCheck d = St.reservedNonzero :=
  (if_neg (by omega)).trans (if_pos (h.imp_right (Or.imp (fun h7 => by omega) fun h7 => by omega)))

theorem descCheck_badLength (hop : u d 0 1 = 0) (hres : descReserved d = true) (hsrc : bits (u d 2 1) 2 0 < 7)
    (hdst : bits (u d 2 1) 6 4 < 7) (hlen : dNelem d ≠ 0) : descCheck d = St.badLength := by
  have hwidths : ¬ (descReserved d = false ∨ 6 < bits (u d 2 1) 2 0 ∨ 6 < bits (u d 2 1) 6 4) := by
    simp only [hres, Bool.true_eq_false, false_or]
    omega
  refine (if_neg (by omega)).trans ((if_neg hwidths).trans (if_pos ?_))
  rwa [if_neg (by omega)]

theorem convertEl_length (sew dew : Nat) (sx : Bool) (b : List Byte) : (convertEl sew dew sx b).length = dew := by
  simp [convertEl]

theorem convertEl_getD (sew : Nat) {dew i : Nat} (sx : Bool) (b : List Byte) (hi : i < dew) :
    (convertEl sew dew sx b).getD i 0 =
      (if i < sew then b.getD i 0 else if sx && bit (b.getD (sew - 1) 0).toNat 7 then 0xFF else 0) := by
  simp [convertEl, List.getD_eq_getElem?_getD, hi]

end

/-- Settles O32, command by command: what the write of TE_CTRL or TE_CFG leaves in each state. -/
theorem transferEngine : Obligations.TransferEngine := by
  refine ⟨?_, ?_, ?_, ?_, ?_, ?_, ?_, ?_, ?_, ?_, fun d => descCheck_badOpcode, fun d => descCheck_reserved,
    fun d => descCheck_badLength, fun sew dew i sx b => convertEl_getD sew sx b, convertEl_length⟩
  · intro m n d s hn hopen hon hcancel hsame
    obtain ⟨h29, h30, h31⟩ := doorbell_bits d.toNat
    refine writes_of_ctlWrite (exec_teDoorbell hn m d s)
      ((writeTeCtrl_doorbell hn hopen hon (h29.trans hcancel) h31 (h30.trans hsame)).trans ?_)
    rw [h30, pauseSet]
  · intro m n s hn hopen hst hrun hwrite
    obtain ⟨e, heff, hshown⟩ := tePause_drains hn hopen (by simpa using hst) hrun
    exact ⟨e, writes_of_ctlWrite (exec_tePause hn m s) heff hwrite, hshown⟩
  · intro n s hn hst hdrained hheld hfault
    exact ⟨_, exec_teDrainEnd hn s, teDrainEnd_shows hn hst hdrained hheld hfault⟩
  · intro m n s hn hopen hst hpaused hfault hpower hphase hcache hclosing hrescan hroom hwrite
    obtain ⟨e, heff, hshown⟩ :=
      teUnpause_idle hn hopen hst hpaused hfault hpower hphase hcache hclosing hrescan hroom
    exact ⟨e, writes_of_ctlWrite (exec_teUnpause hn m s) heff hwrite, hshown⟩
  · intro m n pause s hn hopen hst hphase hsame hwrite
    exact ⟨_, writes_of_ctlWrite (exec_teCancel hn m pause s) (writeTeCtrl_cancel hn hopen hst hphase hsame) hwrite,
      teCancel_aborts ..⟩
  · intro m n d s hn hopen hst hoff hlow hhigh hrun hpower hwrite
    obtain ⟨-, -, h31⟩ := doorbell_bits d.toNat
    exact ⟨_, writes_of_ctlWrite (exec_teEnable hn m d s)
      (writeTeCfg_opens hn hopen h31 hst hoff hlow hhigh hrun hpower) hwrite, teOpened_shows hn _ s⟩
  · intro m n d s hn hopen hst hwrite
    have hoff := teOff_shows hn (enableSet (48 + n) 0 (d.toNat % 2 ^ 31) s)
    refine ⟨_, writes_of_ctlWrite (exec_teDisable hn m d s) (writeTeCfg_closes hn hopen (disable_bit _) hst) hwrite,
      hoff.1, hoff.2, (fb_congr _ (rd_teCfg_teOff hn _)).trans (fb_fs_clear _ _ (by decide) (by decide)), ?_⟩
    rw [getTe_teOff, offWork, getTe_enableSet]
  · intro m n d s hn hopen hst hon hphase hfinal hwrite
    exact ⟨_, writes_of_ctlWrite (exec_teDisable hn m d s)
      (writeTeCfg_starts_closing hn hopen (disable_bit _) hst hon hphase) hwrite, teCloseNext_closes hn _ hphase hfinal⟩
  · intro m n d s hn hopen hst hon hwrite
    exact exec_refused (exec_teDisable hn m d s) hwrite (writeTeCfg_runs hn (disable_bit _) (by simpa using hst) hon)
  · intro m n pause s hn hst hwrite
    exact exec_refused (exec_teCancel hn m pause s) hwrite (writeTeCtrl_cancel_refused hn hst)

end Sys2Proof.Machine
end

section
/-!
PROOFS. Power states: IDLE, wake sources, and the phases of an entry and the steps of a wake (O14).
-/

namespace Sys2Proof.Machine

/-! ## Sequences (R437, R442) -/

theorem seqOf_code {c : Nat} {q : PSeq} {s : State} (h : seqOf c s = some q) : q.code = c := by
  simpa using List.find?_some h

theorem seqOf_congr {c : Nat} {s t : State} (h : t.pw = s.pw) : seqOf c t = seqOf c s := by rw [seqOf, seqOf, h]

theorem fs_pw (a : Nat) (f : Fld) (v : Nat) (s : State) : (fs a f v s).pw = s.pw := wr_pw ..

theorem fs_isl (a : Nat) (f : Fld) (v : Nat) (s : State) : (fs a f v s).isl = s.isl := wr_isl ..

@[simp] theorem showSeq_pw (q : PSeq) (s : State) : (showSeq q s).pw = s.pw := by
  unfold showSeq
  split
  · rw [fs_pw, fs_pw, fs_pw]
  · rfl

theorem showSeq_pins (q : PSeq) (s : State) : (showSeq q s).pins = s.pins := by
  unfold showSeq
  split
  · rw [fs_pins, fs_pins, fs_pins]
  · rfl

theorem markWaking_pw (cs : List Nat) (s : State) : (markWaking cs s).pw = s.pw := by
  unfold markWaking
  exact forEach_keeps State.pw cs (fun _ _ _ => setIsl_pw ..) s

/-- A sequence started where there was none of its code is the one of its code. -/
theorem seqOf_newSeq {q : PSeq} {s : State} (h : seqOf q.code s = none) : seqOf q.code (newSeq q s) = some q := by
  rw [newSeq, seqOf, showSeq_pw]
  rw [seqOf] at h
  simp [List.find?_append, h]

theorem seqOf_setSeq {c : Nat} {q r : PSeq} {s : State} (h : seqOf c s = some r) (hq : q.code = c) :
    seqOf c (setSeq q s) ≠ none := by
  rw [setSeq, seqOf, showSeq_pw]
  have hr := List.mem_of_find?_eq_some h
  have hcode := seqOf_code h
  simp only [ne_eq, List.find?_eq_none, List.mem_map]
  intro hnone
  exact hnone q ⟨r, hr, by simp [hcode, hq]⟩ (by simp [hq])

/-! ## IDLE (R434) -/

theorem idleEntry_enters {c : Nat} {s : State} (hidles : idlesIsl c = true) (hst : (isl c s).st = .run)
    (hentering : (isl c s).entering = false) (hwaking : (isl c s).waking = false)
    (hheld : fb (loc .PW_CFG) F.PW_CFG_PWR_HELD s = false) (hquiet : quiet c s = true) :
    idleEntry c s = setIsl c { isl c s with st := .idle } s :=
  if_pos ⟨hidles, hst, hentering, hwaking, hheld, hquiet⟩

theorem idleEntry_stays {c : Nat} {s : State}
    (h : fb (loc .PW_CFG) F.PW_CFG_PWR_HELD s = true ∨ quiet c s = false) : idleEntry c s = s :=
  if_neg fun ⟨_, _, _, _, hheld, hquiet⟩ => by rcases h with h | h <;> simp_all

theorem idleExit_runs {c : Nat} {s : State} (hst : (isl c s).st = .idle) :
    idleExit c s = doIf (c == 4) ringBells (setIsl c { isl c s with st := .run } s) := if_pos hst

/-! ## Wake sources (R439 to R441) -/

/-- The islands that a wake of the block takes along: those asleep alone that the source names (R435). -/
def takenAlong (c : Nat) (s : State) : List Nat :=
  if blockState s = 2 then (alsoWoken c s).filter (fun i => !s.pw.blockDown.contains i) else []

/-- The block's wake that source `src` starts. -/
def blockWake (c src : Nat) (s : State) : PSeq :=
  (mkSeq 0xFF (s.pw.blockDown ++ takenAlong c s) true (PState.ofCode (blockState s)) 1 none).addSource src 0 s

/-- A wake source of the block in SLEEP or DEEP, with no sequence of the block, starts the wake. -/
theorem requestWake_starts {c src : Nat} {s : State} (hnone : seqOf wholeBlock s = none)
    (hst : blockState s = 2 ∨ blockState s = 3) :
    requestWake c src 0 s = markWaking (s.pw.blockDown ++ takenAlong c s) (newSeq (blockWake c src s) s) := by
  have hfind : s.pw.seqs.find? (fun q => q.code == 0xFF) = none := hnone
  simp only [requestWake, hfind, if_pos hst]
  rfl

/-- The wake started is the block's sequence, with its source recorded, and takes along all that the block state put down. -/
theorem requestWake_shows {c src : Nat} {s : State} (hnone : seqOf wholeBlock s = none)
    (hst : blockState s = 2 ∨ blockState s = 3) :
    ∃ q, seqOf wholeBlock (settle (requestWake c src 0 s)) = some q ∧ q.wake = true ∧ q.sources = 2 ^ (src - 1) ∧
      q.source = src ∧ ∀ i, i ∈ s.pw.blockDown → i ∈ q.members := by
  refine ⟨blockWake c src s, ?_, rfl, rfl, rfl, fun i hi => List.mem_append_left _ hi⟩
  rw [seqOf_congr (settle_settling _).pw, requestWake_starts hnone hst, seqOf_congr (markWaking_pw ..)]
  exact seqOf_newSeq (q := blockWake c src s) hnone

theorem wakeTimer_wakes {s : State} (hen : fb (loc .PW_CFG) F.PW_CFG_TIMER_WAKE s = true)
    (hset : rd (loc .PW_WAKE_TIMER) s ≠ 0) (hst : blockState s = 2 ∨ blockState s = 3) :
    wakeTimer s = requestWake 0 5 0 s := if_pos ⟨hen, hset, hst⟩

theorem wakeIn_wakes {s : State} (hcold : coldHeld s = false) (hst : blockState s = 2 ∨ blockState s = 3)
    (hen : fb (loc .PW_CFG) F.PW_CFG_WAKE_IN_EN s = true) : wakeIn s = requestWake 0 1 0 s := by
  have hnot : blockState s ≠ 4 := by omega
  simp only [wakeIn, hcold, Bool.false_eq_true, if_false, hnot, hen, Bool.true_or, if_true]

/-- The wake that WAKE_IN starts from block OFF. -/
def offWake (s : State) : PSeq := (mkSeq wholeBlock [] true .off 2 none).addSource 1 0 s

theorem wakeIn_boots {s : State} (hcold : coldHeld s = false) (hst : blockState s = 4) (hstep : s.pins.coldStep = 0) :
    wakeIn s = coldBoot (offWake s) s := by
  simp only [wakeIn, hcold, Bool.false_eq_true, if_false, hst, hstep, if_true, offWake]

theorem coldBoot_shows {s : State} (hnone : seqOf wholeBlock s = none) :
    ∃ q, seqOf wholeBlock (settle (coldBoot (offWake s) s)) = some q ∧ q.wake = true ∧ q.state = .off ∧
      (settle (coldBoot (offWake s) s)).pins.coldStep = 1 := by
  refine ⟨{ offWake s with wake := true, members := [], step := 2 }, ?_, rfl, rfl, ?_⟩
  · rw [seqOf_congr (settle_settling _).pw]
    exact seqOf_newSeq (q := { offWake s with wake := true, members := [], step := 2 }) hnone
  · rw [(settle_settling _).pins, coldBoot, newSeq, showSeq_pins]

/-! ## Phases of an entry (R437) -/

section
variable {c : Nat} {q : PSeq} {s : State} (hq : seqOf c s = some q)
include hq

theorem entryPhaseDone_goes_on (hfall : q.fallback = false) (hwake : q.wake = false) (h2 : q.step ≠ 2) (h3 : q.step ≠ 3)
    (hrep : repairing q s = false)
    (hvisible : nextStep q.step (entryPhases q.code q.state) ≠ some 6 ∨ outputsVisible q s = true) :
    entryPhaseDone c s = phaseNext q s := by
  have hgo : ¬ (nextStep q.step (entryPhases q.code q.state) = some 6 ∧ outputsVisible q s = false) := by
    rintro ⟨hnext, hnot⟩
    rcases hvisible with h | h
    · exact h hnext
    · rw [h] at hnot
      cases hnot
  have hphase : ¬ (q.wake = true ∨ q.step = 2 ∨ q.step = 3 ∨ repairing q s = true) := by
    rw [hwake, hrep]
    simp [h2, h3]
  simp only [entryPhaseDone, hq, hfall, Bool.false_eq_true, if_false]
  rw [if_neg hphase, if_neg hgo]

theorem entryPhaseDone_waits (hfall : q.fallback = false) (hwake : q.wake = false)
    (hwait : repairing q s = true ∨ (nextStep q.step (entryPhases q.code q.state) = some 6 ∧ outputsVisible q s = false)) :
    entryPhaseDone c s = s := by
  simp only [entryPhaseDone, hq, hfall, hwake, Bool.false_eq_true, if_false, false_or]
  rcases hwait with h | h
  · rw [h, if_pos (.inr (.inr rfl))]
  · rw [if_pos h, ite_self]

theorem entryPhaseDone_back (hfall : q.fallback = true) (h6 : q.step = 6) :
    entryPhaseDone c s = setSeq { q with step := 7 } s := by
  simp only [entryPhaseDone, hq, hfall, if_true, h6]

theorem entryPhaseDone_fell (hfall : q.fallback = true) (h6 : q.step ≠ 6) : entryPhaseDone c s = wakeFellBack q s := by
  simp only [entryPhaseDone, hq, hfall, if_true, if_neg h6]

/-! ## Drains (R437, R340) -/

section
variable (hwake : q.wake = false) (h2 : q.step = 2)
include hwake h2

theorem drainEnd_alone (hc : c ≠ wholeBlock) (hdrained : drainedSeq q s = true) (hrep : repairing q s = false) :
    drainEnd c s = phaseNext q s := by
  have hgo : ¬ (q.wake = true ∨ q.step ≠ 2 ∨ drainedSeq q s = false ∨ repairing q s = true) := by
    simp [hwake, h2, hdrained, hrep]
  simp only [drainEnd, hq]
  rw [if_neg hgo, if_neg hc]

theorem drainTimeout_alone (hc : c ≠ wholeBlock) : drainTimeout c s = finishOpt q.cmd St.adminBusy 0 (powerUnhold c
    (setFlag (loc .PW_EVENT) F.PW_EVENT_REFUSED (fs (loc .PW_STATE) F.PW_STATE_REFUSE_CAUSE 1 (endSeq c s)))) := by
  have hgo : ¬ (q.wake = true ∨ q.step ≠ 2) := by simp [hwake, h2]
  simp only [drainTimeout, hq]
  rw [if_neg hgo, if_neg hc, if_neg fun h => hc h.1]

end

end

section
variable {q : PSeq} {s : State} (hq : seqOf wholeBlock s = some q) (hwake : q.wake = false) (h2 : q.step = 2)
include hq hwake h2

theorem drainEnd_block_silent (hdrained : drainedSeq q s = true) (hrep : repairing q s = false) (hcmd : q.cmd = none) :
    drainEnd wholeBlock s = phaseNext { q with step := 3 } (startPhase q 3 s) := by
  have hgo : ¬ (q.wake = true ∨ q.step ≠ 2 ∨ drainedSeq q s = false ∨ repairing q s = true) := by
    simp [hwake, h2, hdrained, hrep]
  unfold drainEnd
  simp only [hq]
  rw [if_neg hgo]
  simp only [if_true, hcmd, finishOpt]

theorem drainEnd_block_command {p k : Nat} (hdrained : drainedSeq q s = true) (hrep : repairing q s = false)
    (hcmd : q.cmd = some (p, k)) : drainEnd wholeBlock s =
      (if (getCmd p k (finishCmd p k St.ok 0 0 (startPhase q 3 s))).isNone
        then completionWritten p k (finishCmd p k St.ok 0 0 (startPhase q 3 s))
        else finishCmd p k St.ok 0 0 (startPhase q 3 s)) := by
  have hgo : ¬ (q.wake = true ∨ q.step ≠ 2 ∨ drainedSeq q s = false ∨ repairing q s = true) := by
    simp [hwake, h2, hdrained, hrep]
  unfold drainEnd
  simp only [hq]
  rw [if_neg hgo]
  simp only [if_true, hcmd, finishOpt]

theorem drainTimeout_block : drainTimeout wholeBlock s = finishOpt q.cmd St.adminBusy 0 (unprepare
    (setFlag (loc .PW_EVENT) F.PW_EVENT_REFUSED (fs (loc .PW_STATE) F.PW_STATE_REFUSE_CAUSE
      (if holdsCells s then 2 else 1) (endSeq wholeBlock s)))) := by
  have hgo : ¬ (q.wake = true ∨ q.step ≠ 2) := by simp [hwake, h2]
  simp only [drainTimeout, hq]
  rw [if_neg hgo]
  simp only [if_true, true_and]

end

/-! ## Steps of a wake (R442, R443) -/

theorem clocked_step {q : PSeq} {s : State} (href : q.step ≠ 3 ∨ s.pins.refclk = true) :
    ¬ (q.step = 3 ∧ s.pins.refclk = false) := by
  rintro ⟨h3, hnone⟩
  rcases href with h | h
  · exact h h3
  · rw [h] at hnone
    cases hnone

section
variable {c : Nat} {q : PSeq} {s : State} (hq : seqOf c s = some q) (hwake : q.wake = true) (hfall : q.fallback = false)
include hq hwake hfall

theorem wakeStepDone_goes_on {n : Nat} (hoff : q.state ≠ .off ∨ c ≠ wholeBlock) (href : q.step ≠ 3 ∨ s.pins.refclk = true)
    (hnext : nextStep q.step (wakeSteps c q.state) = some n) :
    wakeStepDone c s = setSeq { q with step := n, repeating := false } s := by
  have hgo : ¬ (q.wake = false ∨ q.fallback = true ∨ q.state = .off ∧ c = wholeBlock) := by
    simp only [hwake, hfall]
    tauto
  unfold wakeStepDone
  simp only [hq]
  rw [if_neg hgo, if_neg (clocked_step href)]
  simp only [hnext]

theorem wakeStepDone_ends (hoff : q.state ≠ .off ∨ c ≠ wholeBlock) (href : q.step ≠ 3 ∨ s.pins.refclk = true)
    (hnext : nextStep q.step (wakeSteps c q.state) = none) : wakeStepDone c s = wakeEnd q s := by
  have hgo : ¬ (q.wake = false ∨ q.fallback = true ∨ q.state = .off ∧ c = wholeBlock) := by
    simp only [hwake, hfall]
    tauto
  unfold wakeStepDone
  simp only [hq]
  rw [if_neg hgo, if_neg (clocked_step href)]
  simp only [hnext]

omit hwake hfall in
theorem wakeStepDone_waits (h3 : q.step = 3) (href : s.pins.refclk = false) : wakeStepDone c s = s := by
  simp only [wakeStepDone, hq]
  rw [if_pos (⟨h3, href⟩ : q.step = 3 ∧ s.pins.refclk = false), ite_self]

theorem wakeStepTimeout_eq (hoff : q.state ≠ .off ∨ c ≠ wholeBlock) (hrep : stepReports q.step = true) :
    wakeStepTimeout c s = (if q.repeating then setSeq { q with fallback := true, step := 6, failStep := q.step } s
      else setFlag (loc .PW_EVENT) F.PW_EVENT_WAKE_RETRY
        (setSeq { q with retried := true, repeating := true, failStep := q.step } s)) := by
  have hgo : ¬ (q.wake = false ∨ q.fallback = true ∨ stepReports q.step = false ∨ (q.state = .off ∧ c = wholeBlock)) := by
    simp only [hwake, hfall, hrep]
    tauto
  simp only [wakeStepTimeout, hq]
  rw [if_neg hgo]

end

/-- A step of a wake that goes on retries no action that waits for its end. -/
theorem wakeStep_goes_on {c : Nat} {s : State} (h : seqOf c (wakeStepDone c s) ≠ none) :
    wakeStep c s = wakeStepDone c s :=
  if_neg fun ⟨_, hnone⟩ => h (Option.isNone_iff_eq_none.mp hnone)

theorem wakeStep_ends {c : Nat} {s : State} (hq : (seqOf c s).isSome = true)
    (h : (seqOf c (wakeStepDone c s)).isNone = true) : wakeStep c s = retryActs (fun _ => true) (wakeStepDone c s) :=
  if_pos ⟨hq, h⟩

/-! ## A wake that falls back (R443) -/

/-- Island `c` stands again in the state it was in. -/
def stoodBack (q : PSeq) (c : Nat) (t : State) : State :=
  let i := isl c t
  setIsl c { i with target := i.st, waking := false, entering := false,
                    fails := if q.code = wholeBlock ∨ c = q.code then min 255 (i.fails + 1) else i.fails } t

/-- What a wake that falls back leaves, before its command completes. -/
def fellBack (q : PSeq) (s : State) : State :=
  bump (cBlk 5) (setFlag (loc .PW_EVENT) F.PW_EVENT_WAKE_FAIL (alert F.GL_ALERT_WAKE_FAIL
    (lastWake q (if q.failStep = 1 then 2 else 3) (forEach q.members (stoodBack q) (endSeq q.code s)))))

theorem wakeFellBack_eq (q : PSeq) (s : State) : wakeFellBack q s = finishOpt q.cmd St.adminWakeFailed 0 (fellBack q s) := rfl

theorem bump_isl (i : Nat) (s : State) : (bump i s).isl = s.isl := by rw [bump_regs_pc_only]

theorem fellBack_eq (q : PSeq) (s : State) : (fellBack q s).pw = (endSeq q.code s).pw ∧
    (fellBack q s).isl = (forEach q.members (stoodBack q) (endSeq q.code s)).isl := by
  obtain ⟨v, w, hlast⟩ := lastWake_eq q (if q.failStep = 1 then 2 else 3) (forEach q.members (stoodBack q) (endSeq q.code s))
  constructor
  · rw [fellBack, bump_pw, setFlag, setFlags, wr_pw, alert, setFlag, setFlags, wr_pw, hlast, wr64, wr_pw, wr_pw, wr_pw]
    exact forEach_keeps State.pw q.members (fun _ _ _ => setIsl_pw ..) _
  · rw [fellBack, bump_isl, setFlag, setFlags, wr_isl, alert, setFlag, setFlags, wr_isl, hlast, wr64, wr_isl, wr_isl, wr_isl]

theorem endSeq_eq (c : Nat) (s : State) : (endSeq c s).isl = s.isl ∧
    (endSeq c s).pw = { s.pw with seqs := s.pw.seqs.filter (fun q => q.code != c) } := by
  unfold endSeq
  cases c == 0xFF
  · exact ⟨rfl, rfl⟩
  · simp only [doIf, if_true]
    rw [fs_isl, fs_isl, fs_isl, fs_pw, fs_pw, fs_pw]
    exact ⟨rfl, rfl⟩

theorem isl_congr (c : Nat) {s t : State} (h : t.isl = s.isl) : isl c t = isl c s := by rw [isl, isl, h]

theorem isl_setIsl_same (c : Nat) (v : Island) (s : State) : isl c (setIsl c v s) = v := sget_sput_same ..

theorem isl_setIsl_other {c k : Nat} (v : Island) (s : State) (h : k ≠ c) : isl k (setIsl c v s) = isl k s :=
  sget_sput_other _ _ _ _ _ _ h

theorem isl_stoodBack_other {q : PSeq} {c k : Nat} (t : State) (h : k ≠ c) : isl k (stoodBack q c t) = isl k t :=
  isl_setIsl_other _ _ h

theorem stoodBack_st (q : PSeq) (c k : Nat) (t : State) : (isl k (stoodBack q c t)).st = (isl k t).st := by
  by_cases h : k = c
  · subst h
    rw [stoodBack, isl_setIsl_same]
  · rw [isl_stoodBack_other t h]

/-- An island that does not wake does not wake after another, or it, has stood back. -/
theorem stoodBack_waking {q : PSeq} {c k : Nat} {t : State} (h : k = c ∨ (isl k t).waking = false) :
    (isl k (stoodBack q c t)).waking = false := by
  by_cases hk : k = c
  · subst hk
    rw [stoodBack, isl_setIsl_same]
  · rw [isl_stoodBack_other t hk]
    exact h.resolve_left hk

theorem forEach_stoodBack_waking {q : PSeq} {k : Nat} : ∀ (l : List Nat) (t : State), k ∈ l ∨ (isl k t).waking = false →
    (isl k (forEach l (stoodBack q) t)).waking = false
  | [], _, h => h.resolve_left (List.not_mem_nil)
  | c :: l, t, h => by
    refine forEach_stoodBack_waking l (stoodBack q c t) ?_
    rcases h with h | h
    · rcases List.mem_cons.mp h with h | h
      · exact .inr (stoodBack_waking (.inl h))
      · exact .inl h
    · exact .inr (stoodBack_waking (.inr h))

/-- What a wake that has fallen back shows: no sequence, WAKE_FAIL, and its islands at rest in the states they were in. -/
theorem fellBack_shows (q : PSeq) (s : State) : seqOf q.code (fellBack q s) = none ∧
    fb (loc .PW_EVENT) F.PW_EVENT_WAKE_FAIL (fellBack q s) = true ∧
    fb (loc .GL_ALERT) F.GL_ALERT_WAKE_FAIL (fellBack q s) = true ∧
    (∀ i, (isl i (fellBack q s)).st = (isl i s).st) ∧ ∀ i, i ∈ q.members → (isl i (fellBack q s)).waking = false := by
  obtain ⟨hpw, hisl⟩ := fellBack_eq q s
  obtain ⟨hendIsl, hendPw⟩ := endSeq_eq q.code s
  refine ⟨?_, ?_, ?_, fun i => ?_, fun i hi => ?_⟩
  · rw [seqOf, hpw, hendPw]
    simp [List.find?_eq_none]
  · rw [fellBack, fb_congr _ (rd_bump_other _ _ (by decide) (by decide))]
    exact fb_setFlag_same _ _ (by decide) (by decide)
  · rw [fellBack, fb_congr _ (rd_bump_other _ _ (by decide) (by decide)), fb_setFlag_other _ _ (by decide)]
    exact fb_setFlag_same _ _ (by decide) (by decide)
  · rw [isl_congr i hisl]
    have hkept := forEach_keeps (fun t => (isl i t).st) q.members (fun c _ t => stoodBack_st q c i t) (endSeq q.code s)
    exact hkept.trans (congrArg Island.st (isl_congr i hendIsl))
  · rw [isl_congr i hisl]
    exact forEach_stoodBack_waking _ _ (.inl hi)

/-- Settles O14, command by command: each is one of the equations above for its state. -/
theorem powerStates : Obligations.PowerStates := by
  refine ⟨?_, ?_, ?_, ?_, ?_, ?_, ?_, ?_, ?_, ?_, ?_, ?_, ?_, ?_, ?_, ?_, ?_, ?_, ?_, ?_, ?_⟩
  · intro c s hidles hst hentering hwaking hheld hquiet
    exact done_eq (idleEntry_enters hidles hst hentering hwaking hheld hquiet)
  · intro c s h
    exact done_eq (idleEntry_stays h)
  · intro c s hst hc
    refine done_eq (congrArg passHeld ((idleExit_runs hst).trans ?_))
    rw [beq_false_of_ne hc]
    rfl
  · intro s hst
    exact done_eq (congrArg passHeld (idleExit_runs hst))
  · intro s hen hset hst hnone
    have hst' : blockState s = 2 ∨ blockState s = 3 := by simpa using hst
    obtain ⟨q, hq, hshown⟩ := requestWake_shows (c := 0) (src := 5) hnone hst'
    exact ⟨q, _, done_eq (wakeTimer_wakes hen hset hst'), hq, hshown⟩
  · intro s hcold hst hen hnone
    have hst' : blockState s = 2 ∨ blockState s = 3 := by simpa using hst
    obtain ⟨q, hq, hshown⟩ := requestWake_shows (c := 0) (src := 1) hnone hst'
    exact ⟨q, _, done_eq (wakeIn_wakes hcold hst' hen), hq, hshown⟩
  · intro s hcold hst hstep hnone
    obtain ⟨q, hq, hshown⟩ := coldBoot_shows hnone
    exact ⟨q, _, done_eq (wakeIn_boots hcold hst hstep), hq, hshown⟩
  · intro c q s hq hfall hwake h2 h3 hrep hvisible
    exact done_eq (entryPhaseDone_goes_on hq hfall hwake h2 h3 hrep hvisible)
  · intro c q s hq hfall hwake hwait
    exact done_eq (entryPhaseDone_waits hq hfall hwake hwait)
  · intro c q s hq hfall h6
    exact done_eq (entryPhaseDone_back hq hfall h6)
  · intro c q s hq hfall h6
    obtain rfl := seqOf_code hq
    exact ⟨fellBack q s, done_eq ((entryPhaseDone_fell hq hfall h6).trans (wakeFellBack_eq q s)), fellBack_shows q s⟩
  · intro c q s hq hc hwake h2 hdrained hrep
    rw [← h2]
    exact done_eq (drainEnd_alone hq hwake h2 hc hdrained hrep)
  · intro q s hq hwake h2 hdrained hrep hcmd
    exact done_eq (drainEnd_block_silent hq hwake h2 hdrained hrep hcmd)
  · rintro p k q _ s hq hwake h2 hdrained hrep hcmd rfl
    exact done_eq (drainEnd_block_command hq hwake h2 hdrained hrep hcmd)
  · intro c q s hq hc hwake h2
    exact done_eq (drainTimeout_alone hq hwake h2 hc)
  · intro q s hq hwake h2
    exact done_eq (drainTimeout_block hq hwake h2)
  · intro c n q s hq hwake hfall hoff href hnext hcode
    have hstep := wakeStepDone_goes_on hq hwake hfall hoff href hnext
    have hstill : seqOf c (wakeStepDone c s) ≠ none := by
      rw [hstep]
      exact seqOf_setSeq hq hcode
    exact done_eq (congrArg passHeld ((wakeStep_goes_on hstill).trans hstep))
  · intro c q s hq _ _ h3 href
    have hstep := wakeStepDone_waits hq h3 href
    have hstill : seqOf c (wakeStepDone c s) ≠ none := by simp [hstep, hq]
    exact done_eq (congrArg passHeld ((wakeStep_goes_on hstill).trans hstep))
  · intro c q s hq hwake hfall hoff href hnext hended
    have hstep := wakeStepDone_ends hq hwake hfall hoff href hnext
    refine done_eq (congrArg passHeld ((wakeStep_ends (by simp [hq]) (by rwa [hstep])).trans ?_))
    rw [hstep]
  · intro c q s hq hwake hfall hoff hrep hfirst
    refine done_eq ((wakeStepTimeout_eq hq hwake hfall hoff hrep).trans ?_)
    rw [hfirst]
    rfl
  · intro c q s hq hwake hfall hoff hrep hagain
    refine done_eq ((wakeStepTimeout_eq hq hwake hfall hoff hrep).trans ?_)
    rw [hagain]
    rfl

end Sys2Proof.Machine
end

section
/-!
PROOFS. Steps of the scheduler: a selection, a refill, a calendar's activation, and a node's capture (O30).
-/

namespace Sys2Proof.Machine

/-! ## Refills (R356, R357) -/

/-- The record whose bucket fields are in force after a refill: the node's own where it waited (R357). -/
def refilledRec (c : Nat) (s : State) : Bytes := if sget 0 s.sc.next c = 0 then inForce c s else nodeRec c s

/-- A node whose waiting record is in force. -/
def recordTaken (c : Nat) (s : State) : State :=
  setForce c (refilledRec c s) { s with sc := { s.sc with next := sput 0 s.sc.next c 0 } }

/-- A node with its record in force and its committed bucket refilled. -/
def committedRefilled (c : Nat) (s : State) : State :=
  if cenOf c (recordTaken c s) then
    setLevelC c (refilled (levelC c s) (recCir (refilledRec c s)) (recCbs (refilledRec c s)) (!recCen (inForce c s)))
      (recordTaken c s)
  else recordTaken c s

theorem refillNode_eq {c : Nat} {s : State} (h : nodeRec c s ≠ []) : refillNode c s =
    (if penOf c (committedRefilled c s) then
      setLevelP c (refilled (levelP c s) (recPir (refilledRec c s)) (recPbs (refilledRec c s)) (!recPen (inForce c s)))
        (committedRefilled c s)
    else committedRefilled c s) := if_neg h

theorem refilled_le_burst (lvl : Int) (rate burst : Nat) (full : Bool) : refilled lvl rate burst full ≤ 64 * (burst : Int) := by
  unfold refilled
  split
  · exact le_refl _
  · exact min_le_right _ _

theorem levelC_setLevelC (c : Nat) (v : Int) (s : State) : levelC c (setLevelC c v s) = v := sget_sput_same ..

theorem levelP_setLevelP (c : Nat) (v : Int) (s : State) : levelP c (setLevelP c v s) = v := sget_sput_same ..

theorem inForce_recordTaken (c : Nat) (s : State) : inForce c (recordTaken c s) = refilledRec c s := sget_sput_same ..

theorem next_recordTaken (c : Nat) (s : State) : sget 0 (recordTaken c s).sc.next c = 0 :=
  sget_sput_same 0 s.sc.next c 0

/-- What a refill leaves of the committed bucket's part of the scheduler. -/
theorem committedRefilled_shows (c : Nat) (s : State) :
    inForce c (committedRefilled c s) = refilledRec c s ∧ (committedRefilled c s).sc.nodes = s.sc.nodes ∧
      (committedRefilled c s).sc.fifo = s.sc.fifo ∧ sget 0 (committedRefilled c s).sc.next c = 0 ∧
      (cenOf c (recordTaken c s) = true → levelC c (committedRefilled c s) = refilled (levelC c s)
        (recCir (refilledRec c s)) (recCbs (refilledRec c s)) (!recCen (inForce c s))) := by
  unfold committedRefilled
  split
  · exact ⟨inForce_recordTaken c s, rfl, rfl, next_recordTaken c s, fun _ => levelC_setLevelC ..⟩
  · next h => exact ⟨inForce_recordTaken c s, rfl, rfl, next_recordTaken c s, fun hc => absurd hc h⟩

theorem cenOf_congr {c : Nat} {s t : State} (h : inForce c t = inForce c s) : cenOf c t = cenOf c s := by rw [cenOf, cenOf, h]

theorem penOf_congr {c : Nat} {s t : State} (h : inForce c t = inForce c s) : penOf c t = penOf c s := by rw [penOf, penOf, h]

/-- What a refill of a node leaves. -/
structure Refilled (c : Nat) (s t : State) : Prop where
  nodes : t.sc.nodes = s.sc.nodes
  fifo : t.sc.fifo = s.sc.fifo
  next : sget 0 t.sc.next c = 0
  force : inForce c t = refilledRec c s
  commit : cenOf c t = true → levelC c t =
    refilled (levelC c s) (recCir (refilledRec c s)) (recCbs (refilledRec c s)) (!recCen (inForce c s))
  peak : penOf c t = true → levelP c t =
    refilled (levelP c s) (recPir (refilledRec c s)) (recPbs (refilledRec c s)) (!recPen (inForce c s))

theorem refillNode_refilled {c : Nat} {s : State} (h : nodeRec c s ≠ []) : Refilled c s (refillNode c s) := by
  obtain ⟨hforce, hnodes, hfifo, hnext, hlevel⟩ := committedRefilled_shows c s
  have hcen (t : State) (ht : inForce c t = inForce c (committedRefilled c s)) (hc : cenOf c t = true) :
      cenOf c (recordTaken c s) = true :=
    (cenOf_congr ((inForce_recordTaken c s).trans (ht.trans hforce).symm)).trans hc
  rw [refillNode_eq h]
  split
  next hp =>
    exact ⟨hnodes, hfifo, hnext, hforce, fun hc => hlevel (hcen _ rfl hc), fun _ => levelP_setLevelP ..⟩
  next hp =>
    exact ⟨hnodes, hfifo, hnext, hforce, fun hc => hlevel (hcen _ rfl hc), fun hc => absurd hc hp⟩

/-- The end of a command leaves the buckets, the records and the queues of leaves. -/
theorem settle_refilled {c : Nat} {s t : State} (h : Refilled c s t) : Refilled c s (settle t) := by
  have hsc := (settle_settling t).sc
  have hforce : inForce c (settle t) = inForce c t := congrArg (sget [] · c) (by rw [hsc])
  have hlvlC : levelC c (settle t) = levelC c t := congrArg (sget 0 · c) (by rw [hsc])
  have hlvlP : levelP c (settle t) = levelP c t := congrArg (sget 0 · c) (by rw [hsc])
  exact ⟨(congrArg Sc.nodes hsc).trans h.nodes, (congrArg Sc.fifo hsc).trans h.fifo,
    (congrArg (sget 0 · c) (by rw [hsc])).trans h.next, hforce.trans h.force,
    fun hc => hlvlC.trans (h.commit ((cenOf_congr hforce).symm.trans hc)),
    fun hp => hlvlP.trans (h.peak ((penOf_congr hforce).symm.trans hp))⟩

theorem exec_bucketRefill {level n : Nat} (s : State) (hl : level < 4) (hn : n < 2 ^ 20) :
    exec (.bucketRefill level n) s = .next (settle (refillNode (nodeCode level n) s)) := by
  have hcode : nodeCode (level % 4) (n % 2 ^ 20) = nodeCode level n := by
    rw [Nat.mod_eq_of_lt hl, Nat.mod_eq_of_lt hn]
  exact congrArg (fun c => Host.Outcome.next (settle (refillNode c s))) hcode

/-- A bucket that was enabled, with no record waiting, gains its rate, up to its burst (R356). -/
theorem refilled_enabled (lvl : Int) (rate burst : Nat) {full : Bool} (h : full = true) :
    refilled lvl rate burst (!full) = min (lvl + (rate : Int)) (64 * (burst : Int)) := by
  subst h
  rfl

/-! ## Calendars (R361) -/

theorem showCalendar_sc (p : Nat) (s : State) : (showCalendar p s).sc = s.sc := by
  unfold showCalendar
  exact (forEach_keeps State.sc _ (fun _ _ _ => wr_sc ..) _).trans (wr_sc ..)

theorem getSp_congr {p : Nat} {s t : State} (h : t.sc = s.sc) : getSp p t = getSp p s := by rw [getSp, getSp, h]

theorem getSp_setSp_same (p : Nat) (v : ScPort) (s : State) : getSp p (setSp p v s) = v := sget_sput_same ..

theorem getSp_putActive (p a : Nat) (c : Option Calendar) (s : State) : getSp p (putActive p a c s) =
    { getSp p s with active := c, pendingCal := none
                     past := if (getSp p s).sels.isEmpty then [] else (a, (getSp p s).active) :: (getSp p s).past } :=
  (getSp_congr (showCalendar_sc ..)).trans (getSp_setSp_same ..)

theorem gateActivate_pending {p a pr k : Nat} {c : Calendar} {s : State} (h : (getSp p s).pendingCal = some (c, a, pr, k)) :
    gateActivate p s = finishCmd pr k St.ok (time64 (a * nsU)) 0 (scEvent p 3 (putActive p (a * nsU) (some c) s)) := by
  simp only [gateActivate, h]

/-! ## Selections (R349, R353) -/

theorem selectOne_selects {p : Nat} {s : State} (h : portSelectable p s = true) : selectOne p s =
    (match pickSvc p (refuseHeads p (s.wq.execs.length + s.dp.frames.length) s) with
      | some (path, t) => commitSel p path t
      | none => refuseHeads p (s.wq.execs.length + s.dp.frames.length) s) := if_pos h

theorem exec_schedulerSelection {p : Nat} (s : State) (hp : p < 64) :
    exec (.schedulerSelection p) s = .next (settle (selectOne p s)) :=
  congrArg (fun q => Host.Outcome.next (settle (selectOne q s))) (Nat.mod_eq_of_lt hp)

theorem chargeNode_ports (n : Int) (c : Nat) (s : State) : (chargeNode n c s).sc.ports = s.sc.ports := by
  unfold chargeNode
  dsimp only
  split <;> split <;> rfl

theorem startTx_sc (x id : Nat) (s : State) : (startTx x id s).sc = s.sc := by
  unfold startTx
  split
  next e _ =>
    have hreads (t : State) : (txReads x t).sc = t.sc := by
      unfold txReads
      split
      · rfl
      · exact forEach_keeps State.sc _ (fun _ _ _ => access_sc ..) _
    have htable (t : State) : (readTable x t).sc = t.sc := by
      unfold readTable
      split
      · rfl
      · exact forEach_keeps State.sc _ (fun _ _ _ => access_sc ..) _
    dsimp only
    split
    · exact htable _
    · exact hreads _
  next => rfl

/-- The selection of item `i` of leaf `c` that a port's walk along `path` makes. -/
def selection (p c : Nat) (path : List Nat) (i : TxItem) (s : State) : Sel :=
  { item := i, leaf := nodeNum c, path := path ++ [nodeCode 3 p], charge := chargeOf p (itemLen i s) s,
    len := itemLen i s, cls := recBand (nodeRec c s), start := projectedBlock p s, frame := s.dp.nextFrame, ready := false,
    extra := overhead p s }

/-- A port's selections after one more, with its projected end moved on. -/
def selected (p : Nat) (x : Sel) (pe : Nat) (s : State) : State :=
  setSp p { getSp p s with pe := pe, sels := (getSp p s).sels ++ [x] } s

/-- What a committed selection does beyond the port's own state: the item is put on the line and starts. -/
def dispatched (p c : Nat) (i : TxItem) (id : Nat) (f : Frame) (s : State) : State :=
  let t := addF f s
  let u := setLine p true (lineOf p true t ++ [id]) t
  match i with
  | .exec x => startTx x id u
  | .frame g => fifoDrop (nodeNum c) g u

theorem commitSel_eq {p c : Nat} {r : List Nat} {i : TxItem} {s : State} (h : leafHead (nodeNum c) s = some i) :
    ∃ pe f, commitSel p (c :: r) s = dispatched p c i s.dp.nextFrame f
      (selected p (selection p c (c :: r) i s) pe
        (forEach (c :: r ++ [nodeCode 3 p]) (chargeNode (chargeOf p (itemLen i s) s)) s)) := by
  refine ⟨((projected p s : Int) + wireInt p (chargeOf p (itemLen i s) s) s).toNat,
    txFrame s.dp.nextFrame p (nodeNum c) i s, ?_⟩
  unfold commitSel
  simp only [h]
  rfl

theorem dispatched_ports (p c : Nat) (i : TxItem) (id : Nat) (f : Frame) (s : State) :
    (dispatched p c i id f s).sc.ports = s.sc.ports := by
  cases i with
  | exec x => exact congrArg Sc.ports (startTx_sc ..)
  | frame g => rfl

theorem commitSel_sels {p c : Nat} {r : List Nat} {i : TxItem} {s : State} (h : leafHead (nodeNum c) s = some i) :
    (getSp p (commitSel p (c :: r) s)).sels = (getSp p s).sels ++ [selection p c (c :: r) i s] := by
  obtain ⟨pe, f, heq⟩ := commitSel_eq (p := p) (r := r) h
  obtain ⟨t, ht⟩ : ∃ t, t = forEach (c :: r ++ [nodeCode 3 p]) (chargeNode (chargeOf p (itemLen i s) s)) s := ⟨_, rfl⟩
  have hcharged : getSp p t = getSp p s := by
    rw [getSp, getSp, ht, forEach_keeps (fun u => u.sc.ports) _ (fun c _ u => chargeNode_ports _ c u)]
  rw [heq, ← ht, getSp, dispatched_ports]
  exact (congrArg ScPort.sels (getSp_setSp_same ..)).trans (by rw [hcharged])

/-! ## Capture (SC_NODE_SEL) -/

/-- The committed level of a node as SC_NODE_LVL_C shows it. -/
def levelShown (c : Nat) (s : State) : Nat := if cenOf c s then levelWord (levelC c s) else 0

/-- The words of a node's record in SC_NODE_REC. -/
def recordShown (b : Bytes) (s : State) : State :=
  forEach (List.range 8) (fun w t => wr (loc .SC_NODE_REC 0 w) (u b (4 * w) 4) t) s

/-- A write with READ shows the record's words, and then the two levels. -/
theorem nodeCapture_eq {d : Nat} {s : State} (h : bit d 31 = true) : ∃ w, nodeCapture d s =
    wr (loc .SC_NODE_LVL_P) w (wr (loc .SC_NODE_LVL_C) (levelShown (nodeCode (bits d 29 28) (bits d 14 0)) s)
      (recordShown (nodeRec (nodeCode (bits d 29 28) (bits d 14 0)) s) (plainWrite .SC_NODE_SEL (loc .SC_NODE_SEL) d s))) :=
  ⟨_, if_pos h⟩

theorem nodeCapture_plain {d : Nat} {s : State} (h : bit d 31 = false) :
    nodeCapture d s = plainWrite .SC_NODE_SEL (loc .SC_NODE_SEL) d s := if_neg (by rw [h]; decide)

theorem nodeRec_loc_inj : Function.Injective (fun w => loc .SC_NODE_REC 0 w) := by
  intro i j h
  simp only [loc, locAt] at h
  simpa [RegName.row] using h

theorem nodeLvl_ne : loc .SC_NODE_LVL_C ≠ loc .SC_NODE_LVL_P ∧
    ∀ w < 8, loc .SC_NODE_REC 0 w ≠ loc .SC_NODE_LVL_C ∧ loc .SC_NODE_REC 0 w ≠ loc .SC_NODE_LVL_P := by decide

theorem levelWord_lt (v : Int) : levelWord v < 2 ^ 32 := by
  have h := Int.emod_lt_of_pos v (by decide : (0 : Int) < (2 ^ 32 : Nat))
  unfold levelWord
  omega

theorem levelShown_lt (c : Nat) (s : State) : levelShown c s < 2 ^ 32 := by
  unfold levelShown
  split
  · exact levelWord_lt _
  · decide

theorem nodeCapture_shows {d w : Nat} {s : State} (h : bit d 31 = true) (hw : w < 8) :
    rd (loc .SC_NODE_REC 0 w) (nodeCapture d s) = u (nodeRec (nodeCode (bits d 29 28) (bits d 14 0)) s) (4 * w) 4 ∧
      rd (loc .SC_NODE_LVL_C) (nodeCapture d s) = levelShown (nodeCode (bits d 29 28) (bits d 14 0)) s := by
  obtain ⟨v, heq⟩ := nodeCapture_eq (s := s) h
  obtain ⟨hne, hrec⟩ := nodeLvl_ne
  obtain ⟨hc, hp⟩ := hrec w hw
  rw [heq, rd_wr_other _ _ _ _ hp, rd_wr_other _ _ _ _ hc, rd_wr_other _ _ _ _ hne, rd_wr_same]
  refine ⟨?_, Nat.mod_eq_of_lt (levelShown_lt ..)⟩
  exact (rd_forEach_wr (f := fun w => loc .SC_NODE_REC 0 w) nodeRec_loc_inj _ List.nodup_range
    (List.mem_range.mpr hw)).trans (Nat.mod_eq_of_lt (u_lt _ _ 4))

/-- Settles O30, clause by clause. -/
theorem schedulerSteps : Obligations.SchedulerSteps := by
  refine ⟨?_, ?_, ?_, ?_, ?_, ?_, ?_, ?_, ?_⟩
  · rintro p _ s hp hsel rfl
    exact (exec_schedulerSelection s hp).trans (congrArg (fun t => Host.Outcome.next (settle t)) (selectOne_selects hsel))
  · intro p s hp hsel
    exact (exec_schedulerSelection s hp).trans (congrArg (fun t => Host.Outcome.next (settle t))
      (if_neg (by rw [hsel]; decide)))
  · intro p c r i s hhead
    exact ⟨_, commitSel_sels hhead, rfl, rfl, rfl, rfl⟩
  · intro level n s hl hn hrec
    have h := settle_refilled (refillNode_refilled hrec)
    refine ⟨_, exec_bucketRefill s hl hn, h.nodes, h.fifo, h.next, fun hc => ?_, fun hp => ?_⟩
    · rw [h.commit hc, h.force]
      exact refilled_le_burst ..
    · rw [h.peak hp, h.force]
      exact refilled_le_burst ..
  · intro level n s hl hn hrec hnext hcen
    have h := settle_refilled (refillNode_refilled hrec)
    have hsame : refilledRec (nodeCode level n) s = inForce (nodeCode level n) s := if_pos hnext
    have hfull : recCen (inForce (nodeCode level n) s) = true := (Bool.and_eq_true_iff.mp hcen).1
    refine ⟨_, exec_bucketRefill s hl hn, (h.commit ((cenOf_congr (h.force.trans hsame)).trans hcen)).trans ?_⟩
    rw [refilled_enabled _ _ _ hfull, hsame]
  · intro level n s hl hn hrec hnext hpen
    have h := settle_refilled (refillNode_refilled hrec)
    have hsame : refilledRec (nodeCode level n) s = inForce (nodeCode level n) s := if_pos hnext
    refine ⟨_, exec_bucketRefill s hl hn, (h.peak ((penOf_congr (h.force.trans hsame)).trans hpen)).trans ?_⟩
    rw [refilled_enabled _ _ _ (show recPen (inForce (nodeCode level n) s) = true from hpen), hsame]
  · intro p a pr k c s hp hpending
    have hmod : p % 64 = p := Nat.mod_eq_of_lt hp
    refine ⟨?_, ?_, ?_⟩
    · exact (congrArg (fun q => Host.Outcome.next (settle (gateActivate q s))) hmod).trans
        (congrArg (fun t => Host.Outcome.next (settle t)) (gateActivate_pending hpending))
    · rw [getSp_putActive]
    · rw [getSp_putActive]
  · intro m d s hd
    exact writes_of_ctlWrite rfl (congrArg some (nodeCapture_plain hd))
  · intro m d w s hd hw hwrite
    exact ⟨_, writes_of_ctlWrite (s := s) rfl rfl hwrite, nodeCapture_shows hd hw⟩

end Sys2Proof.Machine
end

section
/-!
PROOFS. Frames at the transmit MAC: start, refusal, continuation, end, underrun and preemption (O21).
-/

namespace Sys2Proof.Machine

/-! ## The MAC's state and MP_TX_STATE -/

theorem showTx_dp (p : Nat) (s : State) : (showTx p s).dp = s.dp := by
  unfold showTx
  exact (fs_dp ..).trans (fs_dp ..)

theorem getTx_showTx (p : Nat) (s : State) : getTx p (showTx p s) = getTx p s := getTx_congr p (showTx_dp ..)

theorem showTx_fields (p : Nat) (s : State) :
    fb (loc .MP_TX_STATE p) F.MP_TX_STATE_IN_FRAME (showTx p s) = (getTx p s).cur.isSome ∧
      fb (loc .MP_TX_STATE p) F.MP_TX_STATE_OPEN (showTx p s) = (getTx p s).opened.isSome := by
  unfold showTx
  refine ⟨(fb_fs_beside _ _ (by decide) (by decide) (.inr (by decide))).trans ?_, ?_⟩
  · exact fb_fs_bool _ _ _ (by decide) (by decide)
  · exact fb_fs_bool _ _ _ (by decide) (by decide)

/-! ## Starts (R365, R369, R374, R381) -/

/-- The frame that a start puts on the line. -/
def begun (p : Nat) (x : Sel) (f : Frame) (s : State) : TxCur :=
  { frame := f.id, pre := preemptable p x.cls s, smd := (getTx p s).nextSmd, sent := 0, frags := 0, ts := txStamp p s
    began := s.tb.refill }

theorem beginTx_shows (p : Nat) (x : Sel) (f : Frame) (s : State) :
    (getTx p (beginTx p x f s)).cur = some (begun p x f s) ∧
      fb (loc .MP_TX_STATE p) F.MP_TX_STATE_IN_FRAME (beginTx p x f s) = true := by
  obtain ⟨v, t, heq, hdp, hv⟩ : ∃ v t, beginTx p x f s = showTx p t ∧ t.dp = (setTx p v s).dp ∧
      v.cur = some (begun p x f s) := by
    unfold beginTx
    dsimp only
    split
    · exact ⟨_, _, rfl, (wr_dp ..).trans (bump_dp ..), rfl⟩
    · exact ⟨_, _, rfl, rfl, rfl⟩
  have hcur : (getTx p t).cur = some (begun p x f s) := by
    rw [getTx_congr p hdp, getTx_setTx_same, hv]
  rw [heq]
  exact ⟨by rw [getTx_showTx, hcur], (showTx_fields p t).1.trans (by rw [hcur]; rfl)⟩

section
variable {p : Nat} {s : State} (hcur : (getTx p s).cur = none) (hisl : islRun (portIsland p) s = true)
include hcur hisl

/-- A MAC between frames looks for the next selection where no open frame waits with its link down. -/
theorem macStart_eq (hlink : (getTx p s).opened = none ∨ txLinkUp p s = true) :
    ¬ ((getTx p s).cur.isSome || !islRun (portIsland p) s) = true ∧
      ¬ ((getTx p s).opened.isSome && !txLinkUp p s) = true := by
  rw [hcur, hisl]
  rcases hlink with h | h <;> rw [h] <;> simp

section
variable {x : Sel} {f : Frame} (hlink : (getTx p s).opened = none ∨ txLinkUp p s = true) (hstops : duStops s = false)
  (hnext : nextSel p s = some x) (hready : x.ready = true) (hf : getF x.frame s = some f)
include hlink hstops hnext hready hf

theorem macStart_starts (hpass : refusal f s = 0) (hdata : startable (entryOf f s) f s = true)
    (hfit : gateFit p x.cls (lenL (entryOf f s) f) s.tb.time (preemptable p x.cls s) s = true) :
    macStart p s = beginTx p x f s := by
  obtain ⟨hidle, hopen⟩ := macStart_eq hcur hisl hlink
  unfold macStart
  rw [if_neg hidle, if_neg hopen]
  simp only [hstops, Bool.false_eq_true, if_false, hnext, hf, hready, Bool.true_eq_false, hpass, hdata, hfit, Bool.and_self,
    if_true, ne_eq, not_true_eq_false]

theorem macStart_refuses (hrefused : refusal f s ≠ 0) : macStart p s = refuseTx f (refusal f s) s := by
  obtain ⟨hidle, hopen⟩ := macStart_eq hcur hisl hlink
  unfold macStart
  rw [if_neg hidle, if_neg hopen]
  simp only [hstops, Bool.false_eq_true, if_false, hnext, hf, hready, Bool.true_eq_false, if_pos hrefused]

end

/-- With nothing selected the frame preempted goes on. -/
theorem macStart_resumes {c : TxCur} (hopen : (getTx p s).opened = some c) (hlink : txLinkUp p s = true)
    (hnext : nextSel p s = none) (hcont : continuable p c s = true) : macStart p s =
      showTx p (setTx p { getTx p s with cur := some { c with began := s.tb.refill }, opened := none } s) := by
  obtain ⟨hidle, hwaits⟩ := macStart_eq hcur hisl (.inr hlink)
  unfold macStart
  rw [if_neg hidle, if_neg hwaits]
  simp only [hnext, ite_self, hopen, hcont, if_true]

end

/-! ## Ends and underruns (R372, R384) -/

/-- The mPacket's bytes up to offset `d` on the line, counted. -/
def fragmentSent (p d : Nat) (c : TxCur) (f : Frame) (s : State) : State :=
  countAbove p (d - c.sent) (bump (cPort p 57) (lineOut p (.fragment c.smd ((c.frags - 1) % 4) (c.sent == 0))
    (((presentBytes (entryOf f s) f c.ts).take d).drop c.sent) s))

section
variable {p : Nat} {c : TxCur} {f : Frame} {s : State} (hcur : (getTx p s).cur = some c) (hf : getF c.frame s = some f)
include hcur hf

theorem txFrameEnd_ends (hended : f.ended = true) : txFrameEnd p s = endTx f St.ok (some c.ts) (idleTx p
    (doIf (tsMode (entryOf f s) == 2) (bump (cPort p 59)) (countAbove p ((sentBytes (entryOf f s) f c.ts).length - c.sent)
      (rateAdd p true (sentBytes (entryOf f s) f c.ts).length (bumpBy (cPort p 42) (sentBytes (entryOf f s) f c.ts).length
        (bump (cPort p 41) (lineOut p
          (if c.pre = false then .frame else if c.frags = 0 then .preemptable c.smd else .last c.smd ((c.frags - 1) % 4))
          ((sentBytes (entryOf f s) f c.ts).drop c.sent) s))))))) := by
  unfold txFrameEnd
  simp only [hcur, hf, hended, Bool.true_eq_false, if_false, doIf, beq_iff_eq]

theorem txUnderrun_cuts (hended : f.ended = false) : txUnderrun p s = cutTx p stTxUnderrun
    (bump (cPort p 43) (setFlag (loc .MP_TX_EVENT p) F.MP_TX_EVENT_UNDERRUN s)) := by
  have hread : ¬ stTxUnderrun = St.hostReadError := by decide
  unfold txUnderrun
  simp only [hcur, hf, hended, Bool.false_eq_true, if_false, underrun, if_neg hread]

/-! ## Preemption (R382) -/

/-- The mPacket that ends leaves the line to what is due, its frame open. -/
theorem preempt_opens {d : Nat} (hpre : c.pre = true) (hd : d ≤ (presentBytes (entryOf f s) f c.ts).length)
    (hat : preemptAt p d (if f.fwd && !f.ended then (presentBytes (entryOf f s) f c.ts).length + 4
      else sentLen (entryOf f s) f) c f s = true) :
    ∃ t v, preempt p d s = flushMm p (showTx p (setTx p v t)) ∧ v.cur = none ∧
      v.opened = some { c with sent := d, frags := c.frags + 1 } := by
  have hgo : (c.pre && decide (d ≤ (presentBytes (entryOf f s) f c.ts).length) &&
      preemptAt p d (if f.fwd && !f.ended then (presentBytes (entryOf f s) f c.ts).length + 4
        else sentLen (entryOf f s) f) c f s) = true := by
    rw [hpre, decide_eq_true hd, hat]
    rfl
  refine ⟨fragmentSent p d c f s, { getTx p (fragmentSent p d c f s) with
    cur := none, opened := some { c with sent := d, frags := c.frags + 1 } }, ?_, rfl, rfl⟩
  unfold preempt
  simp only [hcur, hf]
  exact if_pos hgo

end

/-- What is due between frames leaves the frames of the MAC, and MP_TX_STATE. -/
theorem flushMm_keeps (p : Nat) (s : State) : (getTx p (flushMm p s)).cur = (getTx p s).cur ∧
    (getTx p (flushMm p s)).opened = (getTx p s).opened ∧
    rd (loc .MP_TX_STATE p) (flushMm p s) = rd (loc .MP_TX_STATE p) s := by
  have hcount (t : State) : rd (loc .MP_TX_STATE p) (bump (cPort p 58) t) = rd (loc .MP_TX_STATE p) t :=
    rd_bump_other _ _ (loc_ne_of_off (by decide) p 0) (loc_ne_of_off (by decide) p 0)
  have hset (v : TxPort) (t : State) : rd (loc .MP_TX_STATE p) (setTx p v t) = rd (loc .MP_TX_STATE p) t := rfl
  have hline (k : LineKind) (t : State) : rd (loc .MP_TX_STATE p) (lineOut p k [] t) = rd (loc .MP_TX_STATE p) t := rfl
  unfold flushMm
  dsimp only
  split
  · exact ⟨rfl, rfl, rfl⟩
  split
  · simp only [getTx_setTx_same, hset, and_self]
  · refine ⟨by rw [getTx_setTx_same], by rw [getTx_setTx_same], (hset ..).trans ?_⟩
    split <;> split <;> simp only [hline, hcount]

theorem mpacketPreempt_shows {p : Nat} {v : TxPort} {t : State} {c : TxCur} (hcur : v.cur = none)
    (hopen : v.opened = some c) :
    (getTx p (settle (flushMm p (showTx p (setTx p v t))))).cur = none ∧
      (getTx p (settle (flushMm p (showTx p (setTx p v t))))).opened = some c ∧
      fb (loc .MP_TX_STATE p) F.MP_TX_STATE_OPEN (settle (flushMm p (showTx p (setTx p v t)))) = true := by
  obtain ⟨hkeptCur, hkeptOpen, hkeptReg⟩ := flushMm_keeps p (showTx p (setTx p v t))
  have hport : getTx p (showTx p (setTx p v t)) = v := (getTx_showTx ..).trans (getTx_setTx_same ..)
  rw [getTx_congr p (settle_settling _).dp, hkeptCur, hkeptOpen, hport,
    fb_congr _ ((rd_settle (txState_settles p) _).trans hkeptReg), (showTx_fields ..).2, getTx_setTx_same, hopen]
  exact ⟨hcur, rfl, rfl⟩

theorem firstPoint_valid {p d n : Nat} {c : TxCur} {s : State} (h : firstPoint p d c n s = true) :
    validPoint p d c n s = true := by
  simp only [firstPoint, Bool.and_eq_true] at h
  obtain ⟨⟨hvalid, -⟩, -⟩ := h
  exact hvalid

/-- The point of a window's end is a valid one, and outside a window the first (R382). -/
theorem windowPoint_valid {p k d n : Nat} {c : TxCur} {s : State} (h : windowPoint p k d c n s = true) :
    validPoint p d c n s = true := by
  unfold windowPoint at h
  dsimp only at h
  split at h
  · exact firstPoint_valid h
  · split at h
    · cases h
    · simp only [Bool.and_eq_true] at h
      obtain ⟨⟨⟨-, hvalid⟩, -⟩, -⟩ := h
      exact hvalid

theorem preemptAt_valid {p d n : Nat} {c : TxCur} {f : Frame} {s : State} (h : preemptAt p d n c f s = true) :
    validPoint p d c n s = true := by
  simp only [preemptAt, Bool.or_eq_true, Bool.and_eq_true] at h
  rcases h with ⟨-, h⟩ | h
  · exact firstPoint_valid h
  · exact windowPoint_valid h

/-- Settles O21, command by command. -/
theorem transmittedFrames : Obligations.TransmittedFrames := by
  refine ⟨?_, ?_, ?_, ?_, ?_, ?_, fun p d n c f s => preemptAt_valid⟩
  · intro p x f s hp hcur hlink hstops hisl hnext hready hf hpass hdata hfit
    obtain ⟨hport, hshown⟩ := beginTx_shows p x f s
    refine ⟨_, begun p x f s,
      done_port (f := macStart) hp (macStart_starts hcur hisl hlink hstops hnext hready hf hpass hdata hfit), ?_, rfl, rfl, rfl,
      (fb_congr _ (rd_settle (txState_settles p) _)).trans hshown⟩
    rw [getTx_congr p (settle_settling _).dp, hport]
  · intro p x f s hp hcur hlink hstops hisl hnext hready hf hrefused
    exact done_port (f := macStart) hp (macStart_refuses hcur hisl hlink hstops hnext hready hf hrefused)
  · intro p c s hp hcur hopen hlink hisl hnext hcont
    exact done_port (f := macStart) hp (macStart_resumes hcur hisl hopen hlink hnext hcont)
  · rintro p c f _ s hp hcur hf hended rfl
    exact done_port (f := txFrameEnd) hp (txFrameEnd_ends hcur hf hended)
  · intro p c f s hp hcur hf hended
    exact done_port (f := txUnderrun) hp (txUnderrun_cuts hcur hf hended)
  · intro p d c f s hp hcur hf hpre hd hat
    obtain ⟨t, v, heq, hvcur, hvopen⟩ := preempt_opens hcur hf hpre hd hat
    exact ⟨_, done_port (f := fun q => preempt q d) hp heq, mpacketPreempt_shows hvcur hvopen⟩

end Sys2Proof.Machine
end
